-- ==== Sys2Proof/Word.lean ====
section
/-! DEFINITION. The word types of the device: 32-bit register words (R8) and bytes. -/

namespace Sys2Proof

/-- A register word (R8: registers are 32 bits wide). -/
abbrev Word := BitVec 32

/-- One byte of a packet, a frame or a memory. -/
abbrev Byte := BitVec 8

/-- A block of a VSL lane (R45): 66 bits, of which bit 65 is sent first. The sync header is bits 65 and 64, its left bit first; the
payload follows, byte 0 first, each byte MSB first. -/
abbrev Block := BitVec 66

end Sys2Proof
end

