-- ==== Sys2Proof/Syntax.lean ====
section
/-! DEFINITION. The commands and events that the block takes, one constructor per row of the opcode table. Each event of the
outside world, of a timer or of a write to a register is one constructor; its operands are what arrives with it. -/

namespace Sys2Proof

/-- The access paths of the register fabric (R558). -/
inductive Path where
  | debug | spi | mailbox | mge | fxt | smbus | dma
  deriving DecidableEq, Repr

/-- Receiver equalisation codes as the adaptation leaves them (R64, R80). -/
structure RxEq where
  ctle : Fin 32
  dfe1 : Fin 32
  dfe2 : Fin 32
  dfe3 : Fin 32
  dfe4 : Fin 32
  dfe5 : Fin 32
  deriving DecidableEq, Repr

/-- A lane event that leaves the lane without block lock: the lane, and whether its receiver still sees signal energy (R54, R75). -/
structure Sensed where
  lane : Fin 192
  energy : Bool
  deriving DecidableEq, Repr

/-- A FILLER block as the elastic buffer takes it: the block and the buffer's fill (R66). -/
structure Filler where
  block : Block
  fill : Fin 65
  deriving DecidableEq, Repr

/-- What a read of device memory meets (R350): nothing, a corrected error, or an uncorrectable one, at its first address. -/
inductive MemErr where
  | none | corrected | uncorrectable
  deriving DecidableEq, Repr

/-- A DMA access that is not answered (R421): whether the block was being written, and the register words of it before the one that
hangs. -/
structure DmaHang where
  write : Bool
  word : Fin 16
  deriving DecidableEq, Repr

/-- A user of the Stipple engine (R406): job port J0 to J3, or the pipeline requester. -/
inductive StpUser where
  | job (j : Fin 4)
  | pipeline
  deriving DecidableEq, Repr

/-- What a PTP message carries beside its body (R330): its domain, the transport that brings it (0 L2, 1 UDP over IPv4, 2 UDP over IPv6), and
the clock identity of its sender. -/
structure PtpHdr where
  domain : Byte
  via : Fin 3
  source : BitVec 64
  deriving DecidableEq, Repr

/-- An Ethernet frame at a sub-port (R323): its bytes without the FCS, and whether the FCS is bad. -/
structure RxFrame where
  bytes : List Byte
  bad : Bool
  deriving DecidableEq, Repr

/-- PTP messages that the slave-only clock processes (R330): an Announce with its grandmaster's clock identity and whether the best
master clock algorithm selects that master, a Sync (one-step or two-step) with its sequence number, origin time in ns and
correctionField in ns, a Follow_Up, and a Delay_Resp with the receive time in ns. -/
inductive PtpMsg where
  | announce (gm : BitVec 64) (best : Bool)
  | sync (seq : BitVec 16) (twoStep : Bool) (origin : BitVec 64) (corr : Int)
  | followUp (seq : BitVec 16) (origin : BitVec 64) (corr : Int)
  | delayResp (seq : BitVec 16) (recv : BitVec 64) (corr : Int)
  deriving DecidableEq, Repr

/-- The commands and events of the block. -/

inductive Instr where
  /-- CLOCK_MONITOR_CHECK (R22): Every 100 µs the frequency monitor checks CLK_CORE, CLK_MEM, CLK_UP and CLK_MGMT against CLK_AON. -/
  | clockMonitorCheck (coreBad memBad upBad mgmtBad : Bool)
  /-- SNAPSHOT_REQ (R39): A write of 1 to GLB_SNAPSHOT.REQ requests a snapshot of every statistics counter. -/
  | snapshotReq
  /-- SNAPSHOT_PERIOD_EXPIRY (R40): The GLB_SNAP_CTRL.PERIOD interval expires and takes an automatic snapshot unless HOLD is 1. -/
  | snapshotPeriodExpiry
  /-- SNAPSHOT_COMPLETE (R39): The copies become readable, BUSY clears, SEQ increments and VALID is set. -/
  | snapshotComplete
  /-- BLOCK_LOCK_ACQUIRED (R53): A lane receiver finds 64 consecutive valid sync headers and acquires block lock, taking the port from LOCKING to TRAINING. -/
  | blockLockAcquired (n : Fin 192)
  /-- BLOCK_LOCK_LOST (R53): A lane loses block lock after 16 invalid headers in 64 blocks, and the port changes state under R63. -/
  | blockLockLost (n : Sensed)
  /-- LOCK_TIMER_EXPIRY (R61): A port without block lock 50 ms into its attempt enters ABSENT and raises its lock event. -/
  | lockTimerExpiry (n : Sensed)
  /-- TRAIN_BUDGET_EXPIRY (R60): An attempt that has not reached UP within 500 ms of first entering TRAINING is judged at the expiry. -/
  | trainBudgetExpiry (n : Fin 192)
  /-- ADAPTATION_END (R56): The 2 ms receiver adaptation after block lock ends and training measures the first window. -/
  | adaptationEnd (n : Fin 192) (eq : RxEq)
  /-- MEASURE_WINDOW_END (R56): A 671.09 µs measurement window ends and the training search judges convergence and picks its next move. -/
  | measureWindowEnd (n : Fin 192) (badHeaders pseudoErrors height width : Nat) (eq : RxEq)
  /-- SETTLE_EXPIRY (R56): The SETTLE time after a tap change expires and the device starts the next measurement. -/
  | settleExpiry (n : Fin 192)
  /-- TAPREQ_TIMEOUT (R58): A tap request unanswered for 2 ms is resent with the same SEQ and VSP_TAP_TMO increments. -/
  | tapreqTimeout (n : Fin 192)
  /-- LINKUP_TIMEOUT (R59): UP not reached within 1 ms of the first LINK_UP restarts training. -/
  | linkupTimeout (n : Fin 192)
  /-- PORT_UP (R59): After 64 consecutive non-TRAIN blocks, with the gang aligned, the port enters UP and starts Chalk sync and triggers. -/
  | portUp (n : Fin 192)
  /-- RETRY_TIMER_EXPIRY (R61): The retry time of an ABSENT, TRAIN_FAIL or lane-taped port expires and a new attempt starts in LOCKING. -/
  | retryTimerExpiry (n : Fin 192)
  /-- LANE_RETRAIN (R74): A write of VSP_LANE_CTRL.RETRAIN in UP sends RETRAIN for 100 µs and returns the port to TRAINING. -/
  | laneRetrain (n : Fin 192)
  /-- LANE_RETRY (R74): A write of VSP_LANE_CTRL.RETRY in ABSENT or TRAIN_FAIL starts an attempt at once with k = 0. -/
  | laneRetry (n : Fin 192)
  /-- RETRAIN_BURST_END (R55): The 100 µs of RETRAIN blocks on the back channel ends. -/
  | retrainBurstEnd (n : Fin 192)
  /-- FILLER_RECEIVED (R66): An upstream FILLER block reaches the elastic buffer, which may delete or insert a FILLER, before the port discards it. -/
  | fillerReceived (n : Fin 192) (fill : Filler)
  /-- TRAIN_RECEIVED (R49): A TRAIN block arrives carrying a page and the tap-response fields. -/
  | trainReceived (n : Fin 192) (block : Block) (fill : Fin 65)
  /-- ALIGN_RECEIVED (R69): A gang ALIGN marker arrives on a lane with its MARKER count and BIP8; `missed` when none came where
  one was due (R70). -/
  | alignReceived (n : Fin 192) (block : Block) (missed : Bool) (skew : Nat)
  /-- RESERVED_BLOCK_RECEIVED (R48): A reserved control block type is counted in VSP_BLK_ERR, discarded, and marks any packet in progress bad. -/
  | reservedBlockReceived (n : Fin 192) (block : Block)
  /-- LINE_HEADER_RECEIVED (R89): The 32-byte header of a line packet is complete and passes checks 1 to 9, or is dropped at the first failing check. -/
  | lineHeaderReceived (n : Fin 192) (blocks : List (Fin 4 × Block))
  /-- LINE_PAYLOAD_END (R89): A line packet ends and check 10 gives the CRC-32C verdict, which Seam uses to mark the contribution valid. -/
  | linePayloadEnd (n : Fin 192) (rest : List (Fin 4 × Block)) (last : Fin 4 × Block)
  /-- TRIGGER_ENTRY_EXPIRY (R91): A trigger entry reaches its deadline and each unanswered stream counts in VSP_TRIG_TMO and raises the timeout event. -/
  | triggerEntryExpiry (n : Fin 192)
  /-- CHALK_STEP (R95): A write of CHK_CTRL.STEP loads CHK_SET into Chalk time unless a trigger generator is enabled. -/
  | chalkStep
  /-- ADJ_PHASE_WRITE (R94): A write of CHK_ADJ_PHASE adds ns to the phase still to be slewed. -/
  | adjPhaseWrite (v : Word)
  /-- SLEW_COMPLETE (R94): The remaining phase reaches 0 and SLEWING clears. -/
  | slewComplete
  /-- TG_ENABLE (R98): CHK_TG_CTRL.EN becoming 1 starts a group's trigger generator, skipping lines already too close. -/
  | tgEnable (g : Fin 24)
  /-- TG_DISABLE (R219): CHK_TG_CTRL.EN becoming 0 stops opening rows while triggered rows are still emitted. -/
  | tgDisable (g : Fin 24)
  /-- TG_CONFIG_WRITE (R129): A write to a trigger-generator RW register while EN = 1 is ignored and sets CHK_TG_STAT.WERR. -/
  | tgConfigWrite (g : Fin 24) (off : Fin 16) (v : Word)
  /-- TRIGGER_SEND (R98): At T(n) − LEAD the generator sends the TRIGGER for line n to every member port in UP. -/
  | triggerSend (g : Fin 24)
  /-- BC_MESSAGE_SENT (R103): A back-channel message completes and the port picks the highest-priority pending message. -/
  | bcMessageSent (n : Fin 192)
  /-- BAD_MESSAGE_RECEIVED (R101): A message broken in USEQ, framing, length or CRC, or of a reserved type, is discarded and counted in VSP_MSG_ERR. -/
  | badMessageReceived (n : Fin 192) (units : List Block)
  /-- SYNC_EXCHANGE_TIMER (R104): The sync interval expires and the port sends a SYNC_REQ stamped T1. -/
  | syncExchangeTimer (n : Fin 192)
  /-- SYNC_RSP_RECEIVED (R105): A SYNC_RSP completes an exchange, which is judged against the DELAY history and may change SYNCED. -/
  | syncRspReceived (n : Fin 192) (seq : Byte) (t2 t3 : BitVec 64)
  /-- SYNC_TIMEOUT (R105): A SYNC_RSP not received within 100 µs of T1 counts in VSP_SYNC_TMO; the eighth in a row raises the timeout event. -/
  | syncTimeout (n : Fin 192)
  /-- HEAD_CMD_GO (R106): A write of VSP_CMD_CTRL.GO sends a HEAD_CMD or is refused. -/
  | headCmdGo (n : Fin 192)
  /-- HEAD_RSP_RECEIVED (R106): A HEAD_RSP with the outstanding TAG ends the command DONE and fills VSP_RSP_BUF. -/
  | headRspReceived (n : Fin 192) (tag : BitVec 16) (data : List Byte)
  /-- HEAD_CMD_TIMEOUT (R106): No response within VSP_CMD_CFG.TMO ends the command with STATUS TIMEOUT. -/
  | headCmdTimeout (n : Fin 192)
  /-- HEAD_EVT_RECEIVED (R107): A HEAD_EVT message arrives and, with EVT_EN = 1, posts a Hawk item. -/
  | headEvtReceived (n : Fin 192) (data : List Byte)
  /-- CHAL_START (R108): A write of VSP_CHAL_CTRL.START, or entry to UP with AUTO, starts an identity challenge. -/
  | chalStart (n : Fin 192)
  /-- CHAL_RSP_RECEIVED (R108): A CHAL_RSP gives PASS or FAIL by comparing its MAC. -/
  | chalRspReceived (n : Fin 192) (mac : List Byte)
  /-- CHAL_TIMEOUT (R108): No challenge answer within 50 ms gives TIMEOUT and raises the range event. -/
  | chalTimeout (n : Fin 192)
  /-- CHAL_KEY_WRITE (R109): A write of VSP_CHAL_KEYi loads challenge key bytes if the access path may write key material. -/
  | chalKeyWrite (n : Fin 192) (k : Fin 8) (v : Word) (path : Path)
  /-- RENDER_LINE_DONE (R146): Render delivers the last corrected sample of an output line to Seam with its line number, validity and EPOCH. -/
  | renderLineDone (n : Fin 192)
  /-- BANK_SWAP_ARM (R151): A write of RND_BANK_CTRL.SWAP starts validation of the shadow bank, or is refused with WERR. -/
  | bankSwapArm (n : Fin 192)
  /-- BANK_VALIDATION_DONE (R151): Validation ends and sets ARMED or reports TBL_ERR. -/
  | bankValidationDone (n : Fin 192)
  /-- BANK_DISARM (R151): A write of RND_BANK_CTRL.DISARM clears an armed, unscheduled swap. -/
  | bankDisarm (n : Fin 192)
  /-- COPY_BACK_DONE (R153): Copy-back ends, SCHEDULED and COPYING clear and the shadow half becomes writable. -/
  | copyBackDone (n : Fin 192)
  /-- TABLE_WINDOW_WRITE (R154): A write into a Render table window reaches the shadow bank, or is ignored with WERR. -/
  | tableWindowWrite (n : Fin 192) (off : Fin 65536) (v : Word)
  /-- SKIM_MASK_ARRIVAL (R176): The background mask of the held line's row arrives and the port accumulates eligible samples or discards the line. -/
  | skimMaskArrival (n : Fin 192)
  /-- SKIM_MASK_TIMEOUT (R175): A held line without its mask 1 ms after step 6 is discarded and RND_SKIM_MASK_TMO increments. -/
  | skimMaskTimeout (n : Fin 192)
  /-- SKIM_SLICE_END (R178): A slice's rows end and Skim updates each gain entry of the slice in the shadow bank. -/
  | skimSliceEnd (n : Fin 192)
  /-- SKIM_SCHEDULE_INSTANT (R172): At S(k+1) Skim schedules a swap on every member at once. -/
  | skimScheduleInstant (g : Fin 24)
  /-- SKIM_EPOCH_BOUNDARY (R169): Row R(k+1) puts epoch k + 1 in force and updates member states. -/
  | skimEpochBoundary (g : Fin 24)
  /-- CKPT_INTERVAL_EXPIRY (R184): BOT_CKPT_CTRL.INTERVAL seconds elapse and a Skim checkpoint to MRAM starts. -/
  | ckptIntervalExpiry
  /-- CKPT_NOW (R184): A write of BOT_CKPT_CTRL.NOW starts a checkpoint, or sets MERGED while BUSY. -/
  | ckptNow
  /-- CKPT_COMPLETE (R184): A checkpoint ends after writing its slot header, with RESULT OK or FAIL_WRITE. -/
  | ckptComplete (fail : Bool)
  /-- ROW_DEADLINE (R211): DL(L) arrives, unsettled members become missing with cause DEADLINE and the row becomes ready. -/
  | rowDeadline (g : Fin 24)
  /-- SEAM_ROW_EMIT (R212): A ready row whose earlier rows are emitted leaves Seam to Stencil with its attributes. -/
  | seamRowEmit (g : Fin 24)
  /-- STENCIL_ROW (R229): Stencil classifies, labels and closes objects for one emitted row. -/
  | stencilRow (g : Fin 24)
  /-- PLUMB_RECORD (R252): A tracker takes an object record, tracks it and passes it to the uplink scheduler. -/
  | plumbRecord (q : Fin 36)
  /-- LATH_LOAD_GO (R292): A write of GLB_LATH_CTRL.GO starts a Lath load in FETCH, or is refused. -/
  | lathLoadGo (groups : Bool)
  /-- LATH_FETCH_DONE (R292): The image has been read and the load enters VERIFY. -/
  | lathFetchDone (readFail : Bool)
  /-- LATH_VERIFY_DONE (R292): Signatures verify and the body decrypts, and the load enters CHECK. -/
  | lathVerifyDone
  /-- LATH_CHECK_DONE (R290): Every check passes, the affected generators are disabled and the load enters DRAIN. -/
  | lathCheckDone
  /-- LATH_DRAIN_DONE (R293): The affected groups' last open rows are emitted and objects closed, and the load enters APPLY. -/
  | lathDrainDone
  /-- LATH_APPLY_DONE (R293): APPLY has written registers, tables and lane states and the load ends DONE. -/
  | lathApplyDone
  /-- LATH_ADDR_WRITE (R306): A write of GLB_LATH_ADDR or GLB_LATH_LEN during FETCH is ignored and sets REFUSED. -/
  | lathAddrWrite (which : Fin 3) (v : Word)
  /-- COMMIT_REQUEST (R297): A write of GLB_COMMIT captures the shadow values of the masked groups into pending sets, or is refused. -/
  | commitRequest (v : Word)
  /-- UPLINK_TRAINING_DONE (R309): Link training completes on every lane and the sub-port enters ALIGNING. -/
  | uplinkTrainingDone (x : Fin 8)
  /-- UPLINK_ALIGNED (R309): Alignment markers and FEC lock on every lane bring the sub-port UP. -/
  | uplinkAligned (x : Fin 8)
  /-- UPLINK_BRINGUP_TIMEOUT (R309): 500 ms in TRAINING or ALIGNING without UP sends the sub-port to FAILED. -/
  | uplinkBringupTimeout (x : Fin 8)
  /-- UPLINK_RETRY_EXPIRY (R309): The 1 s retry timer of a FAILED sub-port expires and it returns to TRAINING. -/
  | uplinkRetryExpiry (x : Fin 8)
  /-- UPLINK_LANE_LOSS (R310): A lane without alignment-marker lock for HOLD is taped off and its sub-port falls back or fails. -/
  | uplinkLaneLoss (u : Fin 8)
  /-- UPLINK_RESTORE (R312): A write of UPL_CTRL.RESTORE takes a sub-port out of fall-back when all its lanes are clean. -/
  | uplinkRestore
  /-- FRAME_WAIT_ACCEPT (R324): A waiting REPLAY or MGMT_RSP frame is accepted when its class has room. -/
  | frameWaitAccept (x : Fin 8) (c : Fin 8)
  /-- FRAME_TX_COMPLETE (R326): A frame finishes on a sub-port and the scheduler chooses the next frame to start. -/
  | frameTxComplete (x : Fin 8)
  /-- DEADLINE_DROP (R326): A class head that can no longer meet its deadline is dropped and counted in UPL_CLASS_LATE. -/
  | deadlineDrop (x : Fin 8) (c : Fin 8)
  /-- OBJECT_FRAME_CLOSE_TIMEOUT (R317): No record for 16 cycles closes an open OBJECT frame. -/
  | objectFrameCloseTimeout (x : Fin 8) (c : Fin 8) (event : Bool)
  /-- MGMT_REQ_RECEIVED (R321): An in-band MGMT_REQ frame is checked and its operations are performed in order. -/
  | mgmtReqReceived (x : Fin 8) (frame : List Byte)
  /-- RX_FRAME_DISCARD (R323): A received frame not taken by the device is discarded and counted. -/
  | rxFrameDiscard (x : Fin 8) (frame : RxFrame)
  /-- PFC_RECEIVED (R329): An 802.1Qbb PFC frame pauses or resumes the classes of its priorities. -/
  | pfcReceived (x : Fin 8) (enable : Byte) (quanta : List (BitVec 16))
  /-- PAUSE_FRAME_RECEIVED (R329): An 802.3 PAUSE frame pauses every class with PAUSE_EN = 1, or is discarded. -/
  | pauseFrameReceived (x : Fin 8) (quanta : BitVec 16)
  /-- PAUSE_EXPIRY (R329): A pause's quanta elapse and the paused classes become eligible again. -/
  | pauseExpiry (x : Fin 8) (slot : Fin 9)
  /-- PAUSE_MAX_EXCEEDED (R329): A continuous pause longer than PAUSE_MAX raises the flow event once. -/
  | pauseMaxExceeded (x : Fin 8) (slot : Fin 9)
  /-- PTP_MESSAGE_RECEIVED (R330): A PTP message is timestamped and processed by the slave-only clock. -/
  | ptpMessageReceived (x : Fin 8) (hdr : PtpHdr) (m : PtpMsg)
  /-- PTP_HOLDOVER_TIMEOUT (R331): 3 s without Sync puts the servo in HOLDOVER. -/
  | ptpHoldoverTimeout
  /-- TIME_FRAME_TIMER (R322): The PERIOD timer expires and a TIME frame is built on each class carrying TIME. -/
  | timeFrameTimer (x : Fin 8)
  /-- TIME_PERIOD_WRITE (R322): A write of FXT_TIME_CFG.PERIOD restarts the TIME interval, or stops TIME frames. -/
  | timePeriodWrite (v : BitVec 16)
  /-- FEC_WINDOW_END (R332): A 1 ms window ends and uncorrectable codewords above DEG_THR raise FEC degrade. -/
  | fecWindowEnd (u : Fin 8) (corrected uncorrectable symbols : Nat)
  /-- MEM_CHANNEL_TRAINED (R346): A channel finishes training and enters UP, or FAILED and taped off. -/
  | memChannelTrained (m : Fin 8) (cause : Fin 8)
  /-- CE_WINDOW_END (R350): A one-second window ends and correctable errors above CE_THR raise the correctable event. -/
  | ceWindowEnd (m : Fin 8)
  /-- PATROL_SCRUB_READ (R351): The patrol scrub reads a line and corrects it or reports an uncorrectable line. -/
  | patrolScrubRead (addr : BitVec 48) (err : MemErr)
  /-- MEM_ALERT (R371): A DDR5 component reports an error through ALERT_N. -/
  | memAlert (m : Fin 8)
  /-- MEM_TEMP_REPORT (R371): A component reports the doubled refresh rate. -/
  | memTempReport (m : Fin 8) (hot : Bool)
  /-- HISTORY_ITEM (R354): A selected row, tile or object record reaches the history writer's staging. -/
  | historyItem
  /-- HISTORY_ALLOCATE (R356): The writer allocates a record at the head position and writes it. -/
  | historyAllocate
  /-- OBJECT_BATCH_TIMEOUT (R354): 50 µs after its first record an object batch becomes one record. -/
  | objectBatchTimeout (g : Fin 24)
  /-- HISTORY_ITEM_DEADLINE (R359): An item not recorded within 400 µs is skipped with GAP and HST_G_SKIPPED. -/
  | historyItemDeadline (g : Fin 24)
  /-- RING_RESET (R361): A write of HST_CTRL.RESET resets head, RSEQ, index and marks, and ends replays. -/
  | ringReset
  /-- HISTORY_EN_WRITE (R360): A write of HST_CTRL.EN stops or resumes the history writer. -/
  | historyEnWrite (en : Bool)
  /-- MARK_SET_NOW (R362): HST_MARK_CTRL op SET_NOW binds a slot to the next record allocated. -/
  | markSetNow (slot : Fin 8192)
  /-- MARK_SET_TIME (R362): HST_MARK_CTRL op SET_TIME binds a slot to the first intact record at or after HST_MARK_TIME. -/
  | markSetTime (slot : Fin 8192)
  /-- MARK_CLEAR (R362): HST_MARK_CTRL op CLEAR frees a slot and ends its pin. -/
  | markClear (slot : Fin 8192)
  /-- MARK_SELECT (R362): HST_MARK_CTRL op SELECT loads a slot's state into the mark status registers. -/
  | markSelect (slot : Fin 8192)
  /-- MARK_BAD_OP (R362): A reserved HST_MARK_CTRL op gives RESULT BAD_OP. -/
  | markBadOp (op : Fin 3) (slot : Fin 8192)
  /-- REPLAY_GO (R366): A write of HST_RP_CTRL.GO queues a replay request, or is refused when 4 are queued. -/
  | replayGo
  /-- REPLAY_ABORT (R370): A write of HST_RP_CTRL.ABORT ends the replay in progress with ABORTED. -/
  | replayAbort
  /-- REPLAY_WINDOW_START (R367): The engine starts a WINDOW request from the time index. -/
  | replayWindowStart
  /-- REPLAY_MARK_START (R367): The engine starts a MARK request at the mark's record. -/
  | replayMarkStart
  /-- REPLAY_RECORD_READ (R367): The engine reads a whole record, checks it and sends it if selected. -/
  | replayRecordRead (err : MemErr)
  /-- REPLAY_END_TIME (R367): A replay following the writer ends when Chalk time reaches END + LAG. -/
  | replayEndTime
  /-- STP_JOB_GO (R400): A write of STP_JOB_CTRL.GO queues a Stipple job, or is refused. -/
  | stpJobGo (j : Fin 4)
  /-- STP_JOB_ABORT (R403): A write of STP_JOB_CTRL.ABORT ends the port's running job with ABORTED. -/
  | stpJobAbort (j : Fin 4)
  /-- STP_COMPRESS_JOB (R401): A COMPRESS job starts after its refusal checks and codes one block. -/
  | stpCompressJob (j : Fin 4)
  /-- STP_DECOMPRESS_JOB (R401): A DECOMPRESS job starts after its refusal checks and decodes a chain of blocks. -/
  | stpDecompressJob (j : Fin 4)
  /-- STIPPLE_BLOCK_DONE (R405): A lane finishes coding or decoding a block and the job or pipeline requester takes its status. -/
  | stippleBlockDone (u : StpUser) (err : MemErr)
  /-- STP_ACCESS_TIMEOUT (R402): A job memory access not answered within 100 µs ends the job with POISON. -/
  | stpAccessTimeout (j : Fin 4)
  /-- STIPPLE_PARITY_ERROR (R408): A parity error in lane or staging memory ends the block with POISON and raises E1466. -/
  | stippleParityError (u : StpUser)
  /-- DMA_START (R418): A write of DMA_CH_CTRL.START starts a chain from DMA_CH_NEXT, or is refused. -/
  | dmaStart (c : Fin 32)
  /-- DMA_ABORT (R418): A write of DMA_CH_CTRL.ABORT halts a running channel after its current access. -/
  | dmaAbort (c : Fin 32)
  /-- DMA_ACK (R418): A write of DMA_CH_CTRL.ACK returns a halted channel to IDLE. -/
  | dmaAck (c : Fin 32)
  /-- DMA_CONFIG_WRITE (R418): A write to DMA_CH_NEXT or DMA_CH_HOP_LIMIT in RUN is ignored and sets REFUSED. -/
  | dmaConfigWrite (c : Fin 32) (off : Fin 3) (v : Word)
  /-- DMA_DESC_FETCHED (R420): A fetched descriptor is checked before any data access. -/
  | dmaDescFetched (c : Fin 32) (err : MemErr)
  /-- DMA_BLOCK_MOVED (R421): A 64-byte block or register word is read and written. -/
  | dmaBlockMoved (c : Fin 32) (err : MemErr)
  /-- DMA_READBACK_DONE (R422): The read-back after the last write completes the descriptor and the chain continues or ends. -/
  | dmaReadbackDone (c : Fin 32) (err : MemErr)
  /-- DMA_ACCESS_FAIL (R421): A poisoned read, access error or security refusal halts the channel. -/
  | dmaAccessFail (c : Fin 32) (err : MemErr)
  /-- DMA_ACCESS_TIMEOUT (R421): An access not answered within 100 µs halts the channel with TIMEOUT. -/
  | dmaAccessTimeout (c : Fin 32) (hang : DmaHang)
  /-- HAWK_WHDR_WRITE (R432): A write of HWK_Qq_WHDR opens an item in the tail, or is refused. -/
  | hawkWhdrWrite (q : Fin 64) (v : Word)
  /-- HAWK_WDATA_WRITE (R432): A write of HWK_Qq_WDATA adds a word to the open item; the last word completes it. -/
  | hawkWdataWrite (q : Fin 64) (v : Word)
  /-- HAWK_ITEM_MOVE (R430): A complete item moves from tail to head or middle when room is free. -/
  | hawkItemMove (q : Fin 64)
  /-- HAWK_RHDR_READ (R434): A read of HWK_Qq_RHDR makes the first visible item current, or stalls. -/
  | hawkRhdrRead (q : Fin 64) (path : Path)
  /-- HAWK_RHDR_STALL_END (R435): A stalled RHDR read ends when an item becomes visible or RD_TMO passes. -/
  | hawkRhdrStallEnd (q : Fin 64)
  /-- HAWK_RDATA_READ (R434): A read of HWK_Qq_RDATA returns the next word of the current item. -/
  | hawkRdataRead (q : Fin 64) (path : Path) (flips : List (Fin 39))
  /-- HAWK_DROP_CUR (R434): A write of HWK_Qq_CTRL.DROP_CUR discards the current item. -/
  | hawkDropCur (q : Fin 64)
  /-- HAWK_FLUSH (R439): A write of HWK_Qq_CTRL.FLUSH forms or grows the flush set. -/
  | hawkFlush (q : Fin 64)
  /-- HAWK_FLUSH_DONE (R439): Every item of the flush set is complete and the set is discarded. -/
  | hawkFlushDone (q : Fin 64)
  /-- HAWK_FLUSH_ITEM_TIMEOUT (R439): A software item of the flush set not completed within 1 ms is discarded. -/
  | hawkFlushItemTimeout (q : Fin 64)
  /-- HAWK_ECC_WRITE (R438): A write of HWK_Qq_CFG.ECC changes the protection mode, or is ignored with CFG_ERR. -/
  | hawkEccWrite (q : Fin 64) (ecc : Bool)
  /-- CVU_CFG_WRITE (R448): A write of CVU_CFG selects the algorithm and loads V with INIT. -/
  | cvuCfgWrite (c : Fin 16) (v : Word)
  /-- CVU_INIT (R448): A write of CVU_CTRL.INIT loads V with INIT. -/
  | cvuInit (c : Fin 16)
  /-- CVU_FEED8 (R449): A write of CVU_FEED8 feeds one byte into V. -/
  | cvuFeed8 (c : Fin 16) (v : Word)
  /-- CVU_FEED16 (R449): A write of CVU_FEED16 feeds two bytes in BSWAP order. -/
  | cvuFeed16 (c : Fin 16) (v : Word)
  /-- CVU_FEED32 (R449): A write of CVU_FEED32 feeds four bytes in BSWAP order. -/
  | cvuFeed32 (c : Fin 16) (v : Word)
  /-- CVU_VALUE_WRITE (R449): A write of CVU_VALUE replaces V after earlier feeds. -/
  | cvuValueWrite (c : Fin 16) (v : Word)
  /-- CVU_ALIVE_IN (R450): A write of CVU_ALIVE_IN delivers an alive value judged START, OK, REPEAT or GAP. -/
  | cvuAliveIn (c : Fin 16) (v : Word)
  /-- CVU_ALIVE_RESET (R450): A write of CVU_ALIVE_CFG.RESET restarts the alive check. -/
  | cvuAliveReset (c : Fin 16)
  /-- FAULT_RAISE (R458): A source raises its event and the collector records and acts on it. -/
  | faultRaise (e : Fin 1536)
  /-- QUIET_PERIOD_EXPIRY (R462): A taped unit's quiet period expires and it returns to service, RECOV incrementing. -/
  | quietPeriodExpiry (unit : Fin 65536) (scope : Bool)
  /-- FLT_UNIT_TAPE (R463): A write of FLT_UNIT.TAPE tapes off the unit as at S2 with EVENT 0x7FF. -/
  | fltUnitTape (unit : Fin 65536)
  /-- FLT_UNIT_RELEASE (R463): A write of FLT_UNIT.RELEASE ends the unit's TAPED or HELD tapings and clears RECOV. -/
  | fltUnitRelease (unit : Fin 65536)
  /-- FLT_ACK (R460): A write of 1 to a snag's FLT_GRPi bit or LATCHED acknowledges it. -/
  | fltAck (e : Fin 1536)
  /-- FLT_ACK_ALL (R460): A write of FLT_CTRL.ACK_ALL acknowledges every snag. -/
  | fltAckAll
  /-- FLT_SEV_WRITE (R460): A write of FLT_SEVi changes severities from the next occurrence; E1505 stays at S4. -/
  | fltSevWrite (k : Fin 192) (v : Word)
  /-- UNIT_RESET_DONE (R464): A unit reset completes and the SETTLE of its dependency windows runs. -/
  | unitResetDone (unit : Fin 65536)
  /-- SUPPRESSION_WINDOW_END (R465): A dependency window ends and a still-LIVE level source makes its occurrence. -/
  | suppressionWindowEnd (up down : Fin 65536)
  /-- ALIVE_TOGGLE (R468): Every HALF × 10 µs ALIVE toggles unless it is stopped. -/
  | aliveToggle
  /-- HEARTBEAT_LOSS (R468): 1 ms without the collector heartbeat stops ALIVE and the always-on island journals the fault. -/
  | heartbeatLoss
  /-- THERMAL_SAMPLE (R469): Every 100 µs the sensors are sampled and shedding, critical and sensor conditions are judged. -/
  | thermalSample (readings : List (Option (BitVec 13)))
  /-- SHED_STEP_TIMER (R469): A STEP interval expires and the next port is shed, or a shed port returns. -/
  | shedStepTimer
  /-- SHED_HOLD_EXPIRY (R470): The hottest stays below 130 °C for HOLD s and shed ports start to return. -/
  | shedHoldExpiry
  /-- THERMTRIP (R471): The junction reaches 155 °C and the always-on comparator asserts THERMTRIP_N and drops RAIL_EN. -/
  | thermtrip
  /-- POR_RELEASE (R481): POR_N deasserts, BOOT_SEL is latched and Primer starts. -/
  | porRelease (sel : Fin 8)
  /-- SYS_RESET (R481): SYS_RST_N resets everything except the always-on island and starts Primer. -/
  | sysReset (sel : Fin 8)
  /-- BOT_RESTART (R481): A write of BOT_CTRL.RESTART resets the device as SYS_RST_N. -/
  | botRestart
  /-- CORE_PLL_LOCK (R484): The core PLL locks, ending the CLOCK step; Chalk starts and Primer continues. -/
  | corePllLock (badKeys : BitVec 16) (journalError : Bool)
  /-- CLOCK_RETRY_TIMER (R484): The 100 ms retry of a failed CLOCK step expires and the lock is tried again. -/
  | clockRetryTimer
  /-- SLOT_VERIFY_DONE (R486): A slot's directory and firmware have been read and verified, and the slot is used or refused. -/
  | slotVerifyDone (slotA slotB : List Byte)
  /-- MEMORY_STEP_END (R483): Every channel has trained or the bound passed, and Undercoat records outcomes and loads the Lath. -/
  | memoryStepEnd
  /-- PORTS_STEP_END (R483): Every enabled port is UP, ABSENT or TRAIN_FAIL, or the bound passes, and port outcomes are recorded. -/
  | portsStepEnd
  /-- UPLINK_STEP_END (R483): Every sub-port is UP or FAILED and uplink outcomes are recorded. -/
  | uplinkStepEnd
  /-- UNDERCOAT_WATCHDOG (R489): Topcoat not entered within 10 s writes a WATCHDOG record, fails the slot and resets the device. -/
  | undercoatWatchdog
  /-- HOSTBOOT (R490): A write of BOT_CTRL.HOSTBOOT checks the host-load buffer as a slot. -/
  | hostboot
  /-- JOURNAL_FORGET (R492): A write of BOT_CTRL.FORGET sets every decision-table entry to 0. -/
  | journalForget
  /-- FORGET_UNIT (R496): A write of BOT_FORGET_UNIT sets one decision-table entry to 0. -/
  | forgetUnit (e : Fin 256)
  /-- JNL_RECORD_READ (R496): A read of BOT_JNL_REC0 latches the journal record at BOT_JNL_IDX until REC7 is read. -/
  | jnlRecordRead (path : Path)
  /-- LC_TO_PROVISIONED (R497): A lifecycle request for PROVISIONED burns fuses if an owner key is present. -/
  | lcToProvisioned (path : Path) (key : Fin 16)
  /-- LC_TO_SECURED (R497): A lifecycle request for SECURED with a valid token fuses SEC_POLICY and the state. -/
  | lcToSecured (path : Path) (key : Fin 16)
  /-- LC_TO_RMA (R497): A lifecycle request for RMA with a valid token erases owner keys and burns the state. -/
  | lcToRma (path : Path) (key : Fin 16)
  /-- LC_BAD_TARGET (R497): A request for the current, an earlier or BLANK state, or any request in RMA, gives BAD_TARGET. -/
  | lcBadTarget (path : Path) (key : Fin 16) (target : Fin 16)
  /-- LIFECYCLE_BURN_DONE (R499): The commit fuse is burned and the device resets as SYS_RST_N. -/
  | lifecycleBurnDone
  /-- KEY_PROG_EC (R502): SEC_KEY_CTRL op PROG_EC programs an ECDSA public key into an empty slot. -/
  | keyProgEc (slot : Fin 16)
  /-- KEY_PROG_PQ (R502): SEC_KEY_CTRL op PROG_PQ adds an ML-DSA-65 key to a slot holding an ECDSA key. -/
  | keyProgPq (slot : Fin 16)
  /-- KEY_PROG_AES (R502): SEC_KEY_CTRL op PROG_AES programs an AES-256 key into an empty slot. -/
  | keyProgAes (slot : Fin 16)
  /-- KEY_REVOKE (R502): SEC_KEY_CTRL op REVOKE revokes a slot from 1 to 15. -/
  | keyRevoke (slot : Fin 16)
  /-- KEY_OP_BAD (R523): A reserved SEC_KEY_CTRL op gives RESULT BAD_OP. -/
  | keyOpBad (op : Fin 3) (slot : Fin 16)
  /-- KEY_OP_DONE (R502): A key-store operation ends within 50 ms with its RESULT. -/
  | keyOpDone (fail : Bool)
  /-- ROLLBACK_ADVANCE (R504): A write of SEC_RB_CTRL.GO advances the anti-rollback counter to NEW, or is refused. -/
  | rollbackAdvance (v : Byte)
  /-- ROLLBACK_BURN_DONE (R504): The anti-rollback fuses are burned. -/
  | rollbackBurnDone
  /-- SEC_POLICY_WRITE (R502): A write of SEC_POLICY acts before SECURED and is ignored once fused. -/
  | secPolicyWrite (v : Word)
  /-- DEBUG_OPEN (R509): A write of SEC_DBG_CTRL.OPEN opens a session, starts certificate checking or is refused. -/
  | debugOpen (path : Path) (level : Fin 4)
  /-- DEBUG_CERT_VERIFIED (R509): Certificate checking ends and opens the session with its key, or refuses it. -/
  | debugCertVerified
  /-- DEBUG_END (R511): A write of SEC_DBG_CTRL.END ends the session and erases its key. -/
  | debugEnd
  /-- DEBUG_SESSION_TIMEOUT (R511): MAX_TIME seconds pass and the session ends with END_CAUSE TIMEOUT. -/
  | debugSessionTimeout
  /-- DEBUG_CORE_HALT (R512): A write of SEC_DBG_CORE.HALT in a D2 session halts or resumes control cores. -/
  | debugCoreHalt (v : Fin 16)
  /-- PWR_REQ_P0 (R514): A THM_PWR_CTRL request for P0 returns the device from P1 or wakes it from P2. -/
  | pwrReqP0 (path : Path)
  /-- PWR_REQ_P1 (R514): A THM_PWR_CTRL request for P1 drains the pipeline and gates its clocks. -/
  | pwrReqP1 (path : Path)
  /-- PWR_REQ_P2 (R514): A THM_PWR_CTRL request for P2 drains and enters Standby. -/
  | pwrReqP2 (path : Path)
  /-- PWR_REQ_P3 (R514): A THM_PWR_CTRL request for P3 drains and enters Off. -/
  | pwrReqP3 (path : Path)
  /-- PWR_DRAIN_DONE (R515): Open rows are emitted and records have left Plumb, and the power transition continues. -/
  | pwrDrainDone
  /-- WAKE_PIN (R514): WAKE_N falling with PIN_EN = 1 returns the device from P1 or P2 to P0. -/
  | wakePin
  /-- WAKE_TIMER (R514): The P2 wake timer expires with TIMER_EN = 1 and the device wakes. -/
  | wakeTimer
  /-- RAIL_WAKE_TIMEOUT (R516): Core rails not in window 100 ms after a wake drive RAIL_EN low and keep the device in P2. -/
  | railWakeTimeout
  /-- SUPPLY_OUT_OF_WINDOW (R575): A core rail outside ±5 % for 10 µs makes E1512 LIVE. -/
  | supplyOutOfWindow
  /-- SUPPLY_IN_WINDOW (R575): A rail back inside its window for 10 µs clears E1512. -/
  | supplyInWindow
  /-- CORE_UNDERVOLTAGE (R575): VDD_CORE below 0.65 V for 1 µs acts as SYS_RST_N. -/
  | coreUndervoltage
  /-- AON_UNDERVOLTAGE (R575): An always-on rail below its limit acts as POR_N. -/
  | aonUndervoltage
  /-- REFCLK_UP_LOSS (R579): A missing REFCLK_UP raises E1522 and takes every sub-port DOWN. -/
  | refclkUpLoss
  /-- REFCLK_VSL_LOSS (R579): A missing REFCLK_VSL stops every back channel. -/
  | refclkVslLoss
  /-- TST_MODE_WRITE (R533): A write of TST_LANE_CTRL sets a lane's test mode and pattern, or is refused. -/
  | tstModeWrite (lane : Fin 200) (v : Word)
  /-- TST_INJECT (R539): A write of TST_LANE_CTRL.INJECT inverts the next generated bit. -/
  | tstInject (lane : Fin 200)
  /-- TST_BCAST_GO (R543): A write of TST_BCAST_GO copies TST_BCAST_CTRL to every selected lane. -/
  | tstBcastGo
  /-- TST_CHECKER_LOCK (R538): 256 matching bits lock a lane's pattern checker. -/
  | tstCheckerLock (lane : Fin 200)
  /-- TST_CHECKER_LOCK_LOSS (R538): 32 errors in 64 bits lose checker lock and the checker seeds again. -/
  | tstCheckerLockLoss (lane : Fin 200) (errs : Nat)
  /-- EYE_SCAN_GO (R541): A write of TST_EYE_CTRL.GO measures one eye-scan point, or is refused. -/
  | eyeScanGo (lane : Fin 200)
  /-- EYE_POINT_DONE (R541): An eye-scan point ends after its dwell and sets DONE. -/
  | eyePointDone (lane : Fin 200) (errs : Nat)
  /-- TAP_INSTRUCTION (R545): A new TAP instruction is loaded; leaving an EXTEST-family instruction resets the device. -/
  | tapInstruction (ir : Byte)
  /-- TAP_RESET (R545): The TAP enters Test-Logic-Reset with IDCODE selected. -/
  | tapReset
  /-- DBG_READ (R547): Update-DR of the DBG register with OP read starts a register read. -/
  | dbgRead (addr : Word) (tag : List Byte)
  /-- DBG_WRITE (R547): Update-DR of the DBG register with OP write starts a register write. -/
  | dbgWrite (addr : Word) (data : Word) (tag : List Byte)
  /-- DBG_CAPTURE (R547): Capture-DR of the DBG register reports the status and data of the last access. -/
  | dbgCapture
  /-- SPI_WRITE (R561): A MGMT_SPI frame with command 0x02 writes a register. -/
  | spiWrite (addr : Word) (data : Word)
  /-- SPI_READ (R561): A MGMT_SPI frame with command 0x0B reads a register. -/
  | spiRead (addr : Word)
  /-- SPI_TAGGED_WRITE (R561): A MGMT_SPI frame with command 0x82 writes a register under a session tag. -/
  | spiTaggedWrite (addr : Word) (data : Word) (tag : List Byte)
  /-- SPI_TAGGED_READ (R561): A MGMT_SPI frame with command 0x8B reads a register and returns a tag. -/
  | spiTaggedRead (addr : Word)
  /-- SPI_UNKNOWN_CMD (R562): A MGMT_SPI frame with an unlisted command byte is ignored. -/
  | spiUnknownCmd
  /-- MGE_MGMT_REQ (R563): A MGMT_REQ frame on the management Ethernet port is served and answered with MGMT_RSP. -/
  | mgeMgmtReq (frame : List Byte) (bad : Bool)
  /-- SMB_SET_POINTER (R564): SMBus command 0x10 sets the address pointer. -/
  | smbSetPointer (addr : Word)
  /-- SMB_BLOCK_READ (R564): SMBus command 0x11 returns STATUS and DATA of a read at the pointer. -/
  | smbBlockRead
  /-- SMB_BAD_COMMAND (R564): Any other SMBus command, or a PEC failure, is NACKed. -/
  | smbBadCommand
  /-- MBX_PING (R565): Mailbox command PING returns ARG0 inverted. -/
  | mbxPing (arg : Word)
  /-- MBX_FW_INFO (R565): Mailbox command FW_INFO returns the running firmware's BUILD and SEC_VERSION. -/
  | mbxFwInfo
  /-- MBX_MRAM_READ (R565): Mailbox command MRAM_READ copies MRAM into SCRATCH, or is refused BAD_ARG. -/
  | mbxMramRead (offset : Word) (length : Word) (dest : Word)
  /-- MBX_SERVO_RESET (R565): Mailbox command SERVO_RESET returns the PTP servo to ACQUIRING. -/
  | mbxServoReset
  /-- MBX_BAD_CMD (R565): An unknown mailbox command gives RESULT BAD_CMD. -/
  | mbxBadCmd (cmd : BitVec 16)
  /-- MBX_DONE (R565): The firmware ends a mailbox command, sets RESULT and raises interrupt source MBX. -/
  | mbxDone (fail : Bool)
  /-- ACCESS_TIMEOUT (R558): An access unanswered within its path time-out ends with TIMEOUT. -/
  | accessTimeout (path : Path)
  /-- REGISTER_WRITE (R9): A write to a register with no row of its own acts by its access code. -/
  | registerWrite (addr : Word) (v : Word) (path : Path)
  /-- FREEZING_LO_READ (R82): A read of a LO register of a LO/HI pair freezes the HI register until it is read. -/
  | freezingLoRead (addr : Word) (path : Path)
  /-- FREEZING_HI_READ (R82): A read of the frozen HI register returns the frozen value and releases the freeze. -/
  | freezingHiRead (addr : Word) (path : Path)
  /-- DUAL_CLOCK_QUEUE_OVERFLOW (R22): A per-port dual-clock queue overflows; the port reports it as loss of lock and discards the line in progress. -/
  | dualClockQueueOverflow (n : Fin 192)
  /-- TRIGGER_RELEASE (R98): A TRIGGER held back by the 16-trigger rule is released when an earlier trigger's exposure time passes. -/
  | triggerRelease (n : Fin 192)
  /-- SOURCE_EXPOSURE_TIME (R211): At T(L − Y_m) Seam settles member m missing with cause NOT_UP if its port or gang is not in UP. -/
  | sourceExposureTime (g : Fin 24) (m : Fin 32)
  /-- ALIGNMENT_MARKER_LOCK_LOST (R309): An uplink lane loses alignment-marker lock, UPL_AM_LOSS increments and the HOLD timing starts. -/
  | alignmentMarkerLockLost (u : Fin 8)
  /-- ALIGNMENT_MARKER_LOCK_REGAINED (R309): An uplink lane in UP regains alignment-marker lock before HOLD expires, and no taping follows. -/
  | alignmentMarkerLockRegained (u : Fin 8)
  /-- COLLECTOR_PARITY_ERROR (R456): A parity error in the fault collector's own state raises E1524. -/
  | collectorParityError
  /-- POR_ASSERTED (R481): POR_N is asserted, resetting the whole device including the always-on island and releasing THERMTRIP_N. -/
  | porAsserted
  /-- WAKE_RAILS_READY (R516): After a wake from P2, the supply monitors report every core rail within its window and the start runs from CLOCK. -/
  | wakeRailsReady
  /-- MGE_LINK_UP (R571): The management Ethernet link comes up and GLB_MGE_CTRL.LINK reads 1. -/
  | mgeLinkUp
  /-- MGE_LINK_DOWN (R571): The management Ethernet link goes down and GLB_MGE_CTRL.LINK reads 0. -/
  | mgeLinkDown
  deriving DecidableEq, Repr

end Sys2Proof
end

