-- ==== Sys2Proof/WellFormed.lean ====
section
/-! DEFINITION. The sizes that the operands of a command have on their wires. A meaning is total: it pads or discards what is
outside them. -/

namespace Sys2Proof

/-- The blocks that a header or a packet's end brings: at least one, and no more than a packet of 262,144 payload bytes has on the
widest gang, with a FILLER in 2,048 (R52, R65, R87). -/
def WellFormed.stripe (bs : List (Fin 4 × Block)) : Bool := decide (1 ≤ bs.length ∧ bs.length ≤ 2 ^ 16)

/-- The units of a broken message: at least one, and no more than the longest message has (R101). -/
def WellFormed.units (us : List Block) : Bool := decide (1 ≤ us.length ∧ us.length ≤ 43)

/-- A measured equaliser or eye value always fits; window counts fit the blocks of the longest window (R56). -/
def WellFormed.window (bad pe : Nat) : Bool := decide (bad ≤ 2 ^ 18 ∧ pe ≤ 2 ^ 18 * 64)

/-- The operands of a command have the sizes their sources send. -/
def WellFormed (i : Instr) : Bool :=
  match i with
  | .measureWindowEnd _ bad pe _ _ _ => WellFormed.window bad pe
  | .lineHeaderReceived _ bs => WellFormed.stripe bs
  | .linePayloadEnd _ bs b => WellFormed.stripe (bs ++ [b])
  | .badMessageReceived _ us => WellFormed.units us
  | .headRspReceived _ _ d => decide (d.length ≤ 253)
  | .headEvtReceived _ d => decide (d.length ≤ 255)
  | .chalRspReceived _ m => decide (m.length ≤ 255)
  | .pfcReceived _ _ q => q.length == 8
  | .thermalSample r => r.length == 16
  | .dbgRead _ t | .dbgWrite _ _ t | .spiTaggedWrite _ _ t => t.length == 16
  | .tstCheckerLockLoss _ e => decide (32 ≤ e)
  | .mgeMgmtReq f _ => decide (14 ≤ f.length)
  | .slotVerifyDone a b => decide (a.length ≤ 2 ^ 26 ∧ b.length ≤ 2 ^ 26)
  | _ => true

end Sys2Proof
end

