-- ==== Sys2Proof/Machine/Sparse.lean ====
section
/-! DEFINITION. Sparse tables in one canonical form (a list of keys strictly rising, no entry equal to what an unlisted key
reads as), the register store built from them, and field handles. Memories are the same tables over bytes. -/

namespace Sys2Proof.Machine

/-- A sparse table from natural keys: what is not listed reads as a default. -/
abbrev Tab (α : Type) := List (Nat × α)

/-- The value at key `a`; `d` where `a` is not listed. -/
def Tab.get {α : Type} (d : α) : Tab α → Nat → α
  | [], _ => d
  | (k, v) :: t, a => if k = a then v else Tab.get d t a

/-- Removes every entry of key `a`. -/
def Tab.erase {α : Type} : Tab α → Nat → Tab α
  | [], _ => []
  | (k, v) :: t, a => if k = a then Tab.erase t a else (k, v) :: Tab.erase t a

/-- Lists `v` at key `a`, in key order. -/
def Tab.insert {α : Type} : Tab α → Nat → α → Tab α
  | [], a, v => [(a, v)]
  | (k, w) :: t, a, v =>
    if a < k then (a, v) :: (k, w) :: t
    else if a = k then (a, v) :: t
    else (k, w) :: Tab.insert t a v

/-- Writes `v` at key `a`: the default is not listed, so equal tables are equal lists. -/
def Tab.set {α : Type} [DecidableEq α] (d : α) (m : Tab α) (a : Nat) (v : α) : Tab α :=
  if v = d then Tab.erase m a else Tab.insert m a v

/-- Every key of the table is above `b`. -/
def Tab.above {α : Type} (b : Nat) : Tab α → Bool
  | [] => true
  | (k, _) :: t => decide (b < k) && Tab.above b t

/-- The canonical form: keys strictly rising, no entry equal to the default. -/
def Tab.wf {α : Type} [DecidableEq α] (d : α) : Tab α → Bool
  | [] => true
  | (k, v) :: t => Tab.above k t && decide (v ≠ d) && Tab.wf d t

/-- The register blocks of the management address space (R8, R554). -/
inductive Blk where
  | glb | chk | vsp | rnd | sem | stn | plb | upl | mem | stp | dma | hwk | cvu | flt | sec | bot | tst | thm
  deriving DecidableEq, Repr

/-- The handle of one register field: its block, its place (32 × byte offset in the block + low bit), width, reset value. -/
structure Fld where
  blk : Blk
  key : Nat
  w   : Nat
  rst : Nat
  deriving DecidableEq, Repr

/-- The field at bit `lo`, `w` bits wide, of the register at byte offset `off` of block `b`. -/
def Fld.at (b : Blk) (off lo w rst : Nat) : Fld := ⟨b, 32 * off + lo, w, rst⟩

/-- Values of the fields of every block. An entry holds the bits in which the field differs from its reset value, so a
block at reset is the empty table. -/
structure Regs where
  glb : Tab Nat
  chk : Tab Nat
  vsp : Tab Nat
  rnd : Tab Nat
  sem : Tab Nat
  stn : Tab Nat
  plb : Tab Nat
  upl : Tab Nat
  mem : Tab Nat
  stp : Tab Nat
  dma : Tab Nat
  hwk : Tab Nat
  cvu : Tab Nat
  flt : Tab Nat
  sec : Tab Nat
  bot : Tab Nat
  tst : Tab Nat
  thm : Tab Nat
  deriving DecidableEq, Repr

/-- Every field of every block at its reset value. -/
def Regs.reset : Regs := ⟨[], [], [], [], [], [], [], [], [], [], [], [], [], [], [], [], [], []⟩

/-- The table of block `b`. -/
def Regs.tab (r : Regs) : Blk → Tab Nat
  | .glb => r.glb | .chk => r.chk | .vsp => r.vsp | .rnd => r.rnd | .sem => r.sem | .stn => r.stn
  | .plb => r.plb | .upl => r.upl | .mem => r.mem | .stp => r.stp | .dma => r.dma | .hwk => r.hwk
  | .cvu => r.cvu | .flt => r.flt | .sec => r.sec | .bot => r.bot | .tst => r.tst | .thm => r.thm

/-- The store with the table of block `b` replaced. -/
def Regs.setTab (r : Regs) (b : Blk) (t : Tab Nat) : Regs :=
  match b with
  | .glb => { r with glb := t } | .chk => { r with chk := t } | .vsp => { r with vsp := t }
  | .rnd => { r with rnd := t } | .sem => { r with sem := t } | .stn => { r with stn := t }
  | .plb => { r with plb := t } | .upl => { r with upl := t } | .mem => { r with mem := t }
  | .stp => { r with stp := t } | .dma => { r with dma := t } | .hwk => { r with hwk := t }
  | .cvu => { r with cvu := t } | .flt => { r with flt := t } | .sec => { r with sec := t }
  | .bot => { r with bot := t } | .tst => { r with tst := t } | .thm => { r with thm := t }

/-- The value of field `f`. -/
def Regs.get (r : Regs) (f : Fld) : Nat := (r.tab f.blk).get 0 f.key ^^^ f.rst

/-- Field `f` set to the low bits of `v`. -/
def Regs.set (r : Regs) (f : Fld) (v : Nat) : Regs :=
  r.setTab f.blk ((r.tab f.blk).set 0 f.key ((v % 2 ^ f.w) ^^^ f.rst))

/-- Every block's table is in canonical form. -/
def Regs.wf (r : Regs) : Bool :=
  r.glb.wf 0 && r.chk.wf 0 && r.vsp.wf 0 && r.rnd.wf 0 && r.sem.wf 0 && r.stn.wf 0 && r.plb.wf 0 && r.upl.wf 0 &&
  r.mem.wf 0 && r.stp.wf 0 && r.dma.wf 0 && r.hwk.wf 0 && r.cvu.wf 0 && r.flt.wf 0 && r.sec.wf 0 && r.bot.wf 0 &&
  r.tst.wf 0 && r.thm.wf 0

end Sys2Proof.Machine
end

