-- ==== Sys2Proof/Machine/RegMap.lean ====
section
/-! DEFINITION. The register maps (R8, R554, R572): every register of every block, its offset, its instances, and for each of its
fields the bit position, width, access code (R9) and reset value, as the register tables of spec chapters 01 to 17 print them.
Reserved bits and offsets that hold no register are the bits and offsets not listed (R10). -/

namespace Sys2Proof.Machine

/-- The registers of the device, by their names in the manual (R572). -/
inductive Reg where
  | GLB_ID | GLB_IRQ_STAT | GLB_IRQ_EN | GLB_SNAPSHOT | GLB_SNAP_TIME_LO | GLB_SNAP_TIME_HI
  | GLB_SNAP_CTRL | GLB_COMMIT | GLB_COMMIT_STAT | GLB_COMMIT_PENDING | GLB_COMMIT_TIME_LO | GLB_COMMIT_TIME_HI
  | GLB_LATH_CTRL | GLB_LATH_ADDR_LO | GLB_LATH_ADDR_HI | GLB_LATH_LEN | GLB_LATH_STAT | GLB_LATH_INFO
  | GLB_IMAGE_ID | GLB_LOAD | GLB_MBX_CMD | GLB_MBX_ARG | GLB_MBX_RSP | GLB_MBX_STAT
  | GLB_MGE_CTRL | GLB_MGE_MAC_LO | GLB_MGE_MAC_HI | CHK_TIME_LO | CHK_TIME_HI | CHK_CTRL
  | CHK_STAT | CHK_SET_LO | CHK_SET_HI | CHK_ADJ_FREQ | CHK_ADJ_PHASE | CHK_TG_CTRL
  | CHK_TG_LEAD | CHK_TG_PERIOD_INT | CHK_TG_PERIOD_FRAC | CHK_TG_START_LO | CHK_TG_START_HI | CHK_TG_L0
  | CHK_TG_NEXT_LINE | CHK_TG_STAT | VSP_LANE_CTRL | VSP_LANE_STAT | VSP_HEAD_ID | VSP_HEAD_CAPS
  | VSP_TRAIN_CFG | VSP_TRAIN_STAT | VSP_RX_EQ | VSP_EYE | VSP_LINK_TIME_LO | VSP_LINK_TIME_HI
  | VSP_SYNC_ERR | VSP_BLK_ERR | VSP_LOCK_LOSS | VSP_FILL_INS | VSP_FILL_DEL | VSP_EB_ERR
  | VSP_TRAIN_ATT | VSP_TAP_TMO | VSP_ALIGN_ERR | VSP_BIP_ERR | VSP_PKT_CTRL | VSP_PKT_CTRL_LIVE
  | VSP_PORT_CFG | VSP_EXP_ID | VSP_STREAM | VSP_LAST_DROP | VSP_LAST_DROP_LINE | VSP_PORT_STAT
  | VSP_LINES_OK | VSP_HCRC_ERR | VSP_PCRC_ERR | VSP_TRUNC | VSP_RANGE_ERR | VSP_ALIVE_ERR
  | VSP_MISSING | VSP_NO_MATCH | VSP_LATE | VSP_EXP_ERR | VSP_TRIG_TMO | VSP_TEST_LINES
  | VSP_CHAL_DROP | VSP_SAT_LINES | VSP_UNSYNC_LINES | VSP_TRIG_SENT | VSP_MSG_ERR | VSP_SYNC_TMO
  | VSP_EVT_DROP | VSP_SYNC_CFG | VSP_SYNC_STAT | VSP_SYNC_DELAY | VSP_CMD_CTRL | VSP_CMD_STAT
  | VSP_CMD_CFG | VSP_CMD_BUF | VSP_RSP_BUF | VSP_CHAL_CTRL | VSP_CHAL_STAT | VSP_CHAL_KEY
  | RND_CTRL | RND_CTRL_LIVE | RND_OB_CFG | RND_OB_CFG_LIVE | RND_OUT_CFG | RND_IN_WINDOW
  | RND_OUT_WINDOW | RND_GANG | RND_ALIGN_D | RND_BANK_CTRL | RND_BANK_STAT | RND_STAT
  | RND_OB_TRACK | RND_LINES_IN | RND_LINES_OUT | RND_LINES_INVALID | RND_DARK_CLIP | RND_GAIN_SAT
  | RND_REMAP_OOR | RND_OUT_SAT | RND_OB_SKIP | RND_DEFECTS | RND_SKIM_CTRL | RND_SKIM_CTRL_LIVE
  | RND_SKIM_REF | RND_SKIM_REF_LIVE | RND_SKIM_RATIO | RND_SKIM_RATIO_LIVE | RND_SKIM_TARGET | RND_SKIM_TARGET_LIVE
  | RND_SKIM_STAT | RND_SKIM_LINES_HELD | RND_SKIM_LINES_USED | RND_SKIM_MASK_TMO | RND_SKIM_MEMBER_MISS | RND_SKIM_SAT_DISCARD
  | RND_SKIM_UPDATES | RND_SKIM_CLAMPED | RND_SKIM_FROZEN | SEM_SKIM_CTRL | SEM_SKIM_CTRL_LIVE | SEM_SKIM_CFG
  | SEM_SKIM_STAT | SEM_SKIM_EPOCH | SEM_SKIM_NEXT_ROW | SEM_SKIM_BGL | SEM_SKIM_BOUNDARIES | SEM_SKIM_FROZEN_SWAPS
  | SEM_SKIM_NOTE_DROP | BOT_CKPT_CTRL | BOT_CKPT_STAT | BOT_CKPT_TIME_LO | BOT_CKPT_TIME_HI | BOT_CKPT_AREA
  | SEM_CTRL | SEM_CTRL_LIVE | SEM_EXCLUDE | SEM_EXCLUDE_LIVE | SEM_CFG | SEM_SLACK
  | SEM_BUF | SEM_STAT | SEM_COMMIT_ROW | SEM_LAST_ROW | SEM_LAST_VALID | SEM_LAST_DL_LO
  | SEM_LAST_DL_HI | SEM_LAST_FLAGS | SEM_ROWS | SEM_ROWS_PARTIAL | SEM_ROWS_DEADLINE | SEM_ROWS_STARVED
  | SEM_EARLY | SEM_LATE | SEM_EPOCH_ERR | SEM_MEMB_PORT | SEM_MEMB_COLS | SEM_MEMB_MAP
  | SEM_MEMB_ARR | SEM_MEMB_OVL | SEM_MEMB_OVL_LIVE | SEM_MEMB_MISS | SEM_MEMB_LATE | STN_FG_CTRL
  | STN_FG_CTRL_LIVE | STN_FG_W01 | STN_FG_W01_LIVE | STN_FG_W23 | STN_FG_W23_LIVE | STN_FG_THR
  | STN_FG_THR_LIVE | STN_OBJ_CFG | STN_OBJ_CFG_LIVE | STN_FEAT | STN_FEAT_LIVE | STN_HIST_LO
  | STN_HIST_LO_LIVE | STN_TILE_CTRL | STN_TILE_CTRL_LIVE | STN_CFG | STN_TILE_GEOM | STN_TILE_POOL
  | STN_STAT | STN_NEXT_ID_LO | STN_NEXT_ID_HI | STN_ROWS | STN_FG_PIXELS | STN_OBJECTS
  | STN_OBJ_SMALL | STN_OBJ_EXCESS | STN_LABEL_OVF | STN_SPLITS | STN_TILES | STN_TILE_DROP
  | STN_TILE_CLIP | STN_MASKS | PLB_CFG | PLB_DH | PLB_PITCH | PLB_XMAP
  | PLB_EJ | PLB_EJ_LIVE | PLB_G | PLB_G_LIVE | PLB_DRAG | PLB_DRAG_LIVE
  | PLB_V0 | PLB_V0_LIVE | PLB_TOL_T | PLB_TOL_T_LIVE | PLB_TOL_X | PLB_TOL_X_LIVE
  | PLB_TOL_F | PLB_TOL_F_LIVE | PLB_HOLD | PLB_HOLD_LIVE | PLB_LINK | PLB_LINK_LIVE
  | PLB_MIRROR | PLB_MIRROR_LIVE | PLB_STAT | PLB_DTNOM | PLB_UPPER_IN | PLB_LOWER_IN
  | PLB_MATCHED | PLB_UNMATCHED | PLB_AMBIG | PLB_EXPIRED | PLB_EVICTED | PLB_LINKED
  | PLB_LINK_EXPIRED | UPL_CFG | UPL_CTRL | UPL_FLOW | UPL_LANE_CFG | UPL_SP_STAT
  | UPL_SP_PAUSE_RX | UPL_SP_ABORT | UPL_SP_FLUSHED | UPL_CLASS | UPL_CLASS_GROUPS | UPL_CLASS_CTRL
  | UPL_CLASS_CTRL_LIVE | UPL_CLASS_SHARE_LIVE | UPL_CLASS_SENT | UPL_CLASS_LATE | UPL_CLASS_REFUSED | UPL_LANE_STAT
  | UPL_FEC_CORR | UPL_FEC_UNCORR | UPL_FEC_SYM | UPL_AM_LOSS | FXT_ENCAP | FXT_DMAC_LO
  | FXT_DMAC_HI | FXT_SMAC_LO | FXT_SMAC_HI | FXT_UDP | FXT_IP4_SRC | FXT_IP4_DST
  | FXT_IP6_SRC | FXT_IP6_DST | FXT_CFG | FXT_TIME_CFG | FXT_RX_MGMT | FXT_RX_ERR
  | FXT_RX_OTHER | FXT_RX_BUSY | UPL_PTP_CFG | UPL_PTP_STAT | UPL_PTP_GM_LO | UPL_PTP_GM_HI
  | MEM_CFG | MEM_STAT | MEM_SCRUB_CFG | MEM_ECC_CFG | MEM_CH_STAT | MEM_CH_SHARE01
  | MEM_CH_SHARE23 | MEM_CH_ERR_ADDR_LO | MEM_CH_ERR_ADDR_HI | MEM_CH_ERR_INFO | MEM_CH_CE | MEM_CH_UE
  | MEM_CH_SCRUB_CE | MEM_CH_SCRUB_UE | MEM_CH_ALERT | MEM_CH_BURSTS | HST_CTRL | HST_STAT
  | HST_RING_BASE | HST_RING_SIZE | HST_HEAD_LO | HST_HEAD_HI | HST_TAIL_LO | HST_TAIL_HI
  | HST_PINNED | HST_MARKS_LOST | HST_DEMOTED | HST_RAW_SEGS | HST_G_RECORDS | HST_G_SKIPPED
  | HST_G_STALE | HST_MARK_CTRL | HST_MARK_STAT | HST_MARK_TIME_LO | HST_MARK_TIME_HI | HST_MARK_PIN
  | HST_MARK_POS_LO | HST_MARK_POS_HI | HST_MARK_WTIME_LO | HST_MARK_WTIME_HI | HST_MARK_DEMOTE | HST_RP_CTRL
  | HST_RP_GROUPS | HST_RP_ID | HST_RP_START_LO | HST_RP_START_HI | HST_RP_END_LO | HST_RP_END_HI
  | HST_RP_LEN | HST_RP_DEST_LO | HST_RP_DEST_HI | HST_RP_DEST_LEN | HST_RP_LAST_ID | HST_RP_BYTES
  | HST_RP_STAT | HST_RP_DONE | HST_RP_FAILED | STP_CFG | STP_STAT | STP_ENC_BLOCKS
  | STP_DEC_BLOCKS | STP_NO_GAIN | STP_PIPE_FAIL | STP_RAW_ROWS | STP_PARITY | STP_JOB_CTRL
  | STP_JOB_GEOM | STP_JOB_SRC_LO | STP_JOB_SRC_HI | STP_JOB_DST_LO | STP_JOB_DST_HI | STP_JOB_IN_LEN
  | STP_JOB_DST_LEN | STP_JOB_OUT | STP_JOB_LAST_TAG | STP_JOB_DONE | STP_JOB_FAILED | STP_JOB_NOTE_DROP
  | STP_JOB_STAT | DMA_INT_STAT | DMA_CH_CTRL | DMA_CH_STAT | DMA_CH_NEXT_LO | DMA_CH_NEXT_HI
  | DMA_CH_CUR_LO | DMA_CH_CUR_HI | DMA_CH_HOP_LIMIT | DMA_CH_HOP_COUNT | DMA_CH_FAIL_ADDR_LO | DMA_CH_FAIL_ADDR_HI
  | DMA_CH_FAIL_INFO | DMA_CH_DONE_BYTES | DMA_CH_DESCS | DMA_CH_BYTES | DMA_CH_HALTS | HWK_CFG
  | HWK_INT_LO | HWK_INT_HI | HWK_Q_CTRL | HWK_Q_CFG | HWK_Q_STAT | HWK_Q_CAP
  | HWK_Q_WHDR | HWK_Q_WDATA | HWK_Q_RHDR | HWK_Q_RDATA | HWK_Q_RSTAT | HWK_Q_IN
  | HWK_Q_OUT | HWK_Q_OVR | HWK_Q_FLUSHED | HWK_Q_SPILLED | HWK_Q_POISONED | HWK_Q_CE
  | HWK_Q_UE | CVU_CTRL | CVU_CFG | CVU_POLY | CVU_INIT | CVU_XOROUT
  | CVU_VALUE | CVU_RESULT | CVU_FEED8 | CVU_FEED16 | CVU_FEED32 | CVU_ALIVE_CFG
  | CVU_ALIVE_IN | CVU_ALIVE_STAT | CVU_ALIVE_LAST | CVU_ALIVE_OK | CVU_ALIVE_REPEAT | CVU_ALIVE_MISSING
  | FLT_SUMMARY | FLT_CTRL | FLT_NOTIFY | FLT_ALIVE | FLT_GRP | FLT_LIVE
  | FLT_SEV | FLT_RAISED | FLT_ESCALATED | FLT_CONSEQ | FLT_TAPINGS | FLT_RETURNS
  | FLT_HELD | FLT_NOTE_DROP | FLT_SNAG_STAT | FLT_SNAG_COUNT | FLT_SNAG_TIME_LO | FLT_SNAG_TIME_HI
  | FLT_KIND_CFG | FLT_UNIT | THM_TEMP | THM_SHED_CFG | THM_STAT | THM_PWR_CTRL
  | THM_PWR_STAT | THM_WAKE_CFG | BOT_STAT | BOT_STRAP | BOT_CTRL | BOT_FORGET_UNIT
  | BOT_SEQ | BOT_HWIF | BOT_FW_INFO | BOT_JNL_NEXT | BOT_JNL_IDX | BOT_JNL_REC
  | BOT_DEC | SEC_LC_STAT | SEC_LC_CTRL | SEC_POLICY | SEC_KEY_CTRL | SEC_RB_CTRL
  | SEC_DBG_CTRL | SEC_DBG_STAT | SEC_DBG_CORE | SEC_KEY_STAT | SEC_KEY_PQ | SEC_UID
  | SEC_NONCE | SEC_TOKEN | SEC_DBG_CERT | SEC_DBG_PUB | SEC_KEY_DATA | TST_LANE_CTRL
  | TST_LANE_STAT | TST_USER | TST_ERR_LO | TST_ERR_HI | TST_BITS_LO | TST_BITS_HI
  | TST_LOCK_LOSS | TST_EYE_ERR | TST_EYE_CTRL | TST_EYE_STAT | TST_STAT | TST_BCAST_CTRL
  | TST_BCAST_GO | TST_BCAST_MASK
  deriving DecidableEq, Repr

/-- Access codes of register fields (R9); `cnt` is an RO statistics counter read through snapshots (R37). -/
inductive Acc where
  | rw | ro | w1c | w1s | wo | sh | cnt
  deriving DecidableEq, Repr

/-- One field of a register map: low bit, width, access code, reset value. -/
structure FDef where
  lo : Nat
  w : Nat
  acc : Acc
  rst : Nat
  deriving DecidableEq, Repr

/-- One register: its offset in the block, the strides and counts of its instances, the distance of its `_LIVE` mirror
(0 for none), and its fields. -/
structure RegDef where
  reg : Reg
  off : Nat
  dims : List (Nat × Nat)
  live : Nat
  flds : List FDef
  deriving DecidableEq, Repr

/-- Registers of block GLB, part 1. -/
def glbMap1 : List RegDef :=
  [⟨.GLB_ID, 0x0, [], 0, [⟨16, 16, .ro, 0x4192⟩, ⟨0, 4, .ro, 0⟩]⟩,
   ⟨.GLB_IRQ_STAT, 0x20, [], 0, [⟨7, 1, .ro, 0⟩, ⟨6, 1, .w1c, 0⟩, ⟨5, 1, .w1c, 0⟩, ⟨4, 1, .w1c, 0⟩, ⟨3, 1, .w1c, 0⟩, ⟨2, 1, .ro, 0⟩, ⟨1, 1, .ro, 0⟩, ⟨0, 1, .ro, 0⟩]⟩,
   ⟨.GLB_IRQ_EN, 0x30, [(0x4, 4)], 0, [⟨0, 8, .rw, 0⟩]⟩,
   ⟨.GLB_SNAPSHOT, 0x100, [], 0, [⟨8, 8, .ro, 0⟩, ⟨3, 1, .w1c, 0⟩, ⟨2, 1, .ro, 0⟩, ⟨1, 1, .ro, 0⟩, ⟨0, 1, .wo, 0⟩]⟩,
   ⟨.GLB_SNAP_TIME_LO, 0x104, [], 0, [⟨0, 32, .ro, 0⟩]⟩,
   ⟨.GLB_SNAP_TIME_HI, 0x108, [], 0, [⟨0, 32, .ro, 0⟩]⟩,
   ⟨.GLB_SNAP_CTRL, 0x10C, [], 0, [⟨8, 16, .rw, 0⟩, ⟨1, 1, .rw, 0⟩, ⟨0, 1, .rw, 0⟩]⟩,
   ⟨.GLB_COMMIT, 0x200, [], 0, [⟨24, 1, .wo, 0⟩, ⟨0, 24, .wo, 0⟩]⟩,
   ⟨.GLB_COMMIT_STAT, 0x204, [], 0, [⟨24, 8, .ro, 0⟩, ⟨16, 4, .ro, 0⟩, ⟨1, 1, .w1c, 0⟩, ⟨0, 1, .w1c, 0⟩]⟩,
   ⟨.GLB_COMMIT_PENDING, 0x208, [], 0, [⟨0, 24, .ro, 0⟩]⟩,
   ⟨.GLB_COMMIT_TIME_LO, 0x20C, [], 0, [⟨0, 32, .ro, 0⟩]⟩,
   ⟨.GLB_COMMIT_TIME_HI, 0x210, [], 0, [⟨0, 32, .ro, 0⟩]⟩,
   ⟨.GLB_LATH_CTRL, 0x300, [], 0, [⟨1, 1, .rw, 0⟩, ⟨0, 1, .w1s, 0⟩]⟩,
   ⟨.GLB_LATH_ADDR_LO, 0x304, [], 0, [⟨0, 32, .rw, 0⟩]⟩,
   ⟨.GLB_LATH_ADDR_HI, 0x308, [], 0, [⟨0, 16, .rw, 0⟩]⟩,
   ⟨.GLB_LATH_LEN, 0x30C, [], 0, [⟨0, 32, .rw, 0⟩]⟩,
   ⟨.GLB_LATH_STAT, 0x310, [], 0, [⟨28, 4, .ro, 0⟩, ⟨20, 8, .ro, 0⟩, ⟨16, 1, .w1c, 0⟩, ⟨0, 16, .ro, 0xFFFF⟩]⟩,
   ⟨.GLB_LATH_INFO, 0x314, [], 0, [⟨16, 8, .ro, 0⟩, ⟨8, 8, .ro, 0⟩, ⟨7, 1, .ro, 0⟩]⟩,
   ⟨.GLB_IMAGE_ID, 0x320, [(0x4, 4)], 0, [⟨0, 32, .ro, 0⟩]⟩,
   ⟨.GLB_LOAD, 0x340, [(0x4, 6)], 0, [⟨0, 7, .ro, 0⟩, ⟨8, 7, .ro, 0⟩, ⟨16, 7, .ro, 0⟩, ⟨24, 7, .ro, 0⟩]⟩,
   ⟨.GLB_MBX_CMD, 0x400, [], 0, [⟨31, 1, .w1s, 0⟩, ⟨0, 16, .rw, 0⟩]⟩,
   ⟨.GLB_MBX_ARG, 0x404, [(0x4, 4)], 0, [⟨0, 32, .rw, 0⟩]⟩,
   ⟨.GLB_MBX_RSP, 0x420, [(0x4, 4)], 0, [⟨0, 32, .ro, 0⟩]⟩,
   ⟨.GLB_MBX_STAT, 0x414, [], 0, [⟨31, 1, .ro, 0⟩, ⟨24, 4, .ro, 0⟩, ⟨0, 1, .w1c, 0⟩]⟩]

/-- Registers of block GLB, part 2. -/
def glbMap2 : List RegDef :=
  [⟨.GLB_MGE_CTRL, 0x500, [], 0, [⟨16, 16, .rw, 0x88B5⟩, ⟨2, 1, .ro, 0⟩, ⟨1, 1, .rw, 0⟩, ⟨0, 1, .rw, 1⟩]⟩,
   ⟨.GLB_MGE_MAC_LO, 0x504, [], 0, [⟨0, 32, .rw, 0⟩]⟩,
   ⟨.GLB_MGE_MAC_HI, 0x508, [], 0, [⟨0, 16, .rw, 0⟩]⟩]

/-- Registers of block GLB. -/
def glbMap : List RegDef := glbMap1 ++ glbMap2

/-- Registers of block CHK. -/
def chkMap : List RegDef :=
  [⟨.CHK_TIME_LO, 0x0, [], 0, [⟨0, 32, .ro, 0⟩]⟩,
   ⟨.CHK_TIME_HI, 0x4, [], 0, [⟨0, 32, .ro, 0⟩]⟩,
   ⟨.CHK_CTRL, 0x8, [], 0, [⟨16, 9, .rw, 0x64⟩, ⟨0, 1, .w1s, 0⟩]⟩,
   ⟨.CHK_STAT, 0xC, [], 0, [⟨2, 1, .w1c, 0⟩, ⟨1, 1, .ro, 0⟩, ⟨0, 1, .ro, 0⟩]⟩,
   ⟨.CHK_SET_LO, 0x10, [], 0, [⟨0, 32, .rw, 0⟩]⟩,
   ⟨.CHK_SET_HI, 0x14, [], 0, [⟨0, 32, .rw, 0⟩]⟩,
   ⟨.CHK_ADJ_FREQ, 0x18, [], 0, [⟨0, 32, .rw, 0⟩]⟩,
   ⟨.CHK_ADJ_PHASE, 0x1C, [], 0, [⟨0, 32, .rw, 0⟩]⟩,
   ⟨.CHK_TG_CTRL, 0x1000, [(0x40, 24)], 0, [⟨0, 1, .rw, 0⟩]⟩,
   ⟨.CHK_TG_LEAD, 0x1004, [(0x40, 24)], 0, [⟨0, 20, .rw, 0x2710⟩]⟩,
   ⟨.CHK_TG_PERIOD_INT, 0x1008, [(0x40, 24)], 0, [⟨0, 24, .rw, 0x9C4⟩]⟩,
   ⟨.CHK_TG_PERIOD_FRAC, 0x100C, [(0x40, 24)], 0, [⟨0, 16, .rw, 0⟩]⟩,
   ⟨.CHK_TG_START_LO, 0x1010, [(0x40, 24)], 0, [⟨0, 32, .rw, 0⟩]⟩,
   ⟨.CHK_TG_START_HI, 0x1014, [(0x40, 24)], 0, [⟨0, 32, .rw, 0⟩]⟩,
   ⟨.CHK_TG_L0, 0x1018, [(0x40, 24)], 0, [⟨0, 32, .rw, 0⟩]⟩,
   ⟨.CHK_TG_NEXT_LINE, 0x101C, [(0x40, 24)], 0, [⟨0, 32, .ro, 0⟩]⟩,
   ⟨.CHK_TG_STAT, 0x1020, [(0x40, 24)], 0, [⟨0, 1, .w1c, 0⟩]⟩]

/-- Registers of block VSP, part 1. -/
def vspMap1 : List RegDef :=
  [⟨.VSP_LANE_CTRL, 0x0, [(0x10000, 192)], 0, [⟨7, 1, .rw, 0⟩, ⟨6, 1, .rw, 0⟩, ⟨1, 1, .w1s, 0⟩, ⟨0, 1, .w1s, 0⟩]⟩,
   ⟨.VSP_LANE_STAT, 0x4, [(0x10000, 192)], 0, [⟨28, 4, .ro, 0⟩, ⟨20, 2, .ro, 0⟩, ⟨18, 2, .ro, 0⟩, ⟨16, 2, .ro, 0⟩, ⟨7, 1, .ro, 0⟩, ⟨6, 1, .ro, 0⟩, ⟨5, 1, .ro, 0⟩, ⟨4, 1, .ro, 0⟩, ⟨0, 4, .ro, 0⟩]⟩,
   ⟨.VSP_HEAD_ID, 0x8, [(0x10000, 192)], 0, [⟨0, 32, .ro, 0⟩]⟩,
   ⟨.VSP_HEAD_CAPS, 0xC, [(0x10000, 192)], 0, [⟨28, 1, .ro, 0⟩, ⟨24, 4, .ro, 0⟩, ⟨16, 5, .ro, 0⟩, ⟨8, 4, .ro, 0⟩, ⟨0, 8, .ro, 0⟩]⟩,
   ⟨.VSP_TRAIN_CFG, 0x10, [(0x10000, 192)], 0, [⟨24, 8, .rw, 0x10⟩, ⟨16, 8, .rw, 0x18⟩, ⟨8, 8, .rw, 0x14⟩, ⟨0, 6, .rw, 0x30⟩]⟩,
   ⟨.VSP_TRAIN_STAT, 0x14, [(0x10000, 192)], 0, [⟨28, 4, .ro, 0⟩, ⟨24, 4, .ro, 0⟩, ⟨18, 6, .ro, 0⟩, ⟨0, 18, .ro, 0⟩]⟩,
   ⟨.VSP_RX_EQ, 0x18, [(0x10000, 192)], 0, [⟨25, 5, .ro, 0xC⟩, ⟨20, 5, .ro, 0⟩, ⟨15, 5, .ro, 0⟩, ⟨10, 5, .ro, 0⟩, ⟨5, 5, .ro, 0⟩, ⟨0, 5, .ro, 0⟩]⟩,
   ⟨.VSP_EYE, 0x1C, [(0x10000, 192)], 0, [⟨16, 16, .ro, 0⟩, ⟨8, 8, .ro, 0⟩, ⟨0, 8, .ro, 0⟩]⟩,
   ⟨.VSP_LINK_TIME_LO, 0x20, [(0x10000, 192)], 0, [⟨0, 32, .ro, 0⟩]⟩,
   ⟨.VSP_LINK_TIME_HI, 0x24, [(0x10000, 192)], 0, [⟨0, 32, .ro, 0⟩]⟩,
   ⟨.VSP_SYNC_ERR, 0x40, [(0x10000, 192)], 0, [⟨0, 32, .cnt, 0⟩]⟩,
   ⟨.VSP_BLK_ERR, 0x44, [(0x10000, 192)], 0, [⟨0, 32, .cnt, 0⟩]⟩,
   ⟨.VSP_LOCK_LOSS, 0x48, [(0x10000, 192)], 0, [⟨0, 32, .cnt, 0⟩]⟩,
   ⟨.VSP_FILL_INS, 0x4C, [(0x10000, 192)], 0, [⟨0, 32, .cnt, 0⟩]⟩,
   ⟨.VSP_FILL_DEL, 0x50, [(0x10000, 192)], 0, [⟨0, 32, .cnt, 0⟩]⟩,
   ⟨.VSP_EB_ERR, 0x54, [(0x10000, 192)], 0, [⟨0, 32, .cnt, 0⟩]⟩,
   ⟨.VSP_TRAIN_ATT, 0x58, [(0x10000, 192)], 0, [⟨0, 32, .cnt, 0⟩]⟩,
   ⟨.VSP_TAP_TMO, 0x5C, [(0x10000, 192)], 0, [⟨0, 32, .cnt, 0⟩]⟩,
   ⟨.VSP_ALIGN_ERR, 0x60, [(0x10000, 192)], 0, [⟨0, 32, .cnt, 0⟩]⟩,
   ⟨.VSP_BIP_ERR, 0x64, [(0x10000, 192)], 0, [⟨0, 32, .cnt, 0⟩]⟩,
   ⟨.VSP_PKT_CTRL, 0x100, [(0x10000, 192)], 0x4, [⟨16, 11, .sh, 0x7D0⟩, ⟨0, 1, .sh, 0⟩]⟩,
   ⟨.VSP_PKT_CTRL_LIVE, 0x104, [(0x10000, 192)], 0, [⟨16, 11, .ro, 0x7D0⟩, ⟨0, 1, .ro, 0⟩]⟩,
   ⟨.VSP_PORT_CFG, 0x108, [(0x10000, 192)], 0, [⟨24, 8, .ro, 0xFF⟩, ⟨0, 4, .ro, 0⟩]⟩,
   ⟨.VSP_EXP_ID, 0x10C, [(0x10000, 192)], 0, [⟨0, 32, .ro, 0⟩]⟩]

/-- Registers of block VSP, part 2. -/
def vspMap2 : List RegDef :=
  [⟨.VSP_STREAM, 0x110, [(0x10000, 192), (0x4, 16)], 0, [⟨16, 15, .ro, 0⟩, ⟨8, 5, .ro, 0⟩, ⟨0, 3, .ro, 0⟩]⟩,
   ⟨.VSP_LAST_DROP, 0x150, [(0x10000, 192)], 0, [⟨28, 4, .ro, 0⟩, ⟨24, 4, .ro, 0⟩]⟩,
   ⟨.VSP_LAST_DROP_LINE, 0x154, [(0x10000, 192)], 0, [⟨0, 32, .ro, 0⟩]⟩,
   ⟨.VSP_PORT_STAT, 0x158, [(0x10000, 192)], 0, [⟨0, 1, .w1c, 0⟩]⟩,
   ⟨.VSP_LINES_OK, 0x180, [(0x10000, 192)], 0, [⟨0, 32, .cnt, 0⟩]⟩,
   ⟨.VSP_HCRC_ERR, 0x184, [(0x10000, 192)], 0, [⟨0, 32, .cnt, 0⟩]⟩,
   ⟨.VSP_PCRC_ERR, 0x188, [(0x10000, 192)], 0, [⟨0, 32, .cnt, 0⟩]⟩,
   ⟨.VSP_TRUNC, 0x18C, [(0x10000, 192)], 0, [⟨0, 32, .cnt, 0⟩]⟩,
   ⟨.VSP_RANGE_ERR, 0x190, [(0x10000, 192)], 0, [⟨0, 32, .cnt, 0⟩]⟩,
   ⟨.VSP_ALIVE_ERR, 0x194, [(0x10000, 192)], 0, [⟨0, 32, .cnt, 0⟩]⟩,
   ⟨.VSP_MISSING, 0x198, [(0x10000, 192)], 0, [⟨0, 32, .cnt, 0⟩]⟩,
   ⟨.VSP_NO_MATCH, 0x19C, [(0x10000, 192)], 0, [⟨0, 32, .cnt, 0⟩]⟩,
   ⟨.VSP_LATE, 0x1A0, [(0x10000, 192)], 0, [⟨0, 32, .cnt, 0⟩]⟩,
   ⟨.VSP_EXP_ERR, 0x1A4, [(0x10000, 192)], 0, [⟨0, 32, .cnt, 0⟩]⟩,
   ⟨.VSP_TRIG_TMO, 0x1A8, [(0x10000, 192)], 0, [⟨0, 32, .cnt, 0⟩]⟩,
   ⟨.VSP_TEST_LINES, 0x1AC, [(0x10000, 192)], 0, [⟨0, 32, .cnt, 0⟩]⟩,
   ⟨.VSP_CHAL_DROP, 0x1B0, [(0x10000, 192)], 0, [⟨0, 32, .cnt, 0⟩]⟩,
   ⟨.VSP_SAT_LINES, 0x1B4, [(0x10000, 192)], 0, [⟨0, 32, .cnt, 0⟩]⟩,
   ⟨.VSP_UNSYNC_LINES, 0x1B8, [(0x10000, 192)], 0, [⟨0, 32, .cnt, 0⟩]⟩,
   ⟨.VSP_TRIG_SENT, 0x1BC, [(0x10000, 192)], 0, [⟨0, 32, .cnt, 0⟩]⟩,
   ⟨.VSP_MSG_ERR, 0x1C0, [(0x10000, 192)], 0, [⟨0, 32, .cnt, 0⟩]⟩,
   ⟨.VSP_SYNC_TMO, 0x1C4, [(0x10000, 192)], 0, [⟨0, 32, .cnt, 0⟩]⟩,
   ⟨.VSP_EVT_DROP, 0x1C8, [(0x10000, 192)], 0, [⟨0, 32, .cnt, 0⟩]⟩,
   ⟨.VSP_SYNC_CFG, 0x200, [(0x10000, 192)], 0, [⟨16, 16, .rw, 0⟩, ⟨0, 13, .rw, 8⟩]⟩]

/-- Registers of block VSP, part 3. -/
def vspMap3 : List RegDef :=
  [⟨.VSP_SYNC_STAT, 0x204, [(0x10000, 192)], 0, [⟨31, 1, .ro, 0⟩, ⟨0, 24, .ro, 0⟩]⟩,
   ⟨.VSP_SYNC_DELAY, 0x208, [(0x10000, 192)], 0, [⟨16, 16, .ro, 0⟩, ⟨0, 16, .ro, 0⟩]⟩,
   ⟨.VSP_CMD_CTRL, 0x300, [(0x10000, 192)], 0, [⟨16, 16, .rw, 0⟩, ⟨8, 8, .rw, 0⟩, ⟨0, 1, .w1s, 0⟩]⟩,
   ⟨.VSP_CMD_STAT, 0x304, [(0x10000, 192)], 0, [⟨24, 8, .ro, 0⟩, ⟨4, 4, .ro, 0⟩, ⟨1, 1, .w1c, 0⟩, ⟨0, 1, .ro, 0⟩]⟩,
   ⟨.VSP_CMD_CFG, 0x308, [(0x10000, 192)], 0, [⟨22, 10, .rw, 0xA⟩, ⟨19, 3, .rw, 0⟩, ⟨18, 1, .rw, 0⟩, ⟨17, 1, .rw, 0⟩, ⟨0, 6, .rw, 0⟩]⟩,
   ⟨.VSP_CMD_BUF, 0x400, [(0x10000, 192), (0x4, 62)], 0, [⟨0, 32, .rw, 0⟩]⟩,
   ⟨.VSP_RSP_BUF, 0x500, [(0x10000, 192), (0x4, 62)], 0, [⟨0, 32, .ro, 0⟩]⟩,
   ⟨.VSP_CHAL_CTRL, 0x600, [(0x10000, 192)], 0, [⟨2, 1, .rw, 0⟩, ⟨1, 1, .rw, 0⟩, ⟨0, 1, .w1s, 0⟩]⟩,
   ⟨.VSP_CHAL_STAT, 0x604, [(0x10000, 192)], 0, [⟨31, 1, .ro, 0⟩, ⟨0, 4, .ro, 0⟩]⟩,
   ⟨.VSP_CHAL_KEY, 0x620, [(0x10000, 192), (0x4, 8)], 0, [⟨0, 32, .wo, 0⟩]⟩]

/-- Registers of block VSP. -/
def vspMap : List RegDef := vspMap1 ++ vspMap2 ++ vspMap3

/-- Registers of block RND, part 1. -/
def rndMap1 : List RegDef :=
  [⟨.RND_CTRL, 0x0, [(0x10000, 192)], 0x4, [⟨16, 4, .sh, 6⟩, ⟨5, 1, .sh, 0⟩, ⟨4, 1, .sh, 0⟩, ⟨3, 1, .sh, 0⟩, ⟨2, 1, .sh, 0⟩, ⟨1, 1, .sh, 0⟩, ⟨0, 1, .sh, 0⟩]⟩,
   ⟨.RND_CTRL_LIVE, 0x4, [(0x10000, 192)], 0, [⟨16, 4, .ro, 6⟩, ⟨5, 1, .ro, 0⟩, ⟨4, 1, .ro, 0⟩, ⟨3, 1, .ro, 0⟩, ⟨2, 1, .ro, 0⟩, ⟨1, 1, .ro, 0⟩, ⟨0, 1, .ro, 0⟩]⟩,
   ⟨.RND_OB_CFG, 0x8, [(0x10000, 192)], 0x4, [⟨16, 4, .sh, 0⟩, ⟨0, 14, .sh, 0⟩]⟩,
   ⟨.RND_OB_CFG_LIVE, 0xC, [(0x10000, 192)], 0, [⟨16, 4, .ro, 0⟩, ⟨0, 14, .ro, 0⟩]⟩,
   ⟨.RND_OUT_CFG, 0x10, [(0x10000, 192)], 0, [⟨24, 5, .ro, 0⟩, ⟨16, 7, .ro, 0⟩, ⟨0, 15, .ro, 0⟩]⟩,
   ⟨.RND_IN_WINDOW, 0x14, [(0x10000, 192)], 0, [⟨16, 15, .ro, 0⟩, ⟨0, 15, .ro, 0⟩]⟩,
   ⟨.RND_OUT_WINDOW, 0x18, [(0x10000, 192)], 0, [⟨16, 15, .ro, 0⟩, ⟨0, 15, .ro, 0⟩]⟩,
   ⟨.RND_GANG, 0x1C, [(0x10000, 192)], 0, [⟨8, 2, .ro, 0⟩, ⟨0, 2, .ro, 0⟩]⟩,
   ⟨.RND_ALIGN_D, 0x20, [(0x10000, 192), (0x4, 4)], 0, [⟨24, 6, .ro, 0⟩, ⟨16, 6, .ro, 0⟩, ⟨8, 6, .ro, 0⟩, ⟨0, 6, .ro, 0⟩]⟩,
   ⟨.RND_BANK_CTRL, 0x30, [(0x10000, 192)], 0, [⟨1, 1, .w1s, 0⟩, ⟨0, 1, .w1s, 0⟩]⟩,
   ⟨.RND_BANK_STAT, 0x34, [(0x10000, 192)], 0, [⟨16, 8, .ro, 0⟩, ⟨12, 4, .ro, 0⟩, ⟨5, 1, .w1c, 0⟩, ⟨4, 1, .ro, 0⟩, ⟨3, 1, .ro, 0⟩, ⟨2, 1, .ro, 0⟩, ⟨1, 1, .ro, 0⟩, ⟨0, 1, .ro, 0⟩]⟩,
   ⟨.RND_STAT, 0x38, [(0x10000, 192)], 0, [⟨1, 1, .ro, 0⟩, ⟨0, 1, .ro, 0⟩]⟩,
   ⟨.RND_OB_TRACK, 0x80, [(0x10000, 192), (0x4, 16)], 0, [⟨0, 24, .ro, 0⟩]⟩,
   ⟨.RND_LINES_IN, 0x100, [(0x10000, 192)], 0, [⟨0, 32, .cnt, 0⟩]⟩,
   ⟨.RND_LINES_OUT, 0x104, [(0x10000, 192)], 0, [⟨0, 32, .cnt, 0⟩]⟩,
   ⟨.RND_LINES_INVALID, 0x108, [(0x10000, 192)], 0, [⟨0, 32, .cnt, 0⟩]⟩,
   ⟨.RND_DARK_CLIP, 0x10C, [(0x10000, 192)], 0, [⟨0, 32, .cnt, 0⟩]⟩,
   ⟨.RND_GAIN_SAT, 0x110, [(0x10000, 192)], 0, [⟨0, 32, .cnt, 0⟩]⟩,
   ⟨.RND_REMAP_OOR, 0x114, [(0x10000, 192)], 0, [⟨0, 32, .cnt, 0⟩]⟩,
   ⟨.RND_OUT_SAT, 0x118, [(0x10000, 192)], 0, [⟨0, 32, .cnt, 0⟩]⟩,
   ⟨.RND_OB_SKIP, 0x11C, [(0x10000, 192)], 0, [⟨0, 32, .cnt, 0⟩]⟩,
   ⟨.RND_DEFECTS, 0x120, [(0x10000, 192)], 0, [⟨0, 32, .cnt, 0⟩]⟩,
   ⟨.RND_SKIM_CTRL, 0x200, [(0x10000, 192)], 0x4, [⟨27, 5, .sh, 0xC⟩, ⟨24, 3, .sh, 1⟩, ⟨16, 8, .sh, 0x40⟩, ⟨12, 4, .sh, 2⟩, ⟨8, 4, .sh, 4⟩, ⟨6, 2, .sh, 1⟩, ⟨1, 1, .sh, 0⟩, ⟨0, 1, .sh, 0⟩]⟩,
   ⟨.RND_SKIM_CTRL_LIVE, 0x204, [(0x10000, 192)], 0, [⟨27, 5, .ro, 0xC⟩, ⟨24, 3, .ro, 1⟩, ⟨16, 8, .ro, 0x40⟩, ⟨12, 4, .ro, 2⟩, ⟨8, 4, .ro, 4⟩, ⟨6, 2, .ro, 1⟩, ⟨1, 1, .ro, 0⟩, ⟨0, 1, .ro, 0⟩]⟩]

/-- Registers of block RND, part 2. -/
def rndMap2 : List RegDef :=
  [⟨.RND_SKIM_REF, 0x208, [(0x10000, 192), (0x4, 2)], 0x10, [⟨31, 1, .sh, 0⟩, ⟨20, 6, .sh, 0⟩, ⟨0, 14, .sh, 0⟩]⟩,
   ⟨.RND_SKIM_REF_LIVE, 0x218, [(0x10000, 192), (0x4, 2)], 0, [⟨31, 1, .ro, 0⟩, ⟨20, 6, .ro, 0⟩, ⟨0, 14, .ro, 0⟩]⟩,
   ⟨.RND_SKIM_RATIO, 0x210, [(0x10000, 192)], 0x4, [⟨0, 16, .sh, 0x4000⟩]⟩,
   ⟨.RND_SKIM_RATIO_LIVE, 0x214, [(0x10000, 192)], 0, [⟨0, 16, .ro, 0x4000⟩]⟩,
   ⟨.RND_SKIM_TARGET, 0x220, [(0x10000, 192), (0x4, 8)], 0x20, [⟨16, 16, .sh, 0x8000⟩, ⟨0, 16, .sh, 0x8000⟩]⟩,
   ⟨.RND_SKIM_TARGET_LIVE, 0x240, [(0x10000, 192), (0x4, 8)], 0, [⟨16, 16, .ro, 0x8000⟩, ⟨0, 16, .ro, 0x8000⟩]⟩,
   ⟨.RND_SKIM_STAT, 0x260, [(0x10000, 192)], 0, [⟨28, 4, .ro, 0⟩, ⟨24, 4, .ro, 0⟩, ⟨20, 4, .ro, 0⟩, ⟨2, 1, .ro, 0⟩, ⟨1, 1, .w1c, 0⟩, ⟨0, 1, .ro, 0⟩]⟩,
   ⟨.RND_SKIM_LINES_HELD, 0x280, [(0x10000, 192)], 0, [⟨0, 32, .cnt, 0⟩]⟩,
   ⟨.RND_SKIM_LINES_USED, 0x284, [(0x10000, 192)], 0, [⟨0, 32, .cnt, 0⟩]⟩,
   ⟨.RND_SKIM_MASK_TMO, 0x288, [(0x10000, 192)], 0, [⟨0, 32, .cnt, 0⟩]⟩,
   ⟨.RND_SKIM_MEMBER_MISS, 0x28C, [(0x10000, 192)], 0, [⟨0, 32, .cnt, 0⟩]⟩,
   ⟨.RND_SKIM_SAT_DISCARD, 0x290, [(0x10000, 192)], 0, [⟨0, 32, .cnt, 0⟩]⟩,
   ⟨.RND_SKIM_UPDATES, 0x294, [(0x10000, 192)], 0, [⟨0, 32, .cnt, 0⟩]⟩,
   ⟨.RND_SKIM_CLAMPED, 0x298, [(0x10000, 192)], 0, [⟨0, 32, .cnt, 0⟩]⟩,
   ⟨.RND_SKIM_FROZEN, 0x29C, [(0x10000, 192)], 0, [⟨0, 32, .cnt, 0⟩]⟩]

/-- Registers of block RND. -/
def rndMap : List RegDef := rndMap1 ++ rndMap2

/-- Registers of block SEM, part 1. -/
def semMap1 : List RegDef :=
  [⟨.SEM_SKIM_CTRL, 0x800, [(0x10000, 24)], 0x4, [⟨28, 3, .sh, 0⟩, ⟨22, 6, .sh, 0⟩, ⟨21, 1, .sh, 0⟩, ⟨0, 1, .sh, 0⟩]⟩,
   ⟨.SEM_SKIM_CTRL_LIVE, 0x804, [(0x10000, 24)], 0, [⟨28, 3, .ro, 0⟩, ⟨22, 6, .ro, 0⟩, ⟨21, 1, .ro, 0⟩, ⟨0, 1, .ro, 0⟩]⟩,
   ⟨.SEM_SKIM_CFG, 0x808, [(0x10000, 24)], 0, [⟨27, 5, .ro, 0x10⟩, ⟨0, 16, .ro, 0x200⟩]⟩,
   ⟨.SEM_SKIM_STAT, 0x80C, [(0x10000, 24)], 0, [⟨2, 1, .w1c, 0⟩, ⟨1, 1, .ro, 0⟩, ⟨0, 1, .ro, 0⟩]⟩,
   ⟨.SEM_SKIM_EPOCH, 0x810, [(0x10000, 24)], 0, [⟨0, 32, .ro, 0⟩]⟩,
   ⟨.SEM_SKIM_NEXT_ROW, 0x814, [(0x10000, 24)], 0, [⟨0, 32, .ro, 0⟩]⟩,
   ⟨.SEM_SKIM_BGL, 0x820, [(0x10000, 24), (0x4, 8)], 0, [⟨16, 16, .ro, 0⟩, ⟨0, 16, .ro, 0⟩]⟩,
   ⟨.SEM_SKIM_BOUNDARIES, 0x880, [(0x10000, 24)], 0, [⟨0, 32, .cnt, 0⟩]⟩,
   ⟨.SEM_SKIM_FROZEN_SWAPS, 0x884, [(0x10000, 24)], 0, [⟨0, 32, .cnt, 0⟩]⟩,
   ⟨.SEM_SKIM_NOTE_DROP, 0x888, [(0x10000, 24)], 0, [⟨0, 32, .cnt, 0⟩]⟩,
   ⟨.SEM_CTRL, 0x0, [(0x10000, 24)], 0x4, [⟨16, 16, .sh, 0⟩, ⟨0, 6, .sh, 1⟩]⟩,
   ⟨.SEM_CTRL_LIVE, 0x4, [(0x10000, 24)], 0, [⟨16, 16, .ro, 0⟩, ⟨0, 6, .ro, 1⟩]⟩,
   ⟨.SEM_EXCLUDE, 0x8, [(0x10000, 24)], 0x4, [⟨0, 32, .sh, 0⟩]⟩,
   ⟨.SEM_EXCLUDE_LIVE, 0xC, [(0x10000, 24)], 0, [⟨0, 32, .ro, 0⟩]⟩,
   ⟨.SEM_CFG, 0x10, [(0x10000, 24)], 0, [⟨16, 16, .ro, 0⟩, ⟨12, 4, .ro, 0⟩, ⟨0, 6, .ro, 0⟩]⟩,
   ⟨.SEM_SLACK, 0x14, [(0x10000, 24)], 0, [⟨0, 19, .ro, 0⟩]⟩,
   ⟨.SEM_BUF, 0x18, [(0x10000, 24)], 0, [⟨16, 11, .ro, 0⟩, ⟨0, 12, .ro, 0⟩]⟩,
   ⟨.SEM_STAT, 0x1C, [(0x10000, 24)], 0, [⟨24, 8, .ro, 0⟩, ⟨16, 8, .ro, 0⟩, ⟨1, 1, .ro, 0⟩, ⟨0, 1, .ro, 0⟩]⟩,
   ⟨.SEM_COMMIT_ROW, 0x20, [(0x10000, 24)], 0, [⟨0, 32, .ro, 0⟩]⟩,
   ⟨.SEM_LAST_ROW, 0x24, [(0x10000, 24)], 0, [⟨0, 32, .ro, 0⟩]⟩,
   ⟨.SEM_LAST_VALID, 0x28, [(0x10000, 24)], 0, [⟨0, 32, .ro, 0⟩]⟩,
   ⟨.SEM_LAST_DL_LO, 0x30, [(0x10000, 24)], 0, [⟨0, 32, .ro, 0⟩]⟩,
   ⟨.SEM_LAST_DL_HI, 0x34, [(0x10000, 24)], 0, [⟨0, 32, .ro, 0⟩]⟩,
   ⟨.SEM_LAST_FLAGS, 0x2C, [(0x10000, 24)], 0, [⟨0, 4, .ro, 0⟩]⟩]

/-- Registers of block SEM, part 2. -/
def semMap2 : List RegDef :=
  [⟨.SEM_ROWS, 0x100, [(0x10000, 24)], 0, [⟨0, 32, .cnt, 0⟩]⟩,
   ⟨.SEM_ROWS_PARTIAL, 0x104, [(0x10000, 24)], 0, [⟨0, 32, .cnt, 0⟩]⟩,
   ⟨.SEM_ROWS_DEADLINE, 0x108, [(0x10000, 24)], 0, [⟨0, 32, .cnt, 0⟩]⟩,
   ⟨.SEM_ROWS_STARVED, 0x10C, [(0x10000, 24)], 0, [⟨0, 32, .cnt, 0⟩]⟩,
   ⟨.SEM_EARLY, 0x110, [(0x10000, 24)], 0, [⟨0, 32, .cnt, 0⟩]⟩,
   ⟨.SEM_LATE, 0x114, [(0x10000, 24)], 0, [⟨0, 32, .cnt, 0⟩]⟩,
   ⟨.SEM_EPOCH_ERR, 0x118, [(0x10000, 24)], 0, [⟨0, 32, .cnt, 0⟩]⟩,
   ⟨.SEM_MEMB_PORT, 0x400, [(0x10000, 24), (0x20, 32)], 0, [⟨28, 4, .ro, 0⟩, ⟨16, 8, .ro, 0⟩, ⟨12, 4, .ro, 0⟩, ⟨8, 2, .ro, 0⟩, ⟨0, 8, .ro, 0⟩]⟩,
   ⟨.SEM_MEMB_COLS, 0x404, [(0x10000, 24), (0x20, 32)], 0, [⟨16, 16, .ro, 0⟩, ⟨0, 16, .ro, 0⟩]⟩,
   ⟨.SEM_MEMB_MAP, 0x408, [(0x10000, 24), (0x20, 32)], 0, [⟨24, 8, .ro, 0⟩, ⟨20, 4, .ro, 0⟩, ⟨0, 16, .ro, 0⟩]⟩,
   ⟨.SEM_MEMB_ARR, 0x40C, [(0x10000, 24), (0x20, 32)], 0, [⟨0, 24, .ro, 0⟩]⟩,
   ⟨.SEM_MEMB_OVL, 0x410, [(0x10000, 24), (0x20, 32)], 0x4, [⟨30, 2, .sh, 0⟩, ⟨29, 1, .sh, 0⟩, ⟨0, 16, .sh, 0⟩]⟩,
   ⟨.SEM_MEMB_OVL_LIVE, 0x414, [(0x10000, 24), (0x20, 32)], 0, [⟨30, 2, .ro, 0⟩, ⟨29, 1, .ro, 0⟩, ⟨0, 16, .ro, 0⟩]⟩,
   ⟨.SEM_MEMB_MISS, 0x418, [(0x10000, 24), (0x20, 32)], 0, [⟨0, 32, .cnt, 0⟩]⟩,
   ⟨.SEM_MEMB_LATE, 0x41C, [(0x10000, 24), (0x20, 32)], 0, [⟨0, 32, .cnt, 0⟩]⟩]

/-- Registers of block SEM. -/
def semMap : List RegDef := semMap1 ++ semMap2

/-- Registers of block STN, part 1. -/
def stnMap1 : List RegDef :=
  [⟨.STN_FG_CTRL, 0x0, [(0x10000, 24)], 0x4, [⟨24, 2, .sh, 0⟩, ⟨20, 4, .sh, 0⟩, ⟨16, 4, .sh, 0⟩, ⟨12, 4, .sh, 0⟩, ⟨8, 4, .sh, 0⟩, ⟨6, 2, .sh, 0⟩, ⟨4, 2, .sh, 0⟩, ⟨2, 2, .sh, 0⟩, ⟨0, 2, .sh, 0⟩]⟩,
   ⟨.STN_FG_CTRL_LIVE, 0x4, [(0x10000, 24)], 0, [⟨24, 2, .ro, 0⟩, ⟨20, 4, .ro, 0⟩, ⟨16, 4, .ro, 0⟩, ⟨12, 4, .ro, 0⟩, ⟨8, 4, .ro, 0⟩, ⟨6, 2, .ro, 0⟩, ⟨4, 2, .ro, 0⟩, ⟨2, 2, .ro, 0⟩, ⟨0, 2, .ro, 0⟩]⟩,
   ⟨.STN_FG_W01, 0x8, [(0x10000, 24)], 0x4, [⟨16, 16, .sh, 0x100⟩, ⟨0, 16, .sh, 0x100⟩]⟩,
   ⟨.STN_FG_W01_LIVE, 0xC, [(0x10000, 24)], 0, [⟨16, 16, .ro, 0x100⟩, ⟨0, 16, .ro, 0x100⟩]⟩,
   ⟨.STN_FG_W23, 0x10, [(0x10000, 24)], 0x4, [⟨16, 16, .sh, 0x100⟩, ⟨0, 16, .sh, 0x100⟩]⟩,
   ⟨.STN_FG_W23_LIVE, 0x14, [(0x10000, 24)], 0, [⟨16, 16, .ro, 0x100⟩, ⟨0, 16, .ro, 0x100⟩]⟩,
   ⟨.STN_FG_THR, 0x18, [(0x10000, 24)], 0x4, [⟨0, 24, .sh, 0xFFFFFF⟩]⟩,
   ⟨.STN_FG_THR_LIVE, 0x1C, [(0x10000, 24)], 0, [⟨0, 24, .ro, 0xFFFFFF⟩]⟩,
   ⟨.STN_OBJ_CFG, 0x20, [(0x10000, 24)], 0x4, [⟨20, 12, .sh, 0xFFF⟩, ⟨0, 20, .sh, 1⟩]⟩,
   ⟨.STN_OBJ_CFG_LIVE, 0x24, [(0x10000, 24)], 0, [⟨20, 12, .ro, 0xFFF⟩, ⟨0, 20, .ro, 1⟩]⟩,
   ⟨.STN_FEAT, 0x28, [(0x10000, 24)], 0x4, [⟨28, 4, .sh, 0⟩, ⟨24, 4, .sh, 0⟩, ⟨20, 4, .sh, 0⟩, ⟨16, 4, .sh, 0⟩, ⟨12, 4, .sh, 0⟩, ⟨8, 4, .sh, 0⟩, ⟨0, 3, .sh, 0⟩]⟩,
   ⟨.STN_FEAT_LIVE, 0x2C, [(0x10000, 24)], 0, [⟨28, 4, .ro, 0⟩, ⟨24, 4, .ro, 0⟩, ⟨20, 4, .ro, 0⟩, ⟨16, 4, .ro, 0⟩, ⟨12, 4, .ro, 0⟩, ⟨8, 4, .ro, 0⟩, ⟨0, 3, .ro, 0⟩]⟩,
   ⟨.STN_HIST_LO, 0x30, [(0x10000, 24)], 0x4, [⟨0, 16, .sh, 0⟩]⟩,
   ⟨.STN_HIST_LO_LIVE, 0x34, [(0x10000, 24)], 0, [⟨0, 16, .ro, 0⟩]⟩,
   ⟨.STN_TILE_CTRL, 0x38, [(0x10000, 24)], 0x4, [⟨31, 1, .sh, 0⟩, ⟨30, 1, .sh, 0⟩, ⟨24, 6, .sh, 0⟩, ⟨0, 20, .sh, 0⟩]⟩,
   ⟨.STN_TILE_CTRL_LIVE, 0x3C, [(0x10000, 24)], 0, [⟨31, 1, .ro, 0⟩, ⟨30, 1, .ro, 0⟩, ⟨24, 6, .ro, 0⟩, ⟨0, 20, .ro, 0⟩]⟩,
   ⟨.STN_CFG, 0x40, [(0x10000, 24)], 0, [⟨28, 2, .ro, 0⟩, ⟨0, 13, .ro, 0⟩]⟩,
   ⟨.STN_TILE_GEOM, 0x44, [(0x10000, 24)], 0, [⟨16, 16, .ro, 0⟩, ⟨10, 6, .ro, 0⟩, ⟨0, 7, .ro, 0⟩]⟩,
   ⟨.STN_TILE_POOL, 0x48, [(0x10000, 24)], 0, [⟨16, 16, .ro, 0⟩, ⟨0, 13, .ro, 0⟩]⟩,
   ⟨.STN_STAT, 0x50, [(0x10000, 24)], 0, [⟨8, 13, .ro, 0⟩, ⟨0, 1, .ro, 0⟩]⟩,
   ⟨.STN_NEXT_ID_LO, 0x58, [(0x10000, 24)], 0, [⟨0, 32, .ro, 0⟩]⟩,
   ⟨.STN_NEXT_ID_HI, 0x5C, [(0x10000, 24)], 0, [⟨0, 32, .ro, 0⟩]⟩,
   ⟨.STN_ROWS, 0x100, [(0x10000, 24)], 0, [⟨0, 32, .cnt, 0⟩]⟩,
   ⟨.STN_FG_PIXELS, 0x104, [(0x10000, 24)], 0, [⟨0, 32, .cnt, 0⟩]⟩]

/-- Registers of block STN, part 2. -/
def stnMap2 : List RegDef :=
  [⟨.STN_OBJECTS, 0x108, [(0x10000, 24)], 0, [⟨0, 32, .cnt, 0⟩]⟩,
   ⟨.STN_OBJ_SMALL, 0x10C, [(0x10000, 24)], 0, [⟨0, 32, .cnt, 0⟩]⟩,
   ⟨.STN_OBJ_EXCESS, 0x110, [(0x10000, 24)], 0, [⟨0, 32, .cnt, 0⟩]⟩,
   ⟨.STN_LABEL_OVF, 0x114, [(0x10000, 24)], 0, [⟨0, 32, .cnt, 0⟩]⟩,
   ⟨.STN_SPLITS, 0x118, [(0x10000, 24)], 0, [⟨0, 32, .cnt, 0⟩]⟩,
   ⟨.STN_TILES, 0x11C, [(0x10000, 24)], 0, [⟨0, 32, .cnt, 0⟩]⟩,
   ⟨.STN_TILE_DROP, 0x120, [(0x10000, 24)], 0, [⟨0, 32, .cnt, 0⟩]⟩,
   ⟨.STN_TILE_CLIP, 0x124, [(0x10000, 24)], 0, [⟨0, 32, .cnt, 0⟩]⟩,
   ⟨.STN_MASKS, 0x128, [(0x10000, 24)], 0, [⟨0, 32, .cnt, 0⟩]⟩]

/-- Registers of block STN. -/
def stnMap : List RegDef := stnMap1 ++ stnMap2

/-- Registers of block PLB, part 1. -/
def plbMap1 : List RegDef :=
  [⟨.PLB_CFG, 0x0, [(0x100, 12)], 0, [⟨24, 5, .ro, 0⟩, ⟨16, 5, .ro, 0⟩, ⟨15, 1, .ro, 0⟩, ⟨8, 4, .ro, 0⟩, ⟨0, 1, .ro, 0⟩]⟩,
   ⟨.PLB_DH, 0x4, [(0x100, 12)], 0, [⟨0, 24, .ro, 0⟩]⟩,
   ⟨.PLB_PITCH, 0x8, [(0x100, 12)], 0, [⟨0, 24, .ro, 0⟩]⟩,
   ⟨.PLB_XMAP, 0xC, [(0x100, 12)], 0, [⟨16, 16, .ro, 0x4000⟩, ⟨0, 16, .ro, 0⟩]⟩,
   ⟨.PLB_EJ, 0x10, [(0x100, 12)], 0x4, [⟨0, 24, .sh, 0⟩]⟩,
   ⟨.PLB_EJ_LIVE, 0x14, [(0x100, 12)], 0, [⟨0, 24, .ro, 0⟩]⟩,
   ⟨.PLB_G, 0x18, [(0x100, 12)], 0x4, [⟨0, 24, .sh, 0x9CE81⟩]⟩,
   ⟨.PLB_G_LIVE, 0x1C, [(0x100, 12)], 0, [⟨0, 24, .ro, 0x9CE81⟩]⟩,
   ⟨.PLB_DRAG, 0x20, [(0x100, 12)], 0x4, [⟨0, 20, .sh, 0⟩]⟩,
   ⟨.PLB_DRAG_LIVE, 0x24, [(0x100, 12)], 0, [⟨0, 20, .ro, 0⟩]⟩,
   ⟨.PLB_V0, 0x28, [(0x100, 12)], 0x4, [⟨0, 24, .sh, 0x30000⟩]⟩,
   ⟨.PLB_V0_LIVE, 0x2C, [(0x100, 12)], 0, [⟨0, 24, .ro, 0x30000⟩]⟩,
   ⟨.PLB_TOL_T, 0x30, [(0x100, 12)], 0x4, [⟨0, 24, .sh, 0x7A120⟩]⟩,
   ⟨.PLB_TOL_T_LIVE, 0x34, [(0x100, 12)], 0, [⟨0, 24, .ro, 0x7A120⟩]⟩,
   ⟨.PLB_TOL_X, 0x38, [(0x100, 12)], 0x4, [⟨0, 16, .sh, 0x3C⟩]⟩,
   ⟨.PLB_TOL_X_LIVE, 0x3C, [(0x100, 12)], 0, [⟨0, 16, .ro, 0x3C⟩]⟩,
   ⟨.PLB_TOL_F, 0x40, [(0x100, 12)], 0x4, [⟨16, 16, .sh, 0⟩, ⟨0, 16, .sh, 0⟩]⟩,
   ⟨.PLB_TOL_F_LIVE, 0x44, [(0x100, 12)], 0, [⟨16, 16, .ro, 0⟩, ⟨0, 16, .ro, 0⟩]⟩,
   ⟨.PLB_HOLD, 0x48, [(0x100, 12)], 0x4, [⟨0, 24, .sh, 0x1E8480⟩]⟩,
   ⟨.PLB_HOLD_LIVE, 0x4C, [(0x100, 12)], 0, [⟨0, 24, .ro, 0x1E8480⟩]⟩,
   ⟨.PLB_LINK, 0x50, [(0x100, 12)], 0x4, [⟨16, 16, .sh, 0⟩, ⟨0, 16, .sh, 0⟩]⟩,
   ⟨.PLB_LINK_LIVE, 0x54, [(0x100, 12)], 0, [⟨16, 16, .ro, 0⟩, ⟨0, 16, .ro, 0⟩]⟩,
   ⟨.PLB_MIRROR, 0x58, [(0x100, 12)], 0x4, [⟨0, 24, .sh, 0⟩]⟩,
   ⟨.PLB_MIRROR_LIVE, 0x5C, [(0x100, 12)], 0, [⟨0, 24, .ro, 0⟩]⟩]

/-- Registers of block PLB, part 2. -/
def plbMap2 : List RegDef :=
  [⟨.PLB_STAT, 0x60, [(0x100, 12)], 0, [⟨31, 1, .ro, 0⟩, ⟨0, 13, .ro, 0⟩]⟩,
   ⟨.PLB_DTNOM, 0x64, [(0x100, 12)], 0, [⟨0, 24, .ro, 0⟩]⟩,
   ⟨.PLB_UPPER_IN, 0x80, [(0x100, 12)], 0, [⟨0, 32, .cnt, 0⟩]⟩,
   ⟨.PLB_LOWER_IN, 0x84, [(0x100, 12)], 0, [⟨0, 32, .cnt, 0⟩]⟩,
   ⟨.PLB_MATCHED, 0x88, [(0x100, 12)], 0, [⟨0, 32, .cnt, 0⟩]⟩,
   ⟨.PLB_UNMATCHED, 0x8C, [(0x100, 12)], 0, [⟨0, 32, .cnt, 0⟩]⟩,
   ⟨.PLB_AMBIG, 0x90, [(0x100, 12)], 0, [⟨0, 32, .cnt, 0⟩]⟩,
   ⟨.PLB_EXPIRED, 0x94, [(0x100, 12)], 0, [⟨0, 32, .cnt, 0⟩]⟩,
   ⟨.PLB_EVICTED, 0x98, [(0x100, 12)], 0, [⟨0, 32, .cnt, 0⟩]⟩,
   ⟨.PLB_LINKED, 0x9C, [(0x100, 12)], 0, [⟨0, 32, .cnt, 0⟩]⟩,
   ⟨.PLB_LINK_EXPIRED, 0xA0, [(0x100, 12)], 0, [⟨0, 32, .cnt, 0⟩]⟩]

/-- Registers of block PLB. -/
def plbMap : List RegDef := plbMap1 ++ plbMap2

/-- Registers of block UPL, part 1. -/
def uplMap1 : List RegDef :=
  [⟨.UPL_CFG, 0x0, [], 0, [⟨16, 8, .ro, 0⟩, ⟨8, 8, .ro, 0xFF⟩, ⟨0, 2, .ro, 0⟩]⟩,
   ⟨.UPL_CTRL, 0x8, [], 0, [⟨2, 1, .rw, 1⟩, ⟨1, 1, .rw, 1⟩, ⟨0, 1, .w1s, 0⟩]⟩,
   ⟨.UPL_FLOW, 0xC, [], 0, [⟨0, 16, .rw, 0x3E8⟩]⟩,
   ⟨.UPL_LANE_CFG, 0x10, [], 0, [⟨16, 16, .rw, 0x10⟩, ⟨0, 8, .rw, 1⟩]⟩,
   ⟨.UPL_SP_STAT, 0x100, [(0x10, 8)], 0, [⟨24, 8, .ro, 0⟩, ⟨16, 8, .ro, 0⟩, ⟨8, 8, .ro, 0⟩, ⟨3, 1, .ro, 0⟩, ⟨0, 3, .ro, 0⟩]⟩,
   ⟨.UPL_SP_PAUSE_RX, 0x104, [(0x10, 8)], 0, [⟨0, 32, .cnt, 0⟩]⟩,
   ⟨.UPL_SP_ABORT, 0x108, [(0x10, 8)], 0, [⟨0, 32, .cnt, 0⟩]⟩,
   ⟨.UPL_SP_FLUSHED, 0x10C, [(0x10, 8)], 0, [⟨0, 32, .cnt, 0⟩]⟩,
   ⟨.UPL_CLASS, 0x1000, [(0x20, 64)], 0, [⟨24, 8, .ro, 0⟩, ⟨16, 8, .ro, 0⟩, ⟨0, 11, .ro, 0⟩]⟩,
   ⟨.UPL_CLASS_GROUPS, 0x1004, [(0x20, 64)], 0, [⟨0, 24, .ro, 0⟩]⟩,
   ⟨.UPL_CLASS_CTRL, 0x1008, [(0x20, 64)], 0x4, [⟨8, 24, .sh, 0xC350⟩, ⟨5, 3, .sh, 0⟩]⟩,
   ⟨.UPL_CLASS_CTRL_LIVE, 0x100C, [(0x20, 64)], 0, [⟨8, 24, .ro, 0xC350⟩, ⟨5, 3, .ro, 0⟩]⟩,
   ⟨.UPL_CLASS_SHARE_LIVE, 0x1010, [(0x20, 64)], 0, [⟨0, 11, .ro, 0⟩]⟩,
   ⟨.UPL_CLASS_SENT, 0x1014, [(0x20, 64)], 0, [⟨0, 32, .cnt, 0⟩]⟩,
   ⟨.UPL_CLASS_LATE, 0x1018, [(0x20, 64)], 0, [⟨0, 32, .cnt, 0⟩]⟩,
   ⟨.UPL_CLASS_REFUSED, 0x101C, [(0x20, 64)], 0, [⟨0, 32, .cnt, 0⟩]⟩,
   ⟨.UPL_LANE_STAT, 0x2000, [(0x40, 8)], 0, [⟨8, 1, .ro, 0⟩, ⟨7, 1, .ro, 0⟩, ⟨6, 1, .ro, 0⟩, ⟨5, 1, .ro, 0⟩, ⟨0, 3, .ro, 0⟩]⟩,
   ⟨.UPL_FEC_CORR, 0x2010, [(0x40, 8)], 0, [⟨0, 32, .cnt, 0⟩]⟩,
   ⟨.UPL_FEC_UNCORR, 0x2014, [(0x40, 8)], 0, [⟨0, 32, .cnt, 0⟩]⟩,
   ⟨.UPL_FEC_SYM, 0x2018, [(0x40, 8)], 0, [⟨0, 32, .cnt, 0⟩]⟩,
   ⟨.UPL_AM_LOSS, 0x201C, [(0x40, 8)], 0, [⟨0, 32, .cnt, 0⟩]⟩,
   ⟨.FXT_ENCAP, 0x4000, [(0x40, 8)], 0, [⟨16, 16, .rw, 0x88B5⟩, ⟨15, 1, .rw, 0⟩, ⟨12, 2, .rw, 0⟩, ⟨0, 12, .rw, 0⟩]⟩,
   ⟨.FXT_DMAC_LO, 0x4004, [(0x40, 8)], 0, [⟨0, 32, .rw, 0⟩]⟩,
   ⟨.FXT_DMAC_HI, 0x4008, [(0x40, 8)], 0, [⟨0, 16, .rw, 0⟩]⟩]

/-- Registers of block UPL, part 2. -/
def uplMap2 : List RegDef :=
  [⟨.FXT_SMAC_LO, 0x400C, [(0x40, 8)], 0, [⟨0, 32, .rw, 0⟩]⟩,
   ⟨.FXT_SMAC_HI, 0x4010, [(0x40, 8)], 0, [⟨0, 16, .rw, 0⟩]⟩,
   ⟨.FXT_UDP, 0x4014, [(0x40, 8)], 0, [⟨16, 16, .rw, 0xC4F0⟩, ⟨0, 16, .rw, 0xC4F0⟩]⟩,
   ⟨.FXT_IP4_SRC, 0x4018, [(0x40, 8)], 0, [⟨0, 32, .rw, 0⟩]⟩,
   ⟨.FXT_IP4_DST, 0x401C, [(0x40, 8)], 0, [⟨0, 32, .rw, 0⟩]⟩,
   ⟨.FXT_IP6_SRC, 0x4020, [(0x40, 8), (0x4, 4)], 0, [⟨0, 32, .rw, 0⟩]⟩,
   ⟨.FXT_IP6_DST, 0x4030, [(0x40, 8), (0x4, 4)], 0, [⟨0, 32, .rw, 0⟩]⟩,
   ⟨.FXT_CFG, 0x5000, [], 0, [⟨16, 16, .rw, 0x2300⟩, ⟨0, 1, .rw, 0⟩]⟩,
   ⟨.FXT_TIME_CFG, 0x5004, [], 0, [⟨0, 16, .rw, 0x3E8⟩]⟩,
   ⟨.FXT_RX_MGMT, 0x5010, [], 0, [⟨0, 32, .cnt, 0⟩]⟩,
   ⟨.FXT_RX_ERR, 0x5014, [], 0, [⟨0, 32, .cnt, 0⟩]⟩,
   ⟨.FXT_RX_OTHER, 0x5018, [], 0, [⟨0, 32, .cnt, 0⟩]⟩,
   ⟨.FXT_RX_BUSY, 0x501C, [], 0, [⟨0, 32, .cnt, 0⟩]⟩,
   ⟨.UPL_PTP_CFG, 0x6000, [], 0, [⟨31, 1, .rw, 0⟩, ⟨28, 3, .rw, 0⟩, ⟨26, 2, .rw, 0⟩, ⟨25, 1, .rw, 0⟩, ⟨8, 8, .rw, 0⟩, ⟨0, 8, .rw, 0x64⟩]⟩,
   ⟨.UPL_PTP_STAT, 0x6004, [], 0, [⟨30, 2, .ro, 0⟩, ⟨0, 24, .ro, 0⟩]⟩,
   ⟨.UPL_PTP_GM_LO, 0x6008, [], 0, [⟨0, 32, .ro, 0⟩]⟩,
   ⟨.UPL_PTP_GM_HI, 0x600C, [], 0, [⟨0, 32, .ro, 0⟩]⟩]

/-- Registers of block UPL. -/
def uplMap : List RegDef := uplMap1 ++ uplMap2

/-- Registers of block MEM, part 1. -/
def memMap1 : List RegDef :=
  [⟨.MEM_CFG, 0x0, [], 0, [⟨16, 8, .ro, 0⟩, ⟨8, 8, .ro, 0⟩, ⟨0, 8, .ro, 0⟩]⟩,
   ⟨.MEM_STAT, 0x4, [], 0, [⟨16, 8, .ro, 0⟩, ⟨8, 4, .ro, 0⟩, ⟨0, 1, .ro, 0⟩]⟩,
   ⟨.MEM_SCRUB_CFG, 0x8, [], 0, [⟨31, 1, .rw, 1⟩, ⟨0, 10, .rw, 0x18⟩]⟩,
   ⟨.MEM_ECC_CFG, 0xC, [], 0, [⟨0, 16, .rw, 0x3E8⟩]⟩,
   ⟨.MEM_CH_STAT, 0x1000, [(0x100, 8)], 0, [⟨28, 4, .ro, 0⟩, ⟨24, 4, .ro, 0⟩, ⟨1, 1, .ro, 0⟩]⟩,
   ⟨.MEM_CH_SHARE01, 0x1004, [(0x100, 8)], 0, [⟨16, 11, .ro, 0⟩, ⟨0, 11, .ro, 0⟩]⟩,
   ⟨.MEM_CH_SHARE23, 0x1008, [(0x100, 8)], 0, [⟨16, 11, .ro, 0⟩, ⟨0, 11, .ro, 0⟩]⟩,
   ⟨.MEM_CH_ERR_ADDR_LO, 0x1010, [(0x100, 8)], 0, [⟨0, 32, .ro, 0⟩]⟩,
   ⟨.MEM_CH_ERR_ADDR_HI, 0x1014, [(0x100, 8)], 0, [⟨0, 16, .ro, 0⟩]⟩,
   ⟨.MEM_CH_ERR_INFO, 0x1018, [(0x100, 8)], 0, [⟨30, 2, .ro, 0⟩, ⟨28, 2, .ro, 0⟩, ⟨27, 1, .ro, 0⟩]⟩,
   ⟨.MEM_CH_CE, 0x1040, [(0x100, 8)], 0, [⟨0, 32, .cnt, 0⟩]⟩,
   ⟨.MEM_CH_UE, 0x1044, [(0x100, 8)], 0, [⟨0, 32, .cnt, 0⟩]⟩,
   ⟨.MEM_CH_SCRUB_CE, 0x1048, [(0x100, 8)], 0, [⟨0, 32, .cnt, 0⟩]⟩,
   ⟨.MEM_CH_SCRUB_UE, 0x104C, [(0x100, 8)], 0, [⟨0, 32, .cnt, 0⟩]⟩,
   ⟨.MEM_CH_ALERT, 0x1050, [(0x100, 8)], 0, [⟨0, 32, .cnt, 0⟩]⟩,
   ⟨.MEM_CH_BURSTS, 0x1060, [(0x100, 8), (0x4, 4)], 0, [⟨0, 32, .cnt, 0⟩]⟩,
   ⟨.HST_CTRL, 0x10000, [], 0, [⟨16, 10, .rw, 0x32⟩, ⟨8, 8, .rw, 0xA⟩, ⟨1, 1, .w1s, 0⟩, ⟨0, 1, .rw, 1⟩]⟩,
   ⟨.HST_STAT, 0x10004, [], 0, [⟨28, 4, .ro, 0⟩, ⟨16, 7, .ro, 0⟩, ⟨0, 13, .ro, 0⟩]⟩,
   ⟨.HST_RING_BASE, 0x10008, [], 0, [⟨0, 32, .ro, 0⟩]⟩,
   ⟨.HST_RING_SIZE, 0x1000C, [], 0, [⟨0, 32, .ro, 0⟩]⟩,
   ⟨.HST_HEAD_LO, 0x10010, [], 0, [⟨0, 32, .ro, 0⟩]⟩,
   ⟨.HST_HEAD_HI, 0x10014, [], 0, [⟨0, 32, .ro, 0⟩]⟩,
   ⟨.HST_TAIL_LO, 0x10018, [], 0, [⟨0, 32, .ro, 0⟩]⟩,
   ⟨.HST_TAIL_HI, 0x1001C, [], 0, [⟨0, 32, .ro, 0⟩]⟩]

/-- Registers of block MEM, part 2. -/
def memMap2 : List RegDef :=
  [⟨.HST_PINNED, 0x10020, [], 0, [⟨0, 32, .ro, 0⟩]⟩,
   ⟨.HST_MARKS_LOST, 0x10080, [], 0, [⟨0, 32, .cnt, 0⟩]⟩,
   ⟨.HST_DEMOTED, 0x10084, [], 0, [⟨0, 32, .cnt, 0⟩]⟩,
   ⟨.HST_RAW_SEGS, 0x10088, [], 0, [⟨0, 32, .cnt, 0⟩]⟩,
   ⟨.HST_G_RECORDS, 0x10100, [(0x10, 24)], 0, [⟨0, 32, .cnt, 0⟩]⟩,
   ⟨.HST_G_SKIPPED, 0x10104, [(0x10, 24)], 0, [⟨0, 32, .cnt, 0⟩]⟩,
   ⟨.HST_G_STALE, 0x10108, [(0x10, 24)], 0, [⟨0, 32, .cnt, 0⟩]⟩,
   ⟨.HST_MARK_CTRL, 0x11000, [], 0, [⟨29, 3, .wo, 0⟩, ⟨0, 13, .wo, 0⟩]⟩,
   ⟨.HST_MARK_STAT, 0x11010, [], 0, [⟨28, 4, .ro, 0⟩, ⟨24, 4, .ro, 0⟩, ⟨0, 13, .ro, 0⟩]⟩,
   ⟨.HST_MARK_TIME_LO, 0x11004, [], 0, [⟨0, 32, .rw, 0⟩]⟩,
   ⟨.HST_MARK_TIME_HI, 0x11008, [], 0, [⟨0, 32, .rw, 0⟩]⟩,
   ⟨.HST_MARK_PIN, 0x1100C, [], 0, [⟨0, 32, .rw, 0⟩]⟩,
   ⟨.HST_MARK_POS_LO, 0x11014, [], 0, [⟨0, 32, .ro, 0⟩]⟩,
   ⟨.HST_MARK_POS_HI, 0x11018, [], 0, [⟨0, 32, .ro, 0⟩]⟩,
   ⟨.HST_MARK_WTIME_LO, 0x1101C, [], 0, [⟨0, 32, .ro, 0⟩]⟩,
   ⟨.HST_MARK_WTIME_HI, 0x11020, [], 0, [⟨0, 32, .ro, 0⟩]⟩,
   ⟨.HST_MARK_DEMOTE, 0x11024, [], 0, [⟨16, 13, .ro, 0⟩, ⟨0, 13, .ro, 0⟩]⟩,
   ⟨.HST_RP_CTRL, 0x12000, [], 0, [⟨31, 1, .w1s, 0⟩, ⟨30, 1, .w1s, 0⟩, ⟨29, 1, .rw, 0⟩, ⟨28, 1, .rw, 0⟩, ⟨16, 3, .rw, 7⟩, ⟨0, 13, .rw, 0⟩]⟩,
   ⟨.HST_RP_GROUPS, 0x12004, [], 0, [⟨0, 24, .rw, 0xFFFFFF⟩]⟩,
   ⟨.HST_RP_ID, 0x12008, [], 0, [⟨0, 32, .rw, 0⟩]⟩,
   ⟨.HST_RP_START_LO, 0x1200C, [], 0, [⟨0, 32, .rw, 0⟩]⟩,
   ⟨.HST_RP_START_HI, 0x12010, [], 0, [⟨0, 32, .rw, 0⟩]⟩,
   ⟨.HST_RP_END_LO, 0x12014, [], 0, [⟨0, 32, .rw, 0⟩]⟩,
   ⟨.HST_RP_END_HI, 0x12018, [], 0, [⟨0, 32, .rw, 0⟩]⟩]

/-- Registers of block MEM, part 3. -/
def memMap3 : List RegDef :=
  [⟨.HST_RP_LEN, 0x1201C, [], 0, [⟨0, 32, .rw, 0⟩]⟩,
   ⟨.HST_RP_DEST_LO, 0x12020, [], 0, [⟨0, 32, .rw, 0⟩]⟩,
   ⟨.HST_RP_DEST_HI, 0x12024, [], 0, [⟨0, 16, .rw, 0⟩]⟩,
   ⟨.HST_RP_DEST_LEN, 0x12028, [], 0, [⟨0, 32, .rw, 0⟩]⟩,
   ⟨.HST_RP_LAST_ID, 0x12030, [], 0, [⟨0, 32, .ro, 0⟩]⟩,
   ⟨.HST_RP_BYTES, 0x12034, [], 0, [⟨0, 32, .ro, 0⟩]⟩,
   ⟨.HST_RP_STAT, 0x1202C, [], 0, [⟨28, 4, .ro, 0⟩, ⟨16, 3, .ro, 0⟩, ⟨1, 1, .w1c, 0⟩, ⟨0, 1, .ro, 0⟩]⟩,
   ⟨.HST_RP_DONE, 0x12040, [], 0, [⟨0, 32, .cnt, 0⟩]⟩,
   ⟨.HST_RP_FAILED, 0x12044, [], 0, [⟨0, 32, .cnt, 0⟩]⟩]

/-- Registers of block MEM. -/
def memMap : List RegDef := memMap1 ++ memMap2 ++ memMap3

/-- Registers of block STP. -/
def stpMap : List RegDef :=
  [⟨.STP_CFG, 0x0, [], 0, [⟨16, 11, .ro, 0⟩, ⟨0, 11, .ro, 0⟩]⟩,
   ⟨.STP_STAT, 0x4, [], 0, [⟨8, 1, .ro, 0⟩, ⟨0, 6, .ro, 0⟩]⟩,
   ⟨.STP_ENC_BLOCKS, 0x100, [], 0, [⟨0, 32, .cnt, 0⟩]⟩,
   ⟨.STP_DEC_BLOCKS, 0x104, [], 0, [⟨0, 32, .cnt, 0⟩]⟩,
   ⟨.STP_NO_GAIN, 0x108, [], 0, [⟨0, 32, .cnt, 0⟩]⟩,
   ⟨.STP_PIPE_FAIL, 0x10C, [], 0, [⟨0, 32, .cnt, 0⟩]⟩,
   ⟨.STP_RAW_ROWS, 0x110, [], 0, [⟨0, 32, .cnt, 0⟩]⟩,
   ⟨.STP_PARITY, 0x114, [], 0, [⟨0, 32, .cnt, 0⟩]⟩,
   ⟨.STP_JOB_CTRL, 0x1000, [(0x100, 4)], 0, [⟨31, 1, .w1s, 0⟩, ⟨30, 1, .w1s, 0⟩, ⟨28, 2, .rw, 0⟩, ⟨27, 1, .rw, 0⟩, ⟨24, 3, .rw, 0⟩, ⟨18, 6, .rw, 0⟩, ⟨0, 16, .rw, 0⟩]⟩,
   ⟨.STP_JOB_GEOM, 0x1004, [(0x100, 4)], 0, [⟨20, 1, .rw, 0⟩, ⟨16, 4, .rw, 0⟩, ⟨0, 16, .rw, 0⟩]⟩,
   ⟨.STP_JOB_SRC_LO, 0x1008, [(0x100, 4)], 0, [⟨0, 32, .rw, 0⟩]⟩,
   ⟨.STP_JOB_SRC_HI, 0x100C, [(0x100, 4)], 0, [⟨0, 16, .rw, 0⟩]⟩,
   ⟨.STP_JOB_DST_LO, 0x1010, [(0x100, 4)], 0, [⟨0, 32, .rw, 0⟩]⟩,
   ⟨.STP_JOB_DST_HI, 0x1014, [(0x100, 4)], 0, [⟨0, 16, .rw, 0⟩]⟩,
   ⟨.STP_JOB_IN_LEN, 0x1018, [(0x100, 4)], 0, [⟨0, 32, .rw, 0⟩]⟩,
   ⟨.STP_JOB_DST_LEN, 0x101C, [(0x100, 4)], 0, [⟨0, 32, .rw, 0⟩]⟩,
   ⟨.STP_JOB_OUT, 0x1024, [(0x100, 4)], 0, [⟨0, 32, .ro, 0⟩]⟩,
   ⟨.STP_JOB_LAST_TAG, 0x1028, [(0x100, 4)], 0, [⟨0, 16, .ro, 0⟩]⟩,
   ⟨.STP_JOB_DONE, 0x102C, [(0x100, 4)], 0, [⟨0, 32, .cnt, 0⟩]⟩,
   ⟨.STP_JOB_FAILED, 0x1030, [(0x100, 4)], 0, [⟨0, 32, .cnt, 0⟩]⟩,
   ⟨.STP_JOB_NOTE_DROP, 0x1034, [(0x100, 4)], 0, [⟨0, 32, .cnt, 0⟩]⟩,
   ⟨.STP_JOB_STAT, 0x1020, [(0x100, 4)], 0, [⟨28, 4, .ro, 0⟩, ⟨16, 3, .ro, 0⟩, ⟨1, 1, .w1c, 0⟩, ⟨0, 1, .ro, 0⟩]⟩]

/-- Registers of block DMA. -/
def dmaMap : List RegDef :=
  [⟨.DMA_INT_STAT, 0x0, [], 0, [⟨0, 32, .ro, 0⟩]⟩,
   ⟨.DMA_CH_CTRL, 0x1000, [(0x40, 32)], 0, [⟨3, 1, .rw, 1⟩, ⟨2, 1, .w1s, 0⟩, ⟨1, 1, .w1s, 0⟩, ⟨0, 1, .w1s, 0⟩]⟩,
   ⟨.DMA_CH_STAT, 0x1004, [(0x40, 32)], 0, [⟨28, 4, .ro, 0⟩, ⟨24, 4, .ro, 0⟩, ⟨3, 1, .w1c, 0⟩, ⟨2, 1, .w1c, 0⟩, ⟨1, 1, .w1c, 0⟩, ⟨0, 1, .w1c, 0⟩]⟩,
   ⟨.DMA_CH_NEXT_LO, 0x1008, [(0x40, 32)], 0, [⟨0, 32, .rw, 0⟩]⟩,
   ⟨.DMA_CH_NEXT_HI, 0x100C, [(0x40, 32)], 0, [⟨0, 16, .rw, 0⟩]⟩,
   ⟨.DMA_CH_CUR_LO, 0x1010, [(0x40, 32)], 0, [⟨0, 32, .ro, 0⟩]⟩,
   ⟨.DMA_CH_CUR_HI, 0x1014, [(0x40, 32)], 0, [⟨0, 16, .ro, 0⟩]⟩,
   ⟨.DMA_CH_HOP_LIMIT, 0x1018, [(0x40, 32)], 0, [⟨0, 20, .rw, 0x10000⟩]⟩,
   ⟨.DMA_CH_HOP_COUNT, 0x101C, [(0x40, 32)], 0, [⟨0, 20, .ro, 0⟩]⟩,
   ⟨.DMA_CH_FAIL_ADDR_LO, 0x1020, [(0x40, 32)], 0, [⟨0, 32, .ro, 0⟩]⟩,
   ⟨.DMA_CH_FAIL_ADDR_HI, 0x1024, [(0x40, 32)], 0, [⟨0, 16, .ro, 0⟩]⟩,
   ⟨.DMA_CH_FAIL_INFO, 0x1028, [(0x40, 32)], 0, [⟨28, 4, .ro, 0⟩]⟩,
   ⟨.DMA_CH_DONE_BYTES, 0x102C, [(0x40, 32)], 0, [⟨0, 32, .ro, 0⟩]⟩,
   ⟨.DMA_CH_DESCS, 0x1030, [(0x40, 32)], 0, [⟨0, 32, .cnt, 0⟩]⟩,
   ⟨.DMA_CH_BYTES, 0x1034, [(0x40, 32)], 0, [⟨0, 32, .cnt, 0⟩]⟩,
   ⟨.DMA_CH_HALTS, 0x1038, [(0x40, 32)], 0, [⟨0, 32, .cnt, 0⟩]⟩]

/-- Registers of block HWK. -/
def hwkMap : List RegDef :=
  [⟨.HWK_CFG, 0x0, [], 0, [⟨0, 10, .rw, 0xA⟩]⟩,
   ⟨.HWK_INT_LO, 0x8, [], 0, [⟨0, 32, .ro, 0⟩]⟩,
   ⟨.HWK_INT_HI, 0xC, [], 0, [⟨0, 32, .ro, 0⟩]⟩,
   ⟨.HWK_Q_CTRL, 0x1000, [(0x80, 64)], 0, [⟨2, 1, .rw, 0⟩, ⟨1, 1, .w1s, 0⟩, ⟨0, 1, .w1s, 0⟩]⟩,
   ⟨.HWK_Q_CFG, 0x1004, [(0x80, 64)], 0, [⟨31, 1, .rw, 0⟩, ⟨0, 20, .rw, 0⟩]⟩,
   ⟨.HWK_Q_STAT, 0x1008, [(0x80, 64)], 0, [⟨31, 1, .ro, 0⟩, ⟨30, 1, .ro, 1⟩, ⟨29, 1, .w1c, 0⟩, ⟨28, 1, .w1c, 0⟩, ⟨27, 1, .w1c, 0⟩, ⟨26, 1, .w1c, 0⟩, ⟨25, 1, .w1c, 0⟩, ⟨24, 1, .ro, 0⟩, ⟨23, 1, .ro, 1⟩, ⟨0, 20, .ro, 0⟩]⟩,
   ⟨.HWK_Q_CAP, 0x100C, [(0x80, 64)], 0, [⟨0, 20, .ro, 0x20⟩]⟩,
   ⟨.HWK_Q_WHDR, 0x1010, [(0x80, 64)], 0, [⟨0, 32, .wo, 0⟩]⟩,
   ⟨.HWK_Q_WDATA, 0x1014, [(0x80, 64)], 0, [⟨0, 32, .wo, 0⟩]⟩,
   ⟨.HWK_Q_RHDR, 0x1018, [(0x80, 64)], 0, [⟨0, 32, .ro, 0⟩]⟩,
   ⟨.HWK_Q_RDATA, 0x101C, [(0x80, 64)], 0, [⟨0, 32, .ro, 0⟩]⟩,
   ⟨.HWK_Q_RSTAT, 0x1020, [(0x80, 64)], 0, [⟨1, 7, .ro, 0⟩, ⟨0, 1, .ro, 0⟩]⟩,
   ⟨.HWK_Q_IN, 0x1040, [(0x80, 64)], 0, [⟨0, 32, .cnt, 0⟩]⟩,
   ⟨.HWK_Q_OUT, 0x1044, [(0x80, 64)], 0, [⟨0, 32, .cnt, 0⟩]⟩,
   ⟨.HWK_Q_OVR, 0x1048, [(0x80, 64)], 0, [⟨0, 32, .cnt, 0⟩]⟩,
   ⟨.HWK_Q_FLUSHED, 0x104C, [(0x80, 64)], 0, [⟨0, 32, .cnt, 0⟩]⟩,
   ⟨.HWK_Q_SPILLED, 0x1050, [(0x80, 64)], 0, [⟨0, 32, .cnt, 0⟩]⟩,
   ⟨.HWK_Q_POISONED, 0x1054, [(0x80, 64)], 0, [⟨0, 32, .cnt, 0⟩]⟩,
   ⟨.HWK_Q_CE, 0x1058, [(0x80, 64)], 0, [⟨0, 32, .cnt, 0⟩]⟩,
   ⟨.HWK_Q_UE, 0x105C, [(0x80, 64)], 0, [⟨0, 32, .cnt, 0⟩]⟩]

/-- Registers of block CVU. -/
def cvuMap : List RegDef :=
  [⟨.CVU_CTRL, 0x0, [(0x100, 16)], 0, [⟨0, 1, .w1s, 0⟩]⟩,
   ⟨.CVU_CFG, 0x4, [(0x100, 16)], 0, [⟨29, 3, .rw, 0⟩, ⟨28, 1, .rw, 0⟩, ⟨27, 1, .rw, 0⟩, ⟨16, 5, .rw, 0x1F⟩, ⟨0, 1, .w1c, 0⟩]⟩,
   ⟨.CVU_POLY, 0x8, [(0x100, 16)], 0, [⟨0, 32, .rw, 0⟩]⟩,
   ⟨.CVU_INIT, 0xC, [(0x100, 16)], 0, [⟨0, 32, .rw, 0⟩]⟩,
   ⟨.CVU_XOROUT, 0x10, [(0x100, 16)], 0, [⟨0, 32, .rw, 0⟩]⟩,
   ⟨.CVU_VALUE, 0x14, [(0x100, 16)], 0, [⟨0, 32, .rw, 0xFFFFFFFF⟩]⟩,
   ⟨.CVU_RESULT, 0x18, [(0x100, 16)], 0, [⟨0, 32, .ro, 0⟩]⟩,
   ⟨.CVU_FEED8, 0x20, [(0x100, 16)], 0, [⟨0, 32, .wo, 0⟩]⟩,
   ⟨.CVU_FEED16, 0x24, [(0x100, 16)], 0, [⟨0, 32, .wo, 0⟩]⟩,
   ⟨.CVU_FEED32, 0x28, [(0x100, 16)], 0, [⟨0, 32, .wo, 0⟩]⟩,
   ⟨.CVU_ALIVE_CFG, 0x30, [(0x100, 16)], 0, [⟨31, 1, .w1s, 0⟩, ⟨8, 1, .rw, 0⟩, ⟨0, 2, .rw, 0⟩]⟩,
   ⟨.CVU_ALIVE_IN, 0x34, [(0x100, 16)], 0, [⟨0, 32, .wo, 0⟩]⟩,
   ⟨.CVU_ALIVE_STAT, 0x38, [(0x100, 16)], 0, [⟨28, 4, .ro, 0⟩]⟩,
   ⟨.CVU_ALIVE_LAST, 0x3C, [(0x100, 16)], 0, [⟨0, 32, .ro, 0⟩]⟩,
   ⟨.CVU_ALIVE_OK, 0x40, [(0x100, 16)], 0, [⟨0, 32, .cnt, 0⟩]⟩,
   ⟨.CVU_ALIVE_REPEAT, 0x44, [(0x100, 16)], 0, [⟨0, 32, .cnt, 0⟩]⟩,
   ⟨.CVU_ALIVE_MISSING, 0x48, [(0x100, 16)], 0, [⟨0, 32, .cnt, 0⟩]⟩]

/-- Registers of block FLT. -/
def fltMap : List RegDef :=
  [⟨.FLT_SUMMARY, 0x0, [], 0, [⟨29, 3, .ro, 0⟩, ⟨28, 1, .ro, 0⟩, ⟨27, 1, .ro, 0⟩, ⟨16, 11, .ro, 0⟩, ⟨0, 11, .ro, 0⟩]⟩,
   ⟨.FLT_CTRL, 0x4, [], 0, [⟨0, 1, .w1s, 0⟩]⟩,
   ⟨.FLT_NOTIFY, 0x8, [], 0, [⟨31, 1, .rw, 0⟩, ⟨28, 3, .rw, 0⟩, ⟨22, 6, .rw, 0⟩, ⟨16, 3, .rw, 1⟩]⟩,
   ⟨.FLT_ALIVE, 0xC, [], 0, [⟨31, 1, .ro, 0⟩, ⟨16, 3, .rw, 4⟩, ⟨0, 10, .rw, 0x32⟩]⟩,
   ⟨.FLT_GRP, 0x100, [(0x4, 48)], 0, [⟨0, 32, .w1c, 0⟩]⟩,
   ⟨.FLT_LIVE, 0x200, [(0x4, 48)], 0, [⟨0, 32, .ro, 0⟩]⟩,
   ⟨.FLT_SEV, 0x1000, [(0x4, 192)], 0, [⟨3, 1, .rw, 0⟩, ⟨0, 3, .rw, 0⟩, ⟨7, 1, .rw, 0⟩, ⟨4, 3, .rw, 0⟩, ⟨11, 1, .rw, 0⟩, ⟨8, 3, .rw, 0⟩, ⟨15, 1, .rw, 0⟩, ⟨12, 3, .rw, 0⟩, ⟨19, 1, .rw, 0⟩, ⟨16, 3, .rw, 0⟩, ⟨23, 1, .rw, 0⟩, ⟨20, 3, .rw, 0⟩, ⟨27, 1, .rw, 0⟩, ⟨24, 3, .rw, 0⟩, ⟨31, 1, .rw, 0⟩, ⟨28, 3, .rw, 0⟩]⟩,
   ⟨.FLT_RAISED, 0x40, [], 0, [⟨0, 32, .cnt, 0⟩]⟩,
   ⟨.FLT_ESCALATED, 0x44, [], 0, [⟨0, 32, .cnt, 0⟩]⟩,
   ⟨.FLT_CONSEQ, 0x48, [], 0, [⟨0, 32, .cnt, 0⟩]⟩,
   ⟨.FLT_TAPINGS, 0x4C, [], 0, [⟨0, 32, .cnt, 0⟩]⟩,
   ⟨.FLT_RETURNS, 0x50, [], 0, [⟨0, 32, .cnt, 0⟩]⟩,
   ⟨.FLT_HELD, 0x54, [], 0, [⟨0, 32, .cnt, 0⟩]⟩,
   ⟨.FLT_NOTE_DROP, 0x58, [], 0, [⟨0, 32, .cnt, 0⟩]⟩,
   ⟨.FLT_SNAG_STAT, 0x10000, [(0x10, 1536)], 0, [⟨31, 1, .w1c, 0⟩, ⟨30, 1, .ro, 0⟩, ⟨29, 1, .w1c, 0⟩, ⟨26, 3, .ro, 0⟩]⟩,
   ⟨.FLT_SNAG_COUNT, 0x10004, [(0x10, 1536)], 0, [⟨0, 32, .ro, 0⟩]⟩,
   ⟨.FLT_SNAG_TIME_LO, 0x10008, [(0x10, 1536)], 0, [⟨0, 32, .ro, 0⟩]⟩,
   ⟨.FLT_SNAG_TIME_HI, 0x1000C, [(0x10, 1536)], 0, [⟨0, 32, .ro, 0⟩]⟩,
   ⟨.FLT_KIND_CFG, 0x2000, [(0x4, 13)], 0, [⟨16, 16, .rw, 0x3E8⟩, ⟨12, 4, .rw, 3⟩, ⟨0, 12, .rw, 0x3C⟩]⟩,
   ⟨.FLT_UNIT, 0x40000, [(0x1000, 13), (0x4, 1024)], 0, [⟨28, 4, .ro, 0⟩, ⟨27, 1, .ro, 0⟩, ⟨24, 3, .ro, 0⟩, ⟨20, 4, .ro, 0⟩, ⟨16, 1, .ro, 0⟩, ⟨15, 1, .w1s, 0⟩, ⟨14, 1, .w1s, 0⟩, ⟨0, 11, .ro, 0⟩]⟩]

/-- Registers of block SEC. -/
def secMap : List RegDef :=
  [⟨.SEC_LC_STAT, 0x0, [], 0, [⟨28, 4, .ro, 0⟩, ⟨24, 4, .ro, 0⟩, ⟨16, 8, .ro, 0⟩, ⟨2, 1, .ro, 0⟩, ⟨0, 2, .ro, 0⟩]⟩,
   ⟨.SEC_LC_CTRL, 0x4, [], 0, [⟨28, 4, .rw, 0⟩, ⟨20, 4, .rw, 0⟩, ⟨0, 1, .w1s, 0⟩]⟩,
   ⟨.SEC_POLICY, 0x8, [], 0, [⟨31, 1, .rw, 0⟩, ⟨30, 1, .rw, 0⟩, ⟨28, 2, .rw, 2⟩, ⟨26, 2, .rw, 2⟩, ⟨0, 3, .rw, 0⟩]⟩,
   ⟨.SEC_KEY_CTRL, 0xC, [], 0, [⟨31, 1, .w1s, 0⟩, ⟨28, 3, .rw, 0⟩, ⟨24, 4, .ro, 0⟩, ⟨23, 1, .ro, 0⟩, ⟨0, 4, .rw, 0⟩]⟩,
   ⟨.SEC_RB_CTRL, 0x18, [], 0, [⟨28, 4, .ro, 0⟩, ⟨8, 1, .w1s, 0⟩, ⟨0, 8, .rw, 0⟩]⟩,
   ⟨.SEC_DBG_CTRL, 0x200, [], 0, [⟨2, 2, .rw, 0⟩, ⟨1, 1, .w1s, 0⟩, ⟨0, 1, .w1s, 0⟩]⟩,
   ⟨.SEC_DBG_STAT, 0x204, [], 0, [⟨28, 4, .ro, 0⟩, ⟨24, 4, .ro, 0⟩, ⟨20, 4, .ro, 0⟩, ⟨18, 2, .ro, 0⟩, ⟨16, 2, .ro, 0⟩]⟩,
   ⟨.SEC_DBG_CORE, 0x208, [], 0, [⟨4, 4, .ro, 0⟩, ⟨0, 4, .rw, 0⟩]⟩,
   ⟨.SEC_KEY_STAT, 0x10, [], 0, [⟨16, 16, .ro, 0⟩, ⟨0, 16, .ro, 0⟩]⟩,
   ⟨.SEC_KEY_PQ, 0x14, [], 0, [⟨0, 8, .ro, 0⟩]⟩,
   ⟨.SEC_UID, 0x20, [(0x4, 4)], 0, [⟨0, 32, .ro, 0⟩]⟩,
   ⟨.SEC_NONCE, 0x40, [(0x4, 8)], 0, [⟨0, 32, .ro, 0⟩]⟩,
   ⟨.SEC_TOKEN, 0x100, [(0x4, 24)], 0, [⟨0, 32, .wo, 0⟩]⟩,
   ⟨.SEC_DBG_CERT, 0x300, [(0x4, 64)], 0, [⟨0, 32, .wo, 0⟩]⟩,
   ⟨.SEC_DBG_PUB, 0x400, [(0x4, 24)], 0, [⟨0, 32, .ro, 0⟩]⟩,
   ⟨.SEC_KEY_DATA, 0x1000, [(0x4, 512)], 0, [⟨0, 32, .wo, 0⟩]⟩]

/-- Registers of block BOT. -/
def botMap : List RegDef :=
  [⟨.BOT_CKPT_CTRL, 0x800, [], 0, [⟨16, 16, .rw, 0x258⟩, ⟨1, 1, .rw, 1⟩, ⟨0, 1, .w1s, 0⟩]⟩,
   ⟨.BOT_CKPT_STAT, 0x804, [], 0, [⟨16, 16, .ro, 0⟩, ⟨4, 4, .ro, 0⟩, ⟨2, 1, .ro, 0⟩, ⟨1, 1, .w1c, 0⟩, ⟨0, 1, .ro, 0⟩]⟩,
   ⟨.BOT_CKPT_TIME_LO, 0x808, [], 0, [⟨0, 32, .ro, 0⟩]⟩,
   ⟨.BOT_CKPT_TIME_HI, 0x80C, [], 0, [⟨0, 32, .ro, 0⟩]⟩,
   ⟨.BOT_CKPT_AREA, 0x810, [], 0, [⟨24, 8, .ro, 0⟩, ⟨0, 16, .ro, 0⟩]⟩,
   ⟨.BOT_STAT, 0x0, [], 0, [⟨28, 4, .ro, 0⟩, ⟨20, 8, .ro, 0⟩, ⟨17, 3, .ro, 0⟩, ⟨16, 1, .ro, 0⟩, ⟨15, 1, .ro, 0⟩, ⟨14, 1, .ro, 0⟩, ⟨12, 2, .ro, 0⟩, ⟨0, 1, .ro, 0⟩]⟩,
   ⟨.BOT_STRAP, 0x4, [], 0, [⟨0, 3, .ro, 0⟩]⟩,
   ⟨.BOT_CTRL, 0x8, [], 0, [⟨2, 1, .w1s, 0⟩, ⟨1, 1, .w1s, 0⟩, ⟨0, 1, .w1s, 0⟩]⟩,
   ⟨.BOT_FORGET_UNIT, 0xC, [], 0, [⟨0, 8, .wo, 0⟩]⟩,
   ⟨.BOT_SEQ, 0x10, [], 0, [⟨0, 32, .ro, 0⟩]⟩,
   ⟨.BOT_HWIF, 0x14, [], 0, [⟨24, 8, .ro, 1⟩, ⟨16, 8, .ro, 3⟩, ⟨8, 8, .ro, 1⟩, ⟨4, 4, .ro, 1⟩, ⟨0, 4, .ro, 0⟩]⟩,
   ⟨.BOT_FW_INFO, 0x18, [], 0, [⟨24, 8, .ro, 0⟩, ⟨16, 8, .ro, 0⟩, ⟨8, 8, .ro, 0⟩, ⟨0, 8, .ro, 0⟩]⟩,
   ⟨.BOT_JNL_NEXT, 0x20, [], 0, [⟨0, 13, .ro, 0⟩]⟩,
   ⟨.BOT_JNL_IDX, 0x24, [], 0, [⟨0, 13, .rw, 0⟩]⟩,
   ⟨.BOT_JNL_REC, 0x40, [(0x4, 8)], 0, [⟨0, 32, .ro, 0⟩]⟩,
   ⟨.BOT_DEC, 0x100, [(0x4, 256)], 0, [⟨0, 32, .ro, 0⟩]⟩]

/-- Registers of block TST. -/
def tstMap : List RegDef :=
  [⟨.TST_LANE_CTRL, 0x10000, [(0x100, 200)], 0, [⟨29, 3, .rw, 0⟩, ⟨26, 3, .rw, 0⟩, ⟨25, 1, .rw, 0⟩, ⟨24, 1, .w1s, 0⟩, ⟨22, 2, .rw, 0⟩, ⟨0, 7, .rw, 0x7F⟩]⟩,
   ⟨.TST_LANE_STAT, 0x10004, [(0x100, 200)], 0, [⟨31, 1, .ro, 0⟩, ⟨30, 1, .ro, 0⟩, ⟨26, 4, .ro, 0⟩, ⟨25, 1, .w1c, 0⟩]⟩,
   ⟨.TST_USER, 0x10008, [(0x100, 200), (0x4, 4)], 0, [⟨0, 32, .rw, 0⟩]⟩,
   ⟨.TST_ERR_LO, 0x10020, [(0x100, 200)], 0, [⟨0, 32, .cnt, 0⟩]⟩,
   ⟨.TST_ERR_HI, 0x10024, [(0x100, 200)], 0, [⟨0, 32, .cnt, 0⟩]⟩,
   ⟨.TST_BITS_LO, 0x10028, [(0x100, 200)], 0, [⟨0, 32, .cnt, 0⟩]⟩,
   ⟨.TST_BITS_HI, 0x1002C, [(0x100, 200)], 0, [⟨0, 32, .cnt, 0⟩]⟩,
   ⟨.TST_LOCK_LOSS, 0x10030, [(0x100, 200)], 0, [⟨0, 32, .cnt, 0⟩]⟩,
   ⟨.TST_EYE_ERR, 0x10048, [(0x100, 200)], 0, [⟨0, 32, .ro, 0⟩]⟩,
   ⟨.TST_EYE_CTRL, 0x10040, [(0x100, 200)], 0, [⟨31, 1, .w1s, 0⟩, ⟨25, 6, .rw, 0⟩, ⟨16, 9, .rw, 0⟩, ⟨14, 2, .rw, 0⟩, ⟨8, 6, .rw, 0x14⟩]⟩,
   ⟨.TST_EYE_STAT, 0x10044, [(0x100, 200)], 0, [⟨31, 1, .ro, 0⟩, ⟨30, 1, .w1c, 0⟩, ⟨29, 1, .w1c, 0⟩, ⟨28, 1, .w1c, 0⟩]⟩,
   ⟨.TST_STAT, 0x0, [], 0, [⟨8, 8, .ro, 0⟩, ⟨0, 8, .ro, 0⟩]⟩,
   ⟨.TST_BCAST_CTRL, 0x10, [], 0, [⟨29, 3, .rw, 0⟩, ⟨26, 3, .rw, 0⟩, ⟨25, 1, .rw, 0⟩, ⟨22, 2, .rw, 0⟩, ⟨0, 7, .rw, 0x7F⟩]⟩,
   ⟨.TST_BCAST_GO, 0x14, [], 0, [⟨0, 1, .wo, 0⟩]⟩,
   ⟨.TST_BCAST_MASK, 0x20, [(0x4, 7)], 0, [⟨0, 32, .rw, 0⟩]⟩]

/-- Registers of block THM. -/
def thmMap : List RegDef :=
  [⟨.THM_TEMP, 0x0, [(0x4, 16)], 0, [⟨31, 1, .ro, 0⟩, ⟨0, 13, .ro, 0⟩]⟩,
   ⟨.THM_SHED_CFG, 0x40, [], 0, [⟨16, 16, .rw, 0xA⟩, ⟨0, 16, .rw, 0x64⟩]⟩,
   ⟨.THM_STAT, 0x44, [], 0, [⟨31, 1, .ro, 0⟩, ⟨30, 1, .ro, 0⟩, ⟨29, 1, .ro, 0⟩, ⟨16, 8, .ro, 0⟩, ⟨0, 13, .ro, 0⟩]⟩,
   ⟨.THM_PWR_CTRL, 0x100, [], 0, [⟨31, 1, .w1s, 0⟩, ⟨0, 2, .rw, 0⟩]⟩,
   ⟨.THM_PWR_STAT, 0x104, [], 0, [⟨28, 4, .ro, 0⟩, ⟨24, 4, .ro, 0⟩, ⟨20, 4, .ro, 0⟩, ⟨16, 4, .ro, 0⟩]⟩,
   ⟨.THM_WAKE_CFG, 0x108, [], 0, [⟨31, 1, .rw, 1⟩, ⟨30, 1, .rw, 0⟩, ⟨0, 24, .rw, 0xE10⟩]⟩]

end Sys2Proof.Machine
end

