-- ==== Sys2Proof/Machine/Map.lean ====
section
/-! DEFINITION. The management address space (R554): which block, window or register an address names. -/

namespace Sys2Proof.Machine

/-- What a management address names: a register block with the offset in it, the Render table window of a port (R154), the Skim RAM
window of a port (R188), or no window. -/
inductive Target where
  | reg (b : Blk) (off : Nat)
  | table (e off : Nat)
  | skimRam (e off : Nat)
  | none
  deriving DecidableEq, Repr

/-- The windows of the register blocks (R554): first address, size, block. -/
def regWindows : List (Nat × Nat × Blk) :=
  [(0x00000000, 0x100000, .glb), (0x00100000, 0x10000, .chk), (0x01000000, 0xC00000, .vsp), (0x02000000, 0xC00000, .rnd),
   (0x03000000, 0x180000, .sem), (0x03400000, 0x180000, .stn), (0x03800000, 0x10000, .plb), (0x04000000, 0x10000, .upl),
   (0x05000000, 0x20000, .mem), (0x05400000, 0x10000, .stp), (0x05600000, 0x10000, .dma), (0x05800000, 0x10000, .hwk),
   (0x05A00000, 0x10000, .cvu), (0x06000000, 0x100000, .flt), (0x07000000, 0x10000, .sec), (0x07800000, 0x10000, .bot),
   (0x08000000, 0x20000, .tst), (0x08800000, 0x10000, .thm)]

/-- What management address `a` names (R554). -/
def decodeAddr (a : Nat) : Target :=
  match regWindows.find? (fun w => decide (w.1 ≤ a ∧ a < w.1 + w.2.1)) with
  | some w => .reg w.2.2 (a - w.1)
  | none =>
    if 0x10000000 ≤ a ∧ a < 0x13000000 then .table (a % 0x10000000 / 0x40000) (a % 0x40000)
    else if 0x13000000 ≤ a ∧ a < 0x13300000 then .skimRam (a % 0x1000000 / 0x4000) (a % 0x4000)
    else .none

/-- The register map of a block. -/
def blkMap : Blk → List RegDef
  | .glb => glbMap | .chk => chkMap | .vsp => vspMap | .rnd => rndMap | .sem => semMap | .stn => stnMap
  | .plb => plbMap | .upl => uplMap | .mem => memMap | .stp => stpMap | .dma => dmaMap | .hwk => hwkMap
  | .cvu => cvuMap | .flt => fltMap | .sec => secMap | .bot => botMap | .tst => tstMap | .thm => thmMap

/-- The instance indexes of the register at distance `d` from the first instance, over the dimensions (stride, count). -/
def instIx : List (Nat × Nat) → Nat → Option (List Nat)
  | [], d => if d = 0 then some [] else none
  | (st, n) :: t, d => if d / st < n then (instIx t (d % st)).map (d / st :: ·) else none

/-- A register found at an address: its definition, block, offset and instance indexes. -/
structure Found where
  rdef : RegDef
  blk  : Blk
  off  : Nat
  ix   : List Nat
  deriving DecidableEq, Repr

/-- The register among `m` at offset `off` of block `b`. -/
def findIn (b : Blk) (off : Nat) : List RegDef → Option Found
  | [] => none
  | r :: t =>
    match if r.off ≤ off then instIx r.dims (off - r.off) else none with
    | some ix => some ⟨r, b, off, ix⟩
    | none => findIn b off t

/-- The register at offset `off` of block `b`; none where the offset holds no register (R10). -/
def findReg (b : Blk) (off : Nat) : Option Found := findIn b off (blkMap b)

/-- Instance index number `k` of a found register. -/
def Found.i (f : Found) (k : Nat) : Nat := f.ix.getD k 0

/-- The handle of field `d` of a found register. -/
def Found.fld (f : Found) (d : FDef) : Fld := Fld.at f.blk f.off d.lo d.w d.rst

/-- The register that holds management address `a`. -/
def regAt (a : Nat) : Option Found :=
  match decodeAddr a with
  | .reg b off => findReg b off
  | _ => none

/-- The SH fields of the register at address `a`: field, its `_LIVE` field and low bit (R9). -/
def shAt (a : Nat) : List (Fld × Fld × Nat) :=
  match regAt a with
  | some f =>
    if f.rdef.live = 0 then []
    else (f.rdef.flds.filter (·.acc == .sh)).map
      (fun d => (f.fld d, Fld.at f.blk (f.off + f.rdef.live) d.lo d.w d.rst, d.lo))
  | none => []

end Sys2Proof.Machine
end

