-- ==== Sys2Proof/Machine/FieldsA.lean ====
section
/-! DEFINITION. Handles of the register fields of blocks GLB, CHK, VSP, RND: where each field of the register maps lies, its width and
its reset value (spec chapters 01 to 17). A handle names one field of one instance; it is used to read, write or count it. -/

namespace Sys2Proof.Machine.R

/-! ### Block GLB -/
/-! `GLB_IRQ_STAT` (R568, 17_address_map.md). -/
def GLB_IRQ_STAT_SNAP : Fld := .at .glb (0x20) 6 1 0
def GLB_IRQ_STAT_POWER : Fld := .at .glb (0x20) 5 1 0
def GLB_IRQ_STAT_MBX : Fld := .at .glb (0x20) 4 1 0
def GLB_IRQ_STAT_LATH : Fld := .at .glb (0x20) 3 1 0
/-! `GLB_IRQ_EN` (R566, 17_address_map.md). -/
def GLB_IRQ_EN_EN (i : Nat) : Fld := .at .glb (0x30 + i * 0x4) 0 8 0
/-! `GLB_SNAPSHOT` (R38, 01_dataflow_and_clock_domains.md). -/
def GLB_SNAPSHOT_SEQ : Fld := .at .glb (0x100) 8 8 0
def GLB_SNAPSHOT_MERGED : Fld := .at .glb (0x100) 3 1 0
def GLB_SNAPSHOT_VALID : Fld := .at .glb (0x100) 2 1 0
def GLB_SNAPSHOT_BUSY : Fld := .at .glb (0x100) 1 1 0
/-! `GLB_SNAP_TIME_LO` (R38, 01_dataflow_and_clock_domains.md). -/
def GLB_SNAP_TIME_LO : Fld := .at .glb (0x104) 0 32 0
/-! `GLB_SNAP_TIME_HI` (R38, 01_dataflow_and_clock_domains.md). -/
def GLB_SNAP_TIME_HI : Fld := .at .glb (0x108) 0 32 0
/-! `GLB_SNAP_CTRL` (R38, 01_dataflow_and_clock_domains.md). -/
def GLB_SNAP_CTRL_PERIOD : Fld := .at .glb (0x10C) 8 16 0
def GLB_SNAP_CTRL_HOLD : Fld := .at .glb (0x10C) 1 1 0
def GLB_SNAP_CTRL_ON_COMMIT : Fld := .at .glb (0x10C) 0 1 0
/-! `GLB_COMMIT_STAT` (R301, 08_lath_image_and_commit.md). -/
def GLB_COMMIT_STAT_SEQ : Fld := .at .glb (0x204) 24 8 0
def GLB_COMMIT_STAT_RESULT : Fld := .at .glb (0x204) 16 4 0
def GLB_COMMIT_STAT_DISCARDED : Fld := .at .glb (0x204) 1 1 0
def GLB_COMMIT_STAT_REFUSED : Fld := .at .glb (0x204) 0 1 0
/-! `GLB_COMMIT_TIME_LO` (R302, 08_lath_image_and_commit.md). -/
def GLB_COMMIT_TIME_LO : Fld := .at .glb (0x20C) 0 32 0
/-! `GLB_COMMIT_TIME_HI` (R302, 08_lath_image_and_commit.md). -/
def GLB_COMMIT_TIME_HI : Fld := .at .glb (0x210) 0 32 0
/-! `GLB_LATH_CTRL` (R303, 08_lath_image_and_commit.md). -/
def GLB_LATH_CTRL_KIND : Fld := .at .glb (0x300) 1 1 0
/-! `GLB_LATH_ADDR_LO` (R306, 08_lath_image_and_commit.md). -/
def GLB_LATH_ADDR_LO : Fld := .at .glb (0x304) 0 32 0
/-! `GLB_LATH_ADDR_HI` (R306, 08_lath_image_and_commit.md). -/
def GLB_LATH_ADDR_HI_ADDR : Fld := .at .glb (0x308) 0 16 0
/-! `GLB_LATH_LEN` (R292, 08_lath_image_and_commit.md). -/
def GLB_LATH_LEN : Fld := .at .glb (0x30C) 0 32 0
/-! `GLB_LATH_STAT` (R304, 08_lath_image_and_commit.md). -/
def GLB_LATH_STAT_STATE : Fld := .at .glb (0x310) 28 4 0
def GLB_LATH_STAT_STATUS : Fld := .at .glb (0x310) 20 8 0
def GLB_LATH_STAT_REFUSED : Fld := .at .glb (0x310) 16 1 0
def GLB_LATH_STAT_SECTION : Fld := .at .glb (0x310) 0 16 0xFFFF
/-! `GLB_LATH_INFO` (R305, 08_lath_image_and_commit.md). -/
def GLB_LATH_INFO_PARTIALS : Fld := .at .glb (0x314) 16 8 0
def GLB_LATH_INFO_FMT_MINOR : Fld := .at .glb (0x314) 8 8 0
def GLB_LATH_INFO_UNKNOWN_SKIPPED : Fld := .at .glb (0x314) 7 1 0
/-! `GLB_IMAGE_ID` (R277, 08_lath_image_and_commit.md). -/
def GLB_IMAGE_ID (i : Nat) : Fld := .at .glb (0x320 + i * 0x4) 0 32 0
/-! `GLB_LOAD` (R306, 08_lath_image_and_commit.md). -/
def GLB_LOAD_L0 (i : Nat) : Fld := .at .glb (0x340 + i * 0x4) 0 7 0
def GLB_LOAD_L1 (i : Nat) : Fld := .at .glb (0x340 + i * 0x4) 8 7 0
def GLB_LOAD_L2 (i : Nat) : Fld := .at .glb (0x340 + i * 0x4) 16 7 0
def GLB_LOAD_L3 (i : Nat) : Fld := .at .glb (0x340 + i * 0x4) 24 7 0
/-! `GLB_MBX_CMD` (R570, 17_address_map.md). -/
def GLB_MBX_CMD_CMD : Fld := .at .glb (0x400) 0 16 0
/-! `GLB_MBX_ARG` (R565, 17_address_map.md). -/
def GLB_MBX_ARG (i : Nat) : Fld := .at .glb (0x404 + i * 0x4) 0 32 0
/-! `GLB_MBX_RSP` (R565, 17_address_map.md). -/
def GLB_MBX_RSP (i : Nat) : Fld := .at .glb (0x420 + i * 0x4) 0 32 0
/-! `GLB_MBX_STAT` (R570, 17_address_map.md). -/
def GLB_MBX_STAT_BUSY : Fld := .at .glb (0x414) 31 1 0
def GLB_MBX_STAT_RESULT : Fld := .at .glb (0x414) 24 4 0
def GLB_MBX_STAT_REFUSED : Fld := .at .glb (0x414) 0 1 0
/-! `GLB_MGE_CTRL` (R571, 17_address_map.md). -/
def GLB_MGE_CTRL_LINK : Fld := .at .glb (0x500) 2 1 0
def GLB_MGE_CTRL_EN : Fld := .at .glb (0x500) 0 1 1
def GLB_MGE_CTRL_ETHERTYPE : Fld := .at .glb (0x500) 16 16 0x88B5
/-! `GLB_MGE_MAC_LO` and `GLB_MGE_MAC_HI` (R571, 17_address_map.md). -/
def GLB_MGE_MAC_LO : Fld := .at .glb (0x504) 0 32 0
def GLB_MGE_MAC_HI_MAC : Fld := .at .glb (0x508) 0 16 0

/-! ### Block CHK -/
/-! `CHK_CTRL` (R126, 03_line_packets_and_back_channel.md). -/
def CHK_CTRL_SLEW : Fld := .at .chk (0x8) 16 9 0x64
/-! `CHK_STAT` (R127, 03_line_packets_and_back_channel.md). -/
def CHK_STAT_STEP_REFUSED : Fld := .at .chk (0xC) 2 1 0
/-! `CHK_SET_LO` (R95, 03_line_packets_and_back_channel.md). -/
def CHK_SET_LO : Fld := .at .chk (0x10) 0 32 0
/-! `CHK_SET_HI` (R95, 03_line_packets_and_back_channel.md). -/
def CHK_SET_HI : Fld := .at .chk (0x14) 0 32 0
/-! `CHK_ADJ_FREQ` (R94, 03_line_packets_and_back_channel.md). -/
def CHK_ADJ_FREQ : Fld := .at .chk (0x18) 0 32 0
/-! `CHK_TG_CTRL` (R95, 03_line_packets_and_back_channel.md). -/
def CHK_TG_CTRL_EN (i : Nat) : Fld := .at .chk (0x1000 + i * 0x40) 0 1 0
/-! `CHK_TG_LEAD` (R98, 03_line_packets_and_back_channel.md). -/
def CHK_TG_LEAD_LEAD (i : Nat) : Fld := .at .chk (0x1004 + i * 0x40) 0 20 0x2710
/-! `CHK_TG_PERIOD_INT` (R129, 03_line_packets_and_back_channel.md). -/
def CHK_TG_PERIOD_INT_INT (i : Nat) : Fld := .at .chk (0x1008 + i * 0x40) 0 24 0x9C4
/-! `CHK_TG_PERIOD_FRAC` (R129, 03_line_packets_and_back_channel.md). -/
def CHK_TG_PERIOD_FRAC_FRAC (i : Nat) : Fld := .at .chk (0x100C + i * 0x40) 0 16 0
/-! `CHK_TG_START_LO` (R129, 03_line_packets_and_back_channel.md). -/
def CHK_TG_START_LO (i : Nat) : Fld := .at .chk (0x1010 + i * 0x40) 0 32 0
/-! `CHK_TG_START_HI` (R129, 03_line_packets_and_back_channel.md). -/
def CHK_TG_START_HI (i : Nat) : Fld := .at .chk (0x1014 + i * 0x40) 0 32 0
/-! `CHK_TG_L0` (R97, 03_line_packets_and_back_channel.md). -/
def CHK_TG_L0 (i : Nat) : Fld := .at .chk (0x1018 + i * 0x40) 0 32 0
/-! `CHK_TG_NEXT_LINE` (R129, 03_line_packets_and_back_channel.md). -/
def CHK_TG_NEXT_LINE (i : Nat) : Fld := .at .chk (0x101C + i * 0x40) 0 32 0
/-! `CHK_TG_STAT` (R129, 03_line_packets_and_back_channel.md). -/
def CHK_TG_STAT_WERR (i : Nat) : Fld := .at .chk (0x1020 + i * 0x40) 0 1 0

/-! ### Block VSP -/
/-! `VSP_LANE_CTRL` (R74, 02_voxest_lanes.md). -/
def VSP_LANE_CTRL_ADAPT_FREEZE (i : Nat) : Fld := .at .vsp (0x0 + i * 0x10000) 7 1 0
def VSP_LANE_CTRL_PRESET_SET (i : Nat) : Fld := .at .vsp (0x0 + i * 0x10000) 6 1 0
/-! `VSP_LANE_STAT` (R75, 02_voxest_lanes.md). -/
def VSP_LANE_STAT_RETRY_K (i : Nat) : Fld := .at .vsp (0x4 + i * 0x10000) 28 4 0
def VSP_LANE_STAT_GANG (i : Nat) : Fld := .at .vsp (0x4 + i * 0x10000) 20 2 0
def VSP_LANE_STAT_LANE (i : Nat) : Fld := .at .vsp (0x4 + i * 0x10000) 18 2 0
def VSP_LANE_STAT_RATE (i : Nat) : Fld := .at .vsp (0x4 + i * 0x10000) 16 2 0
def VSP_LANE_STAT_SIG_DET (i : Nat) : Fld := .at .vsp (0x4 + i * 0x10000) 7 1 0
def VSP_LANE_STAT_BLOCK_LOCK (i : Nat) : Fld := .at .vsp (0x4 + i * 0x10000) 6 1 0
def VSP_LANE_STAT_ALIGNED (i : Nat) : Fld := .at .vsp (0x4 + i * 0x10000) 5 1 0
def VSP_LANE_STAT_HEAD_BCL (i : Nat) : Fld := .at .vsp (0x4 + i * 0x10000) 4 1 0
def VSP_LANE_STAT_STATE (i : Nat) : Fld := .at .vsp (0x4 + i * 0x10000) 0 4 0
/-! `VSP_HEAD_ID` (R76, 02_voxest_lanes.md). -/
def VSP_HEAD_ID_HEAD_ID (i : Nat) : Fld := .at .vsp (0x8 + i * 0x10000) 0 32 0
/-! `VSP_HEAD_CAPS` (R77, 02_voxest_lanes.md). -/
def VSP_HEAD_CAPS_CHAL (i : Nat) : Fld := .at .vsp (0xC + i * 0x10000) 28 1 0
def VSP_HEAD_CAPS_RATES (i : Nat) : Fld := .at .vsp (0xC + i * 0x10000) 24 4 0
def VSP_HEAD_CAPS_FORMATS (i : Nat) : Fld := .at .vsp (0xC + i * 0x10000) 16 5 0
def VSP_HEAD_CAPS_STREAMS (i : Nat) : Fld := .at .vsp (0xC + i * 0x10000) 8 4 0
def VSP_HEAD_CAPS_MAX_LINE (i : Nat) : Fld := .at .vsp (0xC + i * 0x10000) 0 8 0
/-! `VSP_TRAIN_CFG` (R78, 02_voxest_lanes.md). -/
def VSP_TRAIN_CFG_PE_MAX (i : Nat) : Fld := .at .vsp (0x10 + i * 0x10000) 24 8 0x10
def VSP_TRAIN_CFG_EYE_MARGIN (i : Nat) : Fld := .at .vsp (0x10 + i * 0x10000) 16 8 0x18
def VSP_TRAIN_CFG_SETTLE (i : Nat) : Fld := .at .vsp (0x10 + i * 0x10000) 8 8 0x14
def VSP_TRAIN_CFG_MAX_REQ (i : Nat) : Fld := .at .vsp (0x10 + i * 0x10000) 0 6 0x30
/-! `VSP_TRAIN_STAT` (R79, 02_voxest_lanes.md). -/
def VSP_TRAIN_STAT_CAUSE (i : Nat) : Fld := .at .vsp (0x14 + i * 0x10000) 28 4 0
def VSP_TRAIN_STAT_RESTARTS (i : Nat) : Fld := .at .vsp (0x14 + i * 0x10000) 24 4 0
def VSP_TRAIN_STAT_REQS (i : Nat) : Fld := .at .vsp (0x14 + i * 0x10000) 18 6 0
def VSP_TRAIN_STAT_TRAIN_TIME (i : Nat) : Fld := .at .vsp (0x14 + i * 0x10000) 0 18 0
/-! `VSP_RX_EQ` (R80, 02_voxest_lanes.md). -/
def VSP_RX_EQ_CTLE (i : Nat) : Fld := .at .vsp (0x18 + i * 0x10000) 25 5 0xC
def VSP_RX_EQ_DFE5 (i : Nat) : Fld := .at .vsp (0x18 + i * 0x10000) 20 5 0
def VSP_RX_EQ_DFE4 (i : Nat) : Fld := .at .vsp (0x18 + i * 0x10000) 15 5 0
def VSP_RX_EQ_DFE3 (i : Nat) : Fld := .at .vsp (0x18 + i * 0x10000) 10 5 0
def VSP_RX_EQ_DFE2 (i : Nat) : Fld := .at .vsp (0x18 + i * 0x10000) 5 5 0
def VSP_RX_EQ_DFE1 (i : Nat) : Fld := .at .vsp (0x18 + i * 0x10000) 0 5 0
/-! `VSP_EYE` (R81, 02_voxest_lanes.md). -/
def VSP_EYE_PE_LAST (i : Nat) : Fld := .at .vsp (0x1C + i * 0x10000) 16 16 0
def VSP_EYE_HEIGHT (i : Nat) : Fld := .at .vsp (0x1C + i * 0x10000) 8 8 0
def VSP_EYE_WIDTH (i : Nat) : Fld := .at .vsp (0x1C + i * 0x10000) 0 8 0
/-! `VSP_LINK_TIME_LO` (R82, 02_voxest_lanes.md). -/
def VSP_LINK_TIME_LO (i : Nat) : Fld := .at .vsp (0x20 + i * 0x10000) 0 32 0
/-! `VSP_LINK_TIME_HI` (R82, 02_voxest_lanes.md). -/
def VSP_LINK_TIME_HI (i : Nat) : Fld := .at .vsp (0x24 + i * 0x10000) 0 32 0
/-! `VSP_SYNC_ERR` (R53, 02_voxest_lanes.md). -/
def VSP_SYNC_ERR (i : Nat) : Fld := .at .vsp (0x40 + i * 0x10000) 0 32 0
/-! `VSP_BLK_ERR` (R48, 02_voxest_lanes.md). -/
def VSP_BLK_ERR (i : Nat) : Fld := .at .vsp (0x44 + i * 0x10000) 0 32 0
/-! `VSP_LOCK_LOSS` (R83, 02_voxest_lanes.md). -/
def VSP_LOCK_LOSS (i : Nat) : Fld := .at .vsp (0x48 + i * 0x10000) 0 32 0
/-! `VSP_FILL_INS` (R66, 02_voxest_lanes.md). -/
def VSP_FILL_INS (i : Nat) : Fld := .at .vsp (0x4C + i * 0x10000) 0 32 0
/-! `VSP_FILL_DEL` (R66, 02_voxest_lanes.md). -/
def VSP_FILL_DEL (i : Nat) : Fld := .at .vsp (0x50 + i * 0x10000) 0 32 0
/-! `VSP_EB_ERR` (R67, 02_voxest_lanes.md). -/
def VSP_EB_ERR (i : Nat) : Fld := .at .vsp (0x54 + i * 0x10000) 0 32 0
/-! `VSP_TRAIN_ATT` (R83, 02_voxest_lanes.md). -/
def VSP_TRAIN_ATT (i : Nat) : Fld := .at .vsp (0x58 + i * 0x10000) 0 32 0
/-! `VSP_TAP_TMO` (R58, 02_voxest_lanes.md). -/
def VSP_TAP_TMO (i : Nat) : Fld := .at .vsp (0x5C + i * 0x10000) 0 32 0
/-! `VSP_ALIGN_ERR` (R83, 02_voxest_lanes.md). -/
def VSP_ALIGN_ERR (i : Nat) : Fld := .at .vsp (0x60 + i * 0x10000) 0 32 0
/-! `VSP_BIP_ERR` (R70, 02_voxest_lanes.md). -/
def VSP_BIP_ERR (i : Nat) : Fld := .at .vsp (0x64 + i * 0x10000) 0 32 0
/-! `VSP_PKT_CTRL_LIVE` (R111, 03_line_packets_and_back_channel.md). -/
def VSP_PKT_CTRL_LIVE_EXP_WIN (i : Nat) : Fld := .at .vsp (0x104 + i * 0x10000) 16 11 0x7D0
def VSP_PKT_CTRL_LIVE_ACCEPT_TEST (i : Nat) : Fld := .at .vsp (0x104 + i * 0x10000) 0 1 0
/-! `VSP_PORT_CFG` (R112, 03_line_packets_and_back_channel.md). -/
def VSP_PORT_CFG_GROUP (i : Nat) : Fld := .at .vsp (0x108 + i * 0x10000) 24 8 0xFF
def VSP_PORT_CFG_NSTREAMS_M1 (i : Nat) : Fld := .at .vsp (0x108 + i * 0x10000) 0 4 0
/-! `VSP_EXP_ID` (R89, 03_line_packets_and_back_channel.md). -/
def VSP_EXP_ID (i : Nat) : Fld := .at .vsp (0x10C + i * 0x10000) 0 32 0
/-! `VSP_STREAM` (R113, 03_line_packets_and_back_channel.md). -/
def VSP_STREAM_PIXELS (i j : Nat) : Fld := .at .vsp (0x110 + i * 0x10000 + j * 0x4) 16 15 0
def VSP_STREAM_BANDS (i j : Nat) : Fld := .at .vsp (0x110 + i * 0x10000 + j * 0x4) 8 5 0
def VSP_STREAM_FORMAT (i j : Nat) : Fld := .at .vsp (0x110 + i * 0x10000 + j * 0x4) 0 3 0
/-! `VSP_LAST_DROP` (R114, 03_line_packets_and_back_channel.md). -/
def VSP_LAST_DROP_CAUSE (i : Nat) : Fld := .at .vsp (0x150 + i * 0x10000) 28 4 0
def VSP_LAST_DROP_STREAM (i : Nat) : Fld := .at .vsp (0x150 + i * 0x10000) 24 4 0
/-! `VSP_LAST_DROP_LINE` (R89, 03_line_packets_and_back_channel.md). -/
def VSP_LAST_DROP_LINE (i : Nat) : Fld := .at .vsp (0x154 + i * 0x10000) 0 32 0
/-! `VSP_PORT_STAT` (R115, 03_line_packets_and_back_channel.md). -/
def VSP_PORT_STAT_NEW_HEAD (i : Nat) : Fld := .at .vsp (0x158 + i * 0x10000) 0 1 0
/-! `VSP_LINES_OK` (R89, 03_line_packets_and_back_channel.md). -/
def VSP_LINES_OK (i : Nat) : Fld := .at .vsp (0x180 + i * 0x10000) 0 32 0
/-! `VSP_HCRC_ERR` (R89, 03_line_packets_and_back_channel.md). -/
def VSP_HCRC_ERR (i : Nat) : Fld := .at .vsp (0x184 + i * 0x10000) 0 32 0
/-! `VSP_PCRC_ERR` (R89, 03_line_packets_and_back_channel.md). -/
def VSP_PCRC_ERR (i : Nat) : Fld := .at .vsp (0x188 + i * 0x10000) 0 32 0
/-! `VSP_TRUNC` (R89, 03_line_packets_and_back_channel.md). -/
def VSP_TRUNC (i : Nat) : Fld := .at .vsp (0x18C + i * 0x10000) 0 32 0
/-! `VSP_RANGE_ERR` (R89, 03_line_packets_and_back_channel.md). -/
def VSP_RANGE_ERR (i : Nat) : Fld := .at .vsp (0x190 + i * 0x10000) 0 32 0
/-! `VSP_ALIVE_ERR` (R89, 03_line_packets_and_back_channel.md). -/
def VSP_ALIVE_ERR (i : Nat) : Fld := .at .vsp (0x194 + i * 0x10000) 0 32 0
/-! `VSP_MISSING` (R90, 03_line_packets_and_back_channel.md). -/
def VSP_MISSING (i : Nat) : Fld := .at .vsp (0x198 + i * 0x10000) 0 32 0
/-! `VSP_NO_MATCH` (R89, 03_line_packets_and_back_channel.md). -/
def VSP_NO_MATCH (i : Nat) : Fld := .at .vsp (0x19C + i * 0x10000) 0 32 0
/-! `VSP_LATE` (R89, 03_line_packets_and_back_channel.md). -/
def VSP_LATE (i : Nat) : Fld := .at .vsp (0x1A0 + i * 0x10000) 0 32 0
/-! `VSP_EXP_ERR` (R89, 03_line_packets_and_back_channel.md). -/
def VSP_EXP_ERR (i : Nat) : Fld := .at .vsp (0x1A4 + i * 0x10000) 0 32 0
/-! `VSP_TRIG_TMO` (R91, 03_line_packets_and_back_channel.md). -/
def VSP_TRIG_TMO (i : Nat) : Fld := .at .vsp (0x1A8 + i * 0x10000) 0 32 0
/-! `VSP_TEST_LINES` (R89, 03_line_packets_and_back_channel.md). -/
def VSP_TEST_LINES (i : Nat) : Fld := .at .vsp (0x1AC + i * 0x10000) 0 32 0
/-! `VSP_CHAL_DROP` (R89, 03_line_packets_and_back_channel.md). -/
def VSP_CHAL_DROP (i : Nat) : Fld := .at .vsp (0x1B0 + i * 0x10000) 0 32 0
/-! `VSP_SAT_LINES` (R86, 03_line_packets_and_back_channel.md). -/
def VSP_SAT_LINES (i : Nat) : Fld := .at .vsp (0x1B4 + i * 0x10000) 0 32 0
/-! `VSP_UNSYNC_LINES` (R86, 03_line_packets_and_back_channel.md). -/
def VSP_UNSYNC_LINES (i : Nat) : Fld := .at .vsp (0x1B8 + i * 0x10000) 0 32 0
/-! `VSP_TRIG_SENT` (R98, 03_line_packets_and_back_channel.md). -/
def VSP_TRIG_SENT (i : Nat) : Fld := .at .vsp (0x1BC + i * 0x10000) 0 32 0
/-! `VSP_MSG_ERR` (R101, 03_line_packets_and_back_channel.md). -/
def VSP_MSG_ERR (i : Nat) : Fld := .at .vsp (0x1C0 + i * 0x10000) 0 32 0
/-! `VSP_SYNC_TMO` (R105, 03_line_packets_and_back_channel.md). -/
def VSP_SYNC_TMO (i : Nat) : Fld := .at .vsp (0x1C4 + i * 0x10000) 0 32 0
/-! `VSP_EVT_DROP` (R107, 03_line_packets_and_back_channel.md). -/
def VSP_EVT_DROP (i : Nat) : Fld := .at .vsp (0x1C8 + i * 0x10000) 0 32 0
/-! `VSP_SYNC_CFG` (R118, 03_line_packets_and_back_channel.md). -/
def VSP_SYNC_CFG_ASYM (i : Nat) : Fld := .at .vsp (0x200 + i * 0x10000) 16 16 0
/-! `VSP_SYNC_STAT` (R119, 03_line_packets_and_back_channel.md). -/
def VSP_SYNC_STAT_SYNCED (i : Nat) : Fld := .at .vsp (0x204 + i * 0x10000) 31 1 0
def VSP_SYNC_STAT_OFFSET (i : Nat) : Fld := .at .vsp (0x204 + i * 0x10000) 0 24 0
/-! `VSP_SYNC_DELAY` (R120, 03_line_packets_and_back_channel.md). -/
def VSP_SYNC_DELAY_DELAY_MIN (i : Nat) : Fld := .at .vsp (0x208 + i * 0x10000) 16 16 0
def VSP_SYNC_DELAY_DELAY (i : Nat) : Fld := .at .vsp (0x208 + i * 0x10000) 0 16 0
/-! `VSP_CMD_CTRL` (R121, 03_line_packets_and_back_channel.md). -/
def VSP_CMD_CTRL_TAG (i : Nat) : Fld := .at .vsp (0x300 + i * 0x10000) 16 16 0
def VSP_CMD_CTRL_LEN (i : Nat) : Fld := .at .vsp (0x300 + i * 0x10000) 8 8 0
/-! `VSP_CMD_STAT` (R122, 03_line_packets_and_back_channel.md). -/
def VSP_CMD_STAT_RSP_LEN (i : Nat) : Fld := .at .vsp (0x304 + i * 0x10000) 24 8 0
def VSP_CMD_STAT_STATUS (i : Nat) : Fld := .at .vsp (0x304 + i * 0x10000) 4 4 0
def VSP_CMD_STAT_REFUSED (i : Nat) : Fld := .at .vsp (0x304 + i * 0x10000) 1 1 0
def VSP_CMD_STAT_BUSY (i : Nat) : Fld := .at .vsp (0x304 + i * 0x10000) 0 1 0
/-! `VSP_CMD_CFG` (R123, 03_line_packets_and_back_channel.md). -/
def VSP_CMD_CFG_PRIO (i : Nat) : Fld := .at .vsp (0x308 + i * 0x10000) 19 3 0
def VSP_CMD_CFG_RSP_EN (i : Nat) : Fld := .at .vsp (0x308 + i * 0x10000) 18 1 0
def VSP_CMD_CFG_EVT_EN (i : Nat) : Fld := .at .vsp (0x308 + i * 0x10000) 17 1 0
def VSP_CMD_CFG_HQ (i : Nat) : Fld := .at .vsp (0x308 + i * 0x10000) 0 6 0
/-! `VSP_CMD_BUF` (R106, 03_line_packets_and_back_channel.md). -/
def VSP_CMD_BUF (i j : Nat) : Fld := .at .vsp (0x400 + i * 0x10000 + j * 0x4) 0 32 0
/-! `VSP_RSP_BUF` (R106, 03_line_packets_and_back_channel.md). -/
def VSP_RSP_BUF (i j : Nat) : Fld := .at .vsp (0x500 + i * 0x10000 + j * 0x4) 0 32 0
/-! `VSP_CHAL_CTRL` (R124, 03_line_packets_and_back_channel.md). -/
def VSP_CHAL_CTRL_ENFORCE (i : Nat) : Fld := .at .vsp (0x600 + i * 0x10000) 2 1 0
def VSP_CHAL_CTRL_AUTO (i : Nat) : Fld := .at .vsp (0x600 + i * 0x10000) 1 1 0
/-! `VSP_CHAL_STAT` (R125, 03_line_packets_and_back_channel.md). -/
def VSP_CHAL_STAT_KEY_SET (i : Nat) : Fld := .at .vsp (0x604 + i * 0x10000) 31 1 0
def VSP_CHAL_STAT_RESULT (i : Nat) : Fld := .at .vsp (0x604 + i * 0x10000) 0 4 0

/-! ### Block RND -/
/-! `RND_CTRL_LIVE` (R156, 04_render_correction.md). -/
def RND_CTRL_LIVE_OB_K (i : Nat) : Fld := .at .rnd (0x4 + i * 0x10000) 16 4 6
def RND_CTRL_LIVE_MATRIX_EN (i : Nat) : Fld := .at .rnd (0x4 + i * 0x10000) 5 1 0
def RND_CTRL_LIVE_REMAP_EN (i : Nat) : Fld := .at .rnd (0x4 + i * 0x10000) 4 1 0
def RND_CTRL_LIVE_DEFECT_EN (i : Nat) : Fld := .at .rnd (0x4 + i * 0x10000) 3 1 0
def RND_CTRL_LIVE_GAIN_EN (i : Nat) : Fld := .at .rnd (0x4 + i * 0x10000) 2 1 0
def RND_CTRL_LIVE_DARK_EN (i : Nat) : Fld := .at .rnd (0x4 + i * 0x10000) 1 1 0
def RND_CTRL_LIVE_OB_EN (i : Nat) : Fld := .at .rnd (0x4 + i * 0x10000) 0 1 0
/-! `RND_OB_CFG_LIVE` (R157, 04_render_correction.md). -/
def RND_OB_CFG_LIVE_LOG2N (i : Nat) : Fld := .at .rnd (0xC + i * 0x10000) 16 4 0
def RND_OB_CFG_LIVE_OB_FIRST (i : Nat) : Fld := .at .rnd (0xC + i * 0x10000) 0 14 0
/-! `RND_OUT_CFG` (R158, 04_render_correction.md). -/
def RND_OUT_CFG_NOUT (i : Nat) : Fld := .at .rnd (0x10 + i * 0x10000) 24 5 0
def RND_OUT_CFG_ALIGN_KIB (i : Nat) : Fld := .at .rnd (0x10 + i * 0x10000) 16 7 0
def RND_OUT_CFG_OUT_W (i : Nat) : Fld := .at .rnd (0x10 + i * 0x10000) 0 15 0
/-! `RND_IN_WINDOW` (R159, 04_render_correction.md). -/
def RND_IN_WINDOW_COUNT (i : Nat) : Fld := .at .rnd (0x14 + i * 0x10000) 16 15 0
def RND_IN_WINDOW_FIRST (i : Nat) : Fld := .at .rnd (0x14 + i * 0x10000) 0 15 0
/-! `RND_OUT_WINDOW` (R159, 04_render_correction.md). -/
def RND_OUT_WINDOW_COUNT (i : Nat) : Fld := .at .rnd (0x18 + i * 0x10000) 16 15 0
def RND_OUT_WINDOW_FIRST (i : Nat) : Fld := .at .rnd (0x18 + i * 0x10000) 0 15 0
/-! `RND_GANG` (R160, 04_render_correction.md). -/
def RND_GANG_SLICE (i : Nat) : Fld := .at .rnd (0x1C + i * 0x10000) 8 2 0
def RND_GANG_GANG (i : Nat) : Fld := .at .rnd (0x1C + i * 0x10000) 0 2 0
/-! `RND_ALIGN_D` (R161, 04_render_correction.md). -/
def RND_ALIGN_D_D3 (i j : Nat) : Fld := .at .rnd (0x20 + i * 0x10000 + j * 0x4) 24 6 0
def RND_ALIGN_D_D2 (i j : Nat) : Fld := .at .rnd (0x20 + i * 0x10000 + j * 0x4) 16 6 0
def RND_ALIGN_D_D1 (i j : Nat) : Fld := .at .rnd (0x20 + i * 0x10000 + j * 0x4) 8 6 0
def RND_ALIGN_D_D0 (i j : Nat) : Fld := .at .rnd (0x20 + i * 0x10000 + j * 0x4) 0 6 0
/-! `RND_BANK_STAT` (R163, 04_render_correction.md). -/
def RND_BANK_STAT_SWAPS (i : Nat) : Fld := .at .rnd (0x34 + i * 0x10000) 16 8 0
def RND_BANK_STAT_TBL_ERR (i : Nat) : Fld := .at .rnd (0x34 + i * 0x10000) 12 4 0
def RND_BANK_STAT_WERR (i : Nat) : Fld := .at .rnd (0x34 + i * 0x10000) 5 1 0
def RND_BANK_STAT_COPYING (i : Nat) : Fld := .at .rnd (0x34 + i * 0x10000) 4 1 0
def RND_BANK_STAT_SCHEDULED (i : Nat) : Fld := .at .rnd (0x34 + i * 0x10000) 3 1 0
def RND_BANK_STAT_ARMED (i : Nat) : Fld := .at .rnd (0x34 + i * 0x10000) 2 1 0
def RND_BANK_STAT_VALIDATING (i : Nat) : Fld := .at .rnd (0x34 + i * 0x10000) 1 1 0
def RND_BANK_STAT_ACTIVE (i : Nat) : Fld := .at .rnd (0x34 + i * 0x10000) 0 1 0
/-! `RND_STAT` (R164, 04_render_correction.md). -/
def RND_STAT_SKIM_OWNS (i : Nat) : Fld := .at .rnd (0x38 + i * 0x10000) 1 1 0
def RND_STAT_OB_RANGE (i : Nat) : Fld := .at .rnd (0x38 + i * 0x10000) 0 1 0
/-! `RND_OB_TRACK` (R165, 04_render_correction.md). -/
def RND_OB_TRACK_T (i j : Nat) : Fld := .at .rnd (0x80 + i * 0x10000 + j * 0x4) 0 24 0
/-! `RND_LINES_IN` (R141, 04_render_correction.md). -/
def RND_LINES_IN (i : Nat) : Fld := .at .rnd (0x100 + i * 0x10000) 0 32 0
/-! `RND_LINES_OUT` (R166, 04_render_correction.md). -/
def RND_LINES_OUT (i : Nat) : Fld := .at .rnd (0x104 + i * 0x10000) 0 32 0
/-! `RND_LINES_INVALID` (R141, 04_render_correction.md). -/
def RND_LINES_INVALID (i : Nat) : Fld := .at .rnd (0x108 + i * 0x10000) 0 32 0
/-! `RND_DARK_CLIP` (R136, 04_render_correction.md). -/
def RND_DARK_CLIP (i : Nat) : Fld := .at .rnd (0x10C + i * 0x10000) 0 32 0
/-! `RND_GAIN_SAT` (R137, 04_render_correction.md). -/
def RND_GAIN_SAT (i : Nat) : Fld := .at .rnd (0x110 + i * 0x10000) 0 32 0
/-! `RND_REMAP_OOR` (R144, 04_render_correction.md). -/
def RND_REMAP_OOR (i : Nat) : Fld := .at .rnd (0x114 + i * 0x10000) 0 32 0
/-! `RND_OUT_SAT` (R144, 04_render_correction.md). -/
def RND_OUT_SAT (i : Nat) : Fld := .at .rnd (0x118 + i * 0x10000) 0 32 0
/-! `RND_OB_SKIP` (R134, 04_render_correction.md). -/
def RND_OB_SKIP (i : Nat) : Fld := .at .rnd (0x11C + i * 0x10000) 0 32 0
/-! `RND_DEFECTS` (R139, 04_render_correction.md). -/
def RND_DEFECTS (i : Nat) : Fld := .at .rnd (0x120 + i * 0x10000) 0 32 0
/-! `RND_SKIM_CTRL_LIVE` (R193, 05_skim_live_calibration.md). -/
def RND_SKIM_CTRL_LIVE_K (i : Nat) : Fld := .at .rnd (0x204 + i * 0x10000) 27 5 0xC
def RND_SKIM_CTRL_LIVE_DRIFT (i : Nat) : Fld := .at .rnd (0x204 + i * 0x10000) 24 3 1
def RND_SKIM_CTRL_LIVE_NMIN (i : Nat) : Fld := .at .rnd (0x204 + i * 0x10000) 16 8 0x40
def RND_SKIM_CTRL_LIVE_GUARD (i : Nat) : Fld := .at .rnd (0x204 + i * 0x10000) 12 4 2
def RND_SKIM_CTRL_LIVE_CONV_TOL (i : Nat) : Fld := .at .rnd (0x204 + i * 0x10000) 8 4 4
def RND_SKIM_CTRL_LIVE_NEWHEAD (i : Nat) : Fld := .at .rnd (0x204 + i * 0x10000) 6 2 1
def RND_SKIM_CTRL_LIVE_FREEZE (i : Nat) : Fld := .at .rnd (0x204 + i * 0x10000) 1 1 0
def RND_SKIM_CTRL_LIVE_EXCLUDE (i : Nat) : Fld := .at .rnd (0x204 + i * 0x10000) 0 1 0
/-! `RND_SKIM_REF_LIVE` (R194, 05_skim_live_calibration.md). -/
def RND_SKIM_REF_LIVE_EN (i j : Nat) : Fld := .at .rnd (0x218 + i * 0x10000 + j * 0x4) 31 1 0
def RND_SKIM_REF_LIVE_LEN_M1 (i j : Nat) : Fld := .at .rnd (0x218 + i * 0x10000 + j * 0x4) 20 6 0
def RND_SKIM_REF_LIVE_FIRST (i j : Nat) : Fld := .at .rnd (0x218 + i * 0x10000 + j * 0x4) 0 14 0
/-! `RND_SKIM_RATIO_LIVE` (R195, 05_skim_live_calibration.md). -/
def RND_SKIM_RATIO_LIVE_REF_RATIO (i : Nat) : Fld := .at .rnd (0x214 + i * 0x10000) 0 16 0x4000
/-! `RND_SKIM_TARGET_LIVE` (R196, 05_skim_live_calibration.md). -/
def RND_SKIM_TARGET_LIVE_T1 (i j : Nat) : Fld := .at .rnd (0x240 + i * 0x10000 + j * 0x4) 16 16 0x8000
def RND_SKIM_TARGET_LIVE_T0 (i j : Nat) : Fld := .at .rnd (0x240 + i * 0x10000 + j * 0x4) 0 16 0x8000
/-! `RND_SKIM_STAT` (R197, 05_skim_live_calibration.md). -/
def RND_SKIM_STAT_STATE (i : Nat) : Fld := .at .rnd (0x260 + i * 0x10000) 28 4 0
def RND_SKIM_STAT_CAUSE (i : Nat) : Fld := .at .rnd (0x260 + i * 0x10000) 24 4 0
def RND_SKIM_STAT_RELEARN_LEFT (i : Nat) : Fld := .at .rnd (0x260 + i * 0x10000) 20 4 0
def RND_SKIM_STAT_RESTORED (i : Nat) : Fld := .at .rnd (0x260 + i * 0x10000) 2 1 0
def RND_SKIM_STAT_DRIFT (i : Nat) : Fld := .at .rnd (0x260 + i * 0x10000) 1 1 0
def RND_SKIM_STAT_HELD (i : Nat) : Fld := .at .rnd (0x260 + i * 0x10000) 0 1 0
/-! `RND_SKIM_LINES_HELD` (R174, 05_skim_live_calibration.md). -/
def RND_SKIM_LINES_HELD (i : Nat) : Fld := .at .rnd (0x280 + i * 0x10000) 0 32 0
/-! `RND_SKIM_LINES_USED` (R176, 05_skim_live_calibration.md). -/
def RND_SKIM_LINES_USED (i : Nat) : Fld := .at .rnd (0x284 + i * 0x10000) 0 32 0
/-! `RND_SKIM_MASK_TMO` (R175, 05_skim_live_calibration.md). -/
def RND_SKIM_MASK_TMO (i : Nat) : Fld := .at .rnd (0x288 + i * 0x10000) 0 32 0
/-! `RND_SKIM_MEMBER_MISS` (R175, 05_skim_live_calibration.md). -/
def RND_SKIM_MEMBER_MISS (i : Nat) : Fld := .at .rnd (0x28C + i * 0x10000) 0 32 0
/-! `RND_SKIM_SAT_DISCARD` (R176, 05_skim_live_calibration.md). -/
def RND_SKIM_SAT_DISCARD (i : Nat) : Fld := .at .rnd (0x290 + i * 0x10000) 0 32 0
/-! `RND_SKIM_UPDATES` (R178, 05_skim_live_calibration.md). -/
def RND_SKIM_UPDATES (i : Nat) : Fld := .at .rnd (0x294 + i * 0x10000) 0 32 0
/-! `RND_SKIM_CLAMPED` (R198, 05_skim_live_calibration.md). -/
def RND_SKIM_CLAMPED (i : Nat) : Fld := .at .rnd (0x298 + i * 0x10000) 0 32 0
/-! `RND_SKIM_FROZEN` (R198, 05_skim_live_calibration.md). -/
def RND_SKIM_FROZEN (i : Nat) : Fld := .at .rnd (0x29C + i * 0x10000) 0 32 0

end Sys2Proof.Machine.R
end

