-- ==== Sys2Proof/Machine/FieldsB.lean ====
section
/-! DEFINITION. Handles of the register fields of blocks SEM, STN, PLB, UPL, MEM: where each field of the register maps lies, its width and
its reset value (spec chapters 01 to 17). A handle names one field of one instance; it is used to read, write or count it. -/

namespace Sys2Proof.Machine.R

/-! ### Block SEM -/
/-! `SEM_SKIM_CTRL_LIVE` (R189, 05_skim_live_calibration.md). -/
def SEM_SKIM_CTRL_LIVE_PRIO (i : Nat) : Fld := .at .sem (0x804 + i * 0x10000) 28 3 0
def SEM_SKIM_CTRL_LIVE_HQ (i : Nat) : Fld := .at .sem (0x804 + i * 0x10000) 22 6 0
def SEM_SKIM_CTRL_LIVE_NOTE_EN (i : Nat) : Fld := .at .sem (0x804 + i * 0x10000) 21 1 0
def SEM_SKIM_CTRL_LIVE_EN (i : Nat) : Fld := .at .sem (0x804 + i * 0x10000) 0 1 0
/-! `SEM_SKIM_CFG` (R190, 05_skim_live_calibration.md). -/
def SEM_SKIM_CFG_LOG2E (i : Nat) : Fld := .at .sem (0x808 + i * 0x10000) 27 5 0x10
def SEM_SKIM_CFG_HOLDOFF (i : Nat) : Fld := .at .sem (0x808 + i * 0x10000) 0 16 0x200
/-! `SEM_SKIM_STAT` (R191, 05_skim_live_calibration.md). -/
def SEM_SKIM_STAT_REFUSED (i : Nat) : Fld := .at .sem (0x80C + i * 0x10000) 2 1 0
def SEM_SKIM_STAT_SCHEDULED (i : Nat) : Fld := .at .sem (0x80C + i * 0x10000) 1 1 0
def SEM_SKIM_STAT_RUNNING (i : Nat) : Fld := .at .sem (0x80C + i * 0x10000) 0 1 0
/-! `SEM_SKIM_EPOCH` (R173, 05_skim_live_calibration.md). -/
def SEM_SKIM_EPOCH (i : Nat) : Fld := .at .sem (0x810 + i * 0x10000) 0 32 0
/-! `SEM_SKIM_NEXT_ROW` (R192, 05_skim_live_calibration.md). -/
def SEM_SKIM_NEXT_ROW (i : Nat) : Fld := .at .sem (0x814 + i * 0x10000) 0 32 0
/-! `SEM_SKIM_BGL` (R179, 05_skim_live_calibration.md). -/
def SEM_SKIM_BGL_HI (i j : Nat) : Fld := .at .sem (0x820 + i * 0x10000 + j * 0x4) 16 16 0
def SEM_SKIM_BGL_LO (i j : Nat) : Fld := .at .sem (0x820 + i * 0x10000 + j * 0x4) 0 16 0
/-! `SEM_SKIM_BOUNDARIES` (R192, 05_skim_live_calibration.md). -/
def SEM_SKIM_BOUNDARIES (i : Nat) : Fld := .at .sem (0x880 + i * 0x10000) 0 32 0
/-! `SEM_SKIM_FROZEN_SWAPS` (R192, 05_skim_live_calibration.md). -/
def SEM_SKIM_FROZEN_SWAPS (i : Nat) : Fld := .at .sem (0x884 + i * 0x10000) 0 32 0
/-! `SEM_SKIM_NOTE_DROP` (R187, 05_skim_live_calibration.md). -/
def SEM_SKIM_NOTE_DROP (i : Nat) : Fld := .at .sem (0x888 + i * 0x10000) 0 32 0
/-! `SEM_CTRL_LIVE` (R221, 06_seam_row_assembly.md). -/
def SEM_CTRL_LIVE_FILL (i : Nat) : Fld := .at .sem (0x4 + i * 0x10000) 16 16 0
def SEM_CTRL_LIVE_MIN_VALID (i : Nat) : Fld := .at .sem (0x4 + i * 0x10000) 0 6 1
/-! `SEM_EXCLUDE_LIVE` (R222, 06_seam_row_assembly.md). -/
def SEM_EXCLUDE_LIVE_MASK (i : Nat) : Fld := .at .sem (0xC + i * 0x10000) 0 32 0
/-! `SEM_CFG` (R223, 06_seam_row_assembly.md). -/
def SEM_CFG_ROW_W_M1 (i : Nat) : Fld := .at .sem (0x10 + i * 0x10000) 16 16 0
def SEM_CFG_NPLANES_M1 (i : Nat) : Fld := .at .sem (0x10 + i * 0x10000) 12 4 0
def SEM_CFG_NMEMB (i : Nat) : Fld := .at .sem (0x10 + i * 0x10000) 0 6 0
/-! `SEM_SLACK` (R224, 06_seam_row_assembly.md). -/
def SEM_SLACK_SLACK (i : Nat) : Fld := .at .sem (0x14 + i * 0x10000) 0 19 0
/-! `SEM_BUF` (R224, 06_seam_row_assembly.md). -/
def SEM_BUF_BASE (i : Nat) : Fld := .at .sem (0x18 + i * 0x10000) 16 11 0
def SEM_BUF_SIZE (i : Nat) : Fld := .at .sem (0x18 + i * 0x10000) 0 12 0
/-! `SEM_STAT` (R225, 06_seam_row_assembly.md). -/
def SEM_STAT_CSEQ (i : Nat) : Fld := .at .sem (0x1C + i * 0x10000) 24 8 0
def SEM_STAT_RELOADING (i : Nat) : Fld := .at .sem (0x1C + i * 0x10000) 1 1 0
/-! `SEM_COMMIT_ROW` (R218, 06_seam_row_assembly.md). -/
def SEM_COMMIT_ROW (i : Nat) : Fld := .at .sem (0x20 + i * 0x10000) 0 32 0
/-! `SEM_LAST_ROW` (R226, 06_seam_row_assembly.md). -/
def SEM_LAST_ROW (i : Nat) : Fld := .at .sem (0x24 + i * 0x10000) 0 32 0
/-! `SEM_LAST_VALID` (R226, 06_seam_row_assembly.md). -/
def SEM_LAST_VALID (i : Nat) : Fld := .at .sem (0x28 + i * 0x10000) 0 32 0
/-! `SEM_LAST_DL_LO` (R226, 06_seam_row_assembly.md). -/
def SEM_LAST_DL_LO (i : Nat) : Fld := .at .sem (0x30 + i * 0x10000) 0 32 0
/-! `SEM_LAST_DL_HI` (R226, 06_seam_row_assembly.md). -/
def SEM_LAST_DL_HI (i : Nat) : Fld := .at .sem (0x34 + i * 0x10000) 0 32 0
/-! `SEM_LAST_FLAGS` (R226, 06_seam_row_assembly.md). -/
def SEM_LAST_FLAGS_FLAGS (i : Nat) : Fld := .at .sem (0x2C + i * 0x10000) 0 4 0
/-! `SEM_ROWS` (R227, 06_seam_row_assembly.md). -/
def SEM_ROWS (i : Nat) : Fld := .at .sem (0x100 + i * 0x10000) 0 32 0
/-! `SEM_ROWS_PARTIAL` (R227, 06_seam_row_assembly.md). -/
def SEM_ROWS_PARTIAL (i : Nat) : Fld := .at .sem (0x104 + i * 0x10000) 0 32 0
/-! `SEM_ROWS_DEADLINE` (R227, 06_seam_row_assembly.md). -/
def SEM_ROWS_DEADLINE (i : Nat) : Fld := .at .sem (0x108 + i * 0x10000) 0 32 0
/-! `SEM_ROWS_STARVED` (R227, 06_seam_row_assembly.md). -/
def SEM_ROWS_STARVED (i : Nat) : Fld := .at .sem (0x10C + i * 0x10000) 0 32 0
/-! `SEM_EARLY` (R210, 06_seam_row_assembly.md). -/
def SEM_EARLY (i : Nat) : Fld := .at .sem (0x110 + i * 0x10000) 0 32 0
/-! `SEM_LATE` (R213, 06_seam_row_assembly.md). -/
def SEM_LATE (i : Nat) : Fld := .at .sem (0x114 + i * 0x10000) 0 32 0
/-! `SEM_EPOCH_ERR` (R210, 06_seam_row_assembly.md). -/
def SEM_EPOCH_ERR (i : Nat) : Fld := .at .sem (0x118 + i * 0x10000) 0 32 0
/-! `SEM_MEMB_PORT` (R228, 06_seam_row_assembly.md). -/
def SEM_MEMB_PORT_LAST_CAUSE (i j : Nat) : Fld := .at .sem (0x400 + i * 0x10000 + j * 0x20) 28 4 0
def SEM_MEMB_PORT_SLOTS (i j : Nat) : Fld := .at .sem (0x400 + i * 0x10000 + j * 0x20) 16 8 0
def SEM_MEMB_PORT_STREAM (i j : Nat) : Fld := .at .sem (0x400 + i * 0x10000 + j * 0x20) 12 4 0
def SEM_MEMB_PORT_GANG (i j : Nat) : Fld := .at .sem (0x400 + i * 0x10000 + j * 0x20) 8 2 0
def SEM_MEMB_PORT_PORT (i j : Nat) : Fld := .at .sem (0x400 + i * 0x10000 + j * 0x20) 0 8 0
/-! `SEM_MEMB_COLS` (R228, 06_seam_row_assembly.md). -/
def SEM_MEMB_COLS_COL_LAST (i j : Nat) : Fld := .at .sem (0x404 + i * 0x10000 + j * 0x20) 16 16 0
def SEM_MEMB_COLS_COL_FIRST (i j : Nat) : Fld := .at .sem (0x404 + i * 0x10000 + j * 0x20) 0 16 0
/-! `SEM_MEMB_MAP` (R228, 06_seam_row_assembly.md). -/
def SEM_MEMB_MAP_Y (i j : Nat) : Fld := .at .sem (0x408 + i * 0x10000 + j * 0x20) 24 8 0
def SEM_MEMB_MAP_PLANE (i j : Nat) : Fld := .at .sem (0x408 + i * 0x10000 + j * 0x20) 20 4 0
def SEM_MEMB_MAP_XOFF (i j : Nat) : Fld := .at .sem (0x408 + i * 0x10000 + j * 0x20) 0 16 0
/-! `SEM_MEMB_ARR` (R228, 06_seam_row_assembly.md). -/
def SEM_MEMB_ARR_ARR (i j : Nat) : Fld := .at .sem (0x40C + i * 0x10000 + j * 0x20) 0 24 0
/-! `SEM_MEMB_OVL` (R228, 06_seam_row_assembly.md). -/
def SEM_MEMB_OVL_MODE (i j : Nat) : Fld := .at .sem (0x410 + i * 0x10000 + j * 0x20) 30 2 0
def SEM_MEMB_OVL_FALLBACK (i j : Nat) : Fld := .at .sem (0x410 + i * 0x10000 + j * 0x20) 29 1 0
def SEM_MEMB_OVL_CUT (i j : Nat) : Fld := .at .sem (0x410 + i * 0x10000 + j * 0x20) 0 16 0
/-! `SEM_MEMB_OVL_LIVE` (R228, 06_seam_row_assembly.md). -/
def SEM_MEMB_OVL_LIVE_MODE (i j : Nat) : Fld := .at .sem (0x414 + i * 0x10000 + j * 0x20) 30 2 0
def SEM_MEMB_OVL_LIVE_FALLBACK (i j : Nat) : Fld := .at .sem (0x414 + i * 0x10000 + j * 0x20) 29 1 0
def SEM_MEMB_OVL_LIVE_CUT (i j : Nat) : Fld := .at .sem (0x414 + i * 0x10000 + j * 0x20) 0 16 0
/-! `SEM_MEMB_MISS` (R228, 06_seam_row_assembly.md). -/
def SEM_MEMB_MISS (i j : Nat) : Fld := .at .sem (0x418 + i * 0x10000 + j * 0x20) 0 32 0
/-! `SEM_MEMB_LATE` (R228, 06_seam_row_assembly.md). -/
def SEM_MEMB_LATE (i j : Nat) : Fld := .at .sem (0x41C + i * 0x10000 + j * 0x20) 0 32 0

/-! ### Block STN -/
/-! `STN_FG_CTRL_LIVE` (R263, 07_stencil_and_plumb.md). -/
def STN_FG_CTRL_LIVE_NSEL_M1 (i : Nat) : Fld := .at .stn (0x4 + i * 0x10000) 24 2 0
def STN_FG_CTRL_LIVE_SEL3 (i : Nat) : Fld := .at .stn (0x4 + i * 0x10000) 20 4 0
def STN_FG_CTRL_LIVE_SEL2 (i : Nat) : Fld := .at .stn (0x4 + i * 0x10000) 16 4 0
def STN_FG_CTRL_LIVE_SEL1 (i : Nat) : Fld := .at .stn (0x4 + i * 0x10000) 12 4 0
def STN_FG_CTRL_LIVE_SEL0 (i : Nat) : Fld := .at .stn (0x4 + i * 0x10000) 8 4 0
def STN_FG_CTRL_LIVE_MODE3 (i : Nat) : Fld := .at .stn (0x4 + i * 0x10000) 6 2 0
def STN_FG_CTRL_LIVE_MODE2 (i : Nat) : Fld := .at .stn (0x4 + i * 0x10000) 4 2 0
def STN_FG_CTRL_LIVE_MODE1 (i : Nat) : Fld := .at .stn (0x4 + i * 0x10000) 2 2 0
def STN_FG_CTRL_LIVE_MODE0 (i : Nat) : Fld := .at .stn (0x4 + i * 0x10000) 0 2 0
/-! `STN_FG_W01_LIVE` (R230, 07_stencil_and_plumb.md). -/
def STN_FG_W01_LIVE_W1 (i : Nat) : Fld := .at .stn (0xC + i * 0x10000) 16 16 0x100
def STN_FG_W01_LIVE_W0 (i : Nat) : Fld := .at .stn (0xC + i * 0x10000) 0 16 0x100
/-! `STN_FG_W23_LIVE` (R230, 07_stencil_and_plumb.md). -/
def STN_FG_W23_LIVE_W3 (i : Nat) : Fld := .at .stn (0x14 + i * 0x10000) 16 16 0x100
def STN_FG_W23_LIVE_W2 (i : Nat) : Fld := .at .stn (0x14 + i * 0x10000) 0 16 0x100
/-! `STN_FG_THR` (R230, 07_stencil_and_plumb.md). -/
def STN_FG_THR_THR (i : Nat) : Fld := .at .stn (0x18 + i * 0x10000) 0 24 0xFFFFFF
/-! `STN_FG_THR_LIVE` (R230, 07_stencil_and_plumb.md). -/
def STN_FG_THR_LIVE_THR (i : Nat) : Fld := .at .stn (0x1C + i * 0x10000) 0 24 0xFFFFFF
/-! `STN_OBJ_CFG_LIVE` (R264, 07_stencil_and_plumb.md). -/
def STN_OBJ_CFG_LIVE_MAX_H_M1 (i : Nat) : Fld := .at .stn (0x24 + i * 0x10000) 20 12 0xFFF
def STN_OBJ_CFG_LIVE_MIN_AREA (i : Nat) : Fld := .at .stn (0x24 + i * 0x10000) 0 20 1
/-! `STN_FEAT_LIVE` (R265, 07_stencil_and_plumb.md). -/
def STN_FEAT_LIVE_FP3 (i : Nat) : Fld := .at .stn (0x2C + i * 0x10000) 28 4 0
def STN_FEAT_LIVE_FP2 (i : Nat) : Fld := .at .stn (0x2C + i * 0x10000) 24 4 0
def STN_FEAT_LIVE_FP1 (i : Nat) : Fld := .at .stn (0x2C + i * 0x10000) 20 4 0
def STN_FEAT_LIVE_FP0 (i : Nat) : Fld := .at .stn (0x2C + i * 0x10000) 16 4 0
def STN_FEAT_LIVE_HPLANE (i : Nat) : Fld := .at .stn (0x2C + i * 0x10000) 12 4 0
def STN_FEAT_LIVE_HSHIFT (i : Nat) : Fld := .at .stn (0x2C + i * 0x10000) 8 4 0
def STN_FEAT_LIVE_NFP (i : Nat) : Fld := .at .stn (0x2C + i * 0x10000) 0 3 0
/-! `STN_HIST_LO_LIVE` (R236, 07_stencil_and_plumb.md). -/
def STN_HIST_LO_LIVE_HLO (i : Nat) : Fld := .at .stn (0x34 + i * 0x10000) 0 16 0
/-! `STN_TILE_CTRL_LIVE` (R266, 07_stencil_and_plumb.md). -/
def STN_TILE_CTRL_LIVE_TILE_EN (i : Nat) : Fld := .at .stn (0x3C + i * 0x10000) 31 1 0
def STN_TILE_CTRL_LIVE_CODED (i : Nat) : Fld := .at .stn (0x3C + i * 0x10000) 30 1 0
def STN_TILE_CTRL_LIVE_MARGIN (i : Nat) : Fld := .at .stn (0x3C + i * 0x10000) 24 6 0
def STN_TILE_CTRL_LIVE_TILE_MIN_AREA (i : Nat) : Fld := .at .stn (0x3C + i * 0x10000) 0 20 0
/-! `STN_CFG` (R267, 07_stencil_and_plumb.md). -/
def STN_CFG_MORPH (i : Nat) : Fld := .at .stn (0x40 + i * 0x10000) 28 2 0
def STN_CFG_MAX_CLOSE (i : Nat) : Fld := .at .stn (0x40 + i * 0x10000) 0 13 0
/-! `STN_TILE_GEOM` (R267, 07_stencil_and_plumb.md). -/
def STN_TILE_GEOM_TPLANES (i : Nat) : Fld := .at .stn (0x44 + i * 0x10000) 16 16 0
def STN_TILE_GEOM_LOOKBACK (i : Nat) : Fld := .at .stn (0x44 + i * 0x10000) 10 6 0
def STN_TILE_GEOM_TW16 (i : Nat) : Fld := .at .stn (0x44 + i * 0x10000) 0 7 0
/-! `STN_TILE_POOL` (R267, 07_stencil_and_plumb.md). -/
def STN_TILE_POOL_POOL_KIB (i : Nat) : Fld := .at .stn (0x48 + i * 0x10000) 16 16 0
def STN_TILE_POOL_TH_MAX (i : Nat) : Fld := .at .stn (0x48 + i * 0x10000) 0 13 0
/-! `STN_STAT` (R268, 07_stencil_and_plumb.md). -/
def STN_STAT_LABELS (i : Nat) : Fld := .at .stn (0x50 + i * 0x10000) 8 13 0
def STN_STAT_RUNNING (i : Nat) : Fld := .at .stn (0x50 + i * 0x10000) 0 1 0
/-! `STN_NEXT_ID_LO` (R269, 07_stencil_and_plumb.md). -/
def STN_NEXT_ID_LO (i : Nat) : Fld := .at .stn (0x58 + i * 0x10000) 0 32 0
/-! `STN_NEXT_ID_HI` (R269, 07_stencil_and_plumb.md). -/
def STN_NEXT_ID_HI (i : Nat) : Fld := .at .stn (0x5C + i * 0x10000) 0 32 0
/-! `STN_ROWS` (R270, 07_stencil_and_plumb.md). -/
def STN_ROWS (i : Nat) : Fld := .at .stn (0x100 + i * 0x10000) 0 32 0
/-! `STN_FG_PIXELS` (R237, 07_stencil_and_plumb.md). -/
def STN_FG_PIXELS (i : Nat) : Fld := .at .stn (0x104 + i * 0x10000) 0 32 0
/-! `STN_OBJECTS` (R270, 07_stencil_and_plumb.md). -/
def STN_OBJECTS (i : Nat) : Fld := .at .stn (0x108 + i * 0x10000) 0 32 0
/-! `STN_OBJ_SMALL` (R238, 07_stencil_and_plumb.md). -/
def STN_OBJ_SMALL (i : Nat) : Fld := .at .stn (0x10C + i * 0x10000) 0 32 0
/-! `STN_OBJ_EXCESS` (R238, 07_stencil_and_plumb.md). -/
def STN_OBJ_EXCESS (i : Nat) : Fld := .at .stn (0x110 + i * 0x10000) 0 32 0
/-! `STN_LABEL_OVF` (R237, 07_stencil_and_plumb.md). -/
def STN_LABEL_OVF (i : Nat) : Fld := .at .stn (0x114 + i * 0x10000) 0 32 0
/-! `STN_SPLITS` (R270, 07_stencil_and_plumb.md). -/
def STN_SPLITS (i : Nat) : Fld := .at .stn (0x118 + i * 0x10000) 0 32 0
/-! `STN_TILES` (R270, 07_stencil_and_plumb.md). -/
def STN_TILES (i : Nat) : Fld := .at .stn (0x11C + i * 0x10000) 0 32 0
/-! `STN_TILE_DROP` (R247, 07_stencil_and_plumb.md). -/
def STN_TILE_DROP (i : Nat) : Fld := .at .stn (0x120 + i * 0x10000) 0 32 0
/-! `STN_TILE_CLIP` (R270, 07_stencil_and_plumb.md). -/
def STN_TILE_CLIP (i : Nat) : Fld := .at .stn (0x124 + i * 0x10000) 0 32 0
/-! `STN_MASKS` (R270, 07_stencil_and_plumb.md). -/
def STN_MASKS (i : Nat) : Fld := .at .stn (0x128 + i * 0x10000) 0 32 0

/-! ### Block PLB -/
/-! `PLB_CFG` (R271, 07_stencil_and_plumb.md). -/
def PLB_CFG_LOWER (i : Nat) : Fld := .at .plb (0x0 + i * 0x100) 24 5 0
def PLB_CFG_UPPER (i : Nat) : Fld := .at .plb (0x0 + i * 0x100) 16 5 0
def PLB_CFG_LINK_EN (i : Nat) : Fld := .at .plb (0x0 + i * 0x100) 15 1 0
def PLB_CFG_LINK_T (i : Nat) : Fld := .at .plb (0x0 + i * 0x100) 8 4 0
def PLB_CFG_EN (i : Nat) : Fld := .at .plb (0x0 + i * 0x100) 0 1 0
/-! `PLB_DH` (R258, 07_stencil_and_plumb.md). -/
def PLB_DH_DH (i : Nat) : Fld := .at .plb (0x4 + i * 0x100) 0 24 0
/-! `PLB_PITCH` (R273, 07_stencil_and_plumb.md). -/
def PLB_PITCH_PITCH (i : Nat) : Fld := .at .plb (0x8 + i * 0x100) 0 24 0
/-! `PLB_XMAP` (R272, 07_stencil_and_plumb.md). -/
def PLB_XMAP_X_SCALE (i : Nat) : Fld := .at .plb (0xC + i * 0x100) 16 16 0x4000
def PLB_XMAP_X_OFF (i : Nat) : Fld := .at .plb (0xC + i * 0x100) 0 16 0
/-! `PLB_EJ_LIVE` (R258, 07_stencil_and_plumb.md). -/
def PLB_EJ_LIVE_D (i : Nat) : Fld := .at .plb (0x14 + i * 0x100) 0 24 0
/-! `PLB_G_LIVE` (R254, 07_stencil_and_plumb.md). -/
def PLB_G_LIVE_G (i : Nat) : Fld := .at .plb (0x1C + i * 0x100) 0 24 0x9CE81
/-! `PLB_DRAG_LIVE` (R254, 07_stencil_and_plumb.md). -/
def PLB_DRAG_LIVE_K (i : Nat) : Fld := .at .plb (0x24 + i * 0x100) 0 20 0
/-! `PLB_V0_LIVE` (R261, 07_stencil_and_plumb.md). -/
def PLB_V0_LIVE_V0 (i : Nat) : Fld := .at .plb (0x2C + i * 0x100) 0 24 0x30000
/-! `PLB_TOL_T_LIVE` (R273, 07_stencil_and_plumb.md). -/
def PLB_TOL_T_LIVE_TOL_T (i : Nat) : Fld := .at .plb (0x34 + i * 0x100) 0 24 0x7A120
/-! `PLB_TOL_X_LIVE` (R273, 07_stencil_and_plumb.md). -/
def PLB_TOL_X_LIVE_TOL_X (i : Nat) : Fld := .at .plb (0x3C + i * 0x100) 0 16 0x3C
/-! `PLB_TOL_F_LIVE` (R273, 07_stencil_and_plumb.md). -/
def PLB_TOL_F_LIVE_TOL_A (i : Nat) : Fld := .at .plb (0x44 + i * 0x100) 16 16 0
def PLB_TOL_F_LIVE_TOL_M (i : Nat) : Fld := .at .plb (0x44 + i * 0x100) 0 16 0
/-! `PLB_HOLD_LIVE` (R273, 07_stencil_and_plumb.md). -/
def PLB_HOLD_LIVE_HOLD (i : Nat) : Fld := .at .plb (0x4C + i * 0x100) 0 24 0x1E8480
/-! `PLB_LINK_LIVE` (R260, 07_stencil_and_plumb.md). -/
def PLB_LINK_LIVE_LINK_TOL_X (i : Nat) : Fld := .at .plb (0x54 + i * 0x100) 16 16 0
def PLB_LINK_LIVE_LINK_TOL_T (i : Nat) : Fld := .at .plb (0x54 + i * 0x100) 0 16 0
/-! `PLB_MIRROR_LIVE` (R260, 07_stencil_and_plumb.md). -/
def PLB_MIRROR_LIVE_MIRROR (i : Nat) : Fld := .at .plb (0x5C + i * 0x100) 0 24 0
/-! `PLB_STAT` (R261, 07_stencil_and_plumb.md). -/
def PLB_STAT_PARAM_HELD (i : Nat) : Fld := .at .plb (0x60 + i * 0x100) 31 1 0
def PLB_STAT_ENTRIES (i : Nat) : Fld := .at .plb (0x60 + i * 0x100) 0 13 0
/-! `PLB_DTNOM` (R254, 07_stencil_and_plumb.md). -/
def PLB_DTNOM_DTNOM (i : Nat) : Fld := .at .plb (0x64 + i * 0x100) 0 24 0
/-! `PLB_UPPER_IN` (R274, 07_stencil_and_plumb.md). -/
def PLB_UPPER_IN (i : Nat) : Fld := .at .plb (0x80 + i * 0x100) 0 32 0
/-! `PLB_LOWER_IN` (R274, 07_stencil_and_plumb.md). -/
def PLB_LOWER_IN (i : Nat) : Fld := .at .plb (0x84 + i * 0x100) 0 32 0
/-! `PLB_MATCHED` (R274, 07_stencil_and_plumb.md). -/
def PLB_MATCHED (i : Nat) : Fld := .at .plb (0x88 + i * 0x100) 0 32 0
/-! `PLB_UNMATCHED` (R257, 07_stencil_and_plumb.md). -/
def PLB_UNMATCHED (i : Nat) : Fld := .at .plb (0x8C + i * 0x100) 0 32 0
/-! `PLB_AMBIG` (R274, 07_stencil_and_plumb.md). -/
def PLB_AMBIG (i : Nat) : Fld := .at .plb (0x90 + i * 0x100) 0 32 0
/-! `PLB_EXPIRED` (R259, 07_stencil_and_plumb.md). -/
def PLB_EXPIRED (i : Nat) : Fld := .at .plb (0x94 + i * 0x100) 0 32 0
/-! `PLB_EVICTED` (R259, 07_stencil_and_plumb.md). -/
def PLB_EVICTED (i : Nat) : Fld := .at .plb (0x98 + i * 0x100) 0 32 0
/-! `PLB_LINKED` (R274, 07_stencil_and_plumb.md). -/
def PLB_LINKED (i : Nat) : Fld := .at .plb (0x9C + i * 0x100) 0 32 0
/-! `PLB_LINK_EXPIRED` (R260, 07_stencil_and_plumb.md). -/
def PLB_LINK_EXPIRED (i : Nat) : Fld := .at .plb (0xA0 + i * 0x100) 0 32 0

/-! ### Block UPL -/
/-! `UPL_CFG` (R333, 09_uplink_fusiak_transport.md). -/
def UPL_CFG_NCLASS : Fld := .at .upl (0x0) 16 8 0
def UPL_CFG_FALLBACK : Fld := .at .upl (0x0) 8 8 0xFF
def UPL_CFG_MODE : Fld := .at .upl (0x0) 0 2 0
/-! `UPL_CTRL` (R334, 09_uplink_fusiak_transport.md). -/
def UPL_CTRL_LT_EN : Fld := .at .upl (0x8) 2 1 1
def UPL_CTRL_PAUSE_EN : Fld := .at .upl (0x8) 1 1 1
/-! `UPL_FLOW` (R329, 09_uplink_fusiak_transport.md). -/
def UPL_FLOW_PAUSE_MAX : Fld := .at .upl (0xC) 0 16 0x3E8
/-! `UPL_LANE_CFG` (R309, 09_uplink_fusiak_transport.md). -/
def UPL_LANE_CFG_DEG_THR : Fld := .at .upl (0x10) 16 16 0x10
/-! `UPL_SP_STAT` (R336, 09_uplink_fusiak_transport.md). -/
def UPL_SP_STAT_LANES (i : Nat) : Fld := .at .upl (0x100 + i * 0x10) 24 8 0
def UPL_SP_STAT_RATE (i : Nat) : Fld := .at .upl (0x100 + i * 0x10) 16 8 0
def UPL_SP_STAT_PAUSED (i : Nat) : Fld := .at .upl (0x100 + i * 0x10) 8 8 0
def UPL_SP_STAT_FALLBACK (i : Nat) : Fld := .at .upl (0x100 + i * 0x10) 3 1 0
def UPL_SP_STAT_STATE (i : Nat) : Fld := .at .upl (0x100 + i * 0x10) 0 3 0
/-! `UPL_SP_PAUSE_RX` (R336, 09_uplink_fusiak_transport.md). -/
def UPL_SP_PAUSE_RX (i : Nat) : Fld := .at .upl (0x104 + i * 0x10) 0 32 0
/-! `UPL_SP_ABORT` (R328, 09_uplink_fusiak_transport.md). -/
def UPL_SP_ABORT (i : Nat) : Fld := .at .upl (0x108 + i * 0x10) 0 32 0
/-! `UPL_SP_FLUSHED` (R309, 09_uplink_fusiak_transport.md). -/
def UPL_SP_FLUSHED (i : Nat) : Fld := .at .upl (0x10C + i * 0x10) 0 32 0
/-! `UPL_CLASS` (R324, 09_uplink_fusiak_transport.md). -/
def UPL_CLASS_PRIO (i : Nat) : Fld := .at .upl (0x1000 + i * 0x20) 24 8 0
def UPL_CLASS_KINDS (i : Nat) : Fld := .at .upl (0x1000 + i * 0x20) 16 8 0
def UPL_CLASS_SHARE (i : Nat) : Fld := .at .upl (0x1000 + i * 0x20) 0 11 0
/-! `UPL_CLASS_GROUPS` (R337, 09_uplink_fusiak_transport.md). -/
def UPL_CLASS_GROUPS_GROUPS (i : Nat) : Fld := .at .upl (0x1004 + i * 0x20) 0 24 0
/-! `UPL_CLASS_CTRL_LIVE` (R337, 09_uplink_fusiak_transport.md). -/
def UPL_CLASS_CTRL_LIVE_BUDGET (i : Nat) : Fld := .at .upl (0x100C + i * 0x20) 8 24 0xC350
def UPL_CLASS_CTRL_LIVE_PCP (i : Nat) : Fld := .at .upl (0x100C + i * 0x20) 5 3 0
/-! `UPL_CLASS_SHARE_LIVE` (R337, 09_uplink_fusiak_transport.md). -/
def UPL_CLASS_SHARE_LIVE_SHARE_LIVE (i : Nat) : Fld := .at .upl (0x1010 + i * 0x20) 0 11 0
/-! `UPL_CLASS_SENT` (R337, 09_uplink_fusiak_transport.md). -/
def UPL_CLASS_SENT (i : Nat) : Fld := .at .upl (0x1014 + i * 0x20) 0 32 0
/-! `UPL_CLASS_LATE` (R326, 09_uplink_fusiak_transport.md). -/
def UPL_CLASS_LATE (i : Nat) : Fld := .at .upl (0x1018 + i * 0x20) 0 32 0
/-! `UPL_CLASS_REFUSED` (R324, 09_uplink_fusiak_transport.md). -/
def UPL_CLASS_REFUSED (i : Nat) : Fld := .at .upl (0x101C + i * 0x20) 0 32 0
/-! `UPL_LANE_STAT` (R338, 09_uplink_fusiak_transport.md). -/
def UPL_LANE_STAT_IN_USE (i : Nat) : Fld := .at .upl (0x2000 + i * 0x40) 8 1 0
def UPL_LANE_STAT_TAPED (i : Nat) : Fld := .at .upl (0x2000 + i * 0x40) 7 1 0
def UPL_LANE_STAT_AM_LOCK (i : Nat) : Fld := .at .upl (0x2000 + i * 0x40) 6 1 0
def UPL_LANE_STAT_SIG_DET (i : Nat) : Fld := .at .upl (0x2000 + i * 0x40) 5 1 0
def UPL_LANE_STAT_SUBPORT (i : Nat) : Fld := .at .upl (0x2000 + i * 0x40) 0 3 0
/-! `UPL_FEC_CORR` (R338, 09_uplink_fusiak_transport.md). -/
def UPL_FEC_CORR (i : Nat) : Fld := .at .upl (0x2010 + i * 0x40) 0 32 0
/-! `UPL_FEC_UNCORR` (R338, 09_uplink_fusiak_transport.md). -/
def UPL_FEC_UNCORR (i : Nat) : Fld := .at .upl (0x2014 + i * 0x40) 0 32 0
/-! `UPL_FEC_SYM` (R338, 09_uplink_fusiak_transport.md). -/
def UPL_FEC_SYM (i : Nat) : Fld := .at .upl (0x2018 + i * 0x40) 0 32 0
/-! `UPL_AM_LOSS` (R338, 09_uplink_fusiak_transport.md). -/
def UPL_AM_LOSS (i : Nat) : Fld := .at .upl (0x201C + i * 0x40) 0 32 0
/-! `FXT_ENCAP` (R313, 09_uplink_fusiak_transport.md). -/
def FXT_ENCAP_ETHERTYPE (i : Nat) : Fld := .at .upl (0x4000 + i * 0x40) 16 16 0x88B5
def FXT_ENCAP_VLAN_EN (i : Nat) : Fld := .at .upl (0x4000 + i * 0x40) 15 1 0
def FXT_ENCAP_MODE (i : Nat) : Fld := .at .upl (0x4000 + i * 0x40) 12 2 0
def FXT_ENCAP_VID (i : Nat) : Fld := .at .upl (0x4000 + i * 0x40) 0 12 0
/-! `FXT_DMAC_LO` (R339, 09_uplink_fusiak_transport.md). -/
def FXT_DMAC_LO (i : Nat) : Fld := .at .upl (0x4004 + i * 0x40) 0 32 0
/-! `FXT_DMAC_HI` (R339, 09_uplink_fusiak_transport.md). -/
def FXT_DMAC_HI_MAC (i : Nat) : Fld := .at .upl (0x4008 + i * 0x40) 0 16 0
/-! `FXT_SMAC_LO` (R339, 09_uplink_fusiak_transport.md). -/
def FXT_SMAC_LO (i : Nat) : Fld := .at .upl (0x400C + i * 0x40) 0 32 0
/-! `FXT_SMAC_HI` (R339, 09_uplink_fusiak_transport.md). -/
def FXT_SMAC_HI_MAC (i : Nat) : Fld := .at .upl (0x4010 + i * 0x40) 0 16 0
/-! `FXT_UDP` (R339, 09_uplink_fusiak_transport.md). -/
def FXT_UDP_DPORT (i : Nat) : Fld := .at .upl (0x4014 + i * 0x40) 16 16 0xC4F0
def FXT_UDP_SPORT (i : Nat) : Fld := .at .upl (0x4014 + i * 0x40) 0 16 0xC4F0
/-! `FXT_IP4_SRC` (R339, 09_uplink_fusiak_transport.md). -/
def FXT_IP4_SRC (i : Nat) : Fld := .at .upl (0x4018 + i * 0x40) 0 32 0
/-! `FXT_IP4_DST` (R339, 09_uplink_fusiak_transport.md). -/
def FXT_IP4_DST (i : Nat) : Fld := .at .upl (0x401C + i * 0x40) 0 32 0
/-! `FXT_IP6_SRC` (R339, 09_uplink_fusiak_transport.md). -/
def FXT_IP6_SRC (i j : Nat) : Fld := .at .upl (0x4020 + i * 0x40 + j * 0x4) 0 32 0
/-! `FXT_IP6_DST` (R339, 09_uplink_fusiak_transport.md). -/
def FXT_IP6_DST (i j : Nat) : Fld := .at .upl (0x4030 + i * 0x40 + j * 0x4) 0 32 0
/-! `FXT_CFG` (R340, 09_uplink_fusiak_transport.md). -/
def FXT_CFG_MAX_PAYLOAD : Fld := .at .upl (0x5000) 16 16 0x2300
def FXT_CFG_MGMT_EN : Fld := .at .upl (0x5000) 0 1 0
/-! `FXT_TIME_CFG` (R322, 09_uplink_fusiak_transport.md). -/
def FXT_TIME_CFG_PERIOD : Fld := .at .upl (0x5004) 0 16 0x3E8
/-! `FXT_RX_MGMT` (R341, 09_uplink_fusiak_transport.md). -/
def FXT_RX_MGMT : Fld := .at .upl (0x5010) 0 32 0
/-! `FXT_RX_ERR` (R321, 09_uplink_fusiak_transport.md). -/
def FXT_RX_ERR : Fld := .at .upl (0x5014) 0 32 0
/-! `FXT_RX_OTHER` (R323, 09_uplink_fusiak_transport.md). -/
def FXT_RX_OTHER : Fld := .at .upl (0x5018) 0 32 0
/-! `FXT_RX_BUSY` (R321, 09_uplink_fusiak_transport.md). -/
def FXT_RX_BUSY : Fld := .at .upl (0x501C) 0 32 0
/-! `UPL_PTP_CFG` (R342, 09_uplink_fusiak_transport.md). -/
def UPL_PTP_CFG_EN : Fld := .at .upl (0x6000) 31 1 0
def UPL_PTP_CFG_SUBPORT : Fld := .at .upl (0x6000) 28 3 0
def UPL_PTP_CFG_DISCIPLINE : Fld := .at .upl (0x6000) 25 1 0
def UPL_PTP_CFG_DOMAIN : Fld := .at .upl (0x6000) 8 8 0
def UPL_PTP_CFG_TRANSPORT : Fld := .at .upl 0x6000 26 2 0
def UPL_PTP_CFG_LOCK_NS : Fld := .at .upl (0x6000) 0 8 0x64
/-! `UPL_PTP_STAT` (R343, 09_uplink_fusiak_transport.md). -/
def UPL_PTP_STAT_SERVO : Fld := .at .upl (0x6004) 30 2 0
def UPL_PTP_STAT_OFFSET : Fld := .at .upl (0x6004) 0 24 0
/-! `UPL_PTP_GM_LO` (R343, 09_uplink_fusiak_transport.md). -/
def UPL_PTP_GM_LO : Fld := .at .upl (0x6008) 0 32 0
/-! `UPL_PTP_GM_HI` (R343, 09_uplink_fusiak_transport.md). -/
def UPL_PTP_GM_HI : Fld := .at .upl (0x600C) 0 32 0

/-! ### Block MEM -/
/-! `MEM_CFG` (R372, 10_memory_history_replay.md). -/
def MEM_CFG_GIB : Fld := .at .mem (0x0) 16 8 0
def MEM_CFG_BIN : Fld := .at .mem (0x0) 8 8 0
def MEM_CFG_MASK : Fld := .at .mem (0x0) 0 8 0
/-! `MEM_STAT` (R373, 10_memory_history_replay.md). -/
def MEM_STAT_IN_SERVICE : Fld := .at .mem (0x4) 16 8 0
def MEM_STAT_BIN : Fld := .at .mem (0x4) 8 4 0
def MEM_STAT_ALT : Fld := .at .mem (0x4) 0 1 0
/-! `MEM_SCRUB_CFG` (R351, 10_memory_history_replay.md). -/
def MEM_SCRUB_CFG_EN : Fld := .at .mem (0x8) 31 1 1
/-! `MEM_ECC_CFG` (R350, 10_memory_history_replay.md). -/
def MEM_ECC_CFG_CE_THR : Fld := .at .mem (0xC) 0 16 0x3E8
/-! `MEM_CH_STAT` (R375, 10_memory_history_replay.md). -/
def MEM_CH_STAT_STATE (i : Nat) : Fld := .at .mem (0x1000 + i * 0x100) 28 4 0
def MEM_CH_STAT_CAUSE (i : Nat) : Fld := .at .mem (0x1000 + i * 0x100) 24 4 0
def MEM_CH_STAT_HOT (i : Nat) : Fld := .at .mem (0x1000 + i * 0x100) 1 1 0
/-! `MEM_CH_SHARE01` (R376, 10_memory_history_replay.md). -/
def MEM_CH_SHARE01_REPLAY (i : Nat) : Fld := .at .mem (0x1004 + i * 0x100) 16 11 0
def MEM_CH_SHARE01_HIST (i : Nat) : Fld := .at .mem (0x1004 + i * 0x100) 0 11 0
/-! `MEM_CH_SHARE23` (R376, 10_memory_history_replay.md). -/
def MEM_CH_SHARE23_DMA (i : Nat) : Fld := .at .mem (0x1008 + i * 0x100) 16 11 0
def MEM_CH_SHARE23_HAWK (i : Nat) : Fld := .at .mem (0x1008 + i * 0x100) 0 11 0
/-! `MEM_CH_ERR_ADDR_LO` (R376, 10_memory_history_replay.md). -/
def MEM_CH_ERR_ADDR_LO (i : Nat) : Fld := .at .mem (0x1010 + i * 0x100) 0 32 0
/-! `MEM_CH_ERR_ADDR_HI` (R376, 10_memory_history_replay.md). -/
def MEM_CH_ERR_ADDR_HI_ADDR (i : Nat) : Fld := .at .mem (0x1014 + i * 0x100) 0 16 0
/-! `MEM_CH_ERR_INFO` (R376, 10_memory_history_replay.md). -/
def MEM_CH_ERR_INFO_KIND (i : Nat) : Fld := .at .mem (0x1018 + i * 0x100) 30 2 0
def MEM_CH_ERR_INFO_ACT (i : Nat) : Fld := .at .mem (0x1018 + i * 0x100) 28 2 0
def MEM_CH_ERR_INFO_SUB (i : Nat) : Fld := .at .mem (0x1018 + i * 0x100) 27 1 0
/-! `MEM_CH_CE` (R350, 10_memory_history_replay.md). -/
def MEM_CH_CE (i : Nat) : Fld := .at .mem (0x1040 + i * 0x100) 0 32 0
/-! `MEM_CH_UE` (R350, 10_memory_history_replay.md). -/
def MEM_CH_UE (i : Nat) : Fld := .at .mem (0x1044 + i * 0x100) 0 32 0
/-! `MEM_CH_SCRUB_CE` (R377, 10_memory_history_replay.md). -/
def MEM_CH_SCRUB_CE (i : Nat) : Fld := .at .mem (0x1048 + i * 0x100) 0 32 0
/-! `MEM_CH_SCRUB_UE` (R351, 10_memory_history_replay.md). -/
def MEM_CH_SCRUB_UE (i : Nat) : Fld := .at .mem (0x104C + i * 0x100) 0 32 0
/-! `MEM_CH_ALERT` (R377, 10_memory_history_replay.md). -/
def MEM_CH_ALERT (i : Nat) : Fld := .at .mem (0x1050 + i * 0x100) 0 32 0
/-! `MEM_CH_BURSTS` (R377, 10_memory_history_replay.md). -/
def MEM_CH_BURSTS (i j : Nat) : Fld := .at .mem (0x1060 + i * 0x100 + j * 0x4) 0 32 0
/-! `HST_CTRL` (R378, 10_memory_history_replay.md). -/
def HST_CTRL_LAG : Fld := .at .mem (0x10000) 16 10 0x32
def HST_CTRL_TICK : Fld := .at .mem (0x10000) 8 8 0xA
def HST_CTRL_EN : Fld := .at .mem (0x10000) 0 1 1
/-! `HST_STAT` (R379, 10_memory_history_replay.md). -/
def HST_STAT_STATE : Fld := .at .mem (0x10004) 28 4 0
def HST_STAT_HARD : Fld := .at .mem (0x10004) 16 7 0
def HST_STAT_SOFT : Fld := .at .mem (0x10004) 0 13 0
/-! `HST_RING_BASE` (R380, 10_memory_history_replay.md). -/
def HST_RING_BASE : Fld := .at .mem (0x10008) 0 32 0
/-! `HST_RING_SIZE` (R380, 10_memory_history_replay.md). -/
def HST_RING_SIZE : Fld := .at .mem (0x1000C) 0 32 0
/-! `HST_HEAD_LO` (R380, 10_memory_history_replay.md). -/
def HST_HEAD_LO : Fld := .at .mem (0x10010) 0 32 0
/-! `HST_HEAD_HI` (R380, 10_memory_history_replay.md). -/
def HST_HEAD_HI : Fld := .at .mem (0x10014) 0 32 0
/-! `HST_TAIL_LO` (R380, 10_memory_history_replay.md). -/
def HST_TAIL_LO : Fld := .at .mem (0x10018) 0 32 0
/-! `HST_TAIL_HI` (R380, 10_memory_history_replay.md). -/
def HST_TAIL_HI : Fld := .at .mem (0x1001C) 0 32 0
/-! `HST_PINNED` (R380, 10_memory_history_replay.md). -/
def HST_PINNED : Fld := .at .mem (0x10020) 0 32 0
/-! `HST_MARKS_LOST` (R365, 10_memory_history_replay.md). -/
def HST_MARKS_LOST : Fld := .at .mem (0x10080) 0 32 0
/-! `HST_DEMOTED` (R364, 10_memory_history_replay.md). -/
def HST_DEMOTED : Fld := .at .mem (0x10084) 0 32 0
/-! `HST_RAW_SEGS` (R380, 10_memory_history_replay.md). -/
def HST_RAW_SEGS : Fld := .at .mem (0x10088) 0 32 0
/-! `HST_G_RECORDS` (R380, 10_memory_history_replay.md). -/
def HST_G_RECORDS (i : Nat) : Fld := .at .mem (0x10100 + i * 0x10) 0 32 0
/-! `HST_G_SKIPPED` (R359, 10_memory_history_replay.md). -/
def HST_G_SKIPPED (i : Nat) : Fld := .at .mem (0x10104 + i * 0x10) 0 32 0
/-! `HST_G_STALE` (R359, 10_memory_history_replay.md). -/
def HST_G_STALE (i : Nat) : Fld := .at .mem (0x10108 + i * 0x10) 0 32 0
/-! `HST_MARK_STAT` (R382, 10_memory_history_replay.md). -/
def HST_MARK_STAT_STATE : Fld := .at .mem (0x11010) 28 4 0
def HST_MARK_STAT_RESULT : Fld := .at .mem (0x11010) 24 4 0
def HST_MARK_STAT_SLOT : Fld := .at .mem (0x11010) 0 13 0
/-! `HST_MARK_TIME_LO` (R383, 10_memory_history_replay.md). -/
def HST_MARK_TIME_LO : Fld := .at .mem (0x11004) 0 32 0
/-! `HST_MARK_TIME_HI` (R383, 10_memory_history_replay.md). -/
def HST_MARK_TIME_HI : Fld := .at .mem (0x11008) 0 32 0
/-! `HST_MARK_PIN` (R363, 10_memory_history_replay.md). -/
def HST_MARK_PIN : Fld := .at .mem (0x1100C) 0 32 0
/-! `HST_MARK_POS_LO` (R383, 10_memory_history_replay.md). -/
def HST_MARK_POS_LO : Fld := .at .mem (0x11014) 0 32 0
/-! `HST_MARK_POS_HI` (R383, 10_memory_history_replay.md). -/
def HST_MARK_POS_HI : Fld := .at .mem (0x11018) 0 32 0
/-! `HST_MARK_WTIME_LO` (R383, 10_memory_history_replay.md). -/
def HST_MARK_WTIME_LO : Fld := .at .mem (0x1101C) 0 32 0
/-! `HST_MARK_WTIME_HI` (R383, 10_memory_history_replay.md). -/
def HST_MARK_WTIME_HI : Fld := .at .mem (0x11020) 0 32 0
/-! `HST_MARK_DEMOTE` (R364, 10_memory_history_replay.md). -/
def HST_MARK_DEMOTE_NEW : Fld := .at .mem (0x11024) 16 13 0
def HST_MARK_DEMOTE_OLD : Fld := .at .mem (0x11024) 0 13 0
/-! `HST_RP_CTRL` (R384, 10_memory_history_replay.md). -/
def HST_RP_CTRL_DEST : Fld := .at .mem (0x12000) 29 1 0
def HST_RP_CTRL_MODE : Fld := .at .mem (0x12000) 28 1 0
def HST_RP_CTRL_KINDS : Fld := .at .mem (0x12000) 16 3 7
def HST_RP_CTRL_MARK : Fld := .at .mem (0x12000) 0 13 0
/-! `HST_RP_GROUPS` (R385, 10_memory_history_replay.md). -/
def HST_RP_GROUPS_MASK : Fld := .at .mem (0x12004) 0 24 0xFFFFFF
/-! `HST_RP_ID` (R385, 10_memory_history_replay.md). -/
def HST_RP_ID : Fld := .at .mem (0x12008) 0 32 0
/-! `HST_RP_START_LO` (R385, 10_memory_history_replay.md). -/
def HST_RP_START_LO : Fld := .at .mem (0x1200C) 0 32 0
/-! `HST_RP_START_HI` (R385, 10_memory_history_replay.md). -/
def HST_RP_START_HI : Fld := .at .mem (0x12010) 0 32 0
/-! `HST_RP_END_LO` (R385, 10_memory_history_replay.md). -/
def HST_RP_END_LO : Fld := .at .mem (0x12014) 0 32 0
/-! `HST_RP_END_HI` (R385, 10_memory_history_replay.md). -/
def HST_RP_END_HI : Fld := .at .mem (0x12018) 0 32 0
/-! `HST_RP_LEN` (R385, 10_memory_history_replay.md). -/
def HST_RP_LEN : Fld := .at .mem (0x1201C) 0 32 0
/-! `HST_RP_DEST_LO` (R385, 10_memory_history_replay.md). -/
def HST_RP_DEST_LO : Fld := .at .mem (0x12020) 0 32 0
/-! `HST_RP_DEST_HI` (R385, 10_memory_history_replay.md). -/
def HST_RP_DEST_HI_ADDR : Fld := .at .mem (0x12024) 0 16 0
/-! `HST_RP_DEST_LEN` (R385, 10_memory_history_replay.md). -/
def HST_RP_DEST_LEN : Fld := .at .mem (0x12028) 0 32 0
/-! `HST_RP_LAST_ID` (R385, 10_memory_history_replay.md). -/
def HST_RP_LAST_ID : Fld := .at .mem (0x12030) 0 32 0
/-! `HST_RP_BYTES` (R368, 10_memory_history_replay.md). -/
def HST_RP_BYTES : Fld := .at .mem (0x12034) 0 32 0
/-! `HST_RP_STAT` (R386, 10_memory_history_replay.md). -/
def HST_RP_STAT_STATUS : Fld := .at .mem (0x1202C) 28 4 0
def HST_RP_STAT_QUEUED : Fld := .at .mem (0x1202C) 16 3 0
def HST_RP_STAT_REFUSED : Fld := .at .mem (0x1202C) 1 1 0
def HST_RP_STAT_BUSY : Fld := .at .mem (0x1202C) 0 1 0
/-! `HST_RP_DONE` (R385, 10_memory_history_replay.md). -/
def HST_RP_DONE : Fld := .at .mem (0x12040) 0 32 0
/-! `HST_RP_FAILED` (R385, 10_memory_history_replay.md). -/
def HST_RP_FAILED : Fld := .at .mem (0x12044) 0 32 0

end Sys2Proof.Machine.R
end

