-- ==== Sys2Proof/Machine/FieldsC.lean ====
section
/-! DEFINITION. Handles of the register fields of blocks STP, DMA, HWK, CVU, FLT, SEC, BOT, TST, THM: where each field of the register maps lies, its width and
its reset value (spec chapters 01 to 17). A handle names one field of one instance; it is used to read, write or count it. -/

namespace Sys2Proof.Machine.R

/-! ### Block STP -/
/-! `STP_CFG` (R409, 11_stipple_compression.md). -/
def STP_CFG_JOB_SHARE : Fld := .at .stp (0x0) 16 11 0
def STP_CFG_HIST_SHARE : Fld := .at .stp (0x0) 0 11 0
/-! `STP_STAT` (R410, 11_stipple_compression.md). -/
def STP_STAT_LANES_BUSY : Fld := .at .stp (0x4) 0 6 0
/-! `STP_ENC_BLOCKS` (R411, 11_stipple_compression.md). -/
def STP_ENC_BLOCKS : Fld := .at .stp (0x100) 0 32 0
/-! `STP_DEC_BLOCKS` (R411, 11_stipple_compression.md). -/
def STP_DEC_BLOCKS : Fld := .at .stp (0x104) 0 32 0
/-! `STP_NO_GAIN` (R411, 11_stipple_compression.md). -/
def STP_NO_GAIN : Fld := .at .stp (0x108) 0 32 0
/-! `STP_PIPE_FAIL` (R411, 11_stipple_compression.md). -/
def STP_PIPE_FAIL : Fld := .at .stp (0x10C) 0 32 0
/-! `STP_RAW_ROWS` (R411, 11_stipple_compression.md). -/
def STP_RAW_ROWS : Fld := .at .stp (0x110) 0 32 0
/-! `STP_PARITY` (R411, 11_stipple_compression.md). -/
def STP_PARITY : Fld := .at .stp (0x114) 0 32 0
/-! `STP_JOB_CTRL` (R412, 11_stipple_compression.md). -/
def STP_JOB_CTRL_OP (i : Nat) : Fld := .at .stp (0x1000 + i * 0x100) 28 2 0
def STP_JOB_CTRL_NOTE_EN (i : Nat) : Fld := .at .stp (0x1000 + i * 0x100) 27 1 0
def STP_JOB_CTRL_PRIO (i : Nat) : Fld := .at .stp (0x1000 + i * 0x100) 24 3 0
def STP_JOB_CTRL_HQ (i : Nat) : Fld := .at .stp (0x1000 + i * 0x100) 18 6 0
def STP_JOB_CTRL_TAG (i : Nat) : Fld := .at .stp (0x1000 + i * 0x100) 0 16 0
/-! `STP_JOB_GEOM` (R413, 11_stipple_compression.md). -/
def STP_JOB_GEOM_S8 (i : Nat) : Fld := .at .stp (0x1004 + i * 0x100) 20 1 0
def STP_JOB_GEOM_NPL_M1 (i : Nat) : Fld := .at .stp (0x1004 + i * 0x100) 16 4 0
def STP_JOB_GEOM_W_M1 (i : Nat) : Fld := .at .stp (0x1004 + i * 0x100) 0 16 0
/-! `STP_JOB_SRC_LO` (R414, 11_stipple_compression.md). -/
def STP_JOB_SRC_LO (i : Nat) : Fld := .at .stp (0x1008 + i * 0x100) 0 32 0
/-! `STP_JOB_SRC_HI` (R414, 11_stipple_compression.md). -/
def STP_JOB_SRC_HI_ADDR (i : Nat) : Fld := .at .stp (0x100C + i * 0x100) 0 16 0
/-! `STP_JOB_DST_LO` (R414, 11_stipple_compression.md). -/
def STP_JOB_DST_LO (i : Nat) : Fld := .at .stp (0x1010 + i * 0x100) 0 32 0
/-! `STP_JOB_DST_HI` (R414, 11_stipple_compression.md). -/
def STP_JOB_DST_HI_ADDR (i : Nat) : Fld := .at .stp (0x1014 + i * 0x100) 0 16 0
/-! `STP_JOB_IN_LEN` (R414, 11_stipple_compression.md). -/
def STP_JOB_IN_LEN (i : Nat) : Fld := .at .stp (0x1018 + i * 0x100) 0 32 0
/-! `STP_JOB_DST_LEN` (R414, 11_stipple_compression.md). -/
def STP_JOB_DST_LEN (i : Nat) : Fld := .at .stp (0x101C + i * 0x100) 0 32 0
/-! `STP_JOB_OUT` (R402, 11_stipple_compression.md). -/
def STP_JOB_OUT (i : Nat) : Fld := .at .stp (0x1024 + i * 0x100) 0 32 0
/-! `STP_JOB_LAST_TAG` (R412, 11_stipple_compression.md). -/
def STP_JOB_LAST_TAG_TAG (i : Nat) : Fld := .at .stp (0x1028 + i * 0x100) 0 16 0
/-! `STP_JOB_DONE` (R414, 11_stipple_compression.md). -/
def STP_JOB_DONE (i : Nat) : Fld := .at .stp (0x102C + i * 0x100) 0 32 0
/-! `STP_JOB_FAILED` (R414, 11_stipple_compression.md). -/
def STP_JOB_FAILED (i : Nat) : Fld := .at .stp (0x1030 + i * 0x100) 0 32 0
/-! `STP_JOB_NOTE_DROP` (R404, 11_stipple_compression.md). -/
def STP_JOB_NOTE_DROP (i : Nat) : Fld := .at .stp (0x1034 + i * 0x100) 0 32 0
/-! `STP_JOB_STAT` (R415, 11_stipple_compression.md). -/
def STP_JOB_STAT_STATUS (i : Nat) : Fld := .at .stp (0x1020 + i * 0x100) 28 4 0
def STP_JOB_STAT_QUEUED (i : Nat) : Fld := .at .stp (0x1020 + i * 0x100) 16 3 0
def STP_JOB_STAT_REFUSED (i : Nat) : Fld := .at .stp (0x1020 + i * 0x100) 1 1 0
def STP_JOB_STAT_BUSY (i : Nat) : Fld := .at .stp (0x1020 + i * 0x100) 0 1 0

/-! ### Block DMA -/
/-! `DMA_CH_CTRL` (R427, 12_dma_hawk_queues_check_values.md). -/
def DMA_CH_CTRL_INT_EN (i : Nat) : Fld := .at .dma (0x1000 + i * 0x40) 3 1 1
/-! `DMA_CH_STAT` (R428, 12_dma_hawk_queues_check_values.md). -/
def DMA_CH_STAT_STATE (i : Nat) : Fld := .at .dma (0x1004 + i * 0x40) 28 4 0
def DMA_CH_STAT_ERR (i : Nat) : Fld := .at .dma (0x1004 + i * 0x40) 24 4 0
def DMA_CH_STAT_REFUSED (i : Nat) : Fld := .at .dma (0x1004 + i * 0x40) 3 1 0
def DMA_CH_STAT_ZERO_LEN (i : Nat) : Fld := .at .dma (0x1004 + i * 0x40) 2 1 0
def DMA_CH_STAT_HALT (i : Nat) : Fld := .at .dma (0x1004 + i * 0x40) 1 1 0
def DMA_CH_STAT_DONE (i : Nat) : Fld := .at .dma (0x1004 + i * 0x40) 0 1 0
/-! `DMA_CH_NEXT_LO` (R429, 12_dma_hawk_queues_check_values.md). -/
def DMA_CH_NEXT_LO (i : Nat) : Fld := .at .dma (0x1008 + i * 0x40) 0 32 0
/-! `DMA_CH_NEXT_HI` (R429, 12_dma_hawk_queues_check_values.md). -/
def DMA_CH_NEXT_HI_ADDR (i : Nat) : Fld := .at .dma (0x100C + i * 0x40) 0 16 0
/-! `DMA_CH_CUR_LO` (R429, 12_dma_hawk_queues_check_values.md). -/
def DMA_CH_CUR_LO (i : Nat) : Fld := .at .dma (0x1010 + i * 0x40) 0 32 0
/-! `DMA_CH_CUR_HI` (R429, 12_dma_hawk_queues_check_values.md). -/
def DMA_CH_CUR_HI_ADDR (i : Nat) : Fld := .at .dma (0x1014 + i * 0x40) 0 16 0
/-! `DMA_CH_HOP_LIMIT` (R418, 12_dma_hawk_queues_check_values.md). -/
def DMA_CH_HOP_LIMIT_N (i : Nat) : Fld := .at .dma (0x1018 + i * 0x40) 0 20 0x10000
/-! `DMA_CH_HOP_COUNT` (R429, 12_dma_hawk_queues_check_values.md). -/
def DMA_CH_HOP_COUNT_N (i : Nat) : Fld := .at .dma (0x101C + i * 0x40) 0 20 0
/-! `DMA_CH_FAIL_ADDR_LO` (R429, 12_dma_hawk_queues_check_values.md). -/
def DMA_CH_FAIL_ADDR_LO (i : Nat) : Fld := .at .dma (0x1020 + i * 0x40) 0 32 0
/-! `DMA_CH_FAIL_ADDR_HI` (R429, 12_dma_hawk_queues_check_values.md). -/
def DMA_CH_FAIL_ADDR_HI_ADDR (i : Nat) : Fld := .at .dma (0x1024 + i * 0x40) 0 16 0
/-! `DMA_CH_FAIL_INFO` (R429, 12_dma_hawk_queues_check_values.md). -/
def DMA_CH_FAIL_INFO_DIR (i : Nat) : Fld := .at .dma (0x1028 + i * 0x40) 28 4 0
/-! `DMA_CH_DONE_BYTES` (R429, 12_dma_hawk_queues_check_values.md). -/
def DMA_CH_DONE_BYTES (i : Nat) : Fld := .at .dma (0x102C + i * 0x40) 0 32 0
/-! `DMA_CH_DESCS` (R429, 12_dma_hawk_queues_check_values.md). -/
def DMA_CH_DESCS (i : Nat) : Fld := .at .dma (0x1030 + i * 0x40) 0 32 0
/-! `DMA_CH_BYTES` (R429, 12_dma_hawk_queues_check_values.md). -/
def DMA_CH_BYTES (i : Nat) : Fld := .at .dma (0x1034 + i * 0x40) 0 32 0
/-! `DMA_CH_HALTS` (R429, 12_dma_hawk_queues_check_values.md). -/
def DMA_CH_HALTS (i : Nat) : Fld := .at .dma (0x1038 + i * 0x40) 0 32 0

/-! ### Block HWK -/
/-! `HWK_CFG` (R442, 12_dma_hawk_queues_check_values.md). -/
def HWK_CFG_RD_TMO : Fld := .at .hwk (0x0) 0 10 0xA
/-! `HWK_Q_CTRL` (R443, 12_dma_hawk_queues_check_values.md). -/
def HWK_Q_CTRL_INT_EN (i : Nat) : Fld := .at .hwk (0x1000 + i * 0x80) 2 1 0
/-! `HWK_Q_CFG` (R444, 12_dma_hawk_queues_check_values.md). -/
def HWK_Q_CFG_ECC (i : Nat) : Fld := .at .hwk (0x1004 + i * 0x80) 31 1 0
def HWK_Q_CFG_LEVEL (i : Nat) : Fld := .at .hwk (0x1004 + i * 0x80) 0 20 0
/-! `HWK_Q_STAT` (R445, 12_dma_hawk_queues_check_values.md). -/
def HWK_Q_STAT_OVERRUN (i : Nat) : Fld := .at .hwk (0x1008 + i * 0x80) 29 1 0
def HWK_Q_STAT_ITEM_ERR (i : Nat) : Fld := .at .hwk (0x1008 + i * 0x80) 28 1 0
def HWK_Q_STAT_RD_ERR (i : Nat) : Fld := .at .hwk (0x1008 + i * 0x80) 27 1 0
def HWK_Q_STAT_LVL (i : Nat) : Fld := .at .hwk (0x1008 + i * 0x80) 26 1 0
def HWK_Q_STAT_CFG_ERR (i : Nat) : Fld := .at .hwk (0x1008 + i * 0x80) 25 1 0
def HWK_Q_STAT_NOSPILL (i : Nat) : Fld := .at .hwk (0x1008 + i * 0x80) 23 1 1
/-! `HWK_Q_CAP` (R446, 12_dma_hawk_queues_check_values.md). -/
def HWK_Q_CAP_N (i : Nat) : Fld := .at .hwk (0x100C + i * 0x80) 0 20 0x20
/-! `HWK_Q_RSTAT` (R446, 12_dma_hawk_queues_check_values.md). -/
def HWK_Q_RSTAT_PWORD (i : Nat) : Fld := .at .hwk (0x1020 + i * 0x80) 0 1 0
/-! `HWK_Q_IN` (R446, 12_dma_hawk_queues_check_values.md). -/
def HWK_Q_IN (i : Nat) : Fld := .at .hwk (0x1040 + i * 0x80) 0 32 0
/-! `HWK_Q_OUT` (R446, 12_dma_hawk_queues_check_values.md). -/
def HWK_Q_OUT (i : Nat) : Fld := .at .hwk (0x1044 + i * 0x80) 0 32 0
/-! `HWK_Q_OVR` (R446, 12_dma_hawk_queues_check_values.md). -/
def HWK_Q_OVR (i : Nat) : Fld := .at .hwk (0x1048 + i * 0x80) 0 32 0
/-! `HWK_Q_FLUSHED` (R446, 12_dma_hawk_queues_check_values.md). -/
def HWK_Q_FLUSHED (i : Nat) : Fld := .at .hwk (0x104C + i * 0x80) 0 32 0
/-! `HWK_Q_SPILLED` (R446, 12_dma_hawk_queues_check_values.md). -/
def HWK_Q_SPILLED (i : Nat) : Fld := .at .hwk (0x1050 + i * 0x80) 0 32 0
/-! `HWK_Q_POISONED` (R446, 12_dma_hawk_queues_check_values.md). -/
def HWK_Q_POISONED (i : Nat) : Fld := .at .hwk (0x1054 + i * 0x80) 0 32 0
/-! `HWK_Q_CE` (R446, 12_dma_hawk_queues_check_values.md). -/
def HWK_Q_CE (i : Nat) : Fld := .at .hwk (0x1058 + i * 0x80) 0 32 0
/-! `HWK_Q_UE` (R446, 12_dma_hawk_queues_check_values.md). -/
def HWK_Q_UE (i : Nat) : Fld := .at .hwk (0x105C + i * 0x80) 0 32 0

/-! ### Block CVU -/
/-! `CVU_CFG` (R453, 12_dma_hawk_queues_check_values.md). -/
def CVU_CFG_ALG (i : Nat) : Fld := .at .cvu (0x4 + i * 0x100) 29 3 0
def CVU_CFG_REFL (i : Nat) : Fld := .at .cvu (0x4 + i * 0x100) 28 1 0
def CVU_CFG_BSWAP (i : Nat) : Fld := .at .cvu (0x4 + i * 0x100) 27 1 0
def CVU_CFG_WIDTH_M1 (i : Nat) : Fld := .at .cvu (0x4 + i * 0x100) 16 5 0x1F
def CVU_CFG_CFG_ERR (i : Nat) : Fld := .at .cvu (0x4 + i * 0x100) 0 1 0
/-! `CVU_POLY` (R447, 12_dma_hawk_queues_check_values.md). -/
def CVU_POLY (i : Nat) : Fld := .at .cvu (0x8 + i * 0x100) 0 32 0
/-! `CVU_INIT` (R447, 12_dma_hawk_queues_check_values.md). -/
def CVU_INIT (i : Nat) : Fld := .at .cvu (0xC + i * 0x100) 0 32 0
/-! `CVU_XOROUT` (R447, 12_dma_hawk_queues_check_values.md). -/
def CVU_XOROUT (i : Nat) : Fld := .at .cvu (0x10 + i * 0x100) 0 32 0
/-! `CVU_VALUE` (R448, 12_dma_hawk_queues_check_values.md). -/
def CVU_VALUE (i : Nat) : Fld := .at .cvu (0x14 + i * 0x100) 0 32 0xFFFFFFFF
/-! `CVU_ALIVE_CFG` (R450, 12_dma_hawk_queues_check_values.md). -/
def CVU_ALIVE_CFG_EV_EN (i : Nat) : Fld := .at .cvu (0x30 + i * 0x100) 8 1 0
def CVU_ALIVE_CFG_WIDTH (i : Nat) : Fld := .at .cvu (0x30 + i * 0x100) 0 2 0
/-! `CVU_ALIVE_STAT` (R454, 12_dma_hawk_queues_check_values.md). -/
def CVU_ALIVE_STAT_VERDICT (i : Nat) : Fld := .at .cvu (0x38 + i * 0x100) 28 4 0
/-! `CVU_ALIVE_LAST` (R454, 12_dma_hawk_queues_check_values.md). -/
def CVU_ALIVE_LAST (i : Nat) : Fld := .at .cvu (0x3C + i * 0x100) 0 32 0
/-! `CVU_ALIVE_OK` (R450, 12_dma_hawk_queues_check_values.md). -/
def CVU_ALIVE_OK (i : Nat) : Fld := .at .cvu (0x40 + i * 0x100) 0 32 0
/-! `CVU_ALIVE_REPEAT` (R450, 12_dma_hawk_queues_check_values.md). -/
def CVU_ALIVE_REPEAT (i : Nat) : Fld := .at .cvu (0x44 + i * 0x100) 0 32 0
/-! `CVU_ALIVE_MISSING` (R450, 12_dma_hawk_queues_check_values.md). -/
def CVU_ALIVE_MISSING (i : Nat) : Fld := .at .cvu (0x48 + i * 0x100) 0 32 0

/-! ### Block FLT -/
/-! `FLT_SUMMARY` (R473, 13_faults_and_degradation.md). -/
def FLT_SUMMARY_DEVFAULT : Fld := .at .flt (0x0) 28 1 0
/-! `FLT_NOTIFY` (R474, 13_faults_and_degradation.md). -/
def FLT_NOTIFY_HAWK_EN : Fld := .at .flt (0x8) 31 1 0
def FLT_NOTIFY_PRIO : Fld := .at .flt (0x8) 28 3 0
def FLT_NOTIFY_HQ : Fld := .at .flt (0x8) 22 6 0
def FLT_NOTIFY_FWD_SEV : Fld := .at .flt (0x8) 16 3 1
/-! `FLT_ALIVE` (R474, 13_faults_and_degradation.md). -/
def FLT_ALIVE_STOP_SEV : Fld := .at .flt (0xC) 16 3 4
/-! `FLT_RAISED` (R476, 13_faults_and_degradation.md). -/
def FLT_RAISED : Fld := .at .flt (0x40) 0 32 0
/-! `FLT_ESCALATED` (R476, 13_faults_and_degradation.md). -/
def FLT_ESCALATED : Fld := .at .flt (0x44) 0 32 0
/-! `FLT_CONSEQ` (R465, 13_faults_and_degradation.md). -/
def FLT_CONSEQ : Fld := .at .flt (0x48) 0 32 0
/-! `FLT_TAPINGS` (R476, 13_faults_and_degradation.md). -/
def FLT_TAPINGS : Fld := .at .flt (0x4C) 0 32 0
/-! `FLT_RETURNS` (R476, 13_faults_and_degradation.md). -/
def FLT_RETURNS : Fld := .at .flt (0x50) 0 32 0
/-! `FLT_HELD` (R476, 13_faults_and_degradation.md). -/
def FLT_HELD : Fld := .at .flt (0x54) 0 32 0
/-! `FLT_NOTE_DROP` (R467, 13_faults_and_degradation.md). -/
def FLT_NOTE_DROP : Fld := .at .flt (0x58) 0 32 0
/-! `FLT_KIND_CFG` (R478, 13_faults_and_degradation.md). -/
def FLT_KIND_CFG_RECOV_MAX (i : Nat) : Fld := .at .flt (0x2000 + i * 0x4) 12 4 3
def FLT_KIND_CFG_WINDOW (i : Nat) : Fld := .at .flt (0x2000 + i * 0x4) 0 12 0x3C

/-! ### Block SEC -/
/-! `SEC_LC_STAT` (R520, 15_security_debug_power.md). -/
def SEC_LC_STAT_RESULT : Fld := .at .sec (0x0) 24 4 0
/-! `SEC_LC_CTRL` (R521, 15_security_debug_power.md). -/
def SEC_LC_CTRL_TARGET : Fld := .at .sec (0x4) 28 4 0
def SEC_LC_CTRL_TOKEN_KEY : Fld := .at .sec (0x4) 20 4 0
/-! `SEC_KEY_CTRL` (R523, 15_security_debug_power.md). -/
def SEC_KEY_CTRL_OP : Fld := .at .sec (0xC) 28 3 0
def SEC_KEY_CTRL_RESULT : Fld := .at .sec (0xC) 24 4 0
def SEC_KEY_CTRL_BUSY : Fld := .at .sec (0xC) 23 1 0
def SEC_KEY_CTRL_SLOT : Fld := .at .sec (0xC) 0 4 0
/-! `SEC_RB_CTRL` (R524, 15_security_debug_power.md). -/
def SEC_RB_CTRL_RESULT : Fld := .at .sec (0x18) 28 4 0
def SEC_RB_CTRL_NEW : Fld := .at .sec (0x18) 0 8 0
/-! `SEC_DBG_CTRL` (R526, 15_security_debug_power.md). -/
def SEC_DBG_CTRL_LEVEL : Fld := .at .sec (0x200) 2 2 0
/-! `SEC_DBG_STAT` (R527, 15_security_debug_power.md). -/
def SEC_DBG_STAT_STATE : Fld := .at .sec (0x204) 28 4 0
def SEC_DBG_STAT_RESULT : Fld := .at .sec (0x204) 24 4 0
def SEC_DBG_STAT_END_CAUSE : Fld := .at .sec (0x204) 20 4 0
def SEC_DBG_STAT_LEVEL : Fld := .at .sec (0x204) 18 2 0
def SEC_DBG_STAT_PATH : Fld := .at .sec (0x204) 16 2 0
/-! `SEC_DBG_CORE` (R528, 15_security_debug_power.md). -/
def SEC_DBG_CORE_HALTED : Fld := .at .sec (0x208) 4 4 0
def SEC_DBG_CORE_HALT : Fld := .at .sec (0x208) 0 4 0
/-! `SEC_DBG_PUB` (R510, 15_security_debug_power.md). -/
def SEC_DBG_PUB (i : Nat) : Fld := .at .sec (0x400 + i * 0x4) 0 32 0

/-! ### Block BOT -/
/-! `BOT_CKPT_CTRL` (R199, 05_skim_live_calibration.md). -/
def BOT_CKPT_CTRL_INTERVAL : Fld := .at .bot (0x800) 16 16 0x258
def BOT_CKPT_CTRL_RESTORE_EN : Fld := .at .bot (0x800) 1 1 1
/-! `BOT_CKPT_STAT` (R200, 05_skim_live_calibration.md). -/
def BOT_CKPT_STAT_SEQ : Fld := .at .bot (0x804) 16 16 0
def BOT_CKPT_STAT_RESULT : Fld := .at .bot (0x804) 4 4 0
def BOT_CKPT_STAT_SLOT : Fld := .at .bot (0x804) 2 1 0
def BOT_CKPT_STAT_MERGED : Fld := .at .bot (0x804) 1 1 0
def BOT_CKPT_STAT_BUSY : Fld := .at .bot (0x804) 0 1 0
/-! `BOT_CKPT_TIME_LO` (R201, 05_skim_live_calibration.md). -/
def BOT_CKPT_TIME_LO : Fld := .at .bot (0x808) 0 32 0
/-! `BOT_CKPT_TIME_HI` (R201, 05_skim_live_calibration.md). -/
def BOT_CKPT_TIME_HI : Fld := .at .bot (0x80C) 0 32 0
/-! `BOT_CKPT_AREA` (R201, 05_skim_live_calibration.md). -/
def BOT_CKPT_AREA_BASE : Fld := .at .bot (0x810) 24 8 0
def BOT_CKPT_AREA_SIZE : Fld := .at .bot (0x810) 0 16 0
/-! `BOT_STAT` (R493, 14_startup_and_boot_journal.md). -/
def BOT_STAT_STAGE : Fld := .at .bot (0x0) 28 4 0
def BOT_STAT_STEP : Fld := .at .bot (0x0) 20 8 0
def BOT_STAT_SAFE_CAUSE : Fld := .at .bot (0x0) 17 3 0
def BOT_STAT_UNTESTED_PAIR : Fld := .at .bot (0x0) 16 1 0
def BOT_STAT_ALT_SLOT : Fld := .at .bot (0x0) 15 1 0
def BOT_STAT_SLOT : Fld := .at .bot (0x0) 14 1 0
def BOT_STAT_SRC : Fld := .at .bot (0x0) 12 2 0
def BOT_STAT_TRIPPED : Fld := .at .bot (0x0) 0 1 0
/-! `BOT_STRAP` (R482, 14_startup_and_boot_journal.md). -/
def BOT_STRAP_SEL : Fld := .at .bot (0x4) 0 3 0
/-! `BOT_SEQ` (R496, 14_startup_and_boot_journal.md). -/
def BOT_SEQ : Fld := .at .bot (0x10) 0 32 0
/-! `BOT_HWIF` (R495, 14_startup_and_boot_journal.md). -/
def BOT_HWIF_CTL_MAJOR : Fld := .at .bot (0x14) 24 8 1
def BOT_HWIF_CTL_MINOR : Fld := .at .bot (0x14) 16 8 3
def BOT_HWIF_LANE_MAJOR : Fld := .at .bot (0x14) 8 8 1
def BOT_HWIF_LANE_MINOR : Fld := .at .bot (0x14) 4 4 1
/-! `BOT_FW_INFO` (R496, 14_startup_and_boot_journal.md). -/
def BOT_FW_INFO_CMAJ : Fld := .at .bot (0x18) 24 8 0
def BOT_FW_INFO_CMIN : Fld := .at .bot (0x18) 16 8 0
def BOT_FW_INFO_LMAJ : Fld := .at .bot (0x18) 8 8 0
def BOT_FW_INFO_LMIN : Fld := .at .bot (0x18) 0 8 0
/-! `BOT_JNL_NEXT` (R496, 14_startup_and_boot_journal.md). -/
def BOT_JNL_NEXT_N : Fld := .at .bot (0x20) 0 13 0
/-! `BOT_JNL_IDX` (R496, 14_startup_and_boot_journal.md). -/
def BOT_JNL_IDX_N : Fld := .at .bot (0x24) 0 13 0

/-! ### Block TST -/
/-! `TST_LANE_CTRL` (R548, 16_link_test_and_diagnostics.md). -/
def TST_LANE_CTRL_MODE (i : Nat) : Fld := .at .tst (0x10000 + i * 0x100) 29 3 0
def TST_LANE_CTRL_PAT (i : Nat) : Fld := .at .tst (0x10000 + i * 0x100) 26 3 0
def TST_LANE_CTRL_INV (i : Nat) : Fld := .at .tst (0x10000 + i * 0x100) 25 1 0
def TST_LANE_CTRL_RATE (i : Nat) : Fld := .at .tst (0x10000 + i * 0x100) 22 2 0
def TST_LANE_CTRL_PLEN_M1 (i : Nat) : Fld := .at .tst (0x10000 + i * 0x100) 0 7 0x7F
/-! `TST_LANE_STAT` (R549, 16_link_test_and_diagnostics.md). -/
def TST_LANE_STAT_LOCK (i : Nat) : Fld := .at .tst (0x10004 + i * 0x100) 31 1 0
def TST_LANE_STAT_ACTIVE (i : Nat) : Fld := .at .tst (0x10004 + i * 0x100) 30 1 0
def TST_LANE_STAT_ENDED (i : Nat) : Fld := .at .tst (0x10004 + i * 0x100) 26 4 0
def TST_LANE_STAT_REFUSED (i : Nat) : Fld := .at .tst (0x10004 + i * 0x100) 25 1 0
/-! `TST_USER` (R537, 16_link_test_and_diagnostics.md). -/
def TST_USER (i j : Nat) : Fld := .at .tst (0x10008 + i * 0x100 + j * 0x4) 0 32 0
/-! `TST_ERR_LO` (R550, 16_link_test_and_diagnostics.md). -/
def TST_ERR_LO (i : Nat) : Fld := .at .tst (0x10020 + i * 0x100) 0 32 0
/-! `TST_ERR_HI` (R550, 16_link_test_and_diagnostics.md). -/
def TST_ERR_HI (i : Nat) : Fld := .at .tst (0x10024 + i * 0x100) 0 32 0
/-! `TST_BITS_LO` (R550, 16_link_test_and_diagnostics.md). -/
def TST_BITS_LO (i : Nat) : Fld := .at .tst (0x10028 + i * 0x100) 0 32 0
/-! `TST_BITS_HI` (R550, 16_link_test_and_diagnostics.md). -/
def TST_BITS_HI (i : Nat) : Fld := .at .tst (0x1002C + i * 0x100) 0 32 0
/-! `TST_LOCK_LOSS` (R538, 16_link_test_and_diagnostics.md). -/
def TST_LOCK_LOSS (i : Nat) : Fld := .at .tst (0x10030 + i * 0x100) 0 32 0
/-! `TST_EYE_ERR` (R541, 16_link_test_and_diagnostics.md). -/
def TST_EYE_ERR (i : Nat) : Fld := .at .tst (0x10048 + i * 0x100) 0 32 0
/-! `TST_EYE_STAT` (R552, 16_link_test_and_diagnostics.md). -/
def TST_EYE_STAT_BUSY (i : Nat) : Fld := .at .tst (0x10044 + i * 0x100) 31 1 0
def TST_EYE_STAT_DONE (i : Nat) : Fld := .at .tst (0x10044 + i * 0x100) 30 1 0
def TST_EYE_STAT_REFUSED (i : Nat) : Fld := .at .tst (0x10044 + i * 0x100) 29 1 0
def TST_EYE_STAT_ABORTED (i : Nat) : Fld := .at .tst (0x10044 + i * 0x100) 28 1 0
/-! `TST_BCAST_CTRL` (R543, 16_link_test_and_diagnostics.md). -/
def TST_BCAST_CTRL_MODE : Fld := .at .tst (0x10) 29 3 0
def TST_BCAST_CTRL_PAT : Fld := .at .tst (0x10) 26 3 0
def TST_BCAST_CTRL_INV : Fld := .at .tst (0x10) 25 1 0
def TST_BCAST_CTRL_RATE : Fld := .at .tst (0x10) 22 2 0
def TST_BCAST_CTRL_PLEN_M1 : Fld := .at .tst (0x10) 0 7 0x7F
/-! `TST_BCAST_MASK` (R543, 16_link_test_and_diagnostics.md). -/
def TST_BCAST_MASK (i : Nat) : Fld := .at .tst (0x20 + i * 0x4) 0 32 0

/-! ### Block THM -/
/-! `THM_TEMP` (R480, 13_faults_and_degradation.md). -/
def THM_TEMP_VALID (i : Nat) : Fld := .at .thm (0x0 + i * 0x4) 31 1 0
def THM_TEMP_T (i : Nat) : Fld := .at .thm (0x0 + i * 0x4) 0 13 0
/-! `THM_STAT` (R480, 13_faults_and_degradation.md). -/
def THM_STAT_CRIT : Fld := .at .thm (0x44) 31 1 0
def THM_STAT_SHEDDING : Fld := .at .thm (0x44) 30 1 0
def THM_STAT_RETURNING : Fld := .at .thm (0x44) 29 1 0
def THM_STAT_NSHED : Fld := .at .thm (0x44) 16 8 0
def THM_STAT_HOT : Fld := .at .thm (0x44) 0 13 0
/-! `THM_PWR_CTRL` (R529, 15_security_debug_power.md). -/
def THM_PWR_CTRL_TARGET : Fld := .at .thm (0x100) 0 2 0
/-! `THM_PWR_STAT` (R530, 15_security_debug_power.md). -/
def THM_PWR_STAT_STATE : Fld := .at .thm (0x104) 28 4 0
def THM_PWR_STAT_TRANS : Fld := .at .thm (0x104) 24 4 0
def THM_PWR_STAT_RESULT : Fld := .at .thm (0x104) 20 4 0
def THM_PWR_STAT_WAKE : Fld := .at .thm (0x104) 16 4 0
/-! `THM_WAKE_CFG` (R531, 15_security_debug_power.md). -/
def THM_WAKE_CFG_PIN_EN : Fld := .at .thm (0x108) 31 1 1
def THM_WAKE_CFG_TIMER_EN : Fld := .at .thm (0x108) 30 1 0
def THM_WAKE_CFG_TIMER : Fld := .at .thm (0x108) 0 24 0xE10

end Sys2Proof.Machine.R
end

