-- ==== Sys2Proof/Config.lean ====
section
/-! DEFINITION. What an implementation fixes and the spec leaves open: free values without a body, and the standard
algorithms that the spec names but does not define (uninterpreted functions). No proof can see what they are. -/

namespace Sys2Proof

/-- The stream of free values: the value of draw number `n`. Whoever draws takes it modulo the range the spec sets. -/
opaque Config.freeValue : Nat → Nat

/-- Silicon stepping number s (R495, R567): fixed by the part. -/
opaque Config.stepping : Nat

/-- The unique device identifier as fused (R498, R525): 16 bytes. -/
opaque Config.uid : Nat

/-- The Ndearn root public key, ECDSA P-384, in ROM (R500): X and Y, 96 bytes. -/
opaque Config.rootKey : List Byte

/-- The development keys of an FB1D part (R4): ECDSA P-384 and ML-DSA-65. -/
opaque Config.devKey : List Byte × List Byte

/-- SHA-384 of a byte string. -/
opaque Config.sha384 : List Byte → List Byte

/-- HMAC-SHA-256 under a key (R108). -/
opaque Config.hmacSha256 : List Byte → List Byte → List Byte

/-- ECDSA P-384 verification: public key, message, signature (R4, R276, R508). -/
opaque Config.ecdsaVerify : List Byte → List Byte → List Byte → Bool

/-- ML-DSA-65 verification: public key, message, signature (R4, R276). -/
opaque Config.mldsaVerify : List Byte → List Byte → List Byte → Bool

/-- AES-256-GCM decryption: key, initialisation vector, additional data, ciphertext, tag; `none` when the tag is wrong. -/
opaque Config.aesGcmOpen : List Byte → List Byte → List Byte → List Byte → List Byte → Option (List Byte)

/-- The ephemeral ECDH key pair number `n` on P-384 (R510): its public key, X and Y, 96 bytes. -/
opaque Config.ecdhPublic : Nat → List Byte

/-- The x-coordinate of the ECDH point of key pair number `n` with a public key (R510): 48 bytes. -/
opaque Config.ecdhShared : Nat → List Byte → List Byte

end Sys2Proof
end

