-- ==== Sys2Proof/Machine/Bits.lean ====
section
/-! DEFINITION. Bit fields, signed formats (R13), byte orders (R14) and cyclic redundancy checks (R88) over natural numbers
and byte strings. -/

namespace Sys2Proof.Machine

/-- Bits `[hi:lo]` of `x`. -/
def bits (x hi lo : Nat) : Nat := x / 2 ^ lo % 2 ^ (hi - lo + 1)

/-- 1 for true, 0 for false. -/
def b2n (b : Bool) : Nat := if b then 1 else 0

/-- `x` with bit `i` set to `b`. -/
def putBit (x i : Nat) (b : Bool) : Nat := x - b2n (x.testBit i) * 2 ^ i + b2n b * 2 ^ i

/-- The bits of `x` that are 0 in `m`: what a W1C write of `m` leaves (R9). -/
def clearBits (x m : Nat) : Nat := x - (x &&& m)

/-- Number of ones among the low `w` bits. -/
def popcount (w x : Nat) : Nat := ((List.range w).filter (x.testBit ·)).length

/-- The two's-complement reading of the low `w` bits (R13). -/
def toSigned (w x : Nat) : Int :=
  if x % 2 ^ w < 2 ^ (w - 1) then (x % 2 ^ w : Nat) else (x % 2 ^ w : Nat) - (2 ^ w : Nat)

/-- The low `w` bits of the two's-complement form of `x`. -/
def ofSigned (w : Nat) (x : Int) : Nat := (x % (2 ^ w : Nat)).toNat

/-- `x` limited to the range `lo` to `hi`. -/
def clampI (lo hi x : Int) : Int := if x < lo then lo else if hi < x then hi else x

/-- `x` limited to the range `lo` to `hi`. -/
def clampN (lo hi x : Nat) : Nat := if x < lo then lo else if hi < x then hi else x

/-- `x` limited to a `w`-bit two's-complement field and encoded in it. -/
def satSigned (w : Nat) (x : Int) : Nat :=
  ofSigned w (clampI (-(2 ^ (w - 1) : Nat)) ((2 ^ (w - 1) : Nat) - 1) x)

/-- `x` limited to the largest value of a `w`-bit field. -/
def satN (w x : Nat) : Nat := min x (2 ^ w - 1)

/-- floor(a / b) for signed `a` and positive `b`. -/
def floorDiv (a : Int) (b : Nat) : Int := a.fdiv b

/-- ceil(a / b). -/
def ceilDiv (a b : Nat) : Nat := (a + b - 1) / b

/-- `x` rounded up to a multiple of `n`. -/
def roundUp (x n : Nat) : Nat := ceilDiv x n * n

/-- The byte with value `x` mod 256. -/
def byte (x : Nat) : Byte := BitVec.ofNat 8 x

/-- The number whose bytes, most significant first, are `bs` (VSL and FXT fields, R14). -/
def beNat (bs : List Byte) : Nat := bs.foldl (fun a b => a * 256 + b.toNat) 0

/-- The number whose bytes, least significant first, are `bs` (in-memory structures, R14). -/
def leNat (bs : List Byte) : Nat := bs.foldr (fun b a => b.toNat + 256 * a) 0

/-- The low `n` bytes of `x`, least significant first. -/
def leBytes : Nat → Nat → List Byte
  | 0, _ => []
  | n + 1, x => byte x :: leBytes n (x / 256)

/-- The low `n` bytes of `x`, most significant first. -/
def beBytes (n x : Nat) : List Byte := (leBytes n x).reverse

/-- `n` bytes of `bs` from offset `off`. -/
def slice (bs : List Byte) (off n : Nat) : List Byte := (bs.drop off).take n

/-- Little-endian field of `n` bytes at offset `off`. -/
def leAt (bs : List Byte) (off n : Nat) : Nat := leNat (slice bs off n)

/-- Big-endian field of `n` bytes at offset `off`. -/
def beAt (bs : List Byte) (off n : Nat) : Nat := beNat (slice bs off n)

/-- `n` bytes of 0. -/
def zeros (n : Nat) : List Byte := List.replicate n 0

/-- `bs` filled with 0 bytes up to `n` bytes, or cut there. -/
def padTo (n : Nat) (bs : List Byte) : List Byte := (bs ++ zeros n).take n

/-- The bytes of `bs` as 32-bit little-endian words, the last one filled with 0. -/
def leWords : List Byte → List Nat
  | a :: b :: c :: d :: t => leNat [a, b, c, d] :: leWords t
  | [] => []
  | t => [leNat t]

/-- `f` applied `n` times. -/
def iter {α : Type} (f : α → α) : Nat → α → α
  | 0, x => x
  | n + 1, x => iter f n (f x)

/-- One bit of a CRC of width `w` that shifts left. -/
def crcShl (w poly c : Nat) : Nat :=
  if c.testBit (w - 1) then ((c * 2) % 2 ^ w) ^^^ poly else (c * 2) % 2 ^ w

/-- One bit of a CRC that shifts right; `poly` is bit-reversed. -/
def crcShr (poly c : Nat) : Nat := if c.testBit 0 then (c / 2) ^^^ poly else c / 2

/-- HCRC: CRC-16/CCITT-FALSE (R88). -/
def crc16 (bs : List Byte) : Nat :=
  bs.foldl (fun c b => iter (crcShl 16 0x1021) 8 (c ^^^ (b.toNat * 256))) 0xFFFF

/-- CRC-32C with the parameters of R88 (polynomial 0x1EDC_6F41, here bit-reversed). -/
def crc32c (bs : List Byte) : Nat :=
  bs.foldl (fun c b => iter (crcShr 0x82F63B78) 8 (c ^^^ b.toNat)) 0xFFFFFFFF ^^^ 0xFFFFFFFF

/-- The first index at which `p` holds. -/
def findFrom {α : Type} (p : α → Bool) : List α → Nat → Option Nat
  | [], _ => none
  | x :: t, i => if p x then some i else findFrom p t (i + 1)

/-- The list with element `i` replaced. -/
def setAt {α : Type} (l : List α) (i : Nat) (x : α) : List α := l.set i x

/-- Elements for which `p` holds are mapped by `f`, the others kept. -/
def mapIf {α : Type} (p : α → Bool) (f : α → α) (l : List α) : List α :=
  l.map (fun x => if p x then f x else x)

/-- The element of a list with the least key; the first of equal ones. -/
def minBy {α : Type} (key : α → Nat) : List α → Option α
  | [] => none
  | x :: t => match minBy key t with
    | none => some x
    | some y => if key y < key x then some y else some x

/-- Insertion of a number in a rising list. -/
def insertNat (x : Nat) : List Nat → List Nat
  | [] => [x]
  | y :: t => if x ≤ y then x :: y :: t else y :: insertNat x t

/-- A list of numbers in rising order. -/
def sortNat (l : List Nat) : List Nat := l.foldr insertNat []

end Sys2Proof.Machine
end

