-- ==== Sys2Proof/Machine/TypesFront.lean ====
section
/-! DEFINITION. Hidden state of Chalk time, the sensor lanes and ports, the Hawk queues and the fault collector (chapters 02, 03,
12 and 13): what the registers do not show. -/

namespace Sys2Proof.Machine

/-! ### Chalk time (R93 to R97) -/

/-- Chalk time and its adjustment (R93, R94). `time` counts 2^-32 ns, modulo 2^96; `phase` is the phase still to be slewed, in
the same unit; `run` is 1 from the lock of the core PLL; `cycles` counts CLK_CORE cycles since then. -/
structure Chalk where
  time   : Nat
  phase  : Int
  run    : Bool
  cycles : Nat
  deriving DecidableEq, Repr

/-- Chalk before the core PLL locks (R93). -/
def Chalk.init : Chalk := ⟨0, 0, false, 0⟩

/-- One trigger generator (R97, R98). Triggers are numbered on from one run of the generator to the next: the number of the next
trigger, of the first trigger since EN became 1, and of the line n = 0 of R97; START, L0 and the period of the latest run; and the
ranges of numbers triggered in earlier enables with these, as far as a member's y offset reaches back (R206). -/
structure Tg where
  next  : Nat
  first : Nat
  base  : Nat
  run   : Option (Nat × Nat × Nat)
  past  : List (Nat × Nat)
  deriving DecidableEq, Repr

/-- A trigger generator at reset. -/
def Tg.init : Tg := ⟨0, 0, 0, none, []⟩

/-! ### Sensor lanes (R53 to R72) -/

/-- Where a training search stands (R56). -/
inductive LanePhase where
  | idle | ident | adapting | requesting | settling | measuring | linkUp
  deriving DecidableEq, Repr

/-- What a received block is (R45, R47): an invalid sync header, a data block, or a control block by its type. -/
inductive BlockKind where
  | invalid | data | filler | sop | sidle | train | align | msg | reserved
  deriving DecidableEq, Repr

/-- What the outstanding tap request is for (R56): the starting preset, a move, or the inverse of a move. -/
inductive ReqFor where
  | start | move | inverse
  deriving DecidableEq, Repr

/-- Hidden state of one lane: its attempt (R60, R61), its training search (R56 to R59), identity latching (R50), elastic
buffer (R66), gang alignment (R69, R70), descrambler and scrambler (R46). `upSent`: LINK_UP has been sent since the last restart;
`seen64`: 64 consecutive non-TRAIN blocks have come since the last LINK_UP (R60); `bip`: the lane's own BIP8 since the last ALIGN;
`queue`: striped blocks that wait for the other lanes of the gang (R68). -/
structure Lane where
  phase     : LanePhase
  reqFor    : ReqFor
  reqSeq    : Nat
  preset    : Nat
  moveIx    : Nat
  fails     : Nat
  reqs      : Nat
  pe        : Nat
  timeouts  : Nat
  echo      : Bool
  adapted   : Bool
  waiting   : Bool
  setB      : Bool
  peMax     : Nat
  eyeMargin : Nat
  settle    : Nat
  maxReq    : Nat
  identPage : Option (List Byte)
  capsPage  : Option (List Byte)
  headSeen  : Bool
  converged : Bool
  linkUp    : Bool
  clear64   : Bool
  lockTimer : Bool
  trainAt   : Option Nat
  lostLock  : Bool
  burst     : Bool
  lossTaped : Bool
  fill      : Nat
  marker    : Option Nat
  lineUps   : Nat
  alignBad  : Nat
  upSent    : Bool
  seen64    : Bool
  rxScr     : BitVec 58
  txScr     : BitVec 58
  bip       : Byte
  queue     : List Block
  deriving DecidableEq, Repr

/-- A lane at reset. -/
def Lane.init : Lane :=
  ⟨.idle, .start, 0, 1, 0, 0, 0, 0, 0, false, false, false, false, 16, 24, 20, 48, none, none, false, false, false, false,
      false, none, false, false, false, 32, none, 0, 0, false, false, 0, 0, 0, []⟩

/-! ### Ports: packets, triggers, messages (R84 to R109) -/

/-- A trigger entry (R91): trigger number, LINE, trigger time, deadline, one answered bit per stream, whether it has expired. -/
structure TrigEnt where
  n        : Nat
  line     : Nat
  time     : Nat
  deadline : Nat
  answered : Nat
  expired  : Bool
  deriving DecidableEq, Repr

/-- A packet whose header has arrived and whose end has not (R52, R89): its header, the number and time of the trigger it
answers; `accepted` when checks 1 to 9 passed, `bad` when a
reserved block fell into it (R48); `free` has bit i set when the Skim buffer of lane i of the channel was free at its start (R174);
the bytes that have followed the header. -/
structure Pkt where
  header   : List Byte
  n        : Nat
  time     : Nat
  accepted : Bool
  bad      : Bool
  free     : Nat
  rest     : List Byte
  deriving DecidableEq, Repr

/-- Back-channel messages of the device (R102). -/
inductive Msg where
  | trigger (line time : Nat)
  | syncReq (seq t1 : Nat)
  | syncRes (seq off delay : Nat)
  | chalReq (nonce : List Byte)
  | headCmd (tag : Nat) (data : List Byte)
  deriving DecidableEq, Repr

/-- A line that has left the packet checks for Render: its header fields (`expo` is EXPOSURE, `time` the trigger time),
the samples that came, which Skim buffers were free at its start (R174), and its CRC verdict (R27, R89). -/
structure RawLine where
  n       : Nat
  line    : Nat
  time    : Nat
  expo    : Nat
  pixels  : Nat
  bands   : Nat
  format  : Nat
  payload : List Byte
  free    : Nat
  good    : Bool
  deriving DecidableEq, Repr

/-- Hidden state of one port (of a gang: of its lowest port). `head` is a packet whose header is not complete: its bytes so far, and
whether a reserved block fell into it; `stripe` is the lane that delivers the next striped block (R68); `bcFifo` holds the units of
the message in transmission that have crossed into the back channel's queue of 32, `bcRest` the others (R20); `txOut` the blocks of
the last message sent; `rxSom` the Chalk time of the SOM unit of the message in progress (R104). -/
structure Port where
  trigs     : List TrigEnt
  heldTrigs : List TrigEnt
  lastLine  : Tab (Option Nat)
  head      : Option (List Byte × Bool)
  stripe    : Nat
  pkt       : Option Pkt
  lines     : List RawLine
  txQueue   : List Msg
  txCur     : Option Msg
  txSeq     : Nat
  bcFifo    : List (List Byte)
  bcRest    : List (List Byte)
  txOut     : List Block
  rxSeq     : Nat
  rxMsg     : Option (List Byte)
  rxSom     : Nat
  syncNext  : Nat
  syncOut   : Option (Nat × Nat)
  delays    : List Int
  goodRun   : Nat
  badRun    : Nat
  tmoRun    : Nat
  cmdTag    : Nat
  nonce     : List Byte
  key       : List Byte
  deriving DecidableEq, Repr

/-- A port at reset. -/
def Port.init : Port :=
  ⟨[], [], [], none, 0, none, [], [], none, 0, [], [], [], 0, none, 0, 0, none, [], 0, 0, 0, 0, [], zeros 32⟩

/-! ### Hawk queues (R430 to R440) -/

/-- A complete item: its completion number, priority, words, whether it is poisoned as a whole (R440), and its words that are known to be
bad, bit k for word k (R437). -/
structure HawkItem where
  id     : Nat
  prio   : Nat
  words  : List Nat
  poison : Bool
  bad    : Nat
  deriving DecidableEq, Repr

/-- An item in assembly (R432): priority, length, words so far, and whether a flush has taken it into its set (R439). -/
structure HawkOpen where
  prio    : Nat
  len     : Nat
  words   : List Nat
  flushed : Bool
  deriving DecidableEq, Repr

/-- Hidden state of one Hawk queue: register tail and register head (16 entries each), middle in slots of the spill region,
the open item, WDATA writes still to be ignored, the current item and the words read of it, the completion numbers of the flush
set, the paths whose RHDR read stalls with the CLK_CORE cycle of its bound (R435), the next completion number, the spill region's base and bytes, whether spill has ended (R440), and whether
the queue is taped off. -/
structure HawkQ where
  tail     : List HawkItem
  head     : List HawkItem
  middle   : List (Nat × HawkItem)
  asm      : Option HawkOpen
  ignore   : Nat
  cur      : Option (Nat × Nat)
  flushing : Bool
  flushIds : List Nat
  stalled  : List (Path × Nat)
  nextId   : Nat
  base     : Nat
  size     : Nat
  sealed   : Bool
  taped    : Bool
  deriving DecidableEq, Repr

/-- A Hawk queue at reset. -/
def HawkQ.init : HawkQ := ⟨[], [], [], none, 0, none, false, [], [], 0, 0, 0, false, false⟩

/-! ### Fault collector (R457 to R472) -/

/-- One snag (R458); `inWindow` marks a level condition that rose while its source was suppressed (R465), `stops` an occurrence that
has stopped ALIVE (R468). -/
structure Snag where
  latched  : Bool
  live     : Bool
  conseq   : Bool
  level    : Nat
  count    : Nat
  time     : Nat
  inWindow : Bool
  stops    : Bool
  deriving DecidableEq, Repr

/-- A snag at reset. -/
def Snag.init : Snag := ⟨false, false, false, 0, 0, 0, false, false⟩

/-- One taping of a unit or of a scope (R462): the event and level that made it, and whether it is held. -/
structure Taping where
  event : Nat
  level : Nat
  held  : Bool
  deriving DecidableEq, Repr

/-- A unit of the collector (R461 to R463): its own taping, the scope taping it anchors with the units in that scope, its
other tapings, whether its reset is in progress, the CLK_CORE cycles of its returns, and the last taping's event and level. -/
structure FUnit where
  own       : Option Taping
  anchored  : Option (Taping × List Nat)
  shed      : Bool
  permanent : Bool
  resetting : Bool
  returns   : List Nat
  lastEvent : Nat
  lastLevel : Nat
  deriving DecidableEq, Repr

/-- A unit at reset. -/
def FUnit.init : FUnit := ⟨none, none, false, false, false, [], 0, 0⟩

end Sys2Proof.Machine
end

