-- ==== Sys2Proof/Machine/TypesHost.lean ====
section
/-! DEFINITION. Hidden state of start-up, the Lath loader, the uplink, memory, Stipple, DMA, security, power, test and access
units (chapters 08 to 11 and 14 to 17): what the registers do not show. -/

namespace Sys2Proof.Machine

/-! ### Start-up and boot journal (R481 to R492) -/

/-- Hidden state of start-up: ns of CLK_AON since the reset that began the start, the journal copy in force (0 or 1), its
LAST_SLOT and LAST_STAGE, the decision taken for each table entry (0 PRIMARY, 1 ALTERNATE, 2 SKIP), slots not yet tried and the
preferred one, events of Primer steps with their times, the latched journal record, the pins BOOT_SEL, whether a CLOCK failure is
recorded in this start, which of the PORTS and UPLINK steps have ended, whether the watchdog runs, TIME of the checkpoint in progress
(R184), level D3 (R507), the Lath images of the running slot and of the other one, whether a start is one of a wake, and the
channels that the MEMORY step trains. -/
structure Boot where
  aon        : Nat
  copy       : Nat
  lastSlot   : Nat
  lastStage  : Nat
  decisions  : Tab Nat
  candidates : List Nat
  pref       : Nat
  early      : List (Nat × Nat)
  recLatch   : Option (List Byte)
  selPins    : Nat
  clockFail  : Bool
  portsDone  : Bool
  uplinkDone : Bool
  watchdog   : Bool
  ckptTime   : Nat
  d3         : Bool
  lath       : Option (List Byte)
  otherLath  : Option (List Byte)
  wake       : Bool
  training   : List Nat
  deriving DecidableEq, Repr

/-- Start-up state at reset. -/
def Boot.init : Boot :=
  ⟨0, 0, 0xFF, 0, [], [], 0, [], none, 0, false, false, false, false, 0, false, none, none, false, []⟩

/-! ### Uplink (R309 to R331) -/

/-- Encapsulation of a frame, taken when it is built (R313): the fields of FXT_ENCAP, the addresses and ports, the class's PCP, and
the values that the spec leaves open (IPv4 identification, IPv6 flow label). -/
structure Encap where
  mode  : Nat
  vlan  : Bool
  vid   : Nat
  pcp   : Nat
  etype : Nat
  dmac  : List Byte
  smac  : List Byte
  dport : Nat
  sport : Nat
  src   : List Byte
  dst   : List Byte
  ident : Nat
  deriving DecidableEq, Repr

/-- A frame in a class queue (R314, R325): its encapsulation, TYPE, header and payload, deadline (`none` with NODL) and class. -/
structure Frame where
  encap    : Encap
  type     : Nat
  header   : List Byte
  payload  : List Byte
  deadline : Option Nat
  cls      : Nat
  deriving DecidableEq, Repr

/-- A frame that is offered: TYPE, GROUP, AUX, payload, and the reference time of its deadline (R315, R325). -/
structure FrameReq where
  type    : Nat
  group   : Nat
  aux     : Nat
  ref     : Nat
  payload : List Byte
  deriving DecidableEq, Repr

/-- An open OBJECT or EVENT frame (R317, R319): group, least reference time, entries and capacity. -/
structure OpenFrame where
  group   : Nat
  ref     : Nat
  entries : List (List Byte)
  cap     : Nat
  deriving DecidableEq, Repr

/-- Hidden state of a class of a sub-port: its queue in the order of R326, credit in 2^-10 bit and the CLK_CORE cycle at which it
was brought up to date, next SEQ, whether the next frame carries FIRST, built frames whose source waits with their encapsulation
(R321, R324), and the open OBJECT and EVENT frames. -/
structure UClass where
  queue  : List Frame
  credit : Int
  since  : Nat
  seq    : Nat
  first  : Bool
  wait   : List (Encap × FrameReq)
  objs   : Option OpenFrame
  evts   : Option OpenFrame
  deriving DecidableEq, Repr

/-- A class at reset. -/
def UClass.init : UClass := ⟨[], 0, 0, 0, true, [], none, none⟩

/-- Hidden state of a sub-port: the frame under way with the CLK_CORE cycle at which its last bit leaves, the paused priorities, those
whose quanta an 802.3 PAUSE has set last, those whose pause has raised the flow event, and the cycle of the last LATE event. -/
structure SubPort where
  cur    : Option (Frame × Nat)
  paused : List Nat
  byPause : List Nat
  noted  : List Nat
  lateAt : Option Nat
  deriving DecidableEq, Repr

/-- A sub-port at reset. -/
def SubPort.init : SubPort := ⟨none, [], [], [], none⟩

/-- A Delay_Req that the device has sent (R330): its transport (0 L2, 1 UDP over IPv4, 2 UDP over IPv6), sub-port, domain, SEQ and egress
time t3. -/
structure DelayReq where
  via    : Nat
  sub    : Nat
  domain : Nat
  seq    : Nat
  t3     : Nat
  deriving DecidableEq, Repr

/-- Hidden state of the PTP clock and servo (R330, R331): the clock identity of the selected best master, SEQ of the last two-step Sync
with its arrival time and correction, the last pair (t1, t2) and the Delay_Req that waits for its answer, the last offset (R322), the next
SEQ, offsets in a row within and above LOCK_NS. -/
structure Ptp where
  master : Option Nat
  sync  : Option (Nat × Nat × Int)
  pair  : Option (Int × Int)
  dreq  : Option DelayReq
  offset : Int
  seq   : Nat
  good  : Nat
  bad   : Nat
  deriving DecidableEq, Repr

/-- The PTP clock at reset. -/
def Ptp.init : Ptp := ⟨none, none, none, none, 0, 0, 0, 0⟩

/-! ### Memory, history and replay (R346 to R370) -/

/-- An item that waits for the history writer (R354): KIND, group, LOAD, TIME, LINE, the attributes of a row (VALID, EXPECT, EPOCH,
CSEQ, FLAGS, plane mask, width), the image not yet recorded, its segment number and count, COUNT, whether rows are coded, a number that names the item, and the coded
form of its current segment once Stipple has returned it (`some none` for NO_GAIN). -/
structure HstItem where
  kind   : Nat
  group  : Nat
  load   : Nat
  time   : Nat
  line   : Nat
  valid  : Nat
  expect : Nat
  epoch  : Nat
  cseq   : Nat
  flags  : Nat
  planes : Nat
  width  : Nat
  count  : Nat
  seg    : Nat
  nseg   : Nat
  data   : List Byte
  code   : Bool
  id     : Nat
  block  : Option (Option (List Byte))
  deriving DecidableEq, Repr

/-- A record of the ring that is still intact (R357): position, WTIME, TIME, SKIP and LENGTH. -/
structure HstRec where
  pos   : Nat
  wtime : Nat
  time  : Nat
  skip  : Nat
  len   : Nat
  pad   : Bool
  deriving DecidableEq, Repr

/-- A rewind mark (R362 to R365): STATE 1 PENDING, 2 SET, 3 LOST, its time when SET_TIME is pending (`none` for SET_NOW), its record,
PIN, and the end of the pinned span once known. -/
structure Mark where
  state : Nat
  want  : Option Nat
  pos   : Nat
  time  : Nat
  wtime : Nat
  skip  : Nat
  pin   : Nat
  stop  : Option Nat
  deriving DecidableEq, Repr

/-- A free mark slot. -/
def Mark.free : Mark := ⟨0, none, 0, 0, 0, 0, 0, none⟩

/-- RECORDING settings of a group (R287, R354). -/
structure RecCfg where
  rows   : Bool
  objs   : Bool
  tiles  : Bool
  code   : Bool
  decim  : Nat
  planes : Nat
  deriving DecidableEq, Repr

/-- A group without a RECORDING section records nothing. -/
def RecCfg.none : RecCfg := ⟨false, false, false, false, 1, 0⟩

/-- Hidden state of the history writer: position of the head, next RSEQ, index entries written, LAG and TICK in force, the tick of
the last index entry, intact records with those of pinned spans, items on their way from the taps, items in staging, open object batches by group, the GAP bits set
(group and kind), the CLK_CORE cycle of the last history event, whether the writer is taped off, recording settings by group, the
mark slots, the slot shown, and the number of the next item. -/
structure Hst where
  head   : Nat
  rseq   : Nat
  nidx   : Nat
  lag    : Nat
  tick   : Nat
  last   : Option Nat
  recs   : List HstRec
  taps   : List HstItem
  items  : List HstItem
  batch  : Tab (List (List Byte))
  gaps   : List (Nat × Nat)
  noted  : Option Nat
  taped  : Bool
  cfg    : Tab RecCfg
  marks  : Tab Mark
  select : Nat
  nextId : Nat
  deriving DecidableEq, Repr

/-- The history writer at reset. -/
def Hst.init : Hst := ⟨0, 0, 0, 50, 10, none, [], [], [], [], [], none, false, [], [], 0, 0⟩

/-- A replay request (R366). -/
structure RpReq where
  mode   : Nat
  mark   : Nat
  kinds  : Nat
  groups : Nat
  id     : Nat
  start  : Nat
  stop   : Nat
  len    : Nat
  toMem  : Bool
  dest   : Nat
  dlen   : Nat
  deriving DecidableEq, Repr

/-- A replay in progress (R367, R368): the request with START and END in force, next position, whether records may have been lost, whether
anything was selected, whether the record at the position is sent without the filters, stream bytes waiting for frames, next
PART, bytes delivered so far, and the final STATUS once the walk has ended. -/
structure RpRun where
  req     : RpReq
  pos     : Nat
  trimmed : Bool
  sent    : Bool
  force   : Bool
  out     : List Byte
  part    : Nat
  bytes   : Nat
  status  : Option Nat
  deriving DecidableEq, Repr

/-- Hidden state of the replay engine: the request being walked, those queued behind it, requests that have ended and whose last
frames still wait for their class, and whether it is taped off. -/
structure Replay where
  run     : Option RpRun
  queue   : List RpReq
  closing : List RpRun
  taped   : Bool
  deriving DecidableEq, Repr

/-- The replay engine at reset. -/
def Replay.init : Replay := ⟨none, [], [], false⟩

/-! ### Attached memory (R346 to R351) -/

/-- Hidden state of the memory: channels in service at the end of Undercoat, MEM_GIB of the image that gives the address map (R348),
whether a MEMORY section is in force (R360), the channels in service when it was applied (R361), 64-byte lines that read as uncorrectable,
and by channel the value of MEM_CH_CE at the start of the one-second window (R350). -/
structure Dram where
  chans  : List Nat
  gib    : Nat
  present : Bool
  served : Nat
  bad    : List Nat
  ceBase : Tab Nat
  deriving DecidableEq, Repr

/-- The memory at reset. -/
def Dram.init : Dram := ⟨[], 0, false, 0, [], []⟩

/-! ### Stipple engine (R400 to R408) -/

/-- A job (R400, R412 to R414). -/
structure StpJob where
  op     : Nat
  note   : Bool
  prio   : Nat
  hq     : Nat
  tag    : Nat
  s8     : Bool
  npl    : Nat
  w      : Nat
  src    : Nat
  dst    : Nat
  inLen  : Nat
  dstLen : Nat
  deriving DecidableEq, Repr

/-- Hidden state of a job port: its queue, whether the first job runs, and for a chain the bytes consumed and produced. -/
structure StpPort where
  queue : List StpJob
  run   : Bool
  used  : Nat
  made  : Nat
  deriving DecidableEq, Repr

/-- A job port at reset. -/
def StpPort.init : StpPort := ⟨[], false, 0, 0⟩

/-- A block of the pipeline requester (R406, R407): the history item or the tile (group and object ID) that it belongs to, its
geometry and original bytes. -/
structure PipeBlk where
  hist : Bool
  key  : Nat
  w    : Nat
  npl  : Nat
  data : List Byte
  deriving DecidableEq, Repr

/-- A tile being coded (R249): the time at which Stencil emitted it (R325), the blocks still to come, those returned, and whether all have
gained so far. -/
structure TileCode where
  key   : Nat
  ref   : Nat
  left  : Nat
  done  : List (List Byte)
  gain  : Bool
  deriving DecidableEq, Repr

/-! ### DMA (R416 to R424) -/

/-- A descriptor in progress (R417, R421): fields, bytes moved so far, the address written last, whether blocks go in descending
order, and whether the read-back is due. -/
structure DmaDesc where
  src    : Nat
  dst    : Nat
  count  : Nat
  last   : Bool
  int    : Bool
  srcFix : Bool
  dstFix : Bool
  next   : Nat
  moved  : Nat
  wrote  : Nat
  down   : Bool
  deriving DecidableEq, Repr

/-- Hidden state of a DMA channel: the address of the next descriptor, the one in progress, whether it is taped off, the bytes already
read of a block whose next register word stalls, and whether that read still awaits its answer (R435). -/
structure DmaCh where
  next  : Nat
  desc  : Option DmaDesc
  taped : Bool
  got   : List Byte
  await : Bool
  deriving DecidableEq, Repr

/-- A DMA channel at reset. -/
def DmaCh.init : DmaCh := ⟨0, none, false, [], false⟩

/-! ### Lath loader (R292 to R295) -/

/-- Hidden state of the loader: the image bytes read, the body once decrypted, whether a full image is in force with its SEC_VERSION,
whether Undercoat started the load in progress, the SHED ORDER and DEPEND edges in force, and a power request waiting for the end
of the load. -/
structure Ldr where
  image   : List Byte
  body    : List Byte
  inForce : Bool
  version : Nat
  auto    : Bool
  shed    : List Nat
  edges   : List (Nat × Nat × Nat)
  pwrWait : Option Nat
  deriving DecidableEq, Repr

/-- The loader at reset. -/
def Ldr.init : Ldr := ⟨[], [], false, 0, false, [], [], none⟩

end Sys2Proof.Machine
end

