-- ==== Sys2Proof/Machine/TypesPipe.lean ====
section
/-! DEFINITION. Hidden state of the pixel pipeline: Render, Skim, Seam, Stencil and Plumb, and the pending parameter sets of
commits (chapters 04 to 08): what the registers do not show. -/

namespace Sys2Proof.Machine

/-! ### Commits (R218, R297) -/

/-- The stages that switch to a pending set at their own first item of a row at or after L_c (R30, R218). -/
inductive Stage where
  | port (n : Nat) | render (n : Nat) | seam | stencil | plumb (t : Nat)
  deriving DecidableEq, Repr

/-- A group's pending set (R297, R298): the trigger number of row L_c, that of the row from which the lower group's records use it,
whether it was accepted with the generator disabled, whether Stencil has completed row L_c + MD, whether its pending bit has cleared
(R299; a stage that has had no item since L_c still waits for its first), the first trigger number that the generator did not send when
it was disabled before L_c, the captured values with their `_LIVE` fields, the values that they have replaced, and the stages that have
not yet switched. -/
structure PendSet where
  row    : Nat
  rowW   : Nat
  late   : Bool
  done   : Bool
  cleared : Bool
  doom   : Option Nat
  vals   : List (Fld × Nat)
  olds   : List (Fld × Nat)
  stages : List Stage
  deriving DecidableEq, Repr

/-! ### Render (R130 to R155) -/

/-- A line after step 5 (R140): its trigger number, EXPOSURE, whether its CRC verdict was good, whether it came whole, and its samples,
band by band. -/
structure Corrected where
  n     : Nat
  expo  : Nat
  good  : Bool
  whole : Bool
  bands : List (List Nat)
  deriving DecidableEq, Repr

/-- A bank swap scheduled at line number `b` (a trigger number): the new bank, whether ACTIVE has changed (R152), and whether
Skim scheduled it. -/
structure Swap where
  b     : Nat
  bank  : Nat
  moved : Bool
  skim  : Bool
  deriving DecidableEq, Repr

/-- Hidden state of one Render engine: banks 0 and 1 and the tables of the Lath image, byte by byte, lines after step 5, one more
than the highest line number processed or expired, bands whose OB tracking runs, the scheduled swap, a DISARM written while
VALIDATING, and the boundary of a commit accepted while VALIDATING (R151). -/
structure Rnd where
  bank0  : List Host.Cell
  bank1  : List Host.Cell
  lath   : List Host.Cell
  store  : List Corrected
  passed : Nat
  obOn   : Nat
  swap   : Option Swap
  cancel : Bool
  want   : Option Nat
  deriving DecidableEq, Repr

/-- A Render engine at reset. -/
def Rnd.init : Rnd := ⟨[], [], [], [], 0, 0, none, false, none⟩

/-! ### Skim (R167 to R188) -/

/-- A held line (R174): the trigger number of its row, the slice, its samples in slice order, and the background mask of the row
once Stencil has it. -/
structure SkimHold where
  row   : Nat
  slice : Nat
  vals  : List Nat
  mask  : Option (List Bool)
  deriving DecidableEq, Repr

/-- Parameters of a slice, taken at its start (R182): K, NMIN, GUARD, CONV_TOL, REF_RATIO, the targets, and the strips. -/
structure SkimPar where
  k      : Nat
  nmin   : Nat
  guard  : Nat
  tol    : Nat
  ratio  : Nat
  target : List Nat
  strips : List (Nat × Nat)
  deriving DecidableEq, Repr

/-- Hidden state of Skim on one port: the held line, the slice in progress, S and N of its entries, its parameters, the gain
entries updated in the epoch, entries out of tolerance, whether an update was clamped, lines held and discarded for saturation,
freeze causes that occurred in the epoch, the cause taken at S(k+1), gains of the Lath image waiting for a bank, and in the scheduled
bank (R183), whether the port's checkpoint record is withheld (R186), whether the image selects the port for checkpoints, HEAD_ID at the first
entry to UP, and whether the last closed epoch was frozen. -/
structure SkimPort where
  hold      : Option SkimHold
  slice     : Nat
  sums      : Tab (Nat × Nat)
  par       : SkimPar
  updated   : List Nat
  outTol    : Nat
  clamped   : Bool
  held      : Nat
  saturated : Nat
  hostF     : Bool
  linkF     : Bool
  headF     : Bool
  cause     : Nat
  relearn   : Bool
  relearnt  : Bool
  withheld  : Bool
  ckpt      : Bool
  firstHead : Option Nat
  frozen    : Bool
  deriving DecidableEq, Repr

/-- Slice parameters at the reset values of their registers. -/
def SkimPar.init : SkimPar := ⟨12, 64, 2, 4, 0x4000, List.replicate 16 0x8000, []⟩

/-- Skim on one port at reset. -/
def SkimPort.init : SkimPort :=
  ⟨none, 0, [], SkimPar.init, [], 0, false, 0, 0, false, false, false, 0, false, false, false, false, none, false⟩

/-- Hidden state of Skim on one group: R0 while Skim is enabled (a trigger number), k, the background sums and counts of the
epoch by plane (R179), the levels in force before row `bglRow`, those of the Lath image, whether S(k+1) has come, the rows at which
an enabling and a disabling commit act (R168), and whether the first boundary since device start has passed (R185). -/
structure SkimGrp where
  r0      : Option Nat
  k       : Nat
  bg      : Tab (Nat × Nat)
  bglRow  : Nat
  bglOld  : List Nat
  bglLath : List Nat
  due     : Bool
  startAt : Option Nat
  stopAt  : Option Nat
  started : Bool
  deriving DecidableEq, Repr

/-- Skim on one group at reset. -/
def SkimGrp.init : SkimGrp := ⟨none, 0, [], 0, [], [], false, none, none, false⟩

/-! ### Seam (R202 to R219) -/

/-- An output line of Render as Seam receives it (R146): EPOCH, EXPOSURE, validity, and per pixel its output planes. -/
structure LineOut where
  epoch : Nat
  expo  : Nat
  valid : Bool
  px    : List (List Nat)
  deriving DecidableEq, Repr

/-- One member of an open row: `none` while unsettled, else the cause of R211 (0 for settled valid), and its contribution. -/
structure SeamMember where
  cause : Option Nat
  line  : Option LineOut
  deriving DecidableEq, Repr

/-- An open row (R205 to R212): trigger number, LINE, T(L), DL(L), its epoch once known, whether Skim gave it, its members,
whether it is ready (and if so whether by its deadline) and since when, and the FIRST flag. -/
structure SeamRow where
  n        : Nat
  line     : Nat
  time     : Nat
  deadline : Nat
  epoch    : Option Nat
  members  : List SeamMember
  ready    : Option Bool
  readyAt  : Option Nat
  first    : Bool
  deriving DecidableEq, Repr

/-- An emitted row with its attributes (R217), the time at which it became ready, and the column-valid bits (R216). -/
structure RowData where
  n        : Nat
  line     : Nat
  time     : Nat
  deadline : Nat
  readyAt  : Nat
  valid    : Nat
  expect   : Nat
  epoch    : Nat
  cseq     : Nat
  flags    : Nat
  width    : Nat
  nplanes  : Nat
  load     : Nat
  cols     : List (List Nat)
  colValid : List Bool
  deriving DecidableEq, Repr

/-- Hidden state of one Seam group: open rows in trigger order, what is known of members of rows not yet opened (row, member, a
valid contribution or a cause), the epoch of the last emitted row since the group was loaded, whether the next row opened carries FIRST, whether the group is taped
off, the trigger number after the last emitted row, CSEQ of the rows now composed, and rows that wait for Stencil. -/
structure Seam where
  rows      : List SeamRow
  ahead     : List (Nat × Nat × SeamMember)
  lastEpoch : Nat
  first     : Bool
  taped     : Bool
  emitted   : Nat
  cseq      : Nat
  out       : List RowData
  deriving DecidableEq, Repr

/-- A Seam group at reset. -/
def Seam.init : Seam := ⟨[], [], 0, true, false, 0, 0, []⟩

end Sys2Proof.Machine
end

