-- ==== Sys2Proof/Machine/TypesObj.lean ====
section
/-! DEFINITION. Hidden state of Stencil and Plumb (chapter 07): rows in morphology, open objects, tiles, and the stores of the
trackers. -/

namespace Sys2Proof.Machine

/-! ### Stencil (R229 to R250) -/

/-- A row with its raw foreground bits (R230). -/
structure RawRow where
  d   : RowData
  raw : List Bool
  deriving DecidableEq, Repr

/-- Settings that an object latches at its first row (R236). -/
structure ObjCfg where
  minArea : Nat
  maxH    : Nat
  nfp     : Nat
  fps     : List Nat
  hplane  : Nat
  hshift  : Nat
  hlo     : Nat
  tileEn  : Bool
  coded   : Bool
  margin  : Nat
  tileMin : Nat
  deriving DecidableEq, Repr

/-- Accumulators of an object (R242): first and last row (trigger number, LINE, T), EPOCH of the last, column range, AREA, PERIM,
Σx, Σ of trigger numbers, sums by feature plane, histogram, and record flags. -/
structure Acc8 where
  first  : Nat
  last   : Nat
  line1  : Nat
  line2  : Nat
  time1  : Nat
  time2  : Nat
  epoch  : Nat
  xMin   : Nat
  xMax   : Nat
  area   : Nat
  perim  : Nat
  sx     : Nat
  sn     : Nat
  sums   : List (Nat × Nat)
  hist   : List Nat
  flags  : Nat
  deriving DecidableEq, Repr

/-- An open object: label, latched settings, accumulators of the rows before and of the row in progress, ID of the previous part,
first column of its capture window, tile rows captured, and whether its tile has been dropped (R247). -/
structure Obj where
  label   : Nat
  cfg     : ObjCfg
  acc     : Option Acc8
  cur     : Option Acc8
  prevId  : Nat
  capCol  : Nat
  capRows : Nat
  dropped : Bool
  deriving DecidableEq, Repr

/-- A tile waiting for its last row (R246, R247): its object's record fields, whether the object is a split part, whether the row
stream ended, and rows in the pool. -/
structure TileJob where
  id      : Nat
  cfg     : ObjCfg
  first   : Nat
  last    : Nat
  xMin    : Nat
  xMax    : Nat
  capCol  : Nat
  capRows : Nat
  split   : Bool
  cut     : Bool
  deriving DecidableEq, Repr

/-- A finished tile (R248): header fields and raw data; `coded` asks for Stipple coding (R249). -/
structure Tile where
  group  : Nat
  flags  : Nat
  planes : Nat
  id     : Nat
  row0   : Nat
  col0   : Nat
  w      : Nat
  h      : Nat
  time   : Nat
  data   : List Byte
  coded  : Bool
  deriving DecidableEq, Repr

/-- Hidden state of one Stencil engine: rows in morphology and how many of the first have their final mask, the last two rows with
final masks, the labelled runs of the last one, open objects, rows kept for tiles, tiles in capture, finished tiles, SEQ of the
next record, and whether the engine is taped off. -/
structure Stn where
  win   : List RawRow
  done  : Nat
  prev  : Option (RowData × List Bool)
  prev2 : Option (RowData × List Bool)
  runs  : List (Nat × Nat × Nat)
  objs  : List Obj
  rows  : List RowData
  jobs  : List TileJob
  tiles : List Tile
  seq   : Nat
  taped : Bool
  deriving DecidableEq, Repr

/-- A Stencil engine at reset. -/
def Stn.init : Stn := ⟨[], 0, none, none, [], [], [], [], [], 1, false⟩

/-! ### Plumb (R252 to R261) -/

/-- A record on its way through Plumb: its group, its 256 bytes, the trigger numbers of its ROW_LAST and of its closing mask row, and
its start time (R34, R240). -/
structure ObjRec where
  group : Nat
  last  : Nat
  close : Nat
  start : Nat
  data  : List Byte
  deriving DecidableEq, Repr

/-- An entry of an association store (R255): ID, tc, x in units of 2^-30 column, AREA, SUM_0, and Δt_nom (2^-32 ns) and TOL_T of
its parameter set. -/
structure Assoc where
  id   : Nat
  tc   : Nat
  x    : Int
  area : Nat
  sum0 : Nat
  nom  : Nat
  tol  : Nat
  deriving DecidableEq, Repr

/-- An entry of a link store (R260). -/
structure Link where
  id  : Nat
  tc  : Nat
  x   : Int
  deriving DecidableEq, Repr

/-- Hidden state of one tracker: records waiting, the association store, its link stores (upper and lower side of this tracker's
view), the fall parameters that records of W before row `wRow` still use (R298), and whether it is taped off. -/
structure Plb where
  queue : List ObjRec
  store : List Assoc
  linkU : List Link
  linkL : List Link
  prev  : List (Fld × Nat)
  wRow  : Nat
  taped : Bool
  deriving DecidableEq, Repr

/-- A tracker at reset. -/
def Plb.init : Plb := ⟨[], [], [], [], [], 0, false⟩

end Sys2Proof.Machine
end

