-- ==== Sys2Proof/Machine/TypesSys.lean ====
section
/-! DEFINITION. Hidden state of the pins, thermal shedding, power states, security, firmware, test lanes and access paths
(chapters 13 and 15 to 18): what the registers do not show. -/

namespace Sys2Proof.Machine

/-- Output pins that the always-on island holds, and what drives them (R468, R471, R576): the level of ALIVE, whether its toggling
runs, whether the heartbeat is missing, RAIL_EN, THERMTRIP_N asserted, whether POR_N is held low, and whether REFCLK_VSL is missing
(R579). -/
structure Pins where
  alive   : Bool
  runs    : Bool
  hbLost  : Bool
  railEn  : Bool
  tripped : Bool
  porLow  : Bool
  vslLost : Bool
  deriving DecidableEq, Repr

/-- The pins at reset. -/
def Pins.init : Pins := ⟨false, false, false, true, false, false, false⟩

/-- Thermal shedding (R469, R470): the hottest temperature in 1/16 °C (`none` without a valid sensor), the ports shed in the
order of shedding, and whether a port is shed at every STEP, or returns at every STEP. -/
structure Thermal where
  hot       : Option Int
  shed      : List Nat
  active    : Bool
  returning : Bool
  deriving DecidableEq, Repr

/-- Shedding at reset. -/
def Thermal.init : Thermal := ⟨some 0, [], false, false⟩

/-- Power states (R514, R515): the generators recorded at entry to P1, whether a WAKE_N edge is held, whether the core rails of a wake
from P2 are awaited, and whether the device is in P3 Off. -/
structure Power where
  gens  : List Nat
  held  : Bool
  rails : Bool
  off   : Bool
  deriving DecidableEq, Repr

/-- Power states at reset. -/
def Power.init : Power := ⟨[], false, false, false⟩

/-- The fuses and the MRAM key area (R497 to R504, R522): DEVSAMPLE, lifecycle state, anti-rollback counter, ECDSA keys, ML-DSA keys and
AES keys by slot, revoked slots, SEC_POLICY, and whether an erasure for RMA has begun (R499). They survive every reset. -/
structure Fuses where
  dev      : Bool
  lc       : Nat
  rollback : Nat
  ec       : Tab (List Byte)
  pq       : Tab (List Byte)
  aes      : Tab (List Byte)
  revoked  : Nat
  policy   : Nat
  erasing  : Bool
  deriving DecidableEq, Repr

/-- Fuses of a CRV4192-FB1 as shipped (R2, R522): BLANK, no owner key, SEC_POLICY 0x2800_0000. -/
def Fuses.blank : Fuses := ⟨false, 0, 0, [], [], [], 0, 0x28000000, false⟩

/-- Fuses of a development sample CRV4192-FB1D as shipped (R2, R4): PROVISIONED, slot 1 with Ndearn's development keys. -/
def Fuses.sample : Fuses := ⟨true, 1, 0, [(1, Config.devKey.1)], [(1, Config.devKey.2)], [], 0, 0x28000000, false⟩

/-- A debug session (R507 to R511): its path, level, session key under CERT, the count of accesses, and MAX_TIME in seconds, 0 for none. -/
structure Session where
  path  : Path
  level : Nat
  key   : Option (List Byte)
  ctr   : Nat
  limit : Nat
  deriving DecidableEq, Repr

/-- Security state that a reset loses: slots that failed their integrity check in this start, the nonce, the session, a certificate
being checked (path, level and the certificate's bytes), the lifecycle transition, key operation (op, slot, key bytes) and
anti-rollback burn in progress. -/
structure Sec where
  bad     : Nat
  nonce   : List Byte
  session : Option Session
  verify  : Option (Path × Nat × List Byte)
  burning : Option Nat
  keyOp   : Option (Nat × Nat × List Byte)
  rbBurn  : Option Nat
  deriving DecidableEq, Repr

/-- Security state at reset. -/
def Sec.init : Sec := ⟨0, zeros 32, none, none, none, none, none⟩

/-- The firmware that runs (R486, R565): BUILD of the control firmware, and SEC_VERSION of control and lane firmware. -/
structure Firmware where
  build   : Nat
  ctlVer  : Nat
  laneVer : Nat
  deriving DecidableEq, Repr

/-- A test lane (R537 to R541): the CLK_CORE cycle at which its checker locked, bits compared and counted since then, the cycle at
which its generator restarted, the bits since then that INJECT inverts, and whether an eye-scan point is in progress. -/
structure TstLane where
  lockAt   : Option Nat
  counted  : Nat
  genAt    : Nat
  flips    : List Nat
  eye      : Bool
  deriving DecidableEq, Repr

/-- A test lane at reset. -/
def TstLane.init : TstLane := ⟨none, 0, 0, [], false⟩

/-- The debug port (R545, R547): the instruction in force, and STATUS, ADDR, DATA and TAG of the last access. -/
structure DebugPort where
  ir     : Nat
  status : Nat
  addr   : Nat
  data   : Nat
  tag    : List Byte
  deriving DecidableEq, Repr

/-- The debug port in Test-Logic-Reset: IDCODE is selected. -/
def DebugPort.init : DebugPort := ⟨0x01, 0, 0, 0, zeros 16⟩

/-- An operation of a MGMT_REQ: OP, ADDR, DATA (R321). -/
structure MgmtOp where
  op   : Nat
  addr : Nat
  data : Nat
  deriving DecidableEq, Repr

/-- A MGMT_REQ in service or waiting (R321, R563): its path, its sub-port or source MAC, the time of its arrival, SEQ, the number of its
operations, the operations left, the entries of its response so far, whether one has failed, and whether the first of the operations left
awaits the answer to a read that stalls. -/
structure MgmtReq where
  path   : Path
  x      : Nat
  mac    : List Byte
  time   : Nat
  seq    : List Byte
  nops   : Nat
  left   : List MgmtOp
  done   : List Byte
  failed : Bool
  waits  : Bool
  deriving DecidableEq, Repr

/-- Hidden state of the access paths (R547, R560 to R565): HI registers frozen by a LO read, by address of the HI register; the tag of
the latest MGMT_SPI read; the SMBus address pointer and whether the last SMBus transaction was NACKed; the latest MGMT_RSP of the
management Ethernet port (destination MAC and payload); the debug port; the mailbox command that runs with its arguments; the
management requests held; and the reads that owe a tag, by path, with address, session key and access count. -/
structure Ports where
  frozen  : Tab (Option Nat)
  spiTag  : List Byte
  smbPtr  : Nat
  smbNack : Bool
  mgeOut  : Option (List Byte × List Byte)
  dbg     : DebugPort
  mailbox : Option (Nat × List Nat)
  reqs    : List MgmtReq
  tags    : List (Path × Nat × Option (List Byte × Nat))
  deriving DecidableEq, Repr

/-- The access paths at reset. -/
def Ports.init : Ports := ⟨[], zeros 16, 0, false, none, DebugPort.init, none, [], []⟩

end Sys2Proof.Machine
end

