-- ==== Sys2Proof/Machine/State.lean ====
section
/-! DEFINITION. The state of the block: its registers and counters, the hidden state of every unit, its memories, its pins, and
the queue of waiting commands; the reasons a command can stop; and the state after reset. Plain data. -/

namespace Sys2Proof.Machine

/-- Reasons for a fault. No command of the block ends in one: every command of the table has an effect, or is ignored as the
spec says. -/
inductive Fault where
  /-- Never raised; safe. -/
  | none
  deriving DecidableEq, Repr

/-- Reasons for a refusal. -/
inductive Refusal where
  /-- Raised by an arm of `exec` whose command has no meaning yet; safe (the run stops). -/
  | notModelled (mnemonic : String)
  deriving DecidableEq, Repr

/-- The state of the block. -/
structure State where
  /-- Register fields, by block. -/
  regs     : Regs
  /-- Live statistics counters (R37). -/
  cnt      : Regs
  /-- Readable copies of the counters (R37). -/
  snap     : Regs
  /-- Copies of the snapshot in progress, taken at its edge E (R37, R39). -/
  snapNext : Regs
  /-- Number of free values drawn so far (the model's own field). -/
  draws    : Nat
  /-- Error lines risen in the command being executed, not yet acted on by the collector. -/
  raised   : List Nat
  /-- Tapings that units made by their own rules in the command being executed (R460): unit code and event. -/
  ruleTaped : List (Nat × Nat)
  chalk    : Chalk
  tgs      : Tab Tg
  lanes    : Tab Lane
  ports    : Tab Port
  hawk     : Tab HawkQ
  snags    : Tab Snag
  units    : Tab FUnit
  /-- Open suppression windows (R464): the unit whose reset opened the window, the unit that it suppresses, and whether the reset is
  complete. -/
  windows  : List (Nat × Nat × Bool)
  /-- Pending set of each group (R297). -/
  commits  : Tab (Option PendSet)
  seams    : Tab Seam
  rnds     : Tab Rnd
  skims    : Tab SkimPort
  skimGs   : Tab SkimGrp
  stns     : Tab Stn
  plbs     : Tab Plb
  ucls     : Tab UClass
  subs     : Tab SubPort
  ptp      : Ptp
  hst      : Hst
  replay   : Replay
  mem      : Dram
  stpPorts : Tab StpPort
  stpPipe  : List PipeBlk
  stpTiles : List (Tile × TileCode)
  stpTaped : Bool
  dmaChs   : Tab DmaCh
  ldr      : Ldr
  /-- On-die MRAM (16 MiB), attached DRAM, SRAM window SCRATCH and SRAM window HOSTLOAD, byte by byte; what is not listed
  reads 0. -/
  mram     : List Host.Cell
  dram     : List Host.Cell
  scratch  : List Host.Cell
  hostload : List Host.Cell
  boot     : Boot
  pins     : Pins
  therm    : Thermal
  power    : Power
  fuses    : Fuses
  sec      : Sec
  fw       : Firmware
  tst      : Tab TstLane
  io       : Ports
  /-- The latest answer on each access path (R559): status and data; `none` while an access of the path is stalled. -/
  answers  : Tab (Option (Nat × Nat))
  /-- Commands that wait, first in, first out. -/
  pending  : List Instr
  deriving DecidableEq, Repr

/-- The state after reset. -/
def State.reset : State where
  regs := Regs.reset
  cnt := Regs.reset
  snap := Regs.reset
  snapNext := Regs.reset
  draws := 0
  raised := []
  ruleTaped := []
  chalk := Chalk.init
  tgs := []
  lanes := []
  ports := []
  hawk := []
  snags := []
  units := []
  windows := []
  commits := []
  seams := []
  rnds := []
  skims := []
  skimGs := []
  stns := []
  plbs := []
  ucls := []
  subs := []
  ptp := Ptp.init
  hst := Hst.init
  replay := Replay.init
  mem := Dram.init
  stpPorts := []
  stpPipe := []
  stpTiles := []
  stpTaped := false
  dmaChs := []
  ldr := Ldr.init
  mram := []
  dram := []
  scratch := []
  hostload := []
  boot := Boot.init
  pins := Pins.init
  therm := Thermal.init
  power := Power.init
  fuses := Fuses.blank
  sec := Sec.init
  fw := ⟨0, 0, 0⟩
  tst := []
  io := Ports.init
  answers := []
  pending := []

end Sys2Proof.Machine
end

