-- ==== Sys2Proof/Machine/Ops.lean ====
section
/-! DEFINITION. The named operations over the state that every family uses: register fields and counters, free values, error
lines, Chalk time, and access to the hidden state of one unit. -/

namespace Sys2Proof.Machine

/-- The answer of a command that takes effect. -/
abbrev Result := Host.Outcome State Fault Refusal

/-- The value of register field `f`. -/
def State.rd (s : State) (f : Fld) : Nat := s.regs.get f

/-- Register field `f` read as a flag. -/
def State.flag (s : State) (f : Fld) : Bool := s.regs.get f != 0

/-- Register field `f` set to the low bits of `v`. -/
def State.wr (s : State) (f : Fld) (v : Nat) : State := { s with regs := s.regs.set f v }

/-- The live value of counter `f` (R37). -/
def State.ctr (s : State) (f : Fld) : Nat := s.cnt.get f

/-- Counter `f` increased by `k`; counters are free-running and wrap at their width (R37). -/
def State.inc (s : State) (f : Fld) (k : Nat := 1) : State := { s with cnt := s.cnt.set f (s.cnt.get f + k) }

/-- The 64-bit counter held in the halves `lo` and `hi`, increased by `k` (R37, R550). -/
def State.inc64 (s : State) (lo hi : Fld) (k : Nat) : State :=
  let v := 2 ^ 32 * s.ctr hi + s.ctr lo + k
  { s with cnt := (s.cnt.set lo v).set hi (v / 2 ^ 32) }

/-- A register field increased by one, saturating at its width. -/
def State.bumpSat (s : State) (f : Fld) : State := s.wr f (satN f.w (s.rd f + 1))

/-- A free value below `range`, and the state in which it has been drawn: nothing constrains the value. -/
def State.draw (s : State) (range : Nat) : Nat × State :=
  (Config.freeValue s.draws % range, { s with draws := s.draws + 1 })

/-- A string of `n` free bytes (the random-number generator), and the state after it. -/
def State.drawBytes (s : State) : Nat → List Byte × State
  | 0 => ([], s)
  | n + 1 =>
    let (v, s1) := s.draw 256
    let (r, s2) := s1.drawBytes n
    (byte v :: r, s2)

/-- `n` free values below `range`, and the state after them. -/
def State.drawList (s : State) (range : Nat) : Nat → List Nat × State
  | 0 => ([], s)
  | n + 1 =>
    let (v, s1) := s.draw range
    let (r, s2) := s1.drawList range n
    (v :: r, s2)

/-- A unit raises event `e` on its error line (R457); the collector acts on it at the end of the command. -/
def State.raise (s : State) (e : Nat) : State := { s with raised := s.raised ++ [e] }

/-- Raises event `e` when `c` holds. -/
def State.raiseIf (s : State) (c : Bool) (e : Nat) : State := if c then s.raise e else s

/-- Applies `f` when `c` holds. -/
def State.when (s : State) (c : Bool) (f : State → State) : State := if c then f s else s

/-- Applies `f` to the state for every number of the list, in order. -/
def State.forAll (s : State) (l : List Nat) (f : Nat → State → State) : State := l.foldl (fun t i => f i t) s

/-- Chalk time: the integer part of the counter (R93). -/
def State.now (s : State) : Nat := s.chalk.time / 2 ^ 32

/-- Microseconds of the running clocks since the core PLL locked. -/
def State.micros (s : State) : Nat := s.chalk.cycles / 1000

/-- The start-up stage (R493): 5 is Topcoat. -/
def State.stage (s : State) : Nat := s.rd R.BOT_STAT_STAGE

/-- The pipeline runs (R483). -/
def State.topcoat (s : State) : Bool := s.stage == 5

/-! ### Memories -/

/-- `n` bytes of a memory from address `a`; what is not listed reads 0. -/
def memRead (m : List Host.Cell) (a n : Nat) : List Byte := (List.range n).map (fun i => Tab.get 0 m (a + i))

/-- A memory with `bs` written from address `a`. -/
def memWrite (m : List Host.Cell) (a : Nat) : List Byte → List Host.Cell
  | [] => m
  | b :: t => memWrite (Tab.set 0 m a b) (a + 1) t

/-! ### Hidden state of one unit -/

def State.lane (s : State) (n : Nat) : Lane := s.lanes.get Lane.init n
def State.setLane (s : State) (n : Nat) (l : Lane) : State := { s with lanes := s.lanes.set Lane.init n l }
def State.port (s : State) (n : Nat) : Port := s.ports.get Port.init n
def State.setPort (s : State) (n : Nat) (p : Port) : State := { s with ports := s.ports.set Port.init n p }
def State.tg (s : State) (g : Nat) : Tg := s.tgs.get Tg.init g
def State.setTg (s : State) (g : Nat) (x : Tg) : State := { s with tgs := s.tgs.set Tg.init g x }
def State.hq (s : State) (q : Nat) : HawkQ := s.hawk.get HawkQ.init q
def State.setHq (s : State) (q : Nat) (h : HawkQ) : State := { s with hawk := s.hawk.set HawkQ.init q h }
def State.snag (s : State) (e : Nat) : Snag := s.snags.get Snag.init e
def State.setSnag (s : State) (e : Nat) (x : Snag) : State := { s with snags := s.snags.set Snag.init e x }
def State.unit (s : State) (c : Nat) : FUnit := s.units.get FUnit.init c
def State.setUnit (s : State) (c : Nat) (u : FUnit) : State := { s with units := s.units.set FUnit.init c u }

/-- The unit of code `c` (R288) is taped off: on its own, shed, skipped by start-up, or through a scope (R461, R462, R469). -/
def State.unitTaped (s : State) (c : Nat) : Bool :=
  (s.unit c).own.isSome || (s.unit c).shed || (s.unit c).permanent ||
    s.units.any (fun u => u.2.anchored.any (fun a => a.2.contains c))

/-- The registers of block `b` at byte offsets from `lo` below `hi` return to their reset values; statistics counters run on. -/
def State.resetRange (s : State) (b : Blk) (lo hi : Nat) : State :=
  { s with regs := s.regs.setTab b ((s.regs.tab b).filter (fun e => !decide (32 * lo ≤ e.1 ∧ e.1 < 32 * hi))) }

/-- The statistics counters of block `b` at byte offsets from `lo` below `hi`, and their copies, return to 0. -/
def State.resetCounters (s : State) (b : Blk) (lo hi : Nat) : State :=
  let clear (r : Regs) : Regs := r.setTab b ((r.tab b).filter (fun e => !decide (32 * lo ≤ e.1 ∧ e.1 < 32 * hi)))
  { s with cnt := clear s.cnt, snap := clear s.snap, snapNext := clear s.snapNext }

/-- The condition of level source `e` has gone (R457): LIVE returns to 0. -/
def State.fall (s : State) (e : Nat) : State := s.setSnag e { s.snag e with live := false, inWindow := false }

/-- Number of an access path in the table of answers. -/
def pathIx : Path → Nat
  | .debug => 0 | .spi => 1 | .mailbox => 2 | .mge => 3 | .fxt => 4 | .smbus => 5 | .dma => 6

/-- The access on path `p` ends with status `st` and data `d` (R559). -/
def State.answer (s : State) (p : Path) (st d : Nat) : State :=
  { s with answers := s.answers.set (some (0, 0)) (pathIx p) (some (st, d)) }

/-- The access on path `p` stalls. -/
def State.stall (s : State) (p : Path) : State := { s with answers := s.answers.set (some (0, 0)) (pathIx p) none }

/-- The latest answer on path `p`. -/
def State.answerOf (s : State) (p : Path) : Option (Nat × Nat) := s.answers.get (some (0, 0)) (pathIx p)

def State.seam (s : State) (g : Nat) : Seam := s.seams.get Seam.init g
def State.setSeam (s : State) (g : Nat) (x : Seam) : State := { s with seams := s.seams.set Seam.init g x }
def State.rnd (s : State) (e : Nat) : Rnd := s.rnds.get Rnd.init e
def State.setRnd (s : State) (e : Nat) (x : Rnd) : State := { s with rnds := s.rnds.set Rnd.init e x }
def State.skim (s : State) (e : Nat) : SkimPort := s.skims.get SkimPort.init e
def State.setSkim (s : State) (e : Nat) (x : SkimPort) : State := { s with skims := s.skims.set SkimPort.init e x }
def State.skimG (s : State) (g : Nat) : SkimGrp := s.skimGs.get SkimGrp.init g
def State.setSkimG (s : State) (g : Nat) (x : SkimGrp) : State := { s with skimGs := s.skimGs.set SkimGrp.init g x }
def State.stn (s : State) (g : Nat) : Stn := s.stns.get Stn.init g
def State.setStn (s : State) (g : Nat) (x : Stn) : State := { s with stns := s.stns.set Stn.init g x }
def State.plb (s : State) (t : Nat) : Plb := s.plbs.get Plb.init t
def State.setPlb (s : State) (t : Nat) (x : Plb) : State := { s with plbs := s.plbs.set Plb.init t x }
def State.ucl (s : State) (i : Nat) : UClass := s.ucls.get UClass.init i
def State.setUcl (s : State) (i : Nat) (x : UClass) : State := { s with ucls := s.ucls.set UClass.init i x }
def State.sub (s : State) (i : Nat) : SubPort := s.subs.get SubPort.init i
def State.setSub (s : State) (i : Nat) (x : SubPort) : State := { s with subs := s.subs.set SubPort.init i x }
def State.stpPort (s : State) (j : Nat) : StpPort := s.stpPorts.get StpPort.init j
def State.setStpPort (s : State) (j : Nat) (x : StpPort) : State := { s with stpPorts := s.stpPorts.set StpPort.init j x }
def State.dmaCh (s : State) (c : Nat) : DmaCh := s.dmaChs.get DmaCh.init c
def State.setDmaCh (s : State) (c : Nat) (x : DmaCh) : State := { s with dmaChs := s.dmaChs.set DmaCh.init c x }
def State.tstLane (s : State) (l : Nat) : TstLane := s.tst.get TstLane.init l
def State.setTst (s : State) (l : Nat) (x : TstLane) : State := { s with tst := s.tst.set TstLane.init l x }
def State.commit (s : State) (g : Nat) : Option PendSet := s.commits.get none g
def State.setCommit (s : State) (g : Nat) (x : Option PendSet) : State := { s with commits := s.commits.set none g x }

/-- The value that a list of captured values gives field `f`. -/
def valOf (vals : List (Fld × Nat)) (f : Fld) : Option Nat := (vals.find? (·.1 == f)).map (·.2)

/-- The set acts on items of row number `n`: it is that of L_c or later, and L_c has come to be triggered or still may (R298). -/
def PendSet.acts (c : PendSet) (n : Nat) : Bool := decide (c.row ≤ n) && c.doom.isNone

/-- Some set of group `g` waits: its pending bit is 1 (R299). -/
def State.waiting (s : State) (g : Nat) : Bool := (s.commit g).any (fun c => !c.cleared)

/-- The value in force of `_LIVE` field `f` of group `g` for row number `n` (R30, R218): the set's from L_c on, and before L_c the one
that it has replaced. -/
def State.liveAt (s : State) (g n : Nat) (f : Fld) : Nat :=
  match s.commit g with
  | some c => match valOf c.olds f with
    | some v => if n < c.row then v else s.rd f
    | none => if c.acts n then (valOf c.vals f).getD (s.rd f) else s.rd f
  | none => s.rd f

/-- The `_LIVE` fields of `vals` take their values, and set `c` of group `g` keeps those that they had (R218, R298). -/
def commitPut (g : Nat) (c : PendSet) (vals : List (Fld × Nat)) (s : State) : State :=
  (vals.foldl (fun t v => t.wr v.1 v.2) s).setCommit g (some { c with olds := c.olds ++ vals.map (fun v => (v.1, s.rd v.1)) })

/-- Stage `st` of group `g` takes an item of row `n`: at the first one at or after L_c its registers in force change (R218). -/
def State.switchStage (s : State) (g n : Nat) (st : Stage) (mine : Fld → Bool) : State :=
  match s.commit g with
  | some c =>
    if c.acts n ∧ c.stages.contains st then
      commitPut g { c with stages := c.stages.filter (· != st) } (c.vals.filter (fun v => mine v.1)) s
    else s
  | none => s

/-! ### Ports, gangs and groups (R6) -/

/-- Number of lanes of a gang code (R50). -/
def gangWidth (g : Nat) : Nat := if g = 1 then 2 else if g = 2 then 4 else 1

/-- The lowest port of the channel that lane `n` belongs to (R6, R68). -/
def State.base (s : State) (n : Nat) : Nat := n - s.rd (R.VSP_LANE_STAT_LANE n)

/-- The lanes of the channel that lane `n` belongs to. -/
def State.chan (s : State) (n : Nat) : List Nat :=
  (List.range (gangWidth (s.rd (R.VSP_LANE_STAT_GANG n)))).map (s.base n + ·)

/-- Lane `n` belongs to a gang. -/
def State.inGang (s : State) (n : Nat) : Bool := s.rd (R.VSP_LANE_STAT_GANG n) != 0

/-- The state of lane `n` (R75): 0 OFF, 1 LOCKING, 2 TRAINING, 3 UP, 4 ABSENT, 5 TRAIN_FAIL, 6 TAPED, 7 PARKED. -/
def State.laneState (s : State) (n : Nat) : Nat := s.rd (R.VSP_LANE_STAT_STATE n)

/-- The port or gang of lane `n` is in UP. -/
def State.portUp (s : State) (n : Nat) : Bool := s.laneState (s.base n) == 3

/-- The Seam group that port `n` feeds (R112); `none` for 0xFF. -/
def State.groupOf (s : State) (n : Nat) : Option Nat :=
  let g := s.rd (R.VSP_PORT_CFG_GROUP n)
  if g < 24 then some g else none

/-- Number of members of group `g` (R223); 0 for an unused group. -/
def State.nmemb (s : State) (g : Nat) : Nat := s.rd (R.SEM_CFG_NMEMB g)

/-- Port of member `i` of group `g`. -/
def State.membPort (s : State) (g i : Nat) : Nat := s.rd (R.SEM_MEMB_PORT_PORT g i)

/-- The index of port `n` among the members of group `g`. -/
def State.memberOf (s : State) (g n : Nat) : Option Nat :=
  (List.range (s.nmemb g)).find? (fun i => s.membPort g i == n)

/-- The device is in device fault (R466). -/
def State.devFault (s : State) : Bool := s.flag R.FLT_SUMMARY_DEVFAULT

/-- A control core is halted: the services of the firmware stall (R512). DESIGN CHOICE (log 100): all of them, whichever core it is. -/
def State.halted (s : State) : Bool := s.flag R.SEC_DBG_CORE_HALTED

end Sys2Proof.Machine
end

