-- ==== Sys2Proof/Machine/Hawk.lean ====
section
/-! DEFINITION. Hawk queues (R430 to R441): assembling, delivering and flushing items, the choice of the next move, the level interrupt,
and the internal port through which device units post whole items. The moves themselves are in `HawkMove`. -/

namespace Sys2Proof.Machine

/-- Delivery order (R431): higher priority first, then earlier completion. -/
def HawkItem.before (a b : HawkItem) : Bool := b.prio < a.prio || (a.prio == b.prio && a.id < b.id)

/-- The first item of a list in delivery order. -/
def firstItem : List HawkItem → Option HawkItem
  | [] => none
  | x :: t => match firstItem t with
    | none => some x
    | some y => if y.before x then some y else some x

/-- The last item of a list in delivery order. -/
def lastItem : List HawkItem → Option HawkItem
  | [] => none
  | x :: t => match lastItem t with
    | none => some x
    | some y => if x.before y then some y else some x

/-- Middle slots of the spill region: one per 320 bytes (R430). -/
def HawkQ.slots (h : HawkQ) : Nat := if h.sealed then 0 else h.size / 320

/-- The queue uses a middle: it has a spill region, or items are left in one (R430, R440). -/
def HawkQ.spills (h : HawkQ) : Bool := decide (320 ≤ h.size) && (!h.sealed || !h.middle.isEmpty)

/-- The item belongs to the flush set (R439). -/
def HawkQ.flushed (h : HawkQ) (i : HawkItem) : Bool := h.flushIds.contains i.id

/-- Every complete item. -/
def HawkQ.items (h : HawkQ) : List HawkItem := h.head ++ h.tail ++ h.middle.map (·.2)

/-- COUNT of R445: complete items held, excluding items of a flush set. -/
def HawkQ.count (h : HawkQ) : Nat := (h.items.filter (fun i => !h.flushed i)).length

/-- Tail entries in use: complete items and the item in assembly (R430, R439). -/
def HawkQ.tailUsed (h : HawkQ) : Nat := h.tail.length + b2n h.asm.isSome

/-- FULL: no tail entry is free (R432). -/
def HawkQ.full (h : HawkQ) : Bool := decide (16 ≤ h.tailUsed)

/-- The visible items (R431): with a middle those in the head, without one those in the head and the tail. -/
def HawkQ.visible (h : HawkQ) : List HawkItem :=
  (if h.spills then h.head else h.head ++ h.tail).filter (fun i => !h.flushed i)

/-- Capacity in items (R430, R440). -/
def HawkQ.capacity (h : HawkQ) : Nat := 32 + if h.sealed then h.middle.length else h.size / 320

/-- The queue without item `id`. -/
def HawkQ.drop (h : HawkQ) (id : Nat) : HawkQ :=
  { h with tail := h.tail.filter (·.id != id), head := h.head.filter (·.id != id),
           middle := h.middle.filter (·.2.id != id) }

/-- The lowest free slot of the middle. -/
def HawkQ.freeSlot (h : HawkQ) : Option Nat :=
  (List.range h.slots).find? (fun k => !(h.middle.any (·.1 == k)))

/-- The item is the current one. -/
def HawkQ.isCur (h : HawkQ) (i : HawkItem) : Bool := h.cur.any (·.1 == i.id)

/-- The queue with item `i` moved into the head. -/
def HawkQ.toHead (h : HawkQ) (i : HawkItem) : HawkQ := { h.drop i.id with head := h.head ++ [i] }

/-- The queue with item `i` moved into slot `k` of the middle. -/
def HawkQ.toMiddle (h : HawkQ) (k : Nat) (i : HawkItem) : HawkQ := { h.drop i.id with middle := (k, i) :: h.middle }

/-- The slot of the middle that holds item `i`. -/
def HawkQ.slotOf (h : HawkQ) (i : HawkItem) : Option Nat := (h.middle.find? (·.2.id == i.id)).map (·.1)

/-- The next move of a complete item inside the queue (R430, R431): into the head when it has a free entry, from the tail only
when the middle holds no item of its priority; else the head's last item back into the middle when an earlier one waits; else
from the tail into a free middle slot. The item, and the slot of the middle that it goes into (none: into the head). -/
def HawkQ.move (h : HawkQ) : Option (HawkItem × Option Nat) :=
  let mid := (h.middle.map (·.2)).filter (fun i => !h.flushed i)
  let tl := h.tail.filter (fun i => !h.flushed i)
  let free := tl.filter (fun i => !(mid.any (·.prio == i.prio)))
  if h.head.length < 16 then
    match firstItem (mid ++ free) with
    | some i => some (i, none)
    | none => match tl, h.freeSlot with
      | i :: _, some k => some (i, some k)
      | _, _ => none
  else
    match lastItem (h.head.filter (fun i => !h.isCur i && !h.flushed i)), firstItem (mid ++ tl), h.freeSlot with
    | some l, some w, some k =>
      if w.before l then some (l, some k) else tl.head?.map (·, some k)
    | _, _, some k => tl.head?.map (·, some k)
    | _, _, none => none

/-- The RHDR word (R446) of RSTATUS `st` and item `i`. -/
def rhdrWord (st : Nat) (i : Option HawkItem) : Nat :=
  match i with
  | none => st * 2 ^ 28
  | some i => st * 2 ^ 28 + b2n (i.poison || i.bad != 0) * 2 ^ 27 + i.prio * 2 ^ 8 + i.words.length

/-- Sets OVERRUN, counts the refusal, and raises the queue's event at the first OVERRUN since it was cleared (R432, R441). -/
def hawkOverrun (q : Nat) (s : State) : State :=
  let first := !s.flag (R.HWK_Q_STAT_OVERRUN q)
  ((s.wr (R.HWK_Q_STAT_OVERRUN q) 1).inc (R.HWK_Q_OVR q)).raiseIf first (1400 + q)

/-- The flush ends once no item of its set is in assembly: the whole set is discarded (R439). -/
def hawkFlushEnd (q : Nat) (s : State) : State :=
  let h := s.hq q
  if h.flushing && !(h.asm.any (·.flushed)) then
    let n := (h.items.filter h.flushed).length
    let keep : List HawkItem → List HawkItem := List.filter (fun i => !h.flushed i)
    (s.setHq q { h with head := keep h.head, tail := keep h.tail,
                        middle := h.middle.filter (fun m => !h.flushed m.2), flushIds := [], flushing := false }).inc
      (R.HWK_Q_FLUSHED q) n
  else s

/-- Every RHDR read that stalls is answered with `v`. -/
def hawkAnswer (q v : Nat) (s : State) : State :=
  let h := s.hq q
  h.stalled.foldl (fun t p => t.answer p.1 0 v) (s.setHq q { h with stalled := [] })

/-- The RHDR reads that stall are answered as soon as an item is visible: it becomes current for all of them (R434, R435). -/
def hawkServe (q : Nat) (s : State) : State :=
  let h := s.hq q
  match h.stalled, firstItem h.visible with
  | _ :: _, some i => hawkAnswer q (rhdrWord 0 (some i)) (s.setHq q { h with cur := some (i.id, 0) })
  | _, _ => s

/-- Path `p` waits for no RHDR read any more. -/
def hawkForsake (p : Path) (s : State) : State :=
  s.forAll (s.hawk.map (·.1)) (fun q t => t.setHq q { t.hq q with stalled := (t.hq q).stalled.filter (·.1 != p) })

/-- A complete item enters the tail: it is accepted and counted, and COUNT reaching LEVEL sets LVL (R432, R436). -/
def hawkAccept (q prio : Nat) (words : List Nat) (flushed : Bool) (s : State) : State :=
  let h := s.hq q
  let h' := { h with tail := h.tail ++ [⟨h.nextId, prio, words, false, 0⟩], nextId := h.nextId + 1,
                     flushIds := if flushed then h.nextId :: h.flushIds else h.flushIds }
  let lvl := s.rd (R.HWK_Q_CFG_LEVEL q)
  let s1 := (s.setHq q h').inc (R.HWK_Q_IN q)
  let s2 := if lvl ≠ 0 ∧ h.count + 1 = lvl ∧ h'.count = lvl then s1.wr (R.HWK_Q_STAT_LVL q) 1 else s1
  hawkServe q s2

/-- A device unit posts a whole item (R433): the flag tells whether it was taken. -/
def hawkPost (q prio : Nat) (words : List Nat) (s : State) : Bool × State :=
  let h := s.hq q
  if h.full || h.taped then (false, hawkOverrun q s) else (true, hawkAccept q prio words false s)

/-- Posts an item when `en` holds, and counts it in `lost` when it cannot be written. -/
def hawkNote (en : Bool) (q prio : Nat) (words : List Nat) (lost : Fld) (s : State) : State :=
  if en then
    match hawkPost q prio words s with
    | (true, s1) => s1
    | (false, s1) => s1.inc lost
  else s

/-- A write of WHDR: LEN in [6:0], PRIO in [10:8] (R432, R440). -/
def hawkWhdr (q v : Nat) (s : State) : State :=
  let len := bits v 6 0
  let h0 := s.hq q
  let s0 := if h0.asm.isSome then
      hawkFlushEnd q ((s.setHq q { h0 with asm := none }).wr (R.HWK_Q_STAT_ITEM_ERR q) 1) else s
  let h := s0.hq q
  if h.taped then hawkOverrun q (s0.setHq q { h with ignore := len })
  else if len = 0 ∨ 64 < len then (s0.setHq q { h with ignore := 0 }).wr (R.HWK_Q_STAT_ITEM_ERR q) 1
  else if h.full then hawkOverrun q (s0.setHq q { h with ignore := len })
  else s0.setHq q { h with asm := some ⟨bits v 10 8, len, [], false⟩, ignore := 0 }

/-- A write of WDATA (R432): the last word completes the item. -/
def hawkWdata (q v : Nat) (s : State) : State :=
  let h := s.hq q
  if h.ignore ≠ 0 then s.setHq q { h with ignore := h.ignore - 1 }
  else match h.asm with
    | none => s.wr (R.HWK_Q_STAT_ITEM_ERR q) 1
    | some a =>
      let ws := a.words ++ [v % 2 ^ 32]
      if ws.length < a.len then s.setHq q { h with asm := some { a with words := ws } }
      else hawkFlushEnd q (hawkAccept q a.prio ws a.flushed (s.setHq q { h with asm := none }))

/-- The CLK_CORE cycle at which an RHDR read of path `p` that stalls now returns EMPTY (R435). -/
def State.stallBound (s : State) (p : Path) : Nat :=
  let t := s.rd R.HWK_CFG_RD_TMO
  s.chalk.cycles + 1000 * if p = .dma then min t 90 else t

/-- A read of RHDR on path `p` (R434, R435, R440): it answers, or stalls. -/
def hawkRhdr (q : Nat) (p : Path) (s : State) : State :=
  let h := s.hq q
  if h.taped then s.answer p 0 (rhdrWord 2 none)
  else match h.cur with
    | some (id, _) => s.answer p 0 (rhdrWord 0 (h.items.find? (·.id == id)))
    | none => match firstItem h.visible with
      | some i => (s.setHq q { h with cur := some (i.id, 0) }).answer p 0 (rhdrWord 0 (some i))
      | none =>
        if s.rd R.HWK_CFG_RD_TMO = 0 then s.answer p 0 (rhdrWord 1 none)
        else (s.setHq q { h with stalled := h.stalled.filter (·.1 != p) ++ [(p, s.stallBound p)] }).stall p

/-- The RHDR read that has stalled to its bound ends with EMPTY (R435): of several, the one whose bound comes first. -/
def hawkStallEnd (q : Nat) (s : State) : State :=
  let h := s.hq q
  match minBy (·.2) h.stalled with
  | none => s
  | some (p, _) => (s.setHq q { h with stalled := h.stalled.filter (·.1 != p) }).answer p 0 (rhdrWord 1 none)

/-- The stored word `v` with the stored bits `flips` inverted since it was written, as it is delivered: data, poisoned,
corrected (R437, R438). Check bits follow the 32 data bits. -/
def protectedWord (ecc : Bool) (v : Nat) (flips : List Nat) : Nat × Bool × Bool :=
  let bad := (flips.filter (· < 32)).foldl (fun x i => x ^^^ 2 ^ i) v
  let n := (flips.filter (fun i => decide (i < if ecc then 39 else 33))).length
  if ecc then
    if n = 0 then (v, false, false) else if n = 1 then (v, false, true) else (bad, true, false)
  else (bad, n % 2 == 1, false)

/-- Word `k` of item `id` is known to be bad (R437). -/
def HawkQ.know (h : HawkQ) (id k : Nat) : HawkQ :=
  let mark : List HawkItem → List HawkItem := mapIf (·.id == id) (fun i => { i with bad := i.bad ||| 2 ^ k })
  { h with head := mark h.head, tail := mark h.tail }

/-- A read of RDATA on path `p` (R434, R437, R438): a word found bad is known to be so from then on. -/
def hawkRdata (q : Nat) (p : Path) (flips : List Nat) (s : State) : State :=
  let h := s.hq q
  match h.cur with
  | none => (s.wr (R.HWK_Q_STAT_RD_ERR q) 1).answer p 0 0
  | some (id, k) => match h.items.find? (·.id == id) with
    | none => (s.wr (R.HWK_Q_STAT_RD_ERR q) 1).answer p 0 0
    | some it =>
      let ecc := s.flag (R.HWK_Q_CFG_ECC q)
      let (w, badW, fixed) := protectedWord ecc ((it.words[k]?).getD 0) flips
      let pois := badW || it.poison || it.bad.testBit k
      let last := decide (it.words.length ≤ k + 1)
      let h' := if last then { h.drop id with cur := none } else { if badW then h.know id k else h with cur := some (id, k + 1) }
      let s1 := ((s.setHq q h').wr (R.HWK_Q_RSTAT_PWORD q) (b2n pois)).when last (·.inc (R.HWK_Q_OUT q))
      let s2 := s1.when fixed (·.inc (R.HWK_Q_CE q))
      let s3 := s2.when (ecc && pois) (·.inc (R.HWK_Q_UE q))
      ((s3.when pois (·.inc (R.HWK_Q_POISONED q))).raiseIf pois (1400 + q)).answer p 0 w

/-- DROP_CUR discards the current item and its unread words (R434). -/
def hawkDropCur (q : Nat) (s : State) : State :=
  let h := s.hq q
  match h.cur with
  | none => s
  | some (id, _) => s.setHq q { h.drop id with cur := none }

/-- A write of FLUSH forms or grows the flush set (R439). -/
def hawkFlush (q : Nat) (s : State) : State :=
  let h := s.hq q
  s.setHq q { h with flushing := true, cur := none, flushIds := h.items.map (·.id),
                     asm := h.asm.map (fun a => { a with flushed := true }) }

/-- A software item taken into the flush set is not completed within 1 ms (R439). -/
def hawkFlushTimeout (q : Nat) (s : State) : State :=
  let h := s.hq q
  match h.asm with
  | some a =>
    if a.flushed then
      (s.setHq q { h with asm := none, ignore := a.len - a.words.length }).wr (R.HWK_Q_STAT_ITEM_ERR q) 1
    else s
  | none => s

/-- A write of ECC (R438). -/
def hawkEcc (q : Nat) (ecc : Bool) (s : State) : State :=
  let h := s.hq q
  if h.items.isEmpty && h.asm.isNone && !h.flushing then s.wr (R.HWK_Q_CFG_ECC q) (b2n ecc)
  else s.wr (R.HWK_Q_STAT_CFG_ERR q) 1

/-- The queue is taped off: a current item stops being current, and stalled RHDR reads return TAPED (R440). -/
def hawkTape (q : Nat) (s : State) : State :=
  let h := s.hq q
  hawkAnswer q (rhdrWord 2 none) (s.setHq q { h with taped := true, cur := none })

/-- The queue returns to service: its items are discarded (R440, R461). -/
def hawkReturn (q : Nat) (s : State) : State :=
  let h := s.hq q
  s.setHq q { h with taped := false, tail := [], head := [], middle := [], asm := none, ignore := 0, cur := none,
                     flushing := false, flushIds := [] }

/-- A memory channel is taped off at run time (R440): the queue spills no more, and items stored on the channel are poisoned.
`onChannel` tells which device-memory lines lie on it. -/
def hawkMemLoss (q : Nat) (onChannel : Nat → Bool) (s : State) : State :=
  let h := s.hq q
  if 320 ≤ h.size then
    let hit (k : Nat) : Bool := (List.range 6).any (fun j => onChannel ((h.base + 320 * k) / 64 * 64 + 64 * j) &&
      decide ((h.base + 320 * k) / 64 * 64 + 64 * j < h.base + 320 * k + 320))
    let h' := { h with sealed := true, middle := h.middle.map (fun m => if hit m.1 then (m.1, { m.2 with poison := true }) else m) }
    ((s.setHq q h').wr (R.HWK_Q_CAP_N q) h'.capacity).wr (R.HWK_Q_STAT_NOSPILL q) 1
  else s

/-- A Lath image gives queue `q` a spill region of `size` bytes at `base`, or none (R430). -/
def hawkRegion (q base size : Nat) (s : State) : State :=
  let h := { s.hq q with base := base, size := size, sealed := false }
  ((s.setHq q h).wr (R.HWK_Q_CAP_N q) h.capacity).wr (R.HWK_Q_STAT_NOSPILL q) (b2n (decide (size < 320)))

end Sys2Proof.Machine
end

