-- ==== Sys2Proof/Machine/Time.lean ====
section
/-! DEFINITION. Chalk time cycle by cycle (R93, R94), the trigger times of a generator (R97, R98) and the Seam arrival and
deadline times computed from them (R206, R207). -/

namespace Sys2Proof.Machine

/-- Signed frequency adjustment per cycle in 2^-32 ns, clamped to ±500 ppm (R94). -/
def State.freqAdj (s : State) : Int := clampI (-2147484) 2147484 (toSigned 32 (s.rd R.CHK_ADJ_FREQ))

/-- Phase removed per cycle in 2^-32 ns: SLEW ppm of 1 ns, SLEW limited to 1 to 500 (R94, R126). -/
def State.slewStep (s : State) : Nat := 2 ^ 32 * clampN 1 500 (s.rd R.CHK_CTRL_SLEW) / 1000000

/-- One CLK_CORE cycle of Chalk time: 1 ns, plus the frequency adjustment, plus the slew (R93, R94). -/
def Chalk.tick (c : Chalk) (adj : Int) (step : Nat) : Chalk :=
  if c.run then
    let d := clampI (-(step : Int)) step c.phase
    { c with time := ofSigned 96 ((c.time : Int) + 2 ^ 32 + adj + d), phase := c.phase - d, cycles := c.cycles + 1 }
  else c

/-- `n` CLK_CORE cycles of Chalk time (R93, R94). -/
def Chalk.pass (c : Chalk) (adj : Int) (step n : Nat) : Chalk :=
  if c.run then
    let d := clampI (-(step * n : Nat)) (step * n : Nat) c.phase
    { c with time := ofSigned 96 ((c.time : Int) + (2 ^ 32 + adj) * n + d), phase := c.phase - d, cycles := c.cycles + n }
  else c

/-- Chalk time set to `t` ns: the fraction and the remaining phase are cleared (R95). -/
def Chalk.load (c : Chalk) (t : Nat) : Chalk := { c with time := 2 ^ 32 * (t % 2 ^ 64), phase := 0 }

/-- Time passes until the remaining phase is removed (R94). -/
def Chalk.slewOut (c : Chalk) (adj : Int) (step : Nat) : Chalk :=
  let n := ceilDiv c.phase.natAbs step
  { c with time := ofSigned 96 ((c.time : Int) + (2 ^ 32 + adj) * n + c.phase), phase := 0, cycles := c.cycles + n }

/-- CLK_CORE cycles until Chalk time has grown by `gap` (2^-32 ns): while phase is left each cycle also removes a step of it (R94). -/
def Chalk.cyclesTo (c : Chalk) (adj : Int) (step : Nat) (gap : Int) : Nat :=
  let up (a b : Int) : Nat := (-(floorDiv (-a) b.toNat)).toNat
  let rate := 2 ^ 32 + adj
  let k : Int := (ceilDiv c.phase.natAbs step : Nat)
  if gap ≤ rate * k + c.phase then up gap (rate + c.phase.sign * step) else up (gap - c.phase) rate

/-- Chalk time brought forward to `t` when it lies before it: the moment at which an event takes place has come. Phase is slewed and the
frequency adjusted meanwhile (R94). -/
def State.atTime (s : State) (t : Nat) : State :=
  if s.now < t ∧ s.chalk.run then
    let n := s.chalk.cyclesTo s.freqAdj s.slewStep ((2 ^ 32 * t : Nat) - s.chalk.time)
    { s with chalk := s.chalk.pass s.freqAdj s.slewStep n }
  else s

/-- Time passes until CLK_CORE cycle `c` when it lies ahead. -/
def State.atCycle (s : State) (c : Nat) : State :=
  { s with chalk := s.chalk.pass s.freqAdj s.slewStep (c - s.chalk.cycles) }

/-- P of R97: the period in 2^-16 ns; PERIOD_INT below 2,500 acts as 2,500 (R129). -/
def State.tgPeriod (s : State) (g : Nat) : Nat :=
  2 ^ 16 * max 2500 (s.rd (R.CHK_TG_PERIOD_INT_INT g)) + s.rd (R.CHK_TG_PERIOD_FRAC_FRAC g)

/-- START of generator `g` (R97). -/
def State.tgStart (s : State) (g : Nat) : Nat := 2 ^ 32 * s.rd (R.CHK_TG_START_HI g) + s.rd (R.CHK_TG_START_LO g)

/-- LEAD of generator `g`: values outside 5,000 to 1,000,000 act as the nearer limit (R98). -/
def State.tgLead (s : State) (g : Nat) : Nat := clampN 5000 1000000 (s.rd (R.CHK_TG_LEAD_LEAD g))

/-- Generator `g` is enabled. -/
def State.tgEn (s : State) (g : Nat) : Bool := s.flag (R.CHK_TG_CTRL_EN g)

/-- At least one trigger generator is enabled (R127). -/
def State.anyTg (s : State) : Bool := (List.range 24).any (fun g => s.tgEn g)

/-- T of trigger number `n` (R97), extended by the same formula to earlier numbers (R206). -/
def State.tgTime (s : State) (g : Nat) (n : Int) : Int :=
  (s.tgStart g : Int) + floorDiv ((n - (s.tg g).base) * (s.tgPeriod g : Int)) (2 ^ 16)

/-- Generator `g` triggered number `k` (R98, R206). -/
def State.triggered (s : State) (g : Nat) (k : Int) : Bool :=
  let x := s.tg g
  decide (x.first ≤ k) || x.past.any (fun r => decide (r.1 ≤ k ∧ k < r.2))

/-- Line number of trigger number `n` (R97). -/
def State.tgLine (s : State) (g : Nat) (n : Int) : Nat := ofSigned 32 ((s.rd (R.CHK_TG_L0 g) : Int) + (n - (s.tg g).base))

/-- The least trigger number n of the run with T(n) ≥ `t` (R98, R218). -/
def State.tgFirstAt (s : State) (g : Nat) (t : Int) : Nat :=
  (s.tg g).base + ceilDiv (2 ^ 16 * (t - (s.tgStart g : Int)).toNat) (s.tgPeriod g)

/-- Band-line delay d of band `b` of port `n` (R161). -/
def State.bandDelay (s : State) (n b : Nat) : Nat :=
  let j := b / 4
  match b % 4 with
  | 0 => s.rd (R.RND_ALIGN_D_D0 n j)
  | 1 => s.rd (R.RND_ALIGN_D_D1 n j)
  | 2 => s.rd (R.RND_ALIGN_D_D2 n j)
  | _ => s.rd (R.RND_ALIGN_D_D3 n j)

/-- The largest band-line delay of port `n` (R140, R207). DESIGN CHOICE (log 93): over all 16 fields of RND_ALIGN_Dj, those of bands
at or above BANDS included. -/
def State.maxDelay (s : State) (n : Nat) : Nat := ((List.range 16).map (s.bandDelay n)).foldl max 0

/-- X_m of R207: the expected arrival of member `i` of group `g` for trigger number `n`. -/
def State.arrival (s : State) (g i : Nat) (n : Int) : Int :=
  s.tgTime g (n - s.rd (R.SEM_MEMB_MAP_Y g i) + s.maxDelay (s.membPort g i)) + s.rd (R.SEM_MEMB_ARR_ARR g i)

/-- DL of R207: the deadline of the row of trigger number `n` of group `g`, over every declared member. -/
def State.rowDeadline (s : State) (g : Nat) (n : Int) : Int :=
  ((List.range (s.nmemb g)).map (fun i => s.arrival g i n)).foldl max (s.tgTime g n)
    + s.rd (R.SEM_SLACK_SLACK g)

/-- The largest y offset of group `g` (R218). -/
def State.yMax (s : State) (g : Nat) : Nat :=
  ((List.range (s.nmemb g)).map (fun i => s.rd (R.SEM_MEMB_MAP_Y g i))).foldl max 0

end Sys2Proof.Machine
end

