-- ==== Sys2Proof/Machine/Memory.lean ====
section
/-! DEFINITION. Device memory (R12, R344 to R352, R556, R557): the address map over the DRAM channels, SRAM windows, error protection,
and the memory of the units that read and write it. -/

namespace Sys2Proof.Machine

/-- K × C: the end of valid DRAM (R348). -/
def State.dramEnd (s : State) : Nat := s.mem.chans.length * (2 ^ 30 * s.mem.gib)

/-- The channel of DRAM address `a` (R348). -/
def State.dramChan (s : State) (a : Nat) : Nat := s.mem.chans.getD (a / 256 % max 1 s.mem.chans.length) 0

/-- The subchannel of DRAM address `a` (R348). -/
def State.dramSub (s : State) (a : Nat) : Nat := (a / 256 / max 1 s.mem.chans.length * 256 + a % 256) / 64 % 2

/-- Channel `m` has been taped off at run time: its granules are holes (R347). -/
def State.chanTaped (s : State) (m : Nat) : Bool := s.rd (R.MEM_CH_STAT_STATE m) == 4

/-- DRAM address `a` lies in a hole (R347). -/
def State.hole (s : State) (a : Nat) : Bool := s.chanTaped (s.dramChan a)

/-- The window SCRATCH (R556). -/
def scratchBase : Nat := 0x800000000000

/-- The window HOSTLOAD (R556). -/
def hostBase : Nat := 0x800000200000

/-- Register space (R556). -/
def regBase : Nat := 0xF00000000000

/-- Address classes of device memory (R416, R556). -/
inductive MemCls where
  | dram | scratch | hostload | register
  deriving DecidableEq, Repr

/-- The class in which the `n` bytes from `a` wholly lie; `none` when they lie in no class or in two (R416, R556). -/
def State.memCls (s : State) (a n : Nat) : Option MemCls :=
  if a + n ≤ s.dramEnd ∧ a < s.dramEnd then some .dram
  else if scratchBase ≤ a ∧ a + n ≤ scratchBase + 0x80000 then some .scratch
  else if hostBase ≤ a ∧ a + n ≤ hostBase + 0x200000 then some .hostload
  else if regBase ≤ a ∧ a + n ≤ regBase + 0x100000000 then some .register
  else none

/-- HOSTLOAD is open while no full Lath image is in force (R557). -/
def State.hostOpen (s : State) : Bool := !s.ldr.inForce

/-- The 64-byte lines that the `n` bytes from `a` touch. -/
def linesOf (a n : Nat) : List Nat := if n = 0 then [] else (List.range ((a + n - 1) / 64 - a / 64 + 1)).map (fun k => a / 64 * 64 + 64 * k)

/-- The address of an error of channel `m` is latched (R350, R376): KIND 1 CE, 2 UE, 3 scrub UE. -/
def latchErr (m a kind act : Nat) (s : State) : State :=
  ((((s.wr (R.MEM_CH_ERR_ADDR_LO m) a).wr (R.MEM_CH_ERR_ADDR_HI_ADDR m) (a / 2 ^ 32)).wr (R.MEM_CH_ERR_INFO_KIND m) kind).wr
    (R.MEM_CH_ERR_INFO_ACT m) act).wr (R.MEM_CH_ERR_INFO_SUB m) (s.dramSub a)

/-- Memory event `k` of channel `m` (R371). -/
def memEv (m k : Nat) : Nat := 1184 + 8 * m + k

/-- An uncorrectable line is read at `a` by activity `act` (R350). -/
def readUe (act a : Nat) (s : State) : State :=
  let m := s.dramChan a
  (latchErr m a 2 act (s.inc (R.MEM_CH_UE m))).raise (memEv m 2)

/-- A corrected error at `a` (R350). -/
def readCe (act a : Nat) (s : State) : State := let m := s.dramChan a; latchErr m a 1 act (s.inc (R.MEM_CH_CE m))

/-- Bursts of activity `act` on the lines `ls` (R377). -/
def countBursts (act : Nat) (ls : List Nat) (s : State) : State :=
  ls.foldl (fun t a => t.inc (R.MEM_CH_BURSTS (t.dramChan a) act)) s

/-- Activity `act` reads `n` bytes of DRAM at `a`, meeting `err`: the bytes, and whether they carry poison (R347, R350). -/
def dramRead (act a n : Nat) (err : MemErr) (s : State) : List Byte × Bool × State :=
  let ls := linesOf a n
  let s1 := countBursts act ls s
  let bad := ls.filter (fun l => s.hole l || s.mem.bad.contains l)
  let s2 := bad.foldl (fun t l => readUe act l t) s1
  let s3 := match err with
    | .none => s2
    | .corrected => readCe act a s2
    | .uncorrectable => readUe act a s2
  (memRead s.dram a n, !bad.isEmpty || err == .uncorrectable, s3)

/-- Bytes written at `a`, but for those that fall into holes (R347). -/
def dramPut (s : State) (m : List Host.Cell) (a : Nat) : List Byte → List Host.Cell
  | [] => m
  | b :: t => dramPut s (if s.hole a then m else Tab.set 0 m a b) (a + 1) t

/-- Activity `act` writes bytes to DRAM at `a`; a line written whole holds no error any more. -/
def dramWrite (act a : Nat) (bs : List Byte) (s : State) : State :=
  let ls := linesOf a bs.length
  let whole := ls.filter (fun l => decide (a ≤ l ∧ l + 64 ≤ a + bs.length))
  let s1 := countBursts act ls s
  { s1 with dram := dramPut s s1.dram a bs, mem := { s1.mem with bad := s1.mem.bad.filter (fun l => !whole.contains l) } }

/-- A read of device memory outside register space by activity `act`: bytes, and poison (R557). -/
def devRead (act a n : Nat) (err : MemErr) (s : State) : List Byte × Bool × State :=
  match s.memCls a n with
  | some .dram => dramRead act a n err s
  | some .scratch => (memRead s.scratch (a % 0x80000) n, false, s)
  | some .hostload => (memRead s.hostload (a % 0x200000) n, !s.hostOpen, s)
  | _ => (zeros n, true, s)

/-- A write of device memory outside register space by activity `act`; the flag tells that it was taken (R557). -/
def devWrite (act a : Nat) (bs : List Byte) (s : State) : Bool × State :=
  match s.memCls a bs.length with
  | some .dram => (true, dramWrite act a bs s)
  | some .scratch => (true, { s with scratch := memWrite s.scratch (a % 0x80000) bs })
  | some .hostload => if s.hostOpen then (true, { s with hostload := memWrite s.hostload (a % 0x200000) bs }) else (false, s)
  | _ => (false, s)

/-- `n` bytes from `a` hold values that the spec leaves open. -/
def devUndefined (act a n : Nat) (s : State) : State :=
  let (bs, s1) := s.drawBytes n
  (devWrite act a bs s1).2

/-! ### Channels (R346, R347, R350, R351, R371) -/

/-- Channel `m` finishes training: UP with cause 0, else FAILED, taped off by its own rule, with its training event (R346, R460). -/
def chanTrained (m cause : Nat) (s : State) : State :=
  let s1 := s.wr (R.MEM_CH_STAT_CAUSE m) cause
  if cause = 0 then
    (s1.wr (R.MEM_CH_STAT_STATE m) 2).wr R.MEM_STAT_IN_SERVICE (putBit (s1.rd R.MEM_STAT_IN_SERVICE) m true)
  else
    let s2 := (s1.wr (R.MEM_CH_STAT_STATE m) 3).raise (memEv m 0)
    { s2 with ruleTaped := s2.ruleTaped ++ [(0x6000 + m, memEv m 0)] }

/-- A one-second window ends on channel `m` (R350). -/
def ceWindow (m : Nat) (s : State) : State :=
  let n := (s.ctr (R.MEM_CH_CE m) + 2 ^ 32 - s.mem.ceBase.get 0 m) % 2 ^ 32
  let thr := s.rd R.MEM_ECC_CFG_CE_THR
  { s with mem := { s.mem with ceBase := s.mem.ceBase.set 0 m (s.ctr (R.MEM_CH_CE m)) } }.raiseIf
    (decide (thr ≠ 0 ∧ thr < n)) (memEv m 1)

/-- The patrol scrub reads the line at DRAM address `a` (R351). -/
def scrubRead (a : Nat) (err : MemErr) (s : State) : State :=
  let l := a / 64 * 64
  let m := s.dramChan l
  if !s.flag R.MEM_SCRUB_CFG_EN ∨ s.dramEnd ≤ l ∨ s.hole l then s
  else if err = .uncorrectable ∨ s.mem.bad.contains l then
    let s1 := (latchErr m l 3 0 (s.inc (R.MEM_CH_SCRUB_UE m))).raise (memEv m 3)
    { s1 with mem := { s1.mem with bad := if s1.mem.bad.contains l then s1.mem.bad else s1.mem.bad ++ [l] } }
  else if err = .corrected then (readCe 0 l s).inc (R.MEM_CH_SCRUB_CE m)
  else s

/-- A component reports an error through ALERT_N (R371). -/
def memAlert (m : Nat) (s : State) : State := (s.inc (R.MEM_CH_ALERT m)).raise (memEv m 4)

/-- A component reports the doubled refresh rate, or no longer does (R371, R375). -/
def memTemp (m : Nat) (hot : Bool) (s : State) : State :=
  (s.wr (R.MEM_CH_STAT_HOT m) (b2n hot)).raiseIf hot (memEv m 5)

end Sys2Proof.Machine
end

