-- ==== Sys2Proof/Machine/StippleCodec.lean ====
section
/-! DEFINITION. The Stipple block format (R387 to R399): prediction, contexts, Rice codes, the encoder's choices and the decoder's
checks. -/

namespace Sys2Proof.Machine

/-- A context of R393: accumulator A and count N. -/
structure SCtx where
  a : Nat
  n : Nat
  deriving DecidableEq, Repr

/-- Contexts of a block: one by plane, and the run context (R393). -/
structure SCtxs where
  planes : List SCtx
  run    : SCtx
  deriving DecidableEq, Repr

/-- Every context starts the block with A = 4 and N = 1 (R393). -/
def SCtxs.init (npl : Nat) : SCtxs := ⟨List.replicate npl ⟨4, 1⟩, ⟨4, 1⟩⟩

/-- The Rice parameter of a context, at most `kmax` (R393). -/
def SCtx.rice (c : SCtx) (kmax : Nat) : Nat := ((List.range kmax).find? (fun k => decide (c.a ≤ c.n * 2 ^ k))).getD kmax

/-- The context after value `v` (R393); A has 32 bits. -/
def SCtx.update (c : SCtx) (v : Nat) : SCtx :=
  let a := (c.a + v) % 2 ^ 32
  if c.n + 1 = 64 then ⟨a / 2, 32⟩ else ⟨a, c.n + 1⟩

def SCtxs.plane (c : SCtxs) (p : Nat) : SCtx := c.planes.getD p ⟨4, 1⟩
def SCtxs.setPlane (c : SCtxs) (p v : Nat) : SCtxs := { c with planes := c.planes.set p ((c.plane p).update v) }
def SCtxs.setRun (c : SCtxs) (v : Nat) : SCtxs := { c with run := c.run.update v }

/-- The `n` low bits of `u`, first bit first (R390). -/
def bitsMsb : Nat → Nat → List Bool
  | 0, _ => []
  | n + 1, u => u.testBit n :: bitsMsb n u

/-- The Rice code of `u` with parameter `k` and escape width `ew` (R394). -/
def riceCode (u k ew : Nat) : List Bool :=
  let q := u / 2 ^ k
  if q < 24 then List.replicate q false ++ [true] ++ bitsMsb k u
  else List.replicate 24 false ++ [true] ++ bitsMsb ew u

/-- Row modes of R395. -/
inductive SMode where
  | left | up | med | raw
  deriving DecidableEq, Repr

def SMode.code : SMode → Nat
  | .left => 0 | .up => 1 | .med => 2 | .raw => 3

def SMode.ofCode (n : Nat) : SMode := match n with
  | 0 => .left | 1 => .up | 2 => .med | _ => .raw

/-- The prediction from neighbours a, b and c (R391). -/
def SMode.pred (m : SMode) (a b c : Nat) : Nat :=
  match m with
  | .left => a
  | .up => b
  | .med => if max a b ≤ c then min a b else if c ≤ min a b then max a b else a + b - c
  | .raw => 0

/-- The folded residual of `v` against `pred` (R392). -/
def foldResidual (bw v pred : Nat) : Nat :=
  let e := (v + 2 ^ bw - pred) % 2 ^ bw
  if e < 2 ^ (bw - 1) then 2 * e else 2 * (2 ^ bw - e) - 1

/-- The value that folded residual `m` gives against `pred`, modulo 2^bw: -x is x * (2^bw - 1) there (R392). -/
def unfoldResidual (bw m pred : Nat) : Nat :=
  if m % 2 = 0 then (pred + m / 2) % 2 ^ bw else (pred + (m + 1) / 2 * (2 ^ bw - 1)) % 2 ^ bw

/-- Geometry of a block: bits by sample, pixels by row, planes. -/
structure SGeom where
  bw  : Nat
  w   : Nat
  npl : Nat
  deriving DecidableEq, Repr

/-- A sample with its neighbours a, b and c (R391). -/
abbrev SNb := Nat × Nat × Nat × Nat

/-- The samples of a row with their neighbours; `up` is the row above, absent in row 0 (R391). -/
def rowNeighbours (npl : Nat) (up : Option (List Nat)) (row : List Nat) : List SNb :=
  match up with
  | none =>
    let a := List.replicate npl 0 ++ row
    (row.zip a).map (fun x => (x.1, x.2, x.2, x.2))
  | some u =>
    let a := u.take npl ++ row
    let c := u.take npl ++ u
    ((row.zip a).zip (u.zip c)).map (fun x => (x.1.1, x.1.2, x.2.1, x.2.2))

/-- The codes of a row after its MODE (R396), in order, and the contexts after them. `first` counts samples of the block's first
pixel still to come, `skip` those of the run in progress. -/
def rowCodes (g : SGeom) (m : SMode) : List SNb → Nat → Nat → Nat → Nat → SCtxs → List (List Bool) × SCtxs
  | [], _, _, _, _, cs => ([], cs)
  | x :: t, p, first, z, skip, cs =>
    let v := x.1
    let p' := if p + 1 = g.npl then 0 else p + 1
    if 0 < skip then rowCodes g m t p' first z (skip - 1) cs
    else if 0 < first ∨ m = .raw then
      let (r, cs') := rowCodes g m t p' (first - 1) z 0 cs
      (bitsMsb g.bw v :: r, cs')
    else
      let f := foldResidual g.bw v (m.pred x.2.1 x.2.2.1 x.2.2.2)
      let code := riceCode f ((cs.plane p).rice (g.bw - 1)) g.bw
      let cs1 := cs.setPlane p f
      let z1 := if f = 0 then z + 1 else 0
      if z1 = 4 ∧ t ≠ [] then
        let n := (t.takeWhile (fun y => foldResidual g.bw y.1 (m.pred y.2.1 y.2.2.1 y.2.2.2) == 0)).length
        let rc := riceCode n (cs1.run.rice 15) 16
        let (r, cs') := rowCodes g m t p' 0 0 n (cs1.setRun n)
        (code :: rc :: r, cs')
      else
        let (r, cs') := rowCodes g m t p' 0 z1 0 cs1
        (code :: r, cs')

/-- Bits of a list of codes. -/
def codeBits (l : List (List Bool)) : Nat := (l.map List.length).sum

/-- The encoder's choice for a row (R397): its mode, codes and end contexts. -/
def chooseRow (g : SGeom) (xs : List SNb) (first : Nat) (cs : SCtxs) : SMode × List (List Bool) × SCtxs :=
  let l := rowCodes g .left xs 0 first 0 0 cs
  let u := rowCodes g .up xs 0 first 0 0 cs
  let m := rowCodes g .med xs 0 first 0 0 cs
  let (md, best) := if codeBits l.1 ≤ codeBits u.1 ∧ codeBits l.1 ≤ codeBits m.1 then (SMode.left, l)
    else if codeBits u.1 ≤ codeBits m.1 then (.up, u) else (.med, m)
  if g.bw * xs.length < codeBits best.1 then (.raw, (rowCodes g .raw xs 0 first 0 0 cs).1, cs) else (md, best)

/-- Rows of `n` samples. -/
def rowsOf (n : Nat) : Nat → List Nat → List (List Nat)
  | 0, _ => []
  | k + 1, l => if l = [] then [] else l.take n :: rowsOf n k (l.drop n)

/-- The bits of every row in order (R395, R397), and for each row coded RAW the number of bits at its end. -/
def encodeRows (g : SGeom) : List (List Nat) → Option (List Nat) → SCtxs → List Bool × List Nat
  | [], _, _ => ([], [])
  | row :: t, up, cs =>
    let (m, codes, cs') := chooseRow g (rowNeighbours g.npl up row) (if up.isNone then g.npl else 0) cs
    let (r, k) := encodeRows g t (some row) cs'
    let n := 2 + codeBits codes
    (bitsMsb 2 m.code ++ codes.flatten ++ r, (if m = .raw then [n] else []) ++ k.map (n + ·))

/-- Bits into bytes, bit 7 first; 0 bits fill the last byte (R390). -/
def packBits : List Bool → List Byte
  | a :: b :: c :: d :: e :: f :: g :: h :: t =>
    byte (128 * b2n a + 64 * b2n b + 32 * b2n c + 16 * b2n d + 8 * b2n e + 4 * b2n f + 2 * b2n g + b2n h) :: packBits t
  | [] => []
  | l => [byte ((l.zipIdx.map (fun x => b2n x.1 * 2 ^ (7 - x.2))).sum)]

/-- The bits of bytes, bit 7 first. -/
def unpackBits (bs : List Byte) : List Bool := (bs.map (fun b => bitsMsb 8 b.toNat)).flatten

/-- Byte pairs as 16-bit little-endian words; a byte left over stands alone. -/
def leHalves : List Byte → List Nat
  | a :: b :: t => (a.toNat + 256 * b.toNat) :: leHalves t
  | [a] => [a.toNat]
  | [] => []

/-- The samples of original bytes (R389). -/
def samplesOf (s8 : Bool) (bs : List Byte) : List Nat := if s8 then bs.map (·.toNat) else leHalves bs

/-- The bytes of samples (R389). -/
def bytesOf (s8 : Bool) (l : List Nat) : List Byte := (l.map (fun v => leBytes (if s8 then 1 else 2) v)).flatten

/-- A whole Stipple block (R387, R388) of the original bytes, and where its rows coded RAW end. -/
def stippleBlock (s8 : Bool) (w npl : Nat) (orig : List Byte) : List Byte × List Nat :=
  let g : SGeom := ⟨if s8 then 8 else 16, w, npl⟩
  let xs := samplesOf s8 orig
  let (bs, raw) := encodeRows g (rowsOf (w * npl) xs.length xs) none (SCtxs.init npl)
  let coded := leBytes 2 (w - 1) ++ [byte (npl - 1), 0] ++ packBits bs
  ([0x53, 0x50, 1, byte (b2n s8)] ++ leBytes 4 orig.length ++ leBytes 4 (crc32c orig) ++ leBytes 4 coded.length ++ coded, raw)

/-- The status of coding into a destination of `dst` bytes (R398): 0 OK, 1 NO_GAIN, 4 OUTPUT_FULL. -/
def encodeStatus (orig block dst : Nat) : Nat := if orig ≤ block then 1 else if dst < block then 4 else 0

/-- Rows coded RAW before coding into a destination of `dst` bytes ends (R398, R411): those that end at the bits `raws` and fit. A row that
NO_GAIN or OUTPUT_FULL cuts short is not counted (log 97). -/
def rawRows (orig dst : Nat) (raws : List Nat) : Nat := (raws.filter (fun p => encodeStatus orig (20 + ceilDiv p 8) dst == 0)).length

/-! ### Decoding (R396, R399) -/

/-- Takes `n` bits. -/
def takeBits : Nat → List Bool → Option (Nat × List Bool)
  | 0, l => some (0, l)
  | n + 1, b :: t => (takeBits n t).map (fun r => (b2n b * 2 ^ n + r.1, r.2))
  | _ + 1, [] => none

/-- Reads a Rice code (R394); `none` where the stream ends or the escape is malformed. -/
def readRice (k ew : Nat) : Nat → List Bool → Option (Nat × List Bool)
  | q, true :: t => if q = 24 then takeBits ew t else (takeBits k t).map (fun r => (q * 2 ^ k + r.1, r.2))
  | q, false :: t => if 24 ≤ q then none else readRice k ew (q + 1) t
  | _, [] => none

/-- A decoder's place in a row: samples of the row so far (the latest first), the row above (rest, and its samples already passed,
the latest first), and the contexts. -/
structure SRow where
  done : List Nat
  rest : List Nat
  passed : List Nat
  cs   : SCtxs
  deriving DecidableEq, Repr

/-- Neighbours a, b and c of the next sample (R391). -/
def SRow.nb (r : SRow) (npl : Nat) (row0 : Bool) : Nat × Nat × Nat :=
  if row0 then
    let a := r.done.getD (npl - 1) 0
    (a, a, a)
  else
    let b := r.rest.headD 0
    if r.done.length < npl then (b, b, b) else (r.done.getD (npl - 1) 0, b, r.passed.getD (npl - 1) 0)

/-- The row with `v` rebuilt. -/
def SRow.push (r : SRow) (v : Nat) : SRow :=
  { r with done := v :: r.done, rest := r.rest.drop 1, passed := r.rest.headD 0 :: r.passed }

/-- The row with `n` samples rebuilt as their predictions (R396). -/
def SRow.pushRun (npl : Nat) (row0 : Bool) (m : SMode) : Nat → SRow → SRow
  | 0, r => r
  | n + 1, r =>
    let (a, b, c) := r.nb npl row0
    SRow.pushRun npl row0 m n (r.push (m.pred a b c))

/-- Decodes `left` more samples of a row (R396). -/
def decodeRow (g : SGeom) (row0 : Bool) (m : SMode) : Nat → Nat → Nat → Nat → SRow → List Bool → Option (SRow × List Bool)
  | 0, _, _, _, r, bs => some (r, bs)
  | fuel + 1, left, p, z, r, bs =>
    if left = 0 then some (r, bs)
    else
      let p' := if p + 1 = g.npl then 0 else p + 1
      if (row0 && decide (r.done.length < g.npl)) || m == .raw then
        match takeBits g.bw bs with
        | none => none
        | some (v, t) => decodeRow g row0 m fuel (left - 1) p' z (r.push v) t
      else match readRice ((r.cs.plane p).rice (g.bw - 1)) g.bw 0 bs with
        | none => none
        | some (f, t) =>
          let (a, b, c) := r.nb g.npl row0
          let r1 := { r.push (unfoldResidual g.bw f (m.pred a b c)) with cs := r.cs.setPlane p f }
          let z1 := if f = 0 then z + 1 else 0
          if z1 = 4 ∧ 1 < left then
            match readRice (r1.cs.run.rice 15) 16 0 t with
            | none => none
            | some (n, t2) =>
              if left - 1 < n then none
              else
                let r2 := SRow.pushRun g.npl row0 m n { r1 with cs := r1.cs.setRun n }
                decodeRow g row0 m fuel (left - 1 - n) ((p' + n) % g.npl) 0 r2 t2
          else decodeRow g row0 m fuel (left - 1) p' z1 r1 t

/-- Decodes `n` samples in rows of `g.w * g.npl` (R395): the samples and the bits left. -/
def decodeRows (g : SGeom) : Nat → Nat → Option (List Nat) → SCtxs → List Bool → Option (List Nat × List Bool)
  | 0, n, _, _, bs => if n = 0 then some ([], bs) else none
  | fuel + 1, n, up, cs, bs =>
    if n = 0 then some ([], bs)
    else match takeBits 2 bs with
      | none => none
      | some (md, t) =>
        let k := min n (g.w * g.npl)
        match decodeRow g up.isNone (SMode.ofCode md) k k 0 0 ⟨[], up.getD [], [], cs⟩ t with
        | none => none
        | some (r, t2) =>
          let row := r.done.reverse
          (decodeRows g fuel (n - k) (some row) r.cs t2).map (fun x => (row ++ x.1, x.2))

/-- The checks on the header and preamble `inp` of a block (R399, checks 1 to 3), with `left` bytes of input and `room` bytes of output
space left: the status of the first that fails (8 FORMAT, 9 LIMIT). -/
def headCheck (inp : List Byte) (left room : Nat) : Option Nat :=
  let ol := leAt inp 4 4
  let cl := leAt inp 0xC 4
  if left < 20 ∨ leAt inp 0 2 ≠ 0x5053 ∨ leAt inp 2 1 ≠ 1 ∨ 1 < leAt inp 3 1 ∨ bits (leAt inp 18 1) 7 4 ≠ 0 ∨
      leAt inp 19 1 ≠ 0 ∨ ol = 0 ∨ 65536 < ol ∨ (leAt inp 3 1 = 0 ∧ ol % 2 = 1) ∨ cl < 4 then some 8
  else if left < 16 + cl then some 8
  else if room < ol then some 9
  else none

/-- Decodes the first block of `inp` with `room` bytes of output space left (R399): the original bytes and the input after the
block, or the status of the first check that fails (8 FORMAT, 9 LIMIT, 10 CORRUPT, 11 CRC). -/
def decodeBlock (inp : List Byte) (room : Nat) : Except Nat (List Byte × List Byte) :=
  let s8 := bits (leAt inp 3 1) 0 0 == 1
  let ol := leAt inp 4 4
  let cl := leAt inp 0xC 4
  match headCheck inp inp.length room with
  | some st => .error st
  | none =>
    let g : SGeom := ⟨if s8 then 8 else 16, leAt inp 16 2 + 1, bits (leAt inp 18 1) 3 0 + 1⟩
    let n := if s8 then ol else ol / 2
    match decodeRows g n n none (SCtxs.init g.npl) (unpackBits (slice inp 20 (cl - 4))) with
    | none => .error 10
    | some (xs, rest) =>
      if 8 ≤ rest.length then .error 10
      else
        let out := bytesOf s8 xs
        if crc32c out ≠ leAt inp 8 4 then .error 11 else .ok (out, inp.drop (16 + cl))

end Sys2Proof.Machine
end

