-- ==== Sys2Proof/Machine/Stipple.lean ====
section
/-! DEFINITION. The Stipple engine (R400 to R408): job ports, chains of blocks, and the pipeline requester. -/

namespace Sys2Proof.Machine

/-- P1 Idle is in force (R513). -/
def State.inP1 (s : State) : Bool := s.rd R.THM_PWR_STAT_STATE == 1

/-- The request registers of job port `j` (R412 to R414). -/
def State.stpRequest (s : State) (j : Nat) : StpJob :=
  ⟨s.rd (R.STP_JOB_CTRL_OP j), s.flag (R.STP_JOB_CTRL_NOTE_EN j), s.rd (R.STP_JOB_CTRL_PRIO j), s.rd (R.STP_JOB_CTRL_HQ j),
   s.rd (R.STP_JOB_CTRL_TAG j), s.flag (R.STP_JOB_GEOM_S8 j), s.rd (R.STP_JOB_GEOM_NPL_M1 j) + 1, s.rd (R.STP_JOB_GEOM_W_M1 j) + 1,
   2 ^ 32 * s.rd (R.STP_JOB_SRC_HI_ADDR j) + s.rd (R.STP_JOB_SRC_LO j), 2 ^ 32 * s.rd (R.STP_JOB_DST_HI_ADDR j) + s.rd (R.STP_JOB_DST_LO j),
   s.rd (R.STP_JOB_IN_LEN j), s.rd (R.STP_JOB_DST_LEN j)⟩

/-- Lanes with a block in progress (R405, R410). -/
def showLanes (s : State) : State :=
  let n := ((List.range 4).filter (fun j => (s.stpPort j).run)).length + s.stpPipe.length
  s.wr R.STP_STAT_LANES_BUSY (min 32 n)

/-- QUEUED and BUSY of job port `j` (R415). -/
def showJobs (j : Nat) (s : State) : State :=
  let p := s.stpPort j
  showLanes ((s.wr (R.STP_JOB_STAT_QUEUED j) p.queue.length).wr (R.STP_JOB_STAT_BUSY j) (b2n p.run))

/-- A write of GO: the request is queued, or refused (R400, R403). -/
def stpGo (j : Nat) (s : State) : State :=
  let p := s.stpPort j
  if 4 ≤ p.queue.length ∨ s.inP1 ∨ s.stpTaped then s.wr (R.STP_JOB_STAT_REFUSED j) 1
  else showJobs j (s.setStpPort j { p with queue := p.queue ++ [s.stpRequest j] })

/-- The first job of port `j` ends with status `st` (R402, R404, R408): after statuses 1, 4 and 8 to 13 its destination is
undefined. -/
def stpEnd (j st made : Nat) (s : State) : State :=
  let p := s.stpPort j
  match p.queue with
  | [] => s
  | q :: rest =>
    let s0 := s.setStpPort j { StpPort.init with queue := rest }
    let s1 := if st = 1 ∨ st = 4 ∨ (8 ≤ st ∧ st ≤ 13) then devUndefined 3 q.dst q.dstLen s0 else s0
    let bad := 2 ≤ st
    let s2 := ((((s1.wr (R.STP_JOB_STAT_STATUS j) st).wr (R.STP_JOB_OUT j) made).wr (R.STP_JOB_LAST_TAG_TAG j) q.tag).inc
      (R.STP_JOB_DONE j)).inc (R.STP_JOB_FAILED j) (b2n bad)
    let s3 := hawkNote q.note q.hq q.prio [0x20 * 2 ^ 24 + st * 2 ^ 16 + j * 2 ^ 8, q.tag * 2 ^ 16, made] (R.STP_JOB_NOTE_DROP j) s2
    showJobs j (s3.raiseIf bad 1464)

/-- The refusal of job `q`, in the order of R401; `none` when it may start. -/
def State.stpRefusal (s : State) (q : StpJob) : Option Nat :=
  let ok (a n : Nat) : Bool := match s.memCls a n with
    | some .register => false
    | some _ => true
    | none => false
  if 2 ≤ q.op then some 14
  else if q.inLen = 0 then some 2
  else if (q.op = 0 ∧ 65536 < q.inLen) ∨ (q.op = 1 ∧ 16777216 < q.inLen) then some 6
  else if q.op = 0 ∧ !q.s8 ∧ q.inLen % 2 = 1 then some 5
  else if !ok q.src q.inLen ∨ !ok q.dst q.dstLen then some 7
  else if 0 < q.dstLen ∧ q.src < q.dst + q.dstLen ∧ q.dst < q.src + q.inLen then some 3
  else none

/-- The first job of port `j` starts when it is of the asked kind and none runs (R401). -/
def stpStart (j : Nat) (chain : Bool) (s : State) : State :=
  let p := s.stpPort j
  match p.queue with
  | [] => s
  | q :: _ =>
    if p.run ∨ chain ≠ (q.op == 1) then s
    else match s.stpRefusal q with
      | some st => stpEnd j st 0 s
      | none => showJobs j (s.setStpPort j { p with run := true, used := 0, made := 0 })

/-- The lane of a COMPRESS job has coded its block (R398, R401). -/
def stpCompressed (j : Nat) (q : StpJob) (err : MemErr) (s : State) : State :=
  let (bs, poison, s1) := devRead 3 q.src q.inLen err s
  if poison then stpEnd j 12 0 s1
  else
    let (blk, raws) := stippleBlock q.s8 q.w q.npl bs
    let s2 := s1.inc R.STP_RAW_ROWS (rawRows q.inLen q.dstLen raws)
    match encodeStatus q.inLen blk.length q.dstLen with
    | 0 =>
      let (ok, s3) := devWrite 3 q.dst blk s2
      if ok then stpEnd j 0 blk.length (s3.inc R.STP_ENC_BLOCKS) else stpEnd j 12 0 s3
    | 1 => stpEnd j 1 0 (s2.inc R.STP_NO_GAIN)
    | st => stpEnd j st 0 s2

/-- The bytes of input that the next block of a chain is read from, `left` bytes from `a` on, into `room` bytes (R399, R405): header and
preamble alone where a check on them fails, else the block. -/
def State.chainSpan (s : State) (a left room : Nat) : Nat :=
  let h := (devRead 3 a (min left 20) .none s).1
  if (headCheck h left room).isSome then min left 20 else 16 + leAt h 0xC 4

/-- The lane of a DECOMPRESS chain has decoded its next block (R399, R401, R405). -/
def stpDecompressed (j : Nat) (q : StpJob) (err : MemErr) (s : State) : State :=
  let p := s.stpPort j
  let left := q.inLen - p.used
  let room := q.dstLen - p.made
  let n := s.chainSpan (q.src + p.used) left room
  let (bs, poison, s1) := devRead 3 (q.src + p.used) n err s
  if poison then stpEnd j 12 0 s1
  else match headCheck bs left room, decodeBlock bs room with
    | some st, _ => stpEnd j st 0 s1
    | none, .error st => stpEnd j st 0 s1
    | none, .ok (out, _) =>
      let (ok, s2) := devWrite 3 (q.dst + p.made) out s1
      if !ok then stpEnd j 12 0 s2
      else
        let s3 := s2.inc R.STP_DEC_BLOCKS
        if left ≤ n then stpEnd j 0 (p.made + out.length) s3
        else s3.setStpPort j { p with used := p.used + n, made := p.made + out.length }

/-- A lane finishes the block of job port `j` (R405). -/
def stpBlockDone (j : Nat) (err : MemErr) (s : State) : State :=
  let p := s.stpPort j
  match p.run, p.queue with
  | true, q :: _ => if q.op = 0 then stpCompressed j q err s else stpDecompressed j q err s
  | _, _ => s

/-- The running job of port `j` ends with `st`: POISON or ABORTED (R402, R403). -/
def stpStop (j st : Nat) (s : State) : State := if (s.stpPort j).run then stpEnd j st 0 s else s

/-! ### The pipeline requester (R406, R407) -/

/-- A block is submitted by the history writer or by Stencil. -/
def pipeSubmit (b : PipeBlk) (s : State) : State := showLanes { s with stpPipe := s.stpPipe ++ [b] }

/-- The first pipeline block ends: the block, its status (0, 1 NO_GAIN, or `fail`), its coded bytes, and the state in which it has
been counted. -/
def pipeDone (fail : Option Nat) (s : State) : Option (PipeBlk × Option (List Byte) × State) :=
  match s.stpPipe with
  | [] => none
  | b :: rest =>
    let s1 := showLanes { s with stpPipe := rest }
    match fail with
    | some _ => some (b, none, (s1.inc R.STP_PIPE_FAIL).raise 1465)
    | none =>
      let (blk, raws) := stippleBlock false b.w b.npl b.data
      let dst := b.data.length - 1
      let s2 := s1.inc R.STP_RAW_ROWS (rawRows b.data.length dst raws)
      if encodeStatus b.data.length blk.length dst = 0 then some (b, some blk, s2.inc R.STP_ENC_BLOCKS)
      else some (b, none, s2.inc R.STP_NO_GAIN)

/-- Blocks of 65,536 bytes, the last shorter (R249, R354). -/
def chunks : Nat → List Byte → List (List Byte)
  | 0, _ => []
  | k + 1, l => if l = [] then [] else l.take 65536 :: chunks k (l.drop 65536)

/-- The byte image of a tile (R248). -/
def Tile.image (t : Tile) (coded : Bool) (data : List Byte) : List Byte :=
  [1, byte t.group] ++ leBytes 2 (t.flags + b2n coded) ++ leBytes 2 t.planes ++ zeros 2 ++ leBytes 8 t.id ++ leBytes 4 t.row0 ++
  leBytes 2 t.col0 ++ leBytes 2 t.w ++ leBytes 2 t.h ++ zeros 2 ++ leBytes 4 data.length ++ leBytes 8 t.time ++ zeros 24 ++ data

/-- A tile is submitted block by block (R249). -/
def tileSubmit (t : Tile) (s : State) : State :=
  let bs := chunks (t.data.length / 65536 + 1) t.data
  let s1 := { s with stpTiles := s.stpTiles ++ [(t, ⟨t.id, s.now, bs.length, [], true⟩)] }
  bs.foldl (fun u b => pipeSubmit ⟨false, t.id, t.w, popcount 16 t.planes, b⟩ u) s1

/-- A block of tile `key` returns: once every block has, the tile, its image and the time of its emission (R249, R325). -/
def tileBlock (key : Nat) (r : Option (List Byte)) (s : State) : Option (Tile × List Byte × Nat) × State :=
  match s.stpTiles.find? (·.2.key == key) with
  | none => (none, s)
  | some (t, c) =>
    let c' := { c with left := c.left - 1, done := c.done ++ [r.getD []], gain := c.gain && r.isSome }
    if c'.left = 0 then
      (some (t, if c'.gain then t.image true c'.done.flatten else t.image false t.data, c.ref),
       { s with stpTiles := s.stpTiles.filter (·.2.key != key) })
    else (none, { s with stpTiles := mapIf (·.2.key == key) (fun x => (x.1, c')) s.stpTiles })

/-- Every running and queued job ends with ABORTED (R403). Pipeline blocks return to their requesters, see `pipeFinish`. -/
def stpAbortJobs (s : State) : State :=
  s.forAll (List.range 4) (fun j t => iter (stpEnd j 13 0) (t.stpPort j).queue.length t)

end Sys2Proof.Machine
end

