-- ==== Sys2Proof/Machine/History.lean ====
section
/-! DEFINITION. The history ring (R353 to R361): the writer, records and their place in the ring, the time index; and rewind marks
(R362 to R365). -/

namespace Sys2Proof.Machine

/-! ### The ring -/

/-- Ring base and size in bytes (R380). -/
def State.ringBase (s : State) : Nat := 65536 * s.rd R.HST_RING_BASE
def State.ringSize (s : State) : Nat := 65536 * s.rd R.HST_RING_SIZE

/-- Bytes of the index area (R353). -/
def State.indexSize (s : State) : Nat := 65536 * ceilDiv (ceilDiv s.ringSize 1024) 65536

/-- DS: bytes of the data area (R353). -/
def State.ringData (s : State) : Nat := s.ringSize - s.indexSize

/-- Device address of position `p` (R353). -/
def State.posAddr (s : State) (p : Nat) : Nat := s.ringBase + s.indexSize + p % max 1 s.ringData

/-- The writer records (R360). -/
def State.hstRunning (s : State) : Bool := s.rd R.HST_STAT_STATE == 2 && !s.hst.taped && !s.devFault

/-- The history event of a skip, at most once per ms (R359, R371). -/
def hstNote (s : State) : State :=
  if s.hst.noted.any (fun c => decide (s.chalk.cycles < c + 1000000)) then s
  else { s with hst := { s.hst with noted := some s.chalk.cycles } }.raise 1190

/-- An item of group `g` and kind `k`, or the rest of it, is skipped (R359). -/
def hstSkip (g k : Nat) (stale : Bool) (s : State) : State :=
  let s1 := { s with hst := { s.hst with gaps := if s.hst.gaps.contains (g, k) then s.hst.gaps else s.hst.gaps ++ [(g, k)] } }
  hstNote ((s1.inc (R.HST_G_SKIPPED g)).inc (R.HST_G_STALE g) (b2n stale))

/-! ### Pinned spans (R363) -/

/-- The hard marks that pin a span, with the span's positions; an open span ends at the head. -/
def State.spans (s : State) : List (Nat × Nat × Nat) :=
  (List.range 64).filterMap (fun i =>
    let m := s.hst.marks.get Mark.free (4096 + i)
    if m.state = 2 then some (4096 + i, m.pos, (m.stop.getD s.hst.head)) else none)

/-- Position `p` lies within a pinned span. -/
def State.pinned (s : State) (p : Nat) : Bool := s.spans.any (fun x => decide (x.2.1 ≤ p ∧ p < x.2.2))

/-- Insertion of an interval by its start. -/
def insertSpan (x : Nat × Nat) : List (Nat × Nat) → List (Nat × Nat)
  | [] => [x]
  | y :: t => if x.1 ≤ y.1 then x :: y :: t else y :: insertSpan x t

/-- Bytes of the union of intervals in rising order of their starts, beyond `from`. -/
def unionBytes : Nat → List (Nat × Nat) → Nat
  | _, [] => 0
  | p, (a, b) :: t => let a' := max a p; (b - a') + unionBytes (max p b) t

/-- The pinned total (R364). -/
def State.pinnedTotal (s : State) : Nat := unionBytes 0 ((s.spans.map (fun x => (x.2.1, x.2.2))).foldl (fun l x => insertSpan x l) [])

/-- A record at position `p` of `len` bytes is intact (R357). -/
def State.intact (s : State) (r : HstRec) : Bool := decide (s.hst.head ≤ r.pos + s.ringData) || s.pinned r.pos

/-- The intact record at position `p`. -/
def State.recAt (s : State) (p : Nat) : Option HstRec := s.hst.recs.find? (·.pos == p)

/-- The tail: the oldest intact record that is not pinned (R357). -/
def State.ringTail (s : State) : Nat := ((s.hst.recs.find? (fun r => !s.pinned r.pos)).map (·.pos)).getD s.hst.head

/-- HST_HEAD, HST_TAIL, HST_PINNED and the mark counts (R379, R380). -/
def showRing (s : State) : State :=
  let t := s.ringTail
  let cnt (lo n : Nat) := (s.hst.marks.filter (fun m => decide (lo ≤ m.1 ∧ m.1 < lo + n) && (m.2.state == 1 || m.2.state == 2))).length
  ((((((s.wr R.HST_HEAD_LO s.hst.head).wr R.HST_HEAD_HI (s.hst.head / 2 ^ 32)).wr R.HST_TAIL_LO t).wr R.HST_TAIL_HI (t / 2 ^ 32)).wr
    R.HST_PINNED (ceilDiv s.pinnedTotal 65536)).wr R.HST_STAT_HARD (cnt 4096 64)).wr R.HST_STAT_SOFT (cnt 0 4096)

/-! ### Marks (R362 to R365) -/

def State.mark (s : State) (i : Nat) : Mark := s.hst.marks.get Mark.free i
def setMark (i : Nat) (m : Mark) (s : State) : State := { s with hst := { s.hst with marks := s.hst.marks.set Mark.free i m } }

/-- The lowest FREE soft slot. -/
def State.freeSoft (s : State) : Option Nat := (List.range 4096).find? (fun i => s.mark i == Mark.free)

/-- The oldest hard mark is demoted, or lost (R364). -/
def demoteOldest (s : State) : State :=
  match minBy (fun x => x.2.1) s.spans with
  | none => s
  | some (i, _, _) =>
    let m := s.mark i
    let s1 := match s.freeSoft with
      | some j => ((setMark j { m with pin := 0, stop := none } (setMark i Mark.free s)).wr R.HST_MARK_DEMOTE_NEW j)
      | none => (setMark i { m with state := 3 } s).wr R.HST_MARK_DEMOTE_NEW 0x1FFF
    ((s1.wr R.HST_MARK_DEMOTE_OLD i).inc R.HST_DEMOTED).raise 1190

/-- Hard marks are demoted until the pinned total fits DS / 4 (R364). -/
def demoteAll : Nat → State → State
  | 0, s => s
  | k + 1, s => if s.ringData / 4 < s.pinnedTotal then demoteAll k (demoteOldest s) else s

/-- A soft mark whose record is no longer intact becomes LOST (R365). -/
def loseMarks (s : State) : State :=
  (s.hst.marks.filter (fun m => decide (m.1 < 4096) && m.2.state == 2 && (s.recAt m.2.pos).isNone)).foldl
    (fun t m => ((setMark m.1 { m.2 with state := 3 } t).inc R.HST_MARKS_LOST).raise 1190) s

/-- Records that are no longer intact are forgotten, and soft marks on them lost. -/
def dropRecords (s : State) : State :=
  loseMarks { s with hst := { s.hst with recs := s.hst.recs.filter s.intact } }

/-- A mark bound to record `r` (R362, R363): with PIN 0 the span is the record alone. -/
def Mark.bind (m : Mark) (hard : Bool) (r : HstRec) : Mark :=
  { m with state := 2, want := none, pos := r.pos, time := r.time, wtime := r.wtime, skip := r.skip,
           stop := if hard && m.pin == 0 then some (r.pos + r.skip) else none }

/-- Marks that wait for the record `r` just allocated, and open spans that it ends (R362, R363). -/
def bindMarks (r : HstRec) (s : State) : State :=
  let s1 := s.hst.marks.foldl (fun t m =>
    if m.2.state = 1 ∧ !r.pad ∧ (m.2.want.all (fun w => decide (w ≤ r.wtime))) then setMark m.1 (m.2.bind (decide (4096 ≤ m.1)) r) t
    else if 4096 ≤ m.1 ∧ m.2.state = 2 ∧ m.2.stop.isNone ∧ m.2.wtime + m.2.pin ≤ r.wtime then
      setMark m.1 { m.2 with stop := some r.pos } t
    else t) s
  demoteAll 64 s1

/-! ### Allocation (R355 to R358) -/

/-- A record of `len` bytes may be placed at `p` (R356). -/
def State.placeable (s : State) (len p : Nat) : Bool :=
  let ds := max 1 s.ringData
  decide (p % ds + len ≤ ds) && s.spans.all (fun x =>
    let ahead := p + (x.2.1 % ds + ds - p % ds) % ds
    decide (x.2.2 ≤ x.2.1 ∨ p + len + 128 ≤ ahead ∨ p < x.2.2))

/-- Position `p` does not lie on bytes of a pinned span of an earlier lap. -/
def State.clearOfSpans (s : State) (p : Nat) : Bool :=
  let ds := max 1 s.ringData
  s.spans.all (fun x => decide (p < x.2.2) || !decide ((p + ds - x.2.1 % ds) % ds < x.2.2 - x.2.1))

/-- The positions that a PAD record may reach: starts of the data area and ends of pinned spans ahead of the head (R356). -/
def State.padTargets (s : State) : List Nat :=
  let ds := max 1 s.ringData
  let h := s.hst.head
  sortNat ((h + (ds - h % ds)) :: s.spans.map (fun x => h + (x.2.2 % ds + ds - h % ds - 1) % ds + 1))

/-- Where the next record of `len` bytes goes (R356). -/
def State.placeAt (s : State) (len : Nat) : Option Nat :=
  if s.placeable len s.hst.head then some s.hst.head
  else s.padTargets.find? (fun p => s.placeable len p && s.clearOfSpans p)

/-- A record header (R355) without its HCRC. -/
def hstHeader (kind group load flags seg nseg count len plen pos rseq time wtime line orig valid expect epoch cseq rflags planes width
    pcrc skip : Nat) : List Byte :=
  leBytes 4 0x48535452 ++ [1, byte kind, byte group, byte load] ++ leBytes 2 flags ++ leBytes 2 seg ++ leBytes 2 nseg ++
  leBytes 2 count ++ leBytes 4 len ++ leBytes 4 plen ++ leBytes 8 pos ++ leBytes 8 rseq ++ leBytes 8 time ++ leBytes 8 wtime ++
  leBytes 4 line ++ leBytes 4 orig ++ leBytes 4 valid ++ leBytes 4 expect ++ leBytes 4 epoch ++ [byte cseq, byte rflags] ++
  leBytes 2 planes ++ leBytes 4 width ++ leBytes 4 pcrc ++ leBytes 8 skip ++ zeros 28

/-- A header with its HCRC. -/
def hstSeal (h : List Byte) : List Byte := h ++ leBytes 4 (crc32c h)

/-- The index entry of the first record of a TICK interval (R358). -/
def indexRecord (r : HstRec) (s : State) : State :=
  let k := r.wtime / (10000 * max 1 s.hst.tick)
  if s.hst.last = some k then s
  else
    let n := s.indexSize / 16
    let s1 := dramWrite 0 (s.ringBase + 16 * (s.hst.nidx % max 1 n)) (leBytes 8 r.wtime ++ leBytes 8 r.pos) s
    { s1 with hst := { s1.hst with nidx := s1.hst.nidx + 1, last := some k } }

/-- The bytes of a record are written, and the head advances (R356, R357). -/
def allocRecord (r : HstRec) (bs : List Byte) (s : State) : State :=
  let s1 := dramWrite 0 (s.posAddr r.pos) bs s
  let s2 := { s1 with hst := { s1.hst with head := r.pos + r.skip, rseq := s1.hst.rseq + 1, recs := s1.hst.recs ++ [r] } }
  showRing (dropRecords (bindMarks r (indexRecord r s2)))

/-- A PAD record at the head that reaches position `p` (R356). -/
def allocPad (p : Nat) (s : State) : State :=
  let h := s.hst.head
  if p = h then s
  else
    let b := hstSeal (hstHeader 0x0F 0xFF 0 0 0 0 0 128 0 h s.hst.rseq 0 s.now 0 0 0 0 0 0 0 0 0 0 (p - h))
    allocRecord ⟨h, s.now, 0, p - h, 128, true⟩ b s

/-- The record of the current segment of item `i`, stored as `pay` with FLAGS `fl`. -/
def allocItem (i : HstItem) (fl : Nat) (pay : List Byte) (s : State) : State :=
  let p := s.hst.head
  let len := 128 * ceilDiv (128 + pay.length) 128
  let row := i.kind == 1
  let gap := s.hst.gaps.contains (i.group, i.kind)
  let seg := min 65536 i.data.length
  let h := hstSeal (hstHeader i.kind i.group i.load (fl + 4 * b2n gap) i.seg i.nseg i.count len pay.length p s.hst.rseq i.time s.now
    i.line (if i.kind = 2 then pay.length else seg) i.valid i.expect i.epoch i.cseq i.flags (if row then i.planes else 0)
    (if row then i.width else 0) (crc32c pay) len)
  let s1 := { s with hst := { s.hst with gaps := s.hst.gaps.filter (· != (i.group, i.kind)) } }
  (allocRecord ⟨p, s.now, i.time, len, len, false⟩ (padTo len (h ++ pay)) s1).inc (R.HST_G_RECORDS i.group)

/-- The first item is replaced or leaves staging. -/
def setFirst (i : Option HstItem) (s : State) : State :=
  { s with hst := { s.hst with items := match i with
    | some i => i :: s.hst.items.drop 1
    | none => s.hst.items.drop 1 } }

/-- A row segment that asks for coding goes to the Stipple engine (R354, R407). -/
def segSubmit (i : HstItem) (s : State) : State :=
  if i.code then pipeSubmit ⟨true, i.id, i.width, popcount 16 i.planes, i.data.take 65536⟩ s else s

/-- The Stipple engine returns the current segment of item `key` (R354). -/
def segReturn (key : Nat) (r : Option (List Byte)) (s : State) : State :=
  { s with hst := { s.hst with items := mapIf (·.id == key) (fun i => { i with block := some r }) s.hst.items } }

/-- The rest of the first item is skipped (R359). -/
def skipFirst (i : HstItem) (stale : Bool) (s : State) : State := hstSkip i.group i.kind stale (setFirst none s)

/-- The writer allocates a record for the current segment of the oldest item, unless it must skip it or still waits for its coded
form (R354 to R359). -/
def hstAllocate (s : State) : State :=
  match s.hst.items with
  | [] => s
  | i :: _ =>
    if !s.hstRunning then skipFirst i false s
    else if 1000000 * max 1 s.hst.lag < s.now - i.time then skipFirst i true s
    else if i.code ∧ i.block.isNone then s
    else
      let raw := i.data.take 65536
      let (fl, pay) := match i.block with
        | some (some b) => (1, b)
        | some none => (2, raw)
        | none => (0, raw)
      match s.placeAt (128 * ceilDiv (128 + pay.length) 128) with
      | none => skipFirst i false s
      | some p =>
        let s1 := (allocItem i fl pay (allocPad p s)).inc R.HST_RAW_SEGS (b2n (fl == 2))
        let rest := i.data.drop 65536
        if rest = [] then setFirst none s1
        else
          let j := { i with data := rest, seg := i.seg + 1, block := none }
          segSubmit j (setFirst (some j) s1)

/-- The oldest item of group `g` has not been recorded within 400 µs of leaving Seam or Stencil (R359). -/
def hstDeadline (g : Nat) (s : State) : State :=
  match s.hst.items.find? (·.group == g), s.hst.taps.findIdx? (·.group == g) with
  | some i, _ => hstSkip g i.kind false { s with hst := { s.hst with items := s.hst.items.filter (·.id != i.id) } }
  | none, some k => hstSkip g ((s.hst.taps[k]?).map (·.kind) |>.getD 0) false { s with hst := { s.hst with taps := s.hst.taps.eraseIdx k } }
  | none, none => s

/-! ### Taps (R354) -/

/-- RECORDING settings of group `g`. -/
def State.recCfg (s : State) (g : Nat) : RecCfg := s.hst.cfg.get RecCfg.none g

/-- Segments of group `g` in its two staging buffers or waiting for one (R359). -/
def State.staged (s : State) (g : Nat) : Nat :=
  ((s.hst.items.filter (·.group == g)).map (fun i => i.nseg - i.seg)).sum

/-- An item reaches the staging of its group, or is skipped (R354, R359). -/
def hstStage (i : HstItem) (s : State) : State :=
  if !s.hstRunning ∨ 2 ≤ s.staged i.group then hstSkip i.group i.kind false s
  else
    let j := { i with id := s.hst.nextId }
    segSubmit j { s with hst := { s.hst with items := s.hst.items ++ [j], nextId := s.hst.nextId + 1 } }

/-- A row leaves Seam for the history tap (R354): the item of a row that its group records. -/
def State.rowItem (s : State) (g : Nat) (d : RowData) : Option HstItem :=
  let c := s.recCfg g
  let ps := ((List.range d.nplanes).filter (c.planes.testBit ·))
  if c.rows && d.line % max 1 c.decim == 0 then
    let img := (d.cols.map (fun col => (ps.map (fun p => leBytes 2 (col.getD p 0))).flatten)).flatten
    some ⟨1, g, d.load, d.time, d.line, d.valid, d.expect, d.epoch, d.cseq, d.flags, ps.foldl (fun a p => a + 2 ^ p) 0, d.width, 0, 0,
      max 1 (ceilDiv img.length 65536), img, c.code, 0, none⟩
  else none

/-- A tile leaves Stencil for the history tap (R354). -/
def State.tileItem (s : State) (t : Tile) (img : List Byte) : Option HstItem :=
  if (s.recCfg t.group).tiles then
    some ⟨3, t.group, t.id / 2 ^ 52 % 128, t.time, t.row0, 0, 0, 0, 0, 0, 0, 0, 0, 0,
      max 1 (ceilDiv img.length 65536), img, false, 0, none⟩
  else none

/-- The item of a batch of object records (R354, R355). -/
def batchItem (g : Nat) (rs : List (List Byte)) : HstItem :=
  let r0 := rs.headD []
  ⟨2, g, leAt r0 8 8 / 2 ^ 52 % 128, (rs.map (fun r => leAt r 32 8)).foldl min (leAt r0 32 8), leAt r0 20 4, 0, 0, 0, 0, 0, 0, 0,
    rs.length, 0, 1, rs.flatten, false, 0, none⟩

/-- The open batch of group `g` becomes one record (R354). -/
def batchClose (g : Nat) (s : State) : State :=
  match s.hst.batch.get [] g with
  | [] => s
  | rs => hstStage (batchItem g rs) { s with hst := { s.hst with batch := s.hst.batch.set [] g [] } }

/-- An item leaves Seam, Stencil or Plumb for the history writer. -/
def hstTap (i : Option HstItem) (s : State) : State :=
  match i with
  | some i => { s with hst := { s.hst with taps := s.hst.taps ++ [i] } }
  | none => s

/-- An object record leaves Plumb for the history tap (R354): its item, when the group records objects. -/
def State.objectItem (s : State) (g : Nat) (rec : List Byte) : Option HstItem :=
  if (s.recCfg g).objs then some (batchItem g [rec]) else none

/-- An object record reaches the open batch of its group (R354). -/
def hstObject (g : Nat) (rec : List Byte) (s : State) : State :=
  if !s.hstRunning then hstSkip g 2 false s
  else
    let rs := s.hst.batch.get [] g ++ [rec]
    let s1 := { s with hst := { s.hst with batch := s.hst.batch.set [] g rs } }
    if 64 ≤ rs.length then batchClose g s1 else s1

/-- The oldest item from the taps reaches staging (R354). -/
def hstArrive (s : State) : State :=
  match s.hst.taps with
  | [] => s
  | i :: t =>
    let s1 := { s with hst := { s.hst with taps := t } }
    if i.kind = 2 then hstObject i.group i.data s1 else hstStage i s1

/-! ### State of the writer and reset of the ring (R360, R361) -/

/-- HST_STAT.STATE from the memory configuration, EN and a halt in force (R360). It shows no taping of the writer (log 96). -/
def hstState (halted : Bool) (s : State) : State :=
  let st := if !s.mem.present then 0 else if s.rd R.HST_RING_SIZE = 0 then 1
    else if halted then 4 else if s.flag R.HST_CTRL_EN then 2 else 3
  s.wr R.HST_STAT_STATE st

/-- The ring is reset: head, RSEQ, index and marks; LAG and TICK act (R361). A ring reset also ends a halt (R360). -/
def ringClear (s : State) : State :=
  let h := s.hst
  let s1 := { s with hst := { h with head := 0, rseq := 0, nidx := 0, lag := s.rd R.HST_CTRL_LAG, tick := s.rd R.HST_CTRL_TICK,
                                     last := none, recs := [], marks := [] } }
  showRing (hstState false s1)

/-- A write of HST_CTRL.EN (R360, R378). -/
def hstEnable (en : Bool) (s : State) : State :=
  hstState (s.rd R.HST_STAT_STATE == 4) (s.wr R.HST_CTRL_EN (b2n en))

/-- A memory channel is taped off at run time: the writer halts (R347, R360). -/
def hstHalt (s : State) : State :=
  if s.rd R.HST_STAT_STATE = 2 ∨ s.rd R.HST_STAT_STATE = 3 then (hstState true s).raise 1190 else s

/-! ### Mark commands (R362, R381 to R383) -/

/-- RESULT and the state of slot `i` in the mark registers; positions of a mark that is set (R382, R383). -/
def markShow (i result : Nat) (s : State) : State :=
  let m := s.mark i
  let s1 := (((s.wr R.HST_MARK_STAT_RESULT result).wr R.HST_MARK_STAT_SLOT i).wr R.HST_MARK_STAT_STATE (if i < 4160 then m.state else 0))
  let s2 := { s1 with hst := { s1.hst with select := i } }
  (((s2.wr R.HST_MARK_POS_LO m.pos).wr R.HST_MARK_POS_HI (m.pos / 2 ^ 32)).wr R.HST_MARK_WTIME_LO m.wtime).wr
    R.HST_MARK_WTIME_HI (m.wtime / 2 ^ 32)

/-- The refusal that a mark command on slot `i` meets; `set` for SET_NOW and SET_TIME. -/
def State.markRefusal (s : State) (i : Nat) (set : Bool) : Option Nat :=
  if 4160 ≤ i then some 1
  else if s.rd R.HST_STAT_STATE ≤ 1 then some 4
  else if set ∧ (s.mark i).state ≠ 0 ∧ (s.mark i).state ≠ 3 then some 2
  else none

/-- PIN of a mark set on slot `i` (R363). -/
def State.markPin (s : State) (i : Nat) : Nat := if 4096 ≤ i then s.rd R.HST_MARK_PIN else 0

/-- SET_NOW (R362). -/
def markSetNow (i : Nat) (s : State) : State :=
  match s.markRefusal i true with
  | some r => markShow i r s
  | none => markShow i 0 (showRing (setMark i { Mark.free with state := 1, pin := s.markPin i } s))

/-- SET_TIME (R362, R365). -/
def markSetTime (i : Nat) (s : State) : State :=
  match s.markRefusal i true with
  | some r => markShow i r s
  | none =>
    let t := 2 ^ 32 * s.rd R.HST_MARK_TIME_HI + s.rd R.HST_MARK_TIME_LO
    let m := { Mark.free with state := 1, want := some t, pin := s.markPin i }
    let real := s.hst.recs.filter (!·.pad)
    let gone := (s.recAt s.ringTail).any (fun r => decide (t < r.wtime))
    if gone then markShow i 3 (showRing (setMark i Mark.free s))
    else match real.find? (fun r => decide (t ≤ r.wtime)) with
      | none => markShow i 0 (showRing (setMark i m s))
      | some r =>
        let hard := decide (4096 ≤ i)
        let m1 := m.bind hard r
        let stop := (s.hst.recs.find? (fun q => decide (r.wtime + m.pin ≤ q.wtime ∧ r.pos < q.pos))).map (·.pos)
        let m2 := if hard && m1.stop.isNone then { m1 with stop := stop } else m1
        markShow i 0 (showRing (dropRecords (demoteAll 64 (setMark i m2 s))))

/-- CLEAR (R362). -/
def markClear (i : Nat) (s : State) : State :=
  match s.markRefusal i false with
  | some r => markShow i r s
  | none => markShow i 0 (showRing (dropRecords (setMark i Mark.free s)))

/-- SELECT (R362). -/
def markSelect (i : Nat) (s : State) : State := markShow i (if 4160 ≤ i then 1 else 0) s

/-- A reserved OP (R362). -/
def markBadOp (i : Nat) (s : State) : State := markShow i 5 s

end Sys2Proof.Machine
end

