-- ==== Sys2Proof/Machine/Uplink.lean ====
section
/-! DEFINITION. The uplink (R307 to R331): sub-ports and fall-back, encapsulation and FXT frames, acceptance into classes, deadlines,
the scheduler, flow control, and the PTP clock with its servo. -/

namespace Sys2Proof.Machine

/-! ### Sub-ports and classes -/

/-- Lanes of a sub-port in mode `m` (R307). -/
def modeWidth (m : Nat) : Nat := 8 / 2 ^ m

/-- Sub-ports of the mode in force; none before an UPLINK section has been applied (R307). -/
def State.nsub (s : State) : Nat := if s.rd R.UPL_CFG_NCLASS = 0 then 0 else 2 ^ s.rd R.UPL_CFG_MODE

/-- The lowest lane of sub-port `x` as declared by MODE (R332). -/
def State.lowLane (s : State) (x : Nat) : Nat := x * modeWidth (s.rd R.UPL_CFG_MODE)

/-- The lanes of sub-port `x` as declared by MODE (R307). -/
def State.subLanes (s : State) (x : Nat) : List Nat := (List.range (modeWidth (s.rd R.UPL_CFG_MODE))).map (s.lowLane x + ·)

/-- The sub-port that declares lane `u`. -/
def State.subOf (s : State) (u : Nat) : Nat := u / modeWidth (s.rd R.UPL_CFG_MODE)

/-- STATE of sub-port `x` (R336): 0 DOWN, 1 TRAINING, 2 ALIGNING, 3 UP, 4 FAILED. -/
def State.subState (s : State) (x : Nat) : Nat := s.rd (R.UPL_SP_STAT_STATE x)

/-- R_s in Gb/s: the rate in force (R324, R336). -/
def State.subRate (s : State) (x : Nat) : Nat := 25 * s.rd (R.UPL_SP_STAT_RATE x)

/-- Number of class `c` of sub-port `x` in the class registers (R337). -/
def cix (x c : Nat) : Nat := 8 * x + c

/-- Lane event `k` of lane `u` (R332): 0 link, 1 FEC degrade, 2 LATE, 3 flow. -/
def upEv (u k : Nat) : Nat := 1152 + 4 * u + k

/-- SHARE_LIVE of class `i`. -/
def State.shareLive (s : State) (i : Nat) : Nat := s.rd (R.UPL_CLASS_SHARE_LIVE_SHARE_LIVE i)

/-- The declared classes of sub-port `x`. -/
def State.classes (s : State) (x : Nat) : List Nat := (List.range 8).filter (fun c => s.rd (R.UPL_CLASS_KINDS (cix x c)) != 0)

/-- The class of the list with the least (PRIO, CLASS). -/
def State.leastClass (s : State) (x : Nat) (cs : List Nat) : Option Nat :=
  minBy (fun c => s.rd (R.UPL_CLASS_PRIO (cix x c)) * 8 + c) cs

/-- The classes of sub-port `x` in ascending PRIO, then ascending CLASS (R311). -/
def State.classOrder (s : State) (x : Nat) : List Nat :=
  (sortNat ((s.classes x).map (fun c => s.rd (R.UPL_CLASS_PRIO (cix x c)) * 8 + c))).map (· % 8)

/-- KINDS bit of a frame TYPE (R286, R315). -/
def kindBit (type : Nat) : Nat :=
  match type with
  | 0x01 => 0 | 0x02 => 1 | 0x03 => 2 | 0x04 => 3 | 0x05 => 4 | 0x11 => 5 | 0x20 => 6 | _ => 7

/-- Class `c` of sub-port `x` matches frames of TYPE `type` and group `g` (R324). -/
def State.matchesClass (s : State) (x type g c : Nat) : Bool :=
  (s.rd (R.UPL_CLASS_KINDS (cix x c))).testBit (kindBit type) &&
    (decide (4 ≤ type) || (s.rd (R.UPL_CLASS_GROUPS_GROUPS (cix x c))).testBit g)

/-- The matching class of least (PRIO, CLASS) on sub-port `x` (R324). -/
def State.matchOn (s : State) (x type g : Nat) : Option Nat :=
  s.leastClass x ((s.classes x).filter (s.matchesClass x type g))

/-- Credit of class `i` of sub-port `x` now, in 2^-10 bit (R326): it grows at ρ_c and is limited to 8 Q_c. -/
def State.creditNow (s : State) (x i : Nat) : Int :=
  let rho := s.shareLive i * s.subRate x
  let c := s.ucl i
  min (c.credit + (rho * (s.chalk.cycles - c.since) : Nat)) (rho * 16000 : Nat)

/-- The credits of sub-port `x` are brought up to date. -/
def creditUpdate (x : Nat) (s : State) : State :=
  s.forAll (s.classes x) (fun c t =>
    t.setUcl (cix x c) { t.ucl (cix x c) with credit := t.creditNow x (cix x c), since := t.chalk.cycles })

/-! ### Encapsulation and frames (R313, R314) -/

/-- Ones'-complement sum of 16-bit words, as IPv4 and UDP use it. -/
def inetSum (bs : List Byte) : Nat :=
  let rec go : List Byte → Nat
    | a :: b :: t => a.toNat * 256 + b.toNat + go t
    | [a] => a.toNat * 256
    | [] => 0
  let x := go bs
  let y := x % 65536 + x / 65536
  65535 - (y % 65536 + y / 65536)

/-- Bytes that the encapsulation adds before the FXT frame. -/
def Encap.len (e : Encap) : Nat := 14 + 4 * b2n e.vlan + (if e.mode = 1 then 28 else if e.mode = 2 then 48 else 0)

/-- The encapsulation of sub-port `x` as it stands (R313); the class gives PCP at acceptance (R328). -/
def State.encapNow (s : State) (x : Nat) : Encap × State :=
  let m := s.rd (R.FXT_ENCAP_MODE x)
  let (id, s1) := s.draw (2 ^ 20)
  let ip6 (f : Nat → Fld) : List Byte := ((List.range 4).map (fun i => beBytes 4 (s.rd (f i)))).flatten
  (⟨if m = 3 then 0 else m, s.flag (R.FXT_ENCAP_VLAN_EN x), s.rd (R.FXT_ENCAP_VID x), 0, s.rd (R.FXT_ENCAP_ETHERTYPE x),
    beBytes 2 (s.rd (R.FXT_DMAC_HI_MAC x)) ++ beBytes 4 (s.rd (R.FXT_DMAC_LO x)),
    beBytes 2 (s.rd (R.FXT_SMAC_HI_MAC x)) ++ beBytes 4 (s.rd (R.FXT_SMAC_LO x)),
    s.rd (R.FXT_UDP_DPORT x), s.rd (R.FXT_UDP_SPORT x),
    if m = 1 then beBytes 4 (s.rd (R.FXT_IP4_SRC x)) else if m = 2 then ip6 (R.FXT_IP6_SRC x) else [],
    if m = 1 then beBytes 4 (s.rd (R.FXT_IP4_DST x)) else if m = 2 then ip6 (R.FXT_IP6_DST x) else [], id⟩, s1)

/-- The Ethernet frame that carries FXT frame `fxt`, without its FCS (R313). -/
def Encap.wrap (e : Encap) (fxt : List Byte) : List Byte :=
  let tag : List Byte := if e.vlan then beBytes 2 0x8100 ++ beBytes 2 (e.pcp * 2 ^ 13 + e.vid) else []
  let udp (sum : Nat) : List Byte := beBytes 2 e.sport ++ beBytes 2 e.dport ++ beBytes 2 (8 + fxt.length) ++ beBytes 2 sum
  let body : List Byte :=
    if e.mode = 1 then
      let h (sum : Nat) : List Byte := [0x45, byte (8 * e.pcp * 4)] ++ beBytes 2 (28 + fxt.length) ++ beBytes 2 e.ident ++
        beBytes 2 0x4000 ++ [64, 17] ++ beBytes 2 sum ++ e.src ++ e.dst
      beBytes 2 0x0800 ++ h (inetSum (h 0)) ++ udp 0 ++ fxt
    else if e.mode = 2 then
      let pseudo := e.src ++ e.dst ++ beBytes 4 (8 + fxt.length) ++ [0, 0, 0, 17]
      let sum := inetSum (pseudo ++ udp 0 ++ fxt)
      beBytes 2 0x86DD ++ beBytes 4 (6 * 2 ^ 28 + 8 * e.pcp * 4 * 2 ^ 20 + e.ident) ++ beBytes 2 (8 + fxt.length) ++ [17, 64] ++
        e.src ++ e.dst ++ udp (if sum = 0 then 0xFFFF else sum) ++ fxt
    else beBytes 2 e.etype ++ fxt
  let f := e.dmac ++ e.smac ++ tag ++ body
  f ++ zeros (60 - f.length)

/-- Bytes of the frame in its class's portion of the store (R324): header, payload and CRC. -/
def Frame.size (f : Frame) : Nat := 36 + f.payload.length

/-- The FXT frame: header, payload, CRC-32C (R314). -/
def Frame.fxt (f : Frame) : List Byte :=
  let b := f.header ++ f.payload
  b ++ beBytes 4 (crc32c b)

/-- Wire bits of a frame, preamble and inter-frame gap included (R326). -/
def Frame.wireBits (f : Frame) : Nat := (max 64 (f.encap.len + f.size + 4) + 20) * 8

/-- The Ethernet frame without its FCS as it leaves. -/
def Frame.bytes (f : Frame) : List Byte := f.encap.wrap f.fxt

/-- MAX_PAYLOAD in force: values outside 256 to 8,960 act as the nearer limit (R340). -/
def State.maxPayload (s : State) : Nat := clampN 256 8960 (s.rd R.FXT_CFG_MAX_PAYLOAD)

/-- A place in the queue behind every frame of an equal or earlier deadline (R326). -/
def frameBefore (a b : Frame) : Bool :=
  match a.deadline, b.deadline with
  | some x, some y => decide (x ≤ y)
  | some _, none => true
  | none, none => true
  | none, some _ => false

/-- Insertion of a frame into a class queue (R326). -/
def insertFrame (f : Frame) : List Frame → List Frame
  | [] => [f]
  | g :: t => if frameBefore g f then g :: insertFrame f t else f :: g :: t

/-- Device fault stops rows, objects, tiles and replays (R466). -/
def stopped (type : Nat) : Bool := type == 1 || type == 2 || type == 3 || type == 5

/-- A frame of type `type` and size `size` fits class `i` of sub-port `x` now (R324): the sub-port is UP and the bytes in the
store do not exceed Q_c; with Q_c = 0 a waiting frame takes the unreserved slot. -/
def State.classRoom (s : State) (x i type size : Nat) : Bool :=
  let q := (s.ucl i).queue
  let used := (q.map Frame.size).sum
  s.subState x == 3 &&
    (if s.shareLive i * s.subRate x = 0 then (type == 0x05 || type == 0x11) && q.isEmpty
     else decide ((used + size) * 64 ≤ s.shareLive i * s.subRate x * 125))

/-- The deadline of a frame of class `i` with reference time `ref` (R325). -/
def State.frameDeadline (s : State) (i ref : Nat) : Option Nat :=
  let b := s.rd (R.UPL_CLASS_CTRL_LIVE_BUDGET i)
  if b = 0 then none else some (ref + b)

/-- The frame, built with encapsulation `e`, enters class `c` of sub-port `x` with deadline `dl`: SEQ, FLAGS and STAMP are set (R314), and
the class's PCP (R313, R328). -/
def frameAccept (x c : Nat) (e : Encap) (r : FrameReq) (dl : Option Nat) (s : State) : State :=
  let i := cix x c
  let cl := s.ucl i
  let flags := b2n cl.first + 2 * b2n (s.flag (R.UPL_SP_STAT_FALLBACK x)) +
    4 * b2n (decide (s.shareLive i < s.rd (R.UPL_CLASS_SHARE i))) + 8 * b2n dl.isNone
  let h : List Byte := [0x10, byte r.type] ++ beBytes 2 flags ++ beBytes 4 cl.seq ++ [byte (x * 32 + c), byte r.group] ++
    beBytes 2 r.payload.length ++ beBytes 4 r.aux ++ beBytes 8 (dl.getD (2 ^ 64 - 1)) ++ beBytes 8 s.now
  let f : Frame := ⟨{ e with pcp := s.rd (R.UPL_CLASS_CTRL_LIVE_PCP i) }, r.type, h, r.payload, dl, c⟩
  s.setUcl i { cl with queue := insertFrame f cl.queue, seq := (cl.seq + 1) % 2 ^ 32, first := false }

/-- The frame is built and enters class `c` of sub-port `x` at once (R313). -/
def frameBuild (x c : Nat) (r : FrameReq) (dl : Option Nat) (s : State) : State :=
  let (e, s1) := s.encapNow x
  frameAccept x c e r dl s1

/-! ### The scheduler (R326 to R328) -/

/-- The head of class `c` of sub-port `x` can no longer meet its deadline (R326); without a rate none can (DEDUCED, log 95). -/
def State.headLate (s : State) (x : Nat) (f : Frame) : Bool :=
  match f.deadline with
  | none => false
  | some d => s.subRate x == 0 || decide (d * s.subRate x < (s.now + 400) * s.subRate x + f.wireBits)

/-- Late heads of class `c` of sub-port `x` are dropped, one after another (R33, R326, R328). -/
def dropLate (x c : Nat) : Nat → State → State
  | 0, s => s
  | k + 1, s =>
    let i := cix x c
    match (s.ucl i).queue with
    | [] => s
    | f :: t =>
      if s.headLate x f then
        let s1 := (s.setUcl i { s.ucl i with queue := t }).inc (R.UPL_CLASS_LATE i)
        let p := s1.sub x
        let quiet := p.lateAt.any (fun a => decide (s1.chalk.cycles < a + 1000000))
        let s2 := if quiet then s1
          else (s1.setSub x { p with lateAt := some s1.chalk.cycles }).raise (upEv (s1.lowLane x) 2)
        dropLate x c k s2
      else s

/-- The drop rule at one moment, for every class of sub-port `x`. -/
def dropLateAll (x : Nat) (s : State) : State :=
  s.forAll (s.classes x) (fun c t => dropLate x c (t.ucl (cix x c)).queue.length t)

/-- The moment at which the head of class `c` of sub-port `x` can no longer meet its deadline comes: it is dropped, and the heads
behind it are judged (R326, R328). -/
def deadlineDrop (x c : Nat) (s : State) : State :=
  match (s.ucl (cix x c)).queue with
  | [] => s
  | f :: _ =>
    match f.deadline with
    | none => s
    | some d =>
      if s.subRate x = 0 then dropLate x c (s.ucl (cix x c)).queue.length s
      else
        let s1 := s.atTime (d + 1 - 400 - ceilDiv f.wireBits (s.subRate x))
        let s2 := if s1.headLate x f then s1 else s1.atTime (s1.now + 1)
        dropLate x c (s2.ucl (cix x c)).queue.length s2

/-- Class `c` of sub-port `x` is paused (R329). -/
def State.classPaused (s : State) (x c : Nat) : Bool :=
  let p := (s.sub x).paused
  p.contains (s.rd (R.UPL_CLASS_CTRL_LIVE_PCP (cix x c)))

/-- In P1 Idle only MGMT_RSP and TIME frames are sent (R309). -/
def State.maySend (s : State) (type : Nat) : Bool := s.rd R.THM_PWR_STAT_STATE != 1 || type == 0x11 || type == 0x20

/-- Classes of sub-port `x` with a head that may start (R326). -/
def State.readyClasses (s : State) (x : Nat) : List (Nat × Frame) :=
  (s.classes x).filterMap (fun c => match (s.ucl (cix x c)).queue with
    | f :: _ => if s.classPaused x c || !s.maySend f.type then none else some (c, f)
    | [] => none)

/-- Order of eligible heads: deadline, PRIO, CLASS (R326). -/
def State.headKey (s : State) (x : Nat) (e : Nat × Frame) : Nat :=
  (e.2.deadline.getD (2 ^ 64)) * 2048 + s.rd (R.UPL_CLASS_PRIO (cix x e.1)) * 8 + e.1

/-- The frame that starts next on sub-port `x` (R326): the class, and whether it is served from its own reservation. -/
def State.choose (s : State) (x : Nat) : Option (Nat × Bool) :=
  let ready := s.readyClasses x
  let elig := ready.filter (fun e => decide (0 < s.shareLive (cix x e.1) ∧ 0 ≤ s.creditNow x (cix x e.1)))
  match minBy (s.headKey x) elig with
  | some e => some (e.1, true)
  | none => (s.leastClass x (ready.map (·.1))).map (·, false)

/-- A TIME frame carries the Chalk time of its first bit, inserted as it starts (R322). -/
def Frame.stampChalk (f : Frame) (t : Nat) : Frame :=
  if f.type = 0x20 then { f with payload := beBytes 8 t ++ f.payload.drop 8 } else f

/-- A frame starts when sub-port `x` is UP and none is under way (R326). -/
def upKick (x : Nat) (s : State) : State :=
  if s.subState x ≠ 3 ∨ (s.sub x).cur.isSome then s
  else
    let s1 := dropLateAll x s
    match s1.choose x with
    | none => s1
    | some (c, own) =>
      let s2 := creditUpdate x s1
      let i := cix x c
      let cl := s2.ucl i
      match cl.queue with
      | [] => s2
      | f :: t =>
        let s3 := s2.setUcl i { cl with queue := t, credit := if own then cl.credit - f.wireBits * 1024 else cl.credit }
        s3.setSub x { s3.sub x with
          cur := some (f.stampChalk s3.now, s3.chalk.cycles + ceilDiv f.wireBits (max 1 (s3.subRate x))) }

/-- The frame under way on sub-port `x` has left; the next one is chosen (R326). -/
def frameDone (x : Nat) (s : State) : State :=
  match (s.sub x).cur with
  | none => upKick x s
  | some (f, done) =>
    let s1 := s.atCycle done
    upKick x ((s1.setSub x { s1.sub x with cur := none }).inc (R.UPL_CLASS_SENT (cix x f.cls)))

/-! ### Offering frames (R324, R325) -/

/-- A frame is offered to class `c` of sub-port `x` with deadline `dl`: accepted, or refused with its flow event. -/
def offerClass (x c : Nat) (r : FrameReq) (dl : Option Nat) (s : State) : State :=
  let i := cix x c
  if s.devFault && stopped r.type then s
  else if s.classRoom x i r.type (36 + r.payload.length) then upKick x (frameBuild x c r dl s)
  else (s.inc (R.UPL_CLASS_REFUSED i)).raise (upEv (s.lowLane x) 3)

/-- Frames of one row or tile, or one EVENT or OBJECT frame, offered on sub-port `x`; every one takes the deadline of the first. -/
def offerOn (x : Nat) (rs : List FrameReq) (s : State) : State :=
  match rs with
  | [] => s
  | r :: _ =>
    match s.matchOn x r.type r.group with
    | none => s
    | some c =>
      let dl := s.frameDeadline (cix x c) r.ref
      rs.foldl (fun t q => offerClass x c q dl t) s

/-- ROW, OBJECT, TILE and EVENT frames go to every sub-port that has a matching class (R324). -/
def offerAll (rs : List FrameReq) (s : State) : State := s.forAll (List.range s.nsub) (fun x => offerOn x rs)

/-- The first waiting frame of class `c` of sub-port `x` is accepted when the class has room (R324). -/
def waitAccept (x c : Nat) (s : State) : State :=
  let i := cix x c
  match (s.ucl i).wait with
  | [] => s
  | (e, r) :: t =>
    if s.classRoom x i r.type (36 + r.payload.length) then
      upKick x (frameAccept x c e r (s.frameDeadline i r.ref) (s.setUcl i { s.ucl i with wait := t }))
    else s

/-- A MGMT_RSP is built and offered on sub-port `x`; its source waits when it is not accepted (R321, R324). -/
def offerWait (x : Nat) (r : FrameReq) (s : State) : State :=
  match s.matchOn x r.type r.group with
  | none => s
  | some c =>
    let (e, s0) := s.encapNow x
    let s1 := s0.setUcl (cix x c) { s0.ucl (cix x c) with wait := (s0.ucl (cix x c)).wait ++ [(e, r)] }
    if (s.ucl (cix x c)).wait = [] then waitAccept x c s1 else s1

/-- Fragments of a row (R316). -/
def rowFrames (g ref p : Nat) (d : RowData) : List FrameReq :=
  let ncol := max 1 ((p - 32) / (2 * d.nplanes))
  let count := ceilDiv d.width ncol
  (List.range count).map (fun k =>
    let cols := (d.cols.drop (k * ncol)).take ncol
    let desc := beBytes 4 d.line ++ beBytes 8 d.time ++ beBytes 4 d.valid ++ beBytes 4 d.expect ++ beBytes 4 d.epoch ++
      [byte d.cseq, byte (d.flags * 16 + (d.nplanes - 1))] ++ beBytes 2 (d.width - 1) ++ beBytes 2 (k * ncol) ++ beBytes 2 cols.length
    ⟨0x01, g, k * 65536 + count, ref, desc ++ (cols.map (fun c => (c.map (beBytes 2)).flatten)).flatten⟩)

/-- Fragments of a tile image (R318). -/
def tileFrames (g ref p id : Nat) (img : List Byte) : List FrameReq :=
  let n := p - 16
  let count := max 1 (ceilDiv img.length n)
  (List.range count).map (fun k =>
    ⟨0x03, g, k * 65536 + count, ref, beBytes 8 id ++ beBytes 4 (k * n) ++ beBytes 4 img.length ++ slice img (k * n) n⟩)

/-- A row leaves Seam for the uplink; its reference time is `ref` (R325). -/
def upRow (g ref : Nat) (d : RowData) (s : State) : State := offerAll (rowFrames g ref s.maxPayload d) s

/-- A tile image leaves Stencil for the uplink. -/
def upTile (g ref id : Nat) (img : List Byte) (s : State) : State := offerAll (tileFrames g ref s.maxPayload id img) s

/-- The frame of a closed set of records or entries: the class was chosen by its records (R317, R319). -/
def closeOpen (x c type : Nat) (o : OpenFrame) (s : State) : State :=
  offerClass x c ⟨type, o.group, o.entries.length, o.ref, o.entries.flatten⟩ (s.frameDeadline (cix x c) o.ref) s

/-- A record or entry joins the open frame of a class, which closes when it is full (R317, R319). -/
def OpenFrame.add (o : Option OpenFrame) (group ref cap : Nat) (e : List Byte) : OpenFrame :=
  match o with
  | none => ⟨group, ref, [e], cap⟩
  | some o => { o with group := if o.group = group then group else 0xFF, ref := min o.ref ref, entries := o.entries ++ [e] }

/-- An object record reaches the uplink scheduler from Plumb (R252, R317, R324). -/
def upObject (g ref : Nat) (rec : List Byte) (s : State) : State :=
  s.forAll (List.range s.nsub) (fun x t =>
    match t.matchOn x 0x02 g with
    | none => t
    | some c =>
      let i := cix x c
      let o := OpenFrame.add (t.ucl i).objs g ref (min 35 (t.maxPayload / 256)) rec
      if o.cap ≤ o.entries.length then closeOpen x c 0x02 o (t.setUcl i { t.ucl i with objs := none })
      else t.setUcl i { t.ucl i with objs := some o })

/-- An EVENT entry of the collector captured at Chalk time `ref` (R319, R467). -/
def upEvent (ref : Nat) (e : List Byte) (s : State) : State :=
  s.forAll (List.range s.nsub) (fun x t =>
    match t.matchOn x 0x04 0xFF with
    | none => t
    | some c =>
      let i := cix x c
      let o := OpenFrame.add (t.ucl i).evts 0xFF ref (t.maxPayload / 16) e
      if o.cap ≤ o.entries.length then closeOpen x c 0x04 o (t.setUcl i { t.ucl i with evts := none })
      else t.setUcl i { t.ucl i with evts := some o })

/-- No record or entry for class `c` of sub-port `x` for 16 cycles: its open OBJECT (or EVENT) frame closes (R317, R319). -/
def frameTimeout (x c : Nat) (event : Bool) (s : State) : State :=
  let i := cix x c
  let cl := s.ucl i
  match event, cl.objs, cl.evts with
  | false, some o, _ => closeOpen x c 0x02 o (s.setUcl i { cl with objs := none })
  | true, _, some o => closeOpen x c 0x04 o (s.setUcl i { cl with evts := none })
  | _, _, _ => s

/-- TIME frames of sub-port `x` are built, one for each class that carries TIME (R322); an offset beyond 32 bits saturates (DESIGN CHOICE,
log 95). -/
def timeFrames (x : Nat) (s : State) : State :=
  s.forAll ((s.classes x).filter (s.matchesClass x 0x20 0xFF)) (fun c t =>
    let p := zeros 8 ++ [byte (t.rd R.UPL_PTP_STAT_SERVO), 0, 0, 0] ++
      beBytes 4 (satSigned 32 t.ptp.offset) ++ beBytes 4 (t.rd R.UPL_PTP_GM_HI) ++
      beBytes 4 (t.rd R.UPL_PTP_GM_LO) ++ zeros 8
    offerClass x c ⟨0x20, 0xFF, 0, t.now, p⟩ (t.frameDeadline (cix x c) t.now) t)

/-- The PERIOD timer of sub-port `x` expires; with PERIOD 0 no TIME frame is built (R322). -/
def timeTimer (x : Nat) (s : State) : State :=
  if s.rd R.FXT_TIME_CFG_PERIOD = 0 ∨ s.subState x ≠ 3 then s else timeFrames x s

/-! ### Discards (R95, R309, R466) -/

/-- A backward step of Chalk time in Topcoat discards every queued frame that carries a deadline (R95). -/
def discardDeadlines (s : State) : State :=
  s.forAll (List.range 64) (fun i t =>
    let q := (t.ucl i).queue
    let keep := q.filter (·.deadline.isNone)
    (t.setUcl i { t.ucl i with queue := keep }).inc (R.UPL_CLASS_LATE i) (q.length - keep.length))

/-- Device fault discards the frames of R466 that have not started. -/
def discardStopped (s : State) : State :=
  s.forAll (List.range 64) (fun i t =>
    let cl := t.ucl i
    t.setUcl i { cl with queue := cl.queue.filter (fun f => !stopped f.type), wait := cl.wait.filter (fun f => !stopped f.2.type),
                         objs := none })

/-- The queued frames of sub-port `x` are discarded and counted in UPL_SP_FLUSHED; class sequence numbers restart at 0 and each
class's next frame carries FIRST (R309). -/
def upFlush (x : Nat) (s : State) : State :=
  let n := ((List.range 8).map (fun c => (s.ucl (cix x c)).queue.length)).sum
  (s.inc (R.UPL_SP_FLUSHED x) n).forAll (List.range 8) (fun c t =>
    t.setUcl (cix x c) { t.ucl (cix x c) with queue := [], seq := 0, first := true })

/-! ### States of a sub-port (R309 to R312) -/

/-- Lane `u` is taped off. -/
def State.laneTaped (s : State) (u : Nat) : Bool := s.flag (R.UPL_LANE_STAT_TAPED u)

/-- The lanes that carry sub-port `x` when `fb` asks for fall-back (R310): `none` when no clean division exists. -/
def State.division (s : State) (x : Nat) (fb : Bool) : Option (List Nat) :=
  let ls := s.subLanes x
  if !fb then (if ls.any s.laneTaped then none else some ls)
  else
    let f := s.rd R.UPL_CFG_FALLBACK
    if 3 < f then none
    else
      let w := modeWidth f
      ((List.range (ls.length / max 1 w)).map (fun k => (ls.drop (k * w)).take w)).find? (fun d => !d.any s.laneTaped)

/-- The frame under way on sub-port `x` is cut short (R328). -/
def upAbort (x : Nat) (s : State) : State :=
  match (s.sub x).cur with
  | none => s
  | some _ => (s.setSub x { s.sub x with cur := none }).inc (R.UPL_SP_ABORT x)

/-- SHARE_LIVE of the classes of sub-port `x` at `lanes` lanes of the declared ones (R311). -/
def rescale (x lanes : Nat) (s : State) : State :=
  let ro := modeWidth (s.rd R.UPL_CFG_MODE)
  let s0 := creditUpdate x s
  ((s0.classOrder x).foldl (fun (a : Nat × State) c =>
    let i := cix x c
    let g := min (a.2.rd (R.UPL_CLASS_SHARE i)) a.1
    (a.1 - g, a.2.wr (R.UPL_CLASS_SHARE_LIVE_SHARE_LIVE i) (g * ro / max 1 lanes))) (1024 * lanes / ro, s0)).2

/-- The lanes in `ls` carry sub-port `x`, those of its declared lanes outside `ls` are parked (R309, R310, R336, R338). -/
def carry (x : Nat) (ls : List Nat) (s : State) : State :=
  let s1 := s.forAll (s.subLanes x) (fun u t =>
    let on := ls.contains u
    let t1 := (t.wr (R.UPL_LANE_STAT_IN_USE u) (b2n on)).wr (R.UPL_LANE_STAT_SUBPORT u) (if on then x else 0)
    if on then t1 else (t1.wr (R.UPL_LANE_STAT_AM_LOCK u) 0).wr (R.UPL_LANE_STAT_SIG_DET u) 0)
  (s1.wr (R.UPL_SP_STAT_LANES x) (ls.foldl (fun a u => a + 2 ^ u) 0)).wr (R.UPL_SP_STAT_RATE x) (8 * ls.length)

/-- Sub-port `x` enters TRAINING, or ALIGNING with LT_EN = 0 (R308, R309). -/
def upTrain (x : Nat) (s : State) : State := s.wr (R.UPL_SP_STAT_STATE x) (if s.flag R.UPL_CTRL_LT_EN then 1 else 2)

/-- Sub-port `x` enters FAILED and raises its link event (R309, R332). -/
def upFail (x : Nat) (s : State) : State := (s.wr (R.UPL_SP_STAT_STATE x) 4).raise (upEv (s.lowLane x) 0)

/-- Sub-port `x` is brought up on the lanes that may carry it, in fall-back or not (R309 to R311): credit has grown at the old rate until
now, and heads that the new rate makes late are dropped (R326, R328). -/
def upBring (x : Nat) (fb : Bool) (s : State) : State :=
  let s0 := (creditUpdate x (upAbort x s)).wr (R.UPL_SP_STAT_FALLBACK x) (b2n fb)
  match s0.division x fb with
  | some ls => dropLateAll x (upTrain x (rescale x ls.length (carry x ls s0)))
  | none => dropLateAll x (upFail x (carry x [] s0))

/-- Link training of sub-port `x` is complete on every lane (R309). -/
def upTrained (x : Nat) (s : State) : State := if s.subState x = 1 then s.wr (R.UPL_SP_STAT_STATE x) 2 else s

/-- Alignment markers and FEC lock on every lane of sub-port `x`: it enters UP, the link condition clears, and its first TIME frames
are built (R309, R322, R457). -/
def upAligned (x : Nat) (s : State) : State :=
  if s.subState x ≠ 2 then s
  else
    let ls := (List.range 8).filter (fun u => (s.rd (R.UPL_SP_STAT_LANES x)).testBit u)
    let s1 := (s.wr (R.UPL_SP_STAT_STATE x) 3).forAll ls (fun u t =>
      (t.wr (R.UPL_LANE_STAT_AM_LOCK u) 1).wr (R.UPL_LANE_STAT_SIG_DET u) 1)
    let s2 := (s1.forAll (s.subLanes x) (fun u t => t.fall (upEv u 0))).forAll (s.classes x) (fun c t =>
      t.setUcl (cix x c) { t.ucl (cix x c) with first := true })
    let s3 := if s2.rd R.FXT_TIME_CFG_PERIOD = 0 then s2 else timeFrames x s2
    upKick x (s3.forAll (s3.classes x) (fun c t => waitAccept x c t))

/-- 500 ms in TRAINING or ALIGNING without UP (R309). -/
def upTimeout (x : Nat) (s : State) : State := if s.subState x = 1 ∨ s.subState x = 2 then upFail x s else s

/-- The retry timer of a FAILED sub-port expires; without a clean division it stays FAILED and the timer runs again (R309, R310). -/
def upRetry (x : Nat) (s : State) : State :=
  let fb := s.flag (R.UPL_SP_STAT_FALLBACK x)
  if s.subState x = 4 ∧ (s.division x fb).isSome then upBring x fb s else s

/-- Lane `u` loses alignment-marker lock (R338). -/
def amLost (u : Nat) (s : State) : State := (s.inc (R.UPL_AM_LOSS u)).wr (R.UPL_LANE_STAT_AM_LOCK u) 0

/-- Lane `u` is taped off: its sub-port falls back or fails (R310); one in FAILED does so when its retry timer expires (R309). -/
def upLaneTape (u : Nat) (s : State) : State :=
  let s1 := (s.wr (R.UPL_LANE_STAT_TAPED u) 1).wr (R.UPL_LANE_STAT_AM_LOCK u) 0
  let x := s.subOf u
  if !s.flag (R.UPL_LANE_STAT_IN_USE u) || decide (s.nsub ≤ x) || s.subState x == 0 then s1
  else if s.subState x = 4 then s1.wr (R.UPL_SP_STAT_FALLBACK x) 1
  else upBring x true s1

/-- Lane `u` returns to service: it stays parked until RESTORE (R312). -/
def upLaneReturn (u : Nat) (s : State) : State := s.wr (R.UPL_LANE_STAT_TAPED u) 0

/-- Lane `u`, which carries an UP sub-port, has been without alignment-marker lock for HOLD: it is taped off by its own rule and
raises its link event (R309, R310, R460). -/
def upLaneLoss (u : Nat) (s : State) : State :=
  if s.flag (R.UPL_LANE_STAT_IN_USE u) && !s.flag (R.UPL_LANE_STAT_AM_LOCK u) && s.subState (s.rd (R.UPL_LANE_STAT_SUBPORT u)) == 3 then
    let s1 := upLaneTape u (s.raise (upEv u 0))
    { s1 with ruleTaped := s1.ruleTaped ++ [(0x5000 + u, upEv u 0)] }
  else s

/-- Sub-port `x` goes DOWN (R309, R579): its frame is cut and its lanes stop. -/
def upDown (x : Nat) (s : State) : State :=
  let s1 := carry x [] (upAbort x s)
  ((s1.wr (R.UPL_SP_STAT_STATE x) 0).wr (R.UPL_SP_STAT_FALLBACK x) 0).wr (R.UPL_SP_STAT_RATE x) 0

/-- A 1 ms FEC window of lane `u` ends with `bad` uncorrectable codewords (R332, R338). -/
def fecWindow (u corr bad sym : Nat) (s : State) : State :=
  let thr := s.rd R.UPL_LANE_CFG_DEG_THR
  (((s.inc (R.UPL_FEC_CORR u) corr).inc (R.UPL_FEC_UNCORR u) bad).inc (R.UPL_FEC_SYM u) sym).raiseIf
    (decide (thr ≠ 0 ∧ thr < bad)) (upEv u 1)

/-! ### Flow control (R329) -/

/-- UPL_SP_STAT.PAUSED of sub-port `x` (R336). -/
def showPaused (x : Nat) (s : State) : State :=
  s.wr (R.UPL_SP_STAT_PAUSED x) ((s.sub x).paused.foldl (fun a k => a ||| 2 ^ k) 0)

/-- Priority `k` of sub-port `x` is paused or resumed, by an 802.3 PAUSE or by PFC: the frame that comes last sets its quanta. -/
def setPause (x k : Nat) (byPause on : Bool) (s : State) : State :=
  let p := s.sub x
  let rest (l : List Nat) : List Nat := l.filter (· != k)
  let put (b : Bool) (l : List Nat) : List Nat := if b then rest l ++ [k] else rest l
  showPaused x (s.setSub x { p with paused := put on p.paused, byPause := put (on && byPause) p.byPause,
                                    noted := if on then p.noted else rest p.noted })

/-- The priorities that an event of slot `k` is about: the priority itself, or for slot 8 those that an 802.3 PAUSE holds (R329). -/
def SubPort.slot (p : SubPort) (k : Nat) : List Nat :=
  if k = 8 then p.byPause else p.paused.filter (fun q => q == k && !p.byPause.contains q)

/-- A PFC frame: `quanta` of the priorities it enables; 0 resumes (R329). -/
def pfc (x enable : Nat) (quanta : List Nat) (s : State) : State :=
  let s1 := (s.inc (R.UPL_SP_PAUSE_RX x)).forAll ((List.range 8).filter (enable.testBit ·))
    (fun k t => setPause x k false (quanta.getD k 0 != 0) t)
  upKick x s1

/-- An 802.3 PAUSE frame acts on every class, whatever its priority (R329). -/
def pauseFrame (x quanta : Nat) (s : State) : State :=
  let s1 := s.inc (R.UPL_SP_PAUSE_RX x)
  if s.flag R.UPL_CTRL_PAUSE_EN then upKick x (s1.forAll (List.range 8) (fun k t => setPause x k true (quanta != 0) t)) else s1

/-- The quanta of a PFC pause of priority `k` elapse, or with `k` = 8 those of an 802.3 PAUSE (R329). -/
def pauseEnd (x k : Nat) (s : State) : State := upKick x (s.forAll ((s.sub x).slot k) (fun q t => setPause x q false false t))

/-- The priorities of slot `k` that a class of sub-port `x` has and whose pause has not raised the flow event yet. -/
def State.pauseNew (s : State) (x k : Nat) : List Nat :=
  ((s.sub x).slot k).filter (fun q => !(s.sub x).noted.contains q &&
    (s.classes x).any (fun c => s.rd (R.UPL_CLASS_CTRL_LIVE_PCP (cix x c)) == q))

/-- A pause of a class has lasted longer than PAUSE_MAX: the flow event, once in a continuous pause (R329). -/
def pauseLong (x k : Nat) (s : State) : State :=
  let new := s.pauseNew x k
  if s.rd R.UPL_FLOW_PAUSE_MAX ≠ 0 ∧ new ≠ [] then
    (s.setSub x { s.sub x with noted := (s.sub x).noted ++ new }).raise (upEv (s.lowLane x) 3)
  else s

/-! ### PTP (R330, R331) -/

/-- SERVO becomes `v`; the runs of offsets start again. -/
def servoTo (v : Nat) (s : State) : State :=
  { s.wr R.UPL_PTP_STAT_SERVO v with ptp := { s.ptp with good := 0, bad := 0 } }

/-- SERVO after an offset (R331). -/
def servoJudge (o : Int) (s : State) : State :=
  let ok := decide (o.natAbs ≤ max 1 (s.rd R.UPL_PTP_CFG_LOCK_NS))
  let p := s.ptp
  let s1 := { s with ptp := { p with good := if ok then p.good + 1 else 0, bad := if ok then 0 else p.bad + 1 } }
  if s.rd R.UPL_PTP_STAT_SERVO = 1 ∧ 16 ≤ s1.ptp.good then servoTo 2 s1
  else if s.rd R.UPL_PTP_STAT_SERVO = 2 ∧ 4 ≤ s1.ptp.bad then servoTo 1 s1
  else s1

/-- The phase still to be slewed grows by `d` ns (R94). -/
def addPhase (d : Int) (s : State) : State :=
  { s with chalk := { s.chalk with phase := s.chalk.phase + d * 2 ^ 32 } }

/-- Chalk time is stepped to `t` ns (R95); the flag tells a backward step. -/
def chalkJump (t : Nat) (s : State) : Bool × State :=
  (decide (t < s.now), { s with chalk := s.chalk.load t })

/-- An offset `o` is measured (R331): the servo steps (the flag tells a backward step), slews, or trims the frequency by an amount
that the spec leaves open. While a control core is halted it does nothing (R512). -/
def servoOffset (o : Int) (s : State) : Bool × State :=
  let s0 := { s.wr R.UPL_PTP_STAT_OFFSET (satSigned 24 o) with ptp := { s.ptp with offset := o } }
  let s1 := if s.halted then s0 else servoJudge o s0
  if !s1.flag R.UPL_PTP_CFG_DISCIPLINE ∨ s.halted then (false, s1)
  else if 10000 < o.natAbs then
    if !s1.anyTg then chalkJump (ofSigned 64 ((s1.now : Int) - o)) s1
    else (false, if s1.chalk.phase = 0 then addPhase (-o) s1 else s1)
  else
    let (v, s2) := s1.draw 4294969
    (false, s2.wr R.CHK_ADJ_FREQ (ofSigned 32 ((v : Int) - 2147484)))

/-- The transport in force: 0 L2, 1 UDP over IPv4, 2 UDP over IPv6; 3 acts as L2 (R330, R342). -/
def State.ptpVia (s : State) : Nat := if s.rd R.UPL_PTP_CFG_TRANSPORT = 3 then 0 else s.rd R.UPL_PTP_CFG_TRANSPORT

/-- A Sync of the best master has come: SERVO leaves OFF or HOLDOVER (R331). -/
def servoSync (s : State) : State :=
  let sv := s.rd R.UPL_PTP_STAT_SERVO
  if sv = 0 ∨ sv = 3 then servoTo 1 s else s

/-- A Sync (with its Follow_Up when it is two-step) gives t1 and t2; the Delay_Req leaves at once over the selected transport with its own
timestamp t3 (R330). -/
def ptpPair (t1 t2 : Int) (s0 : State) : State :=
  let s := servoSync s0
  let p := s.ptp
  { s with ptp := { p with
      sync := none, pair := some (t1, t2), seq := (p.seq + 1) % 65536,
      dreq := some ⟨s.ptpVia, s.rd R.UPL_PTP_CFG_SUBPORT, s.rd R.UPL_PTP_CFG_DOMAIN, p.seq, s.now⟩ } }

/-- The message reaches the slave-only clock: it comes on SUBPORT over TRANSPORT and in DOMAIN, and PTP is enabled (R330, R342). -/
def State.ptpTaken (s : State) (x : Nat) (h : PtpHdr) : Bool :=
  s.flag R.UPL_PTP_CFG_EN && x == s.rd R.UPL_PTP_CFG_SUBPORT && h.domain.toNat == s.rd R.UPL_PTP_CFG_DOMAIN && h.via.val == s.ptpVia

/-- A PTP message of sub-port `x` (R330, R331); the flag tells a backward step of Chalk time. Timing messages count when the selected best
master sends them. Corrections are in ns. -/
def ptpMessage (x : Nat) (h : PtpHdr) (m : PtpMsg) (s : State) : Bool × State :=
  let mine := s.ptp.master == some h.source.toNat
  if !s.ptpTaken x h then (false, s)
  else match m with
    | .announce gm best =>
      (false, s.when best (fun t => { (t.wr R.UPL_PTP_GM_HI (gm.toNat / 2 ^ 32)).wr R.UPL_PTP_GM_LO gm.toNat with
        ptp := { t.ptp with master := some h.source.toNat } }))
    | .sync q two t1 corr =>
      if !mine then (false, s)
      else if two then
        let s1 := servoSync s
        (false, { s1 with ptp := { s1.ptp with sync := some (q.toNat, s1.now, corr) } })
      else (false, ptpPair (t1.toNat + corr) s.now s)
    | .followUp q t1 corr =>
      match s.ptp.sync with
      | some (q', t2, c) => (false, if mine && q' == q.toNat then ptpPair (t1.toNat + c + corr) t2 s else s)
      | none => (false, s)
    | .delayResp q t4 corr =>
      match s.ptp.pair, s.ptp.dreq with
      | some (t1, t2), some d =>
        if mine && d.seq == q.toNat then
          let s1 := { s with ptp := { s.ptp with dreq := none } }
          servoOffset (floorDiv ((t2 - t1) - ((t4.toNat : Int) - corr - d.t3)) 2) s1
        else (false, s)
      | _, _ => (false, s)

/-- 3 s without Sync (R331). -/
def ptpHoldover (s : State) : State :=
  if s.rd R.UPL_PTP_STAT_SERVO = 1 ∨ s.rd R.UPL_PTP_STAT_SERVO = 2 then servoTo 3 s else s

end Sys2Proof.Machine
end

