-- ==== Sys2Proof/Machine/Replay.lean ====
section
/-! DEFINITION. The replay engine (R366 to R370): requests, the walk over the records of the ring, and the stream of records in
REPLAY frames or in device memory. -/

namespace Sys2Proof.Machine

/-! ### Requests -/

/-- The request fields as GO copies them (R366, R384, R385). -/
def State.rpRequest (s : State) : RpReq :=
  ⟨s.rd R.HST_RP_CTRL_MODE, s.rd R.HST_RP_CTRL_MARK, s.rd R.HST_RP_CTRL_KINDS, s.rd R.HST_RP_GROUPS_MASK, s.rd R.HST_RP_ID,
   2 ^ 32 * s.rd R.HST_RP_START_HI + s.rd R.HST_RP_START_LO, 2 ^ 32 * s.rd R.HST_RP_END_HI + s.rd R.HST_RP_END_LO,
   s.rd R.HST_RP_LEN, s.flag R.HST_RP_CTRL_DEST, 2 ^ 32 * s.rd R.HST_RP_DEST_HI_ADDR + s.rd R.HST_RP_DEST_LO,
   s.rd R.HST_RP_DEST_LEN⟩

/-- Requests held, with the one in progress (R386). -/
def Replay.held (r : Replay) : Nat := r.closing.length + b2n r.run.isSome + r.queue.length

/-- QUEUED and BUSY (R386). -/
def showReplay (s : State) : State :=
  (s.wr R.HST_RP_STAT_QUEUED s.replay.held).wr R.HST_RP_STAT_BUSY (b2n (s.replay.run.isSome || !s.replay.closing.isEmpty))

/-- The engine with another request in progress. -/
def setRun (r : Option RpRun) (s : State) : State := { s with replay := { s.replay with run := r } }

/-- A write of GO: the request is queued, or refused (R366, R461). -/
def rpGo (s : State) : State :=
  if 4 ≤ s.replay.held ∨ s.replay.taped then s.wr R.HST_RP_STAT_REFUSED 1
  else showReplay { s with replay := { s.replay with queue := s.replay.queue ++ [s.rpRequest] } }

/-! ### The stream (R368) -/

/-- Stream bytes of a full REPLAY frame. -/
def State.rpChunk (s : State) : Nat := s.maxPayload - 16

/-- FLAGS.ABORTED is set for OVERRUN, ABORTED, CORRUPT and RESET. -/
def rpAborted (st : Nat) : Bool := st == 5 || st == 6 || st == 11 || st == 12

/-- A REPLAY frame of `r` with the stream bytes `bs` (R320, R368). -/
def State.rpFrame (s : State) (r : RpRun) (last : Bool) (bs : List Byte) : FrameReq :=
  let st := if last then r.status.getD 0 else 0
  ⟨0x05, 0xFF, r.req.id, s.now, beBytes 4 r.req.id ++ beBytes 4 r.part ++ beBytes 2 (b2n last + 2 * b2n (rpAborted st)) ++
    beBytes 2 st ++ zeros 4 ++ bs⟩

/-- The class that takes REPLAY frames: the lowest-numbered sub-port that has a matching class (R324). -/
def State.rpClass (s : State) : Option (Nat × Nat) :=
  (List.range s.nsub).findSome? (fun x => (s.matchOn x 0x05 0xFF).map (x, ·))

/-- A REPLAY frame is taken by its class, or by none at all: the state after it; `none` when the source must wait (R324, R466). -/
def State.rpOffer (s : State) (f : FrameReq) : Option State :=
  if s.devFault then some s
  else match s.rpClass with
    | none => some s
    | some (x, c) =>
      if s.classRoom x (cix x c) 0x05 (36 + f.payload.length) then
        some (upKick x (frameBuild x c f (s.frameDeadline (cix x c) f.ref) s))
      else none

/-- Frames of `r` are built as long as the class accepts them: a full frame at a time, and after the walk the last one. The flag
tells that the last frame has been built. -/
def rpFrames : Nat → RpRun → State → RpRun × Bool × State
  | 0, r, s => (r, false, s)
  | k + 1, r, s =>
    let n := s.rpChunk
    let last := r.status.isSome && decide (r.out.length ≤ n)
    if last || decide (n ≤ r.out.length) then
      match s.rpOffer (s.rpFrame r last (r.out.take n)) with
      | none => (r, false, s)
      | some s1 =>
        let r1 := { r with out := r.out.drop n, part := r.part + 1, bytes := r.bytes + min n r.out.length }
        if last then (r1, true, s1) else rpFrames k r1 s1
    else (r, false, s)

/-- `r` is finished: its result registers (R385, R386). -/
def rpClose (r : RpRun) (s : State) : State :=
  let st := r.status.getD 0
  showReplay ((((((s.wr R.HST_RP_LAST_ID r.req.id).wr R.HST_RP_BYTES (satN 32 r.bytes)).wr R.HST_RP_STAT_STATUS st).inc
    R.HST_RP_DONE).inc R.HST_RP_FAILED (b2n (decide (3 ≤ st)))).raiseIf (st == 5 || st == 11) 1191)

/-- The first of the ended requests sends what the class accepts, and the next follows when it is finished. -/
def rpDrain : Nat → State → State
  | 0, s => s
  | k + 1, s =>
    match s.replay.closing with
    | [] => s
    | r :: t =>
      if r.req.toMem then rpDrain k (rpClose r { s with replay := { s.replay with closing := t } })
      else
        let (r1, done, s1) := rpFrames (r.out.length + 2) r s
        if done then rpDrain k (rpClose r1 { s1 with replay := { s1.replay with closing := t } })
        else { s1 with replay := { s1.replay with closing := r1 :: t } }

/-- REPLAY frames are built as the REPLAY class accepts them (R324, R368). -/
def rpPump (s : State) : State :=
  let s1 := rpDrain 8 s
  match s1.replay.closing, s1.replay.run with
  | [], some r =>
    if r.req.toMem then s1
    else
      let (r1, _, s2) := rpFrames (r.out.length + 2) r s1
      setRun (some r1) s2
  | _, _ => s1

/-- The request in progress ends with STATUS `st` (R367, R369); after ABORTED and RESET unsent stream bytes are dropped. -/
def rpEnd (st : Nat) (s : State) : State :=
  match s.replay.run with
  | none => s
  | some r =>
    let r1 := { r with status := some st, out := if st = 6 ∨ st = 12 then [] else r.out }
    showReplay (rpPump { s with replay := { s.replay with run := none, closing := s.replay.closing ++ [r1] } })

/-- ABORT ends the request in progress, which may still have frames to send after its walk (R370, R384). -/
def rpAbort (s : State) : State :=
  match s.replay.closing with
  | r :: t => showReplay (rpPump { s with replay := { s.replay with closing := { r with status := some 6, out := [] } :: t } })
  | [] => rpEnd 6 s

/-- The run of a request that has not begun. -/
def RpReq.begin (q : RpReq) : RpRun := ⟨q, 0, false, false, false, [], 0, 0, none⟩

/-- The request in progress and every queued request end with `st` (R370, R461, R466). -/
def rpEndAll (st : Nat) (s : State) : State :=
  let s1 := rpEnd st s
  let ended := s1.replay.queue.map (fun q => { q.begin with status := some st })
  showReplay (rpPump { s1 with replay := { s1.replay with queue := [], closing := s1.replay.closing ++ ended } })

/-! ### The walk (R367) -/

/-- The bytes at `a` overlap the ring's in device memory. -/
def State.inRing (s : State) (a n : Nat) : Bool := decide (0 < n ∧ a < s.ringBase + s.ringSize ∧ s.ringBase < a + n)

/-- The refusal of a request before selection (R367 to R369). -/
def State.rpRefusal (s : State) (q : RpReq) : Option Nat :=
  if s.rd R.HST_STAT_STATE ≤ 1 then some 10
  else if q.kinds = 0 ∨ (q.mode = 0 ∧ q.stop ≤ q.start) ∨ (q.mode = 1 ∧ 4160 ≤ q.mark) then some 9
  else if q.toMem ∧ (q.dest % 64 ≠ 0 ∨ q.dlen % 64 ≠ 0 ∨ s.memCls q.dest q.dlen ≠ some .dram) then some 9
  else if q.toMem ∧ s.inRing q.dest q.dlen then some 7
  else if q.mode = 0 then none
  else if (s.mark q.mark).state ≤ 1 then some 4
  else if (s.mark q.mark).state = 3 then some 3
  else none

/-- The engine may take the next request of mode `m` (R366): none is in progress, and the pipeline's clocks run. -/
def State.rpNext (s : State) (m : Nat) : Option RpReq :=
  match s.replay.run, s.replay.closing, s.replay.queue with
  | none, [], q :: _ => if q.mode = m ∧ !s.inP1 then some q else none
  | _, _, _ => none

/-- DRAM address of entry `i` of the time index (R358). -/
def State.indexAddr (s : State) (i : Nat) : Nat := s.ringBase + 16 * (i % max 1 (s.indexSize / 16))

/-- Entries `i` of the time index and down, `n` of them, are read until one is valid with WTIME at or before `t` (R358, R367): its POS, none
when there is none; the flag tells that a read was poisoned. The spec gives the search no order: from the latest entry (log 96). -/
def indexSearch (t : Nat) : Nat → Nat → State → Option Nat × Bool × State
  | 0, _, s => (none, false, s)
  | n + 1, i, s =>
    let (b, poison, s1) := dramRead 1 (s.indexAddr i) 16 .none s
    if poison then (none, true, s1)
    else if leAt b 0 8 ≤ t ∧ (s1.recAt (leAt b 8 8)).isSome then (some (leAt b 8 8), false, s1)
    else indexSearch t n (i - 1) s1

/-- The first request of the queue is taken with state `r`, or ends at once. -/
def rpTake (q : RpReq) (r : RpRun) (s : State) : State :=
  let s1 := setRun (some r) { s with replay := { s.replay with queue := s.replay.queue.drop 1 } }
  if s.devFault then rpEnd 6 s1
  else match s.rpRefusal q with
    | some st => rpEnd st s1
    | none => showReplay s1

/-- A WINDOW request starts from the time index (R367). -/
def rpWindowStart (s : State) : State :=
  match s.rpNext 0 with
  | none => s
  | some q =>
    let s1 := rpTake q q.begin s
    if s1.replay.run.isNone then s1
    else
      let tail := s1.ringTail
      let (e, bad, s2) := indexSearch q.start (min s1.hst.nidx (s1.indexSize / 16)) (s1.hst.nidx - 1) s1
      if bad then rpEnd 11 s2
      else setRun (some { q.begin with pos := max (e.getD 0) tail, trimmed := (s2.recAt tail).any (fun r => decide (q.start < r.wtime)) }) s2

/-- A MARK request starts at the mark's record, which is sent without the filters (R367). -/
def rpMarkStart (s : State) : State :=
  match s.rpNext 1 with
  | none => s
  | some q =>
    let m := s.mark q.mark
    let q1 := { q with start := m.time, stop := m.time + q.len }
    rpTake q1 { q1.begin with pos := m.pos, force := true } s

/-- The final status of a walk that ends by itself. -/
def RpRun.final (r : RpRun) : Nat := if r.trimmed then 2 else if r.sent then 0 else 1

/-- END + LAG of the request in progress. -/
def State.rpStop (s : State) (r : RpRun) : Nat := r.req.stop + 1000000 * max 1 s.hst.lag

/-- The bytes of the record at `p` are a valid header with a correct PCRC (R355, R367). -/
def recValid (p : Nat) (b : List Byte) : Bool :=
  leAt b 0 4 == 0x48535452 && leAt b 4 1 == 1 && leAt b 124 4 == crc32c (b.take 124) && leAt b 24 8 == p &&
  leAt b 84 4 == crc32c (slice b 128 (leAt b 20 4))

/-- A selected record is sent: to the stream, or whole to memory (R368). -/
def rpSend (img : List Byte) (r : RpRun) (s : State) : Option (RpRun × State) :=
  if r.req.toMem then
    if r.req.dlen < r.bytes + img.length then none
    else some ({ r with bytes := r.bytes + img.length, sent := true }, (devWrite 1 (r.req.dest + r.bytes) img s).2)
  else some ({ r with out := r.out ++ img, sent := true }, s)

/-- The engine reads the record at its position, checks it, and sends it when it is selected (R367). -/
def rpRecord (r : RpRun) (x : HstRec) (err : MemErr) (s : State) : State :=
  let (img, poison, s1) := dramRead 1 (s.posAddr r.pos) x.len err s
  if poison || !recValid r.pos img then rpEnd 11 s1
  else
    let kind := leAt img 5 1
    let time := leAt img 40 8
    let pass := decide (r.req.start ≤ time ∧ time < r.req.stop) && (2 * r.req.kinds).testBit kind && r.req.groups.testBit (leAt img 6 1)
    let goOn (r : RpRun) (s : State) : State := rpPump (setRun (some { r with pos := r.pos + leAt img 88 8, force := false }) s)
    if !r.force && kind == 0x0F then goOn r s1
    else if !r.force && decide (s1.rpStop r ≤ leAt img 48 8) then rpEnd r.final (setRun (some r) s1)
    else if r.force || pass then
      match rpSend img r s1 with
      | none => rpEnd 8 s1
      | some (r1, s2) =>
        if r.force ∧ r.req.len = 0 then rpEnd 0 (setRun (some r1) s2) else goOn r1 s2
    else goOn r s1

/-- One pass of the loop of R367: at the head the engine waits, a record that is no longer intact ends the walk, and no record is
read while a full frame waits. -/
def rpRead (err : MemErr) (s : State) : State :=
  let s0 := rpPump s
  match s0.replay.run with
  | none => s0
  | some r =>
    if !r.req.toMem ∧ s0.rpChunk ≤ r.out.length then s0
    else if r.pos = s0.hst.head ∧ !r.force then
      if s0.rpStop r ≤ s0.now then rpEnd r.final s0 else s0
    else match s0.recAt r.pos with
      | none => rpEnd 2 s0
      | some x => rpRecord r x err s0

/-- Chalk time reaches END + LAG while the request follows the writer (R367). -/
def rpEndTime (s : State) : State :=
  match s.replay.run with
  | none => s
  | some r =>
    let s1 := s.atTime (s.rpStop r)
    if r.pos = s1.hst.head ∧ !r.force ∧ s1.rpStop r ≤ s1.now then rpEnd r.final s1 else s1

/-- An allocation has covered the record that the engine was about to read (R370). -/
def rpCovered (before s : State) : State :=
  match s.replay.run with
  | none => s
  | some r => if (before.recAt r.pos).isSome ∧ (s.recAt r.pos).isNone then rpEnd 5 s else s

/-- The ring is reset with its replays (R361, R370). -/
def ringReset (s : State) : State := rpEndAll 12 (ringClear s)

/-- The replay engine is taped off, or returns with an empty queue (R461). -/
def rpTape (s : State) : State := rpEndAll 6 { s with replay := { s.replay with taped := true } }
def rpReturn (s : State) : State := { s with replay := { s.replay with taped := false } }

end Sys2Proof.Machine
end

