-- ==== Sys2Proof/Machine/PipeBlocks.lean ====
section
/-! DEFINITION. Pipeline blocks of the Stipple engine return to their requesters (R249, R354, R403, R407). -/

namespace Sys2Proof.Machine

/-- The first pipeline block ends: its history item or its tile takes it (R249, R354, R407). -/
def pipeFinish (fail : Option Nat) (s : State) : State :=
  match pipeDone fail s with
  | none => s
  | some (b, r, s1) =>
    if b.hist then segReturn b.key r s1
    else match tileBlock b.key r s1 with
      | (some (t, img, ref), s2) => hstTap (s2.tileItem t img) (upTile t.group ref t.id img s2)
      | (none, s2) => s2

/-- Every pipeline block ends with ABORTED at entry to P1 Idle (R403). -/
def pipeAbort (s : State) : State := iter (pipeFinish (some 13)) s.stpPipe.length s

end Sys2Proof.Machine
end

