-- ==== Sys2Proof/Machine/Seam.lean ====
section
/-! DEFINITION. Seam row assembly (R202 to R220): opening rows, settling members, contributions, deadlines, composing and
emitting rows. -/

namespace Sys2Proof.Machine

/-- A row is ready when every member is settled (R212). -/
def SeamRow.check (r : SeamRow) : SeamRow :=
  if r.ready.isNone && r.members.all (·.cause.isSome) then { r with ready := some false } else r

/-- Member `i` of the row settles missing with cause `c`, unless it is settled (R211). -/
def SeamRow.settle (i c : Nat) (r : SeamRow) : SeamRow :=
  match r.members[i]? with
  | some m => if m.cause.isNone then { r with members := r.members.set i { m with cause := some c } }.check else r
  | none => r

/-- Member `i` of the row settles valid with line `l` (R210). -/
def SeamRow.accept (i : Nat) (l : LineOut) (r : SeamRow) : SeamRow :=
  { r with members := r.members.set i ⟨some 0, some l⟩, epoch := some (r.epoch.getD l.epoch) }.check

/-- At the deadline every unsettled member is missing with cause DEADLINE and the row is ready (R211, R212). -/
def SeamRow.expire (r : SeamRow) : SeamRow :=
  if r.ready.isSome then r
  else { r with ready := some true, members := mapIf (·.cause.isNone) (fun m => { m with cause := some 6 }) r.members }

/-- The row's deadline has come by `now`: it expires then, if it is not ready (R211, R214). -/
def SeamRow.due (now : Nat) (r : SeamRow) : SeamRow :=
  if r.ready.isNone && decide (r.deadline ≤ now) then { r.expire with readyAt := some r.deadline } else r

/-- The time at which the row became ready is kept (R325). -/
def SeamRow.stamp (now : Nat) (r : SeamRow) : SeamRow :=
  if r.ready.isSome && r.readyAt.isNone then { r with readyAt := some now } else r

/-- Applies `f` to the open row of trigger number `n` of group `g`. -/
def State.onRow (s : State) (g n : Nat) (f : SeamRow → SeamRow) : State :=
  let x := s.seam g
  s.setSeam g { x with rows := mapIf (·.n == n) (fun r => (f r).stamp s.now) x.rows }

/-- Member `i` of row `n`, not yet open, is known to be missing with cause `c`, or has line `l` in its slot. -/
def seamAhead (g n i c : Nat) (l : Option LineOut) (s : State) : State :=
  let x := s.seam g
  s.setSeam g { x with ahead := x.ahead ++ [(n, i, ⟨some c, l⟩)] }

/-- T(L − Y_m) of member `i` for row number `n` (R206, R211). -/
def State.sourceTime (s : State) (g n i : Nat) : Int := s.tgTime g ((n : Int) - s.rd (R.SEM_MEMB_MAP_Y g i))

/-- The rows not yet open whose line of member `i` has been exposed without a valid contribution so far. -/
def State.awaited (s : State) (g i : Nat) : List Nat :=
  let x := s.tg g
  let y := s.rd (R.SEM_MEMB_MAP_Y g i)
  ((List.range (y + 1)).map (x.next + ·)).filter (fun n =>
    s.tgEn g && s.triggered g ((n : Int) - y) && decide (s.sourceTime g n i ≤ s.now) &&
    !(s.seam g).ahead.any (fun a => a.1 == n && a.2.1 == i && a.2.2.line.isSome))

/-- The port or gang of port `n`'s channel is not in UP: its contributions that are not yet valid are missing, cause NOT_UP, in the open
rows that `p` selects and in the rows to come whose lines have been exposed (R211). -/
def seamNotUp (n : Nat) (p : State → Nat → SeamRow → Nat → Bool) (s : State) : State :=
  match s.groupOf n with
  | none => s
  | some g => match s.memberOf g (s.base n) with
    | none => s
    | some i =>
      let x := s.seam g
      let ns := s.awaited g i
      let lost := ns.map (fun n => (n, i, (⟨some 2, none⟩ : SeamMember)))
      let kept := x.ahead.filter (fun a => a.2.1 != i || !ns.contains a.1)
      s.setSeam g { x with rows := mapIf (p s g · i) (fun r => (SeamRow.settle i 2 r).stamp s.now) x.rows, ahead := kept ++ lost }

/-- The port or gang leaves UP or is taped off: every contribution that is not yet valid is missing (R211). -/
def seamPortDown (n : Nat) (s : State) : State := seamNotUp n (fun _ _ _ _ => true) s

/-- The port or gang enters UP: it was not in UP when the lines exposed so far were (R211). -/
def seamPortUp (n : Nat) (s : State) : State := seamNotUp n (fun t g r i => decide (t.sourceTime g r.n i ≤ t.now)) s

/-- Counts a late contribution of member `i` of group `g` (R213). -/
def seamLate (g i : Nat) (s : State) : State := (s.inc (R.SEM_MEMB_LATE g i)).inc (R.SEM_LATE g)

/-- Slot of row LINE `l` of member `i` (R209). -/
def State.slotOf (s : State) (g i l : Nat) : Nat := l % max 1 (s.rd (R.SEM_MEMB_PORT_SLOTS g i))

/-- A slot of member `i` that row LINE `l` would use still holds another unemitted row (R210). -/
def State.slotBusy (s : State) (g i n l : Nat) : Bool :=
  let x := s.seam g
  x.rows.any (fun r => r.n != n && s.slotOf g i r.line == s.slotOf g i l &&
    (r.members[i]?.any (·.line.isSome))) ||
  x.ahead.any (fun a => a.1 != n && a.2.1 == i && a.2.2.line.isSome && s.slotOf g i (s.tgLine g a.1) == s.slotOf g i l)

/-- Member `i` of row `n` takes a complete contribution (R210, R211, R213): valid, INVALID, or late. -/
def seamApply (g n i : Nat) (l : LineOut) (s : State) : State :=
  match (s.seam g).rows.find? (·.n == n) with
  | none => s
  | some r =>
    match r.members[i]? with
    | none => s
    | some m =>
      match m.cause with
      | some 6 => seamLate g i s
      | some _ => s
      | none =>
        if !l.valid then s.onRow g n (SeamRow.settle i 3)
        else if r.epoch.any (· != l.epoch) then (s.inc (R.SEM_EPOCH_ERR g)).onRow g n (SeamRow.settle i 3)
        else s.onRow g n (SeamRow.accept i l)

/-- Member `i` of group `g` is excluded in row `n` (R211). -/
def State.excluded (s : State) (g n i : Nat) : Bool := (s.liveAt g n (R.SEM_EXCLUDE_LIVE_MASK g)).testBit i

/-- A contribution of member `i` of row `n` is discarded because its slot is busy (R210, R211). -/
def seamEarly (g n i : Nat) (s : State) : State :=
  if (s.seam g).rows.any (·.n == n) then s.onRow g n (SeamRow.settle i 5) else seamAhead g n i 5 none s

/-- Rows of group `g` whose deadline has come expire before a contribution of this moment is judged (R214). -/
def seamDue (g : Nat) (s : State) : State := s.setSeam g { s.seam g with rows := (s.seam g).rows.map (SeamRow.due s.now) }

/-- Render delivers output line `l` for row number `n` of group `g`, member `i` (R210, R213, R214). A line whose row was triggered but
never opened, the group being taped off then, belongs to no row. -/
def seamContribute (g n i : Nat) (l : LineOut) (s0 : State) : State :=
  let s := seamDue g s0
  let x := s.seam g
  let isOpen := x.rows.any (·.n == n)
  if x.taped || s.excluded g n i then s
  else if n < x.emitted then seamLate g i s
  else if !isOpen && decide (n < (s.tg g).next) then s
  else if s.slotBusy g i n (s.tgLine g n) then
    seamEarly g n i (s.inc (R.SEM_EARLY g))
  else if isOpen then seamApply g n i l s
  else seamAhead g n i (if l.valid then 0 else 3) (if l.valid then some l else none) s

/-- How member `i` of a new row `n` starts (R211): EXCLUDED, NOT_UP (when T(L − Y_m) has passed), NO_SOURCE, or unsettled. -/
def State.openCause (s : State) (g n i : Nat) : Option Nat :=
  if s.excluded g n i then some 1
  else if !s.portUp (s.membPort g i) && decide (s.sourceTime g n i ≤ s.now) then some 2
  else if !s.triggered g ((n : Int) - s.rd (R.SEM_MEMB_MAP_Y g i)) then some 4
  else none

/-- How member `i` of a new row `n` starts when `a` is known of it: unsettled with a valid contribution in its slot, else the lower
cause (R211). -/
def State.startCause (s : State) (g n i : Nat) (a : Option SeamMember) : Option Nat :=
  match a with
  | none => s.openCause g n i
  | some m =>
    if m.line.isSome then if s.excluded g n i then some 1 else none
    else match s.openCause g n i, m.cause with
      | some c, some d => some (min c d)
      | c, d => c.or d

/-- Trigger number `n` of group `g` opens row n (R98, R205). `epoch` is the epoch that Skim puts in force for the row, if it
runs. -/
def seamOpen (g n : Nat) (epoch : Option Nat) (s : State) : State :=
  let x := s.seam g
  if x.taped || s.nmemb g == 0 then s
  else
    let mine := x.ahead.filter (·.1 == n)
    let ms := (List.range (s.nmemb g)).map (fun i =>
      (⟨s.startCause g n i ((mine.find? (·.2.1 == i)).map (·.2.2)), none⟩ : SeamMember))
    let r : SeamRow := { n := n, line := s.tgLine g n, time := (s.tgTime g n).toNat, deadline := (s.rowDeadline g n).toNat,
                         epoch := epoch, members := ms, ready := none, readyAt := none, first := x.first }
    let s1 := s.setSeam g { x with rows := x.rows ++ [r.check.stamp s.now], ahead := x.ahead.filter (·.1 != n), first := false }
    mine.foldl (fun t a => match a.2.2.line with
      | some l => seamApply g n a.2.1 l t
      | none => t) s1

/-- Member `i` of open row `r` after a commit that acts on it: EXCLUDED by its new EXCLUDE, or no longer (R211, R218). -/
def State.reExclude (s : State) (g : Nat) (r : SeamRow) (i : Nat) (m : SeamMember) : SeamMember :=
  if s.excluded g r.n i then ⟨some 1, none⟩
  else if m.cause = some 1 then ⟨s.openCause g r.n i, none⟩
  else m

/-- Open rows from `row` on take EXCLUDE of the accepted commit (R211, R218). -/
def seamExclude (g row : Nat) (s : State) : State :=
  s.setSeam g { s.seam g with rows := mapIf (fun r => decide (row ≤ r.n)) (fun r =>
    let ms := r.members.zipIdx.map (fun m => s.reExclude g r m.2 m.1)
    if ms = r.members then r else ({ r with members := ms, ready := none, readyAt := none }.check).stamp s.now) (s.seam g).rows }

/-- T(L − Y_m) of the next open row comes for member `i` of group `g`: missing with cause NOT_UP if its port or gang is not in UP
(R211). -/
def seamSource (g i : Nat) (s : State) : State :=
  let open' := (s.seam g).rows.filter (fun r => (r.members[i]?).any (·.cause.isNone))
  let s1 := match open'.find? (fun r => decide ((s.now : Int) ≤ s.sourceTime g r.n i)) with
    | some r => s.atTime (s.sourceTime g r.n i).toNat
    | none => s
  if s1.portUp (s1.membPort g i) then s1
  else (open'.filter (fun r => decide (s1.sourceTime g r.n i ≤ s1.now))).foldl (fun t r => t.onRow g r.n (SeamRow.settle i 2)) s1

/-- The earliest row of group `g` that is not ready reaches its deadline (R211). -/
def seamDeadline (g : Nat) (s : State) : State :=
  match (s.seam g).rows.find? (·.ready.isNone) with
  | none => s
  | some r => (s.atTime r.deadline).onRow g r.n SeamRow.expire

/-- The parameters of one member that composing a row needs (R202, R215). -/
structure MembGeom where
  first : Nat
  last  : Nat
  xoff  : Nat
  plane : Nat
  mode  : Nat
  fallback : Bool
  cut   : Nat
  deriving DecidableEq, Repr

/-- Geometry and overlap treatment of member `i` for row `n`. -/
def State.membGeom (s : State) (g n i : Nat) : MembGeom :=
  ⟨s.rd (R.SEM_MEMB_COLS_COL_FIRST g i), s.rd (R.SEM_MEMB_COLS_COL_LAST g i), s.rd (R.SEM_MEMB_MAP_XOFF g i),
   s.rd (R.SEM_MEMB_MAP_PLANE g i), s.liveAt g n (R.SEM_MEMB_OVL_LIVE_MODE g i),
   s.liveAt g n (R.SEM_MEMB_OVL_LIVE_FALLBACK g i) != 0, s.liveAt g n (R.SEM_MEMB_OVL_LIVE_CUT g i)⟩

/-- Member value at (column, plane): output pixel x = c − XOFF, output plane p − PLANE (R204). -/
def membValue (m : MembGeom) (l : Option LineOut) (c p : Nat) : Option Nat :=
  match l with
  | none => none
  | some l => if m.xoff ≤ c ∧ m.plane ≤ p then (l.px[c - m.xoff]?).bind (·[p - m.plane]?) else none

/-- The member covers (column, plane) with `nout` output planes. -/
def MembGeom.covers (m : MembGeom) (nout c p : Nat) : Bool :=
  decide (m.first ≤ c ∧ c ≤ m.last ∧ m.plane ≤ p ∧ p < m.plane + nout)

/-- Weight wR of R215 for column `k` of an overlap of `n` columns. -/
def crossWeight (k n : Nat) : Nat := (2 * k + 1) * 2 ^ 16 / (2 * n)

/-- The value of an overlap column (R215): `l` and `r` are the left and right members' values, `none` when missing. -/
def overlapValue (m : MembGeom) (a b c : Nat) (l r : Option Nat) : Option Nat :=
  let left := m.mode = 2 ∨ (m.mode = 1 ∧ c < clampN a (b + 1) m.cut)
  match m.mode with
  | 0 => match l, r with
    | some x, some y =>
      let wR := crossWeight (c - a) (b - a + 1)
      some (((2 ^ 16 - wR) * x + wR * y + 2 ^ 15) / 2 ^ 16)
    | some x, none => some x
    | none, y => y
  | _ =>
    let sel := if left then l else r
    let oth := if left then r else l
    match sel with
    | some x => some x
    | none => if m.fallback then oth else none

/-- One cell of a row: its value from the valid members that cover it, `none` for FILL (R215, R216). `ms` lists every member
with its output planes and its contribution. -/
def rowCell (ms : List (MembGeom × Nat × Option LineOut)) (c p : Nat) : Option Nat :=
  match ms.filter (fun m => m.1.covers m.2.1 c p) with
  | [m] => membValue m.1 m.2.2 c p
  | m1 :: m2 :: _ =>
    let (l, r) := if m2.1.first < m1.1.first then (m2, m1) else (m1, m2)
    overlapValue l.1 r.1.first (min l.1.last r.1.last) c (membValue l.1 l.2.2 c p) (membValue r.1 r.2.2 c p)
  | [] => none

/-- The columns of a row with their column-valid bits (R215 to R217). -/
def rowColumns (ms : List (MembGeom × Nat × Option LineOut)) (width nplanes fill : Nat) : List (List Nat × Bool) :=
  (List.range width).map (fun c =>
    let cells := (List.range nplanes).map (rowCell ms c)
    (cells.map (·.getD fill), cells.all (·.isSome)))

/-- A bit mask of the members for which `p` holds. -/
def memberMask (ms : List SeamMember) (p : SeamMember → Bool) : Nat :=
  (ms.zipIdx.filter (fun m => p m.1)).foldl (fun a m => a + 2 ^ m.2) 0

/-- MIN_VALID in force for row `n`: 33 to 63 act as 32 (R221). -/
def State.minValid (s : State) (g n : Nat) : Nat := min 32 (s.liveAt g n (R.SEM_CTRL_LIVE_MIN_VALID g))

/-- The attributes and pixels of ready row `r` (R212, R215 to R217); `load` is the group's LOAD (R243). -/
def State.rowData (s : State) (g : Nat) (r : SeamRow) (cseq load : Nat) : RowData :=
  let valid := memberMask r.members (·.cause == some 0)
  let expect := memberMask r.members (·.cause != some 1)
  let nvalid := (r.members.filter (·.cause == some 0)).length
  let w := s.rd (R.SEM_CFG_ROW_W_M1 g) + 1
  let np := s.rd (R.SEM_CFG_NPLANES_M1 g) + 1
  let ms := r.members.zipIdx.map (fun m =>
    (s.membGeom g r.n m.2, s.rd (R.RND_OUT_CFG_NOUT (s.membPort g m.2)), if m.1.cause = some 0 then m.1.line else none))
  let cols := rowColumns ms w np (s.liveAt g r.n (R.SEM_CTRL_LIVE_FILL g))
  { n := r.n, line := r.line, time := r.time, deadline := r.deadline,
    readyAt := r.readyAt.getD r.deadline, valid := valid, expect := expect,
    epoch := r.epoch.getD (s.seam g).lastEpoch, cseq := cseq,
    flags := b2n (valid != expect) + 2 * b2n (r.ready == some true) + 4 * b2n (decide (nvalid < s.minValid g r.n)) +
      8 * b2n r.first,
    width := w, nplanes := np, load := load, cols := cols.map (·.1), colValid := cols.map (·.2) }

/-- The member counters and causes of an emitted row (R211). -/
def seamMemberStats (g : Nat) (ms : List SeamMember) (s : State) : State :=
  ms.zipIdx.foldl (fun t m =>
    let c := m.1.cause.getD 6
    (t.wr (R.SEM_MEMB_PORT_LAST_CAUSE g m.2) c).when (c != 0 && c != 1) (·.inc (R.SEM_MEMB_MISS g m.2))) s

/-- The registers of the last emitted row (R225, R226). -/
def seamLastRegs (g : Nat) (d : RowData) (s : State) : State :=
  (((((s.wr (R.SEM_STAT_CSEQ g) d.cseq).wr (R.SEM_LAST_ROW g) d.line).wr (R.SEM_LAST_VALID g) d.valid).wr (R.SEM_LAST_FLAGS_FLAGS g) d.flags).wr
    (R.SEM_LAST_DL_LO g) d.deadline).wr (R.SEM_LAST_DL_HI g) (d.deadline / 2 ^ 32)

/-- The counters of an emitted row (R227). -/
def seamRowStats (g : Nat) (d : RowData) (s : State) : State :=
  (((s.inc (R.SEM_ROWS g)).inc (R.SEM_ROWS_PARTIAL g) (bits d.flags 0 0)).inc (R.SEM_ROWS_DEADLINE g) (bits d.flags 1 1)).inc
    (R.SEM_ROWS_STARVED g) (bits d.flags 2 2)

/-- A set takes effect at row `row` of group `g`: CSEQ increments and SEM_COMMIT_ROW shows L_c (R218, R298). -/
def seamCommitted (g row : Nat) (s : State) : State :=
  (s.setSeam g { s.seam g with cseq := ((s.seam g).cseq + 1) % 256 }).wr (R.SEM_COMMIT_ROW g) (s.tgLine g row)

/-- Seam takes row number `n`: at L_c the pending set takes effect, CSEQ increments and SEM_COMMIT_ROW shows L_c (R218). -/
def seamSwitch (g n : Nat) (s : State) : State :=
  match s.commit g with
  | some c =>
    if c.acts n ∧ c.stages.contains .seam then seamCommitted g c.row (s.switchStage g n .seam (fun f => f.blk == .sem)) else s
  | none => s

/-- The oldest row of group `g`, if it is ready, leaves Seam (R212, R217, R220): its data, and the state after it. -/
def seamEmit (g load : Nat) (s : State) : Option (RowData × State) :=
  match (s.seam g).rows with
  | [] => none
  | r :: rest =>
    if r.ready.isNone then none
    else
      let s0 := seamSwitch g r.n s
      let d := s0.rowData g r (s0.seam g).cseq load
      let x := s0.seam g
      let s1 := s0.setSeam g { x with rows := rest, lastEpoch := d.epoch, emitted := r.n + 1, out := x.out ++ [d] }
      let s2 := seamRowStats g d (seamLastRegs g d (seamMemberStats g r.members s1))
      let partial' := r.members.any (fun m => m.cause == some 3 || m.cause == some 5 || m.cause == some 6)
      some (d, (s2.raiseIf partial' (1248 + 2 * g)).raiseIf (d.flags.testBit 2) (1249 + 2 * g))

/-- Every open row is discarded (R461: the group is taped off; R219: the buffer is lost). -/
def seamClear (g : Nat) (s : State) : State := s.setSeam g { s.seam g with rows := [], ahead := [] }

end Sys2Proof.Machine
end

