-- ==== Sys2Proof/Machine/Tables.lean ====
section
/-! DEFINITION. Render's table banks (R138, R142, R145, R147 to R150): header, regions, entries of the native and the compat layout,
and bank validation. A bank is a sparse byte memory. -/

namespace Sys2Proof.Machine

/-- The shape that a bank is judged and read against (R148, R150). -/
structure Shape where
  bands : Nat
  inF   : Nat
  inC   : Nat
  outF  : Nat
  outC  : Nat
  nout  : Nat
  lb    : Nat
  deriving DecidableEq, Repr

/-- Little-endian field of `n` bytes at `off` of bank `m` (R147). -/
def bk (m : List Host.Cell) (off n : Nat) : Nat := leNat (memRead m off n)

/-! ### Header fields (R147) -/

def tCompat (m : List Host.Cell) : Bool := bk m 3 1 == 1
def tEpoch (m : List Host.Cell) : Nat := bk m 4 4
def tShare (m : List Host.Cell) : Nat := bk m 8 1
def tPshD (m : List Host.Cell) : Nat := bits (tShare m) 1 0
def tBshD (m : List Host.Cell) : Nat := bits (tShare m) 2 2
def tPshG (m : List Host.Cell) : Nat := bits (tShare m) 5 4
def tBshG (m : List Host.Cell) : Nat := bits (tShare m) 6 6
def tDefects (m : List Host.Cell) : Nat := bk m 0xA 2
def tSegs (m : List Host.Cell) : Nat := bk m 0xC 2
def tDarkOff (m : List Host.Cell) : Nat := bk m 0x10 4
def tGainOff (m : List Host.Cell) : Nat := bk m 0x14 4
def tDefOff (m : List Host.Cell) : Nat := bk m 0x18 4
def tSegOff (m : List Host.Cell) : Nat := bk m 0x1C 4
def tMatOff (m : List Host.Cell) : Nat := bk m 0x20 4
def tObRef (m : List Host.Cell) (b : Nat) : Nat := bk m (0x40 + 2 * b) 2

/-- The bank with EPOCH `e` in its header (R172, R173). -/
def tSetEpoch (m : List Host.Cell) (e : Nat) : List Host.Cell := memWrite m 4 (leBytes 4 e)

/-! ### Dark and gain entries (R148, R149) -/

/-- The offset of the u16 dark entry of window pixel `p` and band `b`; `none` for an absent region. -/
def darkAddr (m : List Host.Cell) (sh : Shape) (p b : Nat) : Option Nat :=
  let psh := tPshD m
  if tDarkOff m = 0 then none
  else if tCompat m then some (tDarkOff m + 4 * (b * ceilDiv sh.inC (2 ^ psh) + p / 2 ^ psh))
  else some (tDarkOff m + 2 * (p / 2 ^ psh * ceilDiv sh.bands (2 ^ tBshD m) + b / 2 ^ tBshD m))

/-- The offset of the u2.14 gain entry of window pixel `p` and band `b`; `none` for an absent region. -/
def gainAddr (m : List Host.Cell) (sh : Shape) (p b : Nat) : Option Nat :=
  let psh := tPshG m
  if tCompat m then (darkAddr m sh p b).map (· + 2)
  else if tGainOff m = 0 then none
  else some (tGainOff m + 2 * (p / 2 ^ psh * ceilDiv sh.bands (2 ^ tBshG m) + b / 2 ^ tBshG m))

/-- The bank has a gain region (R167). -/
def tHasGain (m : List Host.Cell) : Bool := if tCompat m then tDarkOff m != 0 else tGainOff m != 0

/-- Number of gain entries (R173, R178). -/
def gainEntries (m : List Host.Cell) (sh : Shape) : Nat :=
  ceilDiv sh.inC (2 ^ tPshG m) * (if tCompat m then sh.bands else ceilDiv sh.bands (2 ^ tBshG m))

/-- The place and length of the gain region's bytes (R184): in the compat layout the shared region. -/
def gainRegion (m : List Host.Cell) (sh : Shape) : Nat × Nat :=
  if tCompat m then (tDarkOff m, 4 * gainEntries m sh) else (tGainOff m, 2 * gainEntries m sh)

/-- The offsets of the gain entries, in table order. -/
def gainOffsets (m : List Host.Cell) (sh : Shape) : List Nat :=
  if tHasGain m then
    (List.range (gainEntries m sh)).map (fun i => if tCompat m then tDarkOff m + 4 * i + 2 else tGainOff m + 2 * i)
  else []

/-- Bank `dst` with the gain entries of bank `src`. -/
def copyGains (src dst : List Host.Cell) (sh : Shape) : List Host.Cell :=
  (gainOffsets dst sh).foldl (fun m a => memWrite m a (memRead src a 2)) dst

/-! ### Defects (R138) -/

/-- An entry of the defect list. -/
structure Defect where
  method : Nat
  alt    : Nat
  allb   : Bool
  band   : Nat
  pixel  : Nat
  rsv    : Nat
  deriving DecidableEq, Repr

/-- Entry `i` of the defect list. -/
def tDefect (m : List Host.Cell) (i : Nat) : Defect :=
  let w := bk m (tDefOff m + 4 * i) 4
  ⟨bits w 31 30, bits w 29 26, w.testBit 25, bits w 23 20, bits w 13 0, bits w 24 24 + bits w 19 14⟩

/-- The defect list; empty where its region is absent. -/
def tDefectList (m : List Host.Cell) : List Defect :=
  if tDefOff m = 0 then [] else (List.range (tDefects m)).map (tDefect m)

/-- The entry applies to band `b`. -/
def Defect.hits (d : Defect) (b : Nat) : Bool := d.allb || d.band == b

/-- Sort key of the defect list. -/
def Defect.key (d : Defect) : Nat := d.pixel * 16 + d.band

/-- The field rules of one entry (R138). -/
def Defect.ok (sh : Shape) (d : Defect) : Bool :=
  d.rsv == 0 && (!d.allb || d.band == 0) && decide (d.allb = true ∨ d.band < sh.bands) &&
  (if d.method = 3 then !d.allb && decide (d.alt < sh.bands) && d.alt != d.band else d.alt == 0) &&
  decide (sh.inF ≤ d.pixel ∧ d.pixel < sh.inF + sh.inC)

/-- The order rules: keys strictly ascending, no other entry for a pixel with an ALLB entry (R138). -/
def defectsOrdered : List Defect → Bool
  | a :: b :: t => decide (a.key < b.key) && !(a.allb && a.pixel == b.pixel) && defectsOrdered (b :: t)
  | _ => true

/-! ### Segments (R142, R148) -/

/-- A segment: XS and its coefficients. -/
structure Segment where
  xs : Nat
  c0 : Nat
  c1 : Int
  c2 : Int
  c3 : Int
  deriving DecidableEq, Repr

/-- Segment `s`. -/
def tSegment (m : List Host.Cell) (s : Nat) : Segment :=
  let a := tSegOff m + 16 * s
  ⟨bk m a 2, bk m (a + 2) 3, toSigned 24 (bk m (a + 5) 3), toSigned 24 (bk m (a + 8) 3), toSigned 24 (bk m (a + 11) 3)⟩

/-- The segments; empty where their region is absent. -/
def tSegments (m : List Host.Cell) : List Segment :=
  if tSegOff m = 0 then [] else (List.range (tSegs m)).map (tSegment m)

/-- Rising numbers. -/
def rising : List Nat → Bool
  | a :: b :: t => decide (a < b) && rising (b :: t)
  | _ => true

/-! ### Matrix (R145, R148) -/

def tNin (m : List Host.Cell) : Nat := bk m (tMatOff m) 1
def tNoutM (m : List Host.Cell) : Nat := bk m (tMatOff m + 1) 1
def tSel (m : List Host.Cell) (i : Nat) : Nat := bits (bk m (tMatOff m + 2 + i) 1) 3 0
def tCoef (m : List Host.Cell) (o i : Nat) : Int := toSigned 16 (bk m (tMatOff m + 16 + 2 * (8 * o + i)) 2)
def tOffs (m : List Host.Cell) (o : Nat) : Int := toSigned 32 (bk m (tMatOff m + 144 + 4 * o) 4)

/-! ### Validation (R150) -/

/-- The present regions with their sizes, from the header counts as they stand (R148 to R150). -/
def tRegions (m : List Host.Cell) (sh : Shape) : List (Nat × Nat) :=
  let dark := if tCompat m then 4 * sh.bands * ceilDiv sh.inC (2 ^ tPshD m)
    else 2 * ceilDiv sh.inC (2 ^ tPshD m) * ceilDiv sh.bands (2 ^ tBshD m)
  let gain := 2 * ceilDiv sh.inC (2 ^ tPshG m) * ceilDiv sh.bands (2 ^ tBshG m)
  [(tDarkOff m, dark), (tGainOff m, gain), (tDefOff m, 4 * tDefects m), (tSegOff m, 16 * tSegs m), (tMatOff m, 176)].filter
    (·.1 != 0)

/-- Two regions do not overlap. -/
def apart (a b : Nat × Nat) : Bool := decide (a.2 = 0 ∨ b.2 = 0 ∨ a.1 + a.2 ≤ b.1 ∨ b.1 + b.2 ≤ a.1)

/-- Every pair of the list lies apart. -/
def allApart : List (Nat × Nat) → Bool
  | [] => true
  | a :: t => t.all (apart a) && allApart t

def layoutOk (m : List Host.Cell) : Bool :=
  bits (bk m 8 1) 7 7 == 0 && bits (bk m 8 1) 3 3 == 0 && (bk m 3 1 == 0 ||
  bk m 3 1 == 1 && tPshG m == tPshD m && decide (tPshD m ≤ 1) && tBshD m == 0 && tBshG m == 0 && tGainOff m == 0 &&
    tMatOff m == 0)

def regionsOk (m : List Host.Cell) (sh : Shape) : Bool :=
  let r := tRegions m sh
  r.all (fun a => a.1 % 64 == 0 && decide (0x80 ≤ a.1 ∧ a.1 + a.2 ≤ sh.lb)) && allApart r

def defectsOk (m : List Host.Cell) (sh : Shape) : Bool :=
  tDefOff m == 0 || (decide (tDefects m ≤ if tCompat m then 256 else 1024) && (tDefectList m).all (Defect.ok sh) &&
    defectsOrdered (tDefectList m))

def segmentsOk (m : List Host.Cell) (sh : Shape) : Bool :=
  tSegOff m == 0 || (decide (1 ≤ tSegs m ∧ tSegs m ≤ if tCompat m then 64 else 256) &&
    (tSegments m).all (fun s => decide (s.xs < 2 ^ 14 ∧ s.xs < sh.outF + sh.outC)) && rising ((tSegments m).map (·.xs)) &&
    ((tSegments m).map (·.xs)).head? == some sh.outF &&
    (List.range (tSegs m)).all (fun i => bk m (tSegOff m + 16 * i + 14) 2 == 0))

def matrixOk (m : List Host.Cell) (sh : Shape) : Bool :=
  tMatOff m == 0 || (decide (1 ≤ tNin m ∧ tNin m ≤ 8 ∧ 1 ≤ tNoutM m ∧ tNoutM m ≤ 8) && tNoutM m == sh.nout &&
    (List.range (tNin m)).all (fun i => decide (tSel m i < sh.bands)) && bk m (tMatOff m + 10) 6 == 0)

/-- TBL_ERR of a bank: the first class with a broken rule (R150). -/
def bankError (m : List Host.Cell) (sh : Shape) : Nat :=
  if bk m 0 2 ≠ 0x4E52 ∨ bk m 2 1 ≠ 1 then 1
  else if !layoutOk m then 2
  else if !regionsOk m sh then 3
  else if !defectsOk m sh then 4
  else if !segmentsOk m sh then 5
  else if !matrixOk m sh then 6
  else 0

end Sys2Proof.Machine
end

