-- ==== Sys2Proof/Machine/Render.lean ====
section
/-! DEFINITION. Render (R130 to R155): the correction steps of a line, optical-black tracking, bank swaps and copy-back, and the
table windows. -/

namespace Sys2Proof.Machine

/-! ### Where a port's lines go -/

/-- The value in force for line number `m` (a trigger number) of port `n` of `_LIVE` field `f` (R92, R218). -/
def State.portLiveAt (s : State) (n m : Nat) (f : Fld) : Nat :=
  let b := s.base n
  match s.groupOf b with
  | none => s.rd f
  | some g => match s.memberOf g b with
    | none => s.rd f
    | some i => s.liveAt g (m + s.rd (R.SEM_MEMB_MAP_Y g i)) f

/-- The stream of port `n` that feeds its group's rows (R130, R202). -/
def State.feedStream (s : State) (n : Nat) : Option Nat :=
  match s.groupOf n with
  | none => none
  | some g => (s.memberOf g n).map (fun i => s.rd (R.SEM_MEMB_PORT_STREAM g i))

/-- The Lath shape of engine `e` (R148, R150). -/
def State.shape (s : State) (e : Nat) : Shape :=
  let b := s.base e
  ⟨s.rd (R.VSP_STREAM_BANDS b ((s.feedStream b).getD 0)), s.rd (R.RND_IN_WINDOW_FIRST e), s.rd (R.RND_IN_WINDOW_COUNT e),
   s.rd (R.RND_OUT_WINDOW_FIRST e), s.rd (R.RND_OUT_WINDOW_COUNT e), s.rd (R.RND_OUT_CFG_NOUT e),
   131072 - 512 * s.rd (R.RND_OUT_CFG_ALIGN_KIB e)⟩

/-! ### Banks (R147, R151 to R153) -/

/-- Physical bank `i`. -/
def Rnd.bank (r : Rnd) (i : Nat) : List Host.Cell := if i = 0 then r.bank0 else r.bank1

/-- Physical bank `i` replaced. -/
def Rnd.setBank (r : Rnd) (i : Nat) (m : List Host.Cell) : Rnd := if i = 0 then { r with bank0 := m } else { r with bank1 := m }

/-- RND_BANK_STAT.ACTIVE. -/
def State.active (s : State) (e : Nat) : Nat := s.rd (R.RND_BANK_STAT_ACTIVE e)

/-- The active bank of engine `e`. -/
def State.activeBank (s : State) (e : Nat) : List Host.Cell := (s.rnd e).bank (s.active e)

/-- The shadow bank of engine `e`. -/
def State.shadowBank (s : State) (e : Nat) : List Host.Cell := (s.rnd e).bank (1 - s.active e)

/-- The shadow bank of engine `e` replaced. -/
def setShadow (e : Nat) (m : List Host.Cell) (s : State) : State := s.setRnd e ((s.rnd e).setBank (1 - s.active e) m)

/-- The bank for a sample of output line `l` (R152). -/
def State.bankFor (s : State) (e : Nat) (l : Int) : List Host.Cell :=
  match (s.rnd e).swap with
  | some w => if (w.b : Int) ≤ l then (s.rnd e).bank w.bank else (s.rnd e).bank (1 - w.bank)
  | none => s.activeBank e

/-- A host swap or a Skim swap is under way on engine `e`: no write reaches the shadow half (R151). -/
def State.shadowLocked (s : State) (e : Nat) : Bool :=
  s.flag (R.RND_BANK_STAT_VALIDATING e) || s.flag (R.RND_BANK_STAT_ARMED e) || s.flag (R.RND_BANK_STAT_SCHEDULED e) ||
  s.flag (R.RND_BANK_STAT_COPYING e) || s.flag (R.RND_STAT_SKIM_OWNS e)

/-- A swap of engine `e` is scheduled at line number `b` (R151, R172): its shadow bank comes in force there. -/
def swapSchedule (e b : Nat) (skim : Bool) (s : State) : State :=
  let s1 := s.setRnd e { s.rnd e with swap := some ⟨b, 1 - s.active e, false, skim⟩, want := none }
  (s1.wr (R.RND_BANK_STAT_ARMED e) 0).wr (R.RND_BANK_STAT_SCHEDULED e) 1

/-- Copy-back starts (R153). -/
def copyBack (e : Nat) (s : State) : State := s.wr (R.RND_BANK_STAT_COPYING e) 1

/-- Line number `k` of engine `e` is past at the moment of line `m`: it is that line, or an earlier one whose trigger entry is not still
running (R152, R153). -/
def State.lineGone (s : State) (e k m : Nat) : Bool :=
  k == m || decide (k < m) && !(s.port (s.base e)).trigs.any (fun t => t.n == k && !t.expired)

/-- ACTIVE changes once line number B of engine `e` starts or its trigger entry expires (R152). -/
def swapReach (e m : Nat) (s : State) : State :=
  match (s.rnd e).swap with
  | some w =>
    if !w.moved && s.lineGone e w.b m then
      let s1 := (s.setRnd e { s.rnd e with swap := some { w with moved := true } }).wr (R.RND_BANK_STAT_ACTIVE e) w.bank
      s1.wr (R.RND_BANK_STAT_SWAPS e) (s1.rd (R.RND_BANK_STAT_SWAPS e) + 1)
    else s
  | none => s

/-- Line number `m` of engine `e` has been processed, or its trigger entry has expired (R152, R153). -/
def swapPassed (e m : Nat) (s : State) : State :=
  let s1 := swapReach e m (s.setRnd e { s.rnd e with passed := max (s.rnd e).passed (m + 1) })
  match (s1.rnd e).swap with
  | some w => if w.moved && (w.b + s1.maxDelay e == 0 || s1.lineGone e (w.b + s1.maxDelay e - 1) m) then copyBack e s1 else s1
  | none => s1

/-- Copy-back ends: the shadow bank equals the active one, and the shadow half becomes writable (R153). -/
def copyBackDone (e : Nat) (s : State) : State :=
  if s.flag (R.RND_BANK_STAT_COPYING e) then
    let s1 := setShadow e (s.activeBank e) s
    ((s1.setRnd e { s1.rnd e with swap := none }).wr (R.RND_BANK_STAT_COPYING e) 0).wr (R.RND_BANK_STAT_SCHEDULED e) 0
  else s

/-- A refused window or SWAP write (R163). -/
def bankWerr (e : Nat) (s : State) : State := s.wr (R.RND_BANK_STAT_WERR e) 1

/-- SWAP is written (R151). -/
def swapArm (e : Nat) (s : State) : State :=
  if s.shadowLocked e then bankWerr e s
  else (s.setRnd e { s.rnd e with cancel := false, want := none }).wr (R.RND_BANK_STAT_VALIDATING e) 1

/-- Validation of the shadow bank ends (R150, R151): under Skim, which may have started meanwhile, nothing is armed (R168). -/
def validationDone (e : Nat) (s : State) : State :=
  if s.flag (R.RND_BANK_STAT_VALIDATING e) then
    let err := bankError (s.shadowBank e) (s.shape e)
    let r := s.rnd e
    let s1 := ((s.wr (R.RND_BANK_STAT_VALIDATING e) 0).wr (R.RND_BANK_STAT_TBL_ERR e) err).setRnd e
      { r with cancel := false, want := none }
    if err ≠ 0 ∨ r.cancel ∨ s.flag (R.RND_STAT_SKIM_OWNS e) then s1
    else match r.want with
      | some b => if r.passed ≤ b then swapSchedule e b false s1 else s1.wr (R.RND_BANK_STAT_ARMED e) 1
      | none => s1.wr (R.RND_BANK_STAT_ARMED e) 1
  else s

/-- The swap under way on engine `e` is completed at once, ACTIVE and copy-back with it (R152, R153). -/
def swapForce (e : Nat) (s : State) : State :=
  match (s.rnd e).swap with
  | some w =>
    let s1 := if w.moved then s
      else (s.wr (R.RND_BANK_STAT_ACTIVE e) w.bank).wr (R.RND_BANK_STAT_SWAPS e) (s.rd (R.RND_BANK_STAT_SWAPS e) + 1)
    copyBackDone e (copyBack e s1)
  | none => s

/-- DISARM is written (R151). -/
def disarm (e : Nat) (s : State) : State :=
  if s.flag (R.RND_BANK_STAT_VALIDATING e) then s.setRnd e { s.rnd e with cancel := true }
  else s.wr (R.RND_BANK_STAT_ARMED e) 0

/-- A commit of the port's group is accepted with boundary line number `b` (R151). -/
def swapCommit (e b : Nat) (s : State) : State :=
  if s.flag (R.RND_BANK_STAT_ARMED e) then swapSchedule e b false s
  else if s.flag (R.RND_BANK_STAT_VALIDATING e) && !(s.rnd e).cancel then s.setRnd e { s.rnd e with want := some b }
  else s

/-- Both banks take the tables `m`; armed and scheduled swaps are cleared (R155). -/
def loadBanks (e : Nat) (m : List Host.Cell) (s : State) : State :=
  let r := { s.rnd e with bank0 := m, bank1 := m, lath := m, swap := none, cancel := false, want := none }
  ((((s.setRnd e r).wr (R.RND_BANK_STAT_VALIDATING e) 0).wr (R.RND_BANK_STAT_ARMED e) 0).wr
    (R.RND_BANK_STAT_SCHEDULED e) 0).wr (R.RND_BANK_STAT_COPYING e) 0

/-! ### Table windows (R154) -/

/-- A byte of the table window of engine `e`; at or above Lb it reads 0. -/
def State.tableByte (s : State) (e off : Nat) : Byte :=
  let a := off % 0x20000
  if (s.shape e).lb ≤ a then 0
  else Tab.get 0 (if off / 0x20000 % 2 = 0 then s.shadowBank e else s.activeBank e) a

/-- A 32-bit read of the table window. -/
def State.tableRead (s : State) (e off : Nat) : Nat := leNat ((List.range 4).map (fun i => s.tableByte e (off / 4 * 4 + i)))

/-- A 32-bit write into the table window. -/
def tableWrite (e off v : Nat) (s : State) : State :=
  let a := off / 4 * 4
  if 0x20000 ≤ a ∨ s.shadowLocked e then bankWerr e s
  else if (s.shape e).lb ≤ a then s
  else setShadow e (memWrite (s.shadowBank e) a (leBytes 4 v)) s

/-! ### Steps 1 to 5 (R133 to R139) -/

/-- Step 1: sample `k` of a payload of `b`-bit samples, left-justified (R87, R133). -/
def unpack (payload : List Byte) (b k : Nat) : Nat :=
  beNat payload / 2 ^ (8 * payload.length - b * (k + 1)) % 2 ^ b * 2 ^ (16 - b)

/-- One sample of a raw line: input pixel `p`, band `b`. -/
def RawLine.sample (l : RawLine) (p b : Nat) : Nat := unpack l.payload (8 + 2 * l.format) (p * l.bands + b)

/-- The packet has brought the sample of input pixel `p`, band `b`. -/
def RawLine.has (l : RawLine) (p b : Nat) : Bool :=
  decide ((p * l.bands + b + 1) * (8 + 2 * l.format) ≤ 8 * l.payload.length)

/-- The payload has come whole (R87). -/
def RawLine.whole (l : RawLine) : Bool := decide (l.pixels * l.bands * (8 + 2 * l.format) ≤ 8 * l.payload.length)

/-- A value with how often a limit acted on it. -/
abbrev Lim := Nat × Nat

/-- Step 3 (R136): dark subtraction with entry `d` and offset `delta`. -/
def darkStep (d : Nat) (delta : Int) (x : Nat) : Lim :=
  let dk := (clampI 0 65535 ((d : Int) + delta)).toNat
  (x - dk, b2n (decide (x < dk)))

/-- Step 4 (R137): gain. -/
def gainStep (g y : Nat) : Lim :=
  let v := (y * g + 2 ^ 13) / 2 ^ 14
  (min 65535 v, b2n (decide (65535 < v)))

/-- Step 5 (R139): the replacement of window pixel `p` by an entry; `none` leaves the value. `v` are the band's values of step 4,
`alt` those of band ALT. -/
def defectValue (d : Defect) (v alt : List Nat) (p : Nat) : Option Nat :=
  let n := v.length
  let left := if p = 0 then none else v[p - 1]?
  let right := v[p + 1]?
  if d.method = 3 then alt[p]?
  else if n ≤ 1 then none
  else match d.method with
    | 0 => left.or right
    | 1 => right.or left
    | _ => match left, right with
      | some a, some b => some ((a + b + 1) / 2)
      | a, b => a.or b

/-- Step 5 on one band: the values and the number of replaced samples. -/
def defectStep (ds : List Defect) (inF b : Nat) (v : List (List Nat)) : List Nat × Nat :=
  let own := v.getD b []
  let r := own.zipIdx.map (fun x =>
    match ds.find? (fun d => d.hits b && d.pixel == inF + x.2) with
    | some d => match defectValue d own (v.getD d.alt []) x.2 with
      | some y => (y, 1)
      | none => (x.1, 0)
    | none => (x.1, 0))
  (r.map (·.1), (r.map (·.2)).sum)

/-! ### Optical-black tracking (R134, R135) -/

/-- The row-selected RND_CTRL and RND_OB_CFG fields of engine `e` for output line `l`. -/
def State.rndAt (s : State) (e : Nat) (l : Int) (f : Fld) : Nat := s.portLiveAt e l.toNat f

/-- m_b of R134 from the unpacked OB samples. -/
def obMean (n : Nat) (xs : List Nat) : Nat := if n = 0 then xs.sum else (xs.sum + 2 ^ (n - 1)) / 2 ^ n

/-- t_b after an update with m_b (R134). -/
def obStep (k t m : Nat) : Nat := ((t : Int) + floorDiv ((m : Int) * 2 ^ 8 - t) (2 ^ k)).toNat

/-- delta_b of R135. -/
def obDelta (t ref : Nat) : Int := ((t + 128) / 2 ^ 8 : Nat) - (ref : Int)

/-- Output line that band `b` of input line `m` goes to (R152). -/
def State.outLine (s : State) (e m b : Nat) : Int := (m : Int) - s.maxDelay e + s.bandDelay e b

/-- OB_EN of band `b` of line `m` on engine `e`; at its change from 0 to 1 t_b is set to OB_REF_b × 2^8 (R134). -/
def obEnable (e m b : Nat) (s : State) : State :=
  let l := s.outLine e m b
  let r := s.rnd e
  if s.rndAt e l (R.RND_CTRL_LIVE_OB_EN e) = 0 then s.setRnd e { r with obOn := putBit r.obOn b false }
  else if r.obOn.testBit b then s
  else (s.setRnd e { r with obOn := putBit r.obOn b true }).wr (R.RND_OB_TRACK_T e b) (tObRef (s.bankFor e l) b * 2 ^ 8)

/-- delta_b for band `b` of input line `m` on engine `e`, which tracks for its channel. -/
def State.obDeltaAt (s : State) (e m b : Nat) : Int :=
  let l := s.outLine e m b
  if s.rndAt e l (R.RND_CTRL_LIVE_OB_EN e) = 0 then 0
  else obDelta (s.rd (R.RND_OB_TRACK_T e b)) (tObRef (s.bankFor e l) b)

/-- The update of t_b from a line with a good verdict (R134). DESIGN CHOICE (log 93): OB_RANGE is judged with each such line while OB_EN
is 1, and otherwise keeps its value. -/
def obUpdate (e b : Nat) (l : RawLine) (s : State) : State :=
  let o := s.outLine e l.n b
  if s.rndAt e o (R.RND_CTRL_LIVE_OB_EN e) = 0 then s
  else
    let n := min 8 (s.rndAt e o (R.RND_OB_CFG_LIVE_LOG2N e))
    let first := s.rndAt e o (R.RND_OB_CFG_LIVE_OB_FIRST e)
    let sh := s.shape e
    let inside := decide (sh.inF ≤ first ∧ first + 2 ^ n ≤ sh.inF + sh.inC)
    let s1 := s.wr (R.RND_STAT_OB_RANGE e) (b2n !inside)
    if !inside then s1
    else
      let xs := (List.range (2 ^ n)).map (fun i => l.sample (first + i) b)
      if xs.contains 0xFFFF then s1.inc (R.RND_OB_SKIP e)
      else s1.wr (R.RND_OB_TRACK_T e b)
        (obStep (s1.rndAt e o (R.RND_CTRL_LIVE_OB_K e)) (s1.rd (R.RND_OB_TRACK_T e b)) (obMean n xs))

/-! ### One engine on one line -/

/-- Steps 3 and 4 of band `b` on engine `e`: per window pixel that has come the value, dark clips and gain clamps. -/
def State.darkGain (s : State) (e b : Nat) (delta : Int) (l : RawLine) : List (Nat × Nat × Nat) :=
  let o := s.outLine e l.n b
  let m := s.bankFor e o
  let sh := s.shape e
  let darkOn := s.rndAt e o (R.RND_CTRL_LIVE_DARK_EN e) != 0
  let gainOn := s.rndAt e o (R.RND_CTRL_LIVE_GAIN_EN e) != 0
  ((List.range sh.inC).takeWhile (fun p => l.has (sh.inF + p) b)).map (fun p =>
    let x := l.sample (sh.inF + p) b
    let y := match darkOn, darkAddr m sh p b with
      | true, some a => darkStep (bk m a 2) delta x
      | _, _ => (x, 0)
    let z := match gainOn, gainAddr m sh p b with
      | true, some a => gainStep (bk m a 2) y.1
      | _, _ => (y.1, 0)
    (z.1, y.2, z.2))

/-- Steps 1 to 5 of line `l` on engine `e`, with the offsets of its channel (R130, R132), whatever its verdict will be (R27). Of a
truncated line they take the samples that have come (DESIGN CHOICE, log 93). -/
def engineCorrect (e : Nat) (deltas : List Int) (l : RawLine) (s : State) : State :=
  let sh := s.shape e
  let v := (List.range sh.bands).map (fun b => s.darkGain e b (deltas.getD b 0) l)
  let v4 := v.map (fun x => x.map (·.1))
  let v5 := (List.range sh.bands).map (fun b =>
    let o := s.outLine e l.n b
    if s.rndAt e o (R.RND_CTRL_LIVE_DEFECT_EN e) = 0 then (v4.getD b [], 0)
    else defectStep (tDefectList (s.bankFor e o)) sh.inF b v4)
  let s1 := ((s.inc (R.RND_DARK_CLIP e) (v.map (fun x => (x.map (·.2.1)).sum)).sum).inc (R.RND_GAIN_SAT e)
    (v.map (fun x => (x.map (·.2.2)).sum)).sum).inc (R.RND_DEFECTS e) (v5.map (·.2)).sum
  let r := s1.rnd e
  s1.setRnd e { r with store := (r.store ++ [(⟨l.n, l.expo, l.good, l.whole, v5.map (·.1)⟩ : Corrected)]).filter (fun c => decide (l.n ≤ c.n + s.maxDelay e)) }

/-- Step 6 (R140): the aligned samples of output line `o` by band, and whether every line it draws from has a good verdict (R141);
`none` when such a line is missing or did not come whole. -/
def State.drawn (s : State) (e : Nat) (o : Int) : Option (Bool × List (List Nat)) :=
  let d := s.maxDelay e
  let lines := (List.range (s.shape e).bands).map (fun b =>
    ((s.rnd e).store.find? (fun c => (c.n : Int) == o + d - s.bandDelay e b && c.whole)).map (fun c => (c.good, c.bands.getD b [])))
  if lines.all (·.isSome) then
    let ls := lines.map (·.getD (false, []))
    some (ls.all (·.1), ls.map (·.2))
  else none

/-- The aligned samples of a valid output line `o` (R141). -/
def State.aligned (s : State) (e : Nat) (o : Int) : Option (List (List Nat)) :=
  match s.drawn e o with
  | some (true, v) => some v
  | _ => none

/-- EXPOSURE of output line `o`: that of input line `o` (R140). -/
def State.exposure (s : State) (e : Nat) (o : Int) : Nat :=
  (((s.rnd e).store.find? (fun c => (c.n : Int) == o)).map (·.expo)).getD 0

/-! ### Steps 7 to 9 (R142 to R146) -/

/-- u of R143. -/
def sourcePos (g : Segment) (x : Nat) : Nat :=
  let t : Int := (x : Int) - g.xs
  let a := (g.c0 : Int) * 2 ^ 42 + g.c1 * t * 2 ^ 32 + g.c2 * t ^ 2 * 2 ^ 16 + g.c3 * t ^ 3
  (clampI 0 (2 ^ 24 - 1) (floorDiv (a + 2 ^ 41) (2 ^ 42))).toNat

/-- The segment of output pixel `x`: the last one with XS ≤ x (R142). -/
def segmentOf (gs : List Segment) (x : Nat) : Option Segment := (gs.filter (fun g => decide (g.xs ≤ x))).getLast?

/-- The weights of phase `f` (R144). -/
def cubicWeights (f : Nat) : List Int :=
  let F : Int := f
  [-(F ^ 3) + 2 * F ^ 2 * 2 ^ 10 - F * 2 ^ 20, 3 * F ^ 3 - 5 * F ^ 2 * 2 ^ 10 + 2 ^ 31,
   -3 * F ^ 3 + 4 * F ^ 2 * 2 ^ 10 + F * 2 ^ 20, F ^ 3 - F ^ 2 * 2 ^ 10]

/-- A clamped value with 1 when the clamp acted (R144, R145). -/
def clampOut (v : Int) : Lim := ((clampI 0 65535 v).toNat, b2n (decide (v < 0 ∨ 65535 < v)))

/-- The remapped sample of a band at source position `u` (R144). -/
def remapSample (inF : Nat) (v : List Nat) (u : Nat) : Lim :=
  let i : Int := (u / 2 ^ 10 : Nat)
  let tap := fun (k : Int) => (v.getD ((clampI 0 ((v.length : Int) - 1) (i + k - inF)).toNat) 0 : Int)
  let acc := ((cubicWeights (u % 2 ^ 10)).zip [tap (-1), tap 0, tap 1, tap 2]).foldl (fun a w => a + w.1 * w.2) 0
  clampOut (floorDiv (acc + 2 ^ 30) (2 ^ 31))

/-- Step 7 for output pixel `x`: its bands, limits, and 1 when its position lies outside the window. -/
def remapPixel (gs : Option (List Segment)) (sh : Shape) (v : List (List Nat)) (x : Nat) : List Nat × Nat × Nat :=
  match gs.bind (fun g => segmentOf g x) with
  | some g =>
    let u := sourcePos g x
    let r := v.map (fun b => remapSample sh.inF b u)
    (r.map (·.1), (r.map (·.2)).sum, b2n (decide (u / 2 ^ 10 < sh.inF ∨ sh.inF + sh.inC ≤ u / 2 ^ 10)))
  | none => (v.map (fun b => if sh.inF ≤ x then b.getD (x - sh.inF) 0 else 0), 0, 0)

/-- Step 8 for one pixel (R145); `m` is the bank with its matrix region, if it applies. -/
def matrixPixel (m : Option (List Host.Cell)) (nout : Nat) (v : List Nat) : List Nat × Nat :=
  match m with
  | some m =>
    let r := (List.range nout).map (fun o =>
      let acc := (List.range (tNin m)).foldl (fun a i => a + tCoef m o i * (v.getD (tSel m i) 0 : Int)) (tOffs m o * 2 ^ 12)
      clampOut (floorDiv (acc + 2 ^ 11) (2 ^ 12)))
    (r.map (·.1), (r.map (·.2)).sum)
  | none => ((List.range nout).map (fun o => v.getD o 0), 0)

/-- Steps 7 to 9 of output line `o` on engine `e`: its pixels and the state with its counters (R142 to R146). -/
def engineOutput (e : Nat) (o : Int) (v : List (List Nat)) (s : State) : List (List Nat) × State :=
  let sh := s.shape e
  let m := s.bankFor e o
  let gs := if s.rndAt e o (R.RND_CTRL_LIVE_REMAP_EN e) ≠ 0 ∧ tSegOff m ≠ 0 then some (tSegments m) else none
  let mm := if s.rndAt e o (R.RND_CTRL_LIVE_MATRIX_EN e) ≠ 0 ∧ tMatOff m ≠ 0 then some m else none
  let px := (List.range sh.outC).map (fun x => remapPixel gs sh v (sh.outF + x))
  let out := px.map (fun p => matrixPixel mm sh.nout p.1)
  (out.map (·.1), (s.inc (R.RND_REMAP_OOR e) (px.map (·.2.2)).sum).inc (R.RND_OUT_SAT e)
    ((px.map (·.2.1)).sum + (out.map (·.2)).sum))

/-- The engine's registers in force switch at its first output line at or after L_c (R218). -/
def engineSwitch (e o : Nat) (s : State) : State :=
  let b := s.base e
  match s.groupOf b with
  | none => s
  | some g => match s.memberOf g b with
    | none => s
    | some i => s.switchStage g (o + s.rd (R.SEM_MEMB_MAP_Y g i)) (.render e) (fun f => f.blk == .rnd && f.key / 2 ^ 21 == e)

/-- The slices of output line `o`, engine after engine: whether every slice is valid, and their pixels (R132, R141). Steps 7 to 9 work
on an invalid line too when its samples are there (R27, R130). -/
def channelOutput (o : Int) : List Nat → State → (Bool × List (List Nat)) × State
  | [], s => ((true, []), s)
  | e :: t, s =>
    let s0 := engineSwitch e o.toNat s
    let (good, mine, s1) := match s0.drawn e o with
      | some (g, v) => let (px, s2) := engineOutput e o v s0; (g, px, s2)
      | none => (false, [], s0)
    let (rest, s3) := channelOutput o t ((s1.inc (R.RND_LINES_INVALID e) (b2n !good)).inc (R.RND_LINES_OUT e))
    ((good && rest.1, mine ++ rest.2), s3)

/-- Output line `o` of the channel of port `n` goes to Seam (R146, R205). -/
def deliverLine (n : Nat) (o : Int) (s : State) : State :=
  let (v, s1) := channelOutput o (s.chan n) s
  let out : LineOut := ⟨tEpoch (s.bankFor n o), s.exposure n o, v.1, v.2⟩
  match s1.groupOf n with
  | none => s1
  | some g => match s1.memberOf g n with
    | none => s1
    | some i =>
      let row := o + s1.rd (R.SEM_MEMB_MAP_Y g i)
      if row < 0 then s1 else seamContribute g row.toNat i out s1

/-- Render processes input line `l` of port `n` through every engine of its channel, and delivers the output line that it
completes (R130 to R146, R152, R153). Only a good verdict updates t_b (R134). -/
def renderLine (n : Nat) (l : RawLine) (s : State) : State :=
  let es := s.chan n
  let bands := List.range (s.shape n).bands
  let s1 := s.forAll es (fun e t => (swapReach e l.n t).inc (R.RND_LINES_IN e))
  let s2 := s1.forAll bands (fun b => obEnable n l.n b)
  let deltas := bands.map (fun b => s2.obDeltaAt n l.n b)
  let s3 := s2.forAll es (fun e => engineCorrect e deltas l)
  let s4 := s3.when l.good (fun t => t.forAll bands (fun b => obUpdate n b l))
  (deliverLine n ((l.n : Int) - s4.maxDelay n) s4).forAll es (fun e => swapPassed e l.n)

/-- The trigger entry of an input line of port `n` expires without that line: the output line that it would complete is invalid (R141),
though nothing of it reaches Seam. -/
def renderMissing (n : Nat) (s : State) : State := s.forAll (s.chan n) (fun e t => t.inc (R.RND_LINES_INVALID e))

/-- On entry to UP every t_b is OB_REF_b × 2^8, and alignment storage holds no line (R134, R141). -/
def renderPortUp (n : Nat) (s : State) : State :=
  let next := match s.groupOf n with
    | some g => (s.tg g).next
    | none => 0
  let s1 := s.forAll (s.chan n) (fun e t => t.setRnd e { t.rnd e with store := [] })
  s1.forAll (List.range 16) (fun b t => t.wr (R.RND_OB_TRACK_T n b) (tObRef (t.bankFor n next) b * 2 ^ 8))

end Sys2Proof.Machine
end

