-- ==== Sys2Proof/Machine/Skim.lean ====
section
/-! DEFINITION. Skim (R167 to R188): ownership, epochs and boundaries, held lines, the update arithmetic, freezing, head
replacement and notices. Rows and boundaries are trigger numbers. -/

namespace Sys2Proof.Machine

/-- The engines of member `i` of group `g`: a gang has one per lane (R132, R167). -/
def State.memberEngines (s : State) (g i : Nat) : List Nat := s.chan (s.membPort g i)

/-- Every member engine of group `g`. -/
def State.engines (s : State) (g : Nat) : List Nat := ((List.range (s.nmemb g)).map (s.memberEngines g)).flatten

/-- The group and member index that engine `e` serves. -/
def State.memberOfEngine (s : State) (e : Nat) : Option (Nat × Nat) :=
  match s.groupOf (s.base e) with
  | none => none
  | some g => (s.memberOf g (s.base e)).map (fun i => (g, i))

/-- y offset of the member that engine `e` serves. -/
def State.yOf (s : State) (e : Nat) : Nat :=
  match s.memberOfEngine e with
  | some (g, i) => s.rd (R.SEM_MEMB_MAP_Y g i)
  | none => 0

/-! ### Epochs and slices (R169, R170) -/

def State.epochLen (s : State) (g : Nat) : Nat := 2 ^ s.rd (R.SEM_SKIM_CFG_LOG2E g)

/-- R(k) of the epoch in force; `none` while Skim is not enabled. -/
def State.epochRow (s : State) (g : Nat) : Option Nat := (s.skimG g).r0.map (· + (s.skimG g).k * s.epochLen g)

/-- Lines of the learning window. -/
def State.windowLen (s : State) (g : Nat) : Nat := s.epochLen g - s.rd (R.SEM_SKIM_CFG_HOLDOFF g)

/-- c of R170: ceil(log2(BANDS)). -/
def bandLog (bands : Nat) : Nat := if bands ≤ 1 then 0 else Nat.log2 (bands - 1) + 1

def State.sliceWidth (s : State) (e : Nat) : Nat := 2 ^ (10 - bandLog (s.shape e).bands)
def State.sliceCount (s : State) (e : Nat) : Nat := ceilDiv (s.shape e).inC (s.sliceWidth e)

/-- Rows of one slice. -/
def State.sliceRows (s : State) (g e : Nat) : Nat := s.windowLen g / max 1 (s.sliceCount e)

/-- The slice learnt in row `row`; `none` outside the learning window. -/
def State.sliceAt (s : State) (g e row : Nat) : Option Nat :=
  match s.epochRow g with
  | some r =>
    let j := (row - r) / max 1 (s.sliceRows g e)
    if r ≤ row ∧ row < r + s.windowLen g ∧ j < s.sliceCount e then some j else none
  | none => none

/-- Window pixels of slice `j`. -/
def State.slicePixels (s : State) (e j : Nat) : List Nat :=
  let w := s.sliceWidth e
  (List.range w).map (j * w + ·) |>.filter (fun p => decide (p < (s.shape e).inC))

/-! ### Parameters and targets (R177, R182, R193 to R196) -/

/-- The parameters in force on engine `e` of group `g` for row number `n`. -/
def State.skimPar (s : State) (g e n : Nat) : SkimPar :=
  let sh := s.shape e
  let v := s.liveAt g n
  let strip := fun j => (v (R.RND_SKIM_REF_LIVE_FIRST e j), v (R.RND_SKIM_REF_LIVE_LEN_M1 e j) + 1)
  { k := clampN 4 16 (v (R.RND_SKIM_CTRL_LIVE_K e)), nmin := max 1 (v (R.RND_SKIM_CTRL_LIVE_NMIN e)),
    guard := v (R.RND_SKIM_CTRL_LIVE_GUARD e), tol := v (R.RND_SKIM_CTRL_LIVE_CONV_TOL e),
    ratio := v (R.RND_SKIM_RATIO_LIVE_REF_RATIO e),
    target := (List.range 16).map (fun b =>
      if b % 2 = 0 then v (R.RND_SKIM_TARGET_LIVE_T0 e (b / 2)) else v (R.RND_SKIM_TARGET_LIVE_T1 e (b / 2))),
    strips := ([0, 1].filter (fun j => v (R.RND_SKIM_REF_LIVE_EN e j) != 0 &&
      decide (sh.inF ≤ (strip j).1 ∧ (strip j).1 + (strip j).2 ≤ sh.inF + sh.inC))).map strip }

/-- Line-global pixel `p` lies in a reference strip. -/
def SkimPar.inStrip (q : SkimPar) (p : Nat) : Bool := q.strips.any (fun t => decide (t.1 ≤ p ∧ p < t.1 + t.2))

/-- The target of pixel `p` (line-global) and band `b` (R177). -/
def SkimPar.targetOf (q : SkimPar) (p b : Nat) : Nat :=
  let t := q.target.getD b 0
  if q.inStrip p then t * q.ratio / 2 ^ 14 else t

/-! ### Notices (R187) -/

/-- Posts a notice of group `g`. -/
def skimNotice (g kind cause port epoch : Nat) (s : State) : State :=
  hawkNote (s.flag (R.SEM_SKIM_CTRL_LIVE_NOTE_EN g)) (s.rd (R.SEM_SKIM_CTRL_LIVE_HQ g)) (s.rd (R.SEM_SKIM_CTRL_LIVE_PRIO g))
    [kind * 2 ^ 24 + cause * 2 ^ 16 + port * 2 ^ 8 + g, epoch] (R.SEM_SKIM_NOTE_DROP g) s

/-! ### Held lines (R174 to R177) -/

/-- The held line of engine `e` is discarded or resolved, and the buffer freed. -/
def skimRelease (e : Nat) (s : State) : State :=
  (s.setSkim e { s.skim e with hold := none }).wr (R.RND_SKIM_STAT_HELD e) 0

/-- Output line `o` of engine `e` leaves step 6 with samples `v` by band: it is held if the conditions of R174 are met; `free` when the
line started with the buffer free. A held line whose row was emitted without the member is discarded at once (R175). -/
def skimTap (e : Nat) (free : Bool) (o : Int) (v : List (List Nat)) (s : State) : State :=
  match s.memberOfEngine e with
  | none => s
  | some (g, _) =>
    let row := (o + s.yOf e).toNat
    let q := s.skim e
    if !free || q.hold.isSome || decide (o + s.yOf e < 0) || s.liveAt g row (R.RND_SKIM_CTRL_LIVE_EXCLUDE e) != 0 then s
    else match s.sliceAt g e row with
      | some j =>
        if j ≠ q.slice then s
        else
          let vals := ((s.slicePixels e j).map (fun p => (List.range (s.shape e).bands).map (fun b => (v.getD b []).getD p 0))).flatten
          let s1 := ((s.setSkim e { q with hold := some ⟨row, j, vals, none⟩, held := q.held + 1 }).wr (R.RND_SKIM_STAT_HELD e) 1).inc
            (R.RND_SKIM_LINES_HELD e)
          if row < (s.seam g).emitted then (skimRelease e s1).inc (R.RND_SKIM_MEMBER_MISS e) else s1
      | none => s

/-- Row `row` of group `g` is emitted with VALID mask `valid`: held lines of missing members are discarded (R175). -/
def skimRowEmitted (g row valid : Nat) (s : State) : State :=
  s.forAll (List.range (s.nmemb g)) (fun i t => t.forAll (t.memberEngines g i) (fun e u =>
    if (u.skim e).hold.any (·.row == row) && !valid.testBit i then (skimRelease e u).inc (R.RND_SKIM_MEMBER_MISS e) else u))

/-- Stencil has the background mask of row `row` of group `g` (R175). -/
def skimMask (g row : Nat) (mask : List Bool) (s : State) : State :=
  s.forAll (s.engines g) (fun e t =>
    let q := t.skim e
    t.setSkim e { q with hold := q.hold.map (fun h => if h.row = row then { h with mask := some mask } else h) })

/-- i(x) of output pixel `x` of engine `e` in row `row` (R143, R176). -/
def State.sourcePixel (s : State) (e row x : Nat) : Nat :=
  let m := s.bankFor e ((row : Int) - s.yOf e)
  if s.rndAt e ((row : Int) - s.yOf e) (R.RND_CTRL_LIVE_REMAP_EN e) = 0 ∨ tSegOff m = 0 then x
  else match segmentOf (tSegments m) x with
    | some g => sourcePos g x / 2 ^ 10
    | none => x

/-- Every column within ±`guard` of `c` is background (R176). -/
def maskClear (mask : List Bool) (guard c : Nat) : Bool :=
  (List.range (2 * guard + 1)).all (fun k => decide (guard ≤ c + k) && mask.getD (c + k - guard) false)

/-- Line-global pixel `p` is eligible in a held line (R176). -/
def State.skimEligible (s : State) (e : Nat) (h : SkimHold) (mask : List Bool) (p : Nat) : Bool :=
  let sh := s.shape e
  let xoff := match s.memberOfEngine e with
    | some (g, i) => s.rd (R.SEM_MEMB_MAP_XOFF g i)
    | none => 0
  let xs := ((List.range sh.outC).map (sh.outF + ·)).filter (fun x =>
    let i := s.sourcePixel e h.row x
    decide (p ≤ i + 2 ∧ i ≤ p + 1))
  !xs.isEmpty && xs.all (fun x => maskClear mask (s.skim e).par.guard (x + xoff))

/-- Entry index of a slice: (p − slice start) × 2^c + b (R188). -/
def State.skimIndex (s : State) (e p b : Nat) : Nat := p % s.sliceWidth e * 2 ^ bandLog (s.shape e).bands + b

/-- One used sample (R178). -/
def skimAdd (e ix v : Nat) (s : State) : State :=
  let q := s.skim e
  let (a, n) := q.sums.get (0, 0) ix
  if 65535 ≤ n then s else s.setSkim e { q with sums := q.sums.set (0, 0) ix (a + v, n + 1) }

/-- The held line of engine `e` is resolved with mask `mask` (R176, R177). -/
def skimResolve (e : Nat) (h : SkimHold) (mask : List Bool) (s : State) : State :=
  let sat := (h.vals.filter (· == 65535)).length
  if h.vals.length < 16 * sat then
    let s1 := skimRelease e s
    (s1.setSkim e { s1.skim e with saturated := (s1.skim e).saturated + 1 }).inc (R.RND_SKIM_SAT_DISCARD e)
  else
    let sh := s.shape e
    let ds := tDefectList (s.bankFor e ((h.row : Int) - s.yOf e))
    let px := s.slicePixels e h.slice
    let s1 := s.forAll (List.range px.length) (fun k t =>
      let p := px.getD k 0
      let g := sh.inF + p
      if (t.skim e).par.inStrip g || t.skimEligible e h mask g then
        t.forAll (List.range sh.bands) (fun b u =>
          let v := h.vals.getD (k * sh.bands + b) 0
          if v = 65535 ∨ ds.any (fun d => d.hits b && d.pixel == g) then u else skimAdd e (u.skimIndex e p b) v u)
      else t)
    (skimRelease e s1).inc (R.RND_SKIM_LINES_USED e)

/-- The background mask arrives at engine `e` (R175, R176): a line of another epoch is discarded. -/
def skimMaskArrival (e : Nat) (s : State) : State :=
  match (s.skim e).hold, s.memberOfEngine e with
  | some h, some (g, _) =>
    match h.mask with
    | some m => if s.sliceAt g e h.row = some h.slice then skimResolve e h m s else skimRelease e s
    | none => s
  | some _, none => skimRelease e s
  | none, _ => s

/-- No mask 1 ms after the held line left step 6 (R175). -/
def skimMaskTimeout (e : Nat) (s : State) : State :=
  if (s.skim e).hold.any (·.mask.isNone) then (skimRelease e s).inc (R.RND_SKIM_MASK_TMO e) else s

/-! ### Updates (R178) -/

/-- Gt of R178 from a gain entry `g`, totals `tot` and `n`, and target `tg`; `none` when no mean exists or it is 0. -/
def gainTarget (g tot n tg : Nat) : Option Nat :=
  let m := (tot + n / 2) / n
  if n = 0 ∨ m = 0 then none else some (min 65535 ((g * tg + m / 2) / m))

/-- Gnew of R178, and whether the clamp acted. -/
def gainMove (g gt n k clampShift : Nat) : Nat × Bool :=
  let d := floorDiv (((gt : Int) - g) * (min n (2 ^ k) : Nat) + (2 ^ (k - 1) : Nat)) (2 ^ k)
  let c : Int := (max 1 (g / 2 ^ clampShift) : Nat)
  ((clampI 1 65535 ((g : Int) + clampI (-c) c d)).toNat, decide (c < d ∨ d < -c))

/-- The pixel-bands of slice `j` that share the gain entry at offset `a`. -/
def State.sharing (s : State) (e j a : Nat) : List (Nat × Nat) :=
  let m := s.activeBank e
  let sh := s.shape e
  (((s.slicePixels e j).map (fun p => (List.range sh.bands).map (fun b => (p, b)))).flatten).filter
    (fun x => gainAddr m sh x.1 x.2 == some a)

/-- Updates the gain entry at offset `a` from slice `j` (R178). Where pixel-bands that share the entry have different targets, the
one used is a free value among them. -/
def skimUpdate (e j a : Nat) (s : State) : State :=
  let q := s.skim e
  let pbs := s.sharing e j a
  let sn := pbs.map (fun x => q.sums.get (0, 0) (s.skimIndex e x.1 x.2))
  let tgs := pbs.map (fun x => q.par.targetOf ((s.shape e).inF + x.1) x.2)
  let t0 := tgs.headD 0
  let (pick, s1) := if tgs.all (· == t0) then (0, s) else s.draw tgs.length
  let fast := s.rd (R.RND_SKIM_STAT_RELEARN_LEFT e) ≠ 0
  let g := bk (s.activeBank e) a 2
  let n := (sn.map (·.2)).sum
  match gainTarget g (sn.map (·.1)).sum n (tgs.getD pick t0) with
  | none => s1
  | some gt =>
    let diff := ((gt : Int) - g).natAbs
    let near := decide (diff ≤ q.par.tol)
    let skip := decide (n < q.par.nmin)
    let q1 := { q with updated := if (skip && !near) || q.updated.contains a then q.updated else q.updated ++ [a],
                       outTol := q.outTol + b2n !near }
    if skip then s1.setSkim e q1
    else
      let (v, cl) := gainMove g gt n (if fast then 6 else q.par.k) (if fast then 6 else 10)
      let s2 := s1.setSkim e { q1 with clamped := q.clamped || cl }
      ((setShadow e (memWrite (s2.shadowBank e) a (leBytes 2 v)) s2).inc (R.RND_SKIM_UPDATES e)).inc (R.RND_SKIM_CLAMPED e) (b2n cl)

/-- The rows of engine `e`'s slice end: every gain entry of the slice is updated, and the next slice starts (R178, R182). A held
line of the slice is resolved first. While a control core is halted the updates are not made (R512). -/
def skimSliceEnd (e : Nat) (s : State) : State :=
  let q := s.skim e
  match s.memberOfEngine e with
  | none => s
  | some (g, _) =>
    if s.halted ∨ (s.skimG g).r0.isNone ∨ s.sliceCount e ≤ q.slice ∨ q.hold.any (·.slice == q.slice) then s
    else
      let m := s.activeBank e
      let sh := s.shape e
      let as' := (gainOffsets m sh).filter (fun a => !(s.sharing e q.slice a).isEmpty)
      let s1 := if tHasGain m then s.forAll as' (fun a => skimUpdate e q.slice a) else s
      let row := (s.epochRow g).getD 0 + (q.slice + 1) * s.sliceRows g e
      s1.setSkim e { s1.skim e with slice := q.slice + 1, sums := [], par := s1.skimPar g e row }

/-! ### Start and end of Skim (R167, R168, R169) -/

/-- The member banks of group `g` as R168 wants them before Skim starts: no host swap, one EPOCH. -/
def State.skimCanStart (s : State) (g : Nat) : Bool :=
  let es := s.engines g
  es.all (fun e => !s.flag (R.RND_BANK_STAT_ARMED e) && !s.flag (R.RND_BANK_STAT_SCHEDULED e) &&
    !s.flag (R.RND_BANK_STAT_COPYING e)) &&
  es.all (fun e => tEpoch (s.activeBank e) == tEpoch (s.activeBank (es.headD 0)))

/-- FREEZE or EXCLUDE of engine `e` is 1 for row `n` of group `g` (R173). -/
def State.hostFreeze (s : State) (g e n : Nat) : Bool :=
  s.liveAt g n (R.RND_SKIM_CTRL_LIVE_FREEZE e) != 0 || s.liveAt g n (R.RND_SKIM_CTRL_LIVE_EXCLUDE e) != 0

/-- A new epoch starts on engine `e` of group `g` with row `n` (R169, R173, R182): the first slice, with fresh sums and causes. A head
replaced after S(k+1) freezes the epoch at whose end the gains of the Lath image come (R183; DESIGN CHOICE, log 94). -/
def skimEpochStart (g e n : Nat) (s : State) : State :=
  let q := s.skim e
  s.setSkim e { q with slice := 0, sums := [], par := s.skimPar g e n, updated := [], outTol := 0, clamped := false, held := 0,
                       saturated := 0, linkF := !s.portUp e, headF := q.relearn, cause := 0, hostF := s.hostFreeze g e n }

/-- The background level register of plane `p` (R192). -/
def bglReg (g p : Nat) : Fld := if p % 2 = 0 then R.SEM_SKIM_BGL_LO g (p / 2) else R.SEM_SKIM_BGL_HI g (p / 2)

/-- The background level of plane `p` for the next epoch (R179). -/
def State.nextBgl (s : State) (g p : Nat) : Option Nat :=
  let (a, n) := (s.skimG g).bg.get (0, 0) p
  if n < 4096 then none else some ((a + n / 2) / n)

/-- The background level of plane `p` in force for row `n` of group `g` (R179, R230). -/
def State.bglAt (s : State) (g n p : Nat) : Nat :=
  if n < (s.skimG g).bglRow then (s.skimG g).bglOld.getD p 0 else s.rd (bglReg g p)

/-- Background levels `v`, plane by plane, come in force from row `row`; `none` leaves a level (R179). -/
def skimLevels (g row : Nat) (v : Nat → Option Nat) (s : State) : State :=
  let old := (List.range 16).map (fun p => s.rd (bglReg g p))
  let s1 := s.forAll (List.range 16) (fun p t => match v p with
    | some x => t.wr (bglReg g p) x
    | none => t)
  s1.setSkimG g { s1.skimG g with bg := [], bglRow := row, bglOld := old }

/-- Skim starts on group `g` with R0 = trigger number `r0` (R167 to R169, R179): rows already open from R0 on carry its first epoch. -/
def skimStart (g r0 : Nat) (s : State) : State :=
  let es := s.engines g
  let e0 := tEpoch (s.activeBank (es.headD 0))
  let x := s.skimG g
  let s0 := skimLevels g r0 (x.bglLath[·]?) (s.setSkimG g { x with r0 := some r0, k := 0, due := false, startAt := none, stopAt := none })
  let s1 := s0.setSeam g { s0.seam g with rows := mapIf (fun r => decide (r0 ≤ r.n)) (fun r => { r with epoch := some e0 }) (s0.seam g).rows }
  let s2 := (((s1.wr (R.SEM_SKIM_STAT_RUNNING g) 1).wr (R.SEM_SKIM_STAT_SCHEDULED g) 0).wr (R.SEM_SKIM_EPOCH g) e0).wr
    (R.SEM_SKIM_NEXT_ROW g) (s1.tgLine g (r0 + s1.epochLen g : Nat))
  s2.forAll es (fun e t =>
    let t1 := skimEpochStart g e r0 (t.wr (R.RND_STAT_SKIM_OWNS e) 1)
    if tHasGain (t1.activeBank e) then t1.wr (R.RND_SKIM_STAT_STATE e) 1
    else (t1.wr (R.RND_SKIM_STAT_STATE e) 3).wr (R.RND_SKIM_STAT_CAUSE e) 7)

/-- Skim ends on group `g`: updates are discarded and, with `restore`, each shadow bank is restored by copy-back (R168, R182). -/
def skimEnd (g : Nat) (restore : Bool) (s : State) : State :=
  let s1 := s.setSkimG g { s.skimG g with r0 := none, stopAt := none, due := false, bg := [] }
  let s2 := (s1.wr (R.SEM_SKIM_STAT_RUNNING g) 0).wr (R.SEM_SKIM_STAT_SCHEDULED g) 0
  s2.forAll (s2.engines g) (fun e t =>
    let t1 := ((skimRelease e t).wr (R.RND_STAT_SKIM_OWNS e) 0).wr (R.RND_SKIM_STAT_STATE e) 0
    if restore then copyBack e t1 else t1)

/-- The row boundary of row `n` of group `g` has passed: a disabling commit acts, once no Skim swap is scheduled (R168). -/
def skimStop (g n : Nat) (s : State) : State :=
  match (s.skimG g).stopAt with
  | some m => if m ≤ n ∧ !s.flag (R.SEM_SKIM_STAT_SCHEDULED g) then skimEnd g true s else s
  | none => s

/-- EN of the set of group `g` is refused: it stays 0 (R168, R299). -/
def skimRefuse (g : Nat) (s : State) : State :=
  let en := R.SEM_SKIM_CTRL_LIVE_EN g
  let s1 := (s.setSkimG g { s.skimG g with startAt := none }).wr (R.SEM_SKIM_STAT_REFUSED g) 1
  match s1.commit g with
  | some c => (s1.setCommit g (some { c with vals := c.vals.map (fun v => if v.1 == en then (en, 0) else v) })).wr en 0
  | none => s1.wr en 0

/-- The row boundary of row `n` of group `g`: a disabling commit acts, or an enabling one, whose refusal is judged here, takes row `n` as
R0 (R168, R169). -/
def skimRowStart (g n : Nat) (s : State) : State :=
  let s1 := skimStop g n s
  match (s1.skimG g).startAt with
  | some m =>
    if m ≤ n ∧ (s1.skimG g).r0.isNone then if s1.skimCanStart g then skimStart g n s1 else skimRefuse g s1 else s1
  | none => s1

/-- The run of generator `g` starts with row `n`, Skim having been enabled since the last row: that row is R0 (R169). -/
def skimFirstRow (g old n : Nat) (s : State) : State :=
  if (s.skimG g).r0.any (old ≤ ·) then
    (s.setSkimG g { s.skimG g with r0 := some n, bglRow := n }).wr (R.SEM_SKIM_NEXT_ROW g) (s.tgLine g (n + s.epochLen g : Nat))
  else s

/-- Copy-back of engine `e` has ended: once every member's boundary swap is complete SCHEDULED clears, and a disabling commit that
waited for it acts (R168, R191). -/
def skimSwapDone (e : Nat) (s : State) : State :=
  match s.memberOfEngine e with
  | some (g, _) =>
    if s.flag (R.SEM_SKIM_STAT_SCHEDULED g) && (s.engines g).all (fun i => (s.rnd i).swap.isNone) then
      skimStop g ((s.tg g).next - 1) (s.wr (R.SEM_SKIM_STAT_SCHEDULED g) 0)
    else s
  | none => s

/-! ### The schedule instant and the boundary (R172, R173, R179, R180) -/

/-- The freeze cause of engine `e` at S(k+1); the lowest value of R173. -/
def State.freezeCause (s : State) (g e lastRow : Nat) : Nat :=
  let q := s.skim e
  let m := s.activeBank e
  let host := q.hostF || s.hostFreeze g e lastRow
  let head := q.headF || (s.flag (R.VSP_PORT_STAT_NEW_HEAD (s.base e)) &&
    (s.rd (R.RND_SKIM_CTRL_LIVE_NEWHEAD e) == 0 || s.rd (R.RND_SKIM_CTRL_LIVE_NEWHEAD e) == 3))
  if host then 1
  else if 4 * q.updated.length < gainEntries m (s.shape e) ∧ tHasGain m then 2
  else if q.held ≤ 2 * q.saturated ∧ 0 < q.held then 3
  else if q.linkF then 4
  else if head then 5
  else if q.slice < s.sliceCount e then 6
  else if !tHasGain m then 7
  else 0

/-- A member's swap is prepared and scheduled at S(k+1): the new bank has EPOCH `epoch`; a frozen member's gains are those in force,
or after a head replacement those of the Lath image (R172, R173, R183). -/
def skimScheduleEngine (g e next epoch : Nat) (s : State) : State :=
  let c := s.freezeCause g e (next - 1)
  let q := s.skim e
  let m := if q.relearn then copyGains (s.rnd e).lath (s.activeBank e) (s.shape e)
    else if c = 0 then s.shadowBank e else s.activeBank e
  let s1 := setShadow e (tSetEpoch m epoch) (s.setSkim e { q with cause := c, relearn := false, relearnt := q.relearn })
  swapSchedule e (next - s1.yOf e) true (s1.inc (R.SEM_SKIM_FROZEN_SWAPS g) (b2n (c != 0)))

/-- S(k+1) comes on group `g` (R172, R173): every member's swap is scheduled; one that an earlier boundary left under way, its port having
had no line since, is completed first. -/
def skimSchedule (g : Nat) (s : State) : State :=
  match s.epochRow g with
  | none => s
  | some r =>
    if (s.skimG g).due then s
    else
      let next := r + s.epochLen g
      let s1 := s.atTime (s.tgTime g ((next : Int) - 320)).toNat
      let epoch := (s1.rd (R.SEM_SKIM_EPOCH g) + 1) % 2 ^ 32
      let s2 := s1.forAll (s1.engines g) (fun e t => skimScheduleEngine g e next epoch (swapForce e t))
      (s2.setSkimG g { s2.skimG g with due := true }).wr (R.SEM_SKIM_STAT_SCHEDULED g) 1

/-- STATE after a boundary (R180, R183): `st` before, the closed epoch's cause, whether it converged, fast epochs left, EXCLUDE. -/
def skimNextState (st cause : Nat) (conv : Bool) (fast : Nat) (excl : Bool) : Nat :=
  if excl then 5
  else if cause ≠ 0 then 3
  else if 0 < fast then 4
  else if st = 1 ∧ conv then 2
  else if st = 2 ∧ conv then 2
  else 1

/-- Engine `e` of group `g` passes the boundary at row `row` into epoch `epoch` (R180, R183, R186, R187). -/
def skimBoundaryEngine (g e row epoch : Nat) (s : State) : State :=
  let q := s.skim e
  let st := s.rd (R.RND_SKIM_STAT_STATE e)
  let left := s.rd (R.RND_SKIM_STAT_RELEARN_LEFT e)
  let fast := if q.relearnt then 8 else left - 1
  let conv := !q.clamped && decide (q.outTol ≤ 16)
  let st' := skimNextState st q.cause conv fast (s.liveAt g row (R.RND_SKIM_CTRL_LIVE_EXCLUDE e) != 0)
  let frozen := q.cause != 0
  let s1 := ((s.wr (R.RND_SKIM_STAT_STATE e) st').wr (R.RND_SKIM_STAT_RELEARN_LEFT e) fast).inc (R.RND_SKIM_FROZEN e) (b2n frozen)
  let s2 := s1.when frozen (·.wr (R.RND_SKIM_STAT_CAUSE e) q.cause)
  let s3 := s2.when (frozen && !q.frozen) (skimNotice g 0x10 q.cause e epoch)
  let s4 := s3.when (st' == 2 && st != 2) (skimNotice g 0x13 0 e epoch)
  let s5 := s4.setSkim e { s4.skim e with relearnt := false, frozen := frozen, withheld := q.withheld && frozen }
  let down := !s5.portUp e
  skimEpochStart g e row (if down then (match (s5.rnd e).swap with
    | some w => if w.skim then swapPassed e (w.b + s5.maxDelay e) s5 else s5
    | none => s5) else s5)

/-- A port's NEW_HEAD has been set (R183). -/
def skimNewHead (n : Nat) (s : State) : State :=
  s.forAll (s.chan n) (fun e t => match t.memberOfEngine e with
    | some (g, _) =>
      let q := t.skim e
      let t1 := t.setSkim e { q with withheld := true }
      if (t1.skimG g).r0.isSome then
        let re := t1.rd (R.RND_SKIM_CTRL_LIVE_NEWHEAD e) = 1
        let t2 := t1.setSkim e { t1.skim e with headF := true, relearn := q.relearn || re }
        skimNotice g 0x12 0 e (t2.rd (R.SEM_SKIM_EPOCH g)) (t2.when re (·.wr (R.VSP_PORT_STAT_NEW_HEAD (t2.base e)) 0))
      else t1
    | none => t)

/-- NEW_HEAD of port `n` is set (R115, R183). -/
def newHead (n : Nat) (s : State) : State := skimNewHead n (s.wr (R.VSP_PORT_STAT_NEW_HEAD n) 1)

/-- A port or gang leaves UP or is taped off: its held line is discarded, and in the learning window its epoch is frozen (R173,
R182). -/
def skimPortDown (n : Nat) (s : State) : State :=
  s.forAll (s.chan n) (fun e t => match t.memberOfEngine e with
    | some (g, _) =>
      match t.epochRow g with
      | some r =>
        let inWin := decide (t.now < t.tgTime g (r + t.windowLen g : Nat))
        skimRelease e (t.setSkim e { t.skim e with linkF := (t.skim e).linkF || inWin })
      | none => t
    | none => t)

/-- On a port's first entry to UP its HEAD_ID is kept for the checkpoint's check (R185). -/
def skimPortUp (n : Nat) (s : State) : State :=
  s.forAll (s.chan n) (fun e t =>
    let q := t.skim e
    t.setSkim e { q with firstHead := some (q.firstHead.getD (t.rd (R.VSP_HEAD_ID_HEAD_ID (t.base e)))) })

/-! ### The Skim RAM window (R188) -/

/-- A byte of the Skim RAM of port `e`. -/
def State.skimByte (s : State) (e off : Nat) : Byte :=
  let q := s.skim e
  if off < 0x2000 then
    let (a, n) := q.sums.get (0, 0) (off / 8)
    (leBytes 4 a ++ leBytes 2 n ++ zeros 2).getD (off % 8) 0
  else if off < 0x2800 then
    let ix := off / 2 - 0x1000
    let c := 2 ^ bandLog (s.shape e).bands
    let v := match q.hold with
      | some h => if ix % c < (s.shape e).bands then h.vals.getD (ix / c * (s.shape e).bands + ix % c) 0 else 0
      | none => 0
    (leBytes 2 v).getD (off % 2) 0
  else 0

/-- A 32-bit read of the Skim window (R188). -/
def State.skimRead (s : State) (e off : Nat) : Nat := leNat ((List.range 4).map (fun i => s.skimByte e (off / 4 * 4 + i)))

end Sys2Proof.Machine
end

