-- ==== Sys2Proof/Machine/Ckpt.lean ====
section
/-! DEFINITION. Skim checkpoints in MRAM (R184 to R186), their restoration, and the epoch boundary that applies it (R169, R180). -/

namespace Sys2Proof.Machine

/-- MRAM address and size of checkpoint slot `i` (R184, R201). -/
def State.ckptSlot (s : State) (i : Nat) : Nat × Nat :=
  let size := 4096 * s.rd R.BOT_CKPT_AREA_SIZE / 2
  (65536 * s.rd R.BOT_CKPT_AREA_BASE + i * size, size)

/-- Bytes of slot `i`. -/
def State.ckptBytes (s : State) (i : Nat) : List Byte := let a := s.ckptSlot i; memRead s.mram a.1 a.2

/-- A slot is valid when MAGIC, VERSION and HCRC are correct (R185). -/
def ckptValid (b : List Byte) : Bool :=
  leAt b 0 4 == 0x534B4350 && leAt b 4 2 == 1 && decide (0x40 + leAt b 0xC 4 ≤ b.length) &&
  leAt b 0x3C 4 == crc32c (slice b 0 0x3C ++ slice b 0x40 (leAt b 0xC 4))

/-- Sequence order modulo 2^32. -/
def seqAfter (a b : Nat) : Bool := decide ((a + 2 ^ 32 - b) % 2 ^ 32 < 2 ^ 31) && a != b

/-- The valid slot with the higher SEQ (R185). -/
def State.ckptNewest (s : State) : Option Nat :=
  let a := s.ckptBytes 0
  let b := s.ckptBytes 1
  match ckptValid a, ckptValid b with
  | true, true => some (if seqAfter (leAt b 8 4) (leAt a 8 4) then 1 else 0)
  | true, false => some 0
  | false, true => some 1
  | false, false => none

/-- IMAGE_ID of the loaded image (R184). -/
def State.imageId (s : State) : List Byte := ((List.range 4).map (fun j => leBytes 4 (s.rd (R.GLB_IMAGE_ID j)))).flatten

/-- The port record of engine `e` (R184): header and gain data. -/
def State.ckptRecord (s : State) (e : Nat) : List Byte :=
  let m := s.activeBank e
  let r := gainRegion m (s.shape e)
  let d := memRead m r.1 r.2
  let h := [byte e, byte (bk m 3 1), byte (tShare m), 0] ++ leBytes 4 (s.rd (R.VSP_HEAD_ID_HEAD_ID (s.base e))) ++
    leBytes 4 (tEpoch m) ++ leBytes 4 r.2 ++ leBytes 4 (crc32c d) ++ zeros 12
  padTo (roundUp (32 + r.2) 64) (h ++ d)

/-- The selected ports of Skim-enabled groups whose records are written (R184, R186). -/
def State.ckptPorts (s : State) : List Nat :=
  (List.range 192).filter (fun e => (s.skim e).ckpt && !(s.skim e).withheld && tHasGain (s.activeBank e) &&
    (match s.memberOfEngine e with
      | some (g, _) => (s.skimG g).r0.isSome
      | none => false))

/-- A checkpoint starts; one already in progress sets MERGED (R184). -/
def ckptStart (s : State) : State :=
  if s.flag R.BOT_CKPT_STAT_BUSY then s.wr R.BOT_CKPT_STAT_MERGED 1
  else { s.wr R.BOT_CKPT_STAT_BUSY 1 with boot := { s.boot with ckptTime := s.now } }

/-- Gain entries of engine `e` that have drifted from the Lath image (R181). -/
def State.drifted (s : State) (e : Nat) : Nat :=
  let m := s.activeBank e
  let sh := 3 + s.rd (R.RND_SKIM_CTRL_LIVE_DRIFT e)
  ((gainOffsets m (s.shape e)).filter (fun a =>
    let g := bk m a 2
    let b := bk (s.rnd e).lath a 2
    decide (b < ((g : Int) - b).natAbs * 2 ^ sh))).length

/-- The drift check of one port (R181). -/
def ckptDrift (e : Nat) (s : State) : State :=
  if 16 < s.drifted e then
    let s1 := s.wr (R.RND_SKIM_STAT_DRIFT e) 1
    match s1.memberOfEngine e with
    | some (g, _) => skimNotice g 0x11 0 e (s1.rd (R.SEM_SKIM_EPOCH g)) s1
    | none => s1
  else s

/-- A checkpoint notice, to the queue of the lowest Skim-enabled group (R187). -/
def ckptNotice (kind cause seq : Nat) (s : State) : State :=
  match (List.range 24).find? (fun g => (s.skimG g).r0.isSome) with
  | some g => hawkNote (s.flag (R.SEM_SKIM_CTRL_LIVE_NOTE_EN g)) (s.rd (R.SEM_SKIM_CTRL_LIVE_HQ g))
      (s.rd (R.SEM_SKIM_CTRL_LIVE_PRIO g)) [kind * 2 ^ 24 + cause * 2 ^ 16 + 0xFFFF, seq] (R.SEM_SKIM_NOTE_DROP g) s
  | none => s

/-- The checkpoint in progress ends with RESULT `r` (R184, R200). -/
def ckptEnd (r seq : Nat) (s : State) : State :=
  ckptNotice (if r = 1 then 0x14 else 0x15) (if r = 1 then 0 else r) seq
    ((s.wr R.BOT_CKPT_STAT_BUSY 0).wr R.BOT_CKPT_STAT_RESULT r)

/-- The checkpoint ends: the records and then the slot header are written into the older slot; `fail` is a write error (R184). Not while a
control core is halted (R512). -/
def ckptComplete (fail : Bool) (s : State) : State :=
  if !s.flag R.BOT_CKPT_STAT_BUSY ∨ s.halted then s
  else
    let newest := s.ckptNewest
    let seq := ((newest.map (fun i => leAt (s.ckptBytes i) 8 4 + 1)).getD 1) % 2 ^ 32
    if s.rd R.BOT_CKPT_AREA_SIZE = 0 then ckptEnd 2 seq s
    else if fail then ckptEnd 3 seq (s.raise 1491)
    else
      let slot := (newest.map (1 - ·)).getD 0
      let ports := s.ckptPorts
      let recs := (ports.map s.ckptRecord).flatten
      let h := leBytes 4 0x534B4350 ++ leBytes 2 1 ++ leBytes 2 ports.length ++ leBytes 4 seq ++ leBytes 4 recs.length ++
        leBytes 8 s.boot.ckptTime ++ s.imageId ++ zeros 20
      let s1 := { s with mram := memWrite s.mram (s.ckptSlot slot).1 (h ++ leBytes 4 (crc32c (h ++ recs)) ++ recs) }
      let s2 := s1.forAll ports ckptDrift
      let s3 := ((s2.wr R.BOT_CKPT_STAT_SEQ seq).wr R.BOT_CKPT_STAT_SLOT slot).wr R.BOT_CKPT_TIME_LO s.boot.ckptTime
      ckptEnd 1 seq (s3.wr R.BOT_CKPT_TIME_HI (s.boot.ckptTime / 2 ^ 32))

/-- The records of a slot, one after another, at most `n`. -/
def ckptRecords : Nat → List Byte → List (List Byte)
  | 0, _ => []
  | n + 1, b => if b.length < 32 then [] else
      let len := roundUp (32 + leAt b 0xC 4) 64
      b.take len :: ckptRecords n (b.drop len)

/-- Record `r` fits engine `e`: PORT, LAYOUT, SHARE, GLEN and DCRC (R185). -/
def State.ckptFits (s : State) (e : Nat) (r : List Byte) : Bool :=
  let m := s.activeBank e
  let g := gainRegion m (s.shape e)
  leAt r 0 1 == e && leAt r 1 1 == bk m 3 1 && leAt r 2 1 == tShare m && leAt r 0xC 4 == g.2 &&
  leAt r 0x10 4 == crc32c (slice r 32 g.2)

/-- The new bank of the boundary of engine `e`. -/
def State.boundaryBank (s : State) (e : Nat) : Nat :=
  match (s.rnd e).swap with
  | some w => w.bank
  | none => s.active e

/-- The record of engine `e` is restored into its new bank, or refused (R185). -/
def ckptRestoreEngine (e : Nat) (recs : List (List Byte)) (s : State) : State :=
  match recs.find? (s.ckptFits e) with
  | none => s
  | some r =>
    if (s.skim e).firstHead = some (leAt r 4 4) then
      let i := s.boundaryBank e
      let m := (s.rnd e).bank i
      let src := memWrite [] (gainRegion m (s.shape e)).1 (slice r 32 (leAt r 0xC 4))
      (s.setRnd e ((s.rnd e).setBank i (copyGains src m (s.shape e)))).wr (R.RND_SKIM_STAT_RESTORED e) 1
    else s

/-- The ports of engines `es` whose record in `recs` has another HEAD_ID (R185). -/
def State.ckptNewHeads (s : State) (es : List Nat) (recs : List (List Byte)) : List Nat :=
  ((es.filter (fun e => match recs.find? (s.ckptFits e) with
    | some r => (s.skim e).firstHead != some (leAt r 4 4)
    | none => false)).map s.base).eraseDups

/-- The restoration at the first boundary after device start (R185). -/
def ckptRestore (g : Nat) (s : State) : State :=
  if (s.skimG g).started then s
  else
    let s1 := s.setSkimG g { s.skimG g with started := true }
    match s1.ckptNewest with
    | some i =>
      let b := s1.ckptBytes i
      if s1.flag R.BOT_CKPT_CTRL_RESTORE_EN && slice b 0x18 16 == s1.imageId then
        let recs := ckptRecords (leAt b 6 2) (slice b 0x40 (leAt b 0xC 4))
        (s1.forAll (s1.engines g) (fun e => ckptRestoreEngine e recs)).forAll (s1.ckptNewHeads (s1.engines g) recs) newHead
      else s1
    | none => s1

/-- Row R(k+1) of group `g`: epoch k + 1 is in force (R169, R179, R180, R185). -/
def skimBoundary (g : Nat) (s : State) : State :=
  match s.epochRow g with
  | none => s
  | some r =>
    if !(s.skimG g).due then s
    else
      let next := r + s.epochLen g
      let s1 := s.atTime (s.tgTime g next).toNat
      let epoch := (s1.rd (R.SEM_SKIM_EPOCH g) + 1) % 2 ^ 32
      let s2 := skimLevels g next (s1.nextBgl g) (s1.setSkimG g { s1.skimG g with k := (s1.skimG g).k + 1, due := false })
      let s3 := ((s2.wr (R.SEM_SKIM_EPOCH g) epoch).wr (R.SEM_SKIM_NEXT_ROW g)
        (s2.tgLine g (next + s2.epochLen g : Nat))).inc (R.SEM_SKIM_BOUNDARIES g)
      ckptRestore g (s3.forAll (s3.engines g) (fun e => skimBoundaryEngine g e next epoch))

end Sys2Proof.Machine
end

