-- ==== Sys2Proof/Machine/Journal.lean ====
section
/-! DEFINITION. The boot journal in MRAM (R487 to R489): decision-table copies, the ring of records, decisions and outcomes. -/

namespace Sys2Proof.Machine

/-- MRAM address of journal copy `c` (R487). -/
def jnlCopyAddr (c : Nat) : Nat := 0x1000 * c

/-- Records of the ring (R487). -/
def jnlRing : Nat := 7936

/-- The 1,056 bytes of journal copy `c`. -/
def State.jnlCopy (s : State) (c : Nat) : List Byte := memRead s.mram (jnlCopyAddr c) 1056

/-- A copy is valid when MAGIC and TCRC are correct (R487). -/
def jnlValid (b : List Byte) : Bool :=
  leAt b 0 4 == 0x4C4E524A && leAt b 0x1C 4 == crc32c (slice b 0 0x1C ++ slice b 0x20 1024)

/-- ENTRY_e of the copy in force (R487). -/
def State.jnlEntry (s : State) (e : Nat) : Nat := leNat (memRead s.mram (jnlCopyAddr s.boot.copy + 0x20 + 4 * e) 4)

/-- The 1,024 entry bytes of the copy in force. -/
def State.jnlEntries (s : State) : List Byte := memRead s.mram (jnlCopyAddr s.boot.copy + 0x20) 1024

/-- A copy's bytes (R487): header of the start in progress, then the entries. -/
def State.jnlBytes (s : State) (entries : List Byte) : List Byte :=
  let h := leBytes 4 0x4C4E524A ++ leBytes 4 (s.rd R.BOT_SEQ) ++ [byte s.boot.lastSlot, byte s.boot.lastStage] ++
    leBytes 2 (s.rd R.BOT_JNL_NEXT_N) ++ zeros 16
  h ++ leBytes 4 (crc32c (h ++ entries)) ++ entries

/-- The table is written into the older copy, which becomes the one in force (R488). -/
def jnlStore (entries : List Byte) (s : State) : State :=
  let c := 1 - s.boot.copy
  { s with mram := memWrite s.mram (jnlCopyAddr c) (s.jnlBytes entries), boot := { s.boot with copy := c } }

/-- A journal record (R488); `TIME` is 0 before the core PLL locks. -/
def State.jnlRecord (s : State) (step outcome unit attempt pset cause param : Nat) : List Byte :=
  let b := [byte step, byte outcome] ++ leBytes 2 unit ++ [byte attempt, byte pset, byte cause, byte s.stage] ++
    leBytes 4 (s.rd R.BOT_SEQ) ++ leBytes 4 param ++ leBytes 8 (if s.chalk.run then s.now else 0) ++
    leBytes 4 (satN 32 (s.boot.aon / 1000))
  b ++ leBytes 4 (crc32c b)

/-- Appends a record to the ring, then writes the table with entries `entries` (R488). -/
def jnlAppend (rec entries : List Byte) (s : State) : State :=
  let i := s.rd R.BOT_JNL_NEXT_N
  let s1 := { s with mram := memWrite s.mram (0x2000 + 32 * i) rec }
  jnlStore entries (s1.wr R.BOT_JNL_NEXT_N ((i + 1) % jnlRing))

/-- A record that changes no table entry. -/
def jnlInfo (step outcome unit cause param : Nat) (s : State) : State :=
  jnlAppend (s.jnlRecord step outcome unit 0 0 cause param) s.jnlEntries s

/-- The decision taken for entry `e` (R489): 0 PRIMARY, 1 ALTERNATE, 2 SKIP. -/
def State.decision (s : State) (e : Nat) : Nat := s.boot.decisions.get 0 e

/-- decide(e) of R489. -/
def jnlDecide (entry : Nat) : Nat :=
  if 2 ≤ bits entry 1 0 then 2 else if bits entry 1 0 = 1 ∨ bits entry 2 2 = 1 then 1 else 0

/-- outcome(e, decision, result) of R489 on an entry: outcomes 0 OK, 1 FAIL, 4 REFUSED change FAILS and ALT. -/
def jnlUpdate (entry decision outcome seq : Nat) : Nat :=
  let fails := bits entry 1 0
  let alt := bits entry 2 2
  let f := if outcome = 0 then 0 else if outcome = 1 ∨ outcome = 4 then min (fails + 1) 2 else fails
  let a := if outcome = 0 ∧ decision = 1 then 1 else alt
  f + 4 * a + outcome * 2 ^ 8 + seq % 2 ^ 16 * 2 ^ 16

/-- The entries with entry `e` updated by `outcome`. -/
def State.jnlUpdated (s : State) (e outcome : Nat) : List Byte :=
  let b := s.jnlEntries
  b.take (4 * e) ++ leBytes 4 (jnlUpdate (s.jnlEntry e) (s.decision e) outcome (s.rd R.BOT_SEQ)) ++ b.drop (4 * e + 4)

/-- A step outcome of a unit with table entry `e` (R483, R488, R489). `pset` is the parameter set in force for the unit. FAIL
and SKIPPED, and every attempt with the alternate set or decision (DEDUCED, log 48), raise E1488. -/
def jnlOutcome (step e unit outcome pset cause param : Nat) (s : State) : State :=
  let attempt := if outcome = 2 then 0 else bits (s.jnlEntry e) 1 0 + 1
  let s1 := jnlAppend (s.jnlRecord step outcome unit attempt pset cause param) (s.jnlUpdated e outcome) s
  s1.raiseIf (outcome == 1 || outcome == 2 || outcome == 4 || pset == 1 || s.decision e == 1) 1488

/-- Both copies are rewritten with `entries` (R492: FORGET changes the table in MRAM at once). -/
def jnlRewrite (entries : List Byte) (s : State) : State := jnlStore entries (jnlStore entries s)

/-- A table update without a record; both copies take it. -/
def jnlTableOnly (e outcome : Nat) (s : State) : State :=
  (jnlRewrite (s.jnlUpdated e outcome) s).raiseIf (outcome == 1 || s.decision e == 1) 1488

/-- A step outcome of the device as a whole, for a step without a table entry. -/
def jnlDevice (step outcome : Nat) (s : State) : State :=
  (jnlAppend (s.jnlRecord step outcome 0xFFFF 1 0 0 0) s.jnlEntries s).raiseIf (outcome == 1) 1488

end Sys2Proof.Machine
end

