-- ==== Sys2Proof/Machine/Fall.lean ====
section
/-! DEFINITION. The fall model of Plumb (R254, R257) in fixed point: real numbers are integers in units of 2^-96. Results carry an
error far below the last place of any record field; R258 lets a device differ by one such place. -/

namespace Sys2Proof.Machine

/-- One, in units of 2^-96. -/
def one96 : Int := 2 ^ 96

/-- Product of two fixed-point numbers. -/
def fmul (a b : Int) : Int := floorDiv (a * b) (2 ^ 96)

/-- Quotient of two fixed-point numbers; 0 for a divisor of 0 or below. -/
def fdiv (a b : Int) : Int := if b ≤ 0 then 0 else floorDiv (a * 2 ^ 96) b.toNat

/-- Taylor sum of e^-x for 0 ≤ x < 1: `k` further terms from term `i`, `t` being the term before. -/
def expTerms (x : Int) : Nat → Nat → Int → Int
  | 0, _, _ => 0
  | k + 1, i, t => let u := -(floorDiv (fmul t x) (i + 1)); u + expTerms x k (i + 1) u

/-- e^-x for x ≥ 0: (e^-(x/2^12))^(2^12). -/
def expNeg (x : Int) : Int :=
  let y := floorDiv x (2 ^ 12)
  iter (fun v => fmul v v) 12 (one96 + expTerms y 24 0 one96)

/-- 1 − e^-x, over x; 1 for x = 0. -/
def decay (x : Int) : Int := if x ≤ 0 then one96 else fdiv (one96 - expNeg x) x

/-- z(t) of R254 for gravity `g`, drag `k`, speed `v` (SI units in fixed point). With k = 0 the limit v t + g t² / 2. -/
def fallDist (g k v t : Int) : Int :=
  if k = 0 then fmul v t + floorDiv (fmul g (fmul t t)) 2
  else let q := fdiv g k; fmul q t + fmul (v - q) (fmul t (decay (fmul k t)))

/-- v(t) of R254. -/
def fallSpeed (g k v t : Int) : Int :=
  if k = 0 then v + fmul g t else let q := fdiv g k; q + fmul (v - q) (expNeg (fmul k t))

/-- The greatest t below `lo + 2^n` units, from `lo`, with z(t) ≤ `d`: bisection. -/
def bisect (g k v d : Int) : Nat → Int → Int
  | 0, lo => lo
  | n + 1, lo => let mid := lo + 2 ^ n; bisect g k v d n (if fallDist g k v mid ≤ d then mid else lo)

/-- The root of z(t) = d (R254, R255, R257), up to 2^12 s. -/
def fallRoot (g k v d : Int) : Int := if d ≤ 0 then 0 else bisect g k v d 108 0

/-- vU of R257 from the distance and time between the two sightings. -/
def upperSpeed (g k dh dt : Int) : Int :=
  if k = 0 then fdiv dh dt - floorDiv (fmul g dt) 2
  else let q := fdiv g k; q + fdiv (dh - fmul q dt) (fmul dt (decay (fmul k dt)))

/-- uL of R257 from the lateral distance between the two sightings. -/
def lateralSpeed (k dx dt : Int) : Int :=
  if k = 0 then fdiv dx dt else fdiv (fmul dx (expNeg (fmul k dt))) (fmul dt (decay (fmul k dt)))

/-- Lateral distance covered in time `t` from speed `u` (R254, R257). -/
def lateralDist (k u t : Int) : Int := fmul u (fmul t (decay (fmul k t)))

/-- A number of ns as seconds in fixed point. -/
def ofNs (n : Int) : Int := floorDiv (n * 2 ^ 96) 1000000000

/-- A number of µm as metres in fixed point. -/
def ofUm (n : Int) : Int := floorDiv (n * 2 ^ 96) 1000000

/-- The nearest integer to x × m. -/
def roundScaled (x : Int) (m : Nat) : Int := floorDiv (x * m + 2 ^ 95) (2 ^ 96)

end Sys2Proof.Machine
end

