-- ==== Sys2Proof/Machine/Stencil.lean ====
section
/-! DEFINITION. Stencil (R229 to R251): classification, morphology, labelling, objects and their records, and tiles. -/

namespace Sys2Proof.Machine

/-! ### Classification and morphology (R230 to R233) -/

/-- A pixel's value in plane `q`; a plane at or above NPLANES reads 0 (R263). -/
def planeVal (col : List Nat) (q : Nat) : Nat := col.getD q 0

/-- diff of R230. -/
def fgDiff (mode v bg : Nat) : Nat :=
  match mode with
  | 1 => bg - v
  | 2 => v - bg
  | _ => ((v : Int) - bg).natAbs

/-- Selections in force: (plane, mode, weight) for j < NSEL (R230). -/
def State.fgSel (s : State) (g : Nat) : List (Nat × Nat × Nat) :=
  [(s.rd (R.STN_FG_CTRL_LIVE_SEL0 g), s.rd (R.STN_FG_CTRL_LIVE_MODE0 g), s.rd (R.STN_FG_W01_LIVE_W0 g)),
   (s.rd (R.STN_FG_CTRL_LIVE_SEL1 g), s.rd (R.STN_FG_CTRL_LIVE_MODE1 g), s.rd (R.STN_FG_W01_LIVE_W1 g)),
   (s.rd (R.STN_FG_CTRL_LIVE_SEL2 g), s.rd (R.STN_FG_CTRL_LIVE_MODE2 g), s.rd (R.STN_FG_W23_LIVE_W2 g)),
   (s.rd (R.STN_FG_CTRL_LIVE_SEL3 g), s.rd (R.STN_FG_CTRL_LIVE_MODE3 g), s.rd (R.STN_FG_W23_LIVE_W3 g))].take
    (s.rd (R.STN_FG_CTRL_LIVE_NSEL_M1 g) + 1)

/-- D of R230 for one column. -/
def fgSum (sel : List (Nat × Nat × Nat)) (bg : Nat → Nat) (col : List Nat) : Nat :=
  (sel.map (fun j => j.2.2 * fgDiff j.2.1 (planeVal col j.1) (bg j.1))).sum

/-- The raw foreground bits of a row (R230, R250). -/
def State.rawMask (s : State) (g : Nat) (d : RowData) : List Bool :=
  let sel := s.fgSel g
  let thr := s.rd (R.STN_FG_THR_LIVE_THR g)
  (d.cols.zip d.colValid).map (fun c => c.2 && decide (thr < fgSum sel (s.bglAt g d.n) c.1 / 2 ^ 8))

/-- Mask bit at column `c`; columns outside the row are background. -/
def maskAt (m : List Bool) (c : Int) : Bool := if c < 0 then false else m.getD c.toNat false

/-- One operator on a row from its neighbours (R231). -/
def morphRow (dilate : Bool) (up mid dn : List Bool) (valid : List Bool) : List Bool :=
  valid.zipIdx.map (fun v =>
    let hood := [up, mid, dn].map (fun m => [maskAt m ((v.2 : Int) - 1), maskAt m v.2, maskAt m (v.2 + 1)])
    v.1 && (if dilate then hood.any (·.any id) else hood.all (·.all id)))

/-- One operator on a run of rows, from the row above the first; rows outside the run are background. -/
def morphRows (dilate : Bool) : List Bool → List (List Bool × List Bool) → List (List Bool × List Bool)
  | _, [] => []
  | up, (m, v) :: t => (morphRow dilate up m ((t.head?.map (·.1)).getD []) v, v) :: morphRows dilate m t

/-- The operators of MORPH in order: `true` dilates (R231). -/
def morphOps (morph : Nat) : List Bool :=
  match morph with
  | 1 => [false, true]
  | 2 => [true, false]
  | 3 => [false, true, true, false]
  | _ => []

/-- The final mask of row `i` of a run of rows. -/
def finalMask (morph : Nat) (rows : List RawRow) (i : Nat) : List Bool :=
  let m := (morphOps morph).foldl (fun r op => morphRows op [] r) (rows.map (fun r => (r.raw, r.d.colValid)))
  (m.getD i ([], [])).1

/-- The background mask of a row (R233). -/
def backMask (d : RowData) (mask : List Bool) : List Bool := (d.colValid.zip mask).map (fun c => c.1 && !c.2)

/-- The background sums of the learning window (R179, R233). -/
def bgAccumulate (g : Nat) (d : RowData) (back : List Bool) (s : State) : State :=
  match s.epochRow g with
  | none => s
  | some r =>
    if r ≤ d.n ∧ d.n < r + s.windowLen g then
      let x := s.skimG g
      let px := (d.cols.zip back).filter (·.2)
      let bg := (List.range d.nplanes).foldl (fun t q =>
        let (a, n) := Tab.get (0, 0) t q
        Tab.set (0, 0) t q (a + (px.map (fun c => planeVal c.1 q)).sum, n + px.length)) x.bg
      s.setSkimG g { x with bg := bg }
    else s

/-! ### Objects (R234 to R242) -/

/-- The settings in force for row number `n`, which an object that opens in that row latches (R236, R250). -/
def State.objCfg (s : State) (g n : Nat) : ObjCfg :=
  let v := s.liveAt g n
  { minArea := max 1 (v (R.STN_OBJ_CFG_LIVE_MIN_AREA g)), maxH := v (R.STN_OBJ_CFG_LIVE_MAX_H_M1 g) + 1,
    nfp := min 4 (v (R.STN_FEAT_LIVE_NFP g)),
    fps := [v (R.STN_FEAT_LIVE_FP0 g), v (R.STN_FEAT_LIVE_FP1 g), v (R.STN_FEAT_LIVE_FP2 g), v (R.STN_FEAT_LIVE_FP3 g)],
    hplane := v (R.STN_FEAT_LIVE_HPLANE g), hshift := v (R.STN_FEAT_LIVE_HSHIFT g), hlo := v (R.STN_HIST_LO_LIVE_HLO g),
    tileEn := v (R.STN_TILE_CTRL_LIVE_TILE_EN g) != 0, coded := v (R.STN_TILE_CTRL_LIVE_CODED g) != 0,
    margin := v (R.STN_TILE_CTRL_LIVE_MARGIN g), tileMin := v (R.STN_TILE_CTRL_LIVE_TILE_MIN_AREA g) }

/-- Histogram bin of a value (R242). -/
def histBin (cfg : ObjCfg) (v : Nat) : Nat := (clampI 0 15 (floorDiv ((v : Int) - cfg.hlo) (2 ^ cfg.hshift))).toNat

/-- The accumulators of one run of row `d` (R242). -/
def runAcc (cfg : ObjCfg) (d : RowData) (a b : Nat) : Acc8 :=
  let cs := (List.range (b + 1 - a)).map (fun k => d.cols.getD (a + k) [])
  let vals := fun q => cs.map (fun c => planeVal c q)
  { first := d.n, last := d.n, line1 := d.line, line2 := d.line, time1 := d.time, time2 := d.time, epoch := d.epoch,
    xMin := a, xMax := b, area := b + 1 - a, perim := 0, sx := (a + b) * (b + 1 - a) / 2, sn := d.n * (b + 1 - a),
    sums := (List.range 4).map (fun j => if j < cfg.nfp then
      let v := vals (cfg.fps.getD j 0); (v.sum, (v.map (· ^ 2)).sum) else (0, 0)),
    hist := (List.range 16).map (fun i => ((vals cfg.hplane).filter (fun v => histBin cfg v == i)).length),
    flags := b2n (a == 0) + 2 * b2n (b + 1 == d.width) + 256 * bits d.flags 0 0 }

/-- Two accumulators joined (R235). -/
def Acc8.join (p q : Acc8) : Acc8 :=
  let (f, l) := (if q.first < p.first then q else p, if p.last < q.last then q else p)
  { first := f.first, last := l.last, line1 := f.line1, line2 := l.line2, time1 := f.time1, time2 := l.time2, epoch := l.epoch,
    xMin := min p.xMin q.xMin, xMax := max p.xMax q.xMax, area := p.area + q.area, perim := p.perim + q.perim, sx := p.sx + q.sx,
    sn := p.sn + q.sn, sums := (p.sums.zip q.sums).map (fun x => (x.1.1 + x.2.1, x.1.2 + x.2.2)),
    hist := (p.hist.zip q.hist).map (fun x => x.1 + x.2), flags := p.flags ||| q.flags }

/-- Two optional accumulators joined. -/
def joinAcc : Option Acc8 → Option Acc8 → Option Acc8
  | some p, some q => some (p.join q)
  | p, q => p.or q

/-- All accumulators of an object. -/
def Obj.total (o : Obj) : Option Acc8 := joinAcc o.acc o.cur

/-- ROW_FIRST of an open object, as a trigger number. -/
def Obj.first (o : Obj) : Nat := (o.total.map (·.first)).getD 0

/-- X_MIN of an open object. -/
def Obj.xMin (o : Obj) : Nat := (o.total.map (·.xMin)).getD 0

/-- Order of survival (R235): lowest ROW_FIRST, then X_MIN, then label. -/
def Obj.beats (o p : Obj) : Bool :=
  decide (o.first < p.first) || (o.first == p.first && (decide (o.xMin < p.xMin) || (o.xMin == p.xMin && decide (o.label < p.label))))

/-- The surviving object of a list. -/
def survivor : List Obj → Option Obj
  | [] => none
  | o :: t => match survivor t with
    | none => some o
    | some p => if p.beats o then some p else some o

/-- Flag `f` set in the accumulators before the row in progress (or in that row, for an object that began there). -/
def Obj.mark (f : Nat) (o : Obj) : Obj :=
  match o.acc with
  | some a => { o with acc := some { a with flags := a.flags ||| f } }
  | none => { o with cur := o.cur.map (fun a => { a with flags := a.flags ||| f }) }

/-- The maximal runs of foreground columns of a mask (R234). -/
def runsOf : List Bool → Nat → Option Nat → List (Nat × Nat)
  | [], c, some a => [(a, c - 1)]
  | [], _, none => []
  | true :: t, c, st => runsOf t (c + 1) (some (st.getD c))
  | false :: t, c, some a => (a, c - 1) :: runsOf t (c + 1) none
  | false :: t, c, none => runsOf t (c + 1) none

/-- Labelling of a row in progress: open objects, runs of the row before and of this row with their labels, labels freed by merges,
discarded runs. -/
structure Labelling where
  objs  : List Obj
  prev  : List (Nat × Nat × Nat)
  cur   : List (Nat × Nat × Nat)
  freed : List Nat
  lost  : Nat
  deriving DecidableEq, Repr

/-- Label `l` is replaced by `m` in a list of runs. -/
def relabel (l m : Nat) (rs : List (Nat × Nat × Nat)) : List (Nat × Nat × Nat) :=
  rs.map (fun r => if r.2.2 = l then (r.1, r.2.1, m) else r)

/-- Object `o` is merged into the object with label `l` (R235). The survivor keeps its own split history: SPLIT_CONT (bit 4) of `o`
does not pass to it. -/
def mergeObj (l : Nat) (o : Obj) (x : Labelling) : Labelling :=
  let old := o.acc.map (fun a => { a with flags := a.flags &&& 0x3EF })
  { x with objs := (mapIf (·.label == l) (fun p => { p with acc := joinAcc p.acc old, cur := joinAcc p.cur o.cur }) x.objs).filter
             (·.label != o.label),
           prev := relabel o.label l x.prev, cur := relabel o.label l x.cur, freed := x.freed ++ [o.label] }

/-- First column of a capture window (R247). -/
def capStart (a b tw width : Nat) : Nat := clampN 0 (width - tw) ((a + b) / 2 - tw / 2)

/-- A run that touches no labelled run opens an object, with a free label (R234, R236, R237). Which free label it takes is open; the
choice is the free value `pick`. -/
def openObj (cfg : ObjCfg) (d : RowData) (tw a b pick : Nat) (x : Labelling) : Labelling :=
  let used := x.objs.map (·.label) ++ x.freed
  let free := (List.range 4096).filter (fun l => !used.contains l)
  match free[pick % max 1 free.length]? with
  | none => { x with objs := x.objs.map (Obj.mark 32), lost := x.lost + 1 }
  | some l =>
    { x with objs := x.objs ++ [⟨l, cfg, none, some (runAcc cfg d a b), 0, capStart a b tw d.width, 0, false⟩],
             cur := x.cur ++ [(a, b, l)] }

/-- One run of the row (R234). -/
def labelRun (cfg : ObjCfg) (d : RowData) (tw pick : Nat) (x : Labelling) (r : Nat × Nat) : Labelling :=
  let touch := (x.prev.filter (fun p => decide (p.1 ≤ r.2 + 1 ∧ r.1 ≤ p.2.1 + 1))).map (·.2.2)
  let os := x.objs.filter (fun o => touch.contains o.label)
  match survivor os with
  | none => openObj cfg d tw r.1 r.2 pick x
  | some o =>
    let y := (os.filter (·.label != o.label)).foldl (fun z p => mergeObj o.label p z) x
    { y with objs := mapIf (·.label == o.label) (fun p => { p with cur := joinAcc p.cur (some (runAcc p.cfg d r.1 r.2)) }) y.objs,
             cur := y.cur ++ [(r.1, r.2, o.label)] }

/-! ### Perimeter and VOID of the row before (R242, R245) -/

/-- Pixels of a run with a 4-neighbour that is not foreground. -/
def runPerim (up mid dn : List Bool) (a b : Nat) : Nat :=
  ((List.range (b + 1 - a)).filter (fun k =>
    let c : Int := (a + k : Nat)
    !(maskAt mid (c - 1) && maskAt mid (c + 1) && maskAt up c && maskAt dn c))).length

/-- A row of validity bits has an invalid column in the range `a` to `b`. -/
def hasInvalid (valid : List Bool) (a b : Nat) : Bool := ((valid.drop a).take (b + 1 - a)).any (!·)

/-- The runs of the last mask row are completed by mask `dn` of the next row, or by none (R242, R245). -/
def finishRow (dn : Option (RowData × List Bool)) (x : Stn) : Stn :=
  match x.prev with
  | none => x
  | some (d, mid) =>
    let up := x.prev2
    let rows := [up.map (·.1.colValid), some d.colValid, dn.map (·.1.colValid)].filterMap id
    let add := fun (o : Obj) =>
      let mine := x.runs.filter (·.2.2 == o.label)
      let p := (mine.map (fun r => runPerim ((up.map (·.2)).getD []) mid ((dn.map (·.2)).getD []) r.1 r.2.1)).sum
      let v := mine.any (fun r => rows.any (fun w => hasInvalid w (r.1 - 1) (r.2.1 + 1)))
      { o with acc := o.acc.map (fun a => { a with perim := a.perim + p, flags := if v then a.flags ||| 4 else a.flags }) }
    { x with objs := x.objs.map add }

/-! ### Records (R243 to R245) -/

/-- LOAD of group `g` (R243, R306). -/
def State.groupLoad (s : State) (g : Nat) : Nat :=
  match g % 4 with
  | 0 => s.rd (R.GLB_LOAD_L0 (g / 4))
  | 1 => s.rd (R.GLB_LOAD_L1 (g / 4))
  | 2 => s.rd (R.GLB_LOAD_L2 (g / 4))
  | _ => s.rd (R.GLB_LOAD_L3 (g / 4))

/-- OBJ_ID of the next record of group `g` (R243). -/
def State.nextObjId (s : State) (g : Nat) : Nat := 2 ^ 59 * g + 2 ^ 52 * s.groupLoad g + (s.stn g).seq

/-- SEQ advances by one record (R243); STN_NEXT_ID shows the next ID. -/
def bumpSeq (g : Nat) (s : State) : State :=
  let x := s.stn g
  let s1 := s.setStn g { x with seq := if x.seq = 2 ^ 52 - 1 then 1 else x.seq + 1 }
  (s1.wr (R.STN_NEXT_ID_LO g) (s1.nextObjId g)).wr (R.STN_NEXT_ID_HI g) (s1.nextObjId g / 2 ^ 32)

/-- An object that ends: its accumulators, settings, previous part, and record flags SPLIT, SPLIT_CONT and CUT. -/
structure Ended where
  acc   : Acc8
  cfg   : ObjCfg
  prev  : Nat
  obj   : Obj
  split : Bool
  cut   : Bool
  deriving DecidableEq, Repr

/-- The tile of R246 is asked for. -/
def Ended.tile (e : Ended) : Bool := e.cfg.tileEn && decide (e.cfg.tileMin ≤ e.acc.area)

/-- FLAGS of R245; `excess` when objects of its closing row were discarded. -/
def Ended.flags (e : Ended) (excess : Bool) : Nat :=
  (e.acc.flags &&& 0x137) + 8 * b2n e.split + 64 * b2n excess + 128 * b2n e.cut + 512 * b2n e.tile

/-- The 256 bytes of an object record as Stencil fills them (R242, R244). -/
def Ended.record (e : Ended) (g id excess : Nat) : List Byte :=
  let a := e.acc
  let cx := (a.sx * 2 ^ 16 + a.area / 2) / a.area
  let cy := ((a.sn - a.first * a.area) * 2 ^ 16 + a.area / 2) / a.area
  [1, byte g] ++ leBytes 2 (e.flags (decide (0 < excess))) ++ leBytes 4 a.epoch ++ leBytes 8 id ++ leBytes 4 a.line1 ++
  leBytes 4 a.line2 ++ leBytes 8 a.time1 ++ leBytes 8 a.time2 ++ leBytes 2 a.xMin ++ leBytes 2 a.xMax ++
  leBytes 2 (a.last - a.first + 1) ++ leBytes 2 (min 65535 excess) ++ leBytes 4 a.area ++ leBytes 4 a.perim ++ leBytes 4 cx ++
  leBytes 4 cy ++ (a.sums.map (fun q => leBytes 8 q.1 ++ leBytes 8 q.2)).flatten ++ (a.hist.map (leBytes 4)).flatten ++
  zeros 12 ++ [0xFF] ++ zeros 35 ++ leBytes 8 e.prev ++ zeros 8

/-- Insertion by X_MIN, then ROW_FIRST (R238). -/
def insertEnded (e : Ended) : List Ended → List Ended
  | [] => [e]
  | f :: t =>
    if e.acc.xMin < f.acc.xMin ∨ (e.acc.xMin = f.acc.xMin ∧ e.acc.first ≤ f.acc.first) then e :: f :: t
    else f :: insertEnded e t

/-- Tracker that pairs group `g` (R252, R271). -/
def State.trackerOf (s : State) (g : Nat) : Option Nat :=
  (List.range 12).find? (fun t => s.flag (R.PLB_CFG_EN t) && (s.rd (R.PLB_CFG_UPPER t) == g || s.rd (R.PLB_CFG_LOWER t) == g))

/-- The queue that records of group `g` wait in before Plumb: its tracker's, or for a group in no tracker its own (12 + g). -/
def State.plumbQueue (s : State) (g : Nat) : Nat := (s.trackerOf g).getD (12 + g)

/-- A record goes to Plumb (R238). -/
def recordSend (r : ObjRec) (s : State) : State :=
  let q := s.plumbQueue r.group
  s.setPlb q { s.plb q with queue := (s.plb q).queue ++ [r] }

/-- An object's record is emitted (R238, R243); its tile, if any, stays in capture (R246). -/
def endedEmit (g close start excess : Nat) (e : Ended) (s : State) : Nat × State :=
  let id := s.nextObjId g
  let s1 := ((bumpSeq g s).inc (R.STN_OBJECTS g)).inc (R.STN_SPLITS g) (b2n e.split)
  let s2 := recordSend ⟨g, e.acc.last, close, start, e.record g id excess⟩ s1
  let x := s2.stn g
  (id, if e.tile && !e.obj.dropped then
    s2.setStn g { x with jobs := x.jobs ++ [⟨id, e.cfg, e.acc.first, e.acc.last, e.acc.xMin, e.acc.xMax, e.obj.capCol, e.obj.capRows,
      e.split, e.cut⟩] }
    else s2)

/-- Emits the records of a row in order; the last one carries the number of discarded objects. Answers the IDs by label. -/
def endedEmitAll (g close start excess : Nat) : List Ended → State → List (Nat × Nat) × State
  | [], s => ([], s)
  | [e], s => let (id, s1) := endedEmit g close start excess e s; ([(e.obj.label, id)], s1)
  | e :: t, s =>
    let (id, s1) := endedEmit g close start 0 e s
    let (r, s2) := endedEmitAll g close start excess t s1
    ((e.obj.label, id) :: r, s2)

/-- The objects that end with a row: small ones and those beyond MAX_CLOSE are discarded (R238). Answers the IDs of those emitted,
and how many were discarded beyond MAX_CLOSE. -/
def rowRecords (g close start : Nat) (es : List Ended) (s : State) : List (Nat × Nat) × Nat × State :=
  let big := es.filter (fun e => decide (e.cfg.minArea ≤ e.acc.area))
  let sorted := big.foldr insertEnded []
  let n := s.rd (R.STN_CFG_MAX_CLOSE g)
  let excess := sorted.length - n
  let s1 := (s.inc (R.STN_OBJ_SMALL g) (es.length - big.length)).inc (R.STN_OBJ_EXCESS g) excess
  let (ids, s2) := endedEmitAll g close start excess (sorted.take n) s1
  (ids, excess, s2)

/-! ### One mask row (R234 to R239) -/

/-- The object has reached MAX_H before row `n` and continues in it: it is split (R239). -/
def Obj.splits (o : Obj) : Bool :=
  match o.acc, o.cur with
  | some a, some _ => decide (o.cfg.maxH ≤ a.last - a.first + 1)
  | _, _ => false

/-- What ends with the row: split parts, and objects without a run in it. -/
def Obj.ended (o : Obj) : Option Ended :=
  match o.acc, o.cur with
  | some a, none => some ⟨a, o.cfg, o.prevId, o, false, false⟩
  | some a, some _ => if o.splits then some ⟨a, o.cfg, o.prevId, o, true, false⟩ else none
  | none, _ => none

/-- The object as it goes on into the next row: a split one is a new object with the settings `cfg` (R236, R239). -/
def Obj.next (cfg : ObjCfg) (tw : Nat) (d : RowData) (runs : List (Nat × Nat × Nat)) (ids : List (Nat × Nat)) (o : Obj) : Option Obj :=
  match o.cur with
  | none => none
  | some c =>
    if o.splits then
      let mine := runs.filter (·.2.2 == o.label)
      let fresh := (mine.map (fun r => runAcc cfg d r.1 r.2.1)).foldl (fun t a => joinAcc t (some a)) none
      let (a, b) := match mine with
        | r :: _ => (r.1, r.2.1)
        | [] => (0, 0)
      some { o with cfg := cfg, acc := (fresh.or (some c)).map (fun z => { z with flags := z.flags ||| 16 }), cur := none,
                    prevId := ((ids.find? (·.1 == o.label)).map (·.2)).getD 0, capCol := capStart a b tw d.width, capRows := 0,
                    dropped := false }
    else some { o with acc := o.total, cur := none }

/-- The labels of a final mask row are assigned, and the objects that end with it leave (R234 to R239); `start` is the start time of
their records (R34). -/
def labelRow (g : Nat) (d : RowData) (mask : List Bool) (start : Nat) (s : State) : State :=
  let cfg := s.objCfg g d.n
  let tw := 16 * s.rd (R.STN_TILE_GEOM_TW16 g)
  let rs := runsOf mask 0 none
  let (picks, s0) := s.drawList 4096 rs.length
  let x := finishRow (some (d, mask)) (s.stn g)
  let y := (rs.zip picks).foldl (fun y r => labelRun cfg d tw r.2 y r.1) ⟨x.objs, x.runs, [], [], 0⟩
  let s1 := (s0.setStn g { x with objs := [] }).inc (R.STN_LABEL_OVF g) y.lost
  let (ids, excess, s2) := rowRecords g d.n start (y.objs.filterMap Obj.ended) s1
  let x2 := s2.stn g
  (s2.setStn g { x2 with objs := (y.objs.filterMap (Obj.next cfg tw d y.cur ids)).map
                                   (fun o => if 0 < y.lost then o.mark 32 else o), runs := y.cur,
                         prev2 := x2.prev, prev := some (d, mask) }).raiseIf (0 < y.lost || 0 < excess) (1296 + 2 * g)

/-- Bytes of one row of a capture window (R247). -/
def State.tileRowBytes (s : State) (g : Nat) : Nat :=
  2 * (16 * s.rd (R.STN_TILE_GEOM_TW16 g)) * popcount 16 (s.rd (R.STN_TILE_GEOM_TPLANES g))

/-- Bytes of the tile pool in use. -/
def State.tilePool (s : State) (g : Nat) : Nat :=
  let x := s.stn g
  s.tileRowBytes g * (((x.objs.filter (!·.dropped)).map (·.capRows)).sum + (x.jobs.map (·.capRows)).sum)

/-- A capture takes `k` more rows if the pool holds them, up to TH_MAX (R247). -/
def capRoom (s : State) (g have' k : Nat) : Option Nat :=
  let n := min (s.rd (R.STN_TILE_POOL_TH_MAX g)) (have' + k) - have'
  if s.tilePool g + n * s.tileRowBytes g ≤ 1024 * s.rd (R.STN_TILE_POOL_POOL_KIB g) then some n else none

/-- Rows that an opening capture takes: its first row and the lookback rows that exist (R246, R247). -/
def State.capLookback (s : State) (g : Nat) (o : Obj) : Nat :=
  let mt := min o.cfg.margin (s.rd (R.STN_TILE_GEOM_LOOKBACK g))
  1 + ((s.stn g).rows.filter (fun r => decide (o.first ≤ r.n + mt ∧ r.n < o.first))).length

/-- The pool cannot hold a tile's next row: the tile is dropped (R247, R251). -/
def tileDrop (g : Nat) (s : State) : State := (s.inc (R.STN_TILE_DROP g)).raise (1297 + 2 * g)

/-- Capture of one row for every open object with a latched TILE_EN (R247). -/
def captureObjs (g : Nat) (s : State) : State :=
  ((s.stn g).objs.filter (fun o => o.cfg.tileEn && !o.dropped)).foldl (fun t o =>
    let k := if o.capRows = 0 then t.capLookback g o else 1
    let put := fun (f : Obj → Obj) (u : State) => u.setStn g { u.stn g with objs := mapIf (·.label == o.label) f (u.stn g).objs }
    match capRoom t g o.capRows k with
    | some n => put (fun p => { p with capRows := p.capRows + n }) t
    | none => tileDrop g (put (fun p => { p with dropped := true, capRows := 0 }) t)) s

/-- Capture of row number `n` for the tiles whose objects have ended (R246, R247). -/
def captureJobs (g n : Nat) (s : State) : State :=
  ((s.stn g).jobs.filter (fun j => decide (j.last < n ∧ n ≤ j.last + j.cfg.margin))).foldl (fun t j =>
    match capRoom t g j.capRows 1 with
    | some k => t.setStn g { t.stn g with jobs := mapIf (·.id == j.id) (fun i => { i with capRows := i.capRows + k }) (t.stn g).jobs }
    | none => tileDrop g (t.setStn g { t.stn g with jobs := (t.stn g).jobs.filter (·.id != j.id) })) s

/-! ### Tiles (R246 to R249) -/

/-- The planes of a mask in ascending order. -/
def planesOf (m : Nat) : List Nat := (List.range 16).filter (m.testBit ·)

/-- The tile of job `j` from the rows kept (R246 to R248). -/
def State.tileOf (s : State) (g : Nat) (j : TileJob) : Option Tile :=
  let m := j.cfg.margin
  let mt := min m (s.rd (R.STN_TILE_GEOM_LOOKBACK g))
  let tw := 16 * s.rd (R.STN_TILE_GEOM_TW16 g)
  let width := s.rd (R.SEM_CFG_ROW_W_M1 g) + 1
  let planes := s.rd (R.STN_TILE_GEOM_TPLANES g)
  let avail := (s.stn g).rows.filter (fun r => decide (j.first ≤ r.n + mt ∧ r.n ≤ j.last + m))
  let rows := avail.take (s.rd (R.STN_TILE_POOL_TH_MAX g))
  let c0 := max (j.xMin - m) j.capCol
  let c1 := min (min (j.xMax + m) (width - 1)) (j.capCol + tw - 1)
  let full := rows.length == j.last + m + 1 - (j.first - mt) && decide (mt ≤ j.first)
  let uncut := decide (m ≤ j.xMin ∧ j.xMax + m < width) && c0 == j.xMin - m && c1 == j.xMax + m && full
  match rows with
  | [] => none
  | r :: _ =>
    let cs := (List.range (c1 + 1 - c0)).map (c0 + ·)
    let void := rows.any (fun q => hasInvalid q.colValid c0 c1)
    some { group := g, flags := 2 * b2n (!uncut || j.cut) + 4 * b2n (decide (mt < m)) + 8 * b2n void + 16 * b2n j.split,
           planes := planes, id := j.id, row0 := r.line, col0 := c0, w := cs.length, h := rows.length, time := r.time,
           data := (rows.map (fun q => (cs.map (fun c => ((planesOf planes).map (fun p =>
             leBytes 2 (planeVal (q.cols.getD c []) p))).flatten)).flatten)).flatten,
           coded := j.cfg.coded }

/-- Tiles whose last row has been classified are finished (R246); `flush` ends every capture (R247). -/
def finishTiles (g n : Nat) (flush : Bool) (s : State) : State :=
  let x := s.stn g
  let due := x.jobs.filter (fun j => flush || decide (j.last + j.cfg.margin ≤ n))
  let ts := due.filterMap (fun j => s.tileOf g (if flush && decide (n < j.last + j.cfg.margin) then { j with cut := true } else j))
  let s1 := s.setStn g { x with jobs := x.jobs.filter (fun j => !due.any (·.id == j.id)), tiles := x.tiles ++ ts }
  (s1.inc (R.STN_TILES g) ts.length).inc (R.STN_TILE_CLIP g) (ts.filter (fun t => t.flags.testBit 1 || t.flags.testBit 2)).length

/-- Rows that no open object, tile or lookback needs are forgotten. -/
def trimRows (g : Nat) (s : State) : State :=
  let x := s.stn g
  let low := ((x.objs.map Obj.first) ++ (x.jobs.map (·.first))).foldl min ((x.rows.getLast?.map (·.n)).getD 0)
  s.setStn g { x with rows := x.rows.filter (fun r => decide (low ≤ r.n + 68)) }

/-! ### Rows and interruptions (R229, R231, R240) -/

/-- The final mask of the next row is complete: masks go out, and its objects are labelled (R232 to R239); records of objects that
close take start time `start` (R34). -/
def maskRow (g start : Nat) (s : State) : State :=
  let x := s.stn g
  match x.win[x.done]? with
  | none => s
  | some r =>
    let mask := finalMask (s.rd (R.STN_CFG_MORPH g)) x.win x.done
    let back := backMask r.d mask
    let s1 := s.setStn g (if x.done + 1 ≤ 4 then { x with done := x.done + 1 } else { x with win := x.win.drop 1 })
    let s2 := (s1.inc (R.STN_MASKS g)).inc (R.STN_FG_PIXELS g) (mask.filter id).length
    captureJobs g r.d.n (captureObjs g (labelRow g r.d mask start (bgAccumulate g r.d back (skimMask g r.d.n back s2))))

/-- STN_STAT shows the labels in use (R268). -/
def showLabels (g : Nat) (s : State) : State := s.wr (R.STN_STAT_LABELS g) (s.stn g).objs.length

/-- Every object is closed with CUT, and the row stream starts anew (R231, R240). -/
def stencilCut (g : Nat) (s : State) : State :=
  let s1 := iter (maskRow g s.now) ((s.stn g).win.length - (s.stn g).done) s
  let x := finishRow none (s1.stn g)
  let es := x.objs.filterMap (fun o => o.acc.map (fun a => (⟨a, o.cfg, o.prevId, o, false, true⟩ : Ended)))
  let n := (x.prev.map (·.1.n)).getD 0
  let (_, excess, s2) := rowRecords g n s1.now es (s1.setStn g { x with objs := [] })
  let s3 := finishTiles g n true s2
  ((showLabels g (s3.setStn g { s3.stn g with win := [], done := 0, prev := none, prev2 := none, runs := [], objs := [], rows := [] })).wr
    (R.STN_STAT_RUNNING g) 0).raiseIf (0 < excess) (1296 + 2 * g)

/-- Stencil's registers in force switch at the group's first row at or after L_c (R218, R250). -/
def stencilSwitch (g n : Nat) (s : State) : State := s.switchStage g n .stencil (fun f => f.blk == .stn)

/-- Stencil processes one emitted row (R229). It is the closing row of the objects that its mask row closes (R232), so their start
time is the moment it enters Stencil or its deadline, whichever is earlier (R34). -/
def stencilRow (g : Nat) (s : State) : State :=
  let y := s.seam g
  match y.out with
  | [] => s
  | d :: rest =>
    let s0 := s.setSeam g { y with out := rest }
    if (s0.stn g).taped then s0
    else
      let s1 := if d.flags.testBit 3 then stencilCut g s0 else s0
      let s2 := stencilSwitch g d.n s1
      let x := s2.stn g
      let s3 := ((s2.setStn g { x with win := x.win ++ [⟨d, s2.rawMask g d⟩], rows := x.rows ++ [d] }).inc (R.STN_ROWS g)).wr
        (R.STN_STAT_RUNNING g) 1
      let md := (morphOps (s3.rd (R.STN_CFG_MORPH g))).length
      let s4 := if (s3.stn g).done + md < (s3.stn g).win.length then maskRow g (min s3.now d.deadline) s3 else s3
      showLabels g (trimRows g (finishTiles g d.n false s4))

/-- The engine is taped off: open objects and tiles are discarded (R461). -/
def stencilClear (g : Nat) (s : State) : State :=
  (showLabels g (s.setStn g { s.stn g with win := [], done := 0, prev := none, prev2 := none, runs := [], objs := [], rows := [], jobs := [] })).wr
    (R.STN_STAT_RUNNING g) 0

end Sys2Proof.Machine
end

