-- ==== Sys2Proof/Machine/Plumb.lean ====
section
/-! DEFINITION. Plumb trackers (R252 to R262): centroids, predictions, association, links between views, stores and their expiry. -/

namespace Sys2Proof.Machine

/-! ### Parameters (R252, R254, R261, R273, R298) -/

/-- Upper and lower group of tracker `t`. -/
def State.plbUpper (s : State) (t : Nat) : Nat := s.rd (R.PLB_CFG_UPPER t)
def State.plbLower (s : State) (t : Nat) : Nat := s.rd (R.PLB_CFG_LOWER t)

/-- V0, G and DRAG register values as speeds, accelerations and rates (R273). -/
def siV0 (v : Nat) : Int := max 1 v * 2 ^ 80
def siG (v : Nat) : Int := max 0x10000 v * 2 ^ 80
def siK (v : Nat) : Int := v * 2 ^ 80

/-- Δt_nom in 2^-32 ns for raw V0, G, DRAG and Δh in µm (R254). -/
def dtNom (v0 g k dh : Nat) : Nat :=
  (roundScaled (fallRoot (siG g) (siK k) (siV0 v0) (ofUm dh)) (1000000000 * 2 ^ 32)).toNat

/-- The captured fall parameters of tracker `t` would give Δt_nom − TOL_T ≤ 0 (R261). -/
def State.paramsHeld (s : State) (t : Nat) (vals : List (Fld × Nat)) : Bool :=
  let v := fun f => (valOf vals f).getD (s.rd f)
  decide (dtNom (v (R.PLB_V0_LIVE_V0 t)) (v (R.PLB_G_LIVE_G t)) (v (R.PLB_DRAG_LIVE_K t)) (s.rd (R.PLB_DH_DH t)) ≤
    v (R.PLB_TOL_T_LIVE_TOL_T t) * 2 ^ 32)

/-- The four fall parameters of tracker `t`. -/
def fallFields (t : Nat) : List Fld :=
  [R.PLB_V0_LIVE_V0 t, R.PLB_G_LIVE_G t, R.PLB_DRAG_LIVE_K t, R.PLB_TOL_T_LIVE_TOL_T t]

/-- A field of tracker `t`'s registers. -/
def ofTracker (t : Nat) (f : Fld) : Bool := f.blk == .plb && f.key / 2 ^ 13 == t

/-- What a captured set changes on tracker `t`: all of its values, or all but the four fall parameters (R261). -/
def State.plbVals (s : State) (t : Nat) (vals : List (Fld × Nat)) : List (Fld × Nat) :=
  let mine := vals.filter (fun v => ofTracker t v.1)
  if s.paramsHeld t mine then mine.filter (fun v => !(fallFields t).contains v.1) else mine

/-- The value of field `f` of tracker `t` for a record or row of number `n` of its upper or lower group (R252, R298). -/
def State.plbAt (s : State) (t : Nat) (lower : Bool) (n : Nat) (f : Fld) : Nat :=
  let kept := if lower && decide (n < (s.plb t).wRow) then (valOf (s.plb t).prev f).getD (s.rd f) else s.rd f
  match s.commit (s.plbUpper t) with
  | some c =>
    if c.stages.contains (.plumb t) ∧ c.doom.isNone ∧ (if lower then c.rowW else c.row) ≤ n then (valOf (s.plbVals t c.vals) f).getD (s.rd f)
    else kept
  | none => kept

/-- PLB_DTNOM shows Δt_nom in force (R254, R273). -/
def showDtNom (t : Nat) (s : State) : State :=
  let n := dtNom (s.rd (R.PLB_V0_LIVE_V0 t)) (s.rd (R.PLB_G_LIVE_G t)) (s.rd (R.PLB_DRAG_LIVE_K t)) (s.rd (R.PLB_DH_DH t))
  s.wr (R.PLB_DTNOM_DTNOM t) (satN 24 ((n + 2 ^ 31) / 2 ^ 32))

/-- Tracker `t` switches to the set pending for its upper group (R261, R298). -/
def plumbSwitchNow (t : Nat) (c : PendSet) (s : State) : State :=
  let vals := s.plbVals t c.vals
  let held := s.paramsHeld t (c.vals.filter (fun v => ofTracker t v.1))
  let s1 := s.setPlb t { s.plb t with prev := vals.map (fun v => (v.1, s.rd v.1)), wRow := c.rowW }
  let s2 := (vals.foldl (fun u v => u.wr v.1 v.2) s1).wr (R.PLB_STAT_PARAM_HELD t) (b2n held)
  (showDtNom t s2).setCommit (s.plbUpper t) (some { c with stages := c.stages.filter (· != .plumb t) })

/-- A record of the upper group's row `n` reaches tracker `t`: at its first one at or after L_c the tracker switches (R298). -/
def plumbSwitch (t n : Nat) (s : State) : State :=
  match s.commit (s.plbUpper t) with
  | some c => if c.stages.contains (.plumb t) ∧ c.acts n then plumbSwitchNow t c s else s
  | none => s

/-! ### Records (R244, R253, R258) -/

/-- Bytes of a record from `off` replaced by `bs`. -/
def patch (rec : List Byte) (off : Nat) (bs : List Byte) : List Byte := rec.take off ++ bs ++ rec.drop (off + bs.length)

/-- A computed result within `r` units of `v` (R258): the deviation is a free value. -/
def State.near (s : State) (r : Nat) (v : Int) : Int × State :=
  let (d, s1) := s.draw (2 * r + 1)
  (v + d - r, s1)

/-- A value saturated at the limits of an unsigned `w`-bit field (R258). -/
def satU (w : Nat) (v : Int) : Nat := (clampI 0 (2 ^ w - 1) v).toNat

/-- Fields of a record that Plumb reads. -/
def recCx (r : List Byte) : Nat := leAt r 0x38 4
def recCy (r : List Byte) : Nat := leAt r 0x3C 4
def recArea (r : List Byte) : Nat := leAt r 0x30 4
def recId (r : List Byte) : Nat := leAt r 8 8

/-- tc of R253. -/
def State.crossing (s : State) (r : ObjRec) : Nat :=
  leAt r.data 0x18 8 + (recCy r.data * s.tgPeriod r.group + 2 ^ 31) / 2 ^ 32

/-- x of R253 in units of 2^-30 upper column. -/
def State.crossX (s : State) (t : Nat) (lower : Bool) (r : ObjRec) : Int :=
  if lower then (recCx r.data * s.rd (R.PLB_XMAP_X_SCALE t) : Nat) + toSigned 16 (s.rd (R.PLB_XMAP_X_OFF t)) * 2 ^ 26
  else (recCx r.data * 2 ^ 14 : Nat)

/-- X_EJECT, s24.8, of a position in units of 2^-30 column. -/
def ejectX (x : Int) : Int := floorDiv (x + 2 ^ 21) (2 ^ 22)

/-- The prediction fields of a record (R244): VZ, VX, T_EJECT, X_EJECT. -/
def predict (rec : List Byte) (vz vx tEj xEj : Int) : List Byte :=
  patch (patch (patch rec 0xC4 (leBytes 4 (satU 32 vz) ++ leBytes 4 (satSigned 32 vx))) 0xD0 (leBytes 8 (satU 64 tEj))) 0xD8
    (leBytes 4 (satSigned 32 xEj))

/-! ### Association (R255 to R257, R259) -/

/-- The entry of earliest tc. -/
def earliest : List Assoc → Option Assoc := minBy (·.tc)

/-- An entry enters the association store; a full store evicts the earliest (R255, R259). -/
def assocInsert (t : Nat) (e : Assoc) (s : State) : State :=
  let p := s.plb t
  let s1 := if p.store.length < 4096 then s
    else match earliest p.store with
      | some f => ((s.setPlb t { p with store := p.store.erase f }).inc (R.PLB_EVICTED t)).raise (1345 + 2 * t)
      | none => s
  s1.setPlb t { s1.plb t with store := (s1.plb t).store ++ [e] }

/-- An upper record becomes PENDING (R255). -/
def plumbPending (t : Nat) (r : ObjRec) (tc : Nat) (x : Int) (s : State) : List Byte × State :=
  let v := fun f => s.plbAt t false r.last f
  let (v0, g, k) := (v (R.PLB_V0_LIVE_V0 t), v (R.PLB_G_LIVE_G t), v (R.PLB_DRAG_LIVE_K t))
  let dh := s.rd (R.PLB_DH_DH t)
  let tau := roundScaled (fallRoot (siG g) (siK k) (siV0 v0) (ofUm (dh + v (R.PLB_EJ_LIVE_D t) : Nat))) 1000000000
  let (tEj, s1) := s.near 2 ((tc : Int) + tau)
  let (xEj, s2) := s1.near 1 (ejectX x)
  let data := predict (patch (patch r.data 0xC0 [1]) 0xCC [byte t]) (max 1 v0 : Nat) 0 tEj xEj
  (data, assocInsert t ⟨recId r.data, tc, x, recArea r.data, leAt r.data 0x40 8, dtNom v0 g k dh, v (R.PLB_TOL_T_LIVE_TOL_T t)⟩
    (s2.inc (R.PLB_UPPER_IN t)))

/-- A ratio within ±1, and its square in units of 2^-64. -/
def termSq (num : Int) (den : Nat) : Option Nat :=
  if num.natAbs ≤ den then some (num.natAbs ^ 2 * 2 ^ 64 / max 1 (den ^ 2)) else none

/-- The cost of an entry for a lower record, in units of 2^-64; `none` when it is no candidate (R256). -/
def assocCost (e : Assoc) (tc : Nat) (x : Int) (area sum0 tolX tolA tolM : Nat) : Option Nat :=
  if tc ≤ e.tc then none
  else
    let et := termSq (((tc - e.tc : Nat) : Int) * 2 ^ 32 - e.nom) (max 1 e.tol * 2 ^ 32)
    let ex := termSq (x - e.x) (max 1 tolX * 2 ^ 30)
    let ea := if tolA = 0 then some 0 else termSq (((area : Int) - e.area) * 2 ^ 16) (max area e.area * tolA)
    let em := if tolM = 0 then some 0
      else termSq ((sum0 : Int) * e.area - (e.sum0 : Int) * area) (area * e.area * tolM)
    match et, ex, ea, em with
    | some a, some b, some c, some d => some (a + b + c + d)
    | _, _, _, _ => none

/-- The candidates with their costs (R256). -/
def State.candidates (s : State) (t : Nat) (r : ObjRec) (tc : Nat) (x : Int) : List (Nat × Assoc) :=
  let v := fun f => s.plbAt t true r.last f
  (s.plb t).store.filterMap (fun e =>
    (assocCost e tc x (recArea r.data) (leAt r.data 0x40 8) (v (R.PLB_TOL_X_LIVE_TOL_X t)) (v (R.PLB_TOL_F_LIVE_TOL_A t))
      (v (R.PLB_TOL_F_LIVE_TOL_M t))).map (fun c => (c, e)))

/-- The candidate of least cost, ties to the earliest tc_U (R256). -/
def bestCandidate : List (Nat × Assoc) → Option (Nat × Assoc)
  | [] => none
  | c :: t => match bestCandidate t with
    | none => some c
    | some d => if d.1 < c.1 ∨ (d.1 = c.1 ∧ d.2.tc < c.2.tc) then some d else some c

/-- A lower record without a pair (R257). -/
def plumbUnmatched (t : Nat) (r : ObjRec) (tc : Nat) (x : Int) (s : State) : List Byte × State :=
  let v := fun f => s.plbAt t true r.last f
  let (v0, g, k) := (siV0 (v (R.PLB_V0_LIVE_V0 t)), siG (v (R.PLB_G_LIVE_G t)), siK (v (R.PLB_DRAG_LIVE_K t)))
  let vn := fallSpeed g k v0 (fallRoot g k v0 (ofUm (s.rd (R.PLB_DH_DH t))))
  let (vz, s1) := s.near 1 (roundScaled vn (2 ^ 16))
  let (tEj, s2) := s1.near 2 ((tc : Int) + roundScaled (fallRoot g k vn (ofUm (v (R.PLB_EJ_LIVE_D t)))) 1000000000)
  let (xEj, s3) := s2.near 1 (ejectX x)
  (predict (patch (patch r.data 0xC0 [3]) 0xCC [byte t]) vz 0 tEj xEj, (s3.inc (R.PLB_UNMATCHED t)).raise (1344 + 2 * t))

/-- A lower record with its pair `e` at cost `c`; `ambig` when a second candidate is within 0.25 (R256, R257). -/
def plumbMatched (t : Nat) (r : ObjRec) (tc : Nat) (x : Int) (c : Nat) (e : Assoc) (ambig : Bool) (s : State) : List Byte × State :=
  let v := fun f => s.plbAt t true r.last f
  let (g, k) := (siG (v (R.PLB_G_LIVE_G t)), siK (v (R.PLB_DRAG_LIVE_K t)))
  let pitch := s.rd (R.PLB_PITCH_PITCH t)
  let dt := ofNs (tc - e.tc : Nat)
  let dx := floorDiv ((x - e.x) * ofNs pitch) (2 ^ 30)
  let vL := fallSpeed g k (upperSpeed g k (ofUm (s.rd (R.PLB_DH_DH t))) dt) dt
  let uL := if pitch = 0 then 0 else lateralSpeed k dx dt
  let tau := fallRoot g k vL (ofUm (v (R.PLB_EJ_LIVE_D t)))
  let shift := if pitch = 0 then 0 else floorDiv (lateralDist k uL tau * 2 ^ 30) (ofNs pitch).toNat
  let (vz, s1) := s.near 1 (roundScaled vL (2 ^ 16))
  let (vx, s2) := s1.near 1 (roundScaled uL (2 ^ 16))
  let (tEj, s3) := s2.near 2 ((tc : Int) + roundScaled tau 1000000000)
  let (xEj, s4) := s3.near 1 (ejectX (x + shift))
  let (conf, s5) := s4.near 1 (floorDiv (255 * ((4 * 2 ^ 64 : Int) - c) * 2 + 4 * 2 ^ 64) (8 * 2 ^ 64))
  let (score, s6) := s5.near 1 (c / 2 ^ 50 : Nat)
  let vx' := if pitch = 0 then 0 else vx
  let head := [2, byte (satU 8 conf), byte (b2n ambig)]
  let data := patch (patch (patch (patch r.data 0xC0 head) 0xCC [byte t]) 0xDC (leBytes 2 (satU 16 score))) 0xE0 (leBytes 8 e.id)
  (predict data vz vx' tEj xEj,
    ((s6.setPlb t { s6.plb t with store := (s6.plb t).store.erase e }).inc (R.PLB_MATCHED t)).inc (R.PLB_AMBIG t) (b2n ambig))

/-- A lower record is paired with its least-cost candidate, or left unmatched (R256, R257). -/
def plumbLower (t : Nat) (r : ObjRec) (tc : Nat) (x : Int) (s : State) : List Byte × State :=
  let s0 := s.inc (R.PLB_LOWER_IN t)
  let cs := s0.candidates t r tc x
  match bestCandidate cs with
  | none => plumbUnmatched t r tc x s0
  | some (c, e) => plumbMatched t r tc x c e ((cs.erase (c, e)).any (fun d => decide (d.1 < c + 2 ^ 62))) s0

/-! ### Links (R260) -/

/-- The link that tracker `t` belongs to: its owner, the opposite tracker, and whether `t` is the front side. -/
def State.linkOf (s : State) (t : Nat) : Option (Nat × Nat × Bool) :=
  if s.flag (R.PLB_CFG_LINK_EN t) && decide (t < s.rd (R.PLB_CFG_LINK_T t)) then some (t, s.rd (R.PLB_CFG_LINK_T t), true)
  else ((List.range t).find? (fun o => s.flag (R.PLB_CFG_EN o) && s.flag (R.PLB_CFG_LINK_EN o) && s.rd (R.PLB_CFG_LINK_T o) == t)).map
    (fun o => (o, o, false))

/-- The link store of tracker `t` at one level. -/
def State.linkStore (s : State) (t : Nat) (lower : Bool) : List Link := if lower then (s.plb t).linkL else (s.plb t).linkU

/-- That store replaced. -/
def setLinks (t : Nat) (lower : Bool) (l : List Link) (s : State) : State :=
  s.setPlb t (if lower then { s.plb t with linkL := l } else { s.plb t with linkU := l })

/-- cost_l of a front and a rear sighting, in units of 2^-64 (R260). -/
def linkCost (tcF tcR : Nat) (xF xR : Int) (mirror tolX tolT : Nat) : Option Nat :=
  match termSq ((tcF : Int) - tcR) tolT, termSq (xF - ((mirror : Int) * 2 ^ 22 - xR)) (tolX * 2 ^ 30) with
  | some a, some b => some (a + b)
  | _, _ => none

/-- The least cost; ties to the earliest tc, then the lowest OBJ_ID (R260). -/
def bestLink : List (Nat × Link) → Option (Nat × Link)
  | [] => none
  | c :: t => match bestLink t with
    | none => some c
    | some d =>
      if d.1 < c.1 ∨ (d.1 = c.1 ∧ (d.2.tc < c.2.tc ∨ (d.2.tc = c.2.tc ∧ d.2.id < c.2.id))) then some d else some c

/-- A record is stored unlinked; a full link store evicts its earliest entry (R259, R260). -/
def linkInsert (o t : Nat) (lower : Bool) (e : Link) (s : State) : State :=
  let l := s.linkStore t lower
  let s1 := if l.length < 1024 then s
    else match minBy (·.tc) l with
      | some f => ((setLinks t lower (l.erase f) s).inc (R.PLB_EVICTED o)).raise (1345 + 2 * o)
      | none => s
  setLinks t lower (s1.linkStore t lower ++ [e]) s1

/-- The record `rec` of tracker `t`, with ROW_LAST `n`, is linked with the opposite view, or stored (R260). The owner's parameters are
those of the record's row where its group is the owner's own (R252), else those in force. -/
def plumbLink (t : Nat) (lower : Bool) (n : Nat) (rec : List Byte) (tc : Nat) (x : Int) (s : State) : List Byte × State :=
  match s.linkOf t with
  | none => (rec, s)
  | some (o, other, front) =>
    if (s.plb o).taped then (rec, s)
    else
      let v := fun f => if t = o then s.plbAt o lower n f else s.rd f
      let tolX := max 1 (v (R.PLB_LINK_LIVE_LINK_TOL_X o))
      let tolT := max 1 (v (R.PLB_LINK_LIVE_LINK_TOL_T o))
      let mirror := v (R.PLB_MIRROR_LIVE_MIRROR o)
      let cs := (s.linkStore other lower).filterMap (fun e =>
        (if front then linkCost tc e.tc x e.x mirror tolX tolT else linkCost e.tc tc e.x x mirror tolX tolT).map (fun c => (c, e)))
      match bestLink cs with
      | some (c, e) =>
        (patch (patch (patch rec 0xC3 [2]) 0xDE (leBytes 2 (satN 16 (c / 2 ^ 50)))) 0xE8 (leBytes 8 e.id),
          (setLinks other lower ((s.linkStore other lower).erase e) s).inc (R.PLB_LINKED o))
      | none => (patch rec 0xC3 [1], linkInsert o t lower ⟨recId rec, tc, x⟩ s)

/-! ### The record's way, expiry and clearing (R252, R259, R261) -/

/-- PLB_STAT shows the entries of the association store (R273). -/
def showEntries (t : Nat) (s : State) : State := s.wr (R.PLB_STAT_ENTRIES t) (s.plb t).store.length

/-- Tracker `t` processes record `r` (R252 to R261). -/
def plumbTrack (t : Nat) (r : ObjRec) (s : State) : List Byte × State :=
  let lower := r.group != s.plbUpper t
  let s0 := if lower then s else plumbSwitch t r.last s
  if (s0.plb t).taped then (r.data, s0)
  else
    let tc := s0.crossing r
    let x := s0.crossX t lower r
    let (rec, s1) := if lower then plumbLower t r tc x s0 else plumbPending t r tc x s0
    let (rec', s2) := plumbLink t lower r.last rec tc x s1
    (rec', showEntries t s2)

/-- The next record of queue `q` passes through Plumb; queues 12 and above belong to groups in no tracker (R252). -/
def plumbNext (q : Nat) (s : State) : Option (ObjRec × State) :=
  match (s.plb q).queue with
  | [] => none
  | r :: rest =>
    let s0 := s.setPlb q { s.plb q with queue := rest }
    if q < 12 then let (d, s1) := plumbTrack q r s0; some ({ r with data := d }, s1) else some (r, s0)

/-- Group `g` emits a row of number `n` and time `time`: entries past their tolerance expire (R259, R260). -/
def plumbExpire (g n time : Nat) (s : State) : State :=
  s.forAll (List.range 12) (fun t u =>
    if !u.flag (R.PLB_CFG_EN t) then u
    else
      let hold := u.plbAt t true n (R.PLB_HOLD_LIVE_HOLD t)
      let gone := if u.plbLower t = g then
          (u.plb t).store.filter (fun e => decide ((e.tc + e.tol + hold) * 2 ^ 32 + e.nom < time * 2 ^ 32)) else []
      let u1 := u.setPlb t { u.plb t with store := (u.plb t).store.filter (fun e => !gone.contains e) }
      let u2 := showEntries t (iter (·.raise (1344 + 2 * t)) gone.length (u1.inc (R.PLB_EXPIRED t) gone.length))
      match u2.linkOf t with
      | none => u2
      | some (o, other, _) =>
        let limit := u2.rd (R.PLB_LINK_LIVE_LINK_TOL_T o) |> max 1
        let h := u2.rd (R.PLB_HOLD_LIVE_HOLD o)
        u2.forAll [0, 1] (fun lv w =>
          let lower := lv == 1
          if (if lower then w.plbLower other else w.plbUpper other) = g then
            let l := w.linkStore t lower
            let keep := l.filter (fun e => decide (time ≤ e.tc + limit + h))
            (setLinks t lower keep w).inc (R.PLB_LINK_EXPIRED o) (l.length - keep.length)
          else w))

/-- The stores of tracker `t` are cleared without counting (R259, R261). -/
def plumbClear (t : Nat) (s : State) : State :=
  showEntries t (s.setPlb t { s.plb t with store := [], linkU := [], linkL := [] })

/-- A reload of group `g` clears the stores of the trackers that pair it, and both sides' link stores of its level (R259). -/
def plumbReload (g : Nat) (s : State) : State :=
  s.forAll (List.range 12) (fun t u =>
    if u.flag (R.PLB_CFG_EN t) && (u.plbUpper t == g || u.plbLower t == g) then
      let lower := u.plbUpper t != g
      let u1 := showEntries t (u.setPlb t { u.plb t with store := [] })
      match u1.linkOf t with
      | some (_, other, _) => setLinks t lower [] (setLinks other lower [] u1)
      | none => u1
    else u)

end Sys2Proof.Machine
end

