-- ==== Sys2Proof/Machine/Commit.lean ====
section
/-! DEFINITION. Snapshots of the statistics counters (R37 to R41) and run-time commits (R296 to R299). -/

namespace Sys2Proof.Machine

/-! ### Snapshots (R37 to R40) -/

/-- A snapshot request of any kind: edge E, or merged into the snapshot in progress (R39, R40). -/
def snapshotTake (s : State) : State :=
  if s.flag R.GLB_SNAPSHOT_BUSY then s.wr R.GLB_SNAPSHOT_MERGED 1
  else { ((s.wr R.GLB_SNAPSHOT_BUSY 1).wr R.GLB_SNAP_TIME_LO s.now).wr R.GLB_SNAP_TIME_HI (s.now / 2 ^ 32) with snapNext := s.cnt }

/-- The copies become readable (R39). -/
def snapshotDone (s : State) : State :=
  if s.flag R.GLB_SNAPSHOT_BUSY then
    (({ s with snap := s.snapNext }.wr R.GLB_SNAPSHOT_BUSY 0).wr R.GLB_SNAPSHOT_SEQ (s.rd R.GLB_SNAPSHOT_SEQ + 1)).wr
      R.GLB_SNAPSHOT_VALID 1 |>.wr R.GLB_IRQ_STAT_SNAP 1
  else s

/-! ### Shadowed fields (R9, R296) -/

/-- Offsets of the instances over the given dimensions (stride, count). -/
def instOffs : List (Nat × Nat) → List Nat
  | [] => [0]
  | (st, n) :: t => ((List.range n).map (fun i => (instOffs t).map (fun o => i * st + o))).flatten

/-- The SH fields of a register at offset `off`, with their `_LIVE` fields. -/
def shOf (b : Blk) (r : RegDef) (off : Nat) : List (Fld × Fld) :=
  if r.live = 0 then []
  else (r.flds.filter (·.acc == .sh)).map (fun f => (Fld.at b off f.lo f.w f.rst, Fld.at b (off + r.live) f.lo f.w f.rst))

/-- The SH fields of unit `i` of a block: registers whose first dimension is the unit. -/
def shUnit (b : Blk) (m : List RegDef) (i : Nat) : List (Fld × Fld) :=
  (m.map (fun r => match r.dims with
    | (st, n) :: t => if i < n then ((instOffs t).map (fun o => shOf b r (r.off + i * st + o))).flatten else []
    | [] => [])).flatten

/-- Every SH field of a block. -/
def shAll (b : Blk) (m : List RegDef) : List (Fld × Fld) :=
  (m.map (fun r => ((instOffs r.dims).map (fun o => shOf b r (r.off + o))).flatten)).flatten

/-- Ports whose VSP and RND settings belong to group `g` (R296). -/
def State.groupPorts (s : State) (g : Nat) : List Nat := (List.range 192).filter (fun n => s.groupOf (s.base n) == some g)

/-- The SH fields owned by group `g` (R296). -/
def State.groupFields (s : State) (g : Nat) : List (Fld × Fld) :=
  ((s.groupPorts g).map (fun n => shUnit .vsp vspMap n ++ shUnit .rnd rndMap n)).flatten ++ shUnit .sem semMap g ++
  shUnit .stn stnMap g ++
  (((List.range 12).filter (fun t => s.flag (R.PLB_CFG_EN t) && s.plbUpper t == g)).map (shUnit .plb plbMap)).flatten

/-- The SH fields owned by the device (R296). -/
def State.deviceFields (s : State) : List (Fld × Fld) :=
  (((List.range 192).filter (fun n => (s.groupOf (s.base n)).isNone)).map
    (fun n => shUnit .vsp vspMap n ++ shUnit .rnd rndMap n)).flatten ++
  (((List.range 12).filter (fun t => !s.flag (R.PLB_CFG_EN t))).map (shUnit .plb plbMap)).flatten ++ shAll .upl uplMap ++
  shAll .mem memMap ++ shAll .stp stpMap ++ shAll .flt fltMap

/-- The shadow values of the given fields, for their `_LIVE` fields. -/
def State.capture (s : State) (fs : List (Fld × Fld)) : List (Fld × Nat) := fs.map (fun f => (f.2, s.rd f.1))

/-! ### The commit row (R218) -/

/-- L_c for group `g` of a commit accepted at time `t`, as a trigger number: the lowest one that the run triggers with
T(L − Y_max) ≥ t + 5 µs (R218). While the generator is disabled it is the next one (R298). -/
def State.commitRow (s : State) (g t : Nat) : Nat :=
  let a : Int := (t : Int) + 5000 - s.tgStart g
  if s.tgEn g then max ((s.tg g).base + -(floorDiv (-(a * 2 ^ 16)) (s.tgPeriod g)) + s.yMax g).toNat (s.tg g).first
  else (s.tg g).next

/-- The stages that serve group `g` (R30, R218). -/
def State.groupStages (s : State) (g : Nat) : List Stage :=
  (s.engines g).map Stage.render ++ ((List.range (s.nmemb g)).map (fun i => Stage.port (s.membPort g i))) ++ [.seam, .stencil] ++
  ((List.range 12).filter (fun t => s.flag (R.PLB_CFG_EN t) && s.plbUpper t == g)).map Stage.plumb

/-! ### Effect, discard and clearing (R298, R299) -/

/-- The values of set `c` of group `g` that belong to stages still to switch, those of trackers apart. -/
def State.commitLeft (s : State) (g : Nat) (c : PendSet) : List (Fld × Nat) :=
  c.vals.filter (fun v => v.1.blk != .plb &&
    (v.1.blk != .sem || c.stages.contains .seam) && (v.1.blk != .stn || c.stages.contains .stencil) &&
    (v.1.blk != .rnd || c.stages.contains (.render (v.1.key / 2 ^ 21))) &&
    (v.1.blk != .vsp || c.stages.contains (.port (v.1.key / 2 ^ 21)) ||
      (s.memberOf g (v.1.key / 2 ^ 21)).isNone))

/-- Group `g`'s set is in effect in every stage, and its pending bit clear (R298, R299). -/
def commitClose (g : Nat) (s : State) : State :=
  match s.commit g with
  | some c => s.setCommit g (some { c with stages := [], cleared := true })
  | none => s

/-- Every stage of group `g` that has not switched takes the set now, and its pending bit clears (R298, R299). -/
def commitFinish (g : Nat) (s : State) : State :=
  match s.commit g with
  | none => s
  | some c =>
    let s1 := s.forAll ((List.range 12).filter (fun t => c.stages.contains (.plumb t))) (fun t u => plumbSwitchNow t c u)
    let s2 := commitPut g c (s.commitLeft g c) s1
    commitClose g (s2.when (c.stages.contains .seam) (seamCommitted g c.row))

/-- The set of group `g` that waits is discarded, and one that was complete is forgotten (R298); Skim does not start or end by it. -/
def commitDiscard (g : Nat) (s : State) : State :=
  match s.commit g with
  | none => s
  | some c =>
    let x := s.skimG g
    ((s.setCommit g none).when (!c.cleared) (·.wr R.GLB_COMMIT_STAT_DISCARDED 1)).setSkimG g
      { x with startAt := none, stopAt := if x.stopAt = some c.row then none else x.stopAt }

/-- The generator of group `g` is disabled: a set whose row L_c has not been triggered never acts (R298). -/
def commitDoom (g : Nat) (s : State) : State :=
  let n := (s.tg g).next
  match s.commit g with
  | some c =>
    if c.late ∨ c.cleared ∨ c.row < n ∨ c.doom.isSome then s
    else
      let x := s.skimG g
      (s.setCommit g (some { c with doom := some n })).setSkimG g
        { x with startAt := none, stopAt := if x.stopAt = some c.row then none else x.stopAt }
  | none => s

/-- A set of group `g` that never acts is discarded once the last row that was open at the disable has been emitted, whatever the
generator has begun since (R298). -/
def commitLapse (g : Nat) (s : State) : State :=
  match (s.commit g).bind (·.doom) with
  | some n => if (s.seam g).rows.any (fun r => decide (r.n < n)) then s else commitDiscard g s
  | none => s

/-- Group `g`'s pending bit clears once Stencil has completed row L_c + MD and that row's records have left Plumb (R299). A stage that has
had no item since L_c goes on waiting for its first (R298). -/
def commitClear (g : Nat) (s : State) : State :=
  match s.commit g with
  | none => s
  | some c =>
    let rowDone := (s.stn g).prev.any (fun p => decide (c.row ≤ p.1.n))
    let queued := (s.plb (s.plumbQueue g)).queue.any (fun r => r.group == g && decide (r.close ≤ c.row))
    if !c.late && !c.cleared && c.doom.isNone && (c.done || rowDone) then
      s.setCommit g (some { c with done := true, cleared := !queued })
    else s

/-- Group `g` has no open row and its generator is disabled: the row stream ends (R240), and a set that waits for this takes effect
(R298); row L_c + MD of a set whose row L_c has been emitted never comes, so the rows that Stencil has completed end its wait (R240,
R299). A partial reload waits no more (R225). -/
def groupDrained (g : Nat) (s0 : State) : State :=
  let s := commitLapse g s0
  let x := s.seam g
  if s.tgEn g || !x.rows.isEmpty || !x.out.isEmpty then s
  else
    let s1 := stencilCut g (s.wr (R.SEM_STAT_RELOADING g) 0)
    match s1.commit g with
    | none => s1
    | some c =>
      if c.cleared then s1
      else if c.late then
        let n := (s1.tg g).next
        skimRowStart g n (commitFinish g (s1.setCommit g (some { c with row := n })))
      else commitClear g (s1.setCommit g (some { c with done := true }))

/-- Generator `g` stops (R219, R298). -/
def generatorOff (g : Nat) (s : State) : State := groupDrained g (commitDoom g (s.wr (R.CHK_TG_CTRL_EN g) 0))

/-! ### The request (R151, R168, R297, R299) -/

/-- Skim's part of an accepted commit of group `g` with row `row` and values `vals`: it is to start there, or to end (R168). -/
def commitSkim (g row : Nat) (vals : List (Fld × Nat)) (s : State) : State :=
  let x := s.skimG g
  match (valOf vals (R.SEM_SKIM_CTRL_LIVE_EN g)).getD 0 != 0, x.r0.isSome && x.stopAt.isNone with
  | true, false => s.setSkimG g { x with startAt := some row }
  | false, true => s.setSkimG g { x with stopAt := some row }
  | _, _ => s

/-- FREEZE or EXCLUDE in force up to row `row` in the epoch in progress stays its cause (R173, R182). -/
def commitFreeze (g row : Nat) (s : State) : State :=
  match s.epochRow g with
  | some r => s.forAll (s.engines g) (fun e t =>
      if decide (r < row) && t.hostFreeze g e (row - 1) then t.setSkim e { t.skim e with hostF := true } else t)
  | none => s

/-- Group `g` of an accepted commit (R297, R298): stages that still wait for an item of the set before take that set first, and the open
rows from L_c on take the new EXCLUDE. When row L_c is open already, Skim's part acts now. -/
def commitGroup (g : Nat) (s0 : State) : State :=
  let s := commitFinish g s0
  let late := !s.tgEn g
  let row := s.commitRow g s.now
  let rowW := match (List.range 12).find? (fun t => s.flag (R.PLB_CFG_EN t) && s.plbUpper t == g) with
    | some t => s.commitRow (s.plbLower t) s.now
    | none => 0
  let vals := s.capture (s.groupFields g)
  let s1 := commitSkim g row vals (commitFreeze g row s)
  let s2 := s1.forAll (s1.engines g) (fun e t => swapCommit e (row - t.yOf e) t)
  let s3 := s2.setCommit g (some ⟨row, rowW, late, false, false, none, vals, [], s2.groupStages g⟩)
  if late then groupDrained g s3
  else
    let s4 := seamExclude g row s3
    if row < (s4.tg g).next then skimRowStart g row s4 else s4

/-- Device-owned values act at once (R298). -/
def commitDevice (s : State) : State := (s.capture s.deviceFields).foldl (fun t v => t.wr v.1 v.2) s

/-- The groups of a mask that are used (R297). -/
def State.usedGroups (s : State) (mask : Nat) : List Nat := (List.range 24).filter (fun g => mask.testBit g && s.nmemb g != 0)

/-- Group `g` is affected by a load in DRAIN or APPLY (R293, R299): every group by a full image, the image's group by a partial one. -/
def State.reloading (s : State) (g : Nat) : Bool :=
  let st := s.rd R.GLB_LATH_STAT_STATE
  (st == 4 || st == 5) && (leAt s.ldr.image 0x08 1 != 1 || leAt s.ldr.image 0x09 1 == g)

/-- RESULT of a refused commit: the first case of R299 that holds; `none` when it is accepted. -/
def State.commitRefusal (s : State) (groups : List Nat) (device p1 : Bool) : Option Nat :=
  if p1 then some 5
  else if groups = [] ∧ device = false then some 4
  else if groups.any s.reloading then some 3
  else if groups.any s.waiting then some 2
  else none

/-- A write of GLB_COMMIT with value `v` requests a commit (R297, R299, R300); `p1` in P1 Idle. A write of 0 requests none. -/
def commitRequest (v : Nat) (p1 : Bool) (s : State) : State :=
  let device := v.testBit 24
  if bits v 23 0 = 0 ∧ !device then s
  else
    let gs := s.usedGroups (bits v 23 0)
    match s.commitRefusal gs device p1 with
    | some r => (s.wr R.GLB_COMMIT_STAT_RESULT r).wr R.GLB_COMMIT_STAT_REFUSED 1
    | none =>
      let s1 := s.when (s.flag R.GLB_SNAP_CTRL_ON_COMMIT && !s.flag R.GLB_SNAP_CTRL_HOLD) snapshotTake
      let s2 := (((s1.wr R.GLB_COMMIT_STAT_RESULT 1).wr R.GLB_COMMIT_STAT_SEQ (s1.rd R.GLB_COMMIT_STAT_SEQ + 1)).wr
        R.GLB_COMMIT_TIME_LO s1.now).wr R.GLB_COMMIT_TIME_HI (s1.now / 2 ^ 32)
      (s2.when device commitDevice).forAll gs commitGroup

end Sys2Proof.Machine
end

