-- ==== Sys2Proof/Machine/Cvu.lean ====
section
/-! DEFINITION. The check-value units (R447 to R451): algorithms, feeding, and alive counters. -/

namespace Sys2Proof.Machine

/-- The parameters of an algorithm (R447): W, POLY, INIT, REFL, XOROUT. -/
structure CvuAlg where
  w    : Nat
  poly : Nat
  init : Nat
  refl : Bool
  xout : Nat
  deriving DecidableEq, Repr

/-- The algorithm that CVU_CFG of unit `c` selects (R447). -/
def State.cvuAlg (s : State) (c : Nat) : CvuAlg :=
  match s.rd (R.CVU_CFG_ALG c) with
  | 0 => ⟨32, 0x1EDC6F41, 0xFFFFFFFF, true, 0xFFFFFFFF⟩
  | 1 => ⟨32, 0x04C11DB7, 0xFFFFFFFF, true, 0xFFFFFFFF⟩
  | 2 => ⟨16, 0x1021, 0xFFFF, false, 0⟩
  | 3 => ⟨8, 0x2F, 0xFF, false, 0xFF⟩
  | _ =>
    let w := s.rd (R.CVU_CFG_WIDTH_M1 c) + 1
    ⟨w, s.rd (R.CVU_POLY c) % 2 ^ w, s.rd (R.CVU_INIT c) % 2 ^ w, s.flag (R.CVU_CFG_REFL c), s.rd (R.CVU_XOROUT c) % 2 ^ w⟩

/-- The low `w` bits of `x` in reverse order. -/
def reflect (w x : Nat) : Nat := ((List.range w).map (fun i => b2n (x.testBit i) * 2 ^ (w - 1 - i))).sum

/-- One bit fed into V (R448). -/
def CvuAlg.bit (a : CvuAlg) (v : Nat) (b : Bool) : Nat :=
  if a.refl then
    let t := v.testBit 0 ^^ b
    if t then (v / 2) ^^^ reflect a.w a.poly else v / 2
  else
    let t := v.testBit (a.w - 1) ^^ b
    if t then (v * 2 % 2 ^ a.w) ^^^ a.poly else v * 2 % 2 ^ a.w

/-- One byte fed into V (R448): bit 0 first with REFL = 1, bit 7 first with REFL = 0. -/
def CvuAlg.feed (a : CvuAlg) (v byte : Nat) : Nat :=
  (List.range 8).foldl (fun v i => a.bit v (byte.testBit (if a.refl then i else 7 - i))) v

/-- V of unit `c`. -/
def State.cvuV (s : State) (c : Nat) : Nat := s.rd (R.CVU_VALUE c)

/-- Unit `c` is taped off: writes are ignored (R451). -/
def State.cvuTaped (s : State) (c : Nat) : Bool := s.unitTaped (0xA000 + c)

/-- The RESULT register (R448, R451). -/
def State.cvuResult (s : State) (c : Nat) : Nat := if s.cvuTaped c then 0 else s.cvuV c ^^^ (s.cvuAlg c).xout

/-- V is loaded with INIT (R448). -/
def cvuInit (c : Nat) (s : State) : State :=
  if s.cvuTaped c then s else s.wr (R.CVU_VALUE c) (s.cvuAlg c).init

/-- A write of CVU_CFG (R448, R453): a reserved ALG is ignored and sets CFG_ERR. -/
def cvuCfg (c v : Nat) (s : State) : State :=
  if s.cvuTaped c then s
  else if 5 ≤ bits v 31 29 then s.wr (R.CVU_CFG_CFG_ERR c) 1
  else
    let s1 := (((s.wr (R.CVU_CFG_ALG c) (bits v 31 29)).wr (R.CVU_CFG_REFL c) (bits v 28 28)).wr (R.CVU_CFG_BSWAP c) (bits v 27 27)).wr
      (R.CVU_CFG_WIDTH_M1 c) (bits v 20 16)
    cvuInit c (s1.wr (R.CVU_CFG_CFG_ERR c) (clearBits (s1.rd (R.CVU_CFG_CFG_ERR c)) (v % 2)))

/-- `n` bytes of `v` are fed in the order of BSWAP (R449). -/
def cvuFeed (c n v : Nat) (s : State) : State :=
  if s.cvuTaped c then s
  else
    let bs := if n = 1 then [v % 256] else
      let l := (List.range n).map (fun i => v / 256 ^ i % 256)
      if s.flag (R.CVU_CFG_BSWAP c) then l.reverse else l
    s.wr (R.CVU_VALUE c) (bs.foldl (s.cvuAlg c).feed (s.cvuV c))

/-- A write of CVU_VALUE (R449). -/
def cvuValue (c v : Nat) (s : State) : State :=
  if s.cvuTaped c then s else s.wr (R.CVU_VALUE c) (v % 2 ^ (s.cvuAlg c).w)

/-- Width w of the alive counters (R450, R454). -/
def State.aliveWidth (s : State) (c : Nat) : Nat :=
  match s.rd (R.CVU_ALIVE_CFG_WIDTH c) with
  | 0 => 8
  | 1 => 16
  | _ => 32

/-- A write of CVU_ALIVE_IN (R450). -/
def cvuAlive (c v : Nat) (s : State) : State :=
  if s.cvuTaped c then s
  else
    let w := s.aliveWidth c
    let x := v % 2 ^ w
    let put (verdict : Nat) (s : State) : State := s.wr (R.CVU_ALIVE_STAT_VERDICT c) verdict
    let ev (s : State) : State := s.raiseIf (s.flag (R.CVU_ALIVE_CFG_EV_EN c)) (1472 + c)
    if s.rd (R.CVU_ALIVE_STAT_VERDICT c) = 0 then (put 1 s).wr (R.CVU_ALIVE_LAST c) x
    else
      let d := (x + 2 ^ w - s.rd (R.CVU_ALIVE_LAST c) % 2 ^ w) % 2 ^ w
      if d = 1 then ((put 2 s).wr (R.CVU_ALIVE_LAST c) x).inc (R.CVU_ALIVE_OK c)
      else if d = 0 ∨ 2 ^ (w - 1) ≤ d then ev ((put 3 s).inc (R.CVU_ALIVE_REPEAT c))
      else ev (((put 4 s).wr (R.CVU_ALIVE_LAST c) x).inc (R.CVU_ALIVE_MISSING c) (d - 1))

/-- A write of CVU_ALIVE_CFG.RESET: the next value gives START (R450). -/
def cvuAliveReset (c : Nat) (s : State) : State :=
  if s.cvuTaped c then s else (s.wr (R.CVU_ALIVE_STAT_VERDICT c) 0).wr (R.CVU_ALIVE_LAST c) 0

/-- Unit `c` returns to service with reset values, its alive counters included (R451, R454). -/
def cvuReturn (c : Nat) (s : State) : State :=
  (s.resetRange .cvu (0x100 * c) (0x100 * c + 0x4C)).resetCounters .cvu (0x100 * c) (0x100 * c + 0x4C)

end Sys2Proof.Machine
end

