-- ==== Sys2Proof/Machine/Dma.lean ====
section
/-! DEFINITION. The DMA channels (R416 to R425): the state machine, fetching and checking a descriptor, and its completion. The data
moves are in `DmaMove`. -/

namespace Sys2Proof.Machine

/-- STATE of channel `c`: 0 IDLE, 1 RUN, 2 HALTED (R428). -/
def State.dmaState (s : State) (c : Nat) : Nat := s.rd (R.DMA_CH_STAT_STATE c)

/-- HOP_LIMIT in force: 0 acts as 1 (R429). -/
def State.hopLimit (s : State) (c : Nat) : Nat := max 1 (s.rd (R.DMA_CH_HOP_LIMIT_N c))

/-- DMA_CH_NEXT (R429). -/
def State.dmaFirst (s : State) (c : Nat) : Nat := 2 ^ 32 * s.rd (R.DMA_CH_NEXT_HI_ADDR c) + s.rd (R.DMA_CH_NEXT_LO c)

/-- FAIL_ADDR (R422). -/
def setFailAddr (c a : Nat) (s : State) : State :=
  (s.wr (R.DMA_CH_FAIL_ADDR_LO c) a).wr (R.DMA_CH_FAIL_ADDR_HI_ADDR c) (a / 2 ^ 32)

/-- Channel `c` waits for no register read any more. -/
def dmaForsake (c : Nat) (s : State) : State :=
  let d := s.dmaCh c
  (s.when d.await (hawkForsake .dma)).setDmaCh c { d with got := [], await := false }

/-- Channel `c` halts with `err` in direction `dir` (R418, R422, R425). -/
def dmaStop (c err dir : Nat) (s0 : State) : State :=
  let s := dmaForsake c s0
  let d := s.dmaCh c
  let s1 := (s.setDmaCh c { d with desc := none }).wr (R.DMA_CH_DONE_BYTES c) ((d.desc.map (·.moved)).getD 0)
  let s2 := ((((s1.wr (R.DMA_CH_STAT_STATE c) 2).wr (R.DMA_CH_STAT_ERR c) err).wr (R.DMA_CH_STAT_HALT c) 1).wr
    (R.DMA_CH_FAIL_INFO_DIR c) dir).inc (R.DMA_CH_HALTS c)
  s2.raiseIf (err != 9) (1368 + c)

/-- A halt at address `a`. -/
def dmaHalt (c err dir a : Nat) (s : State) : State := dmaStop c err dir (setFailAddr c a s)

/-- A halt without a failing access (ABORTED, TAPED): the spec gives FAIL_ADDR no value. -/
def dmaBreak (c err : Nat) (s : State) : State :=
  let (v, s1) := s.draw (2 ^ 48)
  dmaHalt c err 0 v s1

/-- A write of START (R418). -/
def dmaStart (c : Nat) (s : State) : State :=
  if s.dmaState c ≠ 0 ∨ (s.dmaCh c).taped then s.wr (R.DMA_CH_STAT_REFUSED c) 1
  else ((((s.setDmaCh c { s.dmaCh c with next := s.dmaFirst c, desc := none }).wr (R.DMA_CH_STAT_STATE c) 1).wr
    (R.DMA_CH_STAT_ERR c) 0).wr (R.DMA_CH_HOP_COUNT_N c) 0)

/-- A write of ABORT (R418). -/
def dmaAbort (c : Nat) (s : State) : State := if s.dmaState c = 1 then dmaBreak c 9 s else s

/-- A write of ACK (R418). -/
def dmaAck (c : Nat) (s : State) : State := if s.dmaState c = 2 then s.wr (R.DMA_CH_STAT_STATE c) 0 else s

/-- A write of DMA_CH_NEXT_LO, DMA_CH_NEXT_HI or DMA_CH_HOP_LIMIT (`off` 0 to 2): ignored in RUN (R418). -/
def dmaConfig (c off v : Nat) (s : State) : State :=
  if s.dmaState c = 1 then s.wr (R.DMA_CH_STAT_REFUSED c) 1
  else match off with
    | 0 => s.wr (R.DMA_CH_NEXT_LO c) v
    | 1 => s.wr (R.DMA_CH_NEXT_HI_ADDR c) v
    | _ => s.wr (R.DMA_CH_HOP_LIMIT_N c) v

/-- Channel `c` is taped off, or returns to service in IDLE (R418, R461). -/
def dmaTape (c : Nat) (s : State) : State :=
  let s1 := if s.dmaState c = 1 then dmaBreak c 10 s else s
  s1.setDmaCh c { s1.dmaCh c with taped := true }
def dmaReturn (c : Nat) (s : State) : State :=
  (s.setDmaCh c { s.dmaCh c with taped := false }).wr (R.DMA_CH_STAT_STATE c) 0

/-- The chain goes on at `a`: the hop limit is checked before the fetch (R419). -/
def dmaFollow (c a : Nat) (s : State) : State :=
  let s1 := s.setDmaCh c { s.dmaCh c with next := a, desc := none }
  if s1.rd (R.DMA_CH_HOP_COUNT_N c) = s1.hopLimit c then dmaHalt c 7 1 a s1 else s1

/-- A descriptor completes; `show` sets DONE (R418, R420, R422). -/
def dmaComplete (c : Nat) (last done : Bool) (next : Nat) (s : State) : State :=
  let s1 := (s.setDmaCh c { s.dmaCh c with desc := none }).inc (R.DMA_CH_DESCS c)
  let s2 := if done then s1.wr (R.DMA_CH_STAT_DONE c) 1 else s1
  if last then s2.wr (R.DMA_CH_STAT_STATE c) 0 else dmaFollow c next s2

/-! ### Fetching and checking (R417, R419, R420) -/

/-- A descriptor as fetched: CTRL whole, and the fields of R417. -/
structure RawDesc where
  src   : Nat
  dst   : Nat
  count : Nat
  ctrl  : Nat
  next  : Nat
  deriving DecidableEq, Repr

/-- The 32 bytes of a descriptor (R417). -/
def RawDesc.parse (b : List Byte) : RawDesc := ⟨leAt b 0 8, leAt b 8 8, leAt b 16 4, leAt b 20 4, leAt b 24 8⟩

/-- The alignment that the class of an end asks for (R416). -/
def MemCls.align : MemCls → Nat
  | .register => 4
  | _ => 64

/-- The alignment that the end at `a` asks for; an address in no class asks for none. -/
def State.endAlign (s : State) (a : Nat) : Nat := ((s.memCls a 1).map MemCls.align).getD 1

/-- The bytes that an end covers: one word when it is fixed. -/
def endLen (fix : Bool) (count : Nat) : Nat := if fix then 4 else count

/-- Check 2 of R420. -/
def State.descBad (s : State) (d : RawDesc) : Bool :=
  decide (16 ≤ d.ctrl) || decide (2 ^ 48 ≤ d.src) || decide (2 ^ 48 ≤ d.dst) ||
  (d.ctrl.testBit 2 && s.memCls d.src 1 != some .register) || (d.ctrl.testBit 3 && s.memCls d.dst 1 != some .register)

/-- Checks 4 and 5 of R420: the ERR of the first that fails. -/
def State.descRange (s : State) (d : RawDesc) : Option Nat :=
  let a := s.endAlign d.src
  let b := s.endAlign d.dst
  if d.src % a ≠ 0 ∨ d.dst % b ≠ 0 ∨ d.count % max a b ≠ 0 then some 2
  else if (s.memCls d.src (endLen (d.ctrl.testBit 2) d.count)).isNone ∨ (s.memCls d.dst (endLen (d.ctrl.testBit 3) d.count)).isNone then
    some 3
  else none

/-- The descriptor that the channel moves by. -/
def RawDesc.begin (d : RawDesc) : DmaDesc :=
  let sf := d.ctrl.testBit 2
  let df := d.ctrl.testBit 3
  ⟨d.src, d.dst, d.count, d.ctrl.testBit 0, d.ctrl.testBit 1, sf, df, d.next, 0, 0,
   !sf && !df && decide (d.src < d.dst ∧ d.dst < d.src + d.count)⟩

/-- The checks of R420 on a descriptor fetched from `a`. -/
def dmaCheck (c a : Nat) (d : RawDesc) (s : State) : State :=
  if s.descBad d then dmaHalt c 1 1 a s
  else if d.count = 0 then
    dmaComplete c (d.ctrl.testBit 0) true d.next (s.wr (R.DMA_CH_STAT_ZERO_LEN c) 1)
  else match s.descRange d with
    | some e => dmaHalt c e 1 a s
    | none => s.setDmaCh c { s.dmaCh c with desc := some d.begin }

/-- CUR shows the descriptor at `a` (R422). -/
def setCur (c a : Nat) (s : State) : State := (s.wr (R.DMA_CH_CUR_LO c) a).wr (R.DMA_CH_CUR_HI_ADDR c) (a / 2 ^ 32)

/-- A descriptor is fetched, and checked before any data access (R417 to R420). -/
def dmaFetch (c : Nat) (err : MemErr) (s : State) : State :=
  let ch := s.dmaCh c
  if s.dmaState c ≠ 1 ∨ ch.desc.isSome then s
  else
    let a := ch.next
    let cls := s.memCls a 32
    if a % 32 ≠ 0 ∨ cls = none ∨ cls = some .register then dmaHalt c 1 1 a (setCur c a s)
    else
      let (b, poison, s1) := devRead 3 a 32 err (setCur c a s)
      let s2 := s1.wr (R.DMA_CH_HOP_COUNT_N c) (s1.rd (R.DMA_CH_HOP_COUNT_N c) + 1)
      if poison then dmaHalt c 6 1 a s2 else dmaCheck c a (RawDesc.parse b) s2

end Sys2Proof.Machine
end

