-- ==== Sys2Proof/Machine/Blocks.lean ====
section
/-! DEFINITION. Blocks of the VSL lanes (R45 to R48, R69) and the message units they carry (R100 to R102): sync headers, payload
bytes, scrambling, block types, and the device's own messages. -/

namespace Sys2Proof.Machine

/-! ### 66-bit blocks (R45) -/

/-- The sync header of a block: 0b01 data, 0b10 control (R45). -/
def blockSync (w : Block) : Nat := (w.extractLsb' 64 2).toNat

/-- The 64 payload bits of a block; bit 63 is sent first (R45). -/
def blockPayload (w : Block) : BitVec 64 := w.extractLsb' 0 64

/-- The block with sync header `h` and payload `p`. -/
def mkBlock (h : BitVec 2) (p : BitVec 64) : Block := h ++ p

/-- Payload bytes 0 to 7 (R45). -/
def payloadBytes (p : BitVec 64) : List Byte := (List.range 8).map (fun i => p.extractLsb' (56 - 8 * i) 8)

/-- The payload whose bytes 0 to 7 are `bs`. -/
def payloadOf (bs : List Byte) : BitVec 64 := BitVec.ofNat 64 (beNat (padTo 8 bs))

/-- The bytes of a block's payload. -/
def blockBytes (w : Block) : List Byte := payloadBytes (blockPayload w)

/-- What a descrambled block is (R45, R47, R48). -/
def blockKind (w : Block) : BlockKind :=
  if blockSync w = 1 then .data
  else if blockSync w ≠ 2 then .invalid
  else match beAt (blockBytes w) 0 1 with
    | 0x1E => .filler
    | 0x2D => .sop
    | 0x33 => .sidle
    | 0x4B => .train
    | 0x55 => .align
    | 0x78 => .msg
    | _ => .reserved

/-! ### Scrambling (R46): x^58 + x^39 + 1 -/

/-- The register of a scrambler or descrambler after the scrambled payload `p`: its last 58 bits; bit 0 is the latest (R46). -/
def scrNext (p : BitVec 64) : BitVec 58 := p.extractLsb' 0 58

/-- Descrambling: in(i) = out(i) XOR out(i − 39) XOR out(i − 58), with the 58 bits `r` before (R46). -/
def descramble (r : BitVec 58) (p : BitVec 64) : BitVec 64 :=
  p ^^^ (r ++ p).extractLsb' 39 64 ^^^ (r ++ p).extractLsb' 58 64

/-- Scrambling: out(i) = in(i) XOR out(i − 39) XOR out(i − 58), with the 58 bits `r` before (R46): the first 39 bits, which depend on
`r` alone, then the other 25. -/
def scramble (r : BitVec 58) (p : BitVec 64) : BitVec 64 :=
  let hi : BitVec 39 := p.extractLsb' 25 39 ^^^ r.extractLsb' 0 39 ^^^ r.extractLsb' 19 39
  let lo : BitVec 25 := p.extractLsb' 0 25 ^^^ (r ++ hi).extractLsb' 14 25 ^^^ (r ++ hi).extractLsb' 33 25
  hi ++ lo

/-- Block `w` as it stands on the wire of a direction whose scrambler holds `r` (R45, R46). -/
def onWire (r : BitVec 58) (w : Block) : Block := mkBlock (w.extractLsb' 64 2) (scramble r (blockPayload w))

/-- A row of blocks on the wire, and the scrambler after them (R46). -/
def wireAll (r : BitVec 58) : List Block → List Block × BitVec 58
  | [] => ([], r)
  | w :: t =>
    let x := onWire r w
    let rest := wireAll (scrNext (blockPayload x)) t
    (x :: rest.1, rest.2)

/-- The control block with bytes `bs` (R45, R47). -/
def controlBlock (bs : List Byte) : Block := mkBlock 2 (payloadOf bs)

/-- The data block with bytes `bs`, padded with 0x00 (R45, R52). -/
def dataBlock (bs : List Byte) : Block := mkBlock 1 (payloadOf bs)

/-- BIP8 of a row of bytes: bit i is the XOR of bit i of each (R69). -/
def bip8 (bs : List Byte) : Byte := bs.foldl (· ^^^ ·) 0

/-! ### Messages of the device (R100 to R102) -/

/-- MTYPE (R102). -/
def Msg.mtype : Msg → Nat
  | .trigger _ _ => 0x01
  | .syncReq _ _ => 0x02
  | .syncRes _ _ _ => 0x03
  | .headCmd _ _ => 0x04
  | .chalReq _ => 0x05

/-- The body (R102), big-endian. -/
def Msg.body : Msg → List Byte
  | .trigger line time => beBytes 4 line ++ beBytes 8 time
  | .syncReq q t1 => byte q :: beBytes 8 t1
  | .syncRes q off delay => byte q :: beBytes 8 off ++ beBytes 4 delay
  | .headCmd tag d => beBytes 2 tag ++ d
  | .chalReq nonce => nonce

/-- Units of a message with a body of `len` bytes (R101). -/
def msgUnits (len : Nat) : Nat := ceilDiv (len + 4) 6

/-- The bytes of a message: MTYPE, LEN, body, CRC-16, and 0x00 up to whole units (R101). -/
def Msg.bytes (m : Msg) : List Byte :=
  let b := [byte m.mtype, byte m.body.length] ++ m.body
  padTo (6 * msgUnits m.body.length) (b ++ beBytes 2 (crc16 b))

/-- The units of a message from USEQ `seq` on: SOM in the first, EOM in the last (R100, R101). -/
def Msg.units (m : Msg) (seq : Nat) : List (List Byte) :=
  let k := msgUnits m.body.length
  (List.range k).map (fun i =>
    byte (128 * b2n (i == 0) + 64 * b2n (i + 1 == k) + (seq + i) % 64) :: slice m.bytes (6 * i) 6)

/-- The MSG block that carries a unit (R47, R100). -/
def unitBlock (u : List Byte) : Block := controlBlock (0x78 :: u)

end Sys2Proof.Machine
end

