-- ==== Sys2Proof/Machine/Packet.lean ====
section
/-! DEFINITION. Line packets and their checks (R84 to R92), back-channel messages (R98 to R103), time sync (R104, R105), relayed
head commands (R106, R107) and the identity challenge (R108, R109). -/

namespace Sys2Proof.Machine

/-- Bits per sample of FORMAT (R85). -/
def formatBits (f : Nat) : Nat := 8 + 2 * f

/-- LENGTH of R87. -/
def lineLength (pixels bands format : Nat) : Nat := ceilDiv (pixels * bands * formatBits format) 8

/-- Port event `k` of port `n` (R7): 0 lock, 1 CRC, 2 sequence, 3 range, 4 timeout, 5 training. -/
def portEv (n k : Nat) : Nat := 6 * n + k

/-! ### Header fields (R84) -/

def hdrType (h : List Byte) : Nat := beAt h 0 1
def hdrStream (h : List Byte) : Nat := bits (beAt h 1 1) 7 4
def hdrVer (h : List Byte) : Nat := bits (beAt h 1 1) 3 0
def hdrFlags (h : List Byte) : Nat := beAt h 2 2
def hdrHeadId (h : List Byte) : Nat := beAt h 4 4
def hdrLine (h : List Byte) : Nat := beAt h 8 4
def hdrExposure (h : List Byte) : Nat := beAt h 12 8
def hdrPixels (h : List Byte) : Nat := beAt h 20 2
def hdrBands (h : List Byte) : Nat := beAt h 22 1
def hdrFormat (h : List Byte) : Nat := beAt h 23 1
def hdrLength (h : List Byte) : Nat := beAt h 24 3

/-- What a packet check decides (R89): the counter, the CAUSE and the event of a drop. -/
structure Drop where
  ctr   : Fld
  cause : Nat
  event : Option Nat
  deriving DecidableEq, Repr

/-- The line of port `n` is dropped: one counter, VSP_LAST_DROP and at most one event (R89). -/
def dropLine (n : Nat) (d : Drop) (stream line : Nat) (s : State) : State :=
  let s1 := (((s.inc d.ctr).wr (R.VSP_LAST_DROP_CAUSE n) d.cause).wr (R.VSP_LAST_DROP_STREAM n) stream).wr
    (R.VSP_LAST_DROP_LINE n) line
  match d.event with
  | some k => s1.raise (portEv n k)
  | none => s1

/-- A trigger entry expires (R91): every stream that has not answered counts in VSP_TRIG_TMO and raises the timeout event. -/
def trigExpire (n : Nat) (e : TrigEnt) (s : State) : State :=
  let p := s.port n
  let ns := s.rd (R.VSP_PORT_CFG_NSTREAMS_M1 n) + 1
  let k := ns - popcount ns e.answered
  let s1 := s.setPort n { p with trigs := mapIf (·.n == e.n) (fun x => { x with expired := true }) p.trigs }
  let s2 := iter (·.raise (portEv n 4)) k (s1.inc (R.VSP_TRIG_TMO n) k)
  (s2.when ((s.feedStream n).any (fun st => !e.answered.testBit st)) (renderMissing n)).forAll (s.chan n) (fun i => swapPassed i e.n)

/-- Every entry of port `n` whose deadline has come expires (R91, R92). -/
def trigExpireDue (n : Nat) (s : State) : State :=
  ((s.port n).trigs.filter (fun e => !e.expired && decide (e.deadline ≤ s.now))).foldl (fun t e => trigExpire n e t) s

/-- Checks 1 to 6 of R89; a reserved FORMAT fails the field check (R85). DESIGN CHOICE (log 99): a stream that an image declares with
a LENGTH above 262,144 bytes, which R87 says no image does, is checked by the same formula. -/
def State.headerCheck1 (s : State) (n : Nat) (h : List Byte) : Option Drop :=
  let st := hdrStream h
  if crc16 (slice h 0 30) ≠ beAt h 30 2 then some ⟨R.VSP_HCRC_ERR n, 1, some 1⟩
  else if hdrType h ≠ 1 ∨ hdrVer h ≠ 1 ∨ bits (hdrFlags h) 15 3 ≠ 0 ∨ beAt h 27 3 ≠ 0 ∨ 4 < hdrFormat h then
    some ⟨R.VSP_RANGE_ERR n, 2, some 3⟩
  else if hdrHeadId h ≠ s.rd (R.VSP_HEAD_ID_HEAD_ID n) ∨
      (s.rd (R.VSP_EXP_ID n) ≠ 0 ∧ hdrHeadId h ≠ s.rd (R.VSP_EXP_ID n)) then some ⟨R.VSP_RANGE_ERR n, 3, some 3⟩
  else if s.rd (R.VSP_PORT_CFG_NSTREAMS_M1 n) < st ∨ hdrPixels h = 0 ∨
      hdrPixels h ≠ s.rd (R.VSP_STREAM_PIXELS n st) ∨ hdrBands h ≠ s.rd (R.VSP_STREAM_BANDS n st) ∨
      hdrFormat h ≠ s.rd (R.VSP_STREAM_FORMAT n st) ∨
      hdrLength h ≠ lineLength (hdrPixels h) (hdrBands h) (hdrFormat h) then some ⟨R.VSP_RANGE_ERR n, 4, some 3⟩
  else
    let row := ((s.port n).trigs.find? (·.line == hdrLine h)).map (·.n)
    let test := (row.map (fun m => s.portLiveAt n m (R.VSP_PKT_CTRL_LIVE_ACCEPT_TEST n))).getD
      (s.rd (R.VSP_PKT_CTRL_LIVE_ACCEPT_TEST n))
    if bits (hdrFlags h) 0 0 = 1 ∧ test = 0 then some ⟨R.VSP_TEST_LINES n, 5, none⟩
    else if s.flag (R.VSP_CHAL_CTRL_ENFORCE n) ∧ s.rd (R.VSP_CHAL_STAT_RESULT n) ≠ 2 then
      some ⟨R.VSP_CHAL_DROP n, 6, none⟩
    else none

/-- d of check 7: (LINE − last) mod 2^32; the first line of a stream is in order (R90). -/
def lineStep (last : Option Nat) (line : Nat) : Nat :=
  match last with
  | none => 1
  | some l => ofSigned 32 ((line : Int) - l)

/-- Checks 8 and 9 of R89 against the trigger store: the entry answered, or the drop. DESIGN CHOICE (log 99): of two entries with the
same LINE, after a restart of the generator with the same L0, the oldest one is taken. -/
def State.headerCheck2 (s : State) (n : Nat) (h : List Byte) : Except Drop TrigEnt :=
  match (s.port n).trigs.find? (·.line == hdrLine h) with
  | none => .error ⟨R.VSP_NO_MATCH n, 8, some 2⟩
  | some e =>
    if e.expired then .error ⟨R.VSP_LATE n, 9, some 4⟩
    else if min 2000 (s.portLiveAt n e.n (R.VSP_PKT_CTRL_LIVE_EXP_WIN n)) <
        ((hdrExposure h : Int) - e.time).natAbs then .error ⟨R.VSP_EXP_ERR n, 10, some 3⟩
    else .ok e

/-- The lanes of the channel of port `n`, by index, whose Skim buffer holds no line (R174). -/
def State.skimFree (s : State) (n : Nat) : Nat :=
  (((s.chan n).zipIdx.filter (fun e => (s.skim e.1).hold.isNone)).map (fun e => 2 ^ e.2)).sum

/-- The packet in progress on port `n`. -/
def setPkt (n : Nat) (k : Option Pkt) (s : State) : State := s.setPort n { s.port n with pkt := k }

/-- The accepted line of packet `k` goes to Render, with its CRC verdict, when its stream feeds the group (R27, R130). -/
def lineToRender (n : Nat) (k : Pkt) (payload : List Byte) (good : Bool) (s : State) : State :=
  let h := k.header
  if s.feedStream n = some (hdrStream h) then
    let p := s.port n
    s.setPort n { p with lines := p.lines ++ [⟨k.n, hdrLine h, k.time, hdrExposure h, hdrPixels h, hdrBands h, hdrFormat h, payload, k.free, good⟩] }
  else s

/-- The packet in progress on port `n` is cut (R52, R63, R67): an accepted one is judged TRUNC at check 10; one already dropped just
ends; one whose header is not complete is judged at check 10 alone (R89). Its bytes so far go to Render as an invalid line (R27). -/
def packetCut (n : Nat) (s : State) : State :=
  match (s.port n).head, (s.port n).pkt with
  | some _, _ => dropLine n ⟨R.VSP_TRUNC n, 12, some 1⟩ 0 0 (s.setPort n { s.port n with head := none, pkt := none })
  | none, some k =>
    let s1 := setPkt n none s
    if k.accepted then
      lineToRender n k (slice k.rest 0 (hdrLength k.header)) false
        (dropLine n ⟨R.VSP_TRUNC n, 12, some 1⟩ (hdrStream k.header) (hdrLine k.header) s1)
    else s1
  | none, none => s

/-- The port's registers in force switch at its first line at or after L_c (R218). -/
def portSwitch (n m : Nat) (s : State) : State :=
  match s.groupOf n with
  | none => s
  | some g => match s.memberOf g n with
    | none => s
    | some i => s.switchStage g (m + s.rd (R.SEM_MEMB_MAP_Y g i)) (.port n) (fun f => f.blk == .vsp && f.key / 2 ^ 21 == n)

/-- Checks 7 to 9 of a header that passed checks 1 to 6: it is sequenced, and then accepted or dropped (R89 to R91); `bad` when a
reserved block fell into it (R48). DESIGN CHOICE (log 99): SAT and UNSYNC lines count when check 9 passes, whatever check 10 says. -/
def headerSequenced (n : Nat) (h : List Byte) (bad : Bool) (s : State) : State :=
  let st := hdrStream h
  let p := s.port n
  let d := lineStep (p.lastLine.get none st) (hdrLine h)
  if d = 0 ∨ 2 ^ 31 ≤ d then dropLine n ⟨R.VSP_ALIVE_ERR n, 7, some 2⟩ st (hdrLine h) (setPkt n (some ⟨h, 0, 0, false, bad, 0, []⟩) s)
  else
    let s1 := (s.setPort n { p with lastLine := p.lastLine.set none st (some (hdrLine h)) }).inc (R.VSP_MISSING n) (d - 1)
    match s1.headerCheck2 n h with
    | .error e => dropLine n e st (hdrLine h) (setPkt n (some ⟨h, 0, 0, false, bad, 0, []⟩) s1)
    | .ok e =>
      let s1 := portSwitch n e.n s1
      let p1 := s1.port n
      let s2 := s1.setPort n { p1 with
        pkt := some ⟨h, e.n, e.time, true, bad, s1.skimFree n, []⟩,
        trigs := mapIf (·.n == e.n) (fun x => { x with answered := x.answered ||| 2 ^ st }) p1.trigs }
      (s2.inc (R.VSP_SAT_LINES n) (bits (hdrFlags h) 1 1)).inc (R.VSP_UNSYNC_LINES n) (bits (hdrFlags h) 2 2)

/-- The 32-byte header `h` of a packet is complete on port `n` (R89). -/
def lineHeader (n : Nat) (h : List Byte) (bad : Bool) (s : State) : State :=
  let s0 := trigExpireDue n s
  match s0.headerCheck1 n h with
  | some d =>
    let named := d.cause ≠ 1
    dropLine n d (if named then hdrStream h else 0) (if named then hdrLine h else 0)
      (setPkt n (some ⟨h, 0, 0, false, bad, 0, []⟩) s0)
  | none => headerSequenced n h bad s0

/-- The packet in progress on port `n` has come whole: check 10 (R89). `k.rest` is what followed the header; the last block's
padding is ignored (R52). -/
def linePayload (n : Nat) (k : Pkt) (s : State) : State :=
  let len := hdrLength k.header
  let s1 := setPkt n none s
  if k.bad || crc32c (slice k.rest 0 len) != beAt k.rest len 4 then
    lineToRender n k (slice k.rest 0 len) false
      (dropLine n ⟨R.VSP_PCRC_ERR n, 11, some 1⟩ (hdrStream k.header) (hdrLine k.header) s1)
  else lineToRender n k (slice k.rest 0 len) true (s1.inc (R.VSP_LINES_OK n))

/-- A SOP block: a packet still in progress is cut, and a new one starts (R52). -/
def packetStart (n : Nat) (s : State) : State :=
  let s1 := packetCut n s
  s1.setPort n { s1.port n with head := some ([], false), pkt := none }

/-- The 8 bytes of a data block of port `n` (R52): they belong to the header until it has 32 bytes, then to the payload. What follows
a dropped header up to the next SOP is discarded, and so is data outside a packet. -/
def packetData (n : Nat) (bs : List Byte) (s : State) : State :=
  match (s.port n).head, (s.port n).pkt with
  | some (h, bad), _ =>
    let h1 := h ++ bs
    if h1.length < 32 then s.setPort n { s.port n with head := some (h1, bad) }
    else lineHeader n h1 bad (s.setPort n { s.port n with head := none })
  | none, some k =>
    if !k.accepted then s
    else
      let k1 := { k with rest := k.rest ++ bs }
      if k1.rest.length < hdrLength k.header + 4 then setPkt n (some k1) s else linePayload n k1 s
  | none, none => s

/-- A reserved block marks the packet in progress on port `n` bad (R48). -/
def packetBad (n : Nat) (s : State) : State :=
  let p := s.port n
  s.setPort n { p with head := p.head.map (fun h => (h.1, true)), pkt := p.pkt.map (fun k => { k with bad := true }) }

/-! ### Back-channel messages (R100 to R103) -/

/-- Sending priority (R103): lower is sent first. -/
def Msg.rank : Msg → Nat
  | .trigger _ _ => 0
  | .syncReq _ _ => 1
  | .syncRes _ _ _ => 1
  | .chalReq _ => 2
  | .headCmd _ _ => 3

/-- With no message in transmission the port picks the highest-priority pending one; a SYNC_REQ takes its T1 then (R103, R104). Its
units cross into the back channel's queue of 32 blocks; further ones wait for room there (R20). -/
def bcPick (n : Nat) (s : State) : State :=
  let p := s.port n
  match p.txCur, minBy Msg.rank p.txQueue with
  | none, some m =>
    let (m1, out) := match m with
      | .syncReq q _ => (Msg.syncReq q s.now, some (q, s.now))
      | _ => (m, p.syncOut)
    let us := m1.units p.txSeq
    s.setPort n { p with txCur := some m1, txQueue := p.txQueue.erase m, syncOut := out, bcFifo := us.take 32, bcRest := us.drop 32 }
  | _, _ => s

/-- A message becomes pending on port `n`. -/
def bcSend (n : Nat) (m : Msg) (s : State) : State :=
  bcPick n (s.setPort n { s.port n with txQueue := (s.port n).txQueue ++ [m] })

/-- The message in transmission completes: its units have left as MSG blocks, scrambled, and USEQ has advanced (R46, R100, R103). -/
def bcSent (n : Nat) (s : State) : State :=
  let p := s.port n
  match p.txCur with
  | none => s
  | some _ =>
    let us := p.bcFifo ++ p.bcRest
    let (ws, r) := wireAll (s.lane n).txScr (us.map unitBlock)
    let s1 := s.setLane n { s.lane n with txScr := r }
    bcPick n (s1.setPort n { p with txCur := none, txSeq := (p.txSeq + us.length) % 64, bcFifo := [], bcRest := [], txOut := ws })

/-! ### Triggers (R91, R98) -/

/-- Triggers of port `n` whose exposure times lie in the future. -/
def State.futureTrigs (s : State) (n : Nat) : List Nat :=
  sortNat (((s.port n).trigs.filter (fun e => decide (s.now < e.time))).map (·.time))

/-- The TRIGGER of entry `e` is sent on port `n` and enters the store of the 64 most recent ones (R91, R98). DESIGN CHOICE (log 99): an
entry that the 65th trigger pushes out before its deadline counts nothing. -/
def trigSendNow (n : Nat) (e : TrigEnt) (s : State) : State :=
  let p := s.port n
  let l := p.trigs ++ [e]
  bcSend n (.trigger e.line e.time)
    ((s.setPort n { p with trigs := l.drop (l.length - 64) }).inc (R.VSP_TRIG_SENT n))

/-- The TRIGGER of entry `e` starts now, or waits while 16 earlier ones lie in the future or one waits before it (R98). -/
def trigSend (n : Nat) (e : TrigEnt) (s : State) : State :=
  let p := s.port n
  if (s.futureTrigs n).length < 16 ∧ p.heldTrigs = [] then trigSendNow n e s
  else s.setPort n { p with heldTrigs := p.heldTrigs ++ [e] }

/-- The 16-trigger rule releases the first waiting trigger of port `n`, once enough exposure times have passed (R98). -/
def trigRelease (n : Nat) (s : State) : State :=
  match (s.port n).heldTrigs with
  | [] => s
  | e :: rest =>
    let f := s.futureTrigs n
    let s1 := if 16 ≤ f.length then s.atTime ((f[f.length - 16]?).getD 0) else s
    trigSendNow n e (s1.setPort n { s1.port n with heldTrigs := rest })

/-! ### Time sync (R104, R105) -/

/-- Lane `n` is the lowest of a port or gang in UP, whose back channel carries messages (R71, R104). -/
def State.msgPort (s : State) (n : Nat) : Bool := s.base n == n && s.laneState n == 3

/-- The sync interval expires on a port in UP: a SYNC_REQ with the next SEQ, unless an exchange is outstanding (R104, R105). -/
def syncStart (n : Nat) (s : State) : State :=
  let p := s.port n
  let waiting := p.txQueue.any (fun m => match m with | .syncReq _ _ => true | _ => false)
  if !s.msgPort n || p.syncOut.isSome || waiting then s
  else bcSend n (.syncReq p.syncNext 0) (s.setPort n { p with syncNext := (p.syncNext + 1) % 256 })

/-- OFFSET of R104. -/
def syncOffset (t1 t2 t3 t4 asym : Int) : Int := floorDiv ((t2 - t1) - (t4 - t3) + asym) 2

/-- DELAY of R104. -/
def syncDelay (t1 t2 t3 t4 : Int) : Int := floorDiv ((t4 - t1) - (t3 - t2)) 2

/-- An accepted exchange extends the runs that decide SYNCED, and sends SYNC_RES (R105). -/
def syncAccept (n seq : Nat) (off d : Int) (s : State) : State :=
  let p := s.port n
  let ok := off.natAbs ≤ 5
  let good := if ok then p.goodRun + 1 else 0
  let bad := if ok then 0 else p.badRun + 1
  let synced := if 8 ≤ good then 1 else if 4 ≤ bad then 0 else s.rd (R.VSP_SYNC_STAT_SYNCED n)
  let s1 := ((s.setPort n { p with goodRun := good, badRun := bad }).wr (R.VSP_SYNC_STAT_SYNCED n) synced).wr
    (R.VSP_SYNC_STAT_OFFSET n) (satSigned 24 off)
  bcSend n (.syncRes seq (ofSigned 64 off) (satN 32 d.toNat)) s1

/-- A SYNC_RSP whose SOM unit arrived at Chalk time `t4` (R104, R105). -/
def syncRsp (n seq t2 t3 t4 : Nat) (s : State) : State :=
  let p := s.port n
  match p.syncOut with
  | some (q, t1) =>
    if q = seq ∧ t4 ≤ t1 + 100000 then
      let asym := toSigned 16 (s.rd (R.VSP_SYNC_CFG_ASYM n))
      let off := syncOffset t1 t2 t3 t4 asym
      let d := syncDelay t1 t2 t3 t4
      let keep := p.delays = [] ∨ d ≤ p.delays.foldl min (p.delays.headD 0) + 20
      let ds := (p.delays ++ [d]).drop (p.delays.length + 1 - 16)
      let s1 := ((s.setPort n { p with syncOut := none, delays := ds, tmoRun := 0 }).wr
        (R.VSP_SYNC_DELAY_DELAY n) (satN 16 d.toNat)).wr (R.VSP_SYNC_DELAY_DELAY_MIN n) (satN 16 (ds.foldl min d).toNat)
      if keep then syncAccept n seq off d s1 else s1
    else s.inc (R.VSP_MSG_ERR n)
  | none => s.inc (R.VSP_MSG_ERR n)

/-- No SYNC_RSP within 100 µs of T1; the eighth time-out in a row raises the timeout event and clears SYNCED (R105). -/
def syncTimeout (n : Nat) (s : State) : State :=
  let p := s.port n
  match p.syncOut with
  | none => s
  | some _ =>
    let s1 := s.inc (R.VSP_SYNC_TMO n)
    if p.tmoRun + 1 = 8 then
      ((s1.setPort n { p with syncOut := none, tmoRun := 8, goodRun := 0 }).wr (R.VSP_SYNC_STAT_SYNCED n) 0).raise (portEv n 4)
    else s1.setPort n { p with syncOut := none, tmoRun := p.tmoRun + 1 }

/-! ### Relayed head commands (R106, R107) -/

/-- The first `len` bytes of VSP_CMD_BUF (R106). -/
def State.cmdBytes (s : State) (n len : Nat) : List Byte :=
  (((List.range 62).map (fun i => leBytes 4 (s.rd (R.VSP_CMD_BUF n i)))).flatten).take len

/-- Hawk item of a head command's end or of a HEAD_EVT (R107). -/
def headItem (kind status n tag : Nat) (data : List Byte) : List Nat :=
  [kind * 2 ^ 24 + status * 2 ^ 16 + n * 2 ^ 8 + data.length, tag] ++ leWords data

/-- Posts a head item when `en` holds (R107). -/
def headNote (en : Bool) (n : Nat) (words : List Nat) (s : State) : State :=
  hawkNote en (s.rd (R.VSP_CMD_CFG_HQ n)) (s.rd (R.VSP_CMD_CFG_PRIO n)) words (R.VSP_EVT_DROP n) s

/-- The outstanding command ends with STATUS `st` (2 DONE, 3 TIMEOUT, 4 LINK_DOWN) (R106, R107). -/
def cmdEnd (n st : Nat) (data : List Byte) (s : State) : State :=
  let tag := (s.port n).cmdTag
  headNote (s.flag (R.VSP_CMD_CFG_RSP_EN n)) n (headItem 2 (st - 2) n tag data)
    ((s.wr (R.VSP_CMD_STAT_STATUS n) st).wr (R.VSP_CMD_STAT_BUSY n) 0)

/-- GO: the command is sent, or refused (R106); the other lanes of a gang ignore it (R71). -/
def cmdGo (n : Nat) (s : State) : State :=
  let len := s.rd (R.VSP_CMD_CTRL_LEN n)
  if s.base n ≠ n then s
  else if s.flag (R.VSP_CMD_STAT_BUSY n) ∨ 248 < len ∨ s.laneState n ≠ 3 then s.wr (R.VSP_CMD_STAT_REFUSED n) 1
  else
    let tag := s.rd (R.VSP_CMD_CTRL_TAG n)
    let s1 := (s.wr (R.VSP_CMD_STAT_STATUS n) 1).wr (R.VSP_CMD_STAT_BUSY n) 1
    bcSend n (.headCmd tag (s.cmdBytes n len)) (s1.setPort n { s1.port n with cmdTag := tag })

/-- Words of `data` written to VSP_RSP_BUF, the last one filled with 0. DESIGN CHOICE (log 99): the words beyond RSP_LEN keep what an
earlier response left. -/
def rspStore (n : Nat) (data : List Byte) (s : State) : State :=
  ((leWords data).zipIdx).foldl (fun t w => t.wr (R.VSP_RSP_BUF n w.2) w.1) s

/-- A HEAD_RSP ends the command with its TAG, and is otherwise discarded and counted (R106). -/
def headRsp (n tag : Nat) (data : List Byte) (s : State) : State :=
  if s.flag (R.VSP_CMD_STAT_BUSY n) ∧ (s.port n).cmdTag = tag ∧ data.length ≤ 248 then
    cmdEnd n 2 data ((rspStore n data s).wr (R.VSP_CMD_STAT_RSP_LEN n) data.length)
  else s.inc (R.VSP_MSG_ERR n)

/-- No response within VSP_CMD_CFG.TMO (R106). -/
def cmdTimeout (n : Nat) (s : State) : State := s.when (s.flag (R.VSP_CMD_STAT_BUSY n)) (cmdEnd n 3 [])

/-- A HEAD_EVT arrives (R102, R107). -/
def headEvt (n : Nat) (data : List Byte) (s : State) : State :=
  if data.length = 0 ∨ 248 < data.length then s.inc (R.VSP_MSG_ERR n)
  else headNote (s.flag (R.VSP_CMD_CFG_EVT_EN n)) n (headItem 1 0 n 0 data) s

/-! ### Identity challenge (R108, R109) -/

/-- A challenge starts (R108); the other lanes of a gang ignore START (R71). -/
def chalStart (n : Nat) (s : State) : State :=
  if s.base n ≠ n ∨ s.rd (R.VSP_CHAL_STAT_RESULT n) = 1 then s
  else if !s.flag (R.VSP_HEAD_CAPS_CHAL n) then s.wr (R.VSP_CHAL_STAT_RESULT n) 5
  else if !s.flag (R.VSP_CHAL_STAT_KEY_SET n) then s.wr (R.VSP_CHAL_STAT_RESULT n) 6
  else
    let (nonce, s1) := s.drawBytes 32
    let s2 := (s1.wr (R.VSP_CHAL_STAT_RESULT n) 1).setPort n { s1.port n with nonce := nonce }
    s2.when (s2.laneState n == 3) (bcSend n (.chalReq nonce))

/-- The MAC that a head must return (R108). -/
def State.chalMac (s : State) (n : Nat) : List Byte :=
  Config.hmacSha256 (s.port n).key ((s.port n).nonce ++ beBytes 4 (s.rd (R.VSP_HEAD_ID_HEAD_ID n)) ++ [byte n])

/-- A CHAL_RSP arrives (R102, R108). -/
def chalRsp (n : Nat) (mac : List Byte) (s : State) : State :=
  if mac.length ≠ 32 then s.inc (R.VSP_MSG_ERR n)
  else if s.rd (R.VSP_CHAL_STAT_RESULT n) ≠ 1 then s
  else if mac = s.chalMac n then s.wr (R.VSP_CHAL_STAT_RESULT n) 2
  else (s.wr (R.VSP_CHAL_STAT_RESULT n) 3).raise (portEv n 3)

/-- No answer within 50 ms (R108). -/
def chalTimeout (n : Nat) (s : State) : State :=
  if s.rd (R.VSP_CHAL_STAT_RESULT n) = 1 then (s.wr (R.VSP_CHAL_STAT_RESULT n) 4).raise (portEv n 3) else s

/-- Word `i` of the challenge key of port `n` is written: byte 4i + j from bits [31 − 8j : 24 − 8j] (R109). -/
def chalKeyWord (n i v : Nat) (s : State) : State :=
  let p := s.port n
  (s.setPort n { p with key := p.key.take (4 * i) ++ beBytes 4 v ++ p.key.drop (4 * i + 4) }).wr (R.VSP_CHAL_STAT_KEY_SET n) 1

/-! ### Receiving messages (R100 to R102) -/

/-- A sound message of `len` body bytes begins and ends on port `n`: a message still in progress is discarded and counted at its SOM,
and USEQ goes on by its units (R100, R101). -/
def msgBegin (n len : Nat) (s : State) : State :=
  let p := s.port n
  let s1 := s.when p.rxMsg.isSome (·.inc (R.VSP_MSG_ERR n))
  s1.setPort n { s1.port n with rxMsg := none, rxSeq := (p.rxSeq + msgUnits len) % 64 }

/-- A sound message of `len` body bytes arrives on port `n` and `f` acts on it. Only the lowest lane of a port in UP takes messages
(R71, R100; DESIGN CHOICE, log 99: elsewhere they are discarded uncounted). -/
def msgWhole (n len : Nat) (f : State → State) (s : State) : State := if s.msgPort n then f (msgBegin n len s) else s

/-- A message received whole: its type decides (R102). -/
def msgDispatch (n : Nat) (m : List Byte) (s : State) : State :=
  let len := beAt m 1 1
  let body := slice m 2 len
  if beAt m (2 + len) 2 ≠ crc16 (slice m 0 (2 + len)) then s.inc (R.VSP_MSG_ERR n)
  else match beAt m 0 1 with
    | 0x81 => if len = 17 then syncRsp n (beAt body 0 1) (beAt body 1 8) (beAt body 9 8) (s.port n).rxSom s else s.inc (R.VSP_MSG_ERR n)
    | 0x82 => if 2 ≤ len then headRsp n (beAt body 0 2) (body.drop 2) s else s.inc (R.VSP_MSG_ERR n)
    | 0x83 => headEvt n body s
    | 0x84 => chalRsp n body s
    | _ => s.inc (R.VSP_MSG_ERR n)

/-- One message unit of 7 bytes arrives on port `n` (R100, R101); its SOM unit gives T4 (R104). -/
def msgUnit (n : Nat) (u : List Byte) (s : State) : State :=
  let p := s.port n
  let b := beAt u 0 1
  let som := b.testBit 7
  let eom := b.testBit 6
  let inSeq := bits b 5 0 = p.rxSeq
  let next := (bits b 5 0 + 1) % 64
  let rest := padTo 6 (u.drop 1)
  let drop (t : State) : State := (t.setPort n { t.port n with rxMsg := none, rxSeq := next }).inc (R.VSP_MSG_ERR n)
  let take (m : List Byte) (t : State) : State :=
    let need := msgUnits (beAt m 1 1) * 6
    if eom then
      if m.length = need then msgDispatch n m (t.setPort n { t.port n with rxMsg := none, rxSeq := next }) else drop t
    else if need ≤ m.length then drop t
    else t.setPort n { t.port n with rxMsg := some m, rxSeq := next }
  let start (t : State) : State := take rest (t.setPort n { t.port n with rxSom := t.now })
  match p.rxMsg with
  | none => if som then start s else drop s
  | some m =>
    if som then start (drop s)
    else if inSeq then take (m ++ rest) s
    else drop s

/-! ### Entering and leaving UP -/

/-- The port layer of port `n` starts on entry to UP (R90, R92, R100, R104, R105, R108). -/
def portEnterUp (n : Nat) (s : State) : State :=
  let p := s.port n
  let s1 := s.setPort n { p with trigs := [], heldTrigs := [], lastLine := [], head := none, pkt := none, txQueue := [],
                                 txCur := none, bcFifo := [], bcRest := [], txSeq := 0, rxSeq := 0, rxMsg := none, syncNext := 0, syncOut := none, delays := [],
                                 goodRun := 0, badRun := 0, tmoRun := 0 }
  let s2 := skimPortUp n (renderPortUp n (seamPortUp n (s1.wr (R.VSP_SYNC_STAT_SYNCED n) 0)))
  s2.when (s2.flag (R.VSP_CHAL_CTRL_AUTO n)) (chalStart n)

/-- The port layer of port `n` stops when the port leaves UP (R89, R92, R105, R106, R108, R211). -/
def portLeaveUp (n : Nat) (s : State) : State :=
  let s1 := packetCut n s
  let s2 := s1.setPort n { s1.port n with trigs := [], heldTrigs := [], lastLine := [], txQueue := [], txCur := none,
                                          bcFifo := [], bcRest := [], rxMsg := none, syncOut := none }
  let s3 := s2.when (s2.flag (R.VSP_CMD_STAT_BUSY n)) (cmdEnd n 4 [])
  skimPortDown n (seamPortDown n ((s3.wr (R.VSP_SYNC_STAT_SYNCED n) 0).wr (R.VSP_CHAL_STAT_RESULT n) 0))

end Sys2Proof.Machine
end

