-- ==== Sys2Proof/Machine/Lane.lean ====
section
/-! DEFINITION. Sensor lanes (R42 to R73): block lock, blind bring-up, the training search, rate matching, gangs, and the lane
state machine of R63. -/

namespace Sys2Proof.Machine

/-- Applies `f` to the hidden state of lane `n`. -/
def onLane (n : Nat) (f : Lane → Lane) (s : State) : State := s.setLane n (f (s.lane n))

/-- Lane `n` enters state `st` of R75. -/
def setLaneState (n st : Nat) (s : State) : State := s.wr (R.VSP_LANE_STAT_STATE n) st

/-- Every lane of the channel of lane `n` enters state `st`. -/
def setChanState (n st : Nat) (s : State) : State := s.forAll (s.chan n) (fun i => setLaneState i st)

/-- An event of lane `n` on its own port; those of PARKED lanes are suppressed (R63, R73). -/
def laneEvent (n k : Nat) (s : State) : State := s.raiseIf (s.laneState n != 7) (portEv n k)

/-- The gang of lane `n` is no longer aligned, and its striped blocks that still wait are gone (R68, R70). -/
def alignClear (n : Nat) (s : State) : State :=
  ((s.wr (R.VSP_LANE_STAT_ALIGNED (s.base n)) 0).forAll (s.chan n) (fun i =>
    onLane i (fun l => { l with marker := none, lineUps := 0, alignBad := 0, queue := [] })))

/-- Training of lane `n` starts over from block lock (R56, R58): IDENT is awaited, then the receiver adapts; the gang aligns anew. -/
def trainPass (n : Nat) (s : State) : State :=
  onLane n (fun l => { l with phase := .ident, preset := if l.setB then 2 else 1, moveIx := 0, fails := 0, reqs := 0,
                              waiting := false, echo := false, timeouts := 0, adapted := false, identPage := none,
                              capsPage := none, converged := false, linkUp := false, clear64 := false }) (alignClear n s)

/-- A restart of training at block lock (R58). -/
def trainRestart (n : Nat) (s : State) : State :=
  trainPass n (onLane n (fun l => { l with upSent := false }) (s.bumpSat (R.VSP_TRAIN_STAT_RESTARTS n)))

/-- A new attempt begins on lane `n`: it enters LOCKING with the settings of that moment (R60, R61, R74, R78). -/
def attemptLane (n : Nat) (s : State) : State :=
  let b := s.flag (R.VSP_LANE_CTRL_PRESET_SET n)
  let st := s.rd (R.VSP_TRAIN_CFG_SETTLE n)
  let l := { s.lane n with
    phase := .idle, waiting := false, echo := false, setB := b, peMax := s.rd (R.VSP_TRAIN_CFG_PE_MAX n),
    eyeMargin := s.rd (R.VSP_TRAIN_CFG_EYE_MARGIN n), settle := max 1 st, maxReq := s.rd (R.VSP_TRAIN_CFG_MAX_REQ n),
    converged := false, linkUp := false, clear64 := false, lockTimer := true, trainAt := none, lostLock := false,
    burst := false, lossTaped := false, upSent := false, seen64 := false }
  let s1 := ((alignClear n (s.setLane n l)).inc (R.VSP_TRAIN_ATT n)).wr (R.VSP_LANE_STAT_BLOCK_LOCK n) 0
  setLaneState n 1 (((s1.wr (R.VSP_TRAIN_STAT_RESTARTS n) 0).wr (R.VSP_TRAIN_STAT_REQS n) 0).wr
    (R.VSP_RX_EQ_CTLE n) (if b then 20 else 12))

/-- A new attempt of the port or gang of lane `n`, all lanes together (R61, R63, R72). -/
def attempt (n : Nat) (s : State) : State := s.forAll (s.chan n) attemptLane

/-- The entry to ABSENT or TRAIN_FAIL increments k, up to 9 (R61). -/
def bumpRetry (n : Nat) (s : State) : State :=
  s.wr (R.VSP_LANE_STAT_RETRY_K n) (min 9 (s.rd (R.VSP_LANE_STAT_RETRY_K n) + 1))

/-- TRAIN_TIME: TRAINING to UP or TRAIN_FAIL, units of 4 µs (R79). -/
def stampTrainTime (n : Nat) (s : State) : State :=
  match (s.lane n).trainAt with
  | some c => s.wr (R.VSP_TRAIN_STAT_TRAIN_TIME n) (satN 18 ((s.chalk.cycles - c) / 4000))
  | none => s

/-- A lane stops training or taking part in UP: its search ends, and its back channel carries FILLER again, a RETRAIN burst
included (R61, R63). -/
def laneRest (n : Nat) (s : State) : State :=
  onLane n (fun l => { l with phase := .idle, waiting := false, linkUp := false, converged := false, burst := false,
                              lockTimer := false, trainAt := none }) s

/-- A record of TRAIN_FAIL for the port of lane `n` (R60, R488): ATTEMPT and PSET are those of the attempt that failed. -/
def trainRecord (n cause : Nat) (s : State) : State :=
  let b := s.base n
  jnlAppend (s.jnlRecord 0x12 (if s.topcoat then 5 else 1) b (bits (s.jnlEntry b) 1 0 + 1) (b2n (s.lane b).setB) cause 0) s.jnlEntries s

/-- The port or gang of lane `n` enters TRAIN_FAIL with CAUSE `cause`, because of lanes `fs`: a training event on each one's own port,
journal entry, retry timer (R60, R73). During Undercoat the entry has OUTCOME FAIL, later INFO. -/
def trainFail (n cause : Nat) (fs : List Nat) (s : State) : State :=
  let b := s.base n
  let s1 := (alignClear n s).forAll (s.chan n) (fun i t => laneRest i (setLaneState i 5 (stampTrainTime i t)))
  let s2 := (b :: fs).foldl (fun t i => t.wr (R.VSP_TRAIN_STAT_CAUSE i) cause) s1
  trainRecord b cause (s2.wr (R.VSP_LANE_STAT_RETRY_K b) (min 9 (s.rd (R.VSP_LANE_STAT_RETRY_K b) + 1)) |>.forAll fs (laneEvent · 5))

/-- Block lock is found on lane `n` (R53, R63); a lane in OFF has no receiver. -/
def lockFound (n : Nat) (s : State) : State :=
  if s.laneState n = 0 then s
  else
    let s1 := (s.wr (R.VSP_LANE_STAT_BLOCK_LOCK n) 1).wr (R.VSP_LANE_STAT_SIG_DET n) 1
    if s.laneState n = 1 then
      trainPass n (setLaneState n 2 (onLane n (fun l => { l with lockTimer := false,
                                                                 trainAt := some (l.trainAt.getD s.chalk.cycles) }) s1))
    else s1

/-- No block lock within 50 ms of the start of the attempt (R61): the lanes without lock raise their lock events (R73). `energy` is
what the receiver of lane `n` detects (R54). -/
def lockTimeout (n : Nat) (energy : Bool) (s : State) : State :=
  let fs := (s.chan n).filter (fun i => s.laneState i == 1 && (s.lane i).lockTimer)
  if fs = [] then s
  else
    let s1 := (alignClear n s).forAll (s.chan n) (fun i t => laneRest i (setLaneState i 4 t))
    (bumpRetry (s.base n) (s1.wr (R.VSP_LANE_STAT_SIG_DET n) (b2n energy))).forAll fs (laneEvent · 0)

/-- A gang is taped off for the loss of a lane: the gang port is TAPED, the other lanes PARKED (R63, R72). The lock event is
that of port `ev`; the collector records the taping (R460). -/
def gangTape (n ev : Nat) (s : State) : State :=
  let b := s.base n
  let s1 := (alignClear n (portLeaveUp b s)).forAll (s.chan n) (fun i t =>
    onLane i (fun l => { l with lossTaped := true }) (laneRest i (setLaneState i (if i = b then 6 else 7) t)))
  let s2 := (bumpRetry b s1).raise (portEv ev 0)
  { s2 with ruleTaped := s2.ruleTaped ++ [(b, portEv ev 0)] }

/-- What the loss of lock of lane `n` does to its port or gang (R60, R63, R72). DESIGN CHOICE (log 92): in TRAINING the lane stops
sending LINK_UP, and has to converge again. -/
def lockGone (n : Nat) (s : State) : State :=
  match s.laneState n with
  | 2 => alignClear n (setLaneState n 1 (onLane n (fun l => { l with phase := .idle, waiting := false, converged := false,
                                                                     linkUp := false, clear64 := false, lostLock := true }) s))
  | 3 => if s.inGang n then gangTape n n s
         else attempt n ((portLeaveUp n (s.wr (R.VSP_LANE_STAT_ALIGNED n) 0)).raise (portEv n 0))
  | _ => s

/-- Block lock is lost on lane `n`, which held it (R53, R63). `energy` is what the receiver still detects (R54). -/
def lockLost (n : Nat) (energy : Bool) (s : State) : State :=
  if s.laneState n = 0 ∨ !s.flag (R.VSP_LANE_STAT_BLOCK_LOCK n) then s
  else lockGone n (((s.inc (R.VSP_LOCK_LOSS n)).wr (R.VSP_LANE_STAT_BLOCK_LOCK n) 0).wr (R.VSP_LANE_STAT_SIG_DET n) (b2n energy))

/-- CAUSE at the expiry of the 500 ms budget: the first value whose condition holds (R60). -/
def State.budgetCause (s : State) (n : Nat) : Nat :=
  let c := s.chan n
  if c.any (fun i => s.laneState i == 1 && (s.lane i).lostLock) then 2
  else if s.inGang n && c.all (fun i => (s.lane i).seen64) && !s.flag (R.VSP_LANE_STAT_ALIGNED (s.base n)) then 4
  else if c.any (fun i => (s.lane i).upSent) then 5 else 1

/-- The lanes because of which the attempt fails with CAUSE `cause` (R60, R73): those in LOCKING, the gang port for alignment, those
without 64 non-TRAIN blocks since LINK_UP, or those that have not converged; the lowest lane when none stands out. -/
def State.budgetLanes (s : State) (n cause : Nat) : List Nat :=
  let fs := match cause with
    | 2 => (s.chan n).filter (fun i => s.laneState i == 1)
    | 4 => []
    | 5 => (s.chan n).filter (fun i => !(s.lane i).clear64)
    | _ => (s.chan n).filter (fun i => !(s.lane i).converged)
  if fs = [] then [s.base n] else fs

/-- The 500 ms budget expires: an attempt that entered TRAINING and has not reached UP fails (R60, R63). -/
def budgetExpiry (n : Nat) (s : State) : State :=
  let b := s.base n
  if (s.chan n).any (fun i => (s.lane i).trainAt.isSome && (s.laneState i == 1 || s.laneState i == 2)) then
    trainFail b (s.budgetCause n) (s.budgetLanes n (s.budgetCause n)) s
  else s

/-! ### The training search (R56 to R59) -/

/-- Sends the next tap request on lane `n` (R56, R57): the next SEQ, 0x1 to 0xF. DESIGN CHOICE (log 92): the opening preset request
takes SEQ 0x1 like any request ("for each request, the device takes the next SEQ"), so the first move has 0x2; the bring-up example
shows the first move with 0x1. -/
def request (n : Nat) (f : ReqFor) (s : State) : State :=
  onLane n (fun l => { l with reqFor := f, reqSeq := l.reqSeq % 15 + 1, waiting := true, echo := false, timeouts := 0,
                              phase := if l.adapted then .requesting else .adapting })
    (s.bumpSat (R.VSP_TRAIN_STAT_REQS n))

/-- The search takes its next move, or ends the pass and requests the other preset (R56). -/
def nextMove (n : Nat) (s : State) : State :=
  let l := s.lane n
  if l.fails < 4 ∧ l.reqs < l.maxReq then request n .move (s.setLane n { l with reqs := l.reqs + 1 })
  else request n .start (s.setLane n { l with preset := 3 - l.preset, moveIx := 0, fails := 0, reqs := 0 })

/-- Lane `n` has converged; once every lane of the channel has, LINK_UP is sent on all of them in the same cycle (R59, R71). -/
def converge (n : Nat) (s : State) : State :=
  let s1 := onLane n (fun l => { l with phase := .linkUp, converged := true }) s
  if (s1.chan n).all (fun i => (s1.lane i).converged) then
    s1.forAll (s1.chan n) (fun i => onLane i (fun l => { l with linkUp := true, upSent := true, seen64 := false, clear64 := false }))
  else s1

/-- A measurement window of the search ends with `p` pseudo-errors and `bad` invalid headers (R56). DESIGN CHOICE (log 92): a move's
window without invalid headers and with p ≤ PE_MAX converges even where p is not below pe, as R56's sentence on convergence says; the
pseudocode would take the move back first. -/
def judgeWindow (n bad p : Nat) (s : State) : State :=
  let l := s.lane n
  if bad = 0 ∧ p ≤ l.peMax then converge n s
  else match l.reqFor with
    | .move =>
      if p < l.pe then nextMove n (s.setLane n { l with pe := p, fails := 0 })
      else request n .inverse (s.setLane n { l with reqs := l.reqs + 1, moveIx := (l.moveIx + 1) % 4, fails := l.fails + 1 })
    | _ => nextMove n (s.setLane n { l with pe := p, moveIx := 0, fails := 0, reqs := 0 })

/-- The answer to the outstanding request of lane `n` arrives; `ok` when every tap field is UPDATED (R56, R57). -/
def tapAnswer (n : Nat) (ok : Bool) (s : State) : State :=
  let l := { s.lane n with waiting := false, echo := false }
  match l.reqFor with
  | .start => s.setLane n { l with phase := if l.adapted then .settling else .adapting }
  | .move => if ok then s.setLane n { l with phase := .settling }
             else nextMove n (s.setLane n { l with moveIx := (l.moveIx + 1) % 4, fails := l.fails + 1 })
  | .inverse => nextMove n (s.setLane n l)

/-- The 2 ms of receiver adaptation end (R56, R64). -/
def adaptationEnd (n : Nat) (s : State) : State :=
  let l := s.lane n
  if s.laneState n = 2 ∧ l.phase = .adapting then
    s.setLane n { l with adapted := true, phase := if l.waiting then .requesting else .measuring }
  else s

/-- A DFE tap that adapts from `old` towards `new` over `k` blocks: at most one LSB per 4,096 blocks (R64); s5.0 (R80). -/
def tapMove (k old new : Nat) : Nat :=
  let d : Int := k / 4096
  ofSigned 5 (clampI (toSigned 5 old - d) (toSigned 5 old + d) (toSigned 5 new))

/-- The equalisation codes of lane `n` adapt over `k` blocks: in TRAINING the CTLE and the DFE, in UP the DFE unless ADAPT_FREEZE
holds it (R64, R80). -/
def storeEq (n k : Nat) (eq : RxEq) (s : State) : State :=
  let st := s.laneState n
  let tap (f : Fld) (v : Nat) (t : State) : State := t.wr f (tapMove k (s.rd f) v)
  let s1 := s.when (st == 2) (·.wr (R.VSP_RX_EQ_CTLE n) eq.ctle)
  if st = 2 ∨ st = 3 ∧ !s.flag (R.VSP_LANE_CTRL_ADAPT_FREEZE n) then
    tap (R.VSP_RX_EQ_DFE5 n) eq.dfe5 (tap (R.VSP_RX_EQ_DFE4 n) eq.dfe4 (tap (R.VSP_RX_EQ_DFE3 n) eq.dfe3
      (tap (R.VSP_RX_EQ_DFE2 n) eq.dfe2 (tap (R.VSP_RX_EQ_DFE1 n) eq.dfe1 s1))))
  else s1

/-- Blocks of a measurement window of lane `n` (R56): 2^18 at full rate. -/
def State.windowBlocks (s : State) (n : Nat) : Nat := 2 ^ (18 - s.rd (R.VSP_LANE_STAT_RATE n))

/-- Blocks that lane `n` receives in `us` µs (R42). -/
def State.blocksIn (s : State) (n us : Nat) : Nat := us * 3125 / (8 * 2 ^ s.rd (R.VSP_LANE_STAT_RATE n))

/-- The eye monitor updates VSP_EYE after a measurement window (R64, R81). -/
def storeEye (n pe height width : Nat) (s : State) : State :=
  ((s.wr (R.VSP_EYE_PE_LAST n) (satN 16 pe)).wr (R.VSP_EYE_HEIGHT n) (satN 8 height)).wr (R.VSP_EYE_WIDTH n) (satN 8 width)

/-- A tap request is unanswered for 2 ms (R58). -/
def tapTimeout (n : Nat) (s : State) : State :=
  let l := s.lane n
  if s.laneState n = 2 ∧ l.waiting then
    let s1 := s.inc (R.VSP_TAP_TMO n)
    if 3 ≤ l.timeouts + 1 then trainRestart n s1 else s1.setLane n { l with timeouts := l.timeouts + 1, echo := false }
  else s

/-- UP is not reached within 1 ms of the first LINK_UP (R59). -/
def linkUpTimeout (n : Nat) (s : State) : State :=
  if s.laneState n = 2 ∧ (s.lane n).linkUp then s.forAll (s.chan n) (fun i t => if t.laneState i = 2 then trainRestart i t else t)
  else s

/-- The port or gang of lane `n` enters UP (R59, R63, R82): k = 0, VSP_LINK_TIME latched, the lock and training conditions
clear (R457), and the port layer starts. -/
def enterUp (n : Nat) (s : State) : State :=
  let b := s.base n
  let s1 := s.forAll (s.chan n) (fun i t =>
    let t1 := setLaneState i 3 (onLane i (fun l => { l with phase := .idle, linkUp := false, burst := false, trainAt := none,
                                                            lostLock := false }) (stampTrainTime i t))
    (((t1.wr (R.VSP_LINK_TIME_LO i) t1.now).wr (R.VSP_LINK_TIME_HI i) (t1.now / 2 ^ 32)).fall (portEv i 0)).fall (portEv i 5))
  portEnterUp b ((s1.wr (R.VSP_LANE_STAT_RETRY_K b) 0).wr (R.VSP_LANE_STAT_ALIGNED b) 1)

/-- The channel enters UP when every lane has shown 64 non-TRAIN blocks since LINK_UP and a gang is aligned (R59). -/
def tryUp (n : Nat) (s : State) : State :=
  let c := s.chan n
  if c.all (fun i => s.laneState i == 2 && (s.lane i).linkUp && (s.lane i).clear64) &&
      (!s.inGang n || s.flag (R.VSP_LANE_STAT_ALIGNED (s.base n))) then enterUp n s else s

/-- Lane `n` has received 64 consecutive non-TRAIN blocks (R59). -/
def laneClear (n : Nat) (s : State) : State :=
  if s.laneState n = 2 ∧ (s.lane n).linkUp then tryUp n (onLane n (fun l => { l with clear64 := true, seen64 := true }) s) else s

/-- The port or gang of lane `n` returns from UP to TRAINING; `burst` sends RETRAIN for 100 µs (R55, R63). -/
def backToTraining (n : Nat) (burst : Bool) (s : State) : State :=
  (portLeaveUp (s.base n) s).forAll (s.chan n) (fun i t =>
    trainPass i (setLaneState i 2 (onLane i (fun l => { l with burst := burst, trainAt := some t.chalk.cycles,
                                                               lostLock := false, upSent := false, seen64 := false }) t)))

/-! ### Blocks (R47 to R51, R66, R67) -/

/-- The elastic buffer overflows or underflows (R67). -/
def bufferError (n : Nat) (s : State) : State :=
  laneEvent n 0 (packetCut (s.base n) ((onLane n (fun l => { l with fill := 32 }) s).inc (R.VSP_EB_ERR n)))

/-- The port's dual-clock queue overflows: reported as the lock event, and the line in progress is discarded (R22). -/
def dualOverflow (n : Nat) (s : State) : State :=
  if s.laneState n = 0 then s else laneEvent n 0 (packetCut (s.base n) s)

/-- A FILLER (or, in TRAINING, a TRAIN block) meets the elastic buffer at fill `fill` (R66, R67). -/
def elastic (n fill : Nat) (s : State) : State :=
  if fill = 0 ∨ 64 ≤ fill then bufferError n s
  else if 40 < fill then (onLane n (fun l => { l with fill := fill - 1 }) s).inc (R.VSP_FILL_DEL n)
  else if fill < 24 then (onLane n (fun l => { l with fill := fill + 1 }) s).inc (R.VSP_FILL_INS n)
  else onLane n (fun l => { l with fill := fill }) s

/-- FILLER, SOP or data from a port in training before LINK_UP makes the device send RETRAIN (R55). -/
def wrongBlock (n : Nat) (s : State) : State :=
  s.when (s.laneState n == 2 && !(s.lane n).linkUp) (onLane n (fun l => { l with burst := true }))

/-- IDENT is latched (R50, R63, R76, R115): the head ID, NEW_HEAD, and the check of GANG and LANE against the Lath. -/
def latchIdent (n : Nat) (page : List Byte) (s : State) : State :=
  let id := beAt page 0 4
  let g := beAt page 4 1
  let l := s.lane n
  let fresh := l.headSeen && id != s.rd (R.VSP_HEAD_ID_HEAD_ID n)
  let s1 := ((s.wr (R.VSP_HEAD_ID_HEAD_ID n) id).when fresh (newHead n)).setLane n { l with headSeen := true }
  if s.laneState n ≠ 2 then s1
  else if bits g 7 6 ≠ s.rd (R.VSP_LANE_STAT_GANG n) ∨ bits g 5 4 ≠ s.rd (R.VSP_LANE_STAT_LANE n) then trainFail n 3 [n] s1
  else if (s1.lane n).phase = .ident then request n .start (onLane n (fun l => { l with phase := .adapting }) s1)
  else s1

/-- CAPS is latched (R50, R77). -/
def latchCaps (n : Nat) (page : List Byte) (s : State) : State :=
  ((((s.wr (R.VSP_HEAD_CAPS_CHAL n) (bits (beAt page 0 1) 4 4)).wr (R.VSP_HEAD_CAPS_RATES n) (bits (beAt page 0 1) 3 0)).wr
    (R.VSP_HEAD_CAPS_FORMATS n) (bits (beAt page 1 1) 4 0)).wr (R.VSP_HEAD_CAPS_STREAMS n) (bits (beAt page 2 1) 3 0)).wr
    (R.VSP_HEAD_CAPS_MAX_LINE n) (beAt page 3 1)

/-- Two consecutive blocks of a page with equal content latch it (R50). -/
def trainPage (n : Nat) (block : List Byte) (s : State) : State :=
  let page := slice block 3 5
  let l := s.lane n
  match bits (beAt block 1 1) 7 6 with
  | 0 =>
    let s1 := s.setLane n { l with identPage := some page }
    if l.identPage = some page then latchIdent n page s1 else s1
  | 1 =>
    let s1 := s.setLane n { l with capsPage := some page }
    if l.capsPage = some page then latchCaps n page s1 else s1
  | _ => s

/-- The second consecutive TRAIN block that echoes the request's SEQ carries its answer (R49, R57). -/
def trainEcho (n : Nat) (block : List Byte) (s : State) : State :=
  let l := s.lane n
  if s.laneState n = 2 ∧ l.waiting then
    if bits (beAt block 2 1) 7 4 = l.reqSeq then
      if l.echo then tapAnswer n (bits (beAt block 1 1) 5 0 == 0) s else s.setLane n { l with echo := true }
    else s.setLane n { l with echo := false }
  else s

/-- A TRAIN block arrives on lane `n` at elastic-buffer fill `fill` (R49, R63, R66). -/
def trainBlock (n : Nat) (block : List Byte) (fill : Nat) (s : State) : State :=
  let s1 := if s.laneState n = 3 then backToTraining n false s else s
  let s2 := if s.laneState n = 2 then elastic n fill s1 else s1
  let s3 := (onLane n (fun l => { l with clear64 := false }) s2).wr (R.VSP_LANE_STAT_HEAD_BCL n) (bits (beAt block 2 1) 3 3)
  trainEcho n block (trainPage n block s3)

/-- A FILLER arrives (R55, R66, R67). -/
def fillerBlock (n fill : Nat) (s : State) : State := elastic n fill (wrongBlock n s)

/-- A reserved control block, or with `badHeader` a block with an invalid sync header, arrives on lane `n`, which holds block lock
(R48, R53). -/
def reservedBlock (n : Nat) (badHeader : Bool) (s : State) : State :=
  packetBad (s.base n) ((s.when badHeader (·.inc (R.VSP_SYNC_ERR n))).inc (R.VSP_BLK_ERR n))

/-! ### Striped blocks (R52, R68) -/

/-- The port or gang with lowest lane `b` takes the next block of its striped stream (R52, R68): SIDLE is discarded, and so is
everything while the port is not in UP (R63; DESIGN CHOICE, log 99: it is neither checked nor counted). -/
def streamBlock (b : Nat) (w : Block) (s : State) : State :=
  if s.laneState b ≠ 3 then s
  else match blockKind w with
    | .sop => packetStart b s
    | .data => packetData b (blockBytes w) s
    | _ => s

/-- The dual-clock queue of the gang of lane `n` delivers what has its turn: block j comes from the lane with LANE = j mod W (R68).
`k` bounds the number of blocks. -/
def gangDrain (n : Nat) : Nat → State → State
  | 0, s => s
  | k + 1, s =>
    let b := s.base n
    let i := b + (s.port b).stripe
    match (s.lane i).queue with
    | [] => s
    | w :: rest =>
      let s1 := onLane i (fun l => { l with queue := rest }) s
      gangDrain n k (streamBlock b w (s1.setPort b { s1.port b with stripe := ((s1.port b).stripe + 1) % (s.chan n).length }))

/-- Blocks that wait in the dual-clock queue of the gang of lane `n`. -/
def State.gangQueued (s : State) (n : Nat) : Nat := ((s.chan n).map (fun i => (s.lane i).queue.length)).sum

/-- A SOP, SIDLE or data block arrives on lane `n` (R52, R55, R68). In a gang it waits for its turn in the dual-clock queue of 256
blocks (R20, R21); before alignment only what follows a lane's ALIGN is kept. -/
def stripedBlock (n : Nat) (w : Block) (s : State) : State :=
  let s1 := s.when (blockKind w != .sidle) (wrongBlock n)
  if !s1.inGang n then streamBlock n w s1
  else
    let aligned := s1.flag (R.VSP_LANE_STAT_ALIGNED (s1.base n))
    if !aligned && (s1.lane n).marker.isNone then s1
    else if 256 ≤ s1.gangQueued n then
      dualOverflow n (s1.forAll (s1.chan n) (fun i => onLane i (fun l => { l with queue := [] })))
    else
      let s2 := onLane n (fun l => { l with queue := l.queue ++ [w] }) s1
      if aligned then gangDrain n 256 s2 else s2

/-! ### Gang alignment (R69, R70) -/

/-- An ALIGN block with the declared GANG and LANE, within the tolerated skew of 64 UI: its MARKER (R69, R70). -/
def State.alignMarker (s : State) (n : Nat) (block : List Byte) (skew : Nat) : Option Nat :=
  if bits (beAt block 1 1) 7 6 = s.rd (R.VSP_LANE_STAT_GANG n) ∧ bits (beAt block 1 1) 5 4 = s.rd (R.VSP_LANE_STAT_LANE n) ∧ skew ≤ 64
  then some (beAt block 2 4) else none

/-- Before alignment: once every lane has delivered its ALIGN, equal markers line up; twice in succession aligns, and the striped
stream starts at the lowest lane (R68, R70). -/
def alignSeek (n : Nat) (m : Option Nat) (s : State) : State :=
  let b := s.base n
  let again (t : State) : State := t.forAll (t.chan n) (fun i => onLane i (fun l => { l with marker := none, queue := [] }))
  match m with
  | none => onLane b (fun l => { l with lineUps := 0 }) (again s)
  | some v =>
    let s1 := onLane n (fun l => { l with marker := some v, queue := [] }) s
    let ms := (s1.chan n).map (fun i => (s1.lane i).marker)
    if ms.all (·.isSome) then
      let k := if ms.all (· == some v) then (s1.lane b).lineUps + 1 else 0
      let s2 := onLane b (fun l => { l with lineUps := k }) s1
      if 2 ≤ k then gangDrain n 256 (tryUp n ((s2.setPort b { s2.port b with stripe := 0 }).wr (R.VSP_LANE_STAT_ALIGNED b) 1))
      else again s2
    else s1

/-- Alignment is lost: it counts as a loss of lock of lane `n`; the lock event is the gang port's (R70, R72, R73). -/
def alignLost (n : Nat) (s : State) : State :=
  let b := s.base n
  let s1 := (s.inc (R.VSP_ALIGN_ERR b)).inc (R.VSP_LOCK_LOSS n)
  if s.laneState b = 3 then gangTape n b s1 else lockGone n (alignClear n (s1.wr (R.VSP_LANE_STAT_BLOCK_LOCK n) 0))

/-- Aligned: an ALIGN missing or mismatched at two consecutive expected positions loses alignment (R70). -/
def alignHold (n : Nat) (m : Option Nat) (s : State) : State :=
  let l := s.lane n
  let want := (l.marker.getD 0 + 1) % 2 ^ 32
  if m = some want then s.setLane n { l with marker := m, alignBad := 0 }
  else if 2 ≤ l.alignBad + 1 then alignLost n s
  else s.setLane n { l with marker := some want, alignBad := l.alignBad + 1 }

/-- The position of an ALIGN of lane `n` of a gang has come, with marker `m` or without a matching one (R70). -/
def alignAt (n : Nat) (m : Option Nat) (s : State) : State :=
  if s.flag (R.VSP_LANE_STAT_ALIGNED (s.base n)) then alignHold n m s else alignSeek n m s

/-- An ALIGN block arrives on lane `n` (R69, R70): a single-lane port discards it. Its BIP8 is compared with the lane's own. -/
def alignBlock (n : Nat) (block : List Byte) (skew : Nat) (s : State) : State :=
  if !s.inGang n then s
  else
    let s1 := s.when (beAt block 6 1 != (s.lane n).bip.toNat) (·.inc (R.VSP_BIP_ERR n))
    alignAt n (s1.alignMarker n block skew) (onLane n (fun l => { l with bip := 0 }) s1)

/-- The expected position of an ALIGN passes without one (R70). -/
def alignMissing (n : Nat) (s : State) : State :=
  if !s.inGang n || s.laneState n == 0 || !s.flag (R.VSP_LANE_STAT_BLOCK_LOCK n) then s else alignAt n none s

/-! ### A block arrives (R45 to R48, R53, R69, R71) -/

/-- The lane's own BIP8 takes a descrambled block: FILLER and TRAIN do not count, and an ALIGN ends a span without belonging to one
(R69). -/
def bipTake (n : Nat) (w : Block) (s : State) : State :=
  match blockKind w with
  | .filler | .train | .align => s
  | _ => onLane n (fun l => { l with bip := l.bip ^^^ bip8 (blockBytes w) }) s

/-- Lane `n`, which holds block lock, takes a descrambled block by its kind (R47, R48, R53): `fill` is the elastic buffer's fill at it,
`skew` the skew of an ALIGN. Message units are taken on the lowest lane of a port in UP (R71). -/
def laneBlock (n : Nat) (w : Block) (fill skew : Nat) (s : State) : State :=
  let bs := blockBytes w
  let s1 := bipTake n w s
  match blockKind w with
  | .invalid => reservedBlock n true s1
  | .reserved => reservedBlock n false s1
  | .filler => fillerBlock n fill s1
  | .train => trainBlock n bs fill s1
  | .align => alignBlock n bs skew s1
  | .msg => s1.when (s1.msgPort n) (msgUnit n (bs.drop 1))
  | .sop | .sidle | .data => stripedBlock n w s1

/-- Block `w` arrives on the wire of lane `n`: its payload is descrambled (R46), and a lane with block lock takes it. A lane in OFF
has no receiver (R63). -/
def rxBlock (n : Nat) (w : Block) (fill skew : Nat) (s : State) : State :=
  if s.laneState n = 0 then s
  else
    let p := blockPayload w
    let u := mkBlock (w.extractLsb' 64 2) (descramble (s.lane n).rxScr p)
    let s1 := onLane n (fun l => { l with rxScr := scrNext p }) s
    if s.flag (R.VSP_LANE_STAT_BLOCK_LOCK n) then laneBlock n u fill skew s1 else s1

/-- A row of blocks arrives on the lanes of the channel whose lowest lane is `n`, each with its lane's index (R68). -/
def rxBlocks (n : Nat) (ws : List (Fin 4 × Block)) (s : State) : State :=
  ws.foldl (fun t w => rxBlock (n + w.1) w.2 (t.lane (n + w.1)).fill 0 t) s

/-! ### Taping, service and the Lath -/

/-- The collector or shedding tapes off the port or gang of lane `n` (R63, R461). -/
def lanesTape (n : Nat) (s : State) : State :=
  let b := s.base n
  if s.laneState b = 0 then s
  else
    let s1 := if s.laneState b = 3 then portLeaveUp b s else s
    setChanState n 6 ((alignClear n s1).forAll (s.chan n) laneRest)

/-- The port or gang returns to service: LOCKING, a new attempt on all lanes (R63, R461). -/
def lanesReturn (n : Nat) (s : State) : State := if s.laneState (s.base n) = 0 then s else attempt n s

/-- The Lath image enables lane `n`: LOCKING with k = 0 (R54, R63). -/
def laneEnable (n : Nat) (s : State) : State := attemptLane n (s.wr (R.VSP_LANE_STAT_RETRY_K n) 0)

/-- The port goes OFF: receiver and back channel are powered down (R63). -/
def laneOff (n : Nat) (s : State) : State :=
  let s1 := if s.laneState n = 3 then portLeaveUp n s else s
  setLaneState n 0 ((((s1.setLane n { Lane.init with headSeen := (s1.lane n).headSeen }).wr
    (R.VSP_LANE_STAT_BLOCK_LOCK n) 0).wr (R.VSP_LANE_STAT_ALIGNED n) 0).wr (R.VSP_LANE_STAT_SIG_DET n) 0)

/-- The control block that the back channel of lane `n` carries when no message unit does (R47, R51, R55, R57, R59), before
scrambling; `none` in OFF, where the back channel is powered down (R63), and on a lane under test, whose normal function is suspended
(R536). -/
def State.backBlock (s : State) (n : Nat) : Option Block :=
  let l := s.lane n
  if s.laneState n = 0 ∨ s.rd (R.TST_LANE_CTRL_MODE n) ≠ 0 then none
  else if l.burst then some (controlBlock [0x69])
  else if l.linkUp then some (controlBlock [0x66])
  else if l.waiting then
    let mv := if l.reqFor = .move then l.moveIx else [1, 0, 3, 2].getD ((l.moveIx + 3) % 4) 0
    let code := if l.reqFor = .start then 0 else [0x04, 0x08, 0x40, 0x80].getD mv 0
    some (controlBlock [0x4B, byte (l.reqSeq * 16), byte code, byte (if l.reqFor = .start then l.preset else 0)])
  else some (controlBlock [0x1E, byte (s.rd (R.VSP_LANE_STAT_RATE n) * 64), byte n])

/-- The block that stands on the back channel of lane `n` in such a slot: scrambled (R45, R46). -/
def State.backWire (s : State) (n : Nat) : Option Block := (s.backBlock n).map (onWire (s.lane n).txScr)

end Sys2Proof.Machine
end

