-- ==== Sys2Proof/Machine/TestLane.lean ====
section
/-! DEFINITION. Lanes under test (R532 to R543): modes, pattern generators and checkers, error injection, eye scan and broadcast. Test lane L < 192
is sensor lane L, and lane 192 + u is uplink lane u. -/

namespace Sys2Proof.Machine

/-- MODE of test lane `l` (R548). -/
def State.tstMode (s : State) (l : Nat) : Nat := s.rd (R.TST_LANE_CTRL_MODE l)

/-- Lane `l` may leave OFF (R533). -/
def State.tstEligible (s : State) (l : Nat) : Bool :=
  if l < 192 then s.laneState l == 0 || s.laneState l == 6 || s.laneState l == 7
  else !s.flag (R.UPL_LANE_STAT_IN_USE (l - 192)) || s.flag (R.UPL_LANE_STAT_TAPED (l - 192))

/-- Mode `m` of lane `l` is not reserved (R534, R535). -/
def tstModeOk (l m : Nat) : Bool := if l < 192 then decide (m ≤ 4) else decide (m ≤ 5)

/-- Mode `m` of lane `l` has a generator (R534, R535). -/
def tstGen (l m : Nat) : Bool := if l < 192 then m == 2 || m == 3 || m == 4 else m == 1 || m == 3 || m == 4

/-- Mode `m` of lane `l` has a checker (R534, R535). -/
def tstCheck (l m : Nat) : Bool := if l < 192 then m == 1 || m == 3 || m == 4 else decide (2 ≤ m ∧ m ≤ 5)

/-- The test lanes of the port or gang of lane `n` are all OFF. -/
def State.portUntested (s : State) (n : Nat) : Bool := (s.chan n).all (fun i => s.tstMode i == 0)

/-- Bits that lane `l` receives in `c` CLK_CORE cycles: 25.78125 Gb/s divided by 2^RATE on a sensor lane, 212.5 Gb/s on an uplink
lane (R42, R535). -/
def State.tstBits (s : State) (l c : Nat) : Nat :=
  if l < 192 then c * 825 / (32 * 2 ^ s.rd (R.TST_LANE_CTRL_RATE l)) else c * 425 / 2

/-! ### Patterns (R535, R537, R539) -/

/-- Order and middle term of the generator x^n + x^m + 1 of PRBS pattern `p`; 6 and 7 act as PRBS31 (R537). -/
def prbsTerms (p : Nat) : Nat × Nat := [(7, 6), (9, 5), (15, 14), (23, 18)].getD p (31, 28)

/-- The register of the generator x^n + x^m + 1 after `k` bits, from the all-ones state (R537): bit 0 is the youngest. -/
def prbsState (n m : Nat) : Nat → Nat
  | 0 => 2 ^ n - 1
  | k + 1 => let r := prbsState n m k; (2 * r + b2n (r.testBit (n - 1) != r.testBit (m - 1))) % 2 ^ n

/-- Bit `k` of the pattern of lane `l`, counted from the restart (R537). DESIGN CHOICE (log 101): a PRBS generator emits the oldest
bit of its register. -/
def State.patBit (s : State) (l k : Nat) : Bool :=
  let p := s.rd (R.TST_LANE_CTRL_PAT l)
  let i := 127 - k % (s.rd (R.TST_LANE_CTRL_PLEN_M1 l) + 1)
  (if p = 5 then (s.rd (R.TST_USER l (i / 32))).testBit (i % 32)
    else (prbsState (prbsTerms p).1 (prbsTerms p).2 k).testBit ((prbsTerms p).1 - 1)) != s.flag (R.TST_LANE_CTRL_INV l)

/-- Bit `k` that the generator of lane `l` emits after its restart: INJECT has inverted some (R539). -/
def State.genBit (s : State) (l k : Nat) : Bool := s.patBit l k != (s.tstLane l).flips.contains k

/-- The PAM4 symbol of a pair of bits, the first as the MSB (R535). PRESUMED (log 101): the Gray code of IEEE 802.3. -/
def pam4 (a b : Bool) : Nat := 2 * b2n a + b2n (a != b)

/-- Symbol `k` that the generator of an uplink lane emits. -/
def State.genSymbol (s : State) (l k : Nat) : Nat := pam4 (s.genBit l (2 * k)) (s.genBit l (2 * k + 1))

/-- Bits that the generator of lane `l` has emitted since its restart: a back channel runs at 1.611328125 Gb/s (R42, R534). -/
def State.genSent (s : State) (l : Nat) : Nat :=
  let c := s.chalk.cycles - (s.tstLane l).genAt
  if l < 192 ∧ s.tstMode l ≠ 4 then c * 825 / 512 else s.tstBits l c

/-- The bit that INJECT inverts: the next one, on an uplink lane the first of a symbol (R539). -/
def State.injectAt (s : State) (l : Nat) : Nat := if l < 192 then s.genSent l else (s.genSent l + 1) / 2 * 2

/-! ### Checkers (R538, R540) -/

/-- TST_BITS and TST_ERR of lane `l` count the bits compared since the last account (R540): `errs` of them were in error, a free value
where the number has not been told. -/
def tstCount (l : Nat) (errs : Option Nat) (s : State) : State :=
  match (s.tstLane l).lockAt with
  | none => s
  | some c =>
    let n := s.tstBits l (s.chalk.cycles - c)
    let d := n - (s.tstLane l).counted
    let (e, s1) := match errs with
      | some e => (e, s)
      | none => if d = 0 then (0, s) else s.draw (d + 1)
    ((s1.setTst l { s1.tstLane l with counted := n }).inc64 (R.TST_BITS_LO l) (R.TST_BITS_HI l) d).inc64 (R.TST_ERR_LO l) (R.TST_ERR_HI l) e

/-- The bits compared so far are counted. -/
def tstAccount (l : Nat) (s : State) : State := tstCount l none s

/-- Every locked lane counts its compared bits: what a snapshot captures (R540). -/
def tstAccountAll (s : State) : State := s.forAll (s.tst.map (·.1)) tstAccount

/-- Generator and checker of lane `l` restart: the checker is unlocked (R537, R538). -/
def tstRestart (l : Nat) (s : State) : State :=
  let s1 := tstAccount l s
  (s1.setTst l { s1.tstLane l with lockAt := none, counted := 0, genAt := s1.chalk.cycles, flips := [] }).wr (R.TST_LANE_STAT_LOCK l) 0

/-- The receiver of lane `l` is powered down (R542). -/
def State.rxDown (s : State) (l : Nat) : Bool :=
  if l < 192 then s.laneState l == 0 && (s.tstMode l == 0 || s.tstMode l == 2)
  else !s.flag (R.UPL_LANE_STAT_IN_USE (l - 192)) && (s.tstMode l == 0 || s.tstMode l == 1)

/-- An eye-scan point of lane `l` ends with `errs` disagreements, or early (R541, R542). -/
def eyeEnd (l errs : Nat) (aborted : Bool) (s : State) : State :=
  if !(s.tstLane l).eye then s
  else
    let s1 := ((s.setTst l { s.tstLane l with eye := false }).wr (R.TST_EYE_STAT_BUSY l) 0).wr (R.TST_EYE_STAT_DONE l) 1
    if aborted then s1.wr (R.TST_EYE_STAT_ABORTED l) 1 else s1.wr (R.TST_EYE_ERR l) (satN 32 errs)

/-- Points on lanes whose receiver is powered down end early (R542). -/
def eyeSweep (s : State) : State :=
  s.forAll ((s.tst.filter (·.2.eye)).map (·.1)) (fun l t => if t.rxDown l then eyeEnd l 0 true t else t)

/-- MODE of lane `l` returns to OFF; a port whose taping has ended meanwhile enters LOCKING with its last lane (R536). -/
def tstOff (l : Nat) (s : State) : State :=
  let s1 := ((tstRestart l s).wr (R.TST_LANE_CTRL_MODE l) 0).wr (R.TST_LANE_STAT_ACTIVE l) 0
  let n := s1.base l
  if l < 192 ∧ s1.laneState n = 6 ∧ !(s1.lane n).lossTaped ∧ s1.portUntested l ∧ !s1.unitTaped n then lanesReturn n s1 else s1

/-- The test of lane `l` is ended by shedding (1) or by a Lath APPLY (2) (R536). -/
def tstEnded (l cause : Nat) (s : State) : State :=
  if s.tstMode l = 0 then s
  else (((tstRestart l s).wr (R.TST_LANE_CTRL_MODE l) 0).wr (R.TST_LANE_STAT_ACTIVE l) 0).wr (R.TST_LANE_STAT_ENDED l) cause

/-- A write of TST_LANE_CTRL without INJECT (R533, R537). -/
def tstWrite (l v : Nat) (s : State) : State :=
  let m := bits v 31 29
  if !tstModeOk l m ∨ (m ≠ 0 ∧ !s.tstEligible l) then s.wr (R.TST_LANE_STAT_REFUSED l) 1
  else
    let old := (s.tstMode l, s.rd (R.TST_LANE_CTRL_PAT l), s.rd (R.TST_LANE_CTRL_INV l), s.rd (R.TST_LANE_CTRL_RATE l),
      s.rd (R.TST_LANE_CTRL_PLEN_M1 l))
    let new := (m, bits v 28 26, bits v 25 25, bits v 23 22, bits v 6 0)
    let put (s : State) : State := ((((s.wr (R.TST_LANE_CTRL_MODE l) m).wr (R.TST_LANE_CTRL_PAT l) new.2.1).wr
      (R.TST_LANE_CTRL_INV l) new.2.2.1).wr (R.TST_LANE_CTRL_RATE l) new.2.2.2.1).wr (R.TST_LANE_CTRL_PLEN_M1 l) new.2.2.2.2
    if m = 0 then
      if old.1 = 0 then put s else tstOff l ((put (tstRestart l s)).wr (R.TST_LANE_CTRL_MODE l) old.1)
    else ((put (if new = old then s else tstRestart l s)).wr (R.TST_LANE_STAT_ACTIVE l) 1).wr (R.TST_LANE_STAT_ENDED l)
      (if old.1 = 0 then 0 else s.rd (R.TST_LANE_STAT_ENDED l))

/-- A write of TST_USERi of lane `l`: the pattern of an active lane changes (R537). -/
def tstUser (l i v : Nat) (s : State) : State :=
  let s1 := if s.tstMode l ≠ 0 ∧ s.rd (R.TST_USER l i) ≠ v then tstRestart l s else s
  s1.wr (R.TST_USER l i) v

/-- A write of INJECT: the next generated bit is inverted; where the lane's generator feeds its checker on the die, a locked checker
counts exactly one error (R538, R539). -/
def tstInject (l : Nat) (s : State) : State :=
  if !tstGen l (s.tstMode l) then s
  else
    let k := s.injectAt l
    if (s.tstLane l).flips.contains k then s
    else
      let s1 := s.setTst l { s.tstLane l with flips := (s.tstLane l).flips ++ [k] }
      if s.tstMode l = 4 ∧ s.flag (R.TST_LANE_STAT_LOCK l) then s1.inc64 (R.TST_ERR_LO l) (R.TST_ERR_HI l) 1 else s1

/-- A write of TST_BCAST_GO: the layout of TST_BCAST_CTRL is copied to every selected lane (R543). -/
def tstBroadcast (s : State) : State :=
  let v := 2 ^ 29 * s.rd R.TST_BCAST_CTRL_MODE + 2 ^ 26 * s.rd R.TST_BCAST_CTRL_PAT + 2 ^ 25 * s.rd R.TST_BCAST_CTRL_INV +
    2 ^ 22 * s.rd R.TST_BCAST_CTRL_RATE + s.rd R.TST_BCAST_CTRL_PLEN_M1
  s.forAll ((List.range 200).filter (fun l => (s.rd (R.TST_BCAST_MASK (l / 32))).testBit (l % 32))) (fun l => tstWrite l v)

/-- 256 matching bits lock the checker of lane `l` (R538). -/
def tstLock (l : Nat) (s : State) : State :=
  if !tstCheck l (s.tstMode l) ∨ s.flag (R.TST_LANE_STAT_LOCK l) then s
  else (s.setTst l { s.tstLane l with lockAt := some s.chalk.cycles, counted := 0 }).wr (R.TST_LANE_STAT_LOCK l) 1

/-- The checker of lane `l` loses lock, `errs` bits having been in error since the last account, and seeds again; the generator runs on
(R538, R540). -/
def tstLockLoss (l errs : Nat) (s : State) : State :=
  if !s.flag (R.TST_LANE_STAT_LOCK l) then s
  else
    let s1 := tstCount l (some errs) s
    ((s1.setTst l { s1.tstLane l with lockAt := none, counted := 0 }).wr (R.TST_LANE_STAT_LOCK l) 0).inc (R.TST_LOCK_LOSS l)

/-- A write of TST_EYE_CTRL.GO (R541, R542). -/
def eyeGo (l : Nat) (s : State) : State :=
  if s.rxDown l ∨ (s.tstLane l).eye then s.wr (R.TST_EYE_STAT_REFUSED l) 1
  else (s.setTst l { s.tstLane l with eye := true }).wr (R.TST_EYE_STAT_BUSY l) 1

end Sys2Proof.Machine
end

