-- ==== Sys2Proof/Machine/Collector.lean ====
section
/-! DEFINITION. The fault collector (R455 to R468, R472): events and their units, snags and escalation, notification, taping
and return of units and scopes, dependency windows, device fault and ALIVE. -/

namespace Sys2Proof.Machine

/-! ### Events and units (R455 to R457, R461) -/

/-- System events: number, default severity, and whether the cause is a level (R456). -/
def sysEvents : List (Nat × Nat × Bool) :=
  [(1488, 1, false), (1489, 1, false), (1490, 1, false), (1491, 1, false), (1496, 1, false), (1497, 0, false), (1498, 1, false),
   (1499, 0, false), (1504, 1, true), (1505, 4, true), (1506, 1, true), (1507, 1, false), (1512, 1, true), (1513, 0, false),
   (1520, 4, true), (1521, 1, true), (1522, 1, true), (1523, 1, true), (1524, 1, false)]

/-- Event `e` is reserved: it is never raised (R455). -/
def evReserved (e : Nat) : Bool :=
  decide (1192 ≤ e ∧ e < 1248 ∧ 6 ≤ e % 8) || decide (1467 ≤ e ∧ e < 1472) ||
    (decide (1488 ≤ e) && !sysEvents.any (·.1 == e))

/-- The default severity of event `e` (R455, R456). -/
def evDefault (e : Nat) : Nat :=
  if e < 1152 then [1, 0, 1, 1, 0, 1].getD (e % 6) 0
  else if e < 1184 then [2, 1, 0, 0].getD (e % 4) 0
  else if e < 1248 then [2, 0, 1, 1, 1, 0, 0, 0].getD (e % 8) 0
  else if e < 1296 then e % 2
  else if e < 1344 then 1 - e % 2
  else if e < 1368 then e % 2
  else if e < 1400 then 1
  else if e = 1465 then 1
  else if e = 1466 then 2
  else ((sysEvents.find? (·.1 == e)).map (·.2.1)).getD 0

/-- Event `e` has a level cause (R457). -/
def evLevel (e : Nat) : Bool :=
  if e < 1152 then e % 6 == 0 || e % 6 == 5
  else if e < 1184 then e % 4 == 0
  else if e < 1248 then e % 8 == 0
  else sysEvents.any (fun x => x.1 == e && x.2.2)

/-- The unit that S2 tapes off for event `e` (R461); `none` for system events. -/
def State.evUnit (s : State) (e : Nat) : Option Nat :=
  if e < 1152 then some (s.base (e / 6))
  else if e < 1184 then some (0x5000 + (e - 1152) / 4)
  else if e = 1190 then some 0xB000
  else if e = 1191 then some 0xC000
  else if e < 1248 then some (0x6000 + (e - 1184) / 8)
  else if e < 1296 then some (0x2000 + (e - 1248) / 2)
  else if e < 1344 then some (0x3000 + (e - 1296) / 2)
  else if e < 1368 then some (0x4000 + (e - 1344) / 2)
  else if e < 1400 then some (0x7000 + (e - 1368))
  else if e < 1464 then some (0x8000 + (e - 1400))
  else if e < 1472 then some 0x9000
  else if e < 1488 then some (0xA000 + (e - 1472))
  else none

/-- The field SEV of event `e`, with its default as reset value (R475). -/
def fltSev (e : Nat) : Fld := .at .flt (0x1000 + e / 8 * 4) (4 * (e % 8)) 3 (if evReserved e then 0 else evDefault e)

/-- The field NOESC of event `e` (R475). -/
def fltNoesc (e : Nat) : Fld := .at .flt (0x1000 + e / 8 * 4) (4 * (e % 8) + 3) 1 0

/-- SEV of event `e`: 5 to 7 act as 4; E1505 is fixed at S4 (R460, R475). -/
def State.evSev (s : State) (e : Nat) : Nat := if e = 1505 then 4 else min 4 (s.rd (fltSev e))

/-- Kind and index of a unit code (R288). -/
def unitKind (c : Nat) : Nat := c / 0x1000
def unitIx (c : Nat) : Nat := c % 0x1000

/-- Units of each kind (R288). -/
def unitCount (k : Nat) : Nat := [192, 12, 24, 24, 12, 8, 8, 32, 64, 1, 16, 1, 1].getD k 0

/-- Unit `c` is used: what is not used reads NONE (R479). -/
def State.unitUsed (s : State) (c : Nat) : Bool :=
  let i := unitIx c
  let port (n : Nat) : Bool := s.base n == n && (s.laneState n != 0 || (s.unit n).permanent)
  decide (i < unitCount (unitKind c)) &&
    match unitKind c with
    | 0 => port i
    | 1 => (List.range 16).any (fun k => port (16 * i + k))
    | 2 => s.nmemb i != 0
    | 3 => s.nmemb i != 0
    | 4 => s.flag (R.PLB_CFG_EN i)
    | 5 => decide (s.subOf i < s.nsub)
    | 6 => (s.rd R.MEM_CFG_MASK).testBit i || s.rd (R.MEM_CH_STAT_STATE i) != 0 || (s.unit c).permanent
    | _ => true

/-- The S3 scope of Seam or Stencil `g` (R461). -/
def State.groupScope (s : State) (g : Nat) : List Nat :=
  [0x2000 + g, 0x3000 + g] ++ (List.range (s.nmemb g)).map (fun i => s.base (s.membPort g i)) ++
    ((List.range 12).filter (fun t => s.flag (R.PLB_CFG_EN t) && (s.plbUpper t == g || s.plbLower t == g))).map (0x4000 + ·)

/-- Bay `b` and its ports. -/
def State.bayScope (s : State) (b : Nat) : List Nat :=
  (0x1000 + b) :: (List.range 16).map (fun k => s.base (16 * b + k))

/-- Anchor and members of the S3 scope of unit `c` (R461, R463); `none` where the scope is the unit itself. -/
def State.scopeOf (s : State) (c : Nat) : Option (Nat × List Nat) :=
  let i := unitIx c
  let keep (l : List Nat) : List Nat := (sortNat l).eraseDups.filter s.unitUsed
  match unitKind c with
  | 0 => some (0x1000 + i / 16, keep (s.bayScope (i / 16)))
  | 2 => some (0x2000 + i, keep (s.groupScope i))
  | 3 => some (0x2000 + i, keep (s.groupScope i))
  | 4 => some (c, keep (c :: s.groupScope (s.plbUpper i) ++ s.groupScope (s.plbLower i)))
  | 5 => some (c, keep ((s.subLanes (s.subOf i)).map (0x5000 + ·)))
  | 7 => some (c, (List.range 32).map (0x7000 + ·))
  | _ => none

/-! ### Notification (R467) -/

/-- An entry of kind `kind` at level `lvl` for event `ev`: the Hawk item and the uplink EVENT entry. A unit taped by a TAPE write has
no source, so COUNT of its entry is a free value. -/
def faultNote (kind lvl ev time : Nat) (s : State) : State :=
  let (cnt, s0) := if ev = 0x7FF then s.draw (2 ^ 32) else ((s.snag ev).count, s)
  let words := [0x30 * 2 ^ 24 + kind * 2 ^ 16 + lvl * 2 ^ 13 + ev, cnt, time % 2 ^ 32, time / 2 ^ 32]
  let s1 := hawkNote (s0.flag R.FLT_NOTIFY_HAWK_EN && decide (1 ≤ lvl)) (s0.rd R.FLT_NOTIFY_HQ) (s0.rd R.FLT_NOTIFY_PRIO) words
    R.FLT_NOTE_DROP s0
  if s1.rd R.FLT_NOTIFY_FWD_SEV ≤ min 4 lvl then
    upEvent time (beBytes 2 ev ++ [byte lvl, byte kind] ++ beBytes 4 cnt ++ beBytes 8 time) s1
  else s1

/-! ### What a unit does when it is taped off, and when it returns (R461) -/

/-- Memory channel `m` is taped off at run time, in P1 too (R347, R360, R440): its granules become holes, the history writer halts, and spilling
queues seal. -/
def memTape (m : Nat) (s : State) : State :=
  if s.rd (R.MEM_CH_STAT_STATE m) = 2 ∨ s.rd (R.MEM_CH_STAT_STATE m) = 5 then
    let s1 := (s.wr (R.MEM_CH_STAT_STATE m) 4).wr R.MEM_STAT_IN_SERVICE (putBit (s.rd R.MEM_STAT_IN_SERVICE) m false)
    hstHalt (s1.forAll (List.range 64) (fun q => hawkMemLoss q (fun a => s1.dramChan a == m)))
  else s

/-- What unit `c` does when it is taped off. -/
def unitTapeOff (c : Nat) (s : State) : State :=
  let i := unitIx c
  match unitKind c with
  | 0 => lanesTape i s
  | 2 => groupDrained i (let t := seamClear i s; t.setSeam i { t.seam i with taped := true, first := true })
  | 3 => let t := stencilClear i s; t.setStn i { t.stn i with taped := true }
  | 4 => let t := plumbClear i s; t.setPlb i { t.plb i with taped := true }
  | 5 => upLaneTape i s
  | 6 => memTape i s
  | 7 => dmaTape i s
  | 8 => hawkTape i s
  | 9 => { stpAbortJobs s with stpTaped := true }
  | 11 => { s with hst := { s.hst with taped := true } }
  | 12 => rpTape s
  | _ => s

/-- What unit `c` does on return to service. A port with a lane under test stays TAPED (R536); a gang that its own retry has
already taken to LOCKING goes on. -/
def unitReturn (c : Nat) (s : State) : State :=
  let i := unitIx c
  match unitKind c with
  | 0 => if s.laneState i = 6 ∧ s.portUntested i then lanesReturn i s else s
  | 2 => s.setSeam i { s.seam i with taped := false }
  | 3 => s.setStn i { s.stn i with taped := false }
  | 4 => s.setPlb i { s.plb i with taped := false }
  | 5 => upLaneReturn i s
  | 7 => dmaReturn i s
  | 8 => hawkReturn i s
  | 9 => { s with stpTaped := false }
  | 10 => cvuReturn i s
  | 11 => { s with hst := { s.hst with taped := false } }
  | 12 => rpReturn s
  | _ => s

/-! ### Resets and dependency windows (R464, R465) -/

/-- Unit `c` is reset: a window opens on the DOWN unit of each of its edges; windows of edges that a load
has taken away go on (R472). -/
def unitReset (c : Nat) (s : State) : State :=
  let down := ((s.ldr.edges.filter (·.1 == c)).map (·.2.1)).eraseDups
  { s.setUnit c { s.unit c with resetting := true } with
    windows := s.windows.filter (fun w => w.1 != c || !down.contains w.2.1) ++ down.map (fun d => (c, d, false)) }

/-- The reset of unit `c` completes; SETTLE of its windows runs. -/
def unitResetDone (c : Nat) (s : State) : State :=
  { s.setUnit c { s.unit c with resetting := false } with
    windows := mapIf (·.1 == c) (fun w => (w.1, w.2.1, true)) s.windows }

/-- The sources of unit `u` are suppressed: a window on it, or on the bay of a port, is open (R464). -/
def State.unitSuppressed (s : State) (u : Nat) : Bool :=
  s.windows.any (fun w => w.2.1 == u || (decide (u < 192) && w.2.1 == 0x1000 + u / 16))

/-- Raises of event `e` are suppressed; system events never are (R464). -/
def State.suppressed (s : State) (e : Nat) : Bool := (s.evUnit e).any s.unitSuppressed

/-! ### Taping and return (R461 to R463, R472) -/

/-- RECOV of unit `c`: its returns within the last WINDOW seconds (R462, R478). -/
def State.recov (s : State) (c : Nat) : Nat :=
  let w := 1000000000 * max 1 (s.rd (R.FLT_KIND_CFG_WINDOW (unitKind c)))
  ((s.unit c).returns.filter (fun t => decide (s.chalk.cycles < t + w))).length

/-- A taping made now on unit `c` holds (R462). -/
def State.holds (s : State) (c : Nat) : Bool := decide (s.rd (R.FLT_KIND_CFG_RECOV_MAX (unitKind c)) ≤ s.recov c)

/-- Units `cs` have just been taped off by event `ev` at level `lvl`: counters, entries (none for a TAPE write), resets and, unless
the units did it by their own rule, what they do when taped off. -/
def tapedNow (cs : List Nat) (ev lvl : Nat) (held byRule : Bool) (s : State) : State :=
  s.forAll cs (fun c t =>
    let x := { t.unit c with lastEvent := ev, lastLevel := lvl, permanent := (t.unit c).permanent || unitKind c == 6 }
    let t1 := (t.setUnit c x).inc R.FLT_TAPINGS
    let t2 := t1.when held (·.inc R.FLT_HELD)
    let t3 := t2.when (ev != 0x7FF) (faultNote (if held then 4 else 2) lvl ev t2.now)
    (unitReset c t3).when (!byRule) (unitTapeOff c))

/-- Unit `c` is taped off on its own. A unit already taped off only restarts its quiet period (R472). -/
def tapeOwn (c ev lvl : Nat) (byRule : Bool) (s : State) : State :=
  if !s.unitUsed c || s.unitTaped c then s
  else
    let held := s.holds c
    tapedNow [c] ev lvl held byRule (s.setUnit c { s.unit c with own := some ⟨ev, lvl, held⟩ })

/-- The scope `members` is taped off, recorded against `anchor` (R461, R463): only the newly taped units reset (R472). -/
def tapeScope (anchor : Nat) (members : List Nat) (ev lvl : Nat) (s : State) : State :=
  if (s.unit anchor).anchored.isSome ||
      s.units.any (fun u => u.2.anchored.any (fun a => members.all (a.2.contains ·))) then s
  else
    let held := s.holds anchor
    let fresh := members.filter (fun c => !s.unitTaped c)
    tapedNow fresh ev lvl held false (s.setUnit anchor { s.unit anchor with anchored := some (⟨ev, lvl, held⟩, members) })

/-- The units of `cs` that no taping holds any more return to service; a RELEASE produces no entries (R462, R463, R467). -/
def returnUnits (cs : List Nat) (entries : Bool) (s : State) : State :=
  s.forAll (cs.filter (fun c => !s.unitTaped c)) (fun c t =>
    let u := t.unit c
    let t1 := t.inc R.FLT_RETURNS
    unitReturn c (unitReset c (t1.when entries (faultNote 3 u.lastLevel u.lastEvent t1.now))))

/-- The quiet period of unit `c`'s own taping, or of the scope taping that it anchors, expires (R462). -/
def quietExpiry (c : Nat) (scope : Bool) (s : State) : State :=
  let u := s.unit c
  match scope, u.own, u.anchored with
  | false, some t, _ =>
    if t.held || u.permanent then s
    else
      let s1 := s.setUnit c { u with own := none }
      returnUnits [c] true (s1.when (!s1.unitTaped c) (·.setUnit c { u with own := none, returns := u.returns ++ [s.chalk.cycles] }))
  | true, _, some (t, ms) =>
    if t.held then s
    else returnUnits ms true (s.setUnit c { u with anchored := none, returns := u.returns ++ [s.chalk.cycles] })
  | _, _, _ => s

/-- A write of FLT_UNIT.TAPE (R463): a bay takes its ports with it. -/
def unitTapeWrite (c : Nat) (s : State) : State :=
  if !s.unitUsed c then s
  else if unitKind c = 1 then tapeScope c ((sortNat (s.bayScope (unitIx c))).eraseDups.filter s.unitUsed) 0x7FF 2 s
  else tapeOwn c 0x7FF 2 false s

/-- A write of FLT_UNIT.RELEASE (R463). -/
def unitRelease (c : Nat) (s : State) : State :=
  let u := s.unit c
  if !s.unitUsed c || u.shed || u.permanent then s
  else
    let ended := (if u.own.isSome then [c] else []) ++ ((u.anchored.map (·.2)).getD []).filter (· != c) ++
      (if u.own.isNone && (u.anchored.any (·.2.contains c)) then [c] else [])
    returnUnits (sortNat ended) false (s.setUnit c { u with own := none, anchored := none, returns := [] })

/-! ### FLT_UNIT (R479) -/

/-- Unit `c` is taped off through a scope; a bay's own taping is not one. -/
def State.byScope (s : State) (c : Nat) : Bool :=
  unitKind c != 1 && s.units.any (fun u => u.2.anchored.any (fun a => a.2.contains c))

/-- STATE of unit `c`. -/
def State.unitState (s : State) (c : Nat) : Nat :=
  let u := s.unit c
  if !s.unitUsed c then 0
  else if u.permanent then 5
  else if u.shed then 4
  else if !s.unitTaped c then 1
  else if u.own.any (·.held) || s.units.any (fun x => x.2.anchored.any (fun a => a.1.held && a.2.contains c)) then 3
  else 2

/-- The word of FLT_UNIT of unit `c`. -/
def State.unitWord (s : State) (c : Nat) : Nat :=
  let u := s.unit c
  if !s.unitUsed c then 0
  else s.unitState c * 2 ^ 28 + b2n (s.byScope c) * 2 ^ 27 + u.lastLevel * 2 ^ 24 + min 15 (s.recov c) * 2 ^ 20 +
    b2n (u.resetting || s.windows.any (·.1 == c)) * 2 ^ 16 + u.lastEvent

/-! ### Device fault and ALIVE (R466, R468) -/

/-- The device enters device fault through event `e` (R466). -/
def enterFault (e : Nat) (s : State) : State :=
  if s.devFault then s
  else
    let s1 := (s.wr R.FLT_SUMMARY_DEVFAULT 1).forAll ((List.range 24).filter s.tgEn) generatorOff
    jnlInfo 0x30 5 0xFFFF (e % 256) e (rpEndAll 6 (discardStopped s1))

/-- STOP_SEV: 0 acts as 1, 5 to 7 act as 4 (R474). -/
def State.stopSev (s : State) : Nat := clampN 1 4 (s.rd R.FLT_ALIVE_STOP_SEV)

/-- ALIVE is stopped (R468). -/
def State.aliveStopped (s : State) : Bool := s.devFault || s.pins.hbLost || s.snags.any (·.2.stops)

/-- The half period of ALIVE passes (R468). -/
def aliveToggle (s : State) : State :=
  if s.pins.runs && !s.aliveStopped then { s with pins := { s.pins with alive := !s.pins.alive } } else s

/-- The collector's heartbeat has been missing for 1 ms: the always-on island stops ALIVE and writes the journal entry (R466, R468). -/
def heartbeatLoss (s : State) : State :=
  if s.pins.hbLost || !s.pins.runs then s
  else jnlInfo 0x30 5 0xFFFF (1520 % 256) 1520 { s with pins := { s.pins with hbLost := true } }

/-! ### Raises (R457 to R460, R465, R472) -/

/-- An occurrence of event `e` with LEVEL acted on as `acted`: nothing at S0 and S1, its unit at S2, its scope at S3, device fault at
S4 (R459). -/
def faultAct (e acted : Nat) (s : State) : State :=
  match acted, s.evUnit e with
  | 4, _ => enterFault e s
  | 3, some u => if !s.unitUsed u then s else match s.scopeOf u with
    | some (a, ms) => tapeScope a ms e 3 s
    | none => tapeOwn u e 3 false s
  | 2, some u => tapeOwn u e 2 false s
  | _, _ => s

/-- LEVEL of an occurrence of event `e` (R460). -/
def State.evLvl (s : State) (e : Nat) : Nat :=
  let x := s.snag e
  let sev := s.evSev e
  if x.latched && sev != 0 && !(s.flag (fltNoesc e) && e != 1505) then min (x.level + 1) 4 else sev

/-- An occurrence of event `e` at Chalk time `time`: latch, TIME, LEVEL, counters and entries; `mid` is what units did by their own
rule (R460); then the action. -/
def occur (e time : Nat) (mid : State → State) (s : State) : State :=
  let x := s.snag e
  let lvl := s.evLvl e
  let acted := if 1488 ≤ e ∧ (lvl = 2 ∨ lvl = 3) then 1 else lvl
  let s1 := (s.setSnag e { x with latched := true, level := lvl, time := if x.latched then x.time else time, inWindow := false,
                                  stops := x.stops || decide (s.stopSev ≤ acted) }).inc R.FLT_RAISED
  let up := decide (s.evSev e < lvl)
  let s2 := faultNote (b2n up) lvl e time (s1.when up (·.inc R.FLT_ESCALATED))
  faultAct e acted (mid s2)

/-- The source of event `e` is a lane under test: its events are not raised (R536). -/
def State.muted (s : State) (e : Nat) : Bool :=
  if e < 1152 then s.tstMode (e / 6) != 0 else if e < 1184 then s.tstMode (192 + (e - 1152) / 4) != 0 else false

/-- The collector takes one raise of event `e` at Chalk time `time`; `rules` are the tapings that units made by their own rule in the
same command (R460). -/
def collect (e time : Nat) (rules : List (Nat × Nat)) (s : State) : State :=
  let mid (t : State) : State := (rules.filter (·.2 == e)).foldl (fun t r => tapeOwn r.1 e 2 true t) t
  if evReserved e then s
  else if s.muted e then mid s
  else
    let x := s.snag e
    let s1 := s.setSnag e { x with count := (x.count + 1) % 2 ^ 32, live := x.live || evLevel e }
    if evLevel e && x.live then mid s1
    else if s.suppressed e then
      let y := s1.snag e
      mid ((s1.setSnag e { y with conseq := true, inWindow := evLevel e }).inc R.FLT_CONSEQ)
    else occur e time mid s1

/-- The collector takes what has been raised, in ascending event number (R472). Before Undercoat the raises wait, with their times
(R492); in P2 and P3 there is no collector. -/
def collectAll (s : State) : State :=
  let es := sortNat s.raised
  let rules := s.ruleTaped
  let s0 := { s with raised := [], ruleTaped := [] }
  if 2 ≤ s.rd R.THM_PWR_STAT_STATE then s0
  else if s.stage < 3 ∨ 6 ≤ s.stage then
    { s0 with boot := { s0.boot with early := s0.boot.early ++ es.map (fun e => (e, if s.chalk.run then s.now else 0)) } }
  else es.foldl (fun t e => collect e s.now rules t) s0

/-- The collector runs until nothing is raised. -/
def collectRounds : Nat → State → State
  | 0, s => s
  | n + 1, s => if s.raised = [] ∧ s.ruleTaped = [] then s else collectRounds n (collectAll s)

/-- What follows every command: eye-scan points on receivers that are off end (R542), and the collector acts on what was raised. -/
def settleEvents (s : State) : State := collectRounds 64 (eyeSweep s)

/-- A dependency window ends: level conditions that rose inside windows and still hold occur now, unless another window is open on
their unit (R465). -/
def windowEnd (u d : Nat) (s : State) : State :=
  if !s.windows.contains (u, d, true) then s
  else
    let s1 := { s with windows := s.windows.filter (· != (u, d, true)) }
    ((s1.snags.filter (fun x => x.2.inWindow && x.2.live)).map (·.1)).foldl
      (fun t e => if t.suppressed e then t else occur e t.now id t) s1

/-! ### Acknowledgement and severities (R460, R475) -/

/-- Event `e` is acknowledged (R460): ALIVE runs again (R468). -/
def ack (e : Nat) (s : State) : State := s.setSnag e { s.snag e with latched := false, conseq := false, stops := false }

/-- Every snag is acknowledged. -/
def ackAll (s : State) : State := s.forAll (s.snags.map (·.1)) ack

/-- A write of `v` to FLT_SEVi (R460, R475). -/
def sevWrite (i v : Nat) (s : State) : State :=
  s.forAll ((List.range 8).map (8 * i + ·)) (fun e t =>
    if e = 1505 ∨ evReserved e then t
    else (t.wr (fltSev e) (v / 2 ^ (4 * (e % 8)))).wr (fltNoesc e) (v / 2 ^ (4 * (e % 8) + 3)))

/-- The word of FLT_SEVi. -/
def State.sevWord (s : State) (i : Nat) : Nat :=
  ((List.range 8).map (fun j =>
    let e := 8 * i + j
    (if e = 1505 then 4 else if evReserved e then 0 else s.rd (fltSev e) + 8 * s.rd (fltNoesc e)) * 2 ^ (4 * j))).sum

/-- Latched snags. -/
def State.latched (s : State) : List (Nat × Snag) := s.snags.filter (·.2.latched)

/-- The word of FLT_SUMMARY (R473). -/
def State.summaryWord (s : State) : Nat :=
  let l := s.latched
  let first := (minBy (fun x => x.2.time) l).map (·.1)
  (l.map (·.2.level)).foldl max 0 * 2 ^ 29 + b2n s.devFault * 2 ^ 28 + b2n (l.any (fun x => decide (1 ≤ x.2.level))) * 2 ^ 27 +
    first.getD 0 * 2 ^ 16 + l.length

end Sys2Proof.Machine
end

