-- ==== Sys2Proof/Machine/LathCheck.lean ====
section
/-! DEFINITION. Key store (R500, R501), the image container shared by Lath and firmware images (R275, R276), sections and records of
a Lath image (R278 to R289), and the checks of R290 and R291. -/

namespace Sys2Proof.Machine

/-! ### Keys (R500, R501) -/

/-- Slot `k` failed its integrity check in this start, or is revoked (R501). -/
def State.slotGone (s : State) (k : Nat) : Bool := s.sec.bad.testBit k || s.fuses.revoked.testBit k

/-- The ECDSA key of slot `k`: empty when the slot is not present (R500, R501). -/
def State.ecKey (s : State) (k : Nat) : List Byte :=
  if k = 0 then Config.rootKey else if k < 8 ∧ !s.slotGone k then s.fuses.ec.get [] k else []

/-- The ML-DSA-65 key of slot `k`: empty when there is none. -/
def State.pqKey (s : State) (k : Nat) : List Byte := if k < 8 ∧ !s.slotGone k then s.fuses.pq.get [] k else []

/-- The AES key of slot `k`: empty when the slot is not present. -/
def State.aesKey (s : State) (k : Nat) : List Byte := if 8 ≤ k ∧ k < 16 ∧ !s.slotGone k then s.fuses.aes.get [] k else []

/-- Slot `k` is present (R501, R525). -/
def State.keyPresent (s : State) (k : Nat) : Bool := k == 0 || !(s.ecKey k).isEmpty || !(s.aesKey k).isEmpty

/-! ### The container (R275 to R277) -/

def imgMagic (b : List Byte) : Nat := leAt b 0x00 4
def imgMajor (b : List Byte) : Nat := leAt b 0x04 2
def imgMinor (b : List Byte) : Nat := leAt b 0x06 2
def imgKind (b : List Byte) : Nat := leAt b 0x08 1
def imgGroup (b : List Byte) : Nat := leAt b 0x09 1
def imgFlags (b : List Byte) : Nat := leAt b 0x0A 2
def imgEnc (b : List Byte) : Bool := (imgFlags b).testBit 0
def imgPq (b : List Byte) : Bool := (imgFlags b).testBit 1
def imgNsect (b : List Byte) : Nat := leAt b 0x0C 2
def imgSteppings (b : List Byte) : Nat := leAt b 0x0E 2
def imgTotal (b : List Byte) : Nat := leAt b 0x10 4
def imgBodyLen (b : List Byte) : Nat := leAt b 0x14 4
def imgVersion (b : List Byte) : Nat := leAt b 0x18 4
def imgKeyId (b : List Byte) : Nat := leAt b 0x1C 1
def imgDecKey (b : List Byte) : Nat := leAt b 0x1D 1
def imgBase (b : List Byte) : List Byte := slice b 0x20 16
def imgIv (b : List Byte) : List Byte := slice b 0x38 12
def imgTag (b : List Byte) : List Byte := slice b 0x44 16

/-- The signed region: header and body (R275). -/
def imgSigned (b : List Byte) : List Byte := b.take (0x100 + imgBodyLen b)

/-- IMAGE_ID (R277). -/
def imgId (b : List Byte) : List Byte := (Config.sha384 (imgSigned b)).take 16

/-- The lifecycle state accepts an image signed under slot `k` (R503). -/
def State.keyAccepted (s : State) (k : Nat) : Bool :=
  if s.fuses.lc = 1 ∨ s.fuses.lc = 2 then decide (1 ≤ k ∧ k ≤ 7) else k == 0

/-- A D2 session is open in SECURED: no encrypted image is taken (R518). -/
def State.decBarred (s : State) : Bool := s.fuses.lc == 2 && s.sec.session.any (fun x => decide (2 ≤ x.level))

/-- FORMAT (R290): `kind` is the expected KIND. -/
def imgFormatBad (b : List Byte) (magic kind : Nat) : Bool :=
  imgMagic b != magic || imgMajor b != 1 || decide (4 ≤ imgFlags b) || imgKind b != kind || decide (1 < imgKind b) ||
    (if imgKind b = 0 then imgGroup b != 0xFF else decide (24 ≤ imgGroup b))

/-- LENGTH (R290) of an image that is `len` bytes long. -/
def imgLengthBad (b : List Byte) (len : Nat) : Bool :=
  imgTotal b != len || imgBodyLen b % 64 != 0 || len != 0x100 + imgBodyLen b + (if imgPq b then 3456 else 128)

/-- The checks of R290 from FORMAT to DECRYPT, in their order, on an image of `len` bytes: the STATUS of the first one that fails, or the
plaintext body. STEPPING is no check of a firmware image (`lath` is false, R486). -/
def State.imgVerify (s : State) (b : List Byte) (len magic kind : Nat) (lath : Bool) : Except Nat (List Byte) :=
  let k := imgKeyId b
  let sigOff := 0x100 + imgBodyLen b
  if imgFormatBad b magic kind then .error 3
  else if imgLengthBad b len then .error 4
  else if lath && !(imgSteppings b).testBit Config.stepping then .error 5
  else if (s.ecKey k).isEmpty || !Config.ecdsaVerify (s.ecKey k) (imgSigned b) (slice b sigOff 96) then .error 6
  else if imgPq b && ((s.pqKey k).isEmpty || !Config.mldsaVerify (s.pqKey k) (imgSigned b) (slice b (sigOff + 96) 3309)) then .error 7
  else if !imgPq b && s.fuses.lc == 2 && s.fuses.policy.testBit 30 then .error 7
  else if imgVersion b < s.fuses.rollback then .error 8
  else if !s.keyAccepted k || (!imgEnc b && s.fuses.lc == 2 && s.fuses.policy.testBit 31) || (imgEnc b && s.decBarred) then .error 9
  else
    let body := slice b 0x100 (imgBodyLen b)
    if !imgEnc b then .ok body
    else if (s.aesKey (imgDecKey b)).isEmpty then .error 10
    else match Config.aesGcmOpen (s.aesKey (imgDecKey b)) (imgIv b) (slice b 0 0x44) body (imgTag b) with
      | some p => .ok p
      | none => .error 11

/-! ### Sections (R278, R279) -/

/-- One entry of the section table: its place in the table, type without the optional mark, that mark, INDEX, OFFSET, LENGTH, CRC. -/
structure LathSec where
  n     : Nat
  type  : Nat
  opt   : Bool
  index : Nat
  off   : Nat
  len   : Nat
  crc   : Nat
  deriving DecidableEq, Repr

/-- A parsed image: whether it is partial, its group, its body in plaintext and its section table. -/
structure Lath where
  part : Bool
  group : Nat
  body : List Byte
  all  : List LathSec
  deriving DecidableEq, Repr

/-- The section table of a body with `n` sections (R278). -/
def parseSecs (body : List Byte) (n : Nat) : List LathSec :=
  (List.range n).map (fun i => ⟨i, leAt body (16 * i) 2 % 0x8000, (leAt body (16 * i) 2).testBit 15, leAt body (16 * i + 2) 2,
    leAt body (16 * i + 4) 4, leAt body (16 * i + 8) 4, leAt body (16 * i + 12) 4⟩)

/-- The image of header `hdr` and plaintext `body`. -/
def Lath.parse (hdr body : List Byte) : Lath := ⟨imgKind hdr == 1, imgGroup hdr, body, parseSecs body (imgNsect hdr)⟩

/-- The bytes of a section. -/
def Lath.data (l : Lath) (x : LathSec) : List Byte := slice l.body (x.off - 0x100) x.len

/-- R279 lists type `t`. -/
def secListed (t : Nat) : Bool := [1, 2, 3, 4, 5, 6, 0x10, 0x11, 0x12, 0x13, 0x14, 0x15, 0x16, 0x20].contains t

/-- The sections of type `t`. -/
def Lath.ofType (l : Lath) (t : Nat) : List LathSec := l.all.filter (·.type == t)

/-- The section of type `t` and INDEX `i`. -/
def Lath.sec (l : Lath) (t i : Nat) : Option LathSec := l.all.find? (fun x => x.type == t && x.index == i)

/-- The bytes of the section of type `t` and INDEX `i`; none without it. -/
def Lath.bytes (l : Lath) (t i : Nat) : List Byte := ((l.sec t i).map l.data).getD []

/-- A member entry of a GROUP section (R283). -/
structure LathMemb where
  port   : Nat
  gang   : Nat
  stream : Nat
  slots  : Nat
  first  : Nat
  last   : Nat
  xoff   : Nat
  plane  : Nat
  y      : Nat
  arr    : Nat
  mode   : Nat
  fb     : Nat
  cut    : Nat
  deriving DecidableEq, Repr

/-- Member entry `i` of a GROUP section `d` (R283). -/
def membEntry (d : List Byte) (i : Nat) : LathMemb :=
  let o := 0x60 + 32 * i
  ⟨leAt d o 1, leAt d (o + 1) 1, leAt d (o + 2) 1, leAt d (o + 3) 1, leAt d (o + 4) 2, leAt d (o + 6) 2, leAt d (o + 8) 2,
   leAt d (o + 10) 1, leAt d (o + 11) 1, leAt d (o + 12) 4, leAt d (o + 16) 1, leAt d (o + 17) 1, leAt d (o + 18) 2⟩

/-- NMEMB of a GROUP section. -/
def grpNmemb (d : List Byte) : Nat := leAt d 3 1

/-- The member entries of a GROUP section. -/
def grpMembers (d : List Byte) : List LathMemb := (List.range (min 32 (grpNmemb d))).map (membEntry d)

/-- The lanes of a member. -/
def LathMemb.lanes (m : LathMemb) : List Nat := (List.range (gangWidth m.gang)).map (m.port + ·)

/-- Lanes of the image's group members. -/
def Lath.memberLanes (l : Lath) : List Nat := ((l.ofType 4).map (fun x => ((grpMembers (l.data x)).map LathMemb.lanes).flatten)).flatten

/-- Bytes `lo` to below `hi` of a record are 0. -/
def zeroAt (d : List Byte) (lo hi : Nat) : Bool := (slice d lo (hi - lo)).all (· == 0)

/-- Ports that are members of group `g` now. -/
def State.members (s : State) (g : Nat) : List Nat := (List.range (s.nmemb g)).map (s.membPort g)

/-- Tracker `t` pairs group `g`. -/
def State.pairs (s : State) (t g : Nat) : Bool := s.flag (R.PLB_CFG_EN t) && (s.plbUpper t == g || s.plbLower t == g)

/-- A listed section breaks the counts and places that R279 gives its type. -/
def Lath.misplaced (l : Lath) (x : LathSec) : Bool :=
  match x.type with
  | 1 => decide (192 ≤ x.index)
  | 2 => decide (192 ≤ x.index) || !l.memberLanes.contains x.index
  | 3 => decide (192 ≤ x.index) || (l.sec 2 x.index).isNone
  | 4 => decide (24 ≤ x.index) || (l.part && x.index != l.group)
  | 5 => decide (12 ≤ x.index)
  | 6 => decide (24 ≤ x.index) || (l.part && x.index != l.group)
  | 0x14 => x.index != 0
  | 0x20 => x.index != 0
  | _ => x.index != 0 || l.part

/-- Section `x` fails the section check (R278, R279, R290). -/
def Lath.secBad (l : Lath) (x : LathSec) : Bool :=
  let before := l.all.filter (fun y => decide (y.n < x.n))
  decide (x.off % 64 ≠ 0 ∨ x.off < 0x100 + 16 * l.all.length ∨ 0x100 + l.body.length < x.off + x.len) ||
  before.any (fun y => decide (x.off ≤ y.off ∨ x.off < y.off + y.len)) ||
  crc32c (l.data x) != x.crc || (!secListed x.type && !x.opt) ||
  before.any (fun y => y.type == x.type && y.index == x.index) ||
  (secListed x.type && l.misplaced x)

/-- The image lacks a section that R279 asks for. -/
def Lath.lacks (l : Lath) : Bool :=
  if l.part then (l.ofType 4).isEmpty else [0x10, 0x11, 0x12, 0x13, 0x14].any (fun t => (l.ofType t).isEmpty)

/-! ### Records (R280 to R289) -/

/-- A gang of code `c` may start at port `n` (R6). -/
def gangPlace (n c : Nat) : Bool := decide (c < 3) && n % gangWidth c == 0 && decide (n + gangWidth c ≤ 192)

def portBad (l : Lath) (x : LathSec) (d : List Byte) : Bool :=
  let streams := leAt d 5 1
  d.length != 80 || leAt d 0 1 != x.index || decide (2 ≤ leAt d 1 1 ∨ 4 ≤ leAt d 2 1) || !gangPlace x.index (leAt d 3 1) ||
  (decide (24 ≤ leAt d 4 1) && leAt d 4 1 != 0xFF) || decide (16 ≤ streams) || !zeroAt d 6 8 || !zeroAt d 12 16 ||
  (List.range 16).any (fun k => let w := leAt d (0x10 + 4 * k) 4
    if k ≤ streams then bits w 31 31 != 0 || bits w 15 13 != 0 || bits w 7 3 != 0 else w != 0) ||
  (l.ofType 1).any (fun y => decide (y.index < x.index ∧ x.index < y.index + gangWidth (leAt (l.data y) 3 1)))

def renderBad (d : List Byte) : Bool :=
  d.length != 32 || [2, 6, 8].any (fun o => decide (leAt d o 2 = 0 ∨ 16384 < leAt d o 2)) || decide (32768 ≤ leAt d 0 2 ∨ 32768 ≤ leAt d 4 2) ||
  decide (leAt d 10 1 = 0 ∨ 16 < leAt d 10 1) || decide (leAt d 11 1 % 2 ≠ 0 ∨ 96 < leAt d 11 1) || decide (4 ≤ leAt d 12 1) ||
  !zeroAt d 13 16 || (List.range 16).any (fun b => decide (64 ≤ leAt d (16 + b) 1))

def trackerBad (d : List Byte) : Bool :=
  d.length != 32 || decide (4 ≤ leAt d 0 1 ∨ 24 ≤ leAt d 1 1 ∨ 24 ≤ leAt d 2 1 ∨ 12 ≤ leAt d 3 1) ||
  decide (2 ^ 24 ≤ leAt d 8 4 ∨ 2 ^ 24 ≤ leAt d 12 4) || !zeroAt d 16 32

def memoryBad (d : List Byte) : Bool :=
  let n := leAt d 4 2
  decide (64 < n) || d.length != 0x50 + 16 * n || decide (4 ≤ leAt d 1 1) || !([8, 16, 24, 32].contains (leAt d 2 1)) ||
  !zeroAt d 3 4 || !zeroAt d 6 16 || (List.range n).any (fun r =>
    let o := 0x50 + 16 * r
    let k := leAt d (o + 12) 1
    let i := leAt d (o + 13) 1
    decide (leAt d o 8 % 65536 ≠ 0 ∨ 2 ^ 48 ≤ leAt d o 8) || decide (k = 0 ∨ 3 < k) || (if k = 2 then decide (64 ≤ i ∨ 2 ^ 28 < leAt d (o + 8) 4 * 65536) else i != 0) ||
    !zeroAt d (o + 14) (o + 16))

def uplinkBad (d : List Byte) : Bool :=
  let n := leAt d 2 1
  let fb := leAt d 1 1
  decide (n = 0 ∨ 64 < n) || d.length != 16 + 16 * n || decide (4 ≤ leAt d 0 1) || (fb != 0xFF && decide (fb ≤ leAt d 0 1 ∨ 3 < fb)) ||
  !zeroAt d 3 16 || (List.range n).any (fun c =>
    let o := 16 + 16 * c
    decide (2 ^ leAt d 0 1 ≤ leAt d o 1 ∨ 8 ≤ leAt d (o + 1) 1 ∨ 128 ≤ leAt d (o + 3) 1 ∨ 2 ^ 24 ≤ leAt d (o + 6) 4) ||
    !zeroAt d (o + 10) (o + 16))

/-- The dependency unit code `c` names a unit (R288). -/
def unitCodeOk (c : Nat) : Bool := decide (unitKind c ≤ 12 ∧ unitIx c < unitCount (unitKind c))

/-- The edges of a DEPEND section: UP, DOWN, SETTLE (R287). -/
def dependEdges (d : List Byte) : List (Nat × Nat × Nat) :=
  (List.range (leAt d 0 4)).map (fun e => (leAt d (4 + 8 * e) 2, leAt d (6 + 8 * e) 2, leAt d (8 + 8 * e) 4))

def dependBad (d : List Byte) : Bool :=
  decide (4096 < leAt d 0 4) || d.length != 4 + 8 * leAt d 0 4 || (dependEdges d).any (fun e => !unitCodeOk e.1 || !unitCodeOk e.2.1)

def policyBad (d : List Byte) : Bool :=
  let n := leAt d 0 4
  decide (1536 < n) || d.length != 4 + 4 * n || (List.range n).any (fun e =>
    decide (1536 ≤ leAt d (4 + 4 * e) 2 ∨ 4 < leAt d (6 + 4 * e) 1 ∨ leAt d (7 + 4 * e) 1 ≠ 0))

/-- The MRAM areas that a checkpoint area must not touch (R487, R500): journal, key area, and with BOOT_SEL = MRAM the slots. -/
def State.mramReserved (s : State) : List (Nat × Nat) :=
  [(0, 0x40000), (0xF00000, 0x40000)] ++ if s.rd R.BOT_STRAP_SEL = 3 then [(0x100000, 0x700000), (0x800000, 0x700000)] else []

def State.ckptBad (s : State) (d : List Byte) : Bool :=
  let a := (65536 * leAt d 0 1, 4096 * leAt d 2 2)
  d.length != 28 || leAt d 1 1 != 0 || decide (leAt d 0 1 < 4) || decide (0x1000000 < a.1 + a.2) ||
  s.mramReserved.any (fun r => decide (a.1 < r.1 + r.2 ∧ r.1 < a.1 + a.2))

/-- The pairs of a RUNTIME section: address and value (R287). -/
def runtimePairs (d : List Byte) : List (Nat × Nat) := (List.range (leAt d 0 4)).map (fun e => (leAt d (4 + 8 * e) 4, leAt d (8 + 8 * e) 4))

def runtimeBad (d : List Byte) : Bool :=
  decide (8192 < leAt d 0 4) || d.length != 4 + 8 * leAt d 0 4 || (runtimePairs d).any (fun p => (shAt p.1).isEmpty)

/-- The SYNC group of GROUP section `d` is used, with the same period (R290): after the load for a full image, in force or in the
image for a partial one. -/
def State.syncOk (s : State) (l : Lath) (d : List Byte) : Bool :=
  let sg := leAt d 0x12 1
  sg == 0xFF || (decide (sg < 24) && match l.sec 4 sg with
    | some y => grpNmemb (l.data y) != 0 && leAt (l.data y) 0x0C 4 == leAt d 0x0C 4 && leAt (l.data y) 0x10 2 == leAt d 0x10 2
    | none => l.part && s.nmemb sg != 0 && s.rd (R.CHK_TG_PERIOD_INT_INT sg) == leAt d 0x0C 4 &&
        s.rd (R.CHK_TG_PERIOD_FRAC_FRAC sg) == leAt d 0x10 2)

/-- A member entry of group `g` breaks its ranges, or the rules on its port (R283, R290). -/
def membBad (l : Lath) (g rowW : Nat) (d : List Byte) (i : Nat) (m : LathMemb) : Bool :=
  let o := 0x60 + 32 * i
  let p := l.bytes 1 m.port
  decide (192 ≤ m.port) || !gangPlace m.port m.gang || decide (16 ≤ m.stream) || m.slots == 0 || decide (rowW < m.first ∨ rowW < m.last) ||
  decide (16 ≤ m.plane) || decide (2 ^ 24 ≤ m.arr) || decide (4 ≤ m.mode) || decide (1 < m.fb) || !zeroAt d (o + 0x14) (o + 0x20) ||
  p.isEmpty || m.lanes.any (fun n => (l.sec 2 n).isNone || (l.sec 3 n).isNone) ||
  leAt p 4 1 != g || leAt p 3 1 != m.gang || decide (leAt p 5 1 < m.stream)

def State.groupBad (s : State) (l : Lath) (x : LathSec) (d : List Byte) : Bool :=
  let ms := grpMembers d
  let others := ((l.ofType 4).filter (·.n != x.n)).map (fun y => (grpMembers (l.data y)).map (·.port))
  decide (32 < grpNmemb d) || d.length != 0x60 + 32 * grpNmemb d || decide (leAt d 2 1 = 0 ∨ 16 < leAt d 2 1) ||
  decide (2 ^ 19 ≤ leAt d 4 4 ∨ 2 ^ 24 ≤ leAt d 0x0C 4 ∨ 2 ^ 20 ≤ leAt d 0x14 4) || !s.syncOk l d || decide (4 ≤ leAt d 0x13 1) ||
  decide (leAt d 0x1C 2 = 0 ∨ 4096 < leAt d 0x1C 2 ∨ 64 ≤ leAt d 0x1E 1 ∨ leAt d 0x1F 1 = 0 ∨ 64 < leAt d 0x1F 1) ||
  decide (leAt d 0x22 2 = 0 ∨ 4222 < leAt d 0x22 2 ∨ leAt d 0x26 1 < 10 ∨ 24 < leAt d 0x26 1 ∨ 2 ≤ leAt d 0x27 1) ||
  !zeroAt d 0x2A 0x30 || !zeroAt d 0x50 0x60 ||
  (ms.zip (List.range ms.length)).any (fun m => membBad l x.index (leAt d 0 2) d m.2 m.1) ||
  (ms.zip (List.range ms.length)).any (fun m => (ms.take m.2).any (·.port == m.1.port) || others.any (·.contains m.1.port))

/-- Section `x` fails the record check (R290). -/
def State.recBad (s : State) (l : Lath) (x : LathSec) : Bool :=
  let d := l.data x
  match x.type with
  | 1 => portBad l x d
  | 2 => renderBad d
  | 3 => decide (x.len < 128 ∨ 131072 - 512 * leAt (l.bytes 2 x.index) 11 1 < x.len)
  | 4 => s.groupBad l x d
  | 5 => trackerBad d
  | 6 => d.length != 16 || decide (16 ≤ leAt d 0 1) || leAt d 1 1 != 0 || !zeroAt d 6 16
  | 0x10 => memoryBad d
  | 0x11 => uplinkBad d
  | 0x12 => d.length != 4
  | 0x13 => d.length != 192 || !(List.range 192).all (fun n => d.contains (byte n))
  | 0x14 => dependBad d
  | 0x15 => policyBad d
  | 0x16 => s.ckptBad d
  | 0x20 => runtimeBad d
  | _ => false

/-! ### Tables, resources and scope (R290, R291) -/

/-- The shape that the image gives the engine of port `n` (R150): bands of the stream that feeds its group. -/
def Lath.shape (l : Lath) (n : Nat) : Shape :=
  let d := l.bytes 2 n
  let m := ((l.ofType 4).map (fun x => (grpMembers (l.data x)).find? (·.lanes.contains n))).findSome? id
  let bands := match m with
    | some m => bits (leAt (l.bytes 1 m.port) (0x10 + 4 * m.stream) 4) 12 8
    | none => 0
  ⟨bands, leAt d 0 2, leAt d 2 2, leAt d 4 2, leAt d 6 2, leAt d 10 1, 131072 - 512 * leAt d 11 1⟩

/-- A TABLE section as a bank. -/
def tableBank (d : List Byte) : List Host.Cell := memWrite [] 0 d

/-- The rule class that TABLE section `x` breaks; 0 for none (R150). -/
def Lath.tableErr (l : Lath) (x : LathSec) : Nat := bankError (tableBank (l.data x)) (l.shape x.index)

/-- The regions of a MEMORY section: base, bytes, kind, index (R285). -/
def memRegions (d : List Byte) : List (Nat × Nat × Nat × Nat) :=
  (List.range (leAt d 4 2)).map (fun r => let o := 0x50 + 16 * r
    (leAt d o 8, 65536 * leAt d (o + 8) 4, leAt d (o + 12) 1, leAt d (o + 13) 1))

/-- Two of the ranges (start, length) overlap. -/
def overlapping : List (Nat × Nat) → Bool
  | [] => false
  | a :: t => t.any (fun b => decide (a.1 < b.1 + b.2 ∧ b.1 < a.1 + a.2)) || overlapping t

/-- Groups whose buffer shares are in force beside the image's. -/
def State.bufShares (s : State) (l : Lath) : List (Nat × Nat) :=
  (l.ofType 4).map (fun x => (leAt (l.data x) 8 2, leAt (l.data x) 10 2)) ++
  if l.part then ((List.range 24).filter (fun g => s.nmemb g != 0 && g != l.group)).map
    (fun g => (s.rd (R.SEM_BUF_BASE g), s.rd (R.SEM_BUF_SIZE g))) else []

/-- The section at fault in the resource check, if any (R290). -/
def State.resourceBad (s : State) (l : Lath) (x : LathSec) : Bool :=
  let d := l.data x
  match x.type with
  | 0x10 =>
    let top := 2 ^ 30 * (popcount 8 (leAt d 0 1) * leAt d 2 1)
    (List.range 8).any (fun m => decide (1024 < ((List.range 4).map (fun a => leAt d (0x10 + 8 * m + 2 * a) 2)).sum)) ||
    overlapping ((memRegions d).map (fun r => (r.1, r.2.1))) || (memRegions d).any (fun r => decide (top < r.1 + r.2.1))
  | 0x11 => (List.range 8).any (fun sp => decide (1024 <
      (((List.range (leAt d 2 1)).filter (fun c => leAt d (16 + 16 * c) 1 == sp)).map (fun c => leAt d (20 + 16 * c) 2)).sum))
  | 0x12 => decide (1024 < leAt d 0 2 + leAt d 2 2)
  | 4 =>
    let a := (leAt d 8 2, leAt d 10 2)
    decide (2048 < a.1 + a.2) || (s.bufShares l).any (fun b => b != a && decide (a.1 < b.1 + b.2 ∧ b.1 < a.1 + a.2)) ||
    decide (1 < ((s.bufShares l).filter (· == a)).length ∧ a.2 ≠ 0)
  | _ => false

/-- The units whose dependency edges a partial image replaces (R291). -/
def State.edgeEnd (s : State) (l : Lath) (c : Nat) : Bool :=
  match unitKind c with
  | 0 => (l.sec 1 (unitIx c)).isSome
  | 2 => unitIx c == l.group
  | 3 => unitIx c == l.group
  | 4 => s.pairs (unitIx c) l.group
  | _ => false

/-- Lanes of the ports of the image. -/
def Lath.lanes (l : Lath) : List Nat :=
  ((l.ofType 1).map (fun x => (List.range (gangWidth (leAt (l.data x) 3 1))).map (x.index + ·))).flatten

/-- Management address `a` lies in the scope of a partial image's RUNTIME pairs (R291). -/
def State.inScope (s : State) (l : Lath) (a : Nat) : Bool :=
  match decodeAddr a with
  | .reg .vsp off => l.lanes.contains (off / 0x10000)
  | .reg .rnd off => l.lanes.contains (off / 0x10000)
  | .reg .sem off => off / 0x10000 == l.group
  | .reg .stn off => off / 0x10000 == l.group
  | .reg .plb off => s.pairs (off / 0x100) l.group
  | _ => false

/-- The section at fault in the scope check of a partial image (R291), with the sections that R279 allows it: PORT of a port in or
joining the group, TRACKER of a tracker that pairs it, with U and W unchanged. -/
def State.scopeBad (s : State) (l : Lath) (x : LathSec) : Bool :=
  match x.type with
  | 1 => (List.range (gangWidth (leAt (l.data x) 3 1))).any (fun k =>
      match s.groupOf (s.base (x.index + k)) with
      | some g => g != l.group
      | none => false) ||
    (!(s.members l.group).contains x.index && !(l.ofType 4).any (fun y => (grpMembers (l.data y)).any (·.port == x.index)))
  | 4 => (s.members l.group).any (fun n => !l.lanes.contains n)
  | 5 => !s.pairs x.index l.group || leAt (l.data x) 1 1 != s.plbUpper x.index || leAt (l.data x) 2 1 != s.plbLower x.index
  | 0x14 => (dependEdges (l.data x)).any (fun e => !s.edgeEnd l e.1 && !s.edgeEnd l e.2.1)
  | 0x20 => (runtimePairs (l.data x)).any (fun p => !s.inScope l p.1)
  | _ => false

/-- The first section for which `p` holds. -/
def Lath.firstBad (l : Lath) (p : LathSec → Bool) : Option Nat := (l.all.find? p).map (·.n)

/-- The checks of R290 from SECTION to SCOPE, in their order: STATUS and SECTION of the first one that fails. -/
def State.lathError (s : State) (hdr : List Byte) (l : Lath) : Option (Nat × Nat) :=
  let n := imgNsect hdr
  let listed (p : LathSec → Bool) : LathSec → Bool := fun x => secListed x.type && p x
  if n = 0 ∨ 256 < n ∨ l.body.length < 16 * n then some (12, 0xFFFF)
  else match l.firstBad l.secBad with
    | some i => some (12, i)
    | none =>
      if l.lacks then some (12, 0xFFFF)
      else match l.firstBad (listed (s.recBad l)) with
        | some i => some (13, i)
        | none => match l.firstBad (fun x => x.type == 4 && grpNmemb (l.data x) == 0) with
          | some i => some (14, i)
          | none => match l.firstBad (fun x => x.type == 3 && l.tableErr x != 0) with
            | some i => some (15, i)
            | none => match l.firstBad (listed (s.resourceBad l)) with
              | some i => some (16, i)
              | none =>
                if !l.part then none
                else if !s.ldr.inForce ∨ imgBase hdr ≠ ((List.range 4).map (fun j => leBytes 4 (s.rd (R.GLB_IMAGE_ID j)))).flatten then
                  some (17, 0xFFFF)
                else (l.firstBad (listed (s.scopeBad l))).map (fun i => (18, i))

end Sys2Proof.Machine
end

