-- ==== Sys2Proof/Machine/Thermal.lean ====
section
/-! DEFINITION. Sensors and thermal shedding (R469, R470, R480), the critical temperature and the trip comparator (R471), and supply
and clock monitors (R22, R575, R579). Temperatures are in 1/16 °C. -/

namespace Sys2Proof.Machine

/-- The condition of level event `e` is judged: it rises, holds or falls (R457); before Undercoat a rise waits for the collector
(R492). -/
def judge (e : Nat) (present : Bool) (s : State) : State :=
  if present then (if (s.snag e).live || s.boot.early.any (·.1 == e) then s else s.raise e)
  else
    let t := s.fall e
    { t with boot := { t.boot with early := t.boot.early.filter (·.1 != e) } }

/-- A reading is valid between −55 °C and +175 °C (R469). -/
def tempValid (r : Nat) : Bool := decide (-880 ≤ toSigned 13 r ∧ toSigned 13 r ≤ 2800)

/-- The highest of the valid readings. -/
def hottest : List (Option Nat) → Option Int
  | [] => none
  | r :: t => match r.filter tempValid, hottest t with
    | none, h => h
    | some x, none => some (toSigned 13 x)
    | some x, some h => some (max (toSigned 13 x) h)

/-- THM_TEMPi as sensor `i` leaves it: its reading, or VALID 0 without a valid one (R480). -/
def showTemp (i : Nat) (r : Option Nat) (s : State) : State :=
  match r with
  | some x => (s.wr (R.THM_TEMP_T i) x).wr (R.THM_TEMP_VALID i) (b2n (tempValid x))
  | none => s.wr (R.THM_TEMP_VALID i) 0

/-- THM_STAT follows shedding and the hottest temperature; without a valid sensor HOT is a free value (R480). -/
def showThermal (s : State) : State :=
  let (h, s1) := match s.therm.hot with
    | some x => (ofSigned 13 x, s)
    | none => s.draw (2 ^ 13)
  let s2 := (s1.wr R.THM_STAT_HOT h).wr R.THM_STAT_CRIT (b2n (s1.therm.hot.all (fun x => decide (2400 ≤ x))))
  ((s2.wr R.THM_STAT_SHEDDING (b2n (!s2.therm.shed.isEmpty))).wr R.THM_STAT_RETURNING (b2n s2.therm.returning)).wr
    R.THM_STAT_NSHED s2.therm.shed.length

/-- The next port or gang of the SHED ORDER that is enabled and not yet shed (R287, R469). -/
def State.shedNext (s : State) : Option Nat :=
  s.ldr.shed.find? (fun n => s.base n == n && s.laneState n != 0 && !(s.unit n).shed)

/-- The next port is shed (R469): tests on its lanes end (R536), and unless a fault taping already holds it, it is taped off by
E1504. -/
def shedStep (s : State) : State :=
  match s.shedNext with
  | none => s
  | some n =>
    let s1 := if (s.snag 1504).live then s else collect 1504 s.now [] s
    let taped := s1.unitTaped n
    let s2 := (s1.chan n).foldl (fun t l => tstEnded l 1 t) s1
    let s3 := { s2.setUnit n { s2.unit n with shed := true } with therm := { s2.therm with shed := s2.therm.shed ++ [n] } }
    if taped then s3 else tapedNow [n] 1504 (s3.snag 1504).level false false s3

/-- The port shed last returns, unless a fault taping holds it (R470). -/
def shedReturn (s : State) : State :=
  match s.therm.shed.getLast? with
  | none => s
  | some n =>
    let rest := s.therm.shed.dropLast
    let s1 := { s.setUnit n { s.unit n with shed := false } with
      therm := { s.therm with shed := rest, returning := s.therm.returning && !rest.isEmpty } }
    let s2 := returnUnits [n] true s1
    if rest.isEmpty then s2.fall 1504 else s2

/-- A STEP interval expires (R469, R470). -/
def shedTimer (s : State) : State :=
  showThermal (if s.therm.active then shedStep s else if s.therm.returning then shedReturn s else s)

/-- The hottest has stayed below 130.0 °C for HOLD s (R470). -/
def shedHold (s : State) : State :=
  if !s.therm.active && !s.therm.returning && !s.therm.shed.isEmpty && s.therm.hot.any (fun x => decide (x < 2080)) then
    showThermal (shedReturn { s with therm := { s.therm with returning := true } })
  else s

/-- The sensors are sampled (R469 to R471); `none` stands for a sensor that has completed no conversion for 1 ms. -/
def thermalSample (readings : List (Option Nat)) (s : State) : State :=
  let rs := (List.range 16).map (fun i => (readings[i]?).getD none)
  let hot := hottest rs
  let s1 := s.forAll (List.range 16) (fun i t => showTemp i ((rs[i]?).getD none) t)
  let s2 := { s1 with therm := { s1.therm with hot := hot } }
  if s2.stage < 3 ∨ 6 ≤ s2.stage then showThermal s2
  else
    let s3 := judge 1506 (rs.any (fun r => !r.any tempValid)) (judge 1505 (hot.all (fun x => decide (2400 ≤ x))) s2)
    let s4 := match hot with
      | none => s3
      | some x =>
        if x < 2080 then { s3 with therm := { s3.therm with active := false } }
        else
          let t := { s3 with therm := { s3.therm with returning := false } }
          if 2160 ≤ x ∧ !t.therm.active then shedStep { t with therm := { t.therm with active := true } } else t
    showThermal s4

/-- The always-on comparator trips (R471, R596): THERMTRIP_N asserts, RAIL_EN falls, and the journal writer records the trip. -/
def thermtrip (s : State) : State :=
  if s.pins.tripped then s
  else jnlInfo 0x31 5 0xFFFF 0 0 { s with pins := { s.pins with tripped := true, railEn := false } }

/-- A core rail leaves its window, or is back inside, for 10 µs (R575); in P2 and P3 the core rails are not monitored. -/
def supplyMonitor (out : Bool) (s : State) : State := if 2 ≤ s.rd R.THM_PWR_STAT_STATE then s else judge 1512 out s

/-- The frequency monitor compares the four clocks with CLK_AON (R22, R456). -/
def clockCheck (core mem up mgmt : Bool) (s : State) : State := judge 1523 mgmt (judge 1522 up (judge 1521 mem (judge 1520 core s)))

/-- REFCLK_UP is missing: E1522, and every sub-port goes DOWN (R579). -/
def refclkUpLoss (s : State) : State := (judge 1522 true s).forAll (List.range s.nsub) upDown

/-- REFCLK_VSL is missing: every back channel stops until a message completes again (R579). -/
def refclkVslLoss (s : State) : State := { s with pins := { s.pins with vslLost := true } }

end Sys2Proof.Machine
end

