-- ==== Sys2Proof/Machine/Trigger.lean ====
section
/-! DEFINITION. Chalk steps (R94, R95), and trigger generators: enabling, disabling, configuration and sending (R97, R98, R129, R205,
R219). -/

namespace Sys2Proof.Machine

/-! ### Steps of Chalk time -/

/-- What a backward step of Chalk time does in Topcoat: the ring is reset and queued frames with deadlines are discarded (R95). -/
def backwardStep (s : State) : State := if s.topcoat then discardDeadlines (ringReset s) else s

/-- A write of CHK_CTRL.STEP (R95). -/
def chalkStep (s : State) : State :=
  if s.anyTg then s.wr R.CHK_STAT_STEP_REFUSED 1
  else
    let (back, s1) := chalkJump (2 ^ 32 * s.rd R.CHK_SET_HI + s.rd R.CHK_SET_LO) s
    s1.when back backwardStep

/-! ### Enabling and disabling (R98, R219) -/

/-- EN of generator `g` becomes 1: triggers go on numbering from the last run, lines already too close are skipped, and the next row
carries FIRST. A commit that waits for the old rows acts at the new run's first row; Skim of a group that a load has restarted
takes it as R0 (R182). In device fault the write is ignored (R129). -/
def tgEnable (g : Nat) (s : State) : State :=
  if s.tgEn g || s.devFault then s
  else
    let x := s.tg g
    let run := (s.tgStart g, s.rd (R.CHK_TG_L0 g), s.tgPeriod g)
    let s1 := s.setTg g { x with base := if x.run = some run then x.base else x.next, run := some run }
    let c := s1.tgFirstAt g ((s1.now : Int) + s1.tgLead g)
    let n := max c x.next
    let past := if x.run = some run ∧ n = c then (x.past ++ [(x.first, x.next)]).filter (fun r => decide (n ≤ r.2 + 256)) else []
    let s2 := (s1.setTg g { s1.tg g with next := n, first := n, base := (s1.tg g).base + (n - c), past := past }).wr
      (R.CHK_TG_CTRL_EN g) 1
    let s3 := (s2.wr (R.CHK_TG_NEXT_LINE g) (s2.tgLine g n)).setSeam g
      { s2.seam g with first := true, ahead := if x.run = some run then (s2.seam g).ahead.filter (fun a => decide (n ≤ a.1)) else [] }
    let s4 := skimFirstRow g x.next n (match s3.commit g with
      | some p => if p.late && !p.cleared then s3.setCommit g (some { p with late := false, row := n }) else s3
      | none => s3)
    s4.when (s4.flag (R.SEM_SKIM_CTRL_LIVE_EN g) && (s4.skimG g).r0.isNone && s4.nmemb g != 0) (skimStart g n)

/-- EN of generator `g` becomes 0 (R219). -/
def tgDisable (g : Nat) (s : State) : State :=
  if s.tgEn g then generatorOff g s else s

/-- A write of CHK_TG_CTRL (R129). -/
def tgControl (g v : Nat) (s : State) : State := if v % 2 = 1 then tgEnable g s else tgDisable g s

/-- A write of the generator's RW register at word `w` (R129): ignored while EN = 1. -/
def tgConfig (g w v : Nat) (s : State) : State :=
  let put (f : Fld) : State := if s.tgEn g then s.wr (R.CHK_TG_STAT_WERR g) 1 else s.wr f v
  match w with
  | 1 => put (R.CHK_TG_LEAD_LEAD g)
  | 2 => put (R.CHK_TG_PERIOD_INT_INT g)
  | 3 => put (R.CHK_TG_PERIOD_FRAC_FRAC g)
  | 4 => put (R.CHK_TG_START_LO g)
  | 5 => put (R.CHK_TG_START_HI g)
  | 6 => put (R.CHK_TG_L0 g)
  | _ => s

/-! ### Sending (R91, R98, R205) -/

/-- The epoch that Skim puts in force for row number `n` of group `g` (R169); `none` while Skim does not run, or before R0. -/
def State.skimEpochAt (s : State) (g n : Nat) : Option Nat :=
  match s.epochRow g with
  | some r => if r ≤ n then some ((s.rd (R.SEM_SKIM_EPOCH g) + (n - r) / s.epochLen g) % 2 ^ 32) else none
  | none => none

/-- The trigger entry of member `i` of group `g` for trigger number `n`: its deadline is that of the row its line maps to (R91). -/
def State.trigEntry (s : State) (g i n : Nat) : TrigEnt :=
  ⟨n, s.tgLine g n, (s.tgTime g n).toNat, (s.rowDeadline g ((n : Int) + s.rd (R.SEM_MEMB_MAP_Y g i))).toNat, 0, false⟩

/-- At T(n) − LEAD generator `g` sends the TRIGGER for its next line to every member port in UP, and the row opens (R98, R205). -/
def triggerSend (g : Nat) (s : State) : State :=
  if !s.tgEn g then s
  else
    let n := (s.tg g).next
    let s1 := skimRowStart g n (s.atTime (s.tgTime g n - s.tgLead g).toNat)
    let s2 := seamOpen g n (s1.skimEpochAt g n) s1
    let ms := (List.range (s2.nmemb g)).filter (fun i => s2.memberOf g (s2.membPort g i) == some i && s2.portUp (s2.membPort g i))
    let s3 := s2.forAll ms (fun i t => trigSend (t.membPort g i) (t.trigEntry g i n) t)
    (s3.setTg g { s3.tg g with next := n + 1 }).wr (R.CHK_TG_NEXT_LINE g) (s3.tgLine g ((n : Int) + 1))

/-! ### Joint starts (R294, R515) -/

/-- Chalk time `t` plus 1 ms, rounded up to a whole µs. -/
def jointStart (t : Nat) : Nat := roundUp (t + 1000000) 1000

/-- START of generator `g` set to `t`. -/
def setStart (g t : Nat) (s : State) : State := (s.wr (R.CHK_TG_START_LO g) t).wr (R.CHK_TG_START_HI g) (t / 2 ^ 32)

end Sys2Proof.Machine
end

