-- ==== Sys2Proof/Machine/Lath.lean ====
section
/-! DEFINITION. The Lath loader (R277, R290 to R295): FETCH, VERIFY, CHECK, DRAIN and APPLY of an image. -/

namespace Sys2Proof.Machine

/-- GLB_LATH_STAT.STATE: 0 IDLE, 1 FETCH, 2 VERIFY, 3 CHECK, 4 DRAIN, 5 APPLY, 6 DONE, 7 FAILED (R304). -/
def State.lathState (s : State) : Nat := s.rd R.GLB_LATH_STAT_STATE

/-- A load is in progress. -/
def State.lathBusy (s : State) : Bool := decide (1 ≤ s.lathState ∧ s.lathState ≤ 5)

/-- A load ends FAILED (R290): E1489, and E1496 for a refusal by signature, rollback, lifecycle or decryption (R456). -/
def lathFail (status sec : Nat) (s : State) : State :=
  let s1 := ((s.wr R.GLB_LATH_STAT_STATE 7).wr R.GLB_LATH_STAT_STATUS status).wr R.GLB_LATH_STAT_SECTION sec
  ((s1.wr R.GLB_IRQ_STAT_LATH 1).raise 1489).raiseIf (decide (6 ≤ status ∧ status ≤ 11)) 1496

/-- A load starts (R292). -/
def lathStart (s : State) : State :=
  ((s.wr R.GLB_LATH_STAT_STATE 1).wr R.GLB_LATH_STAT_STATUS 0).wr R.GLB_LATH_STAT_SECTION 0xFFFF

/-- GO from an access path (R292, R492): refused during a load, before AWAIT_LATH, and outside P0. -/
def lathGo (s : State) : State :=
  if s.lathBusy || !(s.stage == 4 || s.stage == 5) || s.rd R.THM_PWR_STAT_STATE != 0 || s.rd R.THM_PWR_STAT_TRANS != 0 then
    s.wr R.GLB_LATH_STAT_REFUSED 1
  else { lathStart s with ldr := { s.ldr with auto := false } }

/-- A write of GLB_LATH_CTRL (R303). -/
def lathControl (v : Nat) (s : State) : State :=
  (s.wr R.GLB_LATH_CTRL_KIND (bits v 1 1)).when (v.testBit 0) lathGo

/-- A write of GLB_LATH_ADDR or GLB_LATH_LEN, ignored in FETCH (R306). -/
def lathAddrWrite (f : Fld) (v : Nat) (s : State) : State :=
  if s.lathState = 1 then s.wr R.GLB_LATH_STAT_REFUSED 1 else s.wr f v

/-! ### FETCH, VERIFY and CHECK (R290, R292) -/

def State.lathAddr (s : State) : Nat := 2 ^ 32 * s.rd R.GLB_LATH_ADDR_HI_ADDR + s.rd R.GLB_LATH_ADDR_LO
def State.lathLen (s : State) : Nat := s.rd R.GLB_LATH_LEN

/-- The image is read from device memory: its bytes, whether a read failed, and the state after the reads (R290, R350). The reads count
as the DMA activity (log 96). -/
def State.lathImage (s : State) : List Byte × Bool × State := devRead 3 s.lathAddr s.lathLen .none s

/-- FETCH ends; `fail` when a read failed or timed out. -/
def lathFetchDone (fail : Bool) (s : State) : State :=
  if s.lathState ≠ 1 then s
  else if fail ∨ s.lathAddr % 64 ≠ 0 ∨ s.lathLen % 64 ≠ 0 ∨ s.lathLen = 0 ∨ 33554432 < s.lathLen then lathFail 2 0xFFFF s
  else
    let (b, bad, s1) := s.lathImage
    if bad then lathFail 2 0xFFFF s1 else { s1.wr R.GLB_LATH_STAT_STATE 2 with ldr := { s1.ldr with image := b } }

/-- VERIFY ends (R276, R290, R503). -/
def lathVerifyDone (s : State) : State :=
  if s.lathState ≠ 2 then s
  else match s.imgVerify s.ldr.image s.ldr.image.length 0x4854414C (s.rd R.GLB_LATH_CTRL_KIND) true with
    | .error e => lathFail e 0xFFFF s
    | .ok body => { s.wr R.GLB_LATH_STAT_STATE 3 with ldr := { s.ldr with body := body } }

/-- The image in the loader. -/
def State.lath (s : State) : Lath := Lath.parse s.ldr.image s.ldr.body

/-- The groups that a load affects (R293). -/
def Lath.affected (l : Lath) : List Nat := if l.part then [l.group] else List.range 24

/-- Group `g` has drained: no row open, its objects closed (R240, R292). -/
def State.drained (s : State) (g : Nat) : Bool := !s.tgEn g && (s.seam g).rows.isEmpty && (s.seam g).out.isEmpty

/-- CHECK ends: FAILED, or DRAIN with the generators of the affected groups disabled; a partial reload shows that it waits
for open rows (R225, R290, R292). -/
def lathCheckDone (s : State) : State :=
  if s.lathState ≠ 3 then s
  else
    let l := s.lath
    match s.lathError s.ldr.image l with
    | some (st, sec) =>
      let s1 := if st = 15 then
          match l.all.find? (·.n == sec) with
          | some x => s.wr (R.RND_BANK_STAT_TBL_ERR x.index) (l.tableErr x)
          | none => s
        else s
      lathFail st sec s1
    | none =>
      let s1 := (s.wr R.GLB_LATH_STAT_STATE 4).wr R.GLB_LATH_INFO_UNKNOWN_SKIPPED (b2n (l.all.any (fun x => !secListed x.type)))
      s1.forAll l.affected (fun g t =>
        let u := tgDisable g t
        u.wr (R.SEM_STAT_RELOADING g) (b2n (l.part && !u.drained g)))

/-- DRAIN ends: the stores of the trackers that pair an affected group are cleared (R259, R293). -/
def lathDrainDone (s : State) : State :=
  let l := s.lath
  if s.lathState ≠ 4 || !l.affected.all s.drained then s
  else (s.wr R.GLB_LATH_STAT_STATE 5).forAll l.affected plumbReload

/-! ### APPLY: ports (R280, R281, R293) -/

/-- What the image gives lane `n`: RATE, GANG, the lowest port of its channel, and the PORT section; `none` when it is not enabled. -/
def Lath.lane (l : Lath) (n : Nat) : Option (Nat × Nat × Nat × List Byte) :=
  (l.ofType 1).findSome? (fun x =>
    let d := l.data x
    if x.index ≤ n ∧ n < x.index + gangWidth (leAt d 3 1) then some (leAt d 2 1, leAt d 3 1, x.index, d) else none)

/-- The lanes whose settings a load replaces: all of them, or for a partial image those of its ports and the lanes of their former gangs. -/
def State.loadLanes (s : State) (l : Lath) : List Nat :=
  if l.part then (List.range 192).filter (fun n => l.lanes.contains n || l.lanes.contains (s.base n)) else List.range 192

/-- Lane `n` is enabled by the image. -/
def Lath.enabled (l : Lath) (n : Nat) : Bool := match l.lane n with | some p => leAt p.2.2.2 1 1 == 1 | none => false

/-- EN, RATE and GANG of lane `n` are as they are in force (R293). -/
def State.laneKept (s : State) (l : Lath) (n : Nat) : Bool :=
  let on := s.laneState n != 0
  on == l.enabled n && (!on || match l.lane n with
    | some p => s.rd (R.VSP_LANE_STAT_RATE n) == p.1 && s.rd (R.VSP_LANE_STAT_GANG n) == p.2.1 && s.base n == p.2.2.1
    | none => false)

/-- The registers that a PORT section loads, for lane `n` (R113, R280). -/
def portRegs (l : Lath) (n : Nat) (s : State) : State :=
  let s0 := s.resetRange .vsp (0x10000 * n + 0x108) (0x10000 * n + 0x150)
  match l.lane n with
  | none => ((s0.wr (R.VSP_LANE_STAT_RATE n) 0).wr (R.VSP_LANE_STAT_GANG n) 0).wr (R.VSP_LANE_STAT_LANE n) 0
  | some (rate, gang, b, d) =>
    let s1 := ((s0.wr (R.VSP_LANE_STAT_RATE n) rate).wr (R.VSP_LANE_STAT_GANG n) gang).wr (R.VSP_LANE_STAT_LANE n) (n - b)
    let s2 := ((s1.wr (R.VSP_PORT_CFG_GROUP n) (leAt d 4 1)).wr (R.VSP_PORT_CFG_NSTREAMS_M1 n) (leAt d 5 1)).wr (R.VSP_EXP_ID n) (leAt d 8 4)
    s2.forAll (List.range 16) (fun k t =>
      let w := leAt d (0x10 + 4 * k) 4
      ((t.wr (R.VSP_STREAM_PIXELS n k) (bits w 30 16)).wr (R.VSP_STREAM_BANDS n k) (bits w 12 8)).wr (R.VSP_STREAM_FORMAT n k) (bits w 2 0))

/-- The unit of code `c` is skipped by start-up: PERMANENT until the next start (R489). -/
def skipUnit (c : Nat) (s : State) : State := s.setUnit c { s.unit c with permanent := true }

/-- Port or gang `n` leaves OFF for LOCKING (R63); in Undercoat by its decision (R489), and a taped port stays taped. -/
def portStart (n : Nat) (s : State) : State :=
  let d := if s.stage < 5 then s.decision n else 0
  let s1 := s.forAll (s.chan n) (fun i t => laneEnable i (t.when (d == 1) (·.wr (R.VSP_LANE_CTRL_PRESET_SET i) 1)))
  let s2 := if d = 2 then jnlOutcome 0x12 n n 2 0 0 0 (skipUnit n s1) else s1
  if s2.unitTaped n then lanesTape n s2 else s2

/-- The ports `ns` take the image (R293): those whose EN, RATE and GANG are kept keep their lane state; any other goes to OFF, its tests end, and
to LOCKING if it is enabled. -/
def applyPorts (l : Lath) (ns : List Nat) (s : State) : State :=
  let moved := ns.filter (fun n => !s.laneKept l n)
  let s1 := moved.foldl (fun t n => laneOff n (tstEnded n 2 t)) s
  let s2 := s1.forAll ns (portRegs l)
  s2.forAll (moved.filter (fun n => l.enabled n && s2.base n == n)) portStart

/-- The registers that a RENDER section loads (R281). -/
def renderRegs (l : Lath) (n : Nat) (s : State) : State :=
  let s0 := s.resetRange .rnd (0x10000 * n + 0x10) (0x10000 * n + 0x30)
  match l.sec 2 n with
  | none => s0
  | some x =>
    let d := l.data x
    let s1 := ((s0.wr (R.RND_IN_WINDOW_FIRST n) (leAt d 0 2)).wr (R.RND_IN_WINDOW_COUNT n) (leAt d 2 2)).wr (R.RND_OUT_WINDOW_FIRST n) (leAt d 4 2)
    let s2 := ((s1.wr (R.RND_OUT_WINDOW_COUNT n) (leAt d 6 2)).wr (R.RND_OUT_CFG_OUT_W n) (leAt d 8 2)).wr (R.RND_OUT_CFG_NOUT n) (leAt d 10 1)
    let s3 := ((s2.wr (R.RND_OUT_CFG_ALIGN_KIB n) (leAt d 11 1)).wr (R.RND_GANG_SLICE n) (leAt d 12 1)).wr (R.RND_GANG_GANG n)
      (s.rd (R.VSP_LANE_STAT_GANG n))
    s3.forAll (List.range 4) (fun j t =>
      (((t.wr (R.RND_ALIGN_D_D0 n j) (leAt d (16 + 4 * j) 1)).wr (R.RND_ALIGN_D_D1 n j) (leAt d (17 + 4 * j) 1)).wr
        (R.RND_ALIGN_D_D2 n j) (leAt d (18 + 4 * j) 1)).wr (R.RND_ALIGN_D_D3 n j) (leAt d (19 + 4 * j) 1))

/-- Render of the ports `ns` takes the image: registers, both banks, and Skim's hidden state of the engine (R155, R182, R293). -/
def applyRender (l : Lath) (ns : List Nat) (s : State) : State :=
  s.forAll ns (fun n t =>
    let t1 := renderRegs l n t
    match l.sec 3 n with
    | none => t1
    | some x =>
      let t2 := (loadBanks n (tableBank (l.data x)) t1).wr (R.RND_BANK_STAT_TBL_ERR n) 0
      let q := t2.skim n
      (t2.setRnd n { t2.rnd n with store := [] }).setSkim n
        { SkimPort.init with withheld := q.withheld, ckpt := q.ckpt, firstHead := q.firstHead })

/-! ### APPLY: groups and trackers (R243, R283, R284, R293) -/

/-- The handle of LOAD of group `g` (R306). -/
def loadField (g : Nat) : Fld :=
  match g % 4 with
  | 0 => R.GLB_LOAD_L0 (g / 4)
  | 1 => R.GLB_LOAD_L1 (g / 4)
  | 2 => R.GLB_LOAD_L2 (g / 4)
  | _ => R.GLB_LOAD_L3 (g / 4)

/-- A member entry is loaded (R228, R283). -/
def memberRegs (g i : Nat) (m : LathMemb) (s : State) : State :=
  let s1 := (((s.wr (R.SEM_MEMB_PORT_PORT g i) m.port).wr (R.SEM_MEMB_PORT_GANG g i) m.gang).wr (R.SEM_MEMB_PORT_STREAM g i) m.stream).wr
    (R.SEM_MEMB_PORT_SLOTS g i) m.slots
  let s2 := ((s1.wr (R.SEM_MEMB_COLS_COL_FIRST g i) m.first).wr (R.SEM_MEMB_COLS_COL_LAST g i) m.last).wr (R.SEM_MEMB_MAP_XOFF g i) m.xoff
  let s3 := ((s2.wr (R.SEM_MEMB_MAP_PLANE g i) m.plane).wr (R.SEM_MEMB_MAP_Y g i) m.y).wr (R.SEM_MEMB_ARR_ARR g i) m.arr
  let s4 := ((s3.wr (R.SEM_MEMB_OVL_MODE g i) m.mode).wr (R.SEM_MEMB_OVL_FALLBACK g i) m.fb).wr (R.SEM_MEMB_OVL_CUT g i) m.cut
  ((s4.wr (R.SEM_MEMB_OVL_LIVE_MODE g i) m.mode).wr (R.SEM_MEMB_OVL_LIVE_FALLBACK g i) m.fb).wr (R.SEM_MEMB_OVL_LIVE_CUT g i) m.cut

/-- The registers that a GROUP section loads (R283). -/
def groupRegs (g : Nat) (d : List Byte) (s : State) : State :=
  let s1 := ((s.wr (R.SEM_CFG_ROW_W_M1 g) (leAt d 0 2)).wr (R.SEM_CFG_NPLANES_M1 g) (leAt d 2 1 - 1)).wr (R.SEM_CFG_NMEMB g) (grpNmemb d)
  let s2 := ((s1.wr (R.SEM_SLACK_SLACK g) (leAt d 4 4)).wr (R.SEM_BUF_BASE g) (leAt d 8 2)).wr (R.SEM_BUF_SIZE g) (leAt d 10 2)
  let s3 := ((s2.wr (R.CHK_TG_PERIOD_INT_INT g) (leAt d 0x0C 4)).wr (R.CHK_TG_PERIOD_FRAC_FRAC g) (leAt d 0x10 2)).wr
    (R.CHK_TG_LEAD_LEAD g) (leAt d 0x14 4)
  let s4 := s3.when (leAt d 0x12 1 == 0xFF) (·.wr (R.CHK_TG_L0 g) (leAt d 0x18 4))
  let s5 := ((s4.wr (R.STN_CFG_MORPH g) (leAt d 0x13 1)).wr (R.STN_CFG_MAX_CLOSE g) (leAt d 0x1C 2)).wr (R.STN_TILE_GEOM_LOOKBACK g) (leAt d 0x1E 1)
  let s6 := ((s5.wr (R.STN_TILE_GEOM_TW16 g) (leAt d 0x1F 1)).wr (R.STN_TILE_GEOM_TPLANES g) (leAt d 0x20 2)).wr
    (R.STN_TILE_POOL_TH_MAX g) (leAt d 0x22 2)
  let s7 := ((s6.wr (R.STN_TILE_POOL_POOL_KIB g) (leAt d 0x24 2)).wr (R.SEM_SKIM_CFG_LOG2E g) (leAt d 0x26 1)).wr
    (R.SEM_SKIM_CFG_HOLDOFF g) (leAt d 0x28 2)
  let s8 := s7.forAll (List.range 16) (fun q t => t.wr (bglReg g q) (leAt d (0x30 + 2 * q) 2))
  let ms := grpMembers d
  (ms.zip (List.range ms.length)).foldl (fun t m => memberRegs g m.2 m.1 t) s8

/-- Group `g` takes the image: LOAD increments, record SEQ restarts at 1, recording settings, and the hidden state of Seam, Stencil and
Skim starts afresh (R243, R287, R293); a group without a section is unused, and one that becomes used takes the reset values of its
registers (the preamble of the registers of chapter 06); statistics counters are not cleared. -/
def applyGroup (l : Lath) (g : Nat) (s : State) : State :=
  let b := 0x10000 * g
  let n := grpNmemb (l.bytes 4 g)
  let fresh := s.when (s.nmemb g == 0) (fun t => (t.resetRange .sem b (b + 0x10000)).setSeam g { t.seam g with cseq := 0 })
  let s0 := ((fresh.resetRange .sem (b + 0x10) (b + 0x1C)).resetRange .sem (b + 0x400 + 0x20 * n) (b + 0x800)).resetRange .stn (b + 0x40) (b + 0x4C)
  let s1 := match l.sec 4 g with
    | some x => groupRegs g (l.data x) s0
    | none => (s0.wr (R.SEM_SKIM_CFG_LOG2E g) 0x10).wr (R.SEM_SKIM_CFG_HOLDOFF g) 0x200
  let s2 := stencilClear g (s1.wr (loadField g) (s1.rd (loadField g) + 1))
  let s3 := s2.setStn g { s2.stn g with seq := 1 }
  let s4 := (s3.wr (R.STN_NEXT_ID_LO g) (s3.nextObjId g)).wr (R.STN_NEXT_ID_HI g) (s3.nextObjId g / 2 ^ 32)
  let s5 := (s4.setSeam g { s4.seam g with first := true, lastEpoch := 0 }).setSkimG g { SkimGrp.init with
    started := (s4.skimG g).started, bglLath := (List.range 16).map (fun q => s4.rd (bglReg g q)) }
  let rc : RecCfg := match l.sec 6 g with
    | some x =>
      let d := l.data x
      let f := leAt d 0 1
      { rows := f.testBit 0, objs := f.testBit 2, tiles := f.testBit 1, code := f.testBit 3, decim := max 1 (leAt d 2 2),
        planes := leAt d 4 2 }
    | none => RecCfg.none
  { s5 with hst := { s5.hst with cfg := s5.hst.cfg.set RecCfg.none g rc } }

/-- Trackers take the image (R284): in a full image those without a section are unused. -/
def applyTrackers (l : Lath) (s : State) : State :=
  s.forAll (List.range 12) (fun t u =>
    match l.sec 5 t with
    | some x =>
      let d := l.data x
      let f := leAt d 0 1
      let u1 := (((u.wr (R.PLB_CFG_EN t) f).wr (R.PLB_CFG_LINK_EN t) (f / 2)).wr (R.PLB_CFG_UPPER t) (leAt d 1 1)).wr (R.PLB_CFG_LOWER t) (leAt d 2 1)
      let u2 := ((u1.wr (R.PLB_CFG_LINK_T t) (leAt d 3 1)).wr (R.PLB_XMAP_X_SCALE t) (leAt d 4 2)).wr (R.PLB_XMAP_X_OFF t) (leAt d 6 2)
      plumbClear t ((u2.wr (R.PLB_DH_DH t) (leAt d 8 4)).wr (R.PLB_PITCH_PITCH t) (leAt d 12 4))
    | none => if l.part then u else plumbClear t (u.resetRange .plb (0x100 * t) (0x100 * t + 0x10)))

/-! ### APPLY: device-wide sections (R285 to R287, R293) -/

/-- The end of valid DRAM with the image's MEM_GIB. -/
def State.newEnd (s : State) (d : List Byte) : Nat := 2 ^ 30 * (s.mem.chans.length * leAt d 2 1)

/-- The history ring that the MEMORY section gives, in units of 64 KiB: base and size, adjusted to the channels in service (R349). -/
def State.newRing (s : State) (d : List Byte) : Nat × Nat :=
  match (memRegions d).find? (·.2.2.1 == 1) with
  | none => (0, 0)
  | some (base, size, _, _) =>
    let top := s.newEnd d
    if base + size ≤ top then (base / 65536, size / 65536)
    else if top < base + 0x4000000 then (0, 0)
    else (base / 65536, (top - base) / 65536)

/-- The spill region of Hawk queue `q`: base and bytes; none when it is unavailable (R349, R430). -/
def State.newSpill (s : State) (d : List Byte) (q : Nat) : Nat × Nat :=
  match (memRegions d).find? (fun r => r.2.2.1 == 2 && r.2.2.2 == q) with
  | some (base, size, _, _) => if base + size ≤ s.newEnd d then (base, size) else (0, 0)
  | none => (0, 0)

/-- The MEMORY section is applied (R285, R349, R361): a ring of another place or size is reset, and so is one kept after the channels in
service have changed. -/
def applyMemory (d : List Byte) (s : State) : State :=
  let ring := s.newRing d
  let old := (s.rd R.HST_RING_BASE, s.rd R.HST_RING_SIZE)
  let s1 := ((s.wr R.MEM_CFG_MASK (leAt d 0 1)).wr R.MEM_CFG_BIN (leAt d 1 1)).wr R.MEM_CFG_GIB (leAt d 2 1)
  let s2 := s1.forAll (List.range 8) (fun m t =>
    (((t.wr (R.MEM_CH_SHARE01_HIST m) (leAt d (0x10 + 8 * m) 2)).wr (R.MEM_CH_SHARE01_REPLAY m) (leAt d (0x12 + 8 * m) 2)).wr
      (R.MEM_CH_SHARE23_HAWK m) (leAt d (0x14 + 8 * m) 2)).wr (R.MEM_CH_SHARE23_DMA m) (leAt d (0x16 + 8 * m) 2))
  let s3 := s2.forAll (List.range 64) (fun q t =>
    let r := s.newSpill d q
    if (t.hq q).base = r.1 ∧ (t.hq q).size = r.2 then t else hawkRegion q r.1 r.2 t)
  let served := s.rd R.MEM_STAT_IN_SERVICE
  let s4 := { (s3.wr R.HST_RING_BASE ring.1).wr R.HST_RING_SIZE ring.2 with
                mem := { s3.mem with gib := leAt d 2 1, present := !d.isEmpty, served := served } }
  if ring = old ∧ served = s.mem.served then hstState (s4.rd R.HST_STAT_STATE == 4) s4 else ringReset s4

/-- The classes of the UPLINK section are loaded (R286, R337). -/
def uplinkRegs (d : List Byte) (s : State) : State :=
  let s0 := (s.forAll (List.range 64) (fun i t =>
    (((t.wr (R.UPL_CLASS_PRIO i) 0).wr (R.UPL_CLASS_KINDS i) 0).wr (R.UPL_CLASS_SHARE i) 0).wr (R.UPL_CLASS_GROUPS_GROUPS i) 0)).wr
    R.UPL_CFG_MODE (leAt d 0 1)
  let s1 := (s0.wr R.UPL_CFG_FALLBACK (leAt d 1 1)).wr R.UPL_CFG_NCLASS (leAt d 2 1)
  s1.forAll (List.range (leAt d 2 1)) (fun k t =>
    let o := 16 + 16 * k
    let i := cix (leAt d o 1) (leAt d (o + 1) 1)
    (((t.wr (R.UPL_CLASS_PRIO i) (leAt d (o + 2) 1)).wr (R.UPL_CLASS_KINDS i) (leAt d (o + 3) 1)).wr (R.UPL_CLASS_SHARE i) (leAt d (o + 4) 2)).wr
      (R.UPL_CLASS_GROUPS_GROUPS i) (leAt d (o + 6) 4))

/-- Sub-port `x` is brought up by a full image (R309): in Undercoat by its decision (R483, R489); in fall-back when a declared lane is
taped off (R310). -/
def subStart (x : Nat) (s : State) : State :=
  let u := s.lowLane x
  let d := if s.stage < 5 then s.decision (200 + u) else 0
  if d = 2 then
    jnlOutcome 0x13 (200 + u) (0x5000 + u) 2 0 0 (s.rd R.UPL_CFG_MODE) ((skipUnit (0x5000 + u) s).wr (R.UPL_LANE_STAT_TAPED u) 1)
  else upBring x (d == 1 || (s.subLanes x).any s.laneTaped) s

/-- The UPLINK section is applied (R309): queued frames are discarded; with MODE and FALLBACK kept, sub-ports stay up,
and one that is DOWN goes to TRAINING. -/
def applyUplink (d : List Byte) (s : State) : State :=
  let s1 := s.forAll (List.range s.nsub) upFlush
  if s.rd R.UPL_CFG_NCLASS ≠ 0 ∧ s.rd R.UPL_CFG_MODE = leAt d 0 1 ∧ s.rd R.UPL_CFG_FALLBACK = leAt d 1 1 then
    let s2 := uplinkRegs d (s1.forAll (List.range s1.nsub) creditUpdate)
    s2.forAll (List.range s2.nsub) (fun x t =>
      if t.subState x = 0 then subStart x t
      else if t.rd (R.UPL_SP_STAT_RATE x) = 0 then t else rescale x (t.rd (R.UPL_SP_STAT_RATE x) / 8) t)
  else
    let s2 := uplinkRegs d (s1.forAll (List.range s1.nsub) upDown)
    s2.forAll (List.range s2.nsub) subStart

/-- Every FLT_SEV field takes its default, then the POLICY entries are applied (R287, R459). -/
def applyPolicy (d : List Byte) (s : State) : State :=
  let s1 := s.forAll ((List.range 1536).filter (fun e => !evReserved e)) (fun e t => t.wr (fltSev e) (evDefault e))
  s1.forAll (List.range (leAt d 0 4)) (fun k t =>
    let e := leAt d (4 + 4 * k) 2
    if evReserved e then t else t.wr (fltSev e) (leAt d (6 + 4 * k) 1))

/-- The device-wide sections of a full image (R293). -/
def applyDevice (l : Lath) (s : State) : State :=
  let s1 := applyMemory (l.bytes 0x10 0) s
  let st := l.bytes 0x12 0
  let s2 := ((applyUplink (l.bytes 0x11 0) s1).wr R.STP_CFG_HIST_SHARE (leAt st 0 2)).wr R.STP_CFG_JOB_SHARE (leAt st 2 2)
  let s3 := applyPolicy (l.bytes 0x15 0) s2
  let ck := l.bytes 0x16 0
  let s4 := ((s3.wr R.BOT_CKPT_AREA_BASE (leAt ck 0 1)).wr R.BOT_CKPT_AREA_SIZE (leAt ck 2 2)).forAll (List.range 192) (fun n t =>
    t.setSkim n { t.skim n with ckpt := (leAt ck 4 24).testBit n })
  { s4 with ldr := { s4.ldr with shed := (l.bytes 0x13 0).map BitVec.toNat, edges := dependEdges (l.bytes 0x14 0) } }

/-- The DEPEND section of a partial image replaces the edges that have an end in its scope (R291). -/
def applyEdges (l : Lath) (s : State) : State :=
  match l.sec 0x14 0 with
  | none => s
  | some x =>
    let kept := s.ldr.edges.filter (fun e => !s.edgeEnd l e.1 && !s.edgeEnd l e.2.1)
    { s with ldr := { s.ldr with edges := kept ++ dependEdges (l.data x) } }

/-! ### APPLY: SH registers (R289) -/

/-- Every register block. -/
def allBlocks : List Blk :=
  [.glb, .chk, .vsp, .rnd, .sem, .stn, .plb, .upl, .mem, .stp, .dma, .hwk, .cvu, .flt, .sec, .bot, .tst, .thm]

/-- The SH fields in the scope of the image, with their `_LIVE` fields (R289, R291). -/
def State.shScope (s : State) (l : Lath) : List (Fld × Fld) :=
  if l.part then
    (l.lanes.map (fun n => shUnit .vsp vspMap n ++ shUnit .rnd rndMap n)).flatten ++ shUnit .sem semMap l.group ++
      shUnit .stn stnMap l.group ++ (((List.range 12).filter (s.pairs · l.group)).map (shUnit .plb plbMap)).flatten
  else (allBlocks.map (fun b => shAll b (blkMap b))).flatten

/-- SH registers in scope return to their reset values, shadow and value in force together (R289). -/
def resetSh (l : Lath) (s : State) : State := (s.shScope l).foldl (fun t f => (t.wr f.1 f.1.rst).wr f.2 f.1.rst) s

/-- The RUNTIME pairs are written to the shadow and to the value in force together (R289). -/
def applyRuntime (l : Lath) (s : State) : State :=
  ((runtimePairs (l.bytes 0x20 0)).map (fun p => (shAt p.1).map (fun f => (f.1, f.2.1, p.2 / 2 ^ f.2.2)))).flatten.foldl
    (fun t f => (t.wr f.1 f.2.2).wr f.2.1 f.2.2) s

/-! ### APPLY: generators and the end (R277, R292, R294) -/

/-- SYNC of group `g` in the image; 0xFF without a section. -/
def Lath.sync (l : Lath) (g : Nat) : Nat := match l.sec 4 g with | some x => leAt (l.data x) 0x12 1 | none => 0xFF

/-- The group whose START and L0 group `g` takes (R294). -/
def Lath.syncRoot (l : Lath) (g : Nat) : Nat := iter (fun x => if l.sync x < 24 then l.sync x else x) 24 g

/-- The groups of the image with AUTO_EN (R283). -/
def Lath.autos (l : Lath) : List Nat := (List.range 24).filter (fun g => leAt (l.bytes 4 g) 0x27 1 == 1 && (l.sec 4 g).isSome)

/-- Generators are enabled as the image says, with START `t` for those that do not follow another group (R294). -/
def lathGenerators (t : Nat) (s : State) : State :=
  let l := s.lath
  let s1 := s.forAll (l.autos.filter (fun g => l.sync g == 0xFF)) (fun g u => setStart g t u)
  let s2 := s1.forAll ((List.range 24).filter (fun g => l.sync g != 0xFF)) (fun g u =>
    let r := l.syncRoot g
    ((u.wr (R.CHK_TG_START_LO g) (u.rd (R.CHK_TG_START_LO r))).wr (R.CHK_TG_START_HI g) (u.rd (R.CHK_TG_START_HI r))).wr (R.CHK_TG_L0 g)
      (u.rd (R.CHK_TG_L0 r)))
  s2.forAll l.autos tgEnable

/-- The loader's registers after APPLY of a full or partial image (R277, R305). -/
def lathRecord (l : Lath) (s : State) : State :=
  let img := s.ldr.image
  if l.part then s.wr R.GLB_LATH_INFO_PARTIALS (s.rd R.GLB_LATH_INFO_PARTIALS + 1)
  else
    let id := imgId img
    let s1 := (s.forAll (List.range 4) (fun j t => t.wr (R.GLB_IMAGE_ID j) (leAt id (4 * j) 4))).wr R.GLB_LATH_INFO_FMT_MINOR (imgMinor img)
    { s1.wr R.GLB_LATH_INFO_PARTIALS 0 with ldr := { s1.ldr with inForce := true, version := imgVersion img } }

/-- APPLY ends (R289, R292 to R294): everything is written, pending sets of affected groups are discarded, and the load is DONE. -/
def lathApplyDone (s : State) : State :=
  if s.lathState ≠ 5 then s
  else
    let l := s.lath
    let s1 := s.forAll l.affected (fun g t =>
      let t1 := commitDiscard g t
      if (t1.skimG g).r0.isSome then skimEnd g false t1 else t1)
    let s2 := resetSh l s1
    let s3 := if l.part then applyEdges l s2 else applyDevice l s2
    let ns := s3.loadLanes l
    let s4 := applyRender l ns (applyPorts l ns s3)
    let s5 := applyTrackers l (s4.forAll l.affected (applyGroup l))
    let s6 := (applyRuntime l s5).forAll ((List.range 12).filter (fun t => s5.flag (R.PLB_CFG_EN t))) showDtNom
    let s8 := (((lathRecord l s6).wr R.GLB_LATH_STAT_STATE 6).wr R.GLB_LATH_STAT_STATUS 1).wr R.GLB_IRQ_STAT_LATH 1
    let s9 := s8.raise 1489
    if s9.topcoat then lathGenerators (jointStart s9.now) s9 else s9

end Sys2Proof.Machine
end

