-- ==== Sys2Proof/Machine/Boot.lean ====
section
/-! DEFINITION. Start-up (R481 to R492): resets and straps, the Primer and Undercoat steps with their journal outcomes, slots and
firmware images, AWAIT_LATH, HOSTWAIT, safe mode, Topcoat entry and the Undercoat watchdog. -/

namespace Sys2Proof.Machine

/-! ### The start of a start (R481 to R483, R487, R492) -/

/-- BOT_STAT.STAGE, and the highest stage reached (R487, R493). -/
def setStage (v : Nat) (s : State) : State :=
  let s1 := s.wr R.BOT_STAT_STAGE v
  { s1 with boot := { s1.boot with lastStage := max s1.boot.lastStage v } }

def setStep (v : Nat) (s : State) : State := s.wr R.BOT_STAT_STEP v

/-- Copy `a` of the journal is newer than copy `b`: by BOOT_SEQ, then by NEXT along the ring (R487). -/
def jnlNewer (a b : List Byte) : Bool :=
  decide (leAt b 4 4 < leAt a 4 4) ||
    (leAt a 4 4 == leAt b 4 4 && decide (0 < (leAt a 0xA 2 + jnlRing - leAt b 0xA 2) % jnlRing ∧
      (leAt a 0xA 2 + jnlRing - leAt b 0xA 2) % jnlRing < jnlRing / 2))

/-- The journal copy in force: `none` when neither is valid (R487). -/
def State.jnlInForce (s : State) : Option Nat :=
  let a := s.jnlCopy 0
  let b := s.jnlCopy 1
  match jnlValid a, jnlValid b with
  | true, true => some (if jnlNewer b a then 1 else 0)
  | true, false => some 0
  | false, true => some 1
  | false, false => none

/-- The journal record at ring index `i`. -/
def State.jnlRec (s : State) (i : Nat) : List Byte := if i < jnlRing then memRead s.mram (0x2000 + 32 * i) 32 else zeros 32

/-- The journal writer takes the copy in force; a start after a THERMTRIP shows TRIPPED and raises E1507; without a valid copy all entries
are 0 and E1491 is raised (R484, R487, R492). -/
def jnlOpen (s : State) : State :=
  match s.jnlInForce with
  | some c =>
    let b := s.jnlCopy c
    let next := leAt b 0xA 2 % jnlRing
    let last := s.jnlRec ((next + jnlRing - 1) % jnlRing)
    let trip := leAt last 0 1 == 0x31 && leAt last 0x1C 4 == crc32c (slice last 0 0x1C)
    let s1 := (({ s with boot := { s.boot with copy := c } }.wr R.BOT_SEQ (leAt b 4 4 + 1)).wr R.BOT_JNL_NEXT_N next).wr
      R.BOT_STAT_TRIPPED (b2n trip)
    s1.raiseIf trip 1507
  | none => jnlStore (zeros 1024) ((s.wr R.BOT_SEQ 1).raise 1491)

/-- Everything returns to its state at reset but what the always-on island, MRAM and the fuses keep; POR_N resets the island too
(R481, R529); POR_N and TRST_N alone reset the TAP (R545). -/
def State.cold (s : State) (por : Bool) : State :=
  let r := { State.reset with
    draws := s.draws, mram := s.mram, fuses := s.fuses, pending := s.pending,
    boot := { Boot.init with copy := s.boot.copy, selPins := s.boot.selPins },
    io := if por then Ports.init else { Ports.init with dbg := s.io.dbg },
    pins := if por then { Pins.init with vslLost := s.pins.vslLost }
      else { Pins.init with tripped := s.pins.tripped, railEn := s.pins.railEn, vslLost := s.pins.vslLost } }
  if por then r
  else ((r.wr R.THM_WAKE_CFG_PIN_EN (s.rd R.THM_WAKE_CFG_PIN_EN)).wr R.THM_WAKE_CFG_TIMER_EN (s.rd R.THM_WAKE_CFG_TIMER_EN)).wr
    R.THM_WAKE_CFG_TIMER (s.rd R.THM_WAKE_CFG_TIMER)

/-- Primer begins with STRAP, or with CLOCK on a wake from P2 (R483); not while THERMTRIP_N is asserted (R471). -/
def primer (wake : Bool) (s : State) : State :=
  if s.pins.tripped then s
  else
    let s1 := jnlOpen (setStage 1 s)
    let s2 := if wake then s1 else jnlDevice 1 0 s1
    setStep 2 { s2 with boot := { s2.boot with wake := wake } }

/-- The reset inputs act: BOOT_SEL is sampled at their deassertion (R481, R482). -/
def startUp (por : Bool) (s : State) : State :=
  let s1 := s.cold por
  primer false (s1.wr R.BOT_STRAP_SEL s1.boot.selPins)

/-- POR_N is asserted (R481). -/
def porAssert (s : State) : State :=
  let s1 := s.cold true
  { s1 with pins := { s1.pins with porLow := true } }

/-- POR_N deasserts with BOOT_SEL `sel`. -/
def porRelease (sel : Nat) (s : State) : State := startUp true { s with boot := { s.boot with selPins := sel } }

/-- SYS_RST_N, with BOOT_SEL `sel` at its deassertion; in P3 only POR_N acts (R481, R514). -/
def sysReset (sel : Nat) (s : State) : State := if s.power.off then s else startUp false { s with boot := { s.boot with selPins := sel } }

/-- A reset that acts as SYS_RST_N (R481). -/
def actReset (s : State) : State := sysReset s.boot.selPins s

/-! ### CLOCK and JOURNAL (R484, R489, R498, R499, R501) -/

/-- The decisions of the start (R489). -/
def jnlDecisions (s : State) : State :=
  { s with boot := { s.boot with decisions := (List.range 211).foldl (fun t e => t.set 0 e (jnlDecide (s.jnlEntry e))) [] } }

/-- Slots 1 to 15 are zeroed and revoked, and the MRAM key area is erased (R519). -/
def eraseKeys (s : State) : State :=
  { s with fuses := { s.fuses with ec := [], pq := [], aes := [], revoked := 0xFFFE, erasing := false,
                                     policy := if s.fuses.lc = 2 then s.fuses.policy else 0x28000000 } }

/-- A new nonce (R498). -/
def newNonce (s : State) : State :=
  let (n, s1) := s.drawBytes 32
  { s1 with sec := { s1.sec with nonce := n } }

/-- The core PLL locks (R484): CLOCK ends, Chalk starts, JOURNAL decides, and Primer goes on to SLOT by BOOT_SEL (R482). `bad` names the key
slots that fail their integrity check, `jerr` tells of an MRAM read error. -/
def coreLock (bad : Nat) (jerr : Bool) (s : State) : State :=
  if s.stage ≠ 1 ∨ s.rd R.BOT_STAT_STEP ≠ 2 then s
  else
    let s1 := { s with chalk := { Chalk.init with run := true } }
    let s2 := setStep 3 (if s.boot.clockFail then s1 else jnlDevice 2 0 s1)
    let s3 := if jerr then jnlStore (zeros 1024) (s2.raise 1491) else s2
    let fail := jerr || s.boot.early.any (·.1 == 1491)
    let s4 := jnlDevice 3 (b2n fail) (jnlDecisions s3)
    let s5 := if s4.fuses.erasing then eraseKeys s4 else s4
    let s6 := newNonce (({ s5 with sec := { Sec.init with bad := bad &&& 0xFFFE } }).raiseIf
      ((List.range 16).any (fun k => k != 0 && bad.testBit k && s5.keyPresent k)) 1498)
    let sel := s6.rd R.BOT_STRAP_SEL
    if sel ≤ 3 then
      setStep 4 { s6.wr R.BOT_STAT_SRC (sel / 3) with boot := { s6.boot with pref := 2, candidates := [] } }
    else if sel = 4 then setStage 2 (setStep 4 (s6.wr R.BOT_STAT_SRC 2))
    else if sel = 7 ∧ s6.fuses.lc = 0 then
      setStep 4 { s6 with boot := { s6.boot with d3 := true }, sec := { s6.sec with bad := 0xFFFE } }
    else setStage 6 (setStep 0 (s6.wr R.BOT_STAT_SAFE_CAUSE 2))

/-- The 100 ms retry of CLOCK (R484): one FAIL record in a start. -/
def clockRetry (s : State) : State :=
  if s.stage ≠ 1 ∨ s.rd R.BOT_STAT_STEP ≠ 2 ∨ s.boot.clockFail then s
  else
    let s1 := jnlDevice 2 1 s
    { s1 with boot := { s1.boot with clockFail := true } }

/-! ### Slots and firmware images (R485, R486) -/

/-- Directory entry of TYPE `t`: offset, length and ICRC. -/
def dirEntry (b : List Byte) (t : Nat) : Option (Nat × Nat × Nat) :=
  ((List.range (leAt b 6 2)).map (fun e => 0x10 + 16 * e)).findSome?
    (fun o => if leAt b o 4 = t then some (leAt b (o + 4) 4, leAt b (o + 8) 4, leAt b (o + 12) 4) else none)

/-- The directory of a slot of `size` bytes is valid (R485). -/
def dirValid (b : List Byte) (size : Nat) : Bool :=
  let n := leAt b 6 2
  let es := (List.range n).map (fun e => 0x10 + 16 * e)
  leAt b 0 4 == 0x544F4C53 && leAt b 4 2 == 1 && leAt b 0x7C 4 == crc32c (slice b 0 0x7C) && decide (1 ≤ n ∧ n ≤ 3) &&
  es.all (fun o => decide (1 ≤ leAt b o 4 ∧ leAt b o 4 ≤ 3)) && (es.map (fun o => leAt b o 4)).Nodup &&
  (dirEntry b 1).isSome && (dirEntry b 2).isSome &&
  es.all (fun o => decide (leAt b (o + 4) 4 + leAt b (o + 8) 4 ≤ size))

/-- The image of TYPE `t` in a slot, with a correct ICRC. -/
def slotImage (b : List Byte) (t : Nat) : Option (List Byte) :=
  match dirEntry b t with
  | some (off, len, crc) => let i := slice b off len; if crc32c i = crc then some i else none
  | none => none

/-- A firmware image that passes: interface version, BUILD, SEC_VERSION, and whether it makes an UNTESTED_PAIR. -/
structure FwInfo where
  major    : Nat
  minor    : Nat
  build    : Nat
  version  : Nat
  untested : Bool
  deriving DecidableEq, Repr

/-- The checks of a firmware image (R486): OUTCOME, CAUSE and the container's STATUS of a failure. -/
def State.fwCheck (s : State) (img : List Byte) (magic major minor : Nat) : Except (Nat × Nat × Nat) FwInfo :=
  match s.imgVerify img img.length magic 0 false with
  | .error e => .error (1, 0, e)
  | .ok _ =>
    if leAt img 0x54 2 ≠ major then .error (4, 1, 0)
    else if (leAt img 0x58 2).testBit Config.stepping then .error (4, 2, 0)
    else .ok ⟨leAt img 0x54 2, leAt img 0x56 2, leAt img 0x30 8, imgVersion img,
      leAt img 0x56 2 != minor || !(imgSteppings img).testBit Config.stepping⟩

/-- The checks of a slot (R486): control and lane firmware. -/
def State.slotCheck (s : State) (b : List Byte) (size : Nat) : Except (Nat × Nat × Nat) (FwInfo × FwInfo) :=
  if !dirValid b size then .error (1, 0, 0)
  else match slotImage b 1, slotImage b 2 with
    | some c, some l =>
      match s.fwCheck c 0x4D574643 (s.rd R.BOT_HWIF_CTL_MAJOR) (s.rd R.BOT_HWIF_CTL_MINOR) with
      | .error e => .error e
      | .ok ci => match s.fwCheck l 0x4D57464C (s.rd R.BOT_HWIF_LANE_MAJOR) (s.rd R.BOT_HWIF_LANE_MINOR) with
        | .error e => .error e
        | .ok li => .ok (ci, li)
    | _, _ => .error (1, 0, 0)

/-- The firmware of a slot runs (R486, R496). -/
def fwRun (c l : FwInfo) (s : State) : State :=
  let s1 := (((s.wr R.BOT_FW_INFO_CMAJ c.major).wr R.BOT_FW_INFO_CMIN c.minor).wr R.BOT_FW_INFO_LMAJ l.major).wr R.BOT_FW_INFO_LMIN l.minor
  let s2 := { s1 with fw := ⟨c.build, c.version, l.version⟩ }
  if c.untested || l.untested then (s2.wr R.BOT_STAT_UNTESTED_PAIR 1).raise 1490 else s2

/-! ### Undercoat: MEMORY and LATH (R346, R483, R484, R489, R490) -/

/-- Undercoat waits for a software load (R490); the watchdog is paused. -/
def awaitLath (s : State) : State := setStage 4 s

/-- The Lath image of the start: of the other slot when the decision is ALTERNATE (R483). -/
def State.bootImage (s : State) : Option (List Byte) := if s.decision 208 = 1 then s.boot.otherLath else s.boot.lath

/-- The MEMORY section of the start's image, when it can be read. -/
def State.bootMemory (s : State) : Option (List Byte) :=
  match s.bootImage with
  | none => none
  | some b =>
    match s.imgVerify b b.length 0x4854414C 0 true with
    | .ok body => let d := (Lath.parse b body).bytes 0x10 0; if d.isEmpty then none else some d
    | .error _ => none

/-- The channels that MEMORY trains, with the bin of the image: all eight without a readable image. -/
def State.memPlan (s : State) : Nat × Nat := match s.bootMemory with | some d => (leAt d 0 1, leAt d 1 1) | none => (0xFF, 0)

/-- MEM_GIB of the start's image: DRAM has no valid address without a readable one, until an image is applied (log 96). -/
def State.memGib (s : State) : Nat := match s.bootMemory with | some d => leAt d 2 1 | none => 0

/-- MEMORY starts: channels of MEM_MASK train, those with decision SKIP are recorded; one alternate decision moves all to the next slower bin
(R346, R489). -/
def memoryStart (s : State) : State :=
  let (mask, bin) := s.memPlan
  let ms := (List.range 8).filter (mask.testBit ·)
  let go := ms.filter (fun m => s.decision (192 + m) != 2)
  let alt := go.any (fun m => s.decision (192 + m) == 1)
  let s1 := (s.wr R.MEM_STAT_BIN (if alt then min 3 (bin + 1) else bin)).wr R.MEM_STAT_ALT (b2n alt)
  let s2 := s1.forAll (ms.filter (fun m => s.decision (192 + m) == 2)) (fun m t =>
    jnlOutcome 0x10 (192 + m) (0x6000 + m) 2 0 0 (t.rd R.MEM_STAT_BIN) (skipUnit (0x6000 + m) t))
  let s3 := s2.forAll go (fun m t => t.wr (R.MEM_CH_STAT_STATE m) 1)
  { s3 with boot := { s3.boot with training := go }, mem := { s3.mem with gib := s.memGib } }

/-- Undercoat starts: ALIVE runs, the watchdog runs, and the collector takes the events of Primer with their times (R468, R489, R492). -/
def undercoat (s : State) : State :=
  let es := s.boot.early
  let s1 := setStep 0x10 (setStage 3 { s with boot := { s.boot with early := [], watchdog := true }, pins := { s.pins with runs := true } })
  memoryStart (es.foldl (fun t e => collect e.1 e.2 [] t) s1)

/-- The slot image at hand runs: `c` 0 A, 1 B, 2 host. -/
def slotRun (c : Nat) (ci li : FwInfo) (s : State) : State :=
  undercoat (fwRun ci li ({ s with boot := { s.boot with lastSlot := c } }.wr R.BOT_STAT_SLOT (c % 2)))

/-- A refusal for signature, rollback, lifecycle or decryption raises E1496 (R456). -/
def authEvent (st : Nat) (s : State) : State := s.raiseIf (decide (6 ≤ st ∧ st ≤ 11)) 1496

/-- The preferred slot (R482). -/
def State.slotPref (s : State) (a b : List Byte) (size : Nat) : Nat :=
  if s.rd R.BOT_STRAP_SEL = 1 then 0
  else if s.rd R.BOT_STRAP_SEL = 2 then 1
  else if dirValid b size && (!dirValid a size || seqAfter (leAt b 8 4) (leAt a 8 4)) then 1 else 0

/-- The next candidate slot has been read and verified (R484 to R486, R489): it runs, or the next candidate follows, or safe mode. `fa` and
`fb` are the slots in boot flash. -/
def slotDone (fa fb : List Byte) (s : State) : State :=
  if s.stage ≠ 1 ∨ s.rd R.BOT_STAT_STEP ≠ 4 ∨ 3 < s.rd R.BOT_STRAP_SEL then s
  else
    let fromMram := s.rd R.BOT_STRAP_SEL = 3
    let size := if fromMram then 0x700000 else 0x4000000
    let a := if fromMram then memRead s.mram 0x100000 size else fa
    let b := if fromMram then memRead s.mram 0x800000 size else fb
    let pref := if s.boot.pref = 2 then s.slotPref a b size else s.boot.pref
    let cands := if s.boot.pref = 2 then [pref, 1 - pref].filter (fun c => s.decision (209 + c) != 2) else s.boot.candidates
    let safe (t : State) : State := setStage 6 (setStep 0 (t.wr R.BOT_STAT_SAFE_CAUSE 1))
    match cands with
    | [] => safe s
    | c :: rest =>
      let me := if c = 0 then a else b
      let other := if c = 0 then b else a
      let rec' (oc cause : Nat) (t : State) : State := jnlOutcome 4 (209 + c) (0xFFFA + c) oc (b2n (c != pref)) cause (leAt me 8 4) t
      let s1 := { s with boot := { s.boot with pref := pref, candidates := rest } }
      match s1.slotCheck me size with
      | .error (oc, cause, st) => let s2 := rec' oc cause (authEvent st s1); if rest.isEmpty then safe s2 else s2
      | .ok (ci, li) =>
        let s2 := { s1 with boot := { s1.boot with lath := slotImage me 3, lastSlot := c,
                                                   otherLath := if dirValid other size then slotImage other 3 else none } }
        let s3 := rec' 0 0 s2
        let s4 := if c != pref then (s3.wr R.BOT_STAT_ALT_SLOT 1).raise 1490 else s3
        slotRun c ci li s4

/-- A write of BOT_CTRL.HOSTBOOT: the host-load buffer is checked as a slot, in HOSTWAIT and SAFE only (R490, R491, R494). -/
def hostBoot (s : State) : State :=
  if s.stage ≠ 2 ∧ s.stage ≠ 6 then s
  else
    let b := memRead s.hostload 0 0x200000
    let record (oc cause : Nat) (t : State) : State :=
      (jnlAppend (t.jnlRecord 4 oc 0xFFFF 1 0 cause (leAt b 8 4)) t.jnlEntries t).raiseIf (oc != 0) 1488
    match s.slotCheck b 0x200000 with
    | .error (oc, cause, st) => setStep 4 (setStage 2 (record oc cause ((authEvent st s).wr R.BOT_STAT_SAFE_CAUSE 1)))
    | .ok (ci, li) => slotRun 2 ci li (record 0 0 ((s.wr R.BOT_STAT_SRC 2).wr R.BOT_STAT_SAFE_CAUSE 0))

/-- The LATH step: a load of the slot's image, copied to DRAM, or AWAIT_LATH (R484, R489, R490, R492). -/
def lathStep (s : State) : State :=
  let s0 := setStep 0x11 s
  if s.boot.lastSlot = 2 then awaitLath s0
  else if s.decision 208 = 2 then awaitLath (jnlOutcome 0x11 208 0xFFFF 2 0 0 0 s0)
  else match s.bootImage with
    | none => awaitLath (jnlOutcome 0x11 208 0xFFFF 1 (s.decision 208) 0 0 s0)
    | some b =>
      let room := (s.dramEnd - b.length) / 64
      let (k, s1) := s0.draw (room + 1)
      let a := 64 * k
      let s2 := if b.length ≤ s.dramEnd then dramWrite 3 a b s1 else s1
      let s3 := ((s2.wr R.GLB_LATH_ADDR_LO a).wr R.GLB_LATH_ADDR_HI_ADDR (a / 2 ^ 32)).wr R.GLB_LATH_LEN b.length
      let s4 := lathStart (s3.wr R.GLB_LATH_CTRL_KIND 0)
      { s4 with ldr := { s4.ldr with auto := true } }

/-- MEMORY ends (R346, R348, R483): outcomes of the channels trained, K, then LATH. A channel that has not finished by the bound has
failed. -/
def memoryEnd (s : State) : State :=
  if s.stage ≠ 3 ∨ s.rd R.BOT_STAT_STEP ≠ 0x10 then s
  else
    let s1 := s.forAll (s.boot.training.filter (fun m => s.rd (R.MEM_CH_STAT_STATE m) == 1)) (fun m t => chanTrained m 1 t)
    let s2 := s1.forAll s.boot.training (fun m t =>
      jnlOutcome 0x10 (192 + m) (0x6000 + m) (b2n (t.rd (R.MEM_CH_STAT_CAUSE m) != 0)) (t.rd R.MEM_STAT_ALT)
        (t.rd (R.MEM_CH_STAT_CAUSE m)) (t.rd R.MEM_STAT_BIN) t)
    let up := (List.range 8).filter (fun m => s2.rd (R.MEM_CH_STAT_STATE m) == 2)
    lathStep { s2 with mem := { s2.mem with chans := up }, boot := { s2.boot with training := [] } }

/-! ### PORTS, UPLINK and Topcoat (R483, R484, R489, R490, R492) -/

/-- A load of start-up has moved on (R489, R490): FAILED leads to AWAIT_LATH, DONE to PORTS and UPLINK. -/
def bootLath (s : State) : State :=
  if s.stage ≠ 3 ∧ s.stage ≠ 4 then s
  else if s.ldr.auto then
    if s.lathState = 7 then
      let s1 := jnlOutcome 0x11 208 0xFFFF 1 (b2n (s.decision 208 == 1)) (s.rd R.GLB_LATH_STAT_STATUS) 0 s
      awaitLath { s1 with ldr := { s1.ldr with auto := false } }
    else if s.lathState = 6 then
      let s1 := jnlOutcome 0x11 208 0xFFFF 0 (b2n (s.decision 208 == 1)) 1 0 s
      setStep 0x12 { s1 with ldr := { s1.ldr with auto := false } }
    else s
  else if s.stage = 4 ∧ s.lathState = 6 then setStep 0x12 (s.wr R.BOT_STAT_STAGE 3)
  else s

/-- PORTS or UPLINK is in progress. -/
def State.bringUp (s : State) : Bool := s.stage == 3 && (s.rd R.BOT_STAT_STEP == 0x12 || s.rd R.BOT_STAT_STEP == 0x13)

/-- TOPCOAT is recorded, in stage Topcoat, and the generators are enabled (R294, R483). -/
def topcoatEntry (s : State) : State :=
  let s1 := setStep 0 (jnlDevice 0x20 0 (setStage 5 s))
  lathGenerators (jointStart s1.now) { s1 with boot := { s1.boot with watchdog := false } }

/-- Topcoat follows once both steps have ended. -/
def bringUpEnd (s : State) : State :=
  if s.boot.portsDone && s.boot.uplinkDone then topcoatEntry s else setStep (if s.boot.portsDone then 0x13 else 0x12) s

/-- The outcome of port or gang `n` at the end of PORTS (R484). A TRAIN_FAIL has its record already. -/
def portOutcome (n : Nat) (s : State) : State :=
  let pset := s.rd (R.VSP_LANE_CTRL_PRESET_SET n)
  let cause := s.rd (R.VSP_TRAIN_STAT_CAUSE n)
  match s.laneState n with
  | 3 => jnlOutcome 0x12 n n 0 pset cause 0 s
  | 4 => jnlOutcome 0x12 n n 3 pset cause 0 s
  | 5 => jnlTableOnly n 1 s
  | 1 => jnlOutcome 0x12 n n 1 pset cause 0 s
  | 2 => jnlOutcome 0x12 n n 1 pset cause 0 s
  | _ => jnlOutcome 0x12 n n 5 pset cause 0 s

/-- PORTS ends (R483). -/
def portsEnd (s : State) : State :=
  if !s.bringUp || s.boot.portsDone then s
  else
    let ns := (List.range 192).filter (fun n => s.laneState n != 0 && s.base n == n && !(s.unit n).permanent)
    let s1 := s.forAll ns portOutcome
    bringUpEnd { s1 with boot := { s1.boot with portsDone := true } }

/-- UPLINK ends (R483). -/
def uplinkEnd (s : State) : State :=
  if !s.bringUp || s.boot.uplinkDone then s
  else
    let xs := (List.range s.nsub).filter (fun x => s.decision (200 + s.lowLane x) != 2)
    let s1 := s.forAll xs (fun x t =>
      let u := t.lowLane x
      let mode := if t.flag (R.UPL_SP_STAT_FALLBACK x) then t.rd R.UPL_CFG_FALLBACK else t.rd R.UPL_CFG_MODE
      jnlOutcome 0x13 (200 + u) (0x5000 + u) (b2n (t.subState x != 3)) (b2n (t.decision (200 + u) == 1)) 0 mode t)
    bringUpEnd { s1 with boot := { s1.boot with uplinkDone := true } }

/-- The Undercoat watchdog expires (R489): WATCHDOG record, FAIL for the running slot, and a reset as SYS_RST_N. -/
def watchdogExpiry (s : State) : State :=
  if !s.boot.watchdog || s.stage ≠ 3 then s
  else
    let es := if s.boot.lastSlot < 2 then s.jnlUpdated (209 + s.boot.lastSlot) 1 else s.jnlEntries
    actReset (jnlAppend (s.jnlRecord 0x32 5 0xFFFF 0 0 0 0) es s)

/-! ### FORGET and the latched record (R492, R494, R496) -/

def jnlForget (s : State) : State := jnlRewrite (zeros 1024) s

/-- A write of BOT_FORGET_UNIT. -/
def forgetUnit (e : Nat) (s : State) : State :=
  let b := s.jnlEntries
  jnlRewrite (b.take (4 * e) ++ zeros 4 ++ b.drop (4 * e + 4)) s

/-- A read of BOT_JNL_RECi: REC0 latches the record until REC7 is read (R496). -/
def jnlRead (i : Nat) (s : State) : Nat × State :=
  let fresh := s.jnlRec (s.rd R.BOT_JNL_IDX_N)
  let r := if i = 0 then fresh else s.boot.recLatch.getD fresh
  (leAt r (4 * i) 4, { s with boot := { s.boot with recLatch := if i = 0 then some fresh else if i = 7 then none else s.boot.recLatch } })

end Sys2Proof.Machine
end

