-- ==== Sys2Proof/Machine/Security.lean ====
section
/-! DEFINITION. Lifecycle, key store, anti-rollback counter and debug sessions (R497 to R512, R518 to R528). -/

namespace Sys2Proof.Machine

/-- Byte strings packed as the token is: byte 4i + j in bits [31 − 8j : 24 − 8j] of word i (R498): `n` bytes from offset `off` of SEC. -/
def State.secBytes (s : State) (off n : Nat) : List Byte :=
  ((List.range (ceilDiv n 4)).map (fun i => beBytes 4 (s.rd (.at .sec (off + 4 * i) 0 32 0)))).flatten.take n

/-- UID as SEC_UIDi show it, byte 0 first (R498, R525). -/
def uidBytes : List Byte := leBytes 16 Config.uid

/-! ### Lifecycle (R497 to R499, R519) -/

/-- The fuses of a transition to `t` are being burned (R497, R499). -/
def lcBurn (t : Nat) (s : State) : State :=
  { s.wr R.SEC_LC_STAT_RESULT 1 with sec := { s.sec with burning := some t },
                                     fuses := { s.fuses with erasing := s.fuses.erasing || t == 3 } }

/-- The token in SEC_TOKENi verifies for `t` under slot `k`, 1 to 7 and present (R498). -/
def State.tokenOk (s : State) (t k : Nat) : Bool :=
  decide (1 ≤ k ∧ k ≤ 7) && !(s.ecKey k).isEmpty &&
    Config.ecdsaVerify (s.ecKey k) (uidBytes ++ [byte t] ++ s.sec.nonce) (s.secBytes 0x100 96)

/-- A lifecycle request of path `p` for TARGET with TOKEN_KEY (R497, R498). -/
def lcGo (p : Path) (s : State) : State :=
  let t := s.rd R.SEC_LC_CTRL_TARGET
  let res (v : Nat) (u : State) : State := u.wr R.SEC_LC_STAT_RESULT v
  if s.sec.burning.isSome then s
  else if p != .spi || s.rd R.THM_PWR_STAT_STATE != 0 then res 5 s
  else if t ≤ s.fuses.lc ∨ 3 < t ∨ s.fuses.lc = 3 ∨ (s.fuses.lc = 0 ∧ t ≠ 1) then res 2 s
  else if s.fuses.lc = 0 then
    if (List.range 8).any (fun k => k != 0 && s.keyPresent k) then lcBurn 1 s else res 4 s
  else
    let ok := s.tokenOk t (s.rd R.SEC_LC_CTRL_TOKEN_KEY)
    let s1 := newNonce s
    if !ok then res 3 s1
    else if t = 2 ∧ bits s.fuses.policy 27 26 ≤ 1 ∧ !s.keyPresent (bits s.fuses.policy 2 0) then res 4 s1
    else lcBurn t s1

/-- A write of SEC_LC_CTRL (R521). -/
def lcWrite (v : Nat) (p : Path) (s : State) : State :=
  let s1 := (s.wr R.SEC_LC_CTRL_TARGET (bits v 31 28)).wr R.SEC_LC_CTRL_TOKEN_KEY (bits v 23 20)
  s1.when (v.testBit 0) (lcGo p)

/-- The commit fuse is burned (R499): keys are erased for RMA, and the device resets as SYS_RST_N; E1499 at the start that follows. -/
def lcBurnDone (s : State) : State :=
  match s.sec.burning with
  | none => s
  | some t =>
    let s1 := if t = 3 then jnlForget (eraseKeys s) else s
    (actReset { s1 with fuses := { s1.fuses with lc := t }, sec := { s1.sec with burning := none } }).raise 1499

/-! ### Key store (R502, R523) -/

/-- Bytes of the key buffer that operation `op` takes. -/
def keyLen (op : Nat) : Nat := if op = 1 then 96 else if op = 2 then 1952 else if op = 3 then 32 else 0

/-- Operation `op` fits slot `k`. -/
def keySlotOk (op k : Nat) : Bool :=
  if op = 3 then decide (8 ≤ k) else if op = 4 then decide (1 ≤ k) else decide (1 ≤ k ∧ k ≤ 7)

/-- RESULT of operation `op` on slot `k` when it is refused. -/
def State.keyRefusal (s : State) (op k : Nat) : Option Nat :=
  let used := !(s.fuses.ec.get [] k).isEmpty || !(s.fuses.aes.get [] k).isEmpty || s.fuses.revoked.testBit k
  if 5 ≤ op then some 6
  else if !keySlotOk op k then some 2
  else if op = 4 then (if s.fuses.lc = 1 ∨ s.fuses.lc = 2 then none else some 3)
  else if 2 ≤ s.fuses.lc then some 3
  else if op = 2 then
    (if (s.fuses.ec.get [] k).isEmpty then some 2 else if !(s.fuses.pq.get [] k).isEmpty then some 4 else none)
  else if used then some 4
  else none

/-- GO of SEC_KEY_CTRL; OP NONE does nothing. -/
def keyGo (s : State) : State :=
  let op := s.rd R.SEC_KEY_CTRL_OP
  let k := s.rd R.SEC_KEY_CTRL_SLOT
  if s.flag R.SEC_KEY_CTRL_BUSY then s.wr R.SEC_KEY_CTRL_RESULT 5
  else if op = 0 then s
  else match s.keyRefusal op k with
    | some r => s.wr R.SEC_KEY_CTRL_RESULT r
    | none => { (s.wr R.SEC_KEY_CTRL_BUSY 1).wr R.SEC_KEY_CTRL_RESULT 0 with
                  sec := { s.sec with keyOp := some (op, k, s.secBytes 0x1000 (keyLen op)) } }

/-- A write of SEC_KEY_CTRL. -/
def keyWrite (v : Nat) (s : State) : State :=
  ((s.wr R.SEC_KEY_CTRL_OP (bits v 30 28)).wr R.SEC_KEY_CTRL_SLOT (bits v 3 0)).when (v.testBit 31) keyGo

/-- A key-store operation ends; `fail` when the fuses did not take it. -/
def keyDone (fail : Bool) (s : State) : State :=
  match s.sec.keyOp with
  | none => s
  | some (op, k, key) =>
    let s1 := { s.wr R.SEC_KEY_CTRL_BUSY 0 with sec := { s.sec with keyOp := none } }
    if fail then s1.wr R.SEC_KEY_CTRL_RESULT 7
    else
      let f := s1.fuses
      let f' := match op with
        | 1 => { f with ec := f.ec.set [] k key }
        | 2 => { f with pq := f.pq.set [] k key }
        | 3 => { f with aes := f.aes.set [] k key }
        | _ => { f with revoked := f.revoked ||| 2 ^ k }
      { s1.wr R.SEC_KEY_CTRL_RESULT 1 with fuses := f' }

/-- A write of SEC_POLICY, ignored once it is fused (R502, R522). -/
def policyWrite (v : Nat) (s : State) : State :=
  if s.fuses.lc ≤ 1 then { s with fuses := { s.fuses with policy := v &&& 0xFC000007 } } else s

/-! ### Anti-rollback counter (R504, R524) -/

/-- GO of SEC_RB_CTRL. -/
def rbGo (s : State) : State :=
  let v := s.rd R.SEC_RB_CTRL_NEW
  if s.sec.rbBurn.isSome then s
  else if s.fuses.rollback < v ∧ v ≤ s.fw.ctlVer ∧ v ≤ s.fw.laneVer ∧ s.ldr.inForce ∧ v ≤ s.ldr.version then
    { s.wr R.SEC_RB_CTRL_RESULT 3 with sec := { s.sec with rbBurn := some v } }
  else s.wr R.SEC_RB_CTRL_RESULT 2

/-- A write of SEC_RB_CTRL. -/
def rbWrite (v : Nat) (s : State) : State := (s.wr R.SEC_RB_CTRL_NEW (bits v 7 0)).when (v.testBit 8) rbGo

/-- The fuses of the counter are burned. -/
def rbDone (s : State) : State :=
  match s.sec.rbBurn with
  | none => s
  | some v => { s.wr R.SEC_RB_CTRL_RESULT 1 with sec := { s.sec with rbBurn := none }, fuses := { s.fuses with rollback := v } }

/-! ### Debug sessions (R507 to R512, R518) -/

/-- How a level is granted (R509, R518): 0 OPEN, 1 CERT, 2 REFUSED. -/
def State.dbgRule (s : State) (level : Nat) : Nat :=
  let pol := if level = 1 then bits s.fuses.policy 29 28 else bits s.fuses.policy 27 26
  if level = 0 ∨ 3 ≤ level ∨ s.fuses.lc = 0 then 2
  else if s.fuses.lc = 3 then level - 1
  else if s.fuses.lc = 1 ∧ s.fuses.dev then 0
  else if 2 ≤ pol then 2
  else if s.fuses.lc = 2 ∧ level = 2 then 1
  else pol

/-- The debug level in force (R507). -/
def State.dbgLevel (s : State) : Nat := if s.boot.d3 then 3 else (s.sec.session.map (·.level)).getD 0

/-- A D2 session is open, or the device is at D3. -/
def State.d2 (s : State) : Bool := decide (2 ≤ s.dbgLevel)

/-- The session of path `p` is open at `level` with session key `key` and limit `limit` (R509). D2 in SECURED erases the working
decryption key: a load whose body is being decrypted fails (R518; DESIGN CHOICE, log 100: with STATUS LIFECYCLE). -/
def dbgOpened (p : Path) (level : Nat) (key : Option (List Byte)) (limit : Nat) (s : State) : State :=
  let s1 := { s with sec := { s.sec with session := some ⟨p, level, key, 0, limit⟩, verify := none } }
  let s2 := ((s1.wr R.SEC_DBG_STAT_STATE 2).wr R.SEC_DBG_STAT_RESULT 1).wr R.SEC_DBG_STAT_END_CAUSE 0
  let s3 := ((s2.wr R.SEC_DBG_STAT_LEVEL level).wr R.SEC_DBG_STAT_PATH (if p = .debug then 1 else 2)).raise 1497
  s3.when (s.lathState == 2 && imgEnc s.ldr.image && s.fuses.lc == 2 && decide (2 ≤ level)) (lathFail 9 0xFFFF)

/-- A request is refused with RESULT `r`. -/
def dbgRefused (r : Nat) (s : State) : State := (s.wr R.SEC_DBG_STAT_RESULT r).raise 1497

/-- The certificate in SEC_DBG_CERTi: byte 4i + j at bits [8j + 7 : 8j] (R525). -/
def State.certBytes (s : State) : List Byte :=
  ((List.range 64).map (fun i => leBytes 4 (s.rd (.at .sec (0x300 + 4 * i) 0 32 0)))).flatten

/-- A write of SEC_DBG_CTRL.OPEN by path `p` (R509). -/
def dbgOpen (p : Path) (s : State) : State :=
  let level := s.rd R.SEC_DBG_CTRL_LEVEL
  if p != .spi && p != .debug then s
  else if s.dbgRule level = 2 then dbgRefused 2 s
  else if s.sec.session.isSome || s.sec.verify.isSome then dbgRefused 4 s
  else if 2 ≤ s.rd R.THM_PWR_STAT_STATE then dbgRefused 5 s
  else if s.dbgRule level = 0 then dbgOpened p level none 0 s
  else { s.wr R.SEC_DBG_STAT_STATE 1 with sec := { s.sec with verify := some (p, level, s.certBytes) } }

/-- A certificate passes for `level` (R508, R509). -/
def State.certOk (s : State) (level : Nat) (c : List Byte) : Bool :=
  let k := if s.fuses.lc = 3 then 0 else bits s.fuses.policy 2 0
  leAt c 0 4 == 0x43474244 && leAt c 4 2 == 1 && leAt c 6 1 == level && leAt c 7 1 == k && !(s.ecKey k).isEmpty &&
  slice c 0x08 16 == uidBytes && slice c 0x18 32 == s.sec.nonce && leAt c 0x3C 4 == 0 &&
  Config.ecdsaVerify (s.ecKey k) (slice c 0 0xA0) (slice c 0xA0 96)

/-- The check of a certificate ends (R509, R510): the session opens with its key, or is refused; the nonce is replaced. -/
def dbgVerified (s : State) : State :=
  match s.sec.verify with
  | none => s
  | some (p, level, c) =>
    let s1 := newNonce ({ s with sec := { s.sec with verify := none } }.wr R.SEC_DBG_STAT_STATE 0)
    if s.certOk level c then
      let (n, s2) := s1.draw (2 ^ 256)
      let key := (Config.sha384 (Config.ecdhShared n (slice c 0x40 96) ++ s.sec.nonce)).take 32
      let pub := Config.ecdhPublic n
      dbgOpened p level (some key) (leAt c 0x38 4) (s2.forAll (List.range 24) (fun i t => t.wr (R.SEC_DBG_PUB i) (beAt pub (4 * i) 4)))
    else dbgRefused 3 s1

/-- The session ends with END_CAUSE `cause`: its key is erased and every halted core resumes (R511). -/
def dbgEnd (cause : Nat) (s : State) : State :=
  if s.sec.session.isNone then s
  else
    let s1 := { s with sec := { s.sec with session := none } }
    let s2 := ((s1.wr R.SEC_DBG_STAT_STATE 0).wr R.SEC_DBG_STAT_END_CAUSE cause).wr R.SEC_DBG_STAT_LEVEL 0
    (((s2.wr R.SEC_DBG_STAT_PATH 0).wr R.SEC_DBG_CORE_HALT 0).wr R.SEC_DBG_CORE_HALTED 0).raise 1497

/-- MAX_TIME seconds have passed since the opening of the session: one without a limit goes on (R508, R511). -/
def dbgTimeout (s : State) : State := if s.sec.session.all (·.limit == 0) then s else dbgEnd 2 s

/-- A write of SEC_DBG_CTRL: END, then OPEN (R526). -/
def dbgWrite (v : Nat) (p : Path) (s : State) : State :=
  ((s.wr R.SEC_DBG_CTRL_LEVEL (bits v 3 2)).when (v.testBit 1) (dbgEnd 1)).when (v.testBit 0) (dbgOpen p)

/-- A write of SEC_DBG_CORE in a D2 session halts and resumes cores (R512). -/
def coreHalt (v : Nat) (s : State) : State :=
  if s.d2 then (s.wr R.SEC_DBG_CORE_HALT (bits v 3 0)).wr R.SEC_DBG_CORE_HALTED (bits v 3 0) else s

end Sys2Proof.Machine
end

