-- ==== Sys2Proof/Machine/Power.lean ====
section
/-! DEFINITION. Power states (R513 to R517, R529 to R531): requests, the drain to P1, Standby and Off, return and wake. -/

namespace Sys2Proof.Machine

def State.pwrState (s : State) : Nat := s.rd R.THM_PWR_STAT_STATE
def State.pwrTrans (s : State) : Nat := s.rd R.THM_PWR_STAT_TRANS

/-- A transition has ended with RESULT OK (R514, R568). -/
def pwrEnded (s : State) : State := ((s.wr R.THM_PWR_STAT_TRANS 0).wr R.THM_PWR_STAT_RESULT 1).wr R.GLB_IRQ_STAT_POWER 1

/-- A request is refused with RESULT `r`; E1513 (R517, R568). -/
def pwrRefused (r : Nat) (s : State) : State := ((s.wr R.THM_PWR_STAT_RESULT r).wr R.GLB_IRQ_STAT_POWER 1).raise 1513

/-- The drain begins (R515): the enabled generators are recorded and disabled. -/
def drainStart (s : State) : State :=
  let gs := (List.range 24).filter s.tgEn
  ({ s with power := { s.power with gens := gs } }).forAll gs tgDisable

/-- A wake from P2 (R514, R516): RAIL_EN rises and the rails are awaited. -/
def wake (src : Nat) (s : State) : State :=
  if s.pwrState ≠ 2 ∨ s.pwrTrans ≠ 0 then s
  else { (s.wr R.THM_PWR_STAT_TRANS 4).wr R.THM_PWR_STAT_WAKE src with
           pins := { s.pins with railEn := true }, power := { s.power with rails := true } }

/-- The always-on island alone runs on in P2 and P3 (R513, R516): sessions end, challenge keys are erased, ports go OFF and sub-ports DOWN, the
journal writer records, RAIL_EN falls, and the rest is lost. A WAKE_N edge held since the entry acts on arrival in P2 (R588). -/
def standby (t : Nat) (s : State) : State :=
  let s1 := collectRounds 64 (dbgEnd 0 s)
  let s2 := (s1.forAll (List.range 192) laneOff).forAll (List.range s1.nsub) upDown
  let s3 := jnlInfo 0x33 5 0xFFFF 0 0 s2
  let c := s3.cold false
  let r := [R.BOT_STRAP_SEL, R.BOT_STAT_STAGE, R.BOT_STAT_STEP, R.BOT_STAT_SAFE_CAUSE, R.BOT_STAT_UNTESTED_PAIR, R.BOT_STAT_ALT_SLOT,
            R.BOT_STAT_SLOT, R.BOT_STAT_SRC, R.BOT_STAT_TRIPPED, R.BOT_SEQ, R.THM_PWR_STAT_WAKE, R.BOT_JNL_NEXT_N].foldl
    (fun u f => u.wr f (s3.rd f)) c
  let p2 := { (r.wr R.THM_PWR_STAT_STATE 2).wr R.THM_PWR_STAT_RESULT 1 with
      pins := { r.pins with railEn := false }, power := { Power.init with off := t == 3 } }
  if t = 2 ∧ s.power.held then wake 1 p2 else p2

/-- P1 is entered (R513, R515): replays, Stipple jobs and pipeline blocks end, and the memory channels go to self-refresh. -/
def enterP1 (s : State) : State :=
  let s1 := pipeAbort (stpAbortJobs (rpEndAll 6 (pwrEnded (s.wr R.THM_PWR_STAT_STATE 1))))
  s1.forAll (List.range 8) (fun m t => t.when (t.rd (R.MEM_CH_STAT_STATE m) == 2) (·.wr (R.MEM_CH_STAT_STATE m) 5))

/-- The device returns from P1 to P0 (R515): the recorded generators share one START and go on with their next lines. -/
def exitP1 (s : State) : State :=
  let s1 := pwrEnded (s.wr R.THM_PWR_STAT_STATE 0)
  let s2 := s1.forAll (List.range 8) (fun m t => t.when (t.rd (R.MEM_CH_STAT_STATE m) == 5) (·.wr (R.MEM_CH_STAT_STATE m) 2))
  let gs := s2.power.gens
  let s3 := { s2 with power := { s2.power with gens := [], held := false } }
  s3.forAll gs (fun g t => tgEnable g ((setStart g (jointStart s3.now) t).wr (R.CHK_TG_L0 g) (t.rd (R.CHK_TG_NEXT_LINE g))))

/-- An accepted request for P1 to P3 from P0 (R292, R514, R515). -/
def pwrBegin (t : Nat) (s : State) : State :=
  let s1 := { s with power := { s.power with held := false } }.wr R.THM_PWR_STAT_TRANS t
  if !s1.lathBusy then drainStart s1
  else if t = 1 ∨ 4 ≤ s1.lathState then { s1 with ldr := { s1.ldr with pwrWait := some t } }
  else drainStart (lathFail 19 0xFFFF s1)

/-- The end of a load lets a waiting transition go on (R292, R515). -/
def pwrLathEnd (s : State) : State :=
  if s.ldr.pwrWait.isSome && !s.lathBusy then drainStart { s with ldr := { s.ldr with pwrWait := none } } else s

/-- A request for state `t` (0 P0 to 3 P3) from path `p` (R514, R517). -/
def pwrRequest (t : Nat) (p : Path) (s : State) : State :=
  let st := s.pwrState
  let tr := s.pwrTrans
  if st = 2 then
    if tr ≠ 0 then s.wr R.THM_PWR_STAT_RESULT 5
    else match t with
      | 0 => if p = .spi then wake 2 s else s
      | 1 => s.wr R.THM_PWR_STAT_RESULT 7
      | 2 => s
      | _ => standby 3 s
  else if s.boot.d3 then pwrRefused 4 s
  else if !s.topcoat then (if t = 0 then s else pwrRefused 2 s)
  else if tr ≠ 0 then
    if tr = 1 ∧ 2 ≤ t then
      if s.halted then pwrRefused 3 s
      else
        let s1 := s.wr R.THM_PWR_STAT_TRANS t
        if s1.ldr.pwrWait = some 1 ∧ s1.lathState < 4 then
          drainStart (lathFail 19 0xFFFF { s1 with ldr := { s1.ldr with pwrWait := none } })
        else s1
    else pwrRefused 5 s
  else if t = st then s
  else if 2 ≤ t ∧ s.halted then pwrRefused 3 s
  else if st = 0 then pwrBegin t s
  else if t = 0 then exitP1 s
  else standby t s

/-- A write of THM_PWR_CTRL (R529). -/
def pwrWrite (v : Nat) (p : Path) (s : State) : State :=
  (s.wr R.THM_PWR_CTRL_TARGET (bits v 1 0)).when (v.testBit 31) (pwrRequest (bits v 1 0) p)

/-- Every open row is emitted, its objects are closed, and their records have left Plumb (R515). -/
def State.pipeEmpty (s : State) : Bool :=
  (List.range 24).all s.drained && s.plbs.all (fun q => q.2.queue.isEmpty)

/-- The drain has ended (R515, R516): P1, or Standby or Off. -/
def drainDone (s : State) : State :=
  if s.pwrState ≠ 0 ∨ s.pwrTrans = 0 ∨ 4 ≤ s.pwrTrans ∨ s.ldr.pwrWait.isSome ∨ !s.pipeEmpty then s
  else if s.pwrTrans = 1 then
    let s1 := enterP1 s
    if s1.power.held then exitP1 s1 else s1
  else standby s.pwrTrans s

/-- WAKE_N falls (R514); an edge during the entry to P1 or P2 is held (R588). -/
def wakePin (s : State) : State :=
  if !s.flag R.THM_WAKE_CFG_PIN_EN then s
  else if s.pwrState = 2 then wake 1 s
  else if s.pwrState = 1 ∧ s.pwrTrans = 0 then exitP1 s
  else if s.pwrTrans = 1 ∨ s.pwrTrans = 2 then { s with power := { s.power with held := true } }
  else s

/-- The wake timer expires in P2 (R514, R531). -/
def wakeTimer (s : State) : State := if s.flag R.THM_WAKE_CFG_TIMER_EN then wake 3 s else s

/-- The core rails are within their windows: the start runs from CLOCK (R483, R514, R516). -/
def railsReady (s : State) : State :=
  if s.pwrState ≠ 2 ∨ !s.power.rails then s
  else
    let c := s.cold false
    let s1 := ((c.wr R.BOT_STRAP_SEL (s.rd R.BOT_STRAP_SEL)).wr R.THM_PWR_STAT_WAKE (s.rd R.THM_PWR_STAT_WAKE)).wr R.THM_PWR_STAT_RESULT 1
    primer true (s1.wr R.GLB_IRQ_STAT_POWER 1)

/-- 100 ms after a wake a core rail is still out of its window (R516). -/
def railsTimeout (s : State) : State :=
  if s.pwrState ≠ 2 ∨ !s.power.rails then s
  else { (s.wr R.THM_PWR_STAT_TRANS 0).wr R.THM_PWR_STAT_RESULT 6 with
           pins := { s.pins with railEn := false }, power := { s.power with rails := false } }

/-- The device takes no part in anything but resets and the always-on island: POR_N is held low, or P2, or P3. -/
def State.asleep (s : State) : Bool := s.power.off || s.pins.porLow || s.pwrState == 2

end Sys2Proof.Machine
end

