-- ==== Sys2Proof/Machine/Access.lean ====
section
/-! DEFINITION. Register accesses (R9 to R11, R506, R554 to R560): the result codes and the reach of the paths, the words that registers
read as, freezing pairs, and writes by access code and by register. -/

namespace Sys2Proof.Machine

/-! ### Reach of the paths (R491, R506, R507, R516, R558, R559) -/

/-- The debug level of path `p`: D3 reaches through MGMT_SPI and the debug port (R507). -/
def State.pathLevel (s : State) (p : Path) : Nat :=
  let q := if p = .mailbox then .spi else p
  if s.boot.d3 && (q == .spi || q == .debug) then 3
  else match s.sec.session with
    | some x => if x.path = q then x.level else 0
    | none => 0

/-- Key material of R506. -/
def keyMaterial : Reg → Bool
  | .SEC_KEY_CTRL | .SEC_KEY_DATA | .SEC_POLICY | .SEC_RB_CTRL | .VSP_CHAL_KEY => true
  | _ => false

/-- Registers that R506 gives to the secure paths alone: SEC_LC_CTRL and SEC_TOKENi. -/
def lifecycleReg : Reg → Bool
  | .SEC_LC_CTRL | .SEC_TOKEN => true
  | _ => false

/-- SEC_DBG_CTRL and SEC_DBG_CERTi. -/
def debugReg : Reg → Bool
  | .SEC_DBG_CTRL | .SEC_DBG_CERT => true
  | _ => false

/-- What the debug port reads outside a session (R506). -/
def openDebugReg : Reg → Bool
  | .SEC_DBG_CTRL | .SEC_DBG_STAT | .SEC_DBG_CORE | .SEC_DBG_CERT | .SEC_DBG_PUB | .SEC_LC_STAT | .SEC_UID | .SEC_NONCE => true
  | _ => false

/-- The block window that address `a` lies in. -/
def winOf (a : Nat) : Option Blk :=
  match decodeAddr a with
  | .reg b _ => some b
  | _ => none

/-- The register at address `a` is one that satisfies `q`. -/
def regIs (a : Nat) (q : Reg → Bool) : Bool := (regAt a).any (fun f => q f.rdef.reg)

/-- MGMT_SPI and the mailbox (R506, R558). -/
def State.spiDenied (s : State) (p : Path) (w : Bool) (a : Nat) : Bool :=
  if regIs a (· == .SEC_DBG_CORE) then decide (s.pathLevel p < 2)
  else w && winOf a == some .tst && s.pathLevel p == 0

/-- Management Ethernet and in-band FXT. -/
def State.netDenied (s : State) (w : Bool) (a : Nat) : Bool :=
  (regIs a (fun r => keyMaterial r || r == .BOT_CTRL) && s.fuses.lc == 2) ||
    regIs a (fun r => lifecycleReg r || debugReg r || r == .SEC_DBG_CORE) || (w && winOf a == some .tst)

/-- DMA. -/
def dmaDenied (w : Bool) (a : Nat) : Bool :=
  regIs a (fun r => keyMaterial r || r == .BOT_CTRL || lifecycleReg r || debugReg r || r == .SEC_DBG_CORE) ||
    (w && winOf a == some .tst)

/-- SMBus. -/
def smbDenied (w : Bool) (a : Nat) : Bool :=
  w || !(winOf a == some .glb || winOf a == some .thm || regIs a (· == .BOT_STAT))

/-- The debug port: outside a session it opens one, and reads what R506 lists. -/
def State.debugDenied (s : State) (w : Bool) (a : Nat) : Bool :=
  let l := s.pathLevel .debug
  if regIs a (fun r => keyMaterial r || lifecycleReg r) then true
  else if regIs a debugReg then false
  else if l = 0 then w || !regIs a openDebugReg
  else if regIs a (fun r => r == .BOT_CTRL || r == .SEC_DBG_CORE) then decide (l < 2) && (w || regIs a (· == .BOT_CTRL))
  else w && decide (l < 2) && !(winOf a == some .tst)

/-- An access of path `p` lies outside its reach (R506). -/
def State.denied (s : State) (p : Path) (w : Bool) (a : Nat) : Bool :=
  match p with
  | .spi | .mailbox => s.spiDenied p w a
  | .mge | .fxt => s.netDenied w a
  | .dma => dmaDenied w a
  | .smbus => smbDenied w a
  | .debug => s.debugDenied w a

/-- The registers that MGMT_SPI reaches in P2 (R516). -/
def standbyReg : Reg → Bool
  | .THM_PWR_CTRL | .THM_PWR_STAT | .THM_WAKE_CFG | .SEC_LC_STAT | .SEC_UID | .BOT_STAT | .BOT_SEQ => true
  | _ => false

/-- Safe mode and P2 keep address `a` from being reached (R491, R516). -/
def State.unavailable (s : State) (a : Nat) : Bool :=
  (s.pwrState == 2 && !regIs a standbyReg) ||
    (s.stage == 6 && !(winOf a == some .glb || winOf a == some .bot || winOf a == some .sec || winOf a == some .thm))

/-- STATUS of an access before it is served: the first cause of R559 that applies, TAG and TIMEOUT aside. -/
def State.accessStatus (s : State) (p : Path) (w : Bool) (a : Nat) : Nat :=
  if a % 4 ≠ 0 then 2
  else if decodeAddr a = .none then 1
  else if s.unavailable a then 4
  else if s.denied p w a then 3
  else 0

/-! ### What registers read as (R9, R10, R37) -/

/-- A field of a register as its access code reads it; `fresh` takes the copies of the snapshot in progress (R39). -/
def State.fieldBits (s : State) (f : Found) (fresh : Bool) (d : FDef) : Nat :=
  match d.acc with
  | .wo | .w1s => 0
  | .cnt => (if fresh then s.snapNext else s.snap).get (f.fld d) * 2 ^ d.lo
  | _ => s.rd (f.fld d) * 2 ^ d.lo

/-- The word of the fields that are stored. -/
def State.plainWord (s : State) (f : Found) (fresh : Bool) : Nat := (f.rdef.flds.map (s.fieldBits f fresh)).sum

/-- The low `n` bits for which `p` holds. -/
def maskOf (n : Nat) (p : Nat → Bool) : Nat := ((List.range n).map (fun i => b2n (p i) * 2 ^ i)).sum

/-- DMA_INT_STAT.PEND (R426). -/
def State.dmaPend (s : State) : Nat :=
  maskOf 32 (fun c => s.flag (R.DMA_CH_CTRL_INT_EN c) && (s.flag (R.DMA_CH_STAT_DONE c) || s.flag (R.DMA_CH_STAT_HALT c)))

/-- HWK_INT_LO and HWK_INT_HI together (R442). -/
def State.hawkPend (s : State) : Nat := maskOf 64 (fun q => s.flag (R.HWK_Q_CTRL_INT_EN q) && s.flag (R.HWK_Q_STAT_LVL q))

/-- The level sources of GLB_IRQ_STAT (R568). -/
def State.irqLevels (s : State) : Nat :=
  b2n s.devFault * 2 ^ 7 + b2n (s.hawkPend != 0) * 2 ^ 2 + b2n (s.dmaPend != 0) * 2 + b2n (s.summaryWord.testBit 27)

/-- GLB_IRQ_STAT (R568). -/
def State.irqStat (s : State) : Nat :=
  s.rd R.GLB_IRQ_STAT_SNAP * 2 ^ 6 + s.rd R.GLB_IRQ_STAT_POWER * 2 ^ 5 + s.rd R.GLB_IRQ_STAT_MBX * 2 ^ 4 +
    s.rd R.GLB_IRQ_STAT_LATH * 2 ^ 3 + s.irqLevels

/-- Pin IRQ_N[p] is asserted (R566). -/
def State.irqPin (s : State) (p : Nat) : Bool := !s.asleep && (s.irqStat &&& s.rd (R.GLB_IRQ_EN_EN p)) != 0

/-- HWK_Qq_STAT (R445) but for its stored bits. -/
def State.hawkStat (s : State) (q : Nat) : Nat :=
  let h := s.hq q
  b2n h.full * 2 ^ 31 + b2n h.visible.isEmpty * 2 ^ 30 + b2n h.flushing * 2 ^ 24 + h.count

/-- Words of the current item not yet read (R446). -/
def State.hawkLeft (s : State) (q : Nat) : Nat :=
  match (s.hq q).cur with
  | some (id, k) => (((s.hq q).items.find? (·.id == id)).map (fun i => i.words.length - k)).getD 0
  | none => 0

/-- FLT_SNAG_STAT of event `e` (R477). -/
def State.snagWord (s : State) (e : Nat) : Nat :=
  let x := s.snag e
  b2n x.latched * 2 ^ 31 + b2n x.live * 2 ^ 30 + b2n x.conseq * 2 ^ 29 + x.level * 2 ^ 26

/-- SEC_LC_STAT (R520). -/
def State.lcWord (s : State) : Nat :=
  s.fuses.lc * 2 ^ 28 + 2 ^ 24 * s.rd R.SEC_LC_STAT_RESULT + s.fuses.rollback * 2 ^ 16 + b2n s.fuses.dev * 4 + s.dbgLevel

/-- Registers that hold no state of a register file: what they read as now. The flag of `plain` says which part of the word the
stored fields give. -/
def State.liveWord (s : State) (f : Found) (plain : Nat) : Nat :=
  let i := f.i 0
  match f.rdef.reg with
  | .GLB_ID | .BOT_HWIF => plain + Config.stepping % 16
  | .GLB_IRQ_STAT => s.irqStat
  | .GLB_COMMIT_PENDING => maskOf 24 s.waiting
  | .CHK_TIME_LO => s.now % 2 ^ 32
  | .CHK_TIME_HI => s.now / 2 ^ 32 % 2 ^ 32
  | .CHK_STAT => plain + 2 * b2n (s.chalk.phase != 0) + b2n s.anyTg
  | .CHK_ADJ_PHASE => satSigned 32 (floorDiv s.chalk.phase (2 ^ 32))
  | .SEM_STAT => plain + min 255 (s.seam i).rows.length * 2 ^ 16 + b2n (s.tgEn i)
  | .STP_STAT => plain + b2n s.stpTaped * 2 ^ 8
  | .DMA_INT_STAT => s.dmaPend
  | .HWK_INT_LO => s.hawkPend % 2 ^ 32
  | .HWK_INT_HI => s.hawkPend / 2 ^ 32
  | .HWK_Q_STAT => bits plain 29 25 * 2 ^ 25 + bits plain 23 23 * 2 ^ 23 + s.hawkStat i
  | .HWK_Q_RSTAT => plain + s.hawkLeft i * 2
  | .CVU_RESULT => s.cvuResult i
  | .FLT_SUMMARY => s.summaryWord
  | .FLT_ALIVE => plain + b2n s.aliveStopped * 2 ^ 31
  | .FLT_GRP => maskOf 32 (fun j => (s.snag (32 * i + j)).latched)
  | .FLT_LIVE => maskOf 32 (fun j => (s.snag (32 * i + j)).live)
  | .FLT_SEV => s.sevWord i
  | .FLT_SNAG_STAT => s.snagWord i
  | .FLT_SNAG_COUNT => (s.snag i).count
  | .FLT_SNAG_TIME_LO => (s.snag i).time % 2 ^ 32
  | .FLT_SNAG_TIME_HI => (s.snag i).time / 2 ^ 32 % 2 ^ 32
  | .FLT_UNIT => if f.i 1 < unitCount i then s.unitWord (i * 0x1000 + f.i 1) else 0
  | .BOT_DEC => s.jnlEntry i
  | .SEC_LC_STAT => s.lcWord
  | .SEC_POLICY => s.fuses.policy
  | .SEC_KEY_STAT => s.fuses.revoked % 2 ^ 16 * 2 ^ 16 + maskOf 16 s.keyPresent
  | .SEC_KEY_PQ => maskOf 8 (fun k => !(s.pqKey k).isEmpty)
  | .SEC_UID => leAt uidBytes (4 * i) 4
  | .SEC_NONCE => leAt s.sec.nonce (4 * i) 4
  | .TST_STAT =>
    ((List.range 200).filter (fun l => s.flag (R.TST_LANE_STAT_LOCK l))).length * 2 ^ 8 +
      ((List.range 200).filter (fun l => s.flag (R.TST_LANE_STAT_ACTIVE l))).length
  | _ => plain

/-- Registers that read 0 and ignore writes: port registers on the other lanes of a gang (chapter 03, before R115), registers of an unused Seam
group or of entries beyond NMEMB (R228), the value and alive registers of a check-value unit that is taped off (R451), and the
registers of uplink classes that the image in force does not declare (R337). -/
def State.hidden (s : State) (f : Found) : Bool :=
  match f.blk with
  | .vsp => decide (0x100 ≤ f.off % 0x10000) && s.inGang (f.i 0) && s.base (f.i 0) != f.i 0
  | .sem =>
    let g := f.i 0
    s.nmemb g == 0 || (decide (0x400 ≤ f.off % 0x10000 ∧ f.off % 0x10000 < 0x800) && decide (s.nmemb g ≤ f.i 1))
  | .cvu => s.cvuTaped (f.i 0) && decide (0x14 ≤ f.off % 0x100)
  | .upl => decide (0x1000 ≤ f.off ∧ f.off < 0x1800) && s.rd (R.UPL_CLASS_KINDS (f.i 0)) == 0
  | _ => false

/-- Some field of the register is a statistics counter (R37). -/
def Found.counts (f : Found) : Bool := f.rdef.flds.any (·.acc == .cnt)

/-- The word of a register, and the state after the choices that a read leaves open. -/
def regWord (f : Found) (s : State) : Nat × State :=
  if s.hidden f then (0, s)
  else match f.rdef.reg with
    | .BOT_JNL_REC => jnlRead (f.i 0) s
    | _ =>
      let (k, s1) := if f.counts && s.flag R.GLB_SNAPSHOT_BUSY && s.flag R.GLB_SNAPSHOT_VALID then s.draw 2 else (0, s)
      (s1.liveWord f (s1.plainWord f (k == 1)), s1)

/-! ### Freezing pairs -/

/-- Distances of the registers that a read of a LO register freezes, the first of them being the HI register whose read ends the freeze (R82, R128,
R201, R226, R269, R302, R341, R376, R380, R383, R429, R477). -/
def freezes : Reg → List Int
  | .CHK_TIME_LO | .VSP_LINK_TIME_LO | .BOT_CKPT_TIME_LO | .GLB_COMMIT_TIME_LO | .STN_NEXT_ID_LO | .UPL_PTP_GM_LO | .HST_HEAD_LO | .HST_TAIL_LO
  | .DMA_CH_NEXT_LO | .DMA_CH_CUR_LO | .DMA_CH_FAIL_ADDR_LO | .FLT_SNAG_TIME_LO => [4]
  | .SEM_LAST_DL_LO => [4, -12, -8, -4]
  | .MEM_CH_ERR_ADDR_LO => [4, 8]
  | .HST_MARK_POS_LO => [4, 8, 12]
  | _ => []

/-- The registers that a read of the LO register at `a` freezes take the values they read as now. -/
def freezeAt (a : Nat) (ds : List Int) (s : State) : State :=
  ds.foldl (fun t d =>
    let b := ((a : Int) + d).toNat
    match regAt b with
    | some f =>
      let v := if s.hidden f then 0 else s.liveWord f (s.plainWord f false)
      { t with io := { t.io with frozen := t.io.frozen.set none b (some v) } }
    | none => t) s

/-- A read of the HI register at `a` ends its freeze. -/
def thawAt (a : Nat) (s : State) : State :=
  match regAt (a - 4) with
  | some f => ((freezes f.rdef.reg).map (fun d => ((a : Int) - 4 + d).toNat)).foldl
      (fun t b => { t with io := { t.io with frozen := t.io.frozen.set none b none } })
      s
  | none => s

/-- A read of register `f` at address `a`, freezes included. -/
def regFetch (a : Nat) (f : Found) (s : State) : Nat × State :=
  match s.io.frozen.get none a with
  | some v => (v, if (regAt (a - 4)).any (fun lo => !(freezes lo.rdef.reg).isEmpty) then thawAt a s else s)
  | none =>
    let (v, s1) := regWord f s
    (v, freezeAt a (freezes f.rdef.reg) s1)

/-! ### Reads -/

/-- A read of address `a` that its path may make: it answers, or stalls (R435). -/
def readServe (a : Nat) (p : Path) (s : State) : State :=
  match decodeAddr a with
  | .table e off => s.answer p 0 (s.tableRead e off)
  | .skimRam e off => s.answer p 0 (s.skimRead e off)
  | .none => s.answer p 1 0
  | .reg b off =>
    match findReg b off with
    | none => s.answer p 0 0
    | some f => match f.rdef.reg with
      | .HWK_Q_RHDR => hawkRhdr (f.i 0) p s
      | .HWK_Q_RDATA => hawkRdata (f.i 0) p [] s
      | _ => let (v, s1) := regFetch a f s; s1.answer p 0 v

/-- A read of address `a` by path `p` (R559): a failed read returns data 0. -/
def regRead (a : Nat) (p : Path) (s : State) : State :=
  let st := s.accessStatus p false a
  if st ≠ 0 then s.answer p st 0 else readServe a p s

/-! ### Writes -/

/-- A field takes its part of word `v` by its access code (R9). -/
def fieldWrite (f : Found) (v : Nat) (d : FDef) (s : State) : State :=
  let x := v / 2 ^ d.lo
  match d.acc with
  | .rw | .sh => s.wr (f.fld d) x
  | .w1c => s.wr (f.fld d) (clearBits (s.rd (f.fld d)) (x % 2 ^ d.w))
  | _ => s

/-- A write by access codes alone. -/
def plainWrite (f : Found) (v : Nat) (s : State) : State := f.rdef.flds.foldl (fun t d => fieldWrite f v d t) s

/-- A write-only buffer takes the word. -/
def bufferWrite (f : Found) (v : Nat) (s : State) : State := f.rdef.flds.foldl (fun t d => t.wr (f.fld d) (v / 2 ^ d.lo)) s

/-- A snapshot is requested: test lanes count up to its edge (R39, R540). -/
def snapshotAsk (s : State) : State := snapshotTake (tstAccountAll s)

/-- An automatic snapshot (R40). -/
def snapshotPeriod (s : State) : State := if s.flag R.GLB_SNAP_CTRL_HOLD then s else snapshotAsk s

/-- A write of GLB_COMMIT. -/
def commitWrite (v : Nat) (s : State) : State := commitRequest v s.inP1 (tstAccountAll s)

/-- A write of CHK_TG_CTRL: in P1 Idle it changes which generators the return to P0 starts again. -/
def tgWrite (g v : Nat) (s : State) : State :=
  if s.inP1 then
    if v % 2 = 1 then s else { s with power := { s.power with gens := s.power.gens.filter (· != g) } }
  else tgControl g v s

/-- A write of RETRAIN in UP (R55, R74). -/
def laneRetrain (n : Nat) (s : State) : State := if s.laneState n = 3 then backToTraining n true s else s

/-- A write of RETRY in ABSENT or TRAIN_FAIL (R61, R74). -/
def laneRetry (n : Nat) (s : State) : State :=
  if s.laneState n = 4 ∨ s.laneState n = 5 then
    attempt n (s.forAll (s.chan n) (fun i t => t.wr (R.VSP_LANE_STAT_RETRY_K i) 0))
  else s

/-- A write of FXT_TIME_CFG.PERIOD (R322). -/
def timePeriod (v : Nat) (s : State) : State := s.wr R.FXT_TIME_CFG_PERIOD v

/-- A write of UPL_PTP_CFG: the servo is OFF while EN is 0, and starts in ACQUIRING (R331). -/
def ptpConfig (f : Found) (v : Nat) (s : State) : State :=
  let was := s.flag R.UPL_PTP_CFG_EN
  let s1 := plainWrite f v s
  if was && !s1.flag R.UPL_PTP_CFG_EN then servoTo 0 s1 else s1

/-- A write of UPL_CTRL.RESTORE: a sub-port in fall-back whose lanes are all clean comes up again (R312); it is ignored while a declared
lane is under test (R536). -/
def uplinkRestore (s : State) : State :=
  s.forAll (List.range s.nsub) (fun x t =>
    if t.flag (R.UPL_SP_STAT_FALLBACK x) && !(t.subLanes x).any (fun u => t.laneTaped u || t.tstMode (192 + u) != 0) then
      upBring x false t
    else t)

/-- A write of HST_CTRL (R360, R361). -/
def historyWrite (f : Found) (v : Nat) (s : State) : State :=
  (hstEnable (v.testBit 0) (plainWrite f v s)).when (v.testBit 1) ringReset

/-- A write of HST_MARK_CTRL (R362). -/
def markWrite (v : Nat) (s : State) : State :=
  let k := bits v 12 0
  match bits v 31 29 with
  | 1 => markSetNow k s
  | 2 => markSetTime k s
  | 3 => markClear k s
  | 4 => markSelect k s
  | 0 => markSelect k s
  | _ => markBadOp k s

/-- A write of TST_LANE_CTRL (R533, R539). -/
def tstControl (l v : Nat) (s : State) : State := (tstWrite l v s).when (v.testBit 24) (tstInject l)

/-- A write of CVU_ALIVE_CFG (R450). -/
def cvuAliveCfg (c v : Nat) (f : Found) (s : State) : State := (plainWrite f v s).when (v.testBit 31) (cvuAliveReset c)

/-- A write of a bit group of FLT_GRPi acknowledges (R460, R475). -/
def ackGroup (i v : Nat) (s : State) : State := s.forAll ((List.range 32).filter v.testBit) (fun j => ack (32 * i + j))

/-- A write of FLT_SNAG_STAT (R477). -/
def snagWrite (e v : Nat) (s : State) : State :=
  let s1 := s.when (v.testBit 29) (fun t => t.setSnag e { t.snag e with conseq := false })
  s1.when (v.testBit 31) (ack e)

/-- A write of FLT_UNIT (R463). -/
def unitWrite (c v : Nat) (s : State) : State :=
  (s.when (v.testBit 15) (unitTapeWrite c)).when (v.testBit 14) (unitRelease c)

/-- GO of the mailbox (R565): the command and its arguments go to the firmware. -/
def mailboxGo (s : State) : State :=
  if s.flag R.GLB_MBX_STAT_BUSY then s.wr R.GLB_MBX_STAT_REFUSED 1
  else
    { s.wr R.GLB_MBX_STAT_BUSY 1 with
      io := { s.io with mailbox := some (s.rd R.GLB_MBX_CMD_CMD, (List.range 4).map (fun i => s.rd (R.GLB_MBX_ARG i))) } }

/-- A write of BOT_CTRL (R481, R490, R492). -/
def bootWrite (v : Nat) (s : State) : State :=
  ((s.when (v.testBit 1) jnlForget).when (v.testBit 2) hostBoot).when (v.testBit 0) actReset

/-- Word `v` is written to register `f` by path `p`: the registers of GLB, CHK, VSP and RND with effects of their own. -/
def frontWrite (f : Found) (v : Nat) (s : State) : State :=
  let i := f.i 0
  let plain := plainWrite f v s
  match f.rdef.reg with
  | .GLB_SNAPSHOT => plain.when (v.testBit 0) snapshotAsk
  | .GLB_COMMIT => commitWrite v s
  | .GLB_LATH_CTRL => lathControl v s
  | .GLB_LATH_ADDR_LO => lathAddrWrite R.GLB_LATH_ADDR_LO v s
  | .GLB_LATH_ADDR_HI => lathAddrWrite R.GLB_LATH_ADDR_HI_ADDR v s
  | .GLB_LATH_LEN => lathAddrWrite R.GLB_LATH_LEN v s
  | .GLB_MBX_CMD => plain.when (v.testBit 31) mailboxGo
  | .CHK_CTRL => plain.when (v.testBit 0) chalkStep
  | .CHK_ADJ_PHASE => addPhase (toSigned 32 v) s
  | .CHK_TG_CTRL => tgWrite i v s
  | .CHK_TG_LEAD | .CHK_TG_PERIOD_INT | .CHK_TG_PERIOD_FRAC | .CHK_TG_START_LO | .CHK_TG_START_HI | .CHK_TG_L0 =>
    tgConfig i (f.off % 0x40 / 4) v s
  | .VSP_LANE_CTRL => (plain.when (v.testBit 1) (laneRetrain i)).when (v.testBit 0) (laneRetry i)
  | .VSP_CMD_CTRL => plain.when (v.testBit 0) (cmdGo i)
  | .VSP_CHAL_CTRL => plain.when (v.testBit 0) (chalStart i)
  | .VSP_CHAL_KEY => chalKeyWord i (f.i 1) v s
  | .RND_BANK_CTRL => (s.when (v.testBit 1) (disarm i)).when (v.testBit 0) (swapArm i)
  | _ => plain

/-- The registers of UPL, MEM, STP, DMA, HWK and CVU with effects of their own. -/
def pipeWrite (f : Found) (v : Nat) (s : State) : State :=
  let i := f.i 0
  let plain := plainWrite f v s
  match f.rdef.reg with
  | .UPL_CTRL => plain.when (v.testBit 0) uplinkRestore
  | .UPL_PTP_CFG => ptpConfig f v s
  | .FXT_TIME_CFG => timePeriod v s
  | .HST_CTRL => historyWrite f v s
  | .HST_MARK_CTRL => markWrite v s
  | .HST_RP_CTRL => (plain.when (v.testBit 31) rpGo).when (v.testBit 30) rpAbort
  | .STP_JOB_CTRL => (plain.when (v.testBit 30) (stpStop i 13)).when (v.testBit 31) (stpGo i)
  | .DMA_CH_CTRL => ((plain.when (v.testBit 1) (dmaAbort i)).when (v.testBit 2) (dmaAck i)).when (v.testBit 0) (dmaStart i)
  | .DMA_CH_NEXT_LO => dmaConfig i 0 v s
  | .DMA_CH_NEXT_HI => dmaConfig i 1 v s
  | .DMA_CH_HOP_LIMIT => dmaConfig i 2 v s
  | .HWK_Q_CTRL => (plain.when (v.testBit 1) (hawkDropCur i)).when (v.testBit 0) (hawkFlush i)
  | .HWK_Q_CFG =>
    let s1 := s.wr (R.HWK_Q_CFG_LEVEL i) v
    if s.rd (R.HWK_Q_CFG_ECC i) = bits v 31 31 then s1 else hawkEcc i (v.testBit 31) s1
  | .HWK_Q_WHDR => hawkWhdr i v s
  | .HWK_Q_WDATA => hawkWdata i v s
  | .CVU_CTRL => s.when (v.testBit 0) (cvuInit i)
  | .CVU_CFG => cvuCfg i v s
  | .CVU_VALUE => cvuValue i v s
  | .CVU_FEED8 => cvuFeed i 1 v s
  | .CVU_FEED16 => cvuFeed i 2 v s
  | .CVU_FEED32 => cvuFeed i 4 v s
  | .CVU_ALIVE_CFG => cvuAliveCfg i v f s
  | .CVU_ALIVE_IN => cvuAlive i v s
  | _ => plain

/-- The registers of FLT, SEC, BOT, THM and TST with effects of their own. -/
def sysWrite (f : Found) (v : Nat) (p : Path) (s : State) : State :=
  let i := f.i 0
  let plain := plainWrite f v s
  match f.rdef.reg with
  | .FLT_CTRL => s.when (v.testBit 0) ackAll
  | .FLT_GRP => ackGroup i v s
  | .FLT_SEV => sevWrite i v s
  | .FLT_SNAG_STAT => snagWrite i v s
  | .FLT_UNIT => if f.i 1 < unitCount i then unitWrite (i * 0x1000 + f.i 1) v s else s
  | .THM_PWR_CTRL => pwrWrite v p s
  | .BOT_CTRL => bootWrite v s
  | .BOT_FORGET_UNIT => forgetUnit (v % 256) s
  | .BOT_CKPT_CTRL => plain.when (v.testBit 0) ckptStart
  | .SEC_LC_CTRL => lcWrite v p s
  | .SEC_POLICY => policyWrite v s
  | .SEC_KEY_CTRL => keyWrite v s
  | .SEC_RB_CTRL => rbWrite v s
  | .SEC_DBG_CTRL => dbgWrite v p s
  | .SEC_DBG_CORE => coreHalt v s
  | .SEC_TOKEN | .SEC_DBG_CERT | .SEC_KEY_DATA => bufferWrite f v s
  | .TST_LANE_CTRL => tstControl i v s
  | .TST_USER => tstUser i (f.i 1) v s
  | .TST_EYE_CTRL => plain.when (v.testBit 31) (eyeGo i)
  | .TST_BCAST_GO => s.when (v.testBit 0) tstBroadcast
  | _ => plain

/-- Word `v` is written to register `f` by path `p`. -/
def regPut (f : Found) (v : Nat) (p : Path) (s : State) : State :=
  if s.hidden f || (f.blk == .cvu && s.cvuTaped (f.i 0)) then s
  else match f.blk with
    | .glb | .chk | .vsp | .rnd => frontWrite f v s
    | .upl | .mem | .stp | .dma | .hwk | .cvu => pipeWrite f v s
    | .flt | .sec | .bot | .thm | .tst => sysWrite f v p s
    | .sem | .stn | .plb => plainWrite f v s

/-- A write of address `a` that its path may make. -/
def writeServe (a v : Nat) (p : Path) (s : State) : State :=
  match decodeAddr a with
  | .table e off => tableWrite e off v s
  | .skimRam _ _ => s
  | .none => s
  | .reg b off => match findReg b off with
    | none => s
    | some f => regPut f v p s

/-- A write of `v` to address `a` by path `p` (R559): a failed write changes nothing. -/
def regWrite (a v : Nat) (p : Path) (s : State) : State :=
  let st := s.accessStatus p true a
  if st ≠ 0 then s.answer p st 0 else (writeServe a (v % 2 ^ 32) p s).answer p 0 0

end Sys2Proof.Machine
end

