-- ==== Sys2Proof/Machine/DmaMove.lean ====
section
/-! DEFINITION. The data moves of a DMA channel (R416, R421, R422): reads and writes of blocks and register words, the read-back, and
what halts a channel. -/

namespace Sys2Proof.Machine

/-- ERR for the result of a register access (R421, R559). -/
def dmaErr (st : Nat) : Nat := if st = 3 then 8 else if st = 5 then 5 else 4

/-- Bytes moved at a time: single words between registers, else blocks of 64 (R421). -/
def State.dmaUnit (s : State) (d : DmaDesc) : Nat :=
  if s.memCls d.src 1 = some .register ∧ s.memCls d.dst 1 = some .register then 4 else 64

/-- Offset of the next block: in descending order for a move upwards within itself (R421). -/
def State.dmaOffset (s : State) (d : DmaDesc) : Nat := if d.down then d.count - s.dmaUnit d - d.moved else d.moved

/-- Addresses of the next block at the two ends; a fixed end stays. -/
def State.dmaSrc (s : State) (d : DmaDesc) : Nat := if d.srcFix then d.src else d.src + s.dmaOffset d
def State.dmaDst (s : State) (d : DmaDesc) : Nat := if d.dstFix then d.dst else d.dst + s.dmaOffset d

/-- What reading at an end gave (R421, R435): the bytes; the ERR and the address that failed; or the bytes so far of a block whose next
register word stalls. -/
inductive DmaGot where
  | ok (bs : List Byte)
  | failed (err addr : Nat)
  | stalled (bs : List Byte)
  deriving DecidableEq, Repr

/-- `n` register words are read from `a`, which advances unless it is fixed, behind the bytes `acc`; with `await` the first word's read has
begun. -/
def dmaRegRead (fix : Bool) : Bool → Nat → Nat → List Byte → State → DmaGot × State
  | _, 0, _, acc, s => (.ok acc, s)
  | await, n + 1, a, acc, s =>
    let s1 := if await then s else regRead (a % 0x100000000) .dma s
    match s1.answerOf .dma with
    | none => (.stalled acc, s1)
    | some (0, v) => dmaRegRead fix false n (if fix then a else a + 4) (acc ++ leBytes 4 v) s1
    | some (e, _) => (.failed (dmaErr e) a, s1)

/-- Words are written to registers from `a`: the bytes written, the address written last, and the ERR of a failure. -/
def dmaRegWrite (fix : Bool) : List Nat → Nat → Nat → State → Nat × Nat × Option Nat × State
  | [], a, done, s => (done, a, none, s)
  | w :: t, a, done, s =>
    let s1 := regWrite (a % 0x100000000) w .dma s
    match s1.answerOf .dma with
    | some (0, _) => if t = [] then (done + 4, a, none, s1) else dmaRegWrite fix t (if fix then a else a + 4) (done + 4) s1
    | r => (done, a, some (dmaErr ((r.map (·.1)).getD 5)), s1)

/-- Register words `n` of the next block of descriptor `d` of channel `c`, from those already read on. -/
def dmaWords (c : Nat) (d : DmaDesc) (n : Nat) (s : State) : DmaGot × State :=
  let ch := s.dmaCh c
  let k := ch.got.length
  dmaRegRead d.srcFix ch.await (n - k / 4) (if d.srcFix then s.dmaSrc d else s.dmaSrc d + k) ch.got s

/-- The bytes of the next block of descriptor `d`. -/
def dmaGet (c : Nat) (d : DmaDesc) (err : MemErr) (s : State) : DmaGot × State :=
  let a := s.dmaSrc d
  if s.memCls d.src 1 = some .register then dmaWords c d (s.dmaUnit d / 4) s
  else
    let (bs, poison, s1) := devRead 3 a 64 err s
    (if poison then .failed 6 a else .ok bs, s1)

/-- Channel `c` holds the bytes `got` of a block, and waits for a register read or has begun none. -/
def dmaHold (c : Nat) (got : List Byte) (await : Bool) (s : State) : State :=
  s.setDmaCh c { s.dmaCh c with got := got, await := await }

/-- The block is written: bytes written, the address written last, and the ERR of a failure. -/
def dmaSet (d : DmaDesc) (bs : List Byte) (s : State) : Nat × Nat × Option Nat × State :=
  let a := s.dmaDst d
  if s.memCls d.dst 1 = some .register then dmaRegWrite d.dstFix (leWords bs) a 0 s
  else
    let (ok, s1) := devWrite 3 a bs s
    if ok then (bs.length, a, none, s1) else (0, a, some 4, s1)

/-- A block of `n` bytes has been written, last at `wrote`. -/
def dmaMoved (c n wrote : Nat) (s : State) : State :=
  match (s.dmaCh c).desc with
  | some d => (s.setDmaCh c { s.dmaCh c with desc := some { d with moved := d.moved + n, wrote := wrote } }).inc (R.DMA_CH_BYTES c) n
  | none => s

/-- `n` bytes have been written, the last access at `a`; error `e` halts the channel (R421). -/
def dmaLanded (c n a : Nat) (e : Option Nat) (s : State) : State :=
  match e with
  | some e => dmaHalt c e 3 a (dmaMoved c n a s)
  | none => dmaMoved c n a s

/-- The next block of descriptor `d` is read and written (R421); a word whose read stalls is waited for (R435). -/
def dmaBlock (c : Nat) (d : DmaDesc) (err : MemErr) (s : State) : State :=
  let g := dmaGet c d err s
  match g.1 with
  | .failed e a => dmaHalt c e 2 a g.2
  | .stalled bs => dmaHold c bs true g.2
  | .ok bs =>
    let p := dmaSet d bs (dmaHold c [] false g.2)
    dmaLanded c p.1 p.2.1 p.2.2.1 p.2.2.2

/-- The read-back after the last write (R422). -/
def dmaReadBack (c : Nat) (d : DmaDesc) (err : MemErr) (s : State) : State :=
  let a := d.wrote
  let done (t : State) : State := dmaComplete c d.last (d.int || d.last) d.next t
  if s.memCls d.dst 1 = some .register then
    let g := dmaRegRead true (s.dmaCh c).await 1 a [] s
    match g.1 with
    | .failed e _ => dmaHalt c e 4 a g.2
    | .stalled _ => dmaHold c [] true g.2
    | .ok _ => done (dmaHold c [] false g.2)
  else
    let (_, poison, s1) := devRead 3 a 64 err s
    if poison then dmaHalt c 6 4 a s1 else done s1

/-- Another channel waits for a register read that stalls: the next register access of channel `c` waits too (log 97). -/
def State.dmaHeld (s : State) (c : Nat) (d : DmaDesc) : Bool :=
  s.dmaChs.any (fun x => x.1 != c && x.2.await) && (s.memCls d.src 1 == some .register || s.memCls d.dst 1 == some .register)

/-- The channel moves its next block; nothing to move leaves it to the read-back. -/
def dmaMove (c : Nat) (err : MemErr) (s : State) : State :=
  match (s.dmaCh c).desc with
  | some d => if s.dmaState c = 1 ∧ d.moved < d.count ∧ !s.dmaHeld c d then dmaBlock c d err s else s
  | none => s

/-- The read-back is due and returns. -/
def dmaBack (c : Nat) (err : MemErr) (s : State) : State :=
  match (s.dmaCh c).desc with
  | some d => if s.dmaState c = 1 ∧ d.count ≤ d.moved ∧ !s.dmaHeld c d then dmaReadBack c d err s else s
  | none => s

/-- The next access of the channel, whichever it is. -/
def dmaNext (c : Nat) (err : MemErr) (s : State) : State :=
  match (s.dmaCh c).desc with
  | none => dmaFetch c err s
  | some d => if d.moved < d.count then dmaMove c err s else dmaBack c err s

/-- The next access of the channel fails (R421): what it finds halts the channel. -/
def dmaFail (c : Nat) (err : MemErr) (s : State) : State :=
  let t := dmaNext c err s
  if s.dmaState c = 1 ∧ t.dmaState c = 2 then t else s

/-- Word `word` of the block is not read in time: the words before it have been (R421). -/
def dmaReadHang (c : Nat) (d : DmaDesc) (word : Nat) (s : State) : State :=
  let a := s.dmaSrc d
  if s.memCls d.src 1 = some .register then
    let g := dmaWords c d (min word (s.dmaUnit d / 4 - 1)) s
    match g.1 with
    | .failed e a => dmaHalt c e 2 a g.2
    | .stalled bs | .ok bs => dmaHalt c 5 2 (if d.srcFix then a else a + bs.length) g.2
  else dmaHalt c 5 2 a s

/-- Word `word` of the block is not written in time: the block has been read, and the words before it written (R421). The write that is
given up may or may not have taken effect (R558). -/
def dmaWriteHang (c : Nat) (d : DmaDesc) (word : Nat) (s : State) : State :=
  let g := dmaGet c d .none s
  match g.1 with
  | .failed e a => dmaHalt c e 2 a g.2
  | .stalled bs => dmaHold c bs true g.2
  | .ok bs =>
    if s.memCls d.dst 1 = some .register then
      let k := min word (s.dmaUnit d / 4 - 1)
      let a := if d.dstFix then d.dst else s.dmaDst d + 4 * k
      let p := dmaRegWrite d.dstFix ((leWords bs).take k) (s.dmaDst d) 0 (dmaHold c [] false g.2)
      let (landed, s1) := p.2.2.2.draw 2
      let s2 := s1.when (p.2.2.1.isNone && landed == 1) (regWrite (a % 0x100000000) ((leWords bs).getD k 0) .dma)
      dmaLanded c p.1 (if p.2.2.1.isSome then p.2.1 else a) (some (p.2.2.1.getD 5)) s2
    else dmaHalt c 5 3 (s.dmaDst d) g.2

/-- The next access of the channel is not answered within 100 µs: of a block, the one that `hang` names (R421). -/
def dmaTimeout (c : Nat) (hang : DmaHang) (s : State) : State :=
  if s.dmaState c ≠ 1 then s
  else match (s.dmaCh c).desc with
    | none => dmaHalt c 5 1 (s.dmaCh c).next (setCur c (s.dmaCh c).next s)
    | some d =>
      if d.count ≤ d.moved then dmaHalt c 5 4 d.wrote s
      else if hang.write then dmaWriteHang c d hang.word s
      else dmaReadHang c d hang.word s

end Sys2Proof.Machine
end

