-- ==== Sys2Proof/Machine/Paths.lean ====
section
/-! DEFINITION. The access paths (R321, R510, R545 to R547, R558 to R565): session tags, MGMT_SPI, the debug port, SMBus, management
requests in band and on the management Ethernet port, and the mailbox. -/

namespace Sys2Proof.Machine

/-! ### Session tags (R510, R561) -/

/-- Session key and access count of a session on path `p` that was opened under CERT. -/
def State.sessKey (s : State) (p : Path) : Option (List Byte × Nat) :=
  match s.sec.session with
  | some x => if x.path = p then x.key.map (fun k => (k, x.ctr)) else none
  | none => none

/-- The tag of an access: OP 1 for a read, 2 for a write (R510). -/
def accessTag (key : List Byte) (ctr op a d : Nat) : List Byte :=
  (Config.hmacSha256 key (beBytes 8 ctr ++ [byte op] ++ beBytes 4 a ++ beBytes 4 d)).take 16

/-- One more access on the session's path. -/
def countAccess (s : State) : State :=
  { s with sec := { s.sec with session := s.sec.session.map (fun x => { x with ctr := x.ctr + 1 }) } }

/-- An access with a wrong tag: the session ends (R510, R511, R559). -/
def tagRefused (p : Path) (s : State) : State := (dbgEnd 3 s).answer p 6 0

/-- A read without a tag: refused on a session that asks for tags (R561). -/
def plainRead (a : Nat) (p : Path) (s : State) : State :=
  if (s.sessKey p).isSome then tagRefused p s else regRead a p s

/-- A write without a tag. -/
def plainPut (a v : Nat) (p : Path) (s : State) : State :=
  if (s.sessKey p).isSome then tagRefused p s else regWrite a v p s

/-- The tag over the data returned by a read whose access count was `k.2`; without a session key it is a free value. -/
def returnTag (a : Nat) (p : Path) (k : Option (List Byte × Nat)) (s : State) : List Byte × State :=
  match k with
  | some (key, ctr) => (accessTag key ctr 1 a (((s.answerOf p).map (·.2)).getD 0), s)
  | none => s.drawBytes 16

/-- The debug port shows address `a` and tag `tag` with its last access. -/
def setDbg (a : Nat) (tag : List Byte) (s : State) : State :=
  { s with io := { s.io with dbg := { s.io.dbg with addr := a, tag := tag } } }

/-- The read `x` that owes a tag gives it, once it has its answer (R510, R547, R561). -/
def giveTag (x : Path × Nat × Option (List Byte × Nat)) (s : State) : State :=
  if (s.answerOf x.1).isNone then s
  else
    let (t, s1) := returnTag x.2.1 x.1 x.2.2 { s with io := { s.io with tags := s.io.tags.filter (·.1 != x.1) } }
    if x.1 = .spi then { s1 with io := { s1.io with spiTag := t } } else setDbg x.2.1 t s1

/-- A read that returns a tag, which follows its answer. -/
def taggedRead (a : Nat) (p : Path) (s : State) : State :=
  let x := (p, a, s.sessKey p)
  let s1 := regRead a p (countAccess s)
  giveTag x { s1 with io := { s1.io with tags := s1.io.tags.filter (·.1 != p) ++ [x] } }

/-- A write under a tag. -/
def taggedWrite (a v : Nat) (tag : List Byte) (p : Path) (s : State) : State :=
  match s.sessKey p with
  | some (key, ctr) => if tag = accessTag key ctr 2 a v then regWrite a v p (countAccess s) else tagRefused p s
  | none => regWrite a v p s

/-! ### The debug port (R545 to R547) -/

/-- What IDCODE reads (R545). -/
def idcode : Nat := 0x04192B4D + Config.stepping % 16 * 2 ^ 28

/-- Instruction `ir` is available (R545). -/
def State.tapOpen (s : State) (ir : Nat) : Bool :=
  ir == 1 || ir == 2 || ir == 0x20 || ir == 0xFF ||
    (decide (3 ≤ ir ∧ ir ≤ 7) && (s.fuses.lc == 0 || decide (1 ≤ s.pathLevel .debug))) ||
    (decide (0x30 ≤ ir ∧ ir ≤ 0x3F) && s.boot.d3)

/-- The instruction in force becomes `e`; replacing one that drives the balls resets the device (R546). -/
def tapForce (e : Nat) (s : State) : State :=
  let old := s.io.dbg.ir
  let s1 := { s with io := { s.io with dbg := { s.io.dbg with ir := e } } }
  if 3 ≤ old ∧ old ≤ 7 ∧ old ≠ e then actReset s1 else s1

/-- An instruction is loaded: one that is not available acts as BYPASS (R545). -/
def tapLoad (ir : Nat) (s : State) : State := tapForce (if s.tapOpen ir then ir else 0xFF) s

/-- Test-Logic-Reset: IDCODE is selected (R545). -/
def tapReset (s : State) : State := tapForce 1 s

/-- The DBG register may start an access: DBG is selected and no access is pending (R547). -/
def State.dbgReady (s : State) : Bool := s.io.dbg.ir == 0x20 && (s.answerOf .debug).isSome

/-- Update-DR with OP read: under a session key the tag covers a read's DATA 0, and the returned tag its data (R510, R547). -/
def dbgRead (a : Nat) (tag : List Byte) (s : State) : State :=
  if !s.dbgReady then s
  else match s.sessKey .debug with
    | none => regRead a .debug (setDbg a (zeros 16) s)
    | some (key, ctr) =>
      if tag = accessTag key ctr 1 a 0 then taggedRead a .debug (setDbg a (zeros 16) s)
      else tagRefused .debug (setDbg a (zeros 16) s)

/-- Update-DR with OP write: the data written is what the register shows (R547). -/
def dbgPut (a v : Nat) (tag : List Byte) (s : State) : State :=
  if !s.dbgReady then s
  else
    let s1 := taggedWrite a v tag .debug s
    setDbg a (zeros 16) (s1.answer .debug (((s1.answerOf .debug).map (·.1)).getD 0) v)

/-- STATUS of the debug port for an access result (R547, R559). -/
def dbgStatus (r : Option (Nat × Nat)) : Nat :=
  match r with
  | none => 1
  | some (0, _) => 0
  | some (3, _) | some (6, _) => 3
  | some _ => 2

/-- Capture-DR of the DBG register. -/
def dbgCapture (s : State) : State :=
  let r := s.answerOf .debug
  { s with io := { s.io with dbg := { s.io.dbg with status := dbgStatus r, data := (r.map (·.2)).getD 0 } } }

/-! ### SMBus (R564) -/

/-- Command 0x10. -/
def smbPointer (a : Nat) (s : State) : State := { s with io := { s.io with smbPtr := a, smbNack := false } }

/-- Command 0x11. -/
def smbRead (s : State) : State :=
  let s1 := { s with io := { s.io with smbNack := false } }
  regRead s1.io.smbPtr .smbus s1

/-- Any other command, or a transaction whose PEC fails. -/
def smbBad (s : State) : State := { s with io := { s.io with smbNack := true } }

/-! ### Management requests (R321, R563) -/

/-- The operations of a MGMT_REQ payload; `none` when LENGTH disagrees with NOPS, or an OP is reserved. -/
def mgmtOps (payload : List Byte) : Option (List MgmtOp) :=
  let n := beAt payload 0 2
  let ops := (List.range n).map (fun k => MgmtOp.mk (beAt payload (4 + 12 * k) 1) (beAt payload (8 + 12 * k) 4) (beAt payload (12 + 12 * k) 4))
  if 1 ≤ n ∧ n ≤ 64 ∧ payload.length = 4 + 12 * n ∧ ops.all (fun o => o.op == 1 || o.op == 2) then some ops else none

/-- TYPE of an FXT frame (R314). -/
def fxtType (f : List Byte) : Nat := beAt f 1 1

/-- The operations of an FXT frame that is a sound MGMT_REQ: CRC, VER, TYPE and LENGTH. -/
def mgmtFrame (f : List Byte) : Option (List MgmtOp) :=
  let len := beAt f 10 2
  if f.length = 36 + len ∧ bits (beAt f 0 1) 7 4 = 1 ∧ fxtType f = 0x10 ∧ beAt f (32 + len) 4 = crc32c (f.take (32 + len)) then
    mgmtOps (slice f 32 len)
  else none

/-- The entry of operation `o` with status `st` and data `d`. -/
def MgmtOp.entry (o : MgmtOp) (st d : Nat) : List Byte := [byte o.op, byte st, 0, 0] ++ beBytes 4 o.addr ++ beBytes 4 d

/-- The entry of operation `o` that has failed with `st`: a read's data are 0, a write's a free value. -/
def mgmtUndone (o : MgmtOp) (st : Nat) (s : State) : List Byte × State :=
  if o.op = 1 then (o.entry st 0, s)
  else
    let (d, s1) := s.draw (2 ^ 32)
    (o.entry st d, s1)

/-- The entry of operation `o` that path `p` has answered, and whether it failed. -/
def mgmtEntry (p : Path) (o : MgmtOp) (s : State) : List Byte × Bool × State :=
  let r := (s.answerOf p).getD (0, 0)
  if r.1 ≠ 0 then
    let (b, s1) := mgmtUndone o r.1 s
    (b, true, s1)
  else (o.entry 0 (if o.op = 1 then r.2 else o.data), false, s)

/-- Operations in order until one stalls, which is then the first of those left; after a failure they are NOT_DONE (R321, R435): the
operations left, the entries made, and whether one has failed. -/
def mgmtServe (p : Path) : List MgmtOp → Bool → State → List MgmtOp × List Byte × Bool × State
  | [], failed, s => ([], [], failed, s)
  | o :: t, failed, s =>
    if failed then
      let (e, s1) := mgmtUndone o 0xFF s
      let (l, r, f, s2) := mgmtServe p t true s1
      (l, e ++ r, f, s2)
    else
      let s1 := if o.op = 1 then regRead o.addr p s else regWrite o.addr o.data p s
      if (s1.answerOf p).isNone then (o :: t, [], false, s1)
      else
        let (e, f1, s2) := mgmtEntry p o s1
        let (l, r, f, s3) := mgmtServe p t f1 s2
        (l, e ++ r, f, s3)

/-- The request goes on: with the answer that it awaits, then with its other operations. -/
def MgmtReq.run (q : MgmtReq) (s : State) : MgmtReq × State :=
  let (e0, ops, f0, s1) := match q.waits, q.left with
    | true, o :: t => let (e, f, s1) := mgmtEntry q.path o s; (e, t, f, s1)
    | _, l => ([], l, q.failed, s)
  let (l, e, f, s2) := mgmtServe q.path ops f0 s1
  ({ q with left := l, done := q.done ++ e0 ++ e, failed := f, waits := !l.isEmpty }, s2)

/-- The MGMT_RSP to request `q` is built after its last operation, and goes the way the request came (R321, R563). -/
def mgmtReply (q : MgmtReq) (s : State) : State :=
  let b := q.seq ++ beBytes 2 q.nops ++ [0, 0] ++ q.done
  if q.path = .mge then { s with io := { s.io with mgeOut := some (q.mac, b) } } else offerWait q.x ⟨0x11, 0xFF, 0, q.time, b⟩ s

/-- Path `p` holds no request, or its first request is `q` now. -/
def setReq (p : Path) (q : Option MgmtReq) (s : State) : State :=
  let rest := (s.io.reqs.filter (·.path == p)).drop 1
  { s with io := { s.io with reqs := s.io.reqs.filter (·.path != p) ++ q.toList ++ rest } }

/-- The requests of path `p` are served in order, until one awaits an answer. -/
def mgmtRun (p : Path) : Nat → State → State
  | 0, s => s
  | k + 1, s =>
    match s.io.reqs.find? (·.path == p) with
    | none => s
    | some q =>
      if q.waits && (s.answerOf p).isNone then s
      else
        let (q1, s1) := q.run s
        if q1.waits then setReq p (some q1) s1 else mgmtRun p k (mgmtReply q1 (setReq p none s1))

/-- A request with operations `ops` in frame `f` joins those of its path, and is served. -/
def mgmtTake (p : Path) (x : Nat) (mac f : List Byte) (ops : List MgmtOp) (s : State) : State :=
  let q : MgmtReq := ⟨p, x, mac, s.now, slice f 4 4, ops.length, ops, [], false, false⟩
  let s1 := s.inc R.FXT_RX_MGMT
  mgmtRun p (s.io.reqs.length + 1) { s1 with io := { s1.io with reqs := s1.io.reqs ++ [q] } }

/-- Requests held: those in service or waiting for it, and those whose responses wait (R321, R324). -/
def State.mgmtHeld (s : State) : Nat :=
  (s.io.reqs.filter (·.path == .fxt)).length + (s.ucls.map (fun c => (c.2.wait.filter (·.2.type == 0x11)).length)).sum

/-- A MGMT_REQ frame arrives on sub-port `x` (R321, R323). -/
def mgmtReceived (x : Nat) (f : List Byte) (s : State) : State :=
  if s.subState x ≠ 3 then s
  else match mgmtFrame f with
    | none => s.inc R.FXT_RX_ERR
    | some ops =>
      if !s.flag R.FXT_CFG_MGMT_EN ∨ (s.matchOn x 0x11 0xFF).isNone then s.inc R.FXT_RX_ERR
      else if 4 ≤ s.mgmtHeld then s.inc R.FXT_RX_BUSY
      else mgmtTake .fxt x [] f ops s

/-- Destination addresses that a sub-port receives beside FXT_SMAC (R323): PTP over L2, IPv4 and IPv6, and MAC control. PRESUMED (log 95):
the addresses of IEEE 1588 and IEEE 802.3. -/
def rxGroups : List Nat := [0x011B19000000, 0x0180C200000E, 0x01005E000181, 0x333300000181, 0x0180C2000001]

/-- What R323 makes of a received frame: an FXT frame, a PTP or MAC-control frame, which their own commands bring, or another frame. -/
inductive RxKind where
  | fxt (frame : List Byte)
  | control
  | other
  deriving DecidableEq, Repr

/-- A frame on sub-port `x` is judged by its address, EtherType and UDP destination port, behind an 802.1Q tag if it has one (R323). The pad
of an FXT frame is left off by its LENGTH (R313). -/
def State.rxKind (s : State) (x : Nat) (f : RxFrame) : RxKind :=
  let b := f.bytes
  let o := if beAt b 12 2 = 0x8100 then 4 else 0
  let et := beAt b (12 + o) 2
  let fxt (p : List Byte) : RxKind := .fxt (p.take (36 + beAt p 10 2))
  let udp (k : Nat) : RxKind :=
    if beAt b (k + 2) 2 = s.rd (R.FXT_UDP_SPORT x) then fxt (b.drop (k + 8))
    else if beAt b (k + 2) 2 = 319 ∨ beAt b (k + 2) 2 = 320 then .control
    else .other
  let smac := 2 ^ 32 * s.rd (R.FXT_SMAC_HI_MAC x) + s.rd (R.FXT_SMAC_LO x)
  if f.bad || decide (9216 < b.length + 4) || !(beAt b 0 6 == smac || rxGroups.contains (beAt b 0 6)) then .other
  else if et = s.rd (R.FXT_ENCAP_ETHERTYPE x) then fxt (b.drop (14 + o))
  else if et = 0x0800 ∧ beAt b (23 + o) 1 = 17 then udp (14 + o + 4 * (beAt b (14 + o) 1 % 16))
  else if et = 0x86DD ∧ beAt b (20 + o) 1 = 17 then udp (54 + o)
  else if et = 0x88F7 ∨ et = 0x8808 then .control
  else .other

/-- A frame arrives on sub-port `x` (R323): what the device does not take is discarded and counted; a MGMT_REQ is served. -/
def frameReceived (x : Nat) (f : RxFrame) (s : State) : State :=
  if s.subState x ≠ 3 then s
  else match s.rxKind x f with
    | .fxt p => if fxtType p = 0x10 then mgmtReceived x p s else s.inc R.FXT_RX_ERR
    | .control => s
    | .other => s.inc R.FXT_RX_OTHER

/-- What the management Ethernet port takes of a received frame (R563): source MAC and FXT frame of one that is addressed to GLB_MGE_MAC
and carries its ETHERTYPE, behind an 802.1Q tag if it has one, without its pad (R313). -/
def State.mgeFxt (s : State) (f : RxFrame) : Option (List Byte × List Byte) :=
  let b := f.bytes
  let o := if beAt b 12 2 = 0x8100 then 4 else 0
  let p := b.drop (14 + o)
  if !f.bad && s.flag R.GLB_MGE_CTRL_EN && s.flag R.GLB_MGE_CTRL_LINK && beAt b 0 6 == 2 ^ 32 * s.rd R.GLB_MGE_MAC_HI_MAC + s.rd R.GLB_MGE_MAC_LO
      && beAt b (12 + o) 2 == s.rd R.GLB_MGE_CTRL_ETHERTYPE then
    some (slice b 6 6, p.take (36 + beAt p 10 2))
  else none

/-- A frame arrives on the management Ethernet port (R563): a MGMT_REQ is served, anything else is discarded. -/
def mgeReceived (f : RxFrame) (s : State) : State :=
  match s.mgeFxt f with
  | none => s
  | some (src, p) =>
    if fxtType p ≠ 0x10 then s
    else match mgmtFrame p with
      | none => s.inc R.FXT_RX_ERR
      | some ops =>
        if 4 ≤ (s.io.reqs.filter (·.path == .mge)).length then s.inc R.FXT_RX_BUSY else mgmtTake .mge 0 src p ops s

/-- The link of the management Ethernet port (R571). -/
def mgeLink (up : Bool) (s : State) : State := s.wr R.GLB_MGE_CTRL_LINK (b2n up)

/-! ### Mailbox (R565, R570) -/

/-- A mailbox command is written with its arguments, and GO. -/
def mailboxWrite (cmd : Nat) (args : List Nat) (s : State) : State :=
  let s1 := s.forAll (List.range args.length) (fun i t => t.wr (R.GLB_MBX_ARG i) (args.getD i 0))
  mailboxGo (s1.wr R.GLB_MBX_CMD_CMD cmd)

/-- RESULT and the RSP words that the command gives; the others are free values. -/
def mailboxEnd (res : Nat) (rsp : List Nat) (s : State) : State :=
  let s1 := { ((s.wr R.GLB_MBX_STAT_BUSY 0).wr R.GLB_MBX_STAT_RESULT res).wr R.GLB_IRQ_STAT_MBX 1 with
                io := { s.io with mailbox := none } }
  s1.forAll (List.range 4) (fun i t =>
    match rsp[i]? with
    | some v => t.wr (R.GLB_MBX_RSP i) v
    | none => let (v, t1) := t.draw (2 ^ 32); t1.wr (R.GLB_MBX_RSP i) v)

/-- MRAM_READ is refused (R565): a length of 0 or above 512 KiB, an argument that is no multiple of 64, a range outside its area, or the
MRAM key area (R500). -/
def mramReadBad (a n d : Nat) : Bool :=
  n == 0 || decide (0x80000 < n) || a % 64 != 0 || n % 64 != 0 || d % 64 != 0 || decide (0x1000000 < a + n) ||
    decide (0x80000 < d + n) || decide (a < 0xF40000 ∧ 0xF00000 < a + n)

/-- The firmware serves the command (R565). -/
def mailboxServe (cmd : Nat) (args : List Nat) (s : State) : State :=
  let arg (i : Nat) : Nat := args.getD i 0
  match cmd with
  | 1 => mailboxEnd 1 [arg 0 ^^^ 0xFFFFFFFF] s
  | 2 => mailboxEnd 1 [s.fw.build % 2 ^ 32, s.fw.build / 2 ^ 32, s.fw.ctlVer] s
  | 3 =>
    if mramReadBad (arg 0) (arg 1) (arg 2) then mailboxEnd 3 [] s
    else mailboxEnd 1 [arg 1] { s with scratch := memWrite s.scratch (arg 2) (memRead s.mram (arg 0) (arg 1)) }
  | 4 => mailboxEnd 1 [] (if s.flag R.UPL_PTP_CFG_EN then servoTo 1 s else s)
  | _ => mailboxEnd 2 [] s

/-- The firmware ends the mailbox command, or fails it; not while a control core is halted (R512, R565). -/
def mailboxDone (fail : Bool) (s : State) : State :=
  match s.io.mailbox with
  | some (cmd, args) => if s.halted then s else if fail then mailboxEnd 4 [] s else mailboxServe cmd args s
  | none => s

/-! ### Time-outs (R558) -/

/-- An access that stalls on path `p` reaches the path's time-out: it ends with TIMEOUT. The debug port has none, and DMA its own. -/
def accessTimeout (p : Path) (s : State) : State :=
  match p, s.answerOf p with
  | .debug, _ | .dma, _ => s
  | _, some _ => s
  | _, none => (hawkForsake p s).answer p 5 0

/-! ### What waits for an answer (R435) -/

/-- A management request or a tagged read has the answer that it awaits. -/
def State.answered (s : State) : Bool :=
  s.io.reqs.any (fun q => q.waits && (s.answerOf q.path).isSome) || s.io.tags.any (fun x => (s.answerOf x.1).isSome)

/-- Management requests and tagged reads go on with the answers that have come. -/
def resume (s : State) : State :=
  let s1 := s.io.tags.foldl (fun t x => giveTag x t) s
  let n := s1.io.reqs.length
  mgmtRun .mge n (mgmtRun .fxt n s1)

end Sys2Proof.Machine
end

