-- ==== Sys2Proof/Machine/Compose.lean ====
section
/-! DEFINITION. The steps of the data path that run through several units: a line through Render, Seam and Skim; an emitted row, a row
in Stencil and an object record in Plumb, each with its uplink frames and history items; blocks of the Stipple engine; and what one
CLK_CORE cycle of an idle block does. -/

namespace Sys2Proof.Machine

/-! ### Lines, rows, objects and tiles (R146, R174, R217, R229, R246, R252, R324, R354) -/

/-- Render delivers the output line that the oldest input line of port `n` completes; Skim takes it from step 6 (R146, R174). -/
def lineDone (n : Nat) (s : State) : State :=
  match (s.port n).lines with
  | [] => s
  | l :: rest =>
    let o := (l.n : Int) - s.maxDelay n
    let s1 := renderLine n l (s.setPort n { s.port n with lines := rest })
    if (s.chan n).all (fun e => (s1.aligned e o).isSome) then
      s1.forAll (s.chan n) (fun e t => skimTap e (l.free.testBit (e - n)) o ((t.aligned e o).getD []) t)
    else s1

/-- A finished tile leaves Stencil (R246, R249): raw tiles go out at once, coded ones through the Stipple engine. -/
def tileOut (t : Tile) (s : State) : State :=
  if t.coded then tileSubmit t s
  else
    let img := t.image false t.data
    hstTap (s.tileItem t img) (upTile t.group s.now t.id img s)

/-- The tiles that engine `g` has finished leave it. -/
def tilesOut (g : Nat) (s : State) : State :=
  let ts := (s.stn g).tiles
  ts.foldl (fun t x => tileOut x t) (s.setStn g { s.stn g with tiles := [] })

/-- A ready row leaves Seam for Stencil, the uplink and the history tap (R212, R217, R259, R324, R354). -/
def rowEmit (g : Nat) (s : State) : State :=
  match seamEmit g (s.groupLoad g) s with
  | none => s
  | some (d, s1) =>
    let s2 := skimRowEmitted g d.n d.valid (plumbExpire g d.n d.time s1)
    tilesOut g (groupDrained g (hstTap (s2.rowItem g d) (upRow g d.readyAt d s2)))

/-- Stencil takes an emitted row (R229). -/
def rowStencil (g : Nat) (s : State) : State := tilesOut g (groupDrained g (commitClear g (tilesOut g (stencilRow g s))))

/-- A tracker, or the way past it, takes an object record (R252). -/
def recordNext (q : Nat) (s : State) : State :=
  match plumbNext q s with
  | none => s
  | some (r, s1) => commitClear r.group (hstTap (s1.objectItem r.group r.data) (upObject r.group r.start r.data s1))

/-- Copy-back of engine `e` ends (R153, R191). -/
def copyBackEnd (e : Nat) (s : State) : State := skimSwapDone e (copyBackDone e s)

/-- The history writer allocates; an allocation may cover the record that replay reads next (R356, R370). -/
def historyAllocate (s : State) : State := rpCovered s (hstAllocate s)

/-! ### Blocks of the Stipple engine (R405 to R408) -/

/-- A lane finishes a block (R405); pipeline blocks fail while the engine is taped off. -/
def stippleDone (u : StpUser) (err : MemErr) (s : State) : State :=
  match u with
  | .job j => stpBlockDone j err s
  | .pipeline => pipeFinish (if s.stpTaped then some 11 else none) s

/-- A parity error in lane or staging memory (R408): E1466, and the block ends with POISON. -/
def stippleParity (u : StpUser) (s : State) : State :=
  let s1 := (s.inc R.STP_PARITY).raise 1466
  match u with
  | .job j => stpStop j 12 s1
  | .pipeline => pipeFinish (some 12) s1

/-! ### Arrivals on a lane -/

/-- A lane in a test mode takes no part in its port or sub-port (R533). -/
def untested (l : Nat) (f : State → State) (s : State) : State := if s.tstMode l = 0 then f s else s

/-- Receiver adaptation of 2 ms ends with codes `eq` (R56, R64). -/
def adapted (n : Nat) (eq : RxEq) (s : State) : State := adaptationEnd n (storeEq n (s.blocksIn n 2000) eq s)

/-- A measurement window ends: the eye monitor shows it, and a lane that measures judges it (R56, R64). A search window follows the
settle time, in which the receiver adapts too. -/
def windowMeasured (n bad pe height width : Nat) (eq : RxEq) (s : State) : State :=
  let k := s.windowBlocks n + s.blocksIn n (if s.laneState n = 2 then 10 * (s.lane n).settle else 0)
  let s1 := storeEye n pe height width (storeEq n k eq s)
  if s1.laneState n = 2 ∧ (s1.lane n).phase = .measuring then judgeWindow n bad pe s1 else s1

/-- The SETTLE time ends and the lane measures (R56). -/
def settled (n : Nat) (s : State) : State :=
  if s.laneState n = 2 ∧ (s.lane n).phase = .settling then onLane n (fun l => { l with phase := .measuring }) s else s

/-- The 100 µs of RETRAIN blocks end (R55). -/
def burstEnd (n : Nat) (s : State) : State := onLane n (fun l => { l with burst := false }) s

/-- The deadline of the port's first open trigger entry comes (R91). -/
def trigEntryDue (n : Nat) (s : State) : State :=
  let ds := ((s.port n).trigs.filter (fun e => !e.expired)).map (·.deadline)
  match ds with
  | [] => s
  | d :: t => trigExpireDue n (s.atTime (t.foldl min d))

/-- A challenge key word is written by a path that may write key material (R109, R506). -/
def chalKeyPut (n i v : Nat) (p : Path) (s : State) : State :=
  if s.denied p true (0x1000000 + n * 0x10000 + 0x620 + 4 * i) then s else chalKeyWord n i v s

/-- An uplink lane in an UP sub-port has alignment-marker lock again (R309). -/
def amRegained (u : Nat) (s : State) : State :=
  if s.flag (R.UPL_LANE_STAT_IN_USE u) && !s.laneTaped u && s.subState (s.rd (R.UPL_LANE_STAT_SUBPORT u)) == 3 then
    s.wr (R.UPL_LANE_STAT_AM_LOCK u) 1
  else s

/-- A step of a load ends: Undercoat and a power request that waits for the load go on (R292, R483, R515). -/
def lathThen (f : State → State) (s : State) : State := pwrLathEnd (bootLath (f s))

/-! ### Retries, snapshots and messages -/

/-- The retry time of a port expires (R61, R72): a gang taped for lane loss tries again, unless another taping holds it. -/
def retryExpiry (n : Nat) (s : State) : State :=
  let b := s.base n
  let st := s.laneState b
  if st = 4 ∨ st = 5 then attempt n s
  else if st = 6 ∧ (s.lane b).lossTaped ∧ !s.byScope b ∧ !(s.unit b).shed ∧ s.portUntested n then attempt n s
  else s

/-- A PTP message arrives (R330, R331); a backward step acts as R95 says. -/
def ptpReceived (x : Nat) (hdr : PtpHdr) (m : PtpMsg) (s : State) : State :=
  let (back, s1) := ptpMessage x hdr m s
  s1.when back backwardStep

/-- A back-channel message completes: REFCLK_VSL is there (R103, R579). -/
def messageSent (n : Nat) (s : State) : State := bcSent n { s with pins := { s.pins with vslLost := false } }

/-- A frame whose source waits is accepted; a replay may go on (R324, R368). -/
def waitServed (x c : Nat) (s : State) : State := rpPump (waitAccept x c s)

/-- A frame has been sent; waiting frames may find room (R324, R326). -/
def frameSent (x : Nat) (s : State) : State := frameDone x s

/-! ### Time -/

/-- One CLK_CORE cycle in which nothing else happens: Chalk time and the remaining phase (R93, R94). -/
def idleCycle (s : State) : State :=
  if s.asleep then s else { s with chalk := s.chalk.tick s.freqAdj s.slewStep }

/-- The remaining phase reaches 0 (R94). -/
def slewComplete (s : State) : State :=
  if s.chalk.run then { s with chalk := s.chalk.slewOut s.freqAdj s.slewStep } else s

/-! ### When commands take effect -/

/-- The events of a command are collected, and what awaits an answer that has come goes on, events of its own following (R435). -/
def settleRounds : Nat → State → State
  | 0, s => settleEvents s
  | k + 1, s =>
    let t := settleEvents s
    if t.answered then settleRounds k (resume t) else t

/-- What follows the effect of every command. -/
def settle (s : State) : State := settleRounds 8 s

/-- What a command does to a block that is awake; asleep, only the always-on island answers (R513, R514). -/
def act (f : State → State) (s : State) : Result := .next (if s.asleep then s else settle (f s))

/-- What a command of the always-on island does, in P2 too; nothing in P3 or while POR_N is held low (R513, R514). -/
def actAon (f : State → State) (s : State) : Result :=
  .next (if s.power.off || s.pins.porLow then s else settle (f s))

end Sys2Proof.Machine
end

