-- ==== Sys2Proof/Machine/ExecAccess.lean ====
section
/-! DEFINITION. Meanings of the commands: register accesses, management paths and the mailbox. -/

namespace Sys2Proof.Machine

/-- SPI_WRITE (R561): A MGMT_SPI frame with command 0x02 writes a register. -/
def execSpiWrite (addr : Word) (data : Word) (s : State) : Result := actAon (plainPut addr.toNat data.toNat .spi) s

/-- SPI_READ (R561): A MGMT_SPI frame with command 0x0B reads a register. -/
def execSpiRead (addr : Word) (s : State) : Result := actAon (plainRead addr.toNat .spi) s

/-- SPI_TAGGED_WRITE (R561): A MGMT_SPI frame with command 0x82 writes a register under a session tag. -/
def execSpiTaggedWrite (addr : Word) (data : Word) (tag : List Byte) (s : State) : Result :=
  actAon (taggedWrite addr.toNat data.toNat tag .spi) s

/-- SPI_TAGGED_READ (R561): A MGMT_SPI frame with command 0x8B reads a register and returns a tag. -/
def execSpiTaggedRead (addr : Word) (s : State) : Result := actAon (taggedRead addr.toNat .spi) s

/-- SPI_UNKNOWN_CMD (R562): A MGMT_SPI frame with an unlisted command byte is ignored. -/
def execSpiUnknownCmd (s : State) : Result := actAon id s

/-- MGE_MGMT_REQ (R563): A MGMT_REQ frame on the management Ethernet port is served and answered with MGMT_RSP. -/
def execMgeMgmtReq (frame : List Byte) (bad : Bool) (s : State) : Result := act (mgeReceived ⟨frame, bad⟩) s

/-- MGE_LINK_UP (R571): The management Ethernet link comes up and GLB_MGE_CTRL.LINK reads 1. -/
def execMgeLinkUp (s : State) : Result := act (mgeLink true) s

/-- MGE_LINK_DOWN (R571): The management Ethernet link goes down and GLB_MGE_CTRL.LINK reads 0. -/
def execMgeLinkDown (s : State) : Result := act (mgeLink false) s

/-- SMB_SET_POINTER (R564): SMBus command 0x10 sets the address pointer. -/
def execSmbSetPointer (addr : Word) (s : State) : Result := act (smbPointer addr.toNat) s

/-- SMB_BLOCK_READ (R564): SMBus command 0x11 returns STATUS and DATA of a read at the pointer. -/
def execSmbBlockRead (s : State) : Result := act smbRead s

/-- SMB_BAD_COMMAND (R564): Any other SMBus command, or a PEC failure, is NACKed. -/
def execSmbBadCommand (s : State) : Result := act smbBad s

/-- MBX_PING (R565): Mailbox command PING returns ARG0 inverted. -/
def execMbxPing (arg : Word) (s : State) : Result := act (mailboxWrite 0x01 [arg.toNat]) s

/-- MBX_FW_INFO (R565): Mailbox command FW_INFO returns the running firmware's BUILD and SEC_VERSION. -/
def execMbxFwInfo (s : State) : Result := act (mailboxWrite 0x02 []) s

/-- MBX_MRAM_READ (R565): Mailbox command MRAM_READ copies MRAM into SCRATCH, or is refused BAD_ARG. -/
def execMbxMramRead (offset : Word) (length : Word) (dest : Word) (s : State) : Result :=
  act (mailboxWrite 0x03 [offset.toNat, length.toNat, dest.toNat]) s

/-- MBX_SERVO_RESET (R565): Mailbox command SERVO_RESET returns the PTP servo to ACQUIRING. -/
def execMbxServoReset (s : State) : Result := act (mailboxWrite 0x04 []) s

/-- MBX_BAD_CMD (R565): An unknown mailbox command gives RESULT BAD_CMD. -/
def execMbxBadCmd (cmd : BitVec 16) (s : State) : Result := act (mailboxWrite cmd.toNat []) s

/-- MBX_DONE (R565): The firmware ends a mailbox command, sets RESULT and raises interrupt source MBX. -/
def execMbxDone (fail : Bool) (s : State) : Result := act (mailboxDone fail) s

/-- ACCESS_TIMEOUT (R558): An access unanswered within its path time-out ends with TIMEOUT. -/
def execAccessTimeout (path : Path) (s : State) : Result := act (accessTimeout path) s

/-- REGISTER_WRITE (R9): A write to a register with no row of its own acts by its access code. -/
def execRegisterWrite (addr : Word) (v : Word) (path : Path) (s : State) : Result := act (regWrite addr.toNat v.toNat path) s

/-- FREEZING_LO_READ (R82): A read of a LO register of a LO/HI pair freezes the HI register until it is read. -/
def execFreezingLoRead (addr : Word) (path : Path) (s : State) : Result := act (regRead addr.toNat path) s

/-- FREEZING_HI_READ (R82): A read of the frozen HI register returns the frozen value and releases the freeze. -/
def execFreezingHiRead (addr : Word) (path : Path) (s : State) : Result := act (regRead addr.toNat path) s

end Sys2Proof.Machine
end

