-- ==== Sys2Proof/Machine/ExecBoot.lean ====
section
/-! DEFINITION. Meanings of the commands: resets, start-up and the boot journal. -/

namespace Sys2Proof.Machine

/-- POR_ASSERTED (R481): POR_N is asserted, resetting the whole device including the always-on island and releasing THERMTRIP_N. -/
def execPorAsserted (s : State) : Result := .next (settle (porAssert s))

/-- POR_RELEASE (R481): POR_N deasserts, BOOT_SEL is latched and Primer starts. -/
def execPorRelease (sel : Fin 8) (s : State) : Result := .next (settle (porRelease sel s))

/-- SYS_RESET (R481): SYS_RST_N resets everything except the always-on island and starts Primer. -/
def execSysReset (sel : Fin 8) (s : State) : Result := actAon (sysReset sel) s

/-- BOT_RESTART (R481): A write of BOT_CTRL.RESTART resets the device as SYS_RST_N. -/
def execBotRestart (s : State) : Result := act actReset s

/-- CORE_PLL_LOCK (R484): The core PLL locks, ending the CLOCK step; Chalk starts and Primer continues. -/
def execCorePllLock (badKeys : BitVec 16) (journalError : Bool) (s : State) : Result := act (coreLock badKeys.toNat journalError) s

/-- CLOCK_RETRY_TIMER (R484): The 100 ms retry of a failed CLOCK step expires and the lock is tried again. -/
def execClockRetryTimer (s : State) : Result := act clockRetry s

/-- SLOT_VERIFY_DONE (R486): A slot's directory and firmware have been read and verified, and the slot is used or refused. -/
def execSlotVerifyDone (slotA slotB : List Byte) (s : State) : Result := act (slotDone slotA slotB) s

/-- MEMORY_STEP_END (R483): Every channel has trained or the bound passed, and Undercoat records outcomes and loads the Lath. -/
def execMemoryStepEnd (s : State) : Result := act memoryEnd s

/-- PORTS_STEP_END (R483): Every enabled port is UP, ABSENT or TRAIN_FAIL, or the bound passes, and port outcomes are recorded. -/
def execPortsStepEnd (s : State) : Result := act portsEnd s

/-- UPLINK_STEP_END (R483): Every sub-port is UP or FAILED and uplink outcomes are recorded. -/
def execUplinkStepEnd (s : State) : Result := act uplinkEnd s

/-- UNDERCOAT_WATCHDOG (R489): Topcoat not entered within 10 s writes a WATCHDOG record, fails the slot and resets the device. -/
def execUndercoatWatchdog (s : State) : Result := act watchdogExpiry s

/-- HOSTBOOT (R490): A write of BOT_CTRL.HOSTBOOT checks the host-load buffer as a slot. -/
def execHostboot (s : State) : Result := act hostBoot s

/-- JOURNAL_FORGET (R492): A write of BOT_CTRL.FORGET sets every decision-table entry to 0. -/
def execJournalForget (s : State) : Result := act jnlForget s

/-- FORGET_UNIT (R496): A write of BOT_FORGET_UNIT sets one decision-table entry to 0. -/
def execForgetUnit (e : Fin 256) (s : State) : Result := act (forgetUnit e) s

/-- JNL_RECORD_READ (R496): A read of BOT_JNL_REC0 latches the journal record at BOT_JNL_IDX until REC7 is read. -/
def execJnlRecordRead (path : Path) (s : State) : Result := act (regRead 0x7800040 path) s

end Sys2Proof.Machine
end

