-- ==== Sys2Proof/Machine/ExecClocks.lean ====
section
/-! DEFINITION. Meanings of the commands: clocks, snapshots and Chalk time. -/

namespace Sys2Proof.Machine

/-- CLOCK_MONITOR_CHECK (R22): Every 100 µs the frequency monitor checks CLK_CORE, CLK_MEM, CLK_UP and CLK_MGMT against CLK_AON. -/
def execClockMonitorCheck (coreBad memBad upBad mgmtBad : Bool) (s : State) : Result :=
  act (clockCheck coreBad memBad upBad mgmtBad) s

/-- SNAPSHOT_REQ (R39): A write of 1 to GLB_SNAPSHOT.REQ requests a snapshot of every statistics counter. -/
def execSnapshotReq (s : State) : Result := act snapshotAsk s

/-- SNAPSHOT_PERIOD_EXPIRY (R40): The GLB_SNAP_CTRL.PERIOD interval expires and takes an automatic snapshot unless HOLD is 1. -/
def execSnapshotPeriodExpiry (s : State) : Result :=
  act (fun s => if s.rd R.GLB_SNAP_CTRL_PERIOD = 0 then s else snapshotPeriod s) s

/-- SNAPSHOT_COMPLETE (R39): The copies become readable, BUSY clears, SEQ increments and VALID is set. -/
def execSnapshotComplete (s : State) : Result := act snapshotDone s

/-- CHALK_STEP (R95): A write of CHK_CTRL.STEP loads CHK_SET into Chalk time unless a trigger generator is enabled. -/
def execChalkStep (s : State) : Result := act chalkStep s

/-- ADJ_PHASE_WRITE (R94): A write of CHK_ADJ_PHASE adds ns to the phase still to be slewed. -/
def execAdjPhaseWrite (v : Word) (s : State) : Result := act (addPhase (toSigned 32 v.toNat)) s

/-- SLEW_COMPLETE (R94): The remaining phase reaches 0 and SLEWING clears. -/
def execSlewComplete (s : State) : Result := act slewComplete s

/-- TG_ENABLE (R98): CHK_TG_CTRL.EN becoming 1 starts a group's trigger generator, skipping lines already too close. -/
def execTgEnable (g : Fin 24) (s : State) : Result := act (tgWrite g 1) s

/-- TG_DISABLE (R219): CHK_TG_CTRL.EN becoming 0 stops opening rows while triggered rows are still emitted. -/
def execTgDisable (g : Fin 24) (s : State) : Result := act (tgWrite g 0) s

/-- TG_CONFIG_WRITE (R129): A write to a trigger-generator RW register while EN = 1 is ignored and sets CHK_TG_STAT.WERR. -/
def execTgConfigWrite (g : Fin 24) (off : Fin 16) (v : Word) (s : State) : Result := act (tgConfig g off v.toNat) s

/-- TRIGGER_SEND (R98): At T(n) − LEAD the generator sends the TRIGGER for line n to every member port in UP. -/
def execTriggerSend (g : Fin 24) (s : State) : Result := act (triggerSend g) s

end Sys2Proof.Machine
end

