-- ==== Sys2Proof/Machine/ExecFaults.lean ====
section
/-! DEFINITION. Meanings of the commands: the fault collector, ALIVE, temperature and supplies. -/

namespace Sys2Proof.Machine

/-- FAULT_RAISE (R458): A source raises its event and the collector records and acts on it. -/
def execFaultRaise (e : Fin 1536) (s : State) : Result := act (·.raise e) s

/-- QUIET_PERIOD_EXPIRY (R462): A taped unit's quiet period expires and it returns to service, RECOV incrementing. -/
def execQuietPeriodExpiry (unit : Fin 65536) (scope : Bool) (s : State) : Result := act (quietExpiry unit scope) s

/-- FLT_UNIT_TAPE (R463): A write of FLT_UNIT.TAPE tapes off the unit as at S2 with EVENT 0x7FF. -/
def execFltUnitTape (unit : Fin 65536) (s : State) : Result := act (unitTapeWrite unit) s

/-- FLT_UNIT_RELEASE (R463): A write of FLT_UNIT.RELEASE ends the unit's TAPED or HELD tapings and clears RECOV. -/
def execFltUnitRelease (unit : Fin 65536) (s : State) : Result := act (unitRelease unit) s

/-- FLT_ACK (R460): A write of 1 to a snag's FLT_GRPi bit or LATCHED acknowledges it. -/
def execFltAck (e : Fin 1536) (s : State) : Result := act (ack e) s

/-- FLT_ACK_ALL (R460): A write of FLT_CTRL.ACK_ALL acknowledges every snag. -/
def execFltAckAll (s : State) : Result := act ackAll s

/-- FLT_SEV_WRITE (R460): A write of FLT_SEVi changes severities from the next occurrence; E1505 stays at S4. -/
def execFltSevWrite (k : Fin 192) (v : Word) (s : State) : Result := act (sevWrite k v.toNat) s

/-- UNIT_RESET_DONE (R464): A unit reset completes and the SETTLE of its dependency windows runs. -/
def execUnitResetDone (unit : Fin 65536) (s : State) : Result := act (unitResetDone unit) s

/-- SUPPRESSION_WINDOW_END (R465): A dependency window ends and a still-LIVE level source makes its occurrence. -/
def execSuppressionWindowEnd (up down : Fin 65536) (s : State) : Result := act (windowEnd up down) s

/-- COLLECTOR_PARITY_ERROR (R456): A parity error in the fault collector's own state raises E1524. -/
def execCollectorParityError (s : State) : Result := act (·.raise 1524) s

/-- ALIVE_TOGGLE (R468): Every HALF × 10 µs ALIVE toggles unless it is stopped. -/
def execAliveToggle (s : State) : Result := act aliveToggle s

/-- HEARTBEAT_LOSS (R468): 1 ms without the collector heartbeat stops ALIVE and the always-on island journals the fault. -/
def execHeartbeatLoss (s : State) : Result := act heartbeatLoss s

/-- THERMAL_SAMPLE (R469): Every 100 µs the sensors are sampled and shedding, critical and sensor conditions are judged. -/
def execThermalSample (readings : List (Option (BitVec 13))) (s : State) : Result :=
  act (thermalSample (readings.map (·.map (·.toNat)))) s

/-- SHED_STEP_TIMER (R469): A STEP interval expires and the next port is shed, or a shed port returns. -/
def execShedStepTimer (s : State) : Result := act shedTimer s

/-- SHED_HOLD_EXPIRY (R470): The hottest stays below 130 °C for HOLD s and shed ports start to return. -/
def execShedHoldExpiry (s : State) : Result := act shedHold s

/-- THERMTRIP (R471): The junction reaches 155 °C and the always-on comparator asserts THERMTRIP_N and drops RAIL_EN. -/
def execThermtrip (s : State) : Result := actAon thermtrip s

/-- SUPPLY_OUT_OF_WINDOW (R575): A core rail outside ±5 % for 10 µs makes E1512 LIVE. -/
def execSupplyOutOfWindow (s : State) : Result := act (supplyMonitor true) s

/-- SUPPLY_IN_WINDOW (R575): A rail back inside its window for 10 µs clears E1512. -/
def execSupplyInWindow (s : State) : Result := act (supplyMonitor false) s

/-- CORE_UNDERVOLTAGE (R575): VDD_CORE below 0.65 V for 1 µs acts as SYS_RST_N. -/
def execCoreUndervoltage (s : State) : Result := act actReset s

/-- AON_UNDERVOLTAGE (R575): An always-on rail below its limit acts as POR_N. -/
def execAonUndervoltage (s : State) : Result := .next (settle (startUp true s))

/-- REFCLK_UP_LOSS (R579): A missing REFCLK_UP raises E1522 and takes every sub-port DOWN. -/
def execRefclkUpLoss (s : State) : Result := act refclkUpLoss s

/-- REFCLK_VSL_LOSS (R579): A missing REFCLK_VSL stops every back channel. -/
def execRefclkVslLoss (s : State) : Result := act refclkVslLoss s

end Sys2Proof.Machine
end

