-- ==== Sys2Proof/Machine/ExecLanes.lean ====
section
/-! DEFINITION. Meanings of the commands: sensor lanes: lock, training, retries and block reception. -/

namespace Sys2Proof.Machine

/-- BLOCK_LOCK_ACQUIRED (R53): A lane receiver finds 64 consecutive valid sync headers and acquires block lock, taking the port from
LOCKING to TRAINING. -/
def execBlockLockAcquired (n : Fin 192) (s : State) : Result := act (untested n (lockFound n)) s

/-- BLOCK_LOCK_LOST (R53): A lane loses block lock after 16 invalid headers in 64 blocks, and the port changes state under R63. -/
def execBlockLockLost (n : Sensed) (s : State) : Result := act (untested n.lane (lockLost n.lane n.energy)) s

/-- LOCK_TIMER_EXPIRY (R61): A port without block lock 50 ms into its attempt enters ABSENT and raises its lock event. -/
def execLockTimerExpiry (n : Sensed) (s : State) : Result := act (lockTimeout n.lane n.energy) s

/-- TRAIN_BUDGET_EXPIRY (R60): An attempt that has not reached UP within 500 ms of first entering TRAINING is judged at the expiry.
-/
def execTrainBudgetExpiry (n : Fin 192) (s : State) : Result := act (budgetExpiry n) s

/-- ADAPTATION_END (R56): The 2 ms receiver adaptation after block lock ends and training measures the first window. -/
def execAdaptationEnd (n : Fin 192) (eq : RxEq) (s : State) : Result := act (adapted n eq) s

/-- MEASURE_WINDOW_END (R56): A 671.09 µs measurement window ends and the training search judges convergence and picks its next
move. -/
def execMeasureWindowEnd (n : Fin 192) (badHeaders pseudoErrors height width : Nat) (eq : RxEq) (s : State) : Result :=
  act (windowMeasured n badHeaders pseudoErrors height width eq) s

/-- SETTLE_EXPIRY (R56): The SETTLE time after a tap change expires and the device starts the next measurement. -/
def execSettleExpiry (n : Fin 192) (s : State) : Result := act (settled n) s

/-- TAPREQ_TIMEOUT (R58): A tap request unanswered for 2 ms is resent with the same SEQ and VSP_TAP_TMO increments. -/
def execTapreqTimeout (n : Fin 192) (s : State) : Result := act (tapTimeout n) s

/-- LINKUP_TIMEOUT (R59): UP not reached within 1 ms of the first LINK_UP restarts training. -/
def execLinkupTimeout (n : Fin 192) (s : State) : Result := act (linkUpTimeout n) s

/-- PORT_UP (R59): After 64 consecutive non-TRAIN blocks, with the gang aligned, the port enters UP and starts Chalk sync and
triggers. -/
def execPortUp (n : Fin 192) (s : State) : Result := act (untested n (laneClear n)) s

/-- RETRY_TIMER_EXPIRY (R61): The retry time of an ABSENT, TRAIN_FAIL or lane-taped port expires and a new attempt starts in
LOCKING. -/
def execRetryTimerExpiry (n : Fin 192) (s : State) : Result := act (retryExpiry n) s

/-- LANE_RETRAIN (R74): A write of VSP_LANE_CTRL.RETRAIN in UP sends RETRAIN for 100 µs and returns the port to TRAINING. -/
def execLaneRetrain (n : Fin 192) (s : State) : Result := act (laneRetrain n) s

/-- LANE_RETRY (R74): A write of VSP_LANE_CTRL.RETRY in ABSENT or TRAIN_FAIL starts an attempt at once with k = 0. -/
def execLaneRetry (n : Fin 192) (s : State) : Result := act (laneRetry n) s

/-- RETRAIN_BURST_END (R55): The 100 µs of RETRAIN blocks on the back channel ends. -/
def execRetrainBurstEnd (n : Fin 192) (s : State) : Result := act (burstEnd n) s

/-- FILLER_RECEIVED (R66): An upstream FILLER block reaches the elastic buffer, which may delete or insert a FILLER, before the port
discards it. -/
def execFillerReceived (n : Fin 192) (fill : Filler) (s : State) : Result :=
  act (untested n (rxBlock n fill.block fill.fill 0)) s

/-- TRAIN_RECEIVED (R49): A TRAIN block arrives carrying a page and the tap-response fields. -/
def execTrainReceived (n : Fin 192) (block : Block) (fill : Fin 65) (s : State) : Result :=
  act (untested n (fun t => rxBlock n block fill 0 t)) s

/-- ALIGN_RECEIVED (R69): A gang ALIGN marker arrives on a lane with its MARKER count and BIP8. -/
def execAlignReceived (n : Fin 192) (block : Block) (missed : Bool) (skew : Nat) (s : State) : Result :=
  act (untested n (fun t => if missed then alignMissing n t else rxBlock n block (t.lane n).fill skew t)) s

/-- RESERVED_BLOCK_RECEIVED (R48): A reserved control block type is counted in VSP_BLK_ERR, discarded, and marks any packet in
progress bad. -/
def execReservedBlockReceived (n : Fin 192) (block : Block) (s : State) : Result :=
  act (untested n (fun t => rxBlock n block (t.lane n).fill 0 t)) s

/-- DUAL_CLOCK_QUEUE_OVERFLOW (R22): A per-port dual-clock queue overflows; the port reports it as loss of lock and discards the
line in progress. -/
def execDualClockQueueOverflow (n : Fin 192) (s : State) : Result := act (dualOverflow n) s

end Sys2Proof.Machine
end

