-- ==== Sys2Proof/Machine/ExecLath.lean ====
section
/-! DEFINITION. Meanings of the commands: The Lath load and commits. -/

namespace Sys2Proof.Machine

/-- LATH_LOAD_GO (R292): A write of GLB_LATH_CTRL.GO starts a Lath load in FETCH, or is refused. -/
def execLathLoadGo (groups : Bool) (s : State) : Result := act (lathThen (lathControl (2 * b2n groups + 1))) s

/-- LATH_FETCH_DONE (R292): The image has been read and the load enters VERIFY. -/
def execLathFetchDone (readFail : Bool) (s : State) : Result := act (lathThen (lathFetchDone readFail)) s

/-- LATH_VERIFY_DONE (R292): Signatures verify and the body decrypts, and the load enters CHECK. -/
def execLathVerifyDone (s : State) : Result := act (lathThen lathVerifyDone) s

/-- LATH_CHECK_DONE (R290): Every check passes, the affected generators are disabled and the load enters DRAIN. -/
def execLathCheckDone (s : State) : Result := act (lathThen lathCheckDone) s

/-- LATH_DRAIN_DONE (R293): The affected groups' last open rows are emitted and objects closed, and the load enters APPLY. -/
def execLathDrainDone (s : State) : Result := act (lathThen lathDrainDone) s

/-- LATH_APPLY_DONE (R293): APPLY has written registers, tables and lane states and the load ends DONE. -/
def execLathApplyDone (s : State) : Result := act (lathThen lathApplyDone) s

/-- LATH_ADDR_WRITE (R306): A write of GLB_LATH_ADDR or GLB_LATH_LEN during FETCH is ignored and sets REFUSED. -/
def execLathAddrWrite (which : Fin 3) (v : Word) (s : State) : Result :=
  act (lathAddrWrite (if which = 0 then R.GLB_LATH_ADDR_LO else if which = 1 then R.GLB_LATH_ADDR_HI_ADDR else R.GLB_LATH_LEN) v.toNat) s

/-- COMMIT_REQUEST (R297): A write of GLB_COMMIT captures the shadow values of the masked groups into pending sets, or is refused.
-/
def execCommitRequest (v : Word) (s : State) : Result := act (commitWrite v.toNat) s

end Sys2Proof.Machine
end

