-- ==== Sys2Proof/Machine/ExecMemory.lean ====
section
/-! DEFINITION. Meanings of the commands: device memory, history, replay and Stipple. -/

namespace Sys2Proof.Machine

/-- MEM_CHANNEL_TRAINED (R346): A channel finishes training and enters UP, or FAILED and taped off. -/
def execMemChannelTrained (m : Fin 8) (cause : Fin 8) (s : State) : Result :=
  act (fun s => if s.rd (R.MEM_CH_STAT_STATE m) = 1 then chanTrained m cause s else s) s

/-- CE_WINDOW_END (R350): A one-second window ends and correctable errors above CE_THR raise the correctable event. -/
def execCeWindowEnd (m : Fin 8) (s : State) : Result := act (ceWindow m) s

/-- PATROL_SCRUB_READ (R351): The patrol scrub reads a line and corrects it or reports an uncorrectable line. -/
def execPatrolScrubRead (addr : BitVec 48) (err : MemErr) (s : State) : Result := act (scrubRead addr.toNat err) s

/-- MEM_ALERT (R371): A DDR5 component reports an error through ALERT_N. -/
def execMemAlert (m : Fin 8) (s : State) : Result := act (memAlert m) s

/-- MEM_TEMP_REPORT (R371): A component reports the doubled refresh rate. -/
def execMemTempReport (m : Fin 8) (hot : Bool) (s : State) : Result := act (memTemp m hot) s

/-- HISTORY_ITEM (R354): A selected row, tile or object record reaches the history writer's staging. -/
def execHistoryItem (s : State) : Result := act hstArrive s

/-- HISTORY_ALLOCATE (R356): The writer allocates a record at the head position and writes it. -/
def execHistoryAllocate (s : State) : Result := act historyAllocate s

/-- OBJECT_BATCH_TIMEOUT (R354): 50 µs after its first record an object batch becomes one record. -/
def execObjectBatchTimeout (g : Fin 24) (s : State) : Result := act (batchClose g) s

/-- HISTORY_ITEM_DEADLINE (R359): An item not recorded within 400 µs is skipped with GAP and HST_G_SKIPPED. -/
def execHistoryItemDeadline (g : Fin 24) (s : State) : Result := act (hstDeadline g) s

/-- RING_RESET (R361): A write of HST_CTRL.RESET resets head, RSEQ, index and marks, and ends replays. -/
def execRingReset (s : State) : Result := act ringReset s

/-- HISTORY_EN_WRITE (R360): A write of HST_CTRL.EN stops or resumes the history writer. -/
def execHistoryEnWrite (en : Bool) (s : State) : Result := act (hstEnable en) s

/-- MARK_SET_NOW (R362): HST_MARK_CTRL op SET_NOW binds a slot to the next record allocated. -/
def execMarkSetNow (slot : Fin 8192) (s : State) : Result := act (markSetNow slot) s

/-- MARK_SET_TIME (R362): HST_MARK_CTRL op SET_TIME binds a slot to the first intact record at or after HST_MARK_TIME. -/
def execMarkSetTime (slot : Fin 8192) (s : State) : Result := act (markSetTime slot) s

/-- MARK_CLEAR (R362): HST_MARK_CTRL op CLEAR frees a slot and ends its pin. -/
def execMarkClear (slot : Fin 8192) (s : State) : Result := act (markClear slot) s

/-- MARK_SELECT (R362): HST_MARK_CTRL op SELECT loads a slot's state into the mark status registers. -/
def execMarkSelect (slot : Fin 8192) (s : State) : Result := act (markSelect slot) s

/-- MARK_BAD_OP (R362): A reserved HST_MARK_CTRL op gives RESULT BAD_OP. -/
def execMarkBadOp (op : Fin 3) (slot : Fin 8192) (s : State) : Result := act (markWrite (2 ^ 29 * (5 + op) + slot)) s

/-- REPLAY_GO (R366): A write of HST_RP_CTRL.GO queues a replay request, or is refused when 4 are queued. -/
def execReplayGo (s : State) : Result := act rpGo s

/-- REPLAY_ABORT (R370): A write of HST_RP_CTRL.ABORT ends the replay in progress with ABORTED. -/
def execReplayAbort (s : State) : Result := act rpAbort s

/-- REPLAY_WINDOW_START (R367): The engine starts a WINDOW request from the time index. -/
def execReplayWindowStart (s : State) : Result := act rpWindowStart s

/-- REPLAY_MARK_START (R367): The engine starts a MARK request at the mark's record. -/
def execReplayMarkStart (s : State) : Result := act rpMarkStart s

/-- REPLAY_RECORD_READ (R367): The engine reads a whole record, checks it and sends it if selected. -/
def execReplayRecordRead (err : MemErr) (s : State) : Result := act (rpRead err) s

/-- REPLAY_END_TIME (R367): A replay following the writer ends when Chalk time reaches END + LAG. -/
def execReplayEndTime (s : State) : Result := act rpEndTime s

/-- STP_JOB_GO (R400): A write of STP_JOB_CTRL.GO queues a Stipple job, or is refused. -/
def execStpJobGo (j : Fin 4) (s : State) : Result := act (stpGo j) s

/-- STP_JOB_ABORT (R403): A write of STP_JOB_CTRL.ABORT ends the port's running job with ABORTED. -/
def execStpJobAbort (j : Fin 4) (s : State) : Result := act (stpStop j 13) s

/-- STP_COMPRESS_JOB (R401): A COMPRESS job starts after its refusal checks and codes one block. -/
def execStpCompressJob (j : Fin 4) (s : State) : Result := act (stpStart j false) s

/-- STP_DECOMPRESS_JOB (R401): A DECOMPRESS job starts after its refusal checks and decodes a chain of blocks. -/
def execStpDecompressJob (j : Fin 4) (s : State) : Result := act (stpStart j true) s

/-- STIPPLE_BLOCK_DONE (R405): A lane finishes coding or decoding a block and the job or pipeline requester takes its status. -/
def execStippleBlockDone (u : StpUser) (err : MemErr) (s : State) : Result := act (stippleDone u err) s

/-- STP_ACCESS_TIMEOUT (R402): A job memory access not answered within 100 µs ends the job with POISON. -/
def execStpAccessTimeout (j : Fin 4) (s : State) : Result := act (stpStop j 12) s

/-- STIPPLE_PARITY_ERROR (R408): A parity error in lane or staging memory ends the block with POISON and raises E1466. -/
def execStippleParityError (u : StpUser) (s : State) : Result := act (stippleParity u) s

end Sys2Proof.Machine
end

