-- ==== Sys2Proof/Machine/ExecPackets.lean ====
section
/-! DEFINITION. Meanings of the commands: line packets, trigger entries and the back channel. -/

namespace Sys2Proof.Machine

/-- LINE_HEADER_RECEIVED (R89): The 32-byte header of a line packet is complete and passes checks 1 to 9, or is dropped at the first
failing check. -/
def execLineHeaderReceived (n : Fin 192) (blocks : List (Fin 4 × Block)) (s : State) : Result :=
  act (untested n (rxBlocks n blocks)) s

/-- LINE_PAYLOAD_END (R89): A line packet ends and check 10 gives the CRC-32C verdict, which Seam uses to mark the contribution
valid. -/
def execLinePayloadEnd (n : Fin 192) (rest : List (Fin 4 × Block)) (last : Fin 4 × Block) (s : State) : Result :=
  act (untested n (fun t => rxBlocks n (rest ++ [last]) t)) s

/-- TRIGGER_ENTRY_EXPIRY (R91): A trigger entry reaches its deadline and each unanswered stream counts in VSP_TRIG_TMO and raises
the timeout event. -/
def execTriggerEntryExpiry (n : Fin 192) (s : State) : Result := act (trigEntryDue n) s

/-- TRIGGER_RELEASE (R98): A TRIGGER held back by the 16-trigger rule is released when an earlier trigger's exposure time passes. -/
def execTriggerRelease (n : Fin 192) (s : State) : Result := act (trigRelease n) s

/-- BC_MESSAGE_SENT (R103): A back-channel message completes and the port picks the highest-priority pending message. -/
def execBcMessageSent (n : Fin 192) (s : State) : Result := act (messageSent n) s

/-- BAD_MESSAGE_RECEIVED (R101): A message broken in USEQ, framing, length or CRC, or of a reserved type, is discarded and counted
in VSP_MSG_ERR. -/
def execBadMessageReceived (n : Fin 192) (units : List Block) (s : State) : Result :=
  act (untested n (fun t => units.foldl (fun t w => rxBlock n w (t.lane n).fill 0 t) t)) s

/-- SYNC_EXCHANGE_TIMER (R104): The sync interval expires and the port sends a SYNC_REQ stamped T1. -/
def execSyncExchangeTimer (n : Fin 192) (s : State) : Result := act (syncStart n) s

/-- SYNC_RSP_RECEIVED (R105): A SYNC_RSP completes an exchange, which is judged against the DELAY history and may change SYNCED. -/
def execSyncRspReceived (n : Fin 192) (seq : Byte) (t2 t3 : BitVec 64) (s : State) : Result :=
  act (msgWhole n 17 (fun t => syncRsp n seq.toNat t2.toNat t3.toNat t.now t)) s

/-- SYNC_TIMEOUT (R105): A SYNC_RSP not received within 100 µs of T1 counts in VSP_SYNC_TMO; the eighth in a row raises the timeout
event. -/
def execSyncTimeout (n : Fin 192) (s : State) : Result := act (syncTimeout n) s

/-- HEAD_CMD_GO (R106): A write of VSP_CMD_CTRL.GO sends a HEAD_CMD or is refused. -/
def execHeadCmdGo (n : Fin 192) (s : State) : Result := act (cmdGo n) s

/-- HEAD_RSP_RECEIVED (R106): A HEAD_RSP with the outstanding TAG ends the command DONE and fills VSP_RSP_BUF. -/
def execHeadRspReceived (n : Fin 192) (tag : BitVec 16) (data : List Byte) (s : State) : Result :=
  act (msgWhole n (2 + data.length) (headRsp n tag.toNat data)) s

/-- HEAD_CMD_TIMEOUT (R106): No response within VSP_CMD_CFG.TMO ends the command with STATUS TIMEOUT. -/
def execHeadCmdTimeout (n : Fin 192) (s : State) : Result := act (cmdTimeout n) s

/-- HEAD_EVT_RECEIVED (R107): A HEAD_EVT message arrives and, with EVT_EN = 1, posts a Hawk item. -/
def execHeadEvtReceived (n : Fin 192) (data : List Byte) (s : State) : Result := act (msgWhole n data.length (headEvt n data)) s

/-- CHAL_START (R108): A write of VSP_CHAL_CTRL.START, or entry to UP with AUTO, starts an identity challenge. -/
def execChalStart (n : Fin 192) (s : State) : Result := act (chalStart n) s

/-- CHAL_RSP_RECEIVED (R108): A CHAL_RSP gives PASS or FAIL by comparing its MAC. -/
def execChalRspReceived (n : Fin 192) (mac : List Byte) (s : State) : Result := act (msgWhole n mac.length (chalRsp n mac)) s

/-- CHAL_TIMEOUT (R108): No challenge answer within 50 ms gives TIMEOUT and raises the range event. -/
def execChalTimeout (n : Fin 192) (s : State) : Result := act (chalTimeout n) s

/-- CHAL_KEY_WRITE (R109): A write of VSP_CHAL_KEYi loads challenge key bytes if the access path may write key material. -/
def execChalKeyWrite (n : Fin 192) (k : Fin 8) (v : Word) (path : Path) (s : State) : Result := act (chalKeyPut n k v.toNat path) s

end Sys2Proof.Machine
end

