-- ==== Sys2Proof/Machine/HawkMove.lean ====
section
/-! DEFINITION. Moves of items inside a Hawk queue, through its slots in device memory (R430, R431, R437, R440). -/

namespace Sys2Proof.Machine

/-- Device address of slot `k` of the middle (R430). -/
def HawkQ.slotAddr (h : HawkQ) (k : Nat) : Nat := h.base + 320 * k

/-- An item is stored in slot `k` (R430). The spec does not lay the slot out: its 320 bytes are free values (log 97). -/
def slotWrite (q k : Nat) (s : State) : State :=
  let (bs, s1) := s.drawBytes 320
  dramWrite 2 ((s.hq q).slotAddr k) bs s1

/-- Item `i` is read from slot `k`: a poisoned burst makes words of it known to be bad, and which words is a free value, since the spec
does not say where in the slot they lie (R437, log 97). -/
def slotRead (q k : Nat) (i : HawkItem) (s : State) : HawkItem × State :=
  let (_, poison, s1) := dramRead 2 ((s.hq q).slotAddr k) 320 .none s
  if poison then
    let (m, s2) := s1.draw (2 ^ i.words.length)
    ({ i with bad := i.bad ||| m }, s2)
  else (i, s1)

/-- One autonomous move inside the queue (R430, R431). -/
def hawkMove (q : Nat) (s : State) : State :=
  let h := s.hq q
  match h.move with
  | none => s
  | some (i, some k) => hawkServe q (slotWrite q k ((s.setHq q (h.toMiddle k i)).inc (R.HWK_Q_SPILLED q)))
  | some (i, none) =>
    let (i1, s1) := match h.slotOf i with
      | some k => slotRead q k i s
      | none => (i, s)
    hawkServe q (s1.setHq q (h.toHead i1))

end Sys2Proof.Machine
end

