-- ==== Sys2Proof/Machine/ExecQueues.lean ====
section
/-! DEFINITION. Meanings of the commands: DMA channels, Hawk queues and CVUs. -/

namespace Sys2Proof.Machine

/-- DMA_START (R418): A write of DMA_CH_CTRL.START starts a chain from DMA_CH_NEXT, or is refused. -/
def execDmaStart (c : Fin 32) (s : State) : Result := act (dmaStart c) s

/-- DMA_ABORT (R418): A write of DMA_CH_CTRL.ABORT halts a running channel after its current access. -/
def execDmaAbort (c : Fin 32) (s : State) : Result := act (dmaAbort c) s

/-- DMA_ACK (R418): A write of DMA_CH_CTRL.ACK returns a halted channel to IDLE. -/
def execDmaAck (c : Fin 32) (s : State) : Result := act (dmaAck c) s

/-- DMA_CONFIG_WRITE (R418): A write to DMA_CH_NEXT or DMA_CH_HOP_LIMIT in RUN is ignored and sets REFUSED. -/
def execDmaConfigWrite (c : Fin 32) (off : Fin 3) (v : Word) (s : State) : Result := act (dmaConfig c off v.toNat) s

/-- DMA_DESC_FETCHED (R420): A fetched descriptor is checked before any data access. -/
def execDmaDescFetched (c : Fin 32) (err : MemErr) (s : State) : Result := act (dmaFetch c err) s

/-- DMA_BLOCK_MOVED (R421): A 64-byte block or register word is read and written. -/
def execDmaBlockMoved (c : Fin 32) (err : MemErr) (s : State) : Result := act (dmaMove c err) s

/-- DMA_READBACK_DONE (R422): The read-back after the last write completes the descriptor and the chain continues or ends. -/
def execDmaReadbackDone (c : Fin 32) (err : MemErr) (s : State) : Result := act (dmaBack c err) s

/-- DMA_ACCESS_FAIL (R421): A poisoned read, access error or security refusal halts the channel. -/
def execDmaAccessFail (c : Fin 32) (err : MemErr) (s : State) : Result := act (dmaFail c err) s

/-- DMA_ACCESS_TIMEOUT (R421): An access not answered within 100 µs halts the channel with TIMEOUT. -/
def execDmaAccessTimeout (c : Fin 32) (hang : DmaHang) (s : State) : Result := act (dmaTimeout c hang) s

/-- HAWK_WHDR_WRITE (R432): A write of HWK_Qq_WHDR opens an item in the tail, or is refused. -/
def execHawkWhdrWrite (q : Fin 64) (v : Word) (s : State) : Result := act (hawkWhdr q v.toNat) s

/-- HAWK_WDATA_WRITE (R432): A write of HWK_Qq_WDATA adds a word to the open item; the last word completes it. -/
def execHawkWdataWrite (q : Fin 64) (v : Word) (s : State) : Result := act (hawkWdata q v.toNat) s

/-- HAWK_ITEM_MOVE (R430): A complete item moves from tail to head or middle when room is free. -/
def execHawkItemMove (q : Fin 64) (s : State) : Result := act (hawkMove q) s

/-- HAWK_RHDR_READ (R434): A read of HWK_Qq_RHDR makes the first visible item current, or stalls. -/
def execHawkRhdrRead (q : Fin 64) (path : Path) (s : State) : Result := act (hawkRhdr q path) s

/-- HAWK_RHDR_STALL_END (R435): A stalled RHDR read ends when an item becomes visible or RD_TMO passes. -/
def execHawkRhdrStallEnd (q : Fin 64) (s : State) : Result := act (hawkStallEnd q) s

/-- HAWK_RDATA_READ (R434): A read of HWK_Qq_RDATA returns the next word of the current item. -/
def execHawkRdataRead (q : Fin 64) (path : Path) (flips : List (Fin 39)) (s : State) : Result :=
  act (hawkRdata q path (flips.map (·.val))) s

/-- HAWK_DROP_CUR (R434): A write of HWK_Qq_CTRL.DROP_CUR discards the current item. -/
def execHawkDropCur (q : Fin 64) (s : State) : Result := act (hawkDropCur q) s

/-- HAWK_FLUSH (R439): A write of HWK_Qq_CTRL.FLUSH forms or grows the flush set. -/
def execHawkFlush (q : Fin 64) (s : State) : Result := act (hawkFlush q) s

/-- HAWK_FLUSH_DONE (R439): Every item of the flush set is complete and the set is discarded. -/
def execHawkFlushDone (q : Fin 64) (s : State) : Result := act (hawkFlushEnd q) s

/-- HAWK_FLUSH_ITEM_TIMEOUT (R439): A software item of the flush set not completed within 1 ms is discarded. -/
def execHawkFlushItemTimeout (q : Fin 64) (s : State) : Result := act (hawkFlushTimeout q) s

/-- HAWK_ECC_WRITE (R438): A write of HWK_Qq_CFG.ECC changes the protection mode, or is ignored with CFG_ERR. -/
def execHawkEccWrite (q : Fin 64) (ecc : Bool) (s : State) : Result := act (hawkEcc q ecc) s

/-- CVU_CFG_WRITE (R448): A write of CVU_CFG selects the algorithm and loads V with INIT. -/
def execCvuCfgWrite (c : Fin 16) (v : Word) (s : State) : Result := act (cvuCfg c v.toNat) s

/-- CVU_INIT (R448): A write of CVU_CTRL.INIT loads V with INIT. -/
def execCvuInit (c : Fin 16) (s : State) : Result := act (cvuInit c) s

/-- CVU_FEED8 (R449): A write of CVU_FEED8 feeds one byte into V. -/
def execCvuFeed8 (c : Fin 16) (v : Word) (s : State) : Result := act (cvuFeed c 1 v.toNat) s

/-- CVU_FEED16 (R449): A write of CVU_FEED16 feeds two bytes in BSWAP order. -/
def execCvuFeed16 (c : Fin 16) (v : Word) (s : State) : Result := act (cvuFeed c 2 v.toNat) s

/-- CVU_FEED32 (R449): A write of CVU_FEED32 feeds four bytes in BSWAP order. -/
def execCvuFeed32 (c : Fin 16) (v : Word) (s : State) : Result := act (cvuFeed c 4 v.toNat) s

/-- CVU_VALUE_WRITE (R449): A write of CVU_VALUE replaces V after earlier feeds. -/
def execCvuValueWrite (c : Fin 16) (v : Word) (s : State) : Result := act (cvuValue c v.toNat) s

/-- CVU_ALIVE_IN (R450): A write of CVU_ALIVE_IN delivers an alive value judged START, OK, REPEAT or GAP. -/
def execCvuAliveIn (c : Fin 16) (v : Word) (s : State) : Result := act (cvuAlive c v.toNat) s

/-- CVU_ALIVE_RESET (R450): A write of CVU_ALIVE_CFG.RESET restarts the alive check. -/
def execCvuAliveReset (c : Fin 16) (s : State) : Result := act (cvuAliveReset c) s

end Sys2Proof.Machine
end

