-- ==== Sys2Proof/Machine/ExecRender.lean ====
section
/-! DEFINITION. Meanings of the commands: Render, Skim and checkpoints. -/

namespace Sys2Proof.Machine

/-- RENDER_LINE_DONE (R146): Render delivers the last corrected sample of an output line to Seam with its line number, validity and
EPOCH. -/
def execRenderLineDone (n : Fin 192) (s : State) : Result := act (lineDone n) s

/-- BANK_SWAP_ARM (R151): A write of RND_BANK_CTRL.SWAP starts validation of the shadow bank, or is refused with WERR. -/
def execBankSwapArm (n : Fin 192) (s : State) : Result := act (swapArm n) s

/-- BANK_VALIDATION_DONE (R151): Validation ends and sets ARMED or reports TBL_ERR. -/
def execBankValidationDone (n : Fin 192) (s : State) : Result := act (validationDone n) s

/-- BANK_DISARM (R151): A write of RND_BANK_CTRL.DISARM clears an armed, unscheduled swap. -/
def execBankDisarm (n : Fin 192) (s : State) : Result := act (disarm n) s

/-- COPY_BACK_DONE (R153): Copy-back ends, SCHEDULED and COPYING clear and the shadow half becomes writable. -/
def execCopyBackDone (n : Fin 192) (s : State) : Result := act (copyBackEnd n) s

/-- TABLE_WINDOW_WRITE (R154): A write into a Render table window reaches the shadow bank, or is ignored with WERR. -/
def execTableWindowWrite (n : Fin 192) (off : Fin 65536) (v : Word) (s : State) : Result := act (tableWrite n (4 * off) v.toNat) s

/-- SKIM_MASK_ARRIVAL (R176): The background mask of the held line's row arrives and the port accumulates eligible samples or
discards the line. -/
def execSkimMaskArrival (n : Fin 192) (s : State) : Result := act (skimMaskArrival n) s

/-- SKIM_MASK_TIMEOUT (R175): A held line without its mask 1 ms after step 6 is discarded and RND_SKIM_MASK_TMO increments. -/
def execSkimMaskTimeout (n : Fin 192) (s : State) : Result := act (skimMaskTimeout n) s

/-- SKIM_SLICE_END (R178): A slice's rows end and Skim updates each gain entry of the slice in the shadow bank. -/
def execSkimSliceEnd (n : Fin 192) (s : State) : Result := act (skimSliceEnd n) s

/-- SKIM_SCHEDULE_INSTANT (R172): At S(k+1) Skim schedules a swap on every member at once. -/
def execSkimScheduleInstant (g : Fin 24) (s : State) : Result := act (skimSchedule g) s

/-- SKIM_EPOCH_BOUNDARY (R169): Row R(k+1) puts epoch k + 1 in force and updates member states. -/
def execSkimEpochBoundary (g : Fin 24) (s : State) : Result := act (skimBoundary g) s

/-- CKPT_INTERVAL_EXPIRY (R184): BOT_CKPT_CTRL.INTERVAL seconds elapse and a Skim checkpoint to MRAM starts. -/
def execCkptIntervalExpiry (s : State) : Result := act (fun s => if s.rd R.BOT_CKPT_CTRL_INTERVAL = 0 then s else ckptStart s) s

/-- CKPT_NOW (R184): A write of BOT_CKPT_CTRL.NOW starts a checkpoint, or sets MERGED while BUSY. -/
def execCkptNow (s : State) : Result := act ckptStart s

/-- CKPT_COMPLETE (R184): A checkpoint ends after writing its slot header, with RESULT OK or FAIL_WRITE. -/
def execCkptComplete (fail : Bool) (s : State) : Result := act (ckptComplete fail) s

end Sys2Proof.Machine
end

