-- ==== Sys2Proof/Machine/ExecRows.lean ====
section
/-! DEFINITION. Meanings of the commands: Seam, Stencil and Plumb. -/

namespace Sys2Proof.Machine

/-- ROW_DEADLINE (R211): DL(L) arrives, unsettled members become missing with cause DEADLINE and the row becomes ready. -/
def execRowDeadline (g : Fin 24) (s : State) : Result := act (seamDeadline g) s

/-- SEAM_ROW_EMIT (R212): A ready row whose earlier rows are emitted leaves Seam to Stencil with its attributes. -/
def execSeamRowEmit (g : Fin 24) (s : State) : Result := act (rowEmit g) s

/-- SOURCE_EXPOSURE_TIME (R211): At T(L − Y_m) Seam settles member m missing with cause NOT_UP if its port or gang is not in UP. -/
def execSourceExposureTime (g : Fin 24) (m : Fin 32) (s : State) : Result := act (seamSource g m) s

/-- STENCIL_ROW (R229): Stencil classifies, labels and closes objects for one emitted row. -/
def execStencilRow (g : Fin 24) (s : State) : Result := act (rowStencil g) s

/-- PLUMB_RECORD (R252): A tracker takes an object record, tracks it and passes it to the uplink scheduler. -/
def execPlumbRecord (q : Fin 36) (s : State) : Result := act (recordNext q) s

end Sys2Proof.Machine
end

