-- ==== Sys2Proof/Machine/ExecSecurity.lean ====
section
/-! DEFINITION. Meanings of the commands: lifecycle, keys, debug sessions and power states. -/

namespace Sys2Proof.Machine

/-- LC_TO_PROVISIONED (R497): A lifecycle request for PROVISIONED burns fuses if an owner key is present. -/
def execLcToProvisioned (path : Path) (key : Fin 16) (s : State) : Result := act (lcWrite (2 ^ 28 * 1 + 2 ^ 20 * key + 1) path) s

/-- LC_TO_SECURED (R497): A lifecycle request for SECURED with a valid token fuses SEC_POLICY and the state. -/
def execLcToSecured (path : Path) (key : Fin 16) (s : State) : Result := act (lcWrite (2 ^ 28 * 2 + 2 ^ 20 * key + 1) path) s

/-- LC_TO_RMA (R497): A lifecycle request for RMA with a valid token erases owner keys and burns the state. -/
def execLcToRma (path : Path) (key : Fin 16) (s : State) : Result := act (lcWrite (2 ^ 28 * 3 + 2 ^ 20 * key + 1) path) s

/-- LC_BAD_TARGET (R497): A request for the current, an earlier or BLANK state, or any request in RMA, gives BAD_TARGET. -/
def execLcBadTarget (path : Path) (key : Fin 16) (target : Fin 16) (s : State) : Result :=
  act (lcWrite (2 ^ 28 * target + 2 ^ 20 * key + 1) path) s

/-- LIFECYCLE_BURN_DONE (R499): The commit fuse is burned and the device resets as SYS_RST_N. -/
def execLifecycleBurnDone (s : State) : Result := act lcBurnDone s

/-- KEY_PROG_EC (R502): SEC_KEY_CTRL op PROG_EC programs an ECDSA public key into an empty slot. -/
def execKeyProgEc (slot : Fin 16) (s : State) : Result := act (keyWrite (2 ^ 31 + 2 ^ 28 * 1 + slot)) s

/-- KEY_PROG_PQ (R502): SEC_KEY_CTRL op PROG_PQ adds an ML-DSA-65 key to a slot holding an ECDSA key. -/
def execKeyProgPq (slot : Fin 16) (s : State) : Result := act (keyWrite (2 ^ 31 + 2 ^ 28 * 2 + slot)) s

/-- KEY_PROG_AES (R502): SEC_KEY_CTRL op PROG_AES programs an AES-256 key into an empty slot. -/
def execKeyProgAes (slot : Fin 16) (s : State) : Result := act (keyWrite (2 ^ 31 + 2 ^ 28 * 3 + slot)) s

/-- KEY_REVOKE (R502): SEC_KEY_CTRL op REVOKE revokes a slot from 1 to 15. -/
def execKeyRevoke (slot : Fin 16) (s : State) : Result := act (keyWrite (2 ^ 31 + 2 ^ 28 * 4 + slot)) s

/-- KEY_OP_BAD (R523): A reserved SEC_KEY_CTRL op gives RESULT BAD_OP. -/
def execKeyOpBad (op : Fin 3) (slot : Fin 16) (s : State) : Result := act (keyWrite (2 ^ 31 + 2 ^ 28 * (5 + op) + slot)) s

/-- KEY_OP_DONE (R502): A key-store operation ends within 50 ms with its RESULT. -/
def execKeyOpDone (fail : Bool) (s : State) : Result := act (keyDone fail) s

/-- ROLLBACK_ADVANCE (R504): A write of SEC_RB_CTRL.GO advances the anti-rollback counter to NEW, or is refused. -/
def execRollbackAdvance (v : Byte) (s : State) : Result := act (rbWrite (256 + v.toNat)) s

/-- ROLLBACK_BURN_DONE (R504): The anti-rollback fuses are burned. -/
def execRollbackBurnDone (s : State) : Result := act rbDone s

/-- SEC_POLICY_WRITE (R502): A write of SEC_POLICY acts before SECURED and is ignored once fused. -/
def execSecPolicyWrite (v : Word) (s : State) : Result := act (policyWrite v.toNat) s

/-- DEBUG_OPEN (R509): A write of SEC_DBG_CTRL.OPEN opens a session, starts certificate checking or is refused. -/
def execDebugOpen (path : Path) (level : Fin 4) (s : State) : Result := act (dbgWrite (4 * level + 1) path) s

/-- DEBUG_CERT_VERIFIED (R509): Certificate checking ends and opens the session with its key, or refuses it. -/
def execDebugCertVerified (s : State) : Result := act dbgVerified s

/-- DEBUG_END (R511): A write of SEC_DBG_CTRL.END ends the session and erases its key. -/
def execDebugEnd (s : State) : Result := act (dbgEnd 1) s

/-- DEBUG_SESSION_TIMEOUT (R511): MAX_TIME seconds pass and the session ends with END_CAUSE TIMEOUT. -/
def execDebugSessionTimeout (s : State) : Result := act dbgTimeout s

/-- DEBUG_CORE_HALT (R512): A write of SEC_DBG_CORE.HALT in a D2 session halts or resumes control cores. -/
def execDebugCoreHalt (v : Fin 16) (s : State) : Result := act (coreHalt v) s

/-- PWR_REQ_P0 (R514): A THM_PWR_CTRL request for P0 returns the device from P1 or wakes it from P2. -/
def execPwrReqP0 (path : Path) (s : State) : Result := actAon (pwrWrite (2 ^ 31) path) s

/-- PWR_REQ_P1 (R514): A THM_PWR_CTRL request for P1 drains the pipeline and gates its clocks. -/
def execPwrReqP1 (path : Path) (s : State) : Result := actAon (pwrWrite (2 ^ 31 + 1) path) s

/-- PWR_REQ_P2 (R514): A THM_PWR_CTRL request for P2 drains and enters Standby. -/
def execPwrReqP2 (path : Path) (s : State) : Result := actAon (pwrWrite (2 ^ 31 + 2) path) s

/-- PWR_REQ_P3 (R514): A THM_PWR_CTRL request for P3 drains and enters Off. -/
def execPwrReqP3 (path : Path) (s : State) : Result := actAon (pwrWrite (2 ^ 31 + 3) path) s

/-- PWR_DRAIN_DONE (R515): Open rows are emitted and records have left Plumb, and the power transition continues. -/
def execPwrDrainDone (s : State) : Result := act drainDone s

/-- WAKE_PIN (R514): WAKE_N falling with PIN_EN = 1 returns the device from P1 or P2 to P0. -/
def execWakePin (s : State) : Result := actAon wakePin s

/-- WAKE_TIMER (R514): The P2 wake timer expires with TIMER_EN = 1 and the device wakes. -/
def execWakeTimer (s : State) : Result := actAon wakeTimer s

/-- WAKE_RAILS_READY (R516): After a wake from P2, the supply monitors report every core rail within its window and the start runs
from CLOCK. -/
def execWakeRailsReady (s : State) : Result := actAon railsReady s

/-- RAIL_WAKE_TIMEOUT (R516): Core rails not in window 100 ms after a wake drive RAIL_EN low and keep the device in P2. -/
def execRailWakeTimeout (s : State) : Result := actAon railsTimeout s

end Sys2Proof.Machine
end

