-- ==== Sys2Proof/Machine/ExecTest.lean ====
section
/-! DEFINITION. Meanings of the commands: lane test modes and the TAP. -/

namespace Sys2Proof.Machine

/-- TST_MODE_WRITE (R533): A write of TST_LANE_CTRL sets a lane's test mode and pattern, or is refused. -/
def execTstModeWrite (lane : Fin 200) (v : Word) (s : State) : Result := act (tstWrite lane v.toNat) s

/-- TST_INJECT (R539): A write of TST_LANE_CTRL.INJECT inverts the next generated bit. -/
def execTstInject (lane : Fin 200) (s : State) : Result := act (tstInject lane) s

/-- TST_BCAST_GO (R543): A write of TST_BCAST_GO copies TST_BCAST_CTRL to every selected lane. -/
def execTstBcastGo (s : State) : Result := act tstBroadcast s

/-- TST_CHECKER_LOCK (R538): 256 matching bits lock a lane's pattern checker. -/
def execTstCheckerLock (lane : Fin 200) (s : State) : Result := act (tstLock lane) s

/-- TST_CHECKER_LOCK_LOSS (R538): 32 errors in 64 bits lose checker lock and the checker seeds again. -/
def execTstCheckerLockLoss (lane : Fin 200) (errs : Nat) (s : State) : Result := act (tstLockLoss lane errs) s

/-- EYE_SCAN_GO (R541): A write of TST_EYE_CTRL.GO measures one eye-scan point, or is refused. -/
def execEyeScanGo (lane : Fin 200) (s : State) : Result := act (eyeGo lane) s

/-- EYE_POINT_DONE (R541): An eye-scan point ends after its dwell and sets DONE. -/
def execEyePointDone (lane : Fin 200) (errs : Nat) (s : State) : Result := act (eyeEnd lane errs false) s

/-- TAP_INSTRUCTION (R545): A new TAP instruction is loaded; leaving an EXTEST-family instruction resets the device. -/
def execTapInstruction (ir : Byte) (s : State) : Result := act (tapLoad ir.toNat) s

/-- TAP_RESET (R545): The TAP enters Test-Logic-Reset with IDCODE selected. -/
def execTapReset (s : State) : Result := act tapReset s

/-- DBG_READ (R547): Update-DR of the DBG register with OP read starts a register read. -/
def execDbgRead (addr : Word) (tag : List Byte) (s : State) : Result := act (dbgRead addr.toNat tag) s

/-- DBG_WRITE (R547): Update-DR of the DBG register with OP write starts a register write. -/
def execDbgWrite (addr : Word) (data : Word) (tag : List Byte) (s : State) : Result := act (dbgPut addr.toNat data.toNat tag) s

/-- DBG_CAPTURE (R547): Capture-DR of the DBG register reports the status and data of the last access. -/
def execDbgCapture (s : State) : Result := act dbgCapture s

end Sys2Proof.Machine
end

