-- ==== Sys2Proof/Machine/ExecUplink.lean ====
section
/-! DEFINITION. Meanings of the commands: uplink sub-ports, classes and frames. -/

namespace Sys2Proof.Machine

/-- UPLINK_TRAINING_DONE (R309): Link training completes on every lane and the sub-port enters ALIGNING. -/
def execUplinkTrainingDone (x : Fin 8) (s : State) : Result := act (upTrained x) s

/-- UPLINK_ALIGNED (R309): Alignment markers and FEC lock on every lane bring the sub-port UP. -/
def execUplinkAligned (x : Fin 8) (s : State) : Result := act (upAligned x) s

/-- UPLINK_BRINGUP_TIMEOUT (R309): 500 ms in TRAINING or ALIGNING without UP sends the sub-port to FAILED. -/
def execUplinkBringupTimeout (x : Fin 8) (s : State) : Result := act (upTimeout x) s

/-- UPLINK_RETRY_EXPIRY (R309): The 1 s retry timer of a FAILED sub-port expires and it returns to TRAINING. -/
def execUplinkRetryExpiry (x : Fin 8) (s : State) : Result := act (upRetry x) s

/-- UPLINK_LANE_LOSS (R310): A lane without alignment-marker lock for HOLD is taped off and its sub-port falls back or fails. -/
def execUplinkLaneLoss (u : Fin 8) (s : State) : Result := act (untested (192 + u) (upLaneLoss u)) s

/-- UPLINK_RESTORE (R312): A write of UPL_CTRL.RESTORE takes a sub-port out of fall-back when all its lanes are clean. -/
def execUplinkRestore (s : State) : Result := act uplinkRestore s

/-- FRAME_WAIT_ACCEPT (R324): A waiting REPLAY or MGMT_RSP frame is accepted when its class has room. -/
def execFrameWaitAccept (x : Fin 8) (c : Fin 8) (s : State) : Result := act (waitServed x c) s

/-- FRAME_TX_COMPLETE (R326): A frame finishes on a sub-port and the scheduler chooses the next frame to start. -/
def execFrameTxComplete (x : Fin 8) (s : State) : Result := act (frameSent x) s

/-- DEADLINE_DROP (R326): A class head that can no longer meet its deadline is dropped and counted in UPL_CLASS_LATE. -/
def execDeadlineDrop (x : Fin 8) (c : Fin 8) (s : State) : Result := act (deadlineDrop x c) s

/-- OBJECT_FRAME_CLOSE_TIMEOUT (R317): No record for 16 cycles closes an open OBJECT frame. -/
def execObjectFrameCloseTimeout (x : Fin 8) (c : Fin 8) (event : Bool) (s : State) : Result := act (frameTimeout x c event) s

/-- MGMT_REQ_RECEIVED (R321): An in-band MGMT_REQ frame is checked and its operations are performed in order. -/
def execMgmtReqReceived (x : Fin 8) (frame : List Byte) (s : State) : Result := act (mgmtReceived x frame) s

/-- RX_FRAME_DISCARD (R323): A received frame not taken by the device is discarded and counted. -/
def execRxFrameDiscard (x : Fin 8) (frame : RxFrame) (s : State) : Result := act (frameReceived x frame) s

/-- PFC_RECEIVED (R329): An 802.1Qbb PFC frame pauses or resumes the classes of its priorities. -/
def execPfcReceived (x : Fin 8) (enable : Byte) (quanta : List (BitVec 16)) (s : State) : Result :=
  act (pfc x enable.toNat (quanta.map (·.toNat))) s

/-- PAUSE_FRAME_RECEIVED (R329): An 802.3 PAUSE frame pauses every class with PAUSE_EN = 1, or is discarded. -/
def execPauseFrameReceived (x : Fin 8) (quanta : BitVec 16) (s : State) : Result := act (pauseFrame x quanta.toNat) s

/-- PAUSE_EXPIRY (R329): A pause's quanta elapse and the paused classes become eligible again. -/
def execPauseExpiry (x : Fin 8) (slot : Fin 9) (s : State) : Result := act (pauseEnd x slot) s

/-- PAUSE_MAX_EXCEEDED (R329): A continuous pause longer than PAUSE_MAX raises the flow event once. -/
def execPauseMaxExceeded (x : Fin 8) (slot : Fin 9) (s : State) : Result := act (pauseLong x slot) s

/-- PTP_MESSAGE_RECEIVED (R330): A PTP message is timestamped and processed by the slave-only clock. -/
def execPtpMessageReceived (x : Fin 8) (hdr : PtpHdr) (m : PtpMsg) (s : State) : Result := act (ptpReceived x hdr m) s

/-- PTP_HOLDOVER_TIMEOUT (R331): 3 s without Sync puts the servo in HOLDOVER. -/
def execPtpHoldoverTimeout (s : State) : Result := act ptpHoldover s

/-- TIME_FRAME_TIMER (R322): The PERIOD timer expires and a TIME frame is built on each class carrying TIME. -/
def execTimeFrameTimer (x : Fin 8) (s : State) : Result := act (timeTimer x) s

/-- TIME_PERIOD_WRITE (R322): A write of FXT_TIME_CFG.PERIOD restarts the TIME interval, or stops TIME frames. -/
def execTimePeriodWrite (v : BitVec 16) (s : State) : Result := act (timePeriod v.toNat) s

/-- FEC_WINDOW_END (R332): A 1 ms window ends and uncorrectable codewords above DEG_THR raise FEC degrade. -/
def execFecWindowEnd (u : Fin 8) (corrected uncorrectable symbols : Nat) (s : State) : Result :=
  act (untested (192 + u) (fecWindow u corrected uncorrectable symbols)) s

/-- ALIGNMENT_MARKER_LOCK_LOST (R309): An uplink lane loses alignment-marker lock, UPL_AM_LOSS increments and the HOLD timing
starts. -/
def execAlignmentMarkerLockLost (u : Fin 8) (s : State) : Result := act (untested (192 + u) (amLost u)) s

/-- ALIGNMENT_MARKER_LOCK_REGAINED (R309): An uplink lane in UP regains alignment-marker lock before HOLD expires, and no taping
follows. -/
def execAlignmentMarkerLockRegained (u : Fin 8) (s : State) : Result := act (untested (192 + u) (amRegained u)) s

end Sys2Proof.Machine
end

