-- ==== Sys2Proof/Machine/Dispatch.lean ====
section
/-! DEFINITION. The effect of each command on everything but the queue: one arm per constructor. -/

namespace Sys2Proof.Machine

/-- The effect of a command. -/
def exec (i : Instr) (s : State) : Host.Outcome State Fault Refusal :=
  match i with
  | .clockMonitorCheck coreBad memBad upBad mgmtBad => Sys2Proof.Machine.execClockMonitorCheck coreBad memBad upBad mgmtBad s
  | .snapshotReq => Sys2Proof.Machine.execSnapshotReq s
  | .snapshotPeriodExpiry => Sys2Proof.Machine.execSnapshotPeriodExpiry s
  | .snapshotComplete => Sys2Proof.Machine.execSnapshotComplete s
  | .blockLockAcquired n => Sys2Proof.Machine.execBlockLockAcquired n s
  | .blockLockLost n => Sys2Proof.Machine.execBlockLockLost n s
  | .lockTimerExpiry n => Sys2Proof.Machine.execLockTimerExpiry n s
  | .trainBudgetExpiry n => Sys2Proof.Machine.execTrainBudgetExpiry n s
  | .adaptationEnd n eq => Sys2Proof.Machine.execAdaptationEnd n eq s
  | .measureWindowEnd n badHeaders pseudoErrors height width eq => Sys2Proof.Machine.execMeasureWindowEnd n badHeaders pseudoErrors height width eq s
  | .settleExpiry n => Sys2Proof.Machine.execSettleExpiry n s
  | .tapreqTimeout n => Sys2Proof.Machine.execTapreqTimeout n s
  | .linkupTimeout n => Sys2Proof.Machine.execLinkupTimeout n s
  | .portUp n => Sys2Proof.Machine.execPortUp n s
  | .retryTimerExpiry n => Sys2Proof.Machine.execRetryTimerExpiry n s
  | .laneRetrain n => Sys2Proof.Machine.execLaneRetrain n s
  | .laneRetry n => Sys2Proof.Machine.execLaneRetry n s
  | .retrainBurstEnd n => Sys2Proof.Machine.execRetrainBurstEnd n s
  | .fillerReceived n fill => Sys2Proof.Machine.execFillerReceived n fill s
  | .trainReceived n block fill => Sys2Proof.Machine.execTrainReceived n block fill s
  | .alignReceived n block missed skew => Sys2Proof.Machine.execAlignReceived n block missed skew s
  | .reservedBlockReceived n block => Sys2Proof.Machine.execReservedBlockReceived n block s
  | .lineHeaderReceived n blocks => Sys2Proof.Machine.execLineHeaderReceived n blocks s
  | .linePayloadEnd n rest last => Sys2Proof.Machine.execLinePayloadEnd n rest last s
  | .triggerEntryExpiry n => Sys2Proof.Machine.execTriggerEntryExpiry n s
  | .chalkStep => Sys2Proof.Machine.execChalkStep s
  | .adjPhaseWrite v => Sys2Proof.Machine.execAdjPhaseWrite v s
  | .slewComplete => Sys2Proof.Machine.execSlewComplete s
  | .tgEnable g => Sys2Proof.Machine.execTgEnable g s
  | .tgDisable g => Sys2Proof.Machine.execTgDisable g s
  | .tgConfigWrite g off v => Sys2Proof.Machine.execTgConfigWrite g off v s
  | .triggerSend g => Sys2Proof.Machine.execTriggerSend g s
  | .bcMessageSent n => Sys2Proof.Machine.execBcMessageSent n s
  | .badMessageReceived n units => Sys2Proof.Machine.execBadMessageReceived n units s
  | .syncExchangeTimer n => Sys2Proof.Machine.execSyncExchangeTimer n s
  | .syncRspReceived n seq t2 t3 => Sys2Proof.Machine.execSyncRspReceived n seq t2 t3 s
  | .syncTimeout n => Sys2Proof.Machine.execSyncTimeout n s
  | .headCmdGo n => Sys2Proof.Machine.execHeadCmdGo n s
  | .headRspReceived n tag data => Sys2Proof.Machine.execHeadRspReceived n tag data s
  | .headCmdTimeout n => Sys2Proof.Machine.execHeadCmdTimeout n s
  | .headEvtReceived n data => Sys2Proof.Machine.execHeadEvtReceived n data s
  | .chalStart n => Sys2Proof.Machine.execChalStart n s
  | .chalRspReceived n mac => Sys2Proof.Machine.execChalRspReceived n mac s
  | .chalTimeout n => Sys2Proof.Machine.execChalTimeout n s
  | .chalKeyWrite n k v path => Sys2Proof.Machine.execChalKeyWrite n k v path s
  | .renderLineDone n => Sys2Proof.Machine.execRenderLineDone n s
  | .bankSwapArm n => Sys2Proof.Machine.execBankSwapArm n s
  | .bankValidationDone n => Sys2Proof.Machine.execBankValidationDone n s
  | .bankDisarm n => Sys2Proof.Machine.execBankDisarm n s
  | .copyBackDone n => Sys2Proof.Machine.execCopyBackDone n s
  | .tableWindowWrite n off v => Sys2Proof.Machine.execTableWindowWrite n off v s
  | .skimMaskArrival n => Sys2Proof.Machine.execSkimMaskArrival n s
  | .skimMaskTimeout n => Sys2Proof.Machine.execSkimMaskTimeout n s
  | .skimSliceEnd n => Sys2Proof.Machine.execSkimSliceEnd n s
  | .skimScheduleInstant g => Sys2Proof.Machine.execSkimScheduleInstant g s
  | .skimEpochBoundary g => Sys2Proof.Machine.execSkimEpochBoundary g s
  | .ckptIntervalExpiry => Sys2Proof.Machine.execCkptIntervalExpiry s
  | .ckptNow => Sys2Proof.Machine.execCkptNow s
  | .ckptComplete fail => Sys2Proof.Machine.execCkptComplete fail s
  | .rowDeadline g => Sys2Proof.Machine.execRowDeadline g s
  | .seamRowEmit g => Sys2Proof.Machine.execSeamRowEmit g s
  | .stencilRow g => Sys2Proof.Machine.execStencilRow g s
  | .plumbRecord q => Sys2Proof.Machine.execPlumbRecord q s
  | .lathLoadGo groups => Sys2Proof.Machine.execLathLoadGo groups s
  | .lathFetchDone readFail => Sys2Proof.Machine.execLathFetchDone readFail s
  | .lathVerifyDone => Sys2Proof.Machine.execLathVerifyDone s
  | .lathCheckDone => Sys2Proof.Machine.execLathCheckDone s
  | .lathDrainDone => Sys2Proof.Machine.execLathDrainDone s
  | .lathApplyDone => Sys2Proof.Machine.execLathApplyDone s
  | .lathAddrWrite which v => Sys2Proof.Machine.execLathAddrWrite which v s
  | .commitRequest v => Sys2Proof.Machine.execCommitRequest v s
  | .uplinkTrainingDone x => Sys2Proof.Machine.execUplinkTrainingDone x s
  | .uplinkAligned x => Sys2Proof.Machine.execUplinkAligned x s
  | .uplinkBringupTimeout x => Sys2Proof.Machine.execUplinkBringupTimeout x s
  | .uplinkRetryExpiry x => Sys2Proof.Machine.execUplinkRetryExpiry x s
  | .uplinkLaneLoss u => Sys2Proof.Machine.execUplinkLaneLoss u s
  | .uplinkRestore => Sys2Proof.Machine.execUplinkRestore s
  | .frameWaitAccept x c => Sys2Proof.Machine.execFrameWaitAccept x c s
  | .frameTxComplete x => Sys2Proof.Machine.execFrameTxComplete x s
  | .deadlineDrop x c => Sys2Proof.Machine.execDeadlineDrop x c s
  | .objectFrameCloseTimeout x c event => Sys2Proof.Machine.execObjectFrameCloseTimeout x c event s
  | .mgmtReqReceived x frame => Sys2Proof.Machine.execMgmtReqReceived x frame s
  | .rxFrameDiscard x frame => Sys2Proof.Machine.execRxFrameDiscard x frame s
  | .pfcReceived x enable quanta => Sys2Proof.Machine.execPfcReceived x enable quanta s
  | .pauseFrameReceived x quanta => Sys2Proof.Machine.execPauseFrameReceived x quanta s
  | .pauseExpiry x slot => Sys2Proof.Machine.execPauseExpiry x slot s
  | .pauseMaxExceeded x slot => Sys2Proof.Machine.execPauseMaxExceeded x slot s
  | .ptpMessageReceived x hdr m => Sys2Proof.Machine.execPtpMessageReceived x hdr m s
  | .ptpHoldoverTimeout => Sys2Proof.Machine.execPtpHoldoverTimeout s
  | .timeFrameTimer x => Sys2Proof.Machine.execTimeFrameTimer x s
  | .timePeriodWrite v => Sys2Proof.Machine.execTimePeriodWrite v s
  | .fecWindowEnd u corrected uncorrectable symbols => Sys2Proof.Machine.execFecWindowEnd u corrected uncorrectable symbols s
  | .memChannelTrained m cause => Sys2Proof.Machine.execMemChannelTrained m cause s
  | .ceWindowEnd m => Sys2Proof.Machine.execCeWindowEnd m s
  | .patrolScrubRead addr err => Sys2Proof.Machine.execPatrolScrubRead addr err s
  | .memAlert m => Sys2Proof.Machine.execMemAlert m s
  | .memTempReport m hot => Sys2Proof.Machine.execMemTempReport m hot s
  | .historyItem => Sys2Proof.Machine.execHistoryItem s
  | .historyAllocate => Sys2Proof.Machine.execHistoryAllocate s
  | .objectBatchTimeout g => Sys2Proof.Machine.execObjectBatchTimeout g s
  | .historyItemDeadline g => Sys2Proof.Machine.execHistoryItemDeadline g s
  | .ringReset => Sys2Proof.Machine.execRingReset s
  | .historyEnWrite en => Sys2Proof.Machine.execHistoryEnWrite en s
  | .markSetNow slot => Sys2Proof.Machine.execMarkSetNow slot s
  | .markSetTime slot => Sys2Proof.Machine.execMarkSetTime slot s
  | .markClear slot => Sys2Proof.Machine.execMarkClear slot s
  | .markSelect slot => Sys2Proof.Machine.execMarkSelect slot s
  | .markBadOp op slot => Sys2Proof.Machine.execMarkBadOp op slot s
  | .replayGo => Sys2Proof.Machine.execReplayGo s
  | .replayAbort => Sys2Proof.Machine.execReplayAbort s
  | .replayWindowStart => Sys2Proof.Machine.execReplayWindowStart s
  | .replayMarkStart => Sys2Proof.Machine.execReplayMarkStart s
  | .replayRecordRead err => Sys2Proof.Machine.execReplayRecordRead err s
  | .replayEndTime => Sys2Proof.Machine.execReplayEndTime s
  | .stpJobGo j => Sys2Proof.Machine.execStpJobGo j s
  | .stpJobAbort j => Sys2Proof.Machine.execStpJobAbort j s
  | .stpCompressJob j => Sys2Proof.Machine.execStpCompressJob j s
  | .stpDecompressJob j => Sys2Proof.Machine.execStpDecompressJob j s
  | .stippleBlockDone u err => Sys2Proof.Machine.execStippleBlockDone u err s
  | .stpAccessTimeout j => Sys2Proof.Machine.execStpAccessTimeout j s
  | .stippleParityError u => Sys2Proof.Machine.execStippleParityError u s
  | .dmaStart c => Sys2Proof.Machine.execDmaStart c s
  | .dmaAbort c => Sys2Proof.Machine.execDmaAbort c s
  | .dmaAck c => Sys2Proof.Machine.execDmaAck c s
  | .dmaConfigWrite c off v => Sys2Proof.Machine.execDmaConfigWrite c off v s
  | .dmaDescFetched c err => Sys2Proof.Machine.execDmaDescFetched c err s
  | .dmaBlockMoved c err => Sys2Proof.Machine.execDmaBlockMoved c err s
  | .dmaReadbackDone c err => Sys2Proof.Machine.execDmaReadbackDone c err s
  | .dmaAccessFail c err => Sys2Proof.Machine.execDmaAccessFail c err s
  | .dmaAccessTimeout c hang => Sys2Proof.Machine.execDmaAccessTimeout c hang s
  | .hawkWhdrWrite q v => Sys2Proof.Machine.execHawkWhdrWrite q v s
  | .hawkWdataWrite q v => Sys2Proof.Machine.execHawkWdataWrite q v s
  | .hawkItemMove q => Sys2Proof.Machine.execHawkItemMove q s
  | .hawkRhdrRead q path => Sys2Proof.Machine.execHawkRhdrRead q path s
  | .hawkRhdrStallEnd q => Sys2Proof.Machine.execHawkRhdrStallEnd q s
  | .hawkRdataRead q path flips => Sys2Proof.Machine.execHawkRdataRead q path flips s
  | .hawkDropCur q => Sys2Proof.Machine.execHawkDropCur q s
  | .hawkFlush q => Sys2Proof.Machine.execHawkFlush q s
  | .hawkFlushDone q => Sys2Proof.Machine.execHawkFlushDone q s
  | .hawkFlushItemTimeout q => Sys2Proof.Machine.execHawkFlushItemTimeout q s
  | .hawkEccWrite q ecc => Sys2Proof.Machine.execHawkEccWrite q ecc s
  | .cvuCfgWrite c v => Sys2Proof.Machine.execCvuCfgWrite c v s
  | .cvuInit c => Sys2Proof.Machine.execCvuInit c s
  | .cvuFeed8 c v => Sys2Proof.Machine.execCvuFeed8 c v s
  | .cvuFeed16 c v => Sys2Proof.Machine.execCvuFeed16 c v s
  | .cvuFeed32 c v => Sys2Proof.Machine.execCvuFeed32 c v s
  | .cvuValueWrite c v => Sys2Proof.Machine.execCvuValueWrite c v s
  | .cvuAliveIn c v => Sys2Proof.Machine.execCvuAliveIn c v s
  | .cvuAliveReset c => Sys2Proof.Machine.execCvuAliveReset c s
  | .faultRaise e => Sys2Proof.Machine.execFaultRaise e s
  | .quietPeriodExpiry unit scope => Sys2Proof.Machine.execQuietPeriodExpiry unit scope s
  | .fltUnitTape unit => Sys2Proof.Machine.execFltUnitTape unit s
  | .fltUnitRelease unit => Sys2Proof.Machine.execFltUnitRelease unit s
  | .fltAck e => Sys2Proof.Machine.execFltAck e s
  | .fltAckAll => Sys2Proof.Machine.execFltAckAll s
  | .fltSevWrite k v => Sys2Proof.Machine.execFltSevWrite k v s
  | .unitResetDone unit => Sys2Proof.Machine.execUnitResetDone unit s
  | .suppressionWindowEnd up down => Sys2Proof.Machine.execSuppressionWindowEnd up down s
  | .aliveToggle => Sys2Proof.Machine.execAliveToggle s
  | .heartbeatLoss => Sys2Proof.Machine.execHeartbeatLoss s
  | .thermalSample readings => Sys2Proof.Machine.execThermalSample readings s
  | .shedStepTimer => Sys2Proof.Machine.execShedStepTimer s
  | .shedHoldExpiry => Sys2Proof.Machine.execShedHoldExpiry s
  | .thermtrip => Sys2Proof.Machine.execThermtrip s
  | .porRelease sel => Sys2Proof.Machine.execPorRelease sel s
  | .sysReset sel => Sys2Proof.Machine.execSysReset sel s
  | .botRestart => Sys2Proof.Machine.execBotRestart s
  | .corePllLock badKeys journalError => Sys2Proof.Machine.execCorePllLock badKeys journalError s
  | .clockRetryTimer => Sys2Proof.Machine.execClockRetryTimer s
  | .slotVerifyDone slotA slotB => Sys2Proof.Machine.execSlotVerifyDone slotA slotB s
  | .memoryStepEnd => Sys2Proof.Machine.execMemoryStepEnd s
  | .portsStepEnd => Sys2Proof.Machine.execPortsStepEnd s
  | .uplinkStepEnd => Sys2Proof.Machine.execUplinkStepEnd s
  | .undercoatWatchdog => Sys2Proof.Machine.execUndercoatWatchdog s
  | .hostboot => Sys2Proof.Machine.execHostboot s
  | .journalForget => Sys2Proof.Machine.execJournalForget s
  | .forgetUnit e => Sys2Proof.Machine.execForgetUnit e s
  | .jnlRecordRead path => Sys2Proof.Machine.execJnlRecordRead path s
  | .lcToProvisioned path key => Sys2Proof.Machine.execLcToProvisioned path key s
  | .lcToSecured path key => Sys2Proof.Machine.execLcToSecured path key s
  | .lcToRma path key => Sys2Proof.Machine.execLcToRma path key s
  | .lcBadTarget path key target => Sys2Proof.Machine.execLcBadTarget path key target s
  | .lifecycleBurnDone => Sys2Proof.Machine.execLifecycleBurnDone s
  | .keyProgEc slot => Sys2Proof.Machine.execKeyProgEc slot s
  | .keyProgPq slot => Sys2Proof.Machine.execKeyProgPq slot s
  | .keyProgAes slot => Sys2Proof.Machine.execKeyProgAes slot s
  | .keyRevoke slot => Sys2Proof.Machine.execKeyRevoke slot s
  | .keyOpBad op slot => Sys2Proof.Machine.execKeyOpBad op slot s
  | .keyOpDone fail => Sys2Proof.Machine.execKeyOpDone fail s
  | .rollbackAdvance v => Sys2Proof.Machine.execRollbackAdvance v s
  | .rollbackBurnDone => Sys2Proof.Machine.execRollbackBurnDone s
  | .secPolicyWrite v => Sys2Proof.Machine.execSecPolicyWrite v s
  | .debugOpen path level => Sys2Proof.Machine.execDebugOpen path level s
  | .debugCertVerified => Sys2Proof.Machine.execDebugCertVerified s
  | .debugEnd => Sys2Proof.Machine.execDebugEnd s
  | .debugSessionTimeout => Sys2Proof.Machine.execDebugSessionTimeout s
  | .debugCoreHalt v => Sys2Proof.Machine.execDebugCoreHalt v s
  | .pwrReqP0 path => Sys2Proof.Machine.execPwrReqP0 path s
  | .pwrReqP1 path => Sys2Proof.Machine.execPwrReqP1 path s
  | .pwrReqP2 path => Sys2Proof.Machine.execPwrReqP2 path s
  | .pwrReqP3 path => Sys2Proof.Machine.execPwrReqP3 path s
  | .pwrDrainDone => Sys2Proof.Machine.execPwrDrainDone s
  | .wakePin => Sys2Proof.Machine.execWakePin s
  | .wakeTimer => Sys2Proof.Machine.execWakeTimer s
  | .railWakeTimeout => Sys2Proof.Machine.execRailWakeTimeout s
  | .supplyOutOfWindow => Sys2Proof.Machine.execSupplyOutOfWindow s
  | .supplyInWindow => Sys2Proof.Machine.execSupplyInWindow s
  | .coreUndervoltage => Sys2Proof.Machine.execCoreUndervoltage s
  | .aonUndervoltage => Sys2Proof.Machine.execAonUndervoltage s
  | .refclkUpLoss => Sys2Proof.Machine.execRefclkUpLoss s
  | .refclkVslLoss => Sys2Proof.Machine.execRefclkVslLoss s
  | .tstModeWrite lane v => Sys2Proof.Machine.execTstModeWrite lane v s
  | .tstInject lane => Sys2Proof.Machine.execTstInject lane s
  | .tstBcastGo => Sys2Proof.Machine.execTstBcastGo s
  | .tstCheckerLock lane => Sys2Proof.Machine.execTstCheckerLock lane s
  | .tstCheckerLockLoss lane errs => Sys2Proof.Machine.execTstCheckerLockLoss lane errs s
  | .eyeScanGo lane => Sys2Proof.Machine.execEyeScanGo lane s
  | .eyePointDone lane errs => Sys2Proof.Machine.execEyePointDone lane errs s
  | .tapInstruction ir => Sys2Proof.Machine.execTapInstruction ir s
  | .tapReset => Sys2Proof.Machine.execTapReset s
  | .dbgRead addr tag => Sys2Proof.Machine.execDbgRead addr tag s
  | .dbgWrite addr data tag => Sys2Proof.Machine.execDbgWrite addr data tag s
  | .dbgCapture => Sys2Proof.Machine.execDbgCapture s
  | .spiWrite addr data => Sys2Proof.Machine.execSpiWrite addr data s
  | .spiRead addr => Sys2Proof.Machine.execSpiRead addr s
  | .spiTaggedWrite addr data tag => Sys2Proof.Machine.execSpiTaggedWrite addr data tag s
  | .spiTaggedRead addr => Sys2Proof.Machine.execSpiTaggedRead addr s
  | .spiUnknownCmd => Sys2Proof.Machine.execSpiUnknownCmd s
  | .mgeMgmtReq frame bad => Sys2Proof.Machine.execMgeMgmtReq frame bad s
  | .smbSetPointer addr => Sys2Proof.Machine.execSmbSetPointer addr s
  | .smbBlockRead => Sys2Proof.Machine.execSmbBlockRead s
  | .smbBadCommand => Sys2Proof.Machine.execSmbBadCommand s
  | .mbxPing arg => Sys2Proof.Machine.execMbxPing arg s
  | .mbxFwInfo => Sys2Proof.Machine.execMbxFwInfo s
  | .mbxMramRead offset length dest => Sys2Proof.Machine.execMbxMramRead offset length dest s
  | .mbxServoReset => Sys2Proof.Machine.execMbxServoReset s
  | .mbxBadCmd cmd => Sys2Proof.Machine.execMbxBadCmd cmd s
  | .mbxDone fail => Sys2Proof.Machine.execMbxDone fail s
  | .accessTimeout path => Sys2Proof.Machine.execAccessTimeout path s
  | .registerWrite addr v path => Sys2Proof.Machine.execRegisterWrite addr v path s
  | .freezingLoRead addr path => Sys2Proof.Machine.execFreezingLoRead addr path s
  | .freezingHiRead addr path => Sys2Proof.Machine.execFreezingHiRead addr path s
  | .dualClockQueueOverflow n => Sys2Proof.Machine.execDualClockQueueOverflow n s
  | .triggerRelease n => Sys2Proof.Machine.execTriggerRelease n s
  | .sourceExposureTime g m => Sys2Proof.Machine.execSourceExposureTime g m s
  | .alignmentMarkerLockLost u => Sys2Proof.Machine.execAlignmentMarkerLockLost u s
  | .alignmentMarkerLockRegained u => Sys2Proof.Machine.execAlignmentMarkerLockRegained u s
  | .collectorParityError => Sys2Proof.Machine.execCollectorParityError s
  | .porAsserted => Sys2Proof.Machine.execPorAsserted s
  | .wakeRailsReady => Sys2Proof.Machine.execWakeRailsReady s
  | .mgeLinkUp => Sys2Proof.Machine.execMgeLinkUp s
  | .mgeLinkDown => Sys2Proof.Machine.execMgeLinkDown s

end Sys2Proof.Machine
end

