-- ==== Sys2Proof/Safety.lean ====
section
/-! DEFINITION. What the statements speak of: which commands act while the block sleeps, what a sender in step puts on a lane's wire, and
what counts as a sound state of the block: its tables and memories in canonical form, and its one-time fuses where the requests in
progress expect them. -/

/-- The commands that still act in P2, in P3 and with POR_N low: those of the always-on island and its inputs. -/
def Sys2Proof.Instr.alwaysOn : Sys2Proof.Instr → Bool
  | .porAsserted | .porRelease _ | .sysReset _ | .aonUndervoltage | .thermtrip => true
  | .pwrReqP0 _ | .pwrReqP1 _ | .pwrReqP2 _ | .pwrReqP3 _ | .wakePin | .wakeTimer | .wakeRailsReady | .railWakeTimeout => true
  | .spiRead _ | .spiWrite _ _ | .spiTaggedRead _ | .spiTaggedWrite _ _ _ | .spiUnknownCmd => true
  | _ => false

namespace Sys2Proof.Machine

/-! ### What stands on a lane's wire, in the terms of the statements -/

/-- The data blocks that carry a row of bytes, the last one filled with 0x00 (R52). -/
def dataBlocks (bs : List Byte) : List Block := (List.range (ceilDiv bs.length 8)).map (fun i => dataBlock (slice bs (8 * i) 8))

/-- Blocks `us` as they arrive on the lane `l`, whose descrambler is in step with the sender, at the lowest lane of a channel. -/
def Lane.wire (l : Lane) (us : List Block) : List (Fin 4 × Block) := (wireAll l.rxScr us).1.map (fun w => (0, w))

/-- Lane `l` after the blocks `us`, which count in its BIP8. -/
def Lane.took (l : Lane) (us : List Block) : Lane :=
  { l with rxScr := (wireAll l.rxScr us).2, bip := l.bip ^^^ bip8 ((us.map blockBytes).flatten) }

/-! ### Sound states -/

/-- The canonical form of a memory: addresses strictly rising, no byte listed that an unlisted address reads as. -/
def Memory.wf (m : List Host.Cell) : Bool := Tab.wf 0 m

/-- Registers, counters, their copies and memories are in canonical form, so equal contents are equal data. -/
structure State.Canon (s : State) : Prop where
  regs     : s.regs.wf = true
  cnt      : s.cnt.wf = true
  snap     : s.snap.wf = true
  snapNext : s.snapNext.wf = true
  mram     : Memory.wf s.mram = true
  dram     : Memory.wf s.dram = true
  scratch  : Memory.wf s.scratch = true
  hostload : Memory.wf s.hostload = true

/-- The lifecycle is one of BLANK, PROVISIONED, SECURED and RMA, and a burn in progress moves it, or the anti-rollback counter,
forward (R497, R504). -/
structure State.Lifecycle (s : State) : Prop where
  legal    : s.fuses.lc ≤ 3
  burning  : ∀ t, s.sec.burning = some t → s.fuses.lc < t ∧ t ≤ 3
  rollback : ∀ v, s.sec.rbBurn = some v → s.fuses.rollback < v

/-- Sound tables and a legal lifecycle: what every step keeps. -/
structure State.Sound (s : State) : Prop where
  canon     : s.Canon
  lifecycle : s.Lifecycle

end Sys2Proof.Machine
end

