-- ==== Sys2Proof/Certificates/Slice0/Obligations.lean ====
section
/-! DEFINITION. Statements for the provers. Each gives the state that a command leaves (`settle`: the collector then takes what the
command raised, R472), or a property that every command keeps. -/

open Sys2Proof Sys2Proof.Machine

/-- A step takes the command at the front of the queue and runs it with the rest of the queue. -/
def Obligations.StepRunsFrontCommand : Prop :=
  ∀ (c : Instr) (rest : List Instr) (s : State), step { s with pending := c :: rest } = exec c { s with pending := rest }

/-- Every command completes: it answers a next state, keeps the queue of waiting commands, and never takes back a free value
already drawn; on an empty queue a CLK_CORE cycle passes (DESIGN CHOICE, log 1), in which nothing but Chalk time and its phase
moves. -/
def Obligations.EveryCommandCompletes : Prop :=
  (∀ (c : Instr) (s : State), ∃ t, exec c s = .next t ∧ t.pending = s.pending ∧ s.draws ≤ t.draws) ∧
  (∀ s : State, s.pending = [] → step s = .next (idleCycle s)) ∧
  (∀ s : State, s.asleep = true → idleCycle s = s) ∧
  (∀ s : State, s.asleep = false → ∃ c, idleCycle s = { s with chalk := c } ∧
    (s.chalk.run = true → c.cycles = s.chalk.cycles + 1) ∧ (s.chalk.run = false → c = s.chalk))

/-- Soundness is an invariant of every step: tables and memories keep their canonical form, the lifecycle stays legal, and a
burn in progress always moves forward. -/
def Obligations.StepKeepsSound : Prop :=
  ∀ s t : State, s.Sound → step s = .next t → t.Sound

/-- R497, R501, R504: no command takes a fuse back. From a state with a legal lifecycle, whatever the command, the lifecycle
state and the anti-rollback counter never go down, and a slot that has been revoked stays so. -/
def Obligations.FusesNeverGoBack : Prop :=
  ∀ s t : State, s.Lifecycle → step s = .next t →
    s.fuses.lc ≤ t.fuses.lc ∧ s.fuses.rollback ≤ t.fuses.rollback ∧ t.Lifecycle ∧
    ∀ k, 1 ≤ k → k < 16 → s.fuses.revoked.testBit k = true → t.fuses.revoked.testBit k = true

/-- R2, R37, R129, R300, R447, R455, R497, R522: the state after reset. It is sound; nothing waits; a register of each block
reads its stated reset value; the lifecycle is BLANK with SEC_POLICY 0x2800_0000. -/
def Obligations.ResetState : Prop :=
  State.reset.Sound ∧ State.reset.pending = [] ∧ State.reset.fuses.lc = 0 ∧ State.reset.fuses.policy = 0x28000000 ∧
  State.reset.rd R.BOT_STAT_STEP = 0 ∧ State.reset.rd R.GLB_COMMIT_STAT_RESULT = 0 ∧ State.reset.rd R.THM_WAKE_CFG_PIN_EN = 1 ∧
  State.reset.rd R.THM_WAKE_CFG_TIMER = 3600 ∧ State.reset.evSev 1505 = 4 ∧
  (∀ g, g < 24 → State.reset.rd (R.CHK_TG_LEAD_LEAD g) = 10000 ∧ State.reset.rd (R.CHK_TG_PERIOD_INT_INT g) = 2500 ∧
    State.reset.tgEn g = false) ∧
  (∀ n, n < 192 → State.reset.laneState n = 0 ∧ State.reset.rd (R.VSP_LANE_STAT_RETRY_K n) = 0) ∧
  (∀ c, c < 16 → State.reset.rd (R.CVU_CFG_WIDTH_M1 c) = 31) ∧ (∀ e, (State.reset.snag e).latched = false) ∧
  (∀ c, State.reset.unitTaped c = false) ∧ (∀ f, State.reset.rd f = f.rst) ∧ (∀ f, f.rst = 0 → State.reset.ctr f = 0)

/-- R513, R515, R516: in P2, in P3 and while POR_N is low, a command outside the always-on island changes nothing (log 36). -/
def Obligations.AsleepBlockIsStill : Prop :=
  ∀ (c : Instr) (s : State), s.asleep = true → c.alwaysOn = false → exec c s = .next s

/-- R14: memory answers what was last written: the bytes written read back, every other byte as before, the canonical form is
kept, and two memories in canonical form that read alike are equal. -/
def Obligations.MemoryReadsBack : Prop :=
  (∀ (m : List Host.Cell) (a : Nat) (bs : List Byte), Memory.wf m = true →
    memRead (memWrite m a bs) a bs.length = bs ∧ Memory.wf (memWrite m a bs) = true ∧
    ∀ k, (k < a ∨ a + bs.length ≤ k) → memRead (memWrite m a bs) k 1 = memRead m k 1) ∧
  (∀ m n : List Host.Cell, Memory.wf m = true → Memory.wf n = true → (∀ k, memRead m k 1 = memRead n k 1) → m = n)

/-- R457, R472, R542: when nothing has been raised, no eye-scan point runs and no answer has come that is awaited, nothing
changes: every statement that ends in `settle t` gives the whole next state for such a `t`. -/
def Obligations.CalmStateStays : Prop :=
  ∀ s : State, s.raised = [] → s.ruleTaped = [] → (∀ x ∈ s.tst, x.2.eye = false) → s.answered = false → settle s = s

/-- R39, R40, R22: a snapshot request shows BUSY and the edge time and freezes the live counters for the copies, or is merged
into the snapshot in progress; the period does the same unless HOLD; the end of the snapshot makes the copies readable. The
frequency monitor judges the four clocks. Test lanes count up to the edge (R540). -/
def Obligations.SnapshotCommands : Prop :=
  ∀ s : State, s.asleep = false →
    (exec .snapshotReq s = .next (settle (
      let t := tstAccountAll s
      if t.flag R.GLB_SNAPSHOT_BUSY then t.wr R.GLB_SNAPSHOT_MERGED 1
      else { ((t.wr R.GLB_SNAPSHOT_BUSY 1).wr R.GLB_SNAP_TIME_LO t.now).wr R.GLB_SNAP_TIME_HI (t.now / 2 ^ 32) with
               snapNext := t.cnt }))) ∧
    (s.rd R.GLB_SNAP_CTRL_PERIOD ≠ 0 → s.flag R.GLB_SNAP_CTRL_HOLD = false →
      ∃ t, exec .snapshotPeriodExpiry s = .next t ∧ exec .snapshotReq s = .next t) ∧
    (s.flag R.GLB_SNAP_CTRL_HOLD = true → exec .snapshotPeriodExpiry s = .next (settle s)) ∧
    (s.rd R.GLB_SNAP_CTRL_PERIOD = 0 → exec .snapshotPeriodExpiry s = .next (settle s)) ∧
    (s.flag R.GLB_SNAPSHOT_BUSY = true → ∃ t, exec .snapshotComplete s = .next (settle t) ∧ t.snap = s.snapNext ∧ t.cnt = s.cnt ∧
      t.rd R.GLB_SNAPSHOT_BUSY = 0 ∧ t.rd R.GLB_SNAPSHOT_VALID = 1 ∧ t.rd R.GLB_IRQ_STAT_SNAP = 1 ∧
      t.rd R.GLB_SNAPSHOT_SEQ = (s.rd R.GLB_SNAPSHOT_SEQ + 1) % 2 ^ 8) ∧
    (s.flag R.GLB_SNAPSHOT_BUSY = false → exec .snapshotComplete s = .next (settle s)) ∧
    (∀ core mem up mgmt, exec (.clockMonitorCheck core mem up mgmt) s =
      .next (settle (judge 1523 mgmt (judge 1522 up (judge 1521 mem (judge 1520 core s)))))) ∧
    ((∀ e ∈ [1520, 1521, 1522, 1523], (s.snag e).live = false) → s.boot.early = [] →
      exec (.clockMonitorCheck true true true true) s =
        .next (settle ((((s.raise 1520).raise 1521).raise 1522).raise 1523)))

/-- R94, R95: a step of Chalk time is refused while a generator is enabled, and otherwise loads CHK_SET, clearing fraction and
phase; a step back in Topcoat resets the ring and discards queued deadlines. A phase write adds signed ns; when the phase has
been slewed out, SLEWING is 0. -/
def Obligations.ChalkTimeCommands : Prop :=
  ∀ s : State, s.asleep = false →
    (s.anyTg = true → exec .chalkStep s = .next (settle (s.wr R.CHK_STAT_STEP_REFUSED 1))) ∧
    (s.anyTg = false →
      let v := 2 ^ 32 * s.rd R.CHK_SET_HI + s.rd R.CHK_SET_LO
      let t := { s with chalk := { s.chalk with time := 2 ^ 32 * (v % 2 ^ 64), phase := 0 } }
      exec .chalkStep s = .next (settle (if v < s.now ∧ t.topcoat = true then discardDeadlines (ringReset t) else t))) ∧
    (∀ v : Word, exec (.adjPhaseWrite v) s = .next (settle
      { s with chalk := { s.chalk with phase := s.chalk.phase + v.toInt * 2 ^ 32 } })) ∧
    (s.chalk.run = true → ∃ c : Chalk, exec .slewComplete s = .next (settle { s with chalk := c }) ∧ c.phase = 0 ∧
      c.run = true ∧ s.chalk.cycles ≤ c.cycles) ∧
    (s.chalk.run = false → exec .slewComplete s = .next (settle s))

/-- R97, R98, R129, R219: EN becoming 1 in P0 with no fault starts the generator at the first line not yet too close, never
before its next number; EN becoming 0 stops it; configuration is ignored with WERR while EN = 1; sending moves on by one line.
In P1 Idle (DESIGN CHOICE, log 40) EN only changes which generators start again. Choices of the model in it: log 13, 41, 75. -/
def Obligations.TriggerGeneratorCommands : Prop :=
  ∀ (s : State) (g : Fin 24), s.asleep = false →
    (s.inP1 = false → s.tgEn g = false → s.devFault = false →
      ∃ t, exec (.tgEnable g) s = .next (settle t) ∧ t.tgEn g = true ∧ (t.tg g).first = (t.tg g).next ∧
        (s.tg g).next ≤ (t.tg g).next ∧ (t.seam g).first = true ∧ ((s.tg g).run = some (s.tgStart g, s.rd (R.CHK_TG_L0 g), s.tgPeriod g) →
          (t.tg g).next = max (s.tgFirstAt g ((s.now : Int) + s.tgLead g)) (s.tg g).next)) ∧
    (s.inP1 = false → (s.tgEn g = true ∨ s.devFault = true) → exec (.tgEnable g) s = .next (settle s)) ∧
    (s.inP1 = false → s.tgEn g = true → exec (.tgDisable g) s = .next (settle (generatorOff g s))) ∧
    (s.inP1 = false → s.tgEn g = false → exec (.tgDisable g) s = .next (settle s)) ∧
    (s.inP1 = true → exec (.tgEnable g) s = .next (settle s)) ∧
    (s.inP1 = true → exec (.tgDisable g) s =
      .next (settle { s with power := { s.power with gens := s.power.gens.filter (· != g.val) } })) ∧
    (∀ (off : Fin 16) (v : Word), s.tgEn g = true → 1 ≤ off.val → off.val ≤ 6 →
      exec (.tgConfigWrite g off v) s = .next (settle (s.wr (R.CHK_TG_STAT_WERR g) 1))) ∧
    (∀ v : Word, s.tgEn g = false →
      exec (.tgConfigWrite g 1 v) s = .next (settle (s.wr (R.CHK_TG_LEAD_LEAD g) v.toNat)) ∧
      exec (.tgConfigWrite g 2 v) s = .next (settle (s.wr (R.CHK_TG_PERIOD_INT_INT g) v.toNat)) ∧
      exec (.tgConfigWrite g 3 v) s = .next (settle (s.wr (R.CHK_TG_PERIOD_FRAC_FRAC g) v.toNat)) ∧
      exec (.tgConfigWrite g 4 v) s = .next (settle (s.wr (R.CHK_TG_START_LO g) v.toNat)) ∧
      exec (.tgConfigWrite g 5 v) s = .next (settle (s.wr (R.CHK_TG_START_HI g) v.toNat)) ∧
      exec (.tgConfigWrite g 6 v) s = .next (settle (s.wr (R.CHK_TG_L0 g) v.toNat))) ∧
    (s.tgEn g = true → ∃ t, exec (.triggerSend g) s = .next (settle t) ∧ (t.tg g).next = (s.tg g).next + 1 ∧
      t.rd (R.CHK_TG_NEXT_LINE g) = t.tgLine g ((s.tg g).next + 1 : Nat)) ∧
    (s.tgEn g = false → exec (.triggerSend g) s = .next (settle s))

/-- R53, R54, R58 to R61, R63: block lock is found and lost, and the bounds of an attempt expire, on a lane not under test. In
LOCKING a lock starts training with IDENT awaited; a lane in OFF takes none; in TRAINING a loss returns to LOCKING; lanes
without lock in 50 ms make their port ABSENT, each with its lock event; an attempt that has trained in vain is TRAIN_FAIL; a
single lane in UP starts anew. Choices of the model in it: log 4, 92. -/
def Obligations.LaneLockCommands : Prop :=
  ∀ (s : State) (n : Fin 192) (energy : Bool), s.asleep = false → s.tstMode n = 0 →
    (s.laneState n = 1 → ∃ t, exec (.blockLockAcquired n) s = .next (settle t) ∧ t.rd (R.VSP_LANE_STAT_BLOCK_LOCK n) = 1 ∧
      t.rd (R.VSP_LANE_STAT_SIG_DET n) = 1 ∧ t.laneState n = 2 ∧ (t.lane n).phase = .ident ∧ (t.lane n).lockTimer = false ∧
      t.raised = s.raised ∧ t.cnt = s.cnt) ∧
    (s.laneState n ≠ 0 → s.laneState n ≠ 1 → exec (.blockLockAcquired n) s =
      .next (settle ((s.wr (R.VSP_LANE_STAT_BLOCK_LOCK n) 1).wr (R.VSP_LANE_STAT_SIG_DET n) 1))) ∧
    (s.laneState n = 0 → exec (.blockLockAcquired n) s = .next (settle s)) ∧
    ((s.laneState n = 0 ∨ s.flag (R.VSP_LANE_STAT_BLOCK_LOCK n) = false) →
      exec (.blockLockLost ⟨n, energy⟩) s = .next (settle s)) ∧
    (s.laneState n ≠ 0 → s.flag (R.VSP_LANE_STAT_BLOCK_LOCK n) = true →
      let u := ((s.inc (R.VSP_LOCK_LOSS n)).wr (R.VSP_LANE_STAT_BLOCK_LOCK n) 0).wr (R.VSP_LANE_STAT_SIG_DET n) (b2n energy)
      (s.laneState n ≠ 2 → s.laneState n ≠ 3 → exec (.blockLockLost ⟨n, energy⟩) s = .next (settle u)) ∧
      (s.laneState n = 2 → ∃ t, exec (.blockLockLost ⟨n, energy⟩) s = .next (settle t) ∧ t.laneState n = 1 ∧
        (t.lane n).lostLock = true ∧ (t.lane n).linkUp = false ∧ t.rd (R.VSP_LANE_STAT_BLOCK_LOCK n) = 0 ∧ t.cnt = u.cnt ∧
        t.raised = s.raised) ∧
      (s.laneState n = 3 → s.inGang n = false → exec (.blockLockLost ⟨n, energy⟩) s =
        .next (settle (attempt n ((portLeaveUp n (u.wr (R.VSP_LANE_STAT_ALIGNED n) 0)).raise (6 * n))))) ∧
      (s.laneState n = 3 → s.inGang n = true → exec (.blockLockLost ⟨n, energy⟩) s = .next (settle (gangTape n n u)))) ∧
    ((∃ i ∈ s.chan n, s.laneState i = 1 ∧ (s.lane i).lockTimer = true) →
      ∃ t, exec (.lockTimerExpiry ⟨n, energy⟩) s = .next (settle t) ∧ (∀ i ∈ s.chan n, t.laneState i = 4) ∧
        t.rd (R.VSP_LANE_STAT_RETRY_K (s.base n)) = min 9 (s.rd (R.VSP_LANE_STAT_RETRY_K (s.base n)) + 1) ∧
        t.raised = s.raised ++ ((s.chan n).filter (fun i => s.laneState i == 1 && (s.lane i).lockTimer)).map (fun i => 6 * i)) ∧
    ((∀ i ∈ s.chan n, s.laneState i = 1 → (s.lane i).lockTimer = false) →
      exec (.lockTimerExpiry ⟨n, energy⟩) s = .next (settle s)) ∧
    ((∃ i ∈ s.chan n, (s.lane i).trainAt.isSome ∧ (s.laneState i = 1 ∨ s.laneState i = 2)) → exec (.trainBudgetExpiry n) s =
      .next (settle (trainFail (s.base n) (s.budgetCause n) (s.budgetLanes n (s.budgetCause n)) s))) ∧
    ((∀ i ∈ s.chan n, (s.lane i).trainAt = none) → exec (.trainBudgetExpiry n) s = .next (settle s))

/-- R56 to R59, R64: the search of a training lane. Adaptation ends in measuring, or in waiting for an answer, with the CTLE
adapted; SETTLE ends in measuring; a window is shown and judged, and within the limits converges a lane whose channel it
completes; the second and the third missing answer; UP not reached restarts training; 64 clear blocks let the channel try for
UP, a single lane at once. Choices of the model in it: log 92. -/
def Obligations.LaneTrainingCommands : Prop :=
  ∀ (s : State) (n : Fin 192), s.asleep = false →
    (∀ eq : RxEq, s.laneState n = 2 → (s.lane n).phase = .adapting →
      ∃ t, exec (.adaptationEnd n eq) s = .next (settle t) ∧
        t.lane n = { s.lane n with adapted := true, phase := if (s.lane n).waiting then .requesting else .measuring } ∧
        t.rd (R.VSP_RX_EQ_CTLE n) = eq.ctle ∧ t.cnt = s.cnt ∧ t.raised = s.raised) ∧
    (s.laneState n = 2 → (s.lane n).phase = .settling →
      exec (.settleExpiry n) s = .next (settle (s.setLane n { s.lane n with phase := .measuring }))) ∧
    ((s.lane n).phase ≠ .settling → exec (.settleExpiry n) s = .next (settle s)) ∧
    (∀ bad pe height width eq,
      let k := s.windowBlocks n + s.blocksIn n (if s.laneState n = 2 then 10 * (s.lane n).settle else 0)
      let u := (((storeEq n k eq s).wr (R.VSP_EYE_PE_LAST n) (min pe 65535)).wr (R.VSP_EYE_HEIGHT n) (min height 255)).wr
        (R.VSP_EYE_WIDTH n) (min width 255)
      ((s.laneState n ≠ 2 ∨ (s.lane n).phase ≠ .measuring) →
        exec (.measureWindowEnd n bad pe height width eq) s = .next (settle u)) ∧
      (s.laneState n = 2 → (s.lane n).phase = .measuring →
        exec (.measureWindowEnd n bad pe height width eq) s = .next (settle (judgeWindow n bad pe u)))) ∧
    (∀ pe height width eq, s.laneState n = 2 → (s.lane n).phase = .measuring → s.chan n = [n.val] → pe ≤ (s.lane n).peMax →
      ∃ t, exec (.measureWindowEnd n 0 pe height width eq) s = .next (settle t) ∧
        t.lane n = { s.lane n with phase := .linkUp, converged := true, linkUp := true, upSent := true, seen64 := false,
                                   clear64 := false }) ∧
    (s.laneState n = 2 → (s.lane n).waiting = true → (s.lane n).timeouts < 2 → exec (.tapreqTimeout n) s =
      .next (settle ((s.inc (R.VSP_TAP_TMO n)).setLane n { s.lane n with timeouts := (s.lane n).timeouts + 1, echo := false }))) ∧
    (s.laneState n = 2 → (s.lane n).waiting = true → 2 ≤ (s.lane n).timeouts →
      exec (.tapreqTimeout n) s = .next (settle (trainRestart n (s.inc (R.VSP_TAP_TMO n))))) ∧
    (s.laneState n = 2 → (s.lane n).linkUp = true → exec (.linkupTimeout n) s = .next (settle
      (s.forAll (s.chan n) (fun i t => if t.laneState i = 2 then trainRestart i t else t)))) ∧
    ((s.lane n).linkUp = false → exec (.linkupTimeout n) s = .next (settle s)) ∧
    (s.tstMode n = 0 → s.laneState n = 2 → (s.lane n).linkUp = true →
      let u := s.setLane n { s.lane n with clear64 := true, seen64 := true }
      exec (.portUp n) s = .next (settle (tryUp n u)) ∧ (s.chan n = [n.val] → s.inGang n = false → tryUp n u = enterUp n u)) ∧
    (s.tstMode n = 0 → (s.lane n).linkUp = false → exec (.portUp n) s = .next (settle s))

/-- R55, R61, R63, R72, R74: retries and retraining. The retry time of ABSENT or TRAIN_FAIL starts a new attempt, of TAPED only
when nothing else holds the gang; RETRY acts in ABSENT and TRAIN_FAIL alone and clears k; RETRAIN acts in UP alone; a burst of
RETRAIN ends. A new attempt puts the lane into LOCKING and is counted; a failed one is TRAIN_FAIL with its cause, k up by one to
at most 9, and the training event. Choices of the model in it: log 5, 6, 7, 92. -/
def Obligations.LaneAttemptsAndRetries : Prop :=
  (∀ (s : State) (n : Fin 192), s.asleep = false →
    ((s.laneState (s.base n) = 4 ∨ s.laneState (s.base n) = 5) → exec (.retryTimerExpiry n) s = .next (settle (attempt n s))) ∧
    (s.laneState (s.base n) = 6 → (s.lane (s.base n)).lossTaped = true → s.byScope (s.base n) = false →
      (s.unit (s.base n)).shed = false → s.portUntested n = true → exec (.retryTimerExpiry n) s = .next (settle (attempt n s))) ∧
    (s.laneState (s.base n) = 6 → (s.lane (s.base n)).lossTaped = false → exec (.retryTimerExpiry n) s = .next (settle s)) ∧
    (s.laneState (s.base n) < 4 → exec (.retryTimerExpiry n) s = .next (settle s)) ∧
    ((s.laneState n = 4 ∨ s.laneState n = 5) → exec (.laneRetry n) s = .next (settle
      (attempt n (s.forAll (s.chan n) (fun i t => t.wr (R.VSP_LANE_STAT_RETRY_K i) 0))))) ∧
    (s.laneState n ≠ 4 → s.laneState n ≠ 5 → exec (.laneRetry n) s = .next (settle s)) ∧
    (s.laneState n = 3 → exec (.laneRetrain n) s = .next (settle (backToTraining n true s))) ∧
    (s.laneState n ≠ 3 → exec (.laneRetrain n) s = .next (settle s)) ∧
    exec (.retrainBurstEnd n) s = .next (settle (s.setLane n { s.lane n with burst := false }))) ∧
  ((∀ (s : State) (n : Nat), s.chan n = [n] → (attempt n s).laneState n = 1 ∧ (attempt n s).cnt = (s.inc (R.VSP_TRAIN_ATT n)).cnt ∧
    ((attempt n s).lane n).lockTimer = true ∧ ((attempt n s).lane n).trainAt = none ∧
    (attempt n s).rd (R.VSP_LANE_STAT_BLOCK_LOCK n) = 0 ∧ (attempt n s).raised = s.raised) ∧
  (∀ (s : State) (n cause : Nat), s.chan n = [n] → s.base n = n → cause < 8 → (trainFail n cause [n] s).laneState n = 5 ∧
    (trainFail n cause [n] s).rd (R.VSP_TRAIN_STAT_CAUSE n) = cause ∧
    (trainFail n cause [n] s).rd (R.VSP_LANE_STAT_RETRY_K n) = min 9 (s.rd (R.VSP_LANE_STAT_RETRY_K n) + 1) ∧
    (trainFail n cause [n] s).raised = s.raised ++ [6 * n + 5]))

/-- R45 to R51, R53, R55, R66 to R70, R22: blocks that a scrambler in step sends to a lane not under test. With block lock a
FILLER moves the elastic buffer by its fill, a TRAIN block is taken and CAPS sent twice is latched, a reserved block and one
with an invalid header are counted, an ALIGN of a gang is judged; without lock only the descrambler moves, in OFF nothing. A
queue overflow is the lock event. -/
def Obligations.BlockCommands : Prop :=
  ∀ (s : State) (n : Fin 192) (u : Block) (fill : Fin 65), s.asleep = false → s.tstMode n = 0 →
    let w := onWire (s.lane n).rxScr u
    let l := { s.lane n with rxScr := scrNext (blockPayload w) }
    (s.laneState n = 0 → exec (.fillerReceived n ⟨w, fill⟩) s = .next (settle s) ∧ exec (.trainReceived n w fill) s = .next (settle s) ∧
      exec (.reservedBlockReceived n w) s = .next (settle s) ∧ (∀ skew, exec (.alignReceived n w false skew) s = .next (settle s)) ∧
      exec (.dualClockQueueOverflow n) s = .next (settle s)) ∧
    (s.laneState n ≠ 0 →
    (s.flag (R.VSP_LANE_STAT_BLOCK_LOCK n) = false →
      exec (.fillerReceived n ⟨w, fill⟩) s = .next (settle (s.setLane n l)) ∧
      exec (.trainReceived n w fill) s = .next (settle (s.setLane n l)) ∧
      exec (.reservedBlockReceived n w) s = .next (settle (s.setLane n l)) ∧
      ∀ skew, exec (.alignReceived n w false skew) s = .next (settle (s.setLane n l))) ∧
    (s.flag (R.VSP_LANE_STAT_BLOCK_LOCK n) = true → blockKind u = .filler → exec (.fillerReceived n ⟨w, fill⟩) s = .next (settle (
      let l1 := { l with burst := l.burst || (s.laneState n == 2 && !l.linkUp) }
      if fill.val = 0 ∨ fill.val = 64 then
        ((packetCut (s.base n) ((s.setLane n { l1 with fill := 32 }).inc (R.VSP_EB_ERR n))).raiseIf (s.laneState n != 7) (6 * n))
      else if 40 < fill.val then (s.setLane n { l1 with fill := fill - 1 }).inc (R.VSP_FILL_DEL n)
      else if fill.val < 24 then (s.setLane n { l1 with fill := fill + 1 }).inc (R.VSP_FILL_INS n)
      else s.setLane n { l1 with fill := fill }))) ∧
    (s.flag (R.VSP_LANE_STAT_BLOCK_LOCK n) = true → blockKind u = .train →
      exec (.trainReceived n w fill) s = .next (settle (trainBlock n (blockBytes u) fill (s.setLane n l)))) ∧
    (s.flag (R.VSP_LANE_STAT_BLOCK_LOCK n) = true → blockKind u = .train → s.laneState n ≠ 2 → s.laneState n ≠ 3 →
      bits (beAt (blockBytes u) 1 1) 7 6 = 1 → (s.lane n).capsPage = some (slice (blockBytes u) 3 5) →
      ∃ t, exec (.trainReceived n w fill) s = .next (settle t) ∧ t.laneState n = s.laneState n ∧
        t.rd (R.VSP_HEAD_CAPS_MAX_LINE n) = beAt (blockBytes u) 6 1 ∧
        t.rd (R.VSP_HEAD_CAPS_STREAMS n) = bits (beAt (blockBytes u) 5 1) 3 0 ∧ t.raised = s.raised) ∧
    (s.flag (R.VSP_LANE_STAT_BLOCK_LOCK n) = true → (blockKind u = .reserved ∨ blockKind u = .invalid) →
      let s1 := s.setLane n { l with bip := l.bip ^^^ bip8 (blockBytes u) }
      exec (.reservedBlockReceived n w) s = .next (settle (packetBad (s.base n)
        ((if blockKind u = .invalid then s1.inc (R.VSP_SYNC_ERR n) else s1).inc (R.VSP_BLK_ERR n))))) ∧
    (∀ skew, s.flag (R.VSP_LANE_STAT_BLOCK_LOCK n) = true → blockKind u = .align →
      (s.inGang n = false → exec (.alignReceived n w false skew) s = .next (settle (s.setLane n l)) ∧
        exec (.alignReceived n w true skew) s = .next (settle s)) ∧
      (s.inGang n = true → exec (.alignReceived n w false skew) s = .next (settle (alignAt n (s.alignMarker n (blockBytes u) skew)
        ((if beAt (blockBytes u) 6 1 = l.bip.toNat then s else s.inc (R.VSP_BIP_ERR n)).setLane n { l with bip := 0 })))) ∧
      (∀ m, s.inGang n = true → s.flag (R.VSP_LANE_STAT_ALIGNED (s.base n)) = true → beAt (blockBytes u) 6 1 = l.bip.toNat →
        s.alignMarker n (blockBytes u) skew = some m → m = ((s.lane n).marker.getD 0 + 1) % 2 ^ 32 →
        exec (.alignReceived n w false skew) s = .next (settle (s.setLane n { l with bip := 0, marker := some m, alignBad := 0 })))) ∧
    exec (.dualClockQueueOverflow n) s = .next (settle ((packetCut (s.base n) s).raiseIf (s.laneState n != 7) (6 * n))))

/-- R52, R84, R89, R91, R98: line packets on a single lane in UP. SOP and the four blocks of a header are judged by its checks;
a wrong HCRC drops it with CAUSE 1 and the CRC event; one that passes is accepted against its trigger; the blocks that follow
gather until the packet is whole, which goes to Render, good or dropped; a trigger entry expires at its deadline; the 16-trigger
rule releases the first waiting trigger. Choices of the model in it: log 2, 8, 85, 99. -/
def Obligations.LinePacketCommands : Prop :=
  ∀ (s : State) (n : Fin 192), s.asleep = false →
    (s.tstMode n = 0 → s.laneState n = 3 → s.flag (R.VSP_LANE_STAT_BLOCK_LOCK n) = true → s.inGang n = false →
      (∀ h : List Byte, h.length = 32 →
        let us := controlBlock [0x2D] :: dataBlocks h
        exec (.lineHeaderReceived n ((s.lane n).wire us)) s = .next (settle (lineHeader n h false
          (let t := packetCut n s
           (t.setPort n { t.port n with head := none, pkt := none }).setLane n ((s.lane n).took us))))) ∧
      (∀ (bs : List Byte) (k : Pkt) (w : Fin 4 × Block), bs.length = 8 → (s.port n).head = none → (s.port n).pkt = some k →
        (s.lane n).wire [dataBlock bs] = [w] →
        let t := s.setLane n ((s.lane n).took [dataBlock bs])
        let k1 := { k with rest := k.rest ++ bs }
        (k.accepted = true → hdrLength k.header + 4 ≤ k1.rest.length →
          exec (.linePayloadEnd n [] w) s = .next (settle (linePayload n k1 t))) ∧
        (k.accepted = true → k1.rest.length < hdrLength k.header + 4 →
          exec (.linePayloadEnd n [] w) s = .next (settle (t.setPort n { s.port n with pkt := some k1 }))) ∧
        (k.accepted = false → exec (.linePayloadEnd n [] w) s = .next (settle t))) ∧
      ∀ (ws : List (Fin 4 × Block)) (w : Fin 4 × Block),
        exec (.linePayloadEnd n ws w) s = .next (settle (rxBlocks n [w] (rxBlocks n ws s)))) ∧
    (∀ (h : List Byte) (bad : Bool), (∀ e ∈ (s.port n).trigs, e.expired = true ∨ s.now < e.deadline) →
      (crc16 (slice h 0 30) ≠ beAt h 30 2 → lineHeader n h bad s =
        ((((((s.setPort n { s.port n with pkt := some ⟨h, 0, 0, false, bad, 0, []⟩ }).inc (R.VSP_HCRC_ERR n)).wr
          (R.VSP_LAST_DROP_CAUSE n) 1).wr (R.VSP_LAST_DROP_STREAM n) 0).wr (R.VSP_LAST_DROP_LINE n) 0).raise (6 * n + 1))) ∧
      (∀ e : TrigEnt, s.headerCheck1 n h = none → s.headerCheck2 n h = .ok e → (s.port n).lastLine.get none (hdrStream h) = none →
        s.groupOf n = none → ((lineHeader n h bad s).port n).pkt = some ⟨h, e.n, e.time, true, bad, s.skimFree n, []⟩ ∧
          ((lineHeader n h bad s).port n).lastLine.get none (hdrStream h) = some (hdrLine h) ∧
          (lineHeader n h bad s).regs = s.regs ∧ (lineHeader n h bad s).raised = s.raised)) ∧
    (∀ k : Pkt, let t := s.setPort n { s.port n with pkt := none }
      let payload := slice k.rest 0 (hdrLength k.header)
      (k.bad = false → crc32c payload = beAt k.rest (hdrLength k.header) 4 →
        linePayload n k s = lineToRender n k payload true (t.inc (R.VSP_LINES_OK n))) ∧
      ((k.bad = true ∨ crc32c payload ≠ beAt k.rest (hdrLength k.header) 4) → linePayload n k s = lineToRender n k payload false
        (dropLine n ⟨R.VSP_PCRC_ERR n, 11, some 1⟩ (hdrStream k.header) (hdrLine k.header) t))) ∧
    (∀ e : TrigEnt, (s.port n).trigs = [e] → e.expired = false →
      exec (.triggerEntryExpiry n) s = .next (settle (trigExpireDue n (s.atTime e.deadline)))) ∧
    (exec (.triggerEntryExpiry n) s = .next (settle (trigEntryDue n s))) ∧
    ((s.port n).trigs = [] → exec (.triggerEntryExpiry n) s = .next (settle s)) ∧
    (∀ (e : TrigEnt) (rest : List TrigEnt), (s.port n).heldTrigs = e :: rest → (s.futureTrigs n).length < 16 →
      exec (.triggerRelease n) s = .next (settle (trigSendNow n e (s.setPort n { s.port n with heldTrigs := rest })))) ∧
    (∀ (e : TrigEnt) (rest : List TrigEnt), (s.port n).heldTrigs = e :: rest → 16 ≤ (s.futureTrigs n).length →
      let t := s.atTime (((s.futureTrigs n)[(s.futureTrigs n).length - 16]?).getD 0)
      exec (.triggerRelease n) s = .next (settle (trigSendNow n e (t.setPort n { t.port n with heldTrigs := rest })))) ∧
    ((s.port n).heldTrigs = [] → exec (.triggerRelease n) s = .next (settle s))

/-- R100 to R105: the back channel of a port in UP. A message completes: its units leave as scrambled blocks and USEQ advances
by them; a unit is taken, and one out of place counted; a sync exchange starts with T1, is refused while one is outstanding,
takes delay and offset from its answer, and times out, the eighth time in a row with the timeout event. Choices of the model in
it: log 86, 92, 99. -/
def Obligations.BackChannelCommands : Prop :=
  ∀ (s : State) (n : Fin 192), s.asleep = false →
    (∀ m : Msg, (s.port n).txCur = some m → (s.port n).txQueue = [] →
      let us := (s.port n).bcFifo ++ (s.port n).bcRest
      let x := wireAll (s.lane n).txScr (us.map unitBlock)
      exec (.bcMessageSent n) s = .next (settle (({ s with pins := { s.pins with vslLost := false } }.setLane n
        { s.lane n with txScr := x.2 }).setPort n { s.port n with txCur := none, txSeq := ((s.port n).txSeq + us.length) % 64,
                                                                  bcFifo := [], bcRest := [], txOut := x.1 }))) ∧
    (exec (.bcMessageSent n) s = .next (settle (bcSent n { s with pins := { s.pins with vslLost := false } }))) ∧
    ((s.port n).txCur = none → exec (.bcMessageSent n) s = .next (settle { s with pins := { s.pins with vslLost := false } })) ∧
    (∀ u : List Byte, u.length = 7 → s.tstMode n = 0 → s.laneState n = 3 → s.base n = n →
      s.flag (R.VSP_LANE_STAT_BLOCK_LOCK n) = true →
      let t := s.setLane n ((s.lane n).took [unitBlock u])
      exec (.badMessageReceived n (((s.lane n).wire [unitBlock u]).map (·.2))) s = .next (settle (msgUnit n u t)) ∧
      ((s.port n).rxMsg = none → (beAt u 0 1).testBit 7 = false → msgUnit n u t =
        (t.setPort n { s.port n with rxMsg := none, rxSeq := (bits (beAt u 0 1) 5 0 + 1) % 64 }).inc (R.VSP_MSG_ERR n))) ∧
    (s.base n = n → s.laneState n = 3 → (s.port n).syncOut = none → (s.port n).txCur = none → (s.port n).txQueue = [] → ∃ t,
      exec (.syncExchangeTimer n) s = .next (settle t) ∧ (t.port n).syncOut = some ((s.port n).syncNext, s.now) ∧
        (t.port n).txCur = some (.syncReq (s.port n).syncNext s.now) ∧ (t.port n).syncNext = ((s.port n).syncNext + 1) % 256 ∧
        t.regs = s.regs ∧ t.cnt = s.cnt ∧ t.raised = s.raised) ∧
    ((s.port n).syncOut.isSome = true → exec (.syncExchangeTimer n) s = .next (settle s)) ∧
    (s.msgPort n = false → exec (.syncExchangeTimer n) s = .next (settle s) ∧
      ∀ (seq : Byte) (t2 t3 : BitVec 64), exec (.syncRspReceived n seq t2 t3) s = .next (settle s)) ∧
    (∀ (seq : Byte) (t1 : Nat) (t2 t3 : BitVec 64), s.msgPort n = true → (s.port n).syncOut = some (seq.toNat, t1) →
      s.now ≤ t1 + 100000 → ∃ t, exec (.syncRspReceived n seq t2 t3) s = .next (settle t) ∧
        t.rd (R.VSP_SYNC_DELAY_DELAY n) = min (syncDelay t1 t2.toNat t3.toNat s.now).toNat 65535 ∧
        ((s.port n).delays = [] → t.rd (R.VSP_SYNC_STAT_OFFSET n) = satSigned 24 (syncOffset t1 t2.toNat t3.toNat s.now
          (toSigned 16 (s.rd (R.VSP_SYNC_CFG_ASYM n))))) ∧ t.raised = s.raised) ∧
    (∀ (seq : Byte) (t2 t3 : BitVec 64), s.msgPort n = true → (s.port n).syncOut.map (·.1) ≠ some seq.toNat →
      exec (.syncRspReceived n seq t2 t3) s = .next (settle ((msgBegin n 17 s).inc (R.VSP_MSG_ERR n)))) ∧
    ((s.port n).syncOut.isSome = true → (s.port n).tmoRun = 7 → exec (.syncTimeout n) s = .next (settle
      ((((s.inc (R.VSP_SYNC_TMO n)).setPort n { s.port n with syncOut := none, tmoRun := 8, goodRun := 0 }).wr
        (R.VSP_SYNC_STAT_SYNCED n) 0).raise (6 * n + 4)))) ∧
    ((s.port n).syncOut.isSome = true → (s.port n).tmoRun ≠ 7 → exec (.syncTimeout n) s = .next (settle
      ((s.inc (R.VSP_SYNC_TMO n)).setPort n { s.port n with syncOut := none, tmoRun := (s.port n).tmoRun + 1 }))) ∧
    ((s.port n).syncOut = none → exec (.syncTimeout n) s = .next (settle s))

/-- R106, R107: relayed head commands. GO sends when the port is UP, no command is outstanding and LEN fits, and is refused
otherwise; the response with the command's TAG ends it with DONE, the time-out with TIMEOUT; a response to no command is
counted; a HEAD_EVT goes to the Hawk queue when EVT_EN. -/
def Obligations.HeadCommandCommands : Prop :=
  ∀ (s : State) (n : Fin 192), s.asleep = false →
    (s.base n = n → s.flag (R.VSP_CMD_STAT_BUSY n) = false → s.rd (R.VSP_CMD_CTRL_LEN n) ≤ 248 → s.laneState n = 3 → ∃ t,
      exec (.headCmdGo n) s = .next (settle t) ∧ t.rd (R.VSP_CMD_STAT_BUSY n) = 1 ∧ t.rd (R.VSP_CMD_STAT_STATUS n) = 1 ∧
        (t.port n).cmdTag = s.rd (R.VSP_CMD_CTRL_TAG n) ∧ t.cnt = s.cnt ∧ t.raised = s.raised) ∧
    (s.base n ≠ n → exec (.headCmdGo n) s = .next (settle s)) ∧
    (s.base n = n → (s.flag (R.VSP_CMD_STAT_BUSY n) = true ∨ 248 < s.rd (R.VSP_CMD_CTRL_LEN n) ∨ s.laneState n ≠ 3) →
      exec (.headCmdGo n) s = .next (settle (s.wr (R.VSP_CMD_STAT_REFUSED n) 1))) ∧
    (∀ (tag : BitVec 16) (data : List Byte), s.msgPort n = true → s.flag (R.VSP_CMD_STAT_BUSY n) = true →
      (s.port n).cmdTag = tag.toNat → data.length ≤ 248 → ∃ t, exec (.headRspReceived n tag data) s = .next (settle t) ∧
        t.rd (R.VSP_CMD_STAT_BUSY n) = 0 ∧ t.rd (R.VSP_CMD_STAT_STATUS n) = 2 ∧
        t.rd (R.VSP_CMD_STAT_RSP_LEN n) = data.length) ∧
    (∀ (tag : BitVec 16) (data : List Byte), s.msgPort n = true →
      (s.flag (R.VSP_CMD_STAT_BUSY n) = false ∨ (s.port n).cmdTag ≠ tag.toNat ∨ 248 < data.length) →
      exec (.headRspReceived n tag data) s = .next (settle ((msgBegin n (2 + data.length) s).inc (R.VSP_MSG_ERR n)))) ∧
    (s.flag (R.VSP_CMD_STAT_BUSY n) = true → exec (.headCmdTimeout n) s = .next (settle
      (let t := (s.wr (R.VSP_CMD_STAT_STATUS n) 3).wr (R.VSP_CMD_STAT_BUSY n) 0
       if s.flag (R.VSP_CMD_CFG_RSP_EN n) then hawkNote true (s.rd (R.VSP_CMD_CFG_HQ n)) (s.rd (R.VSP_CMD_CFG_PRIO n))
         [0x02 * 2 ^ 24 + 2 ^ 16 + n * 2 ^ 8, (s.port n).cmdTag] (R.VSP_EVT_DROP n) t
       else t))) ∧
    (s.flag (R.VSP_CMD_STAT_BUSY n) = false → exec (.headCmdTimeout n) s = .next (settle s)) ∧
    (∀ data : List Byte, s.msgPort n = true → data.length ≠ 0 → data.length ≤ 248 → exec (.headEvtReceived n data) s = .next (settle (
      let t := msgBegin n data.length s
      if s.flag (R.VSP_CMD_CFG_EVT_EN n) then hawkNote true (s.rd (R.VSP_CMD_CFG_HQ n)) (s.rd (R.VSP_CMD_CFG_PRIO n))
        ([0x01 * 2 ^ 24 + n * 2 ^ 8 + data.length, 0] ++ leWords data) (R.VSP_EVT_DROP n) t
      else t))) ∧
    (∀ data : List Byte, s.msgPort n = true → (data.length = 0 ∨ 248 < data.length) →
      exec (.headEvtReceived n data) s = .next (settle ((msgBegin n data.length s).inc (R.VSP_MSG_ERR n)))) ∧
    (s.msgPort n = false → (∀ data, exec (.headEvtReceived n data) s = .next (settle s)) ∧
      ∀ tag data, exec (.headRspReceived n tag data) s = .next (settle s))

/-- R108, R109, R506: the identity challenge. A start without the capability or without a key gives its RESULT; otherwise a
fresh nonce of 32 bytes is drawn and RESULT is PENDING; the right MAC passes, a wrong one fails with the range event, and so
does silence; a key word sets KEY_SET when its path may write key material. Choices of the model in it: log 11, 12. -/
def Obligations.ChallengeCommands : Prop :=
  ∀ (s : State) (n : Fin 192), s.asleep = false →
    ((s.base n ≠ n ∨ s.rd (R.VSP_CHAL_STAT_RESULT n) = 1) → exec (.chalStart n) s = .next (settle s)) ∧
    (s.base n = n → s.rd (R.VSP_CHAL_STAT_RESULT n) ≠ 1 → s.flag (R.VSP_HEAD_CAPS_CHAL n) = false →
      exec (.chalStart n) s = .next (settle (s.wr (R.VSP_CHAL_STAT_RESULT n) 5))) ∧
    (s.base n = n → s.rd (R.VSP_CHAL_STAT_RESULT n) ≠ 1 → s.flag (R.VSP_HEAD_CAPS_CHAL n) = true →
      s.flag (R.VSP_CHAL_STAT_KEY_SET n) = false →
      exec (.chalStart n) s = .next (settle (s.wr (R.VSP_CHAL_STAT_RESULT n) 6))) ∧
    (s.base n = n → s.rd (R.VSP_CHAL_STAT_RESULT n) ≠ 1 → s.flag (R.VSP_HEAD_CAPS_CHAL n) = true →
      s.flag (R.VSP_CHAL_STAT_KEY_SET n) = true → ∃ t, exec (.chalStart n) s = .next (settle t) ∧ t.rd (R.VSP_CHAL_STAT_RESULT n) = 1 ∧ (t.port n).nonce.length = 32 ∧
        t.draws = s.draws + 32 ∧ t.cnt = s.cnt ∧ t.raised = s.raised) ∧
    (∀ mac : List Byte, s.msgPort n = false → exec (.chalRspReceived n mac) s = .next (settle s)) ∧
    (∀ mac : List Byte, s.msgPort n = true → mac.length ≠ 32 →
      exec (.chalRspReceived n mac) s = .next (settle ((msgBegin n mac.length s).inc (R.VSP_MSG_ERR n)))) ∧
    (∀ mac : List Byte, s.msgPort n = true → mac.length = 32 → s.rd (R.VSP_CHAL_STAT_RESULT n) = 1 →
      exec (.chalRspReceived n mac) s = .next (settle (let t := msgBegin n 32 s
      if mac = Config.hmacSha256 (s.port n).key ((s.port n).nonce ++ beBytes 4 (s.rd (R.VSP_HEAD_ID_HEAD_ID n)) ++ [byte n])
      then t.wr (R.VSP_CHAL_STAT_RESULT n) 2 else (t.wr (R.VSP_CHAL_STAT_RESULT n) 3).raise (6 * n + 3)))) ∧
    (∀ mac : List Byte, s.msgPort n = true → mac.length = 32 → s.rd (R.VSP_CHAL_STAT_RESULT n) ≠ 1 →
      exec (.chalRspReceived n mac) s = .next (settle (msgBegin n 32 s))) ∧
    exec (.chalTimeout n) s = .next (settle (if s.rd (R.VSP_CHAL_STAT_RESULT n) = 1 then
      (s.wr (R.VSP_CHAL_STAT_RESULT n) 4).raise (6 * n + 3) else s)) ∧
    (∀ (k : Fin 8) (v : Word) (p : Path), exec (.chalKeyWrite n k v p) s = .next (settle (
      if s.denied p true (0x1000000 + n * 0x10000 + 0x620 + 4 * k) then s
      else (s.setPort n { s.port n with
        key := (s.port n).key.take (4 * k) ++ beBytes 4 v.toNat ++ (s.port n).key.drop (4 * k + 4) }).wr
        (R.VSP_CHAL_STAT_KEY_SET n) 1)))

/-- R430, R432, R438, R439: writing a Hawk queue. WHDR opens an item in a free tail entry, and errs on a LEN outside 1 to 64;
the last word completes the item into the tail and counts it; words without an item err; a header while an item is open discards
that item; a write to a full or taped queue overruns. FLUSH takes every held item, complete or open, into the flush set; the end
of the flush discards the set; ECC changes only while the queue is empty. -/
def Obligations.HawkWriteCommands : Prop :=
  ∀ (s : State) (q : Fin 64), s.asleep = false →
    (∀ v : Word, (s.hq q).asm = none → (s.hq q).taped = false → 1 ≤ bits v.toNat 6 0 → bits v.toNat 6 0 ≤ 64 →
      (s.hq q).tail.length < 16 → exec (.hawkWhdrWrite q v) s = .next (settle (s.setHq q { s.hq q with
        asm := some ⟨bits v.toNat 10 8, bits v.toNat 6 0, [], false⟩, ignore := 0 }))) ∧
    (∀ v : Word, (s.hq q).asm = none → (s.hq q).taped = false → (bits v.toNat 6 0 = 0 ∨ 64 < bits v.toNat 6 0) →
      exec (.hawkWhdrWrite q v) s = .next (settle ((s.setHq q { s.hq q with ignore := 0 }).wr (R.HWK_Q_STAT_ITEM_ERR q) 1))) ∧
    (∀ v : Word, (s.hq q).asm = none → ((s.hq q).taped = true ∨ (1 ≤ bits v.toNat 6 0 ∧ bits v.toNat 6 0 ≤ 64 ∧
        16 ≤ (s.hq q).tail.length)) → exec (.hawkWhdrWrite q v) s =
      .next (settle (hawkOverrun q (s.setHq q { s.hq q with ignore := bits v.toNat 6 0 })))) ∧
    (∀ (v : Word) (a : HawkOpen), (s.hq q).asm = some a → exec (.hawkWhdrWrite q v) s =
      exec (.hawkWhdrWrite q v) (hawkFlushEnd q ((s.setHq q { s.hq q with asm := none }).wr (R.HWK_Q_STAT_ITEM_ERR q) 1))) ∧
    (∀ v : Word, (s.hq q).ignore ≠ 0 → exec (.hawkWdataWrite q v) s =
      .next (settle (s.setHq q { s.hq q with ignore := (s.hq q).ignore - 1 }))) ∧
    (∀ v : Word, (s.hq q).ignore = 0 → (s.hq q).asm = none → exec (.hawkWdataWrite q v) s =
      .next (settle (s.wr (R.HWK_Q_STAT_ITEM_ERR q) 1))) ∧
    (∀ (v : Word) (a : HawkOpen), (s.hq q).ignore = 0 → (s.hq q).asm = some a → a.words.length + 1 < a.len →
      exec (.hawkWdataWrite q v) s = .next (settle (s.setHq q { s.hq q with
        asm := some { a with words := a.words ++ [v.toNat] } }))) ∧
    (∀ (v : Word) (a : HawkOpen), (s.hq q).ignore = 0 → (s.hq q).asm = some a → a.words.length + 1 = a.len → a.flushed = false →
      (s.hq q).flushing = false → (s.hq q).stalled = [] → ∃ t, exec (.hawkWdataWrite q v) s = .next (settle t) ∧
        t.hq q = { s.hq q with asm := none, nextId := (s.hq q).nextId + 1,
                               tail := (s.hq q).tail ++ [⟨(s.hq q).nextId, a.prio, a.words ++ [v.toNat], false, 0⟩] } ∧
        t.cnt = (s.inc (R.HWK_Q_IN q)).cnt ∧ t.raised = s.raised) ∧
    (∀ (v : Word) (a : HawkOpen), (s.hq q).ignore = 0 → (s.hq q).asm = some a → a.len ≤ a.words.length + 1 →
      exec (.hawkWdataWrite q v) s = .next (settle (hawkFlushEnd q (hawkAccept q a.prio (a.words ++ [v.toNat]) a.flushed
        (s.setHq q { s.hq q with asm := none }))))) ∧
    exec (.hawkFlush q) s = .next (settle (s.setHq q { s.hq q with
      flushing := true, cur := none, flushIds := (s.hq q).items.map (·.id),
      asm := (s.hq q).asm.map (fun a => { a with flushed := true }) })) ∧
    ((s.hq q).flushing = true → (∀ a ∈ (s.hq q).asm, a.flushed = false) → ∃ t, exec (.hawkFlushDone q) s = .next (settle t) ∧
      (t.hq q).flushing = false ∧ (t.hq q).flushIds = [] ∧
      (t.hq q).items = (s.hq q).items.filter (fun i => !(s.hq q).flushed i) ∧ t.regs = s.regs ∧ t.raised = s.raised) ∧
    (((s.hq q).flushing = false ∨ ∃ a, (s.hq q).asm = some a ∧ a.flushed = true) → exec (.hawkFlushDone q) s = .next (settle s)) ∧
    (∀ a : HawkOpen, (s.hq q).asm = some a → a.flushed = true → exec (.hawkFlushItemTimeout q) s = .next (settle
      ((s.setHq q { s.hq q with asm := none, ignore := a.len - a.words.length }).wr (R.HWK_Q_STAT_ITEM_ERR q) 1))) ∧
    ((∀ a ∈ (s.hq q).asm, a.flushed = false) → exec (.hawkFlushItemTimeout q) s = .next (settle s)) ∧
    (∀ ecc : Bool, exec (.hawkEccWrite q ecc) s = .next (settle (
      if (s.hq q).items = [] ∧ (s.hq q).asm = none ∧ (s.hq q).flushing = false then s.wr (R.HWK_Q_CFG_ECC q) (if ecc then 1 else 0)
      else s.wr (R.HWK_Q_STAT_CFG_ERR q) 1)))

/-- R430, R431, R434, R435, R437, R440: reading a Hawk queue. RHDR gives the first visible item and makes it current, TAPED on a
taped queue, and on an empty one EMPTY or a stall, and the header of the current item again while there is one; RDATA gives the
current item's next word, with the last of them the item leaves, poisoned with the queue's event where it is known to be bad,
and without one it errs; a move goes through the slots of the middle, whose layout is a free value (log 97); DROP_CUR discards
the current item. -/
def Obligations.HawkReadCommands : Prop :=
  ∀ (s : State) (q : Fin 64), s.asleep = false →
    (∀ p, (s.hq q).taped = true → exec (.hawkRhdrRead q p) s = .next (settle (s.answer p 0 0x20000000))) ∧
    (∀ (p : Path) (i : HawkItem), (s.hq q).taped = false → (s.hq q).cur = none → firstItem (s.hq q).visible = some i →
      exec (.hawkRhdrRead q p) s = .next (settle ((s.setHq q { s.hq q with cur := some (i.id, 0) }).answer p 0
        ((if i.poison = true ∨ i.bad ≠ 0 then 0x08000000 else 0) + i.prio * 2 ^ 8 + i.words.length)))) ∧
    (∀ p, (s.hq q).taped = false → (s.hq q).cur = none → (s.hq q).visible = [] → exec (.hawkRhdrRead q p) s = .next (settle (
      if s.rd R.HWK_CFG_RD_TMO = 0 then s.answer p 0 0x10000000
      else (s.setHq q { s.hq q with stalled := (s.hq q).stalled.filter (·.1 != p) ++ [(p, s.stallBound p)] }).stall p))) ∧
    (∀ p b, minBy (·.2) (s.hq q).stalled = some (p, b) → exec (.hawkRhdrStallEnd q) s =
      .next (settle ((s.setHq q { s.hq q with stalled := (s.hq q).stalled.filter (·.1 != p) }).answer p 0 0x10000000))) ∧
    ((s.hq q).stalled = [] → exec (.hawkRhdrStallEnd q) s = .next (settle s)) ∧
    (∀ p flips, (s.hq q).cur = none → exec (.hawkRdataRead q p flips) s =
      .next (settle ((s.wr (R.HWK_Q_STAT_RD_ERR q) 1).answer p 0 0))) ∧
    (∀ (p : Path) (id k : Nat) (it : HawkItem), (s.hq q).cur = some (id, k) →
      (s.hq q).items.find? (fun i => i.id == id) = some it → it.poison = false → it.bad.testBit k = false → k + 1 < it.words.length → ∃ t,
      exec (.hawkRdataRead q p []) s = .next (settle t) ∧ t.answerOf p = some (0, (it.words[k]?).getD 0) ∧
        t.hq q = { s.hq q with cur := some (id, k + 1) } ∧ t.rd (R.HWK_Q_RSTAT_PWORD q) = 0 ∧ t.cnt = s.cnt ∧
        t.raised = s.raised) ∧
    (∀ (p : Path) (id k : Nat) (it : HawkItem), (s.hq q).cur = some (id, k) →
      (s.hq q).items.find? (fun i => i.id == id) = some it → it.poison = false → it.bad.testBit k = false → k + 1 = it.words.length → ∃ t,
      exec (.hawkRdataRead q p []) s = .next (settle t) ∧ t.answerOf p = some (0, (it.words[k]?).getD 0) ∧
        t.hq q = { (s.hq q).drop id with cur := none } ∧ t.cnt = (s.inc (R.HWK_Q_OUT q)).cnt ∧ t.raised = s.raised) ∧
    (∀ (p : Path) (id k : Nat) (it : HawkItem) (flips : List (Fin 39)), (s.hq q).cur = some (id, k) →
      (s.hq q).items.find? (fun i => i.id == id) = some it → (it.poison = true ∨ it.bad.testBit k = true) → ∃ t,
      exec (.hawkRdataRead q p flips) s = .next (settle t) ∧ t.rd (R.HWK_Q_RSTAT_PWORD q) = 1 ∧
        t.ctr (R.HWK_Q_POISONED q) = (s.ctr (R.HWK_Q_POISONED q) + 1) % 2 ^ 32 ∧ t.raised = s.raised ++ [1400 + q.val]) ∧
    (∀ (p : Path) (id k : Nat) (it : HawkItem), (s.hq q).taped = false → (s.hq q).cur = some (id, k) →
      (s.hq q).items.find? (fun i => i.id == id) = some it → exec (.hawkRhdrRead q p) s = .next (settle (s.answer p 0
        ((if it.poison = true ∨ it.bad ≠ 0 then 0x08000000 else 0) + it.prio * 2 ^ 8 + it.words.length)))) ∧
    (∀ id k, (s.hq q).cur = some (id, k) →
      exec (.hawkDropCur q) s = .next (settle (s.setHq q { (s.hq q).drop id with cur := none }))) ∧
    ((s.hq q).cur = none → exec (.hawkDropCur q) s = .next (settle s)) ∧
    (∀ (i : HawkItem) (m : Option Nat), (s.hq q).move = some (i, m) → exec (.hawkItemMove q) s = .next (settle (hawkServe q (
      match m, (s.hq q).slotOf i with
      | some k, _ => slotWrite q k ((s.setHq q ((s.hq q).toMiddle k i)).inc (R.HWK_Q_SPILLED q))
      | none, some k => (slotRead q k i s).2.setHq q ((s.hq q).toHead (slotRead q k i s).1)
      | none, none => s.setHq q ((s.hq q).toHead i))))) ∧
    ((s.hq q).move = none → exec (.hawkItemMove q) s = .next (settle s))

/-- R430, R431, R437, R438: a move inside a Hawk queue keeps every complete item, none lost and none doubled. With ECC one
flipped stored bit never changes what is read and two poison the word; with parity one flipped bit poisons it. Choices of the
model in it: log 97. -/
def Obligations.HawkItemRules : Prop :=
  (∀ (h : HawkQ) (i : HawkItem) (m : Option Nat), (h.items.map (·.id)).Nodup → h.move = some (i, m) → i ∈ h.items ∧
    (m = none → (h.toHead i).items.Perm h.items ∧ h.head.length < 16) ∧
    (∀ k, m = some k → (h.toMiddle k i).items.Perm h.items ∧ k < h.slots ∧ ∀ x ∈ h.middle, x.1 ≠ k) ∧
    (∀ k, (h.toMiddle k i).asm = h.asm ∧ (h.toMiddle k i).cur = h.cur ∧ (h.toMiddle k i).flushIds = h.flushIds) ∧
    (h.toHead i).asm = h.asm ∧ (h.toHead i).cur = h.cur ∧ (h.toHead i).flushIds = h.flushIds) ∧
  ((∀ v i : Nat, protectedWord true v [i] = (v, false, decide (i < 39))) ∧
  (∀ v i j : Nat, i < 39 → j < 39 → i ≠ j → (protectedWord true v [i, j]).2 = (true, false)) ∧
  (∀ v i : Nat, i < 33 → (protectedWord false v [i]).2 = (true, false)) ∧
  (∀ (ecc : Bool) (v : Nat), protectedWord ecc v [] = (v, false, false)))

/-- R447 to R451, R453: check-value units in service. A valid CFG is stored and loads INIT, a reserved ALG sets CFG_ERR; the
feeds take bytes in the order of BSWAP; VALUE takes the width of the algorithm; a unit that is taped off ignores every write. -/
def Obligations.CvuCommands : Prop :=
  ∀ (s : State) (c : Fin 16) (v : Word), s.asleep = false →
    (s.unitTaped (0xA000 + c) = false →
      exec (.cvuInit c) s = .next (settle (s.wr (R.CVU_VALUE c) (s.cvuAlg c).init)) ∧
      (5 ≤ bits v.toNat 31 29 → exec (.cvuCfgWrite c v) s = .next (settle (s.wr (R.CVU_CFG_CFG_ERR c) 1))) ∧
      (bits v.toNat 31 29 < 5 → ∃ t, exec (.cvuCfgWrite c v) s = .next (settle t) ∧
        t.rd (R.CVU_CFG_ALG c) = bits v.toNat 31 29 ∧ t.rd (R.CVU_CFG_REFL c) = bits v.toNat 28 28 ∧
        t.rd (R.CVU_CFG_BSWAP c) = bits v.toNat 27 27 ∧ t.rd (R.CVU_CFG_WIDTH_M1 c) = bits v.toNat 20 16 ∧
        t.cnt = s.cnt ∧ t.raised = s.raised) ∧
      exec (.cvuFeed8 c v) s = .next (settle (s.wr (R.CVU_VALUE c) ((s.cvuAlg c).feed (s.cvuV c) (v.toNat % 256)))) ∧
      (s.flag (R.CVU_CFG_BSWAP c) = false → exec (.cvuFeed16 c v) s = .next (settle (s.wr (R.CVU_VALUE c)
        ([v.toNat % 256, v.toNat / 256 % 256].foldl (s.cvuAlg c).feed (s.cvuV c))))) ∧
      (s.flag (R.CVU_CFG_BSWAP c) = true → exec (.cvuFeed16 c v) s = .next (settle (s.wr (R.CVU_VALUE c)
        ([v.toNat / 256 % 256, v.toNat % 256].foldl (s.cvuAlg c).feed (s.cvuV c))))) ∧
      (s.flag (R.CVU_CFG_BSWAP c) = false → exec (.cvuFeed32 c v) s = .next (settle (s.wr (R.CVU_VALUE c)
        ([v.toNat % 256, v.toNat / 2 ^ 8 % 256, v.toNat / 2 ^ 16 % 256, v.toNat / 2 ^ 24 % 256].foldl (s.cvuAlg c).feed
          (s.cvuV c))))) ∧
      (s.flag (R.CVU_CFG_BSWAP c) = true → exec (.cvuFeed32 c v) s = .next (settle (s.wr (R.CVU_VALUE c)
        ([v.toNat / 2 ^ 24 % 256, v.toNat / 2 ^ 16 % 256, v.toNat / 2 ^ 8 % 256, v.toNat % 256].foldl (s.cvuAlg c).feed
          (s.cvuV c))))) ∧
      exec (.cvuValueWrite c v) s = .next (settle (s.wr (R.CVU_VALUE c) (v.toNat % 2 ^ (s.cvuAlg c).w)))) ∧
    (s.unitTaped (0xA000 + c) = true →
      exec (.cvuInit c) s = .next (settle s) ∧ exec (.cvuCfgWrite c v) s = .next (settle s) ∧
      exec (.cvuFeed8 c v) s = .next (settle s) ∧ exec (.cvuFeed16 c v) s = .next (settle s) ∧
      exec (.cvuFeed32 c v) s = .next (settle s) ∧ exec (.cvuValueWrite c v) s = .next (settle s) ∧
      exec (.cvuAliveIn c v) s = .next (settle s) ∧ exec (.cvuAliveReset c) s = .next (settle s))

/-- R450: the alive counter of a check-value unit in service: the first value gives START, the next one up by one OK, one behind
or equal REPEAT, and one ahead by more than one counts what is missing; EV_EN raises the unit's event. RESET starts over. -/
def Obligations.CvuAliveCommands : Prop :=
  ∀ (s : State) (c : Fin 16) (v : Word), s.asleep = false → s.unitTaped (0xA000 + c) = false →
    let m := 2 ^ s.aliveWidth c
    (s.rd (R.CVU_ALIVE_CFG_WIDTH c) ≤ 2 → s.aliveWidth c = 2 ^ (3 + s.rd (R.CVU_ALIVE_CFG_WIDTH c))) ∧
    evDefault (1472 + c) = 0 ∧
    let ev := s.flag (R.CVU_ALIVE_CFG_EV_EN c)
    exec (.cvuAliveReset c) s = .next (settle ((s.wr (R.CVU_ALIVE_STAT_VERDICT c) 0).wr (R.CVU_ALIVE_LAST c) 0)) ∧
    (s.rd (R.CVU_ALIVE_STAT_VERDICT c) = 0 → exec (.cvuAliveIn c v) s = .next (settle
      ((s.wr (R.CVU_ALIVE_STAT_VERDICT c) 1).wr (R.CVU_ALIVE_LAST c) (v.toNat % m)))) ∧
    (s.rd (R.CVU_ALIVE_STAT_VERDICT c) ≠ 0 → v.toNat % m = (s.rd (R.CVU_ALIVE_LAST c) + 1) % m →
      exec (.cvuAliveIn c v) s = .next (settle (((s.wr (R.CVU_ALIVE_STAT_VERDICT c) 2).wr (R.CVU_ALIVE_LAST c)
        (v.toNat % m)).inc (R.CVU_ALIVE_OK c)))) ∧
    (∀ d, s.rd (R.CVU_ALIVE_STAT_VERDICT c) ≠ 0 → (d = 0 ∨ m / 2 ≤ d) → d < m → v.toNat % m = (s.rd (R.CVU_ALIVE_LAST c) + d) % m →
      exec (.cvuAliveIn c v) s = .next (settle (((s.wr (R.CVU_ALIVE_STAT_VERDICT c) 3).inc (R.CVU_ALIVE_REPEAT c)).raiseIf
        ev (1472 + c)))) ∧
    (∀ d, s.rd (R.CVU_ALIVE_STAT_VERDICT c) ≠ 0 → 2 ≤ d → d < m / 2 → v.toNat % m = (s.rd (R.CVU_ALIVE_LAST c) + d) % m →
      exec (.cvuAliveIn c v) s = .next (settle ((((s.wr (R.CVU_ALIVE_STAT_VERDICT c) 4).wr (R.CVU_ALIVE_LAST c)
        (v.toNat % m)).inc (R.CVU_ALIVE_MISSING c) (d - 1)).raiseIf ev (1472 + c))))

/-- R417 to R419, R422: DMA channels. START in IDLE begins the chain at DMA_CH_NEXT, and is refused otherwise; ABORT halts a
running channel with ABORTED, ACK returns a halted one to IDLE; configuration is refused in RUN. A halt shows HALTED, its ERR,
direction and address, is counted, and raises the channel's event unless it was ABORTED; a completed descriptor counts, sets
DONE when asked to, and ends the chain or lets it go on within HOP_LIMIT. Choices of the model in it: log 68. -/
def Obligations.DmaControlAndEnds : Prop :=
  (∀ (s : State) (c : Fin 32), s.asleep = false →
    (s.rd (R.DMA_CH_STAT_STATE c) = 0 → (s.dmaCh c).taped = false → exec (.dmaStart c) s = .next (settle
      ((((s.setDmaCh c { s.dmaCh c with
        next := 2 ^ 32 * s.rd (R.DMA_CH_NEXT_HI_ADDR c) + s.rd (R.DMA_CH_NEXT_LO c), desc := none }).wr
        (R.DMA_CH_STAT_STATE c) 1).wr (R.DMA_CH_STAT_ERR c) 0).wr (R.DMA_CH_HOP_COUNT_N c) 0))) ∧
    ((s.rd (R.DMA_CH_STAT_STATE c) ≠ 0 ∨ (s.dmaCh c).taped = true) →
      exec (.dmaStart c) s = .next (settle (s.wr (R.DMA_CH_STAT_REFUSED c) 1))) ∧
    (s.rd (R.DMA_CH_STAT_STATE c) = 1 → ∃ t, exec (.dmaAbort c) s = .next (settle t) ∧ t.rd (R.DMA_CH_STAT_STATE c) = 2 ∧
      t.rd (R.DMA_CH_STAT_ERR c) = 9 ∧ t.rd (R.DMA_CH_STAT_HALT c) = 1 ∧ (t.dmaCh c).desc = none ∧
      t.cnt = (s.inc (R.DMA_CH_HALTS c)).cnt ∧ t.raised = s.raised) ∧
    (s.rd (R.DMA_CH_STAT_STATE c) ≠ 1 → exec (.dmaAbort c) s = .next (settle s)) ∧
    exec (.dmaAck c) s = .next (settle (if s.rd (R.DMA_CH_STAT_STATE c) = 2 then s.wr (R.DMA_CH_STAT_STATE c) 0 else s)) ∧
    (∀ (off : Fin 3) (v : Word), s.rd (R.DMA_CH_STAT_STATE c) = 1 →
      exec (.dmaConfigWrite c off v) s = .next (settle (s.wr (R.DMA_CH_STAT_REFUSED c) 1))) ∧
    (∀ v : Word, s.rd (R.DMA_CH_STAT_STATE c) ≠ 1 →
      exec (.dmaConfigWrite c 0 v) s = .next (settle (s.wr (R.DMA_CH_NEXT_LO c) v.toNat)) ∧
      exec (.dmaConfigWrite c 1 v) s = .next (settle (s.wr (R.DMA_CH_NEXT_HI_ADDR c) v.toNat)) ∧
      exec (.dmaConfigWrite c 2 v) s = .next (settle (s.wr (R.DMA_CH_HOP_LIMIT_N c) v.toNat)))) ∧
  ((∀ (s : State) (c : Fin 32) (err dir a : Nat), err < 16 → dir < 8 → a < 2 ^ 48 →
    (dmaHalt c err dir a s).rd (R.DMA_CH_STAT_STATE c) = 2 ∧ (dmaHalt c err dir a s).rd (R.DMA_CH_STAT_ERR c) = err ∧
    (dmaHalt c err dir a s).rd (R.DMA_CH_FAIL_INFO_DIR c) = dir ∧
    2 ^ 32 * (dmaHalt c err dir a s).rd (R.DMA_CH_FAIL_ADDR_HI_ADDR c) + (dmaHalt c err dir a s).rd (R.DMA_CH_FAIL_ADDR_LO c) = a ∧
    (dmaHalt c err dir a s).cnt = (s.inc (R.DMA_CH_HALTS c)).cnt ∧
    (dmaHalt c err dir a s).raised = if err = 9 then s.raised else s.raised ++ [1368 + c.val]) ∧
  (∀ (s : State) (c : Fin 32) (done : Bool) (next : Nat),
    (dmaComplete c true done next s).rd (R.DMA_CH_STAT_STATE c) = 0 ∧
    (dmaComplete c true done next s).cnt = (s.inc (R.DMA_CH_DESCS c)).cnt ∧
    (done = true → (dmaComplete c true done next s).rd (R.DMA_CH_STAT_DONE c) = 1)) ∧
  (∀ (s : State) (c : Fin 32) (next : Nat), s.rd (R.DMA_CH_HOP_COUNT_N c) ≠ max 1 (s.rd (R.DMA_CH_HOP_LIMIT_N c)) →
    ((dmaComplete c false false next s).dmaCh c).next = next ∧ ((dmaComplete c false false next s).dmaCh c).desc = none ∧
    (dmaComplete c false false next s).regs = s.regs))

/-- R416, R417, R420 to R422, R435: what a running DMA channel does. A descriptor is fetched, counted as a hop and checked; a
block is read and written, in SRAM window SCRATCH 64 bytes of it; the read-back completes the descriptor; a descriptor that
cannot be fetched and a block that is poisoned halt the channel; so do accesses without an answer, with TIMEOUT and their
direction. A word of a register end waits while another channel's register read stalls (DESIGN CHOICE, log 97). Nothing moves in
a channel that does not run. -/
def Obligations.DmaTransferCommands : Prop :=
  ∀ (s : State) (c : Fin 32) (err : MemErr), s.asleep = false →
    (∀ cls, s.rd (R.DMA_CH_STAT_STATE c) = 1 → (s.dmaCh c).desc = none → (s.dmaCh c).next % 32 = 0 →
      s.memCls (s.dmaCh c).next 32 = some cls → cls ≠ .register →
      let a := (s.dmaCh c).next
      let r := devRead 3 a 32 err (setCur c a s)
      let u := r.2.2.wr (R.DMA_CH_HOP_COUNT_N c) (r.2.2.rd (R.DMA_CH_HOP_COUNT_N c) + 1)
      exec (.dmaDescFetched c err) s = .next (settle (if r.2.1 then dmaHalt c 6 1 a u else dmaCheck c a (RawDesc.parse r.1) u)) ∧
      (cls = .scratch → r = (memRead s.scratch (a % 0x80000) 32, false, setCur c a s))) ∧
    (s.rd (R.DMA_CH_STAT_STATE c) = 1 → (s.dmaCh c).desc = none → ((s.dmaCh c).next % 32 ≠ 0 ∨
        s.memCls (s.dmaCh c).next 32 = none ∨ s.memCls (s.dmaCh c).next 32 = some .register) →
      exec (.dmaDescFetched c err) s = .next (settle (dmaHalt c 1 1 (s.dmaCh c).next (setCur c (s.dmaCh c).next s))) ∧
      exec (.dmaAccessFail c err) s = .next (settle (dmaHalt c 1 1 (s.dmaCh c).next (setCur c (s.dmaCh c).next s)))) ∧
    (∀ d : DmaDesc, s.rd (R.DMA_CH_STAT_STATE c) = 1 → (s.dmaCh c).desc = some d → d.moved < d.count → s.dmaHeld c d = false →
      exec (.dmaBlockMoved c err) s = .next (settle (dmaBlock c d err s)) ∧
      (d.srcFix = false → d.dstFix = false → d.down = false → s.memCls d.src 1 = some .scratch → s.memCls d.dst 1 = some .scratch →
        s.memCls (d.src + d.moved) 64 = some .scratch → s.memCls (d.dst + d.moved) 64 = some .scratch → dmaBlock c d err s =
        ({ s with scratch := memWrite s.scratch ((d.dst + d.moved) % 0x80000)
                    (memRead s.scratch ((d.src + d.moved) % 0x80000) 64) }.setDmaCh c
          { s.dmaCh c with desc := some { d with moved := d.moved + 64, wrote := d.dst + d.moved }, got := [], await := false }).inc
            (R.DMA_CH_BYTES c) 64) ∧
      (s.memCls d.src 1 ≠ some .register → (devRead 3 (s.dmaSrc d) 64 err s).2.1 = true → exec (.dmaAccessFail c err) s =
        .next (settle (dmaHalt c 6 2 (s.dmaSrc d) (devRead 3 (s.dmaSrc d) 64 err s).2.2)))) ∧
    (∀ d : DmaDesc, s.rd (R.DMA_CH_STAT_STATE c) = 1 → (s.dmaCh c).desc = some d → d.count ≤ d.moved → s.dmaHeld c d = false →
      exec (.dmaReadbackDone c err) s = .next (settle (dmaReadBack c d err s)) ∧
      (s.memCls d.dst 1 = some .scratch → s.memCls d.wrote 64 = some .scratch →
        dmaReadBack c d err s = dmaComplete c d.last (d.int || d.last) d.next s)) ∧
    (∀ hang, s.rd (R.DMA_CH_STAT_STATE c) = 1 → (s.dmaCh c).desc = none → exec (.dmaAccessTimeout c hang) s =
      .next (settle (dmaHalt c 5 1 (s.dmaCh c).next (setCur c (s.dmaCh c).next s)))) ∧
    (∀ (hang : DmaHang) (d : DmaDesc), s.rd (R.DMA_CH_STAT_STATE c) = 1 → (s.dmaCh c).desc = some d →
      exec (.dmaAccessTimeout c hang) s = .next (settle (if d.count ≤ d.moved then dmaHalt c 5 4 d.wrote s
        else if hang.write then dmaWriteHang c d hang.word s else dmaReadHang c d hang.word s)) ∧
      (s.memCls d.src 1 ≠ some .register → dmaReadHang c d hang.word s = dmaHalt c 5 2 (s.dmaSrc d) s) ∧
      (s.memCls d.src 1 = some .scratch → s.memCls d.dst 1 = some .scratch → s.memCls (s.dmaSrc d) 64 = some .scratch →
        dmaWriteHang c d hang.word s = dmaHalt c 5 3 (s.dmaDst d) s)) ∧
    (∀ hang, s.rd (R.DMA_CH_STAT_STATE c) ≠ 1 → exec (.dmaDescFetched c err) s = .next (settle s) ∧
      exec (.dmaBlockMoved c err) s = .next (settle s) ∧ exec (.dmaReadbackDone c err) s = .next (settle s) ∧
      exec (.dmaAccessFail c err) s = .next (settle s) ∧ exec (.dmaAccessTimeout c hang) s = .next (settle s))

/-- R346, R347, R350, R351, R371, R375: memory channels. A training channel comes UP and into service, or FAILED with its
training event and taped off by its own rule; a window with more corrected errors than the threshold raises its event; the
patrol scrub counts, latches and reports what it finds; ALERT_N and the refresh report raise theirs. Choices of the model in it:
log 96. -/
def Obligations.MemoryChannelCommands : Prop :=
  ∀ (s : State) (m : Fin 8), s.asleep = false →
    (s.rd (R.MEM_CH_STAT_STATE m) = 1 → exec (.memChannelTrained m 0) s = .next (settle (((s.wr (R.MEM_CH_STAT_CAUSE m) 0).wr
      (R.MEM_CH_STAT_STATE m) 2).wr R.MEM_STAT_IN_SERVICE (putBit (s.rd R.MEM_STAT_IN_SERVICE) m true)))) ∧
    (∀ cause : Fin 8, s.rd (R.MEM_CH_STAT_STATE m) = 1 → cause ≠ 0 → ∃ t, exec (.memChannelTrained m cause) s = .next (settle t) ∧
      t.rd (R.MEM_CH_STAT_STATE m) = 3 ∧ t.rd (R.MEM_CH_STAT_CAUSE m) = cause ∧ t.raised = s.raised ++ [1184 + 8 * m.val] ∧
      t.ruleTaped = s.ruleTaped ++ [(0x6000 + m.val, 1184 + 8 * m.val)]) ∧
    (∀ cause, s.rd (R.MEM_CH_STAT_STATE m) ≠ 1 → exec (.memChannelTrained m cause) s = .next (settle s)) ∧
    (let n := (s.ctr (R.MEM_CH_CE m) + 2 ^ 32 - s.mem.ceBase.get 0 m) % 2 ^ 32
     let t := { s with mem := { s.mem with ceBase := s.mem.ceBase.set 0 m (s.ctr (R.MEM_CH_CE m)) } }
     exec (.ceWindowEnd m) s = .next (settle (
       if s.rd R.MEM_ECC_CFG_CE_THR ≠ 0 ∧ s.rd R.MEM_ECC_CFG_CE_THR < n then t.raise (1184 + 8 * m + 1) else t))) ∧
    exec (.memAlert m) s = .next (settle ((s.inc (R.MEM_CH_ALERT m)).raise (1184 + 8 * m + 4))) ∧
    exec (.memTempReport m true) s = .next (settle ((s.wr (R.MEM_CH_STAT_HOT m) 1).raise (1184 + 8 * m + 5))) ∧
    exec (.memTempReport m false) s = .next (settle (s.wr (R.MEM_CH_STAT_HOT m) 0)) ∧
    (∀ (a : BitVec 48) err, (s.flag R.MEM_SCRUB_CFG_EN = false ∨ s.dramEnd ≤ a.toNat / 64 * 64 ∨ s.hole (a.toNat / 64 * 64) = true) →
      exec (.patrolScrubRead a err) s = .next (settle s)) ∧
    (∀ a : BitVec 48, let l := a.toNat / 64 * 64
      s.flag R.MEM_SCRUB_CFG_EN = true → l < s.dramEnd → s.hole l = false →
      (s.mem.bad.contains l = false → exec (.patrolScrubRead a .none) s = .next (settle s)) ∧
      (s.mem.bad.contains l = false → ∃ t, exec (.patrolScrubRead a .corrected) s = .next (settle t) ∧
        t.raised = s.raised ∧ t.cnt = ((s.inc (R.MEM_CH_CE (s.dramChan l))).inc (R.MEM_CH_SCRUB_CE (s.dramChan l))).cnt) ∧
      (∃ t, exec (.patrolScrubRead a .uncorrectable) s = .next (settle t) ∧ t.mem.bad.contains l = true ∧
        t.raised = s.raised ++ [1184 + 8 * s.dramChan l + 3] ∧ t.cnt = (s.inc (R.MEM_CH_SCRUB_UE (s.dramChan l))).cnt ∧
        t.rd (R.MEM_CH_ERR_INFO_KIND (s.dramChan l)) = 3))

/-- R354 to R361: the history writer. An item reaches staging, is allocated at the head, or skipped; a batch closes; EN sets
STATE by the memory configuration, the ring and a halt; a ring reset empties the ring, its index and its marks. Choices of the
model in it: log 25, 77. -/
def Obligations.HistoryWriterCommands : Prop :=
  ∀ s : State, s.asleep = false →
    (s.hst.taps = [] → exec .historyItem s = .next (settle s)) ∧
    (∀ i t, s.hst.taps = i :: t → i.kind ≠ 2 → s.hstRunning = true → s.staged i.group < 2 → i.code = false →
      exec .historyItem s = .next (settle { s with hst := { s.hst with
        taps := t, items := s.hst.items ++ [{ i with id := s.hst.nextId }], nextId := s.hst.nextId + 1 } })) ∧
    (∀ i t, s.hst.taps = i :: t → let u := { s with hst := { s.hst with taps := t } }
      exec .historyItem s = .next (settle (if i.kind = 2 then hstObject i.group i.data u else hstStage i u))) ∧
    (s.hst.items = [] → exec .historyAllocate s = .next (settle s)) ∧
    exec .historyAllocate s = .next (settle (rpCovered s (hstAllocate s))) ∧
    (∀ i t, s.hst.items = i :: t → s.hstRunning = false → s.replay.run = none →
      exec .historyAllocate s = .next (settle (hstSkip i.group i.kind false { s with hst := { s.hst with items := t } }))) ∧
    (∀ i t, s.hst.items = i :: t → s.hstRunning = true → s.now - i.time ≤ 1000000 * max 1 s.hst.lag → i.code = false →
      i.block = none → i.data.length ≤ 65536 → s.placeAt (128 * ceilDiv (128 + i.data.length) 128) = some s.hst.head →
      s.replay.run = none → exec .historyAllocate s =
        .next (settle (setFirst none ((allocItem i 0 i.data s).inc R.HST_RAW_SEGS 0)))) ∧
    (∀ g : Fin 24, s.hst.batch.get [] g = [] → exec (.objectBatchTimeout g) s = .next (settle s)) ∧
    (∀ (g : Fin 24) r rs, s.hst.batch.get [] g = r :: rs → exec (.objectBatchTimeout g) s = .next (settle
      (hstStage (batchItem g (r :: rs)) { s with hst := { s.hst with batch := s.hst.batch.set [] g [] } }))) ∧
    (∀ (g : Fin 24) i, s.hst.items.find? (fun i => i.group == g.val) = some i → exec (.historyItemDeadline g) s = .next (settle
      (hstSkip g i.kind false { s with hst := { s.hst with items := s.hst.items.filter (fun x => x.id != i.id) } }))) ∧
    (∀ g : Fin 24, s.hst.items = [] → s.hst.taps = [] → exec (.historyItemDeadline g) s = .next (settle s)) ∧
    (∀ en : Bool, exec (.historyEnWrite en) s = .next (settle ((s.wr R.HST_CTRL_EN (if en then 1 else 0)).wr R.HST_STAT_STATE
      (if s.mem.present = false then 0 else if s.rd R.HST_RING_SIZE = 0 then 1
       else if s.rd R.HST_STAT_STATE = 4 then 4 else if en then 2 else 3)))) ∧
    exec .ringReset s = .next (settle (rpEndAll 12 (ringClear s))) ∧
    (s.replay.run = none → s.replay.queue = [] → s.replay.closing = [] → ∃ t, exec .ringReset s = .next (settle t) ∧
      t.hst.head = 0 ∧ t.hst.rseq = 0 ∧ t.hst.nidx = 0 ∧ t.hst.recs = [] ∧ t.hst.marks = [] ∧
      t.hst.lag = s.rd R.HST_CTRL_LAG ∧ t.hst.tick = s.rd R.HST_CTRL_TICK ∧ t.hst.items = s.hst.items ∧ t.cnt = s.cnt ∧
      t.raised = s.raised)

/-- R362 to R365, R382: the mark commands: what refuses them, the mark that SET_NOW arms, that SET_TIME of a time after every
record arms, or of a record still held, binds, and that CLEAR frees. -/
def Obligations.MarkCommands : Prop :=
  ∀ (s : State) (i : Fin 8192), s.asleep = false →
    exec (.markSetNow i) s = .next (settle (
      if 4160 ≤ i.val then markShow i 1 s else if s.rd R.HST_STAT_STATE ≤ 1 then markShow i 4 s
      else if (s.mark i).state ≠ 0 ∧ (s.mark i).state ≠ 3 then markShow i 2 s
      else markShow i 0 (showRing (setMark i { Mark.free with state := 1, pin := s.markPin i } s)))) ∧
    (4160 ≤ i.val → exec (.markSetTime i) s = .next (settle (markShow i 1 s)) ∧
      exec (.markClear i) s = .next (settle (markShow i 1 s)) ∧ exec (.markSelect i) s = .next (settle (markShow i 1 s))) ∧
    (i.val < 4160 → s.rd R.HST_STAT_STATE ≤ 1 → exec (.markSetTime i) s = .next (settle (markShow i 4 s)) ∧
      exec (.markClear i) s = .next (settle (markShow i 4 s))) ∧
    (i.val < 4160 → 2 ≤ s.rd R.HST_STAT_STATE → (s.mark i).state ≠ 0 → (s.mark i).state ≠ 3 →
      exec (.markSetTime i) s = .next (settle (markShow i 2 s))) ∧
    (i.val < 4160 → 2 ≤ s.rd R.HST_STAT_STATE → ((s.mark i).state = 0 ∨ (s.mark i).state = 3) →
      let want := 2 ^ 32 * s.rd R.HST_MARK_TIME_HI + s.rd R.HST_MARK_TIME_LO
      let m := { Mark.free with state := 1, want := some want, pin := s.markPin i }
      exec (.markSetTime i) s = .next (settle (
        if (s.recAt s.ringTail).any (fun r => decide (want < r.wtime)) then markShow i 3 (showRing (setMark i Mark.free s))
        else match (s.hst.recs.filter (fun r => !r.pad)).find? (fun r => decide (want ≤ r.wtime)) with
          | none => markShow i 0 (showRing (setMark i m s))
          | some r =>
            let b := m.bind (decide (4096 ≤ i.val)) r
            let stop := (s.hst.recs.find? (fun q => decide (r.wtime + m.pin ≤ q.wtime ∧ r.pos < q.pos))).map (fun q => q.pos)
            markShow i 0 (showRing (dropRecords (demoteAll 64 (setMark i
              (if 4096 ≤ i.val ∧ b.stop = none then { b with stop := stop } else b) s))))))) ∧
    (i.val < 4160 → 2 ≤ s.rd R.HST_STAT_STATE → exec (.markClear i) s =
      .next (settle (markShow i 0 (showRing (dropRecords (setMark i Mark.free s)))))) ∧
    (i.val < 4160 → exec (.markSelect i) s = .next (settle (markShow i 0 s))) ∧
    (∀ op : Fin 3, exec (.markBadOp op i) s = .next (settle (markShow i 5 s))) ∧
    (∀ r, r < 16 → (markShow i r s).rd R.HST_MARK_STAT_RESULT = r ∧ (markShow i r s).rd R.HST_MARK_STAT_SLOT = i ∧
      (markShow i r s).hst.marks = s.hst.marks ∧ (markShow i r s).cnt = s.cnt ∧ (markShow i r s).raised = s.raised)

/-- R366 to R370: replay requests. GO queues up to four and is refused beyond; WINDOW and MARK requests in turn begin when none
is in progress, a WINDOW one from the time index; at the head the walk waits for END + LAG; a record is read from the ring;
ABORT ends the request in progress with ABORTED. Choices of the model in it: log 26, 27, 28, 96. -/
def Obligations.ReplayCommands : Prop :=
  ∀ s : State, s.asleep = false →
    ((4 ≤ s.replay.held ∨ s.replay.taped = true) → exec .replayGo s = .next (settle (s.wr R.HST_RP_STAT_REFUSED 1))) ∧
    (s.replay.held < 4 → s.replay.taped = false → exec .replayGo s = .next (settle
      (showReplay { s with replay := { s.replay with queue := s.replay.queue ++ [s.rpRequest] } }))) ∧
    (s.replay.run = none → s.replay.closing = [] → exec .replayAbort s = .next (settle s)) ∧
    (s.replay.closing = [] → exec .replayAbort s = .next (settle (rpEnd 6 s))) ∧
    (∀ r rest, s.replay.closing = r :: rest → exec .replayAbort s = .next (settle (showReplay (rpPump
      { s with replay := { s.replay with closing := { r with status := some 6, out := [] } :: rest } })))) ∧
    (∀ r, s.replay.run = some r → r.req.toMem = true → s.replay.closing = [] → ∃ t, exec .replayAbort s = .next (settle t) ∧
      t.replay.run = none ∧ t.replay.closing = [] ∧ t.replay.queue = s.replay.queue ∧ t.rd R.HST_RP_STAT_STATUS = 6 ∧
      t.raised = s.raised) ∧
    (s.replay.queue = [] → exec .replayWindowStart s = .next (settle s) ∧ exec .replayMarkStart s = .next (settle s)) ∧
    (∀ q rest, s.replay.run = none → s.replay.closing = [] → s.replay.queue = q :: rest → s.inP1 = false → s.devFault = false →
      s.rpRefusal q = none → q.mode = 0 →
      let u := rpTake q q.begin s
      let e := indexSearch q.start (min u.hst.nidx (u.indexSize / 16)) (u.hst.nidx - 1) u
      (e.2.1 = false → ∃ t r, exec .replayWindowStart s = .next (settle t) ∧ t.replay.run = some r ∧ r.req = q ∧
        r.status = none ∧ r.pos = max (e.1.getD 0) s.ringTail ∧ t.replay.queue = rest ∧ t.rd R.HST_RP_STAT_BUSY = 1 ∧
        t.raised = s.raised) ∧
      (e.2.1 = true → exec .replayWindowStart s = .next (settle (rpEnd 11 e.2.2)))) ∧
    (∀ q rest, s.replay.run = none → s.replay.closing = [] → s.replay.queue = q :: rest → s.inP1 = false → s.devFault = false →
      q.mode = 1 → s.rpRefusal { q with
        start := (s.mark q.mark).time, stop := (s.mark q.mark).time + q.len } = none →
      ∃ t r, exec .replayMarkStart s = .next (settle t) ∧ t.replay.run = some r ∧ r.pos = (s.mark q.mark).pos ∧ r.force = true ∧
        r.req.start = (s.mark q.mark).time ∧ r.req.stop = (s.mark q.mark).time + q.len ∧ t.replay.queue = rest ∧
        t.rd R.HST_RP_STAT_BUSY = 1 ∧ t.raised = s.raised) ∧
    (∀ err, s.replay.run = none → s.replay.closing = [] → exec (.replayRecordRead err) s = .next (settle s)) ∧
    (∀ err r, s.replay.run = some r → r.req.toMem = true → s.replay.closing = [] → r.pos = s.hst.head → r.force = false →
      s.now < s.rpStop r → exec (.replayRecordRead err) s = .next (settle s)) ∧
    (∀ err r x, s.replay.run = some r → r.req.toMem = true → s.replay.closing = [] → (r.pos ≠ s.hst.head ∨ r.force = true) →
      s.recAt r.pos = some x → exec (.replayRecordRead err) s = .next (settle (rpRecord r x err s))) ∧
    (∀ err r x, let u := rpPump s
      u.replay.run = some r → (r.req.toMem = true ∨ r.out.length < u.rpChunk) → (r.pos ≠ u.hst.head ∨ r.force = true) →
      u.recAt r.pos = some x → exec (.replayRecordRead err) s = .next (settle (rpRecord r x err u))) ∧
    (s.replay.run = none → exec .replayEndTime s = .next (settle s)) ∧
    (∀ r, s.replay.run = some r → r.pos = s.hst.head → r.force = false → s.rpStop r ≤ s.now →
      exec .replayEndTime s = .next (settle (rpEnd (if r.trimmed then 2 else if r.sent then 0 else 1) s)))

/-- R400 to R408: Stipple jobs. GO queues a job or is refused; a job of the asked kind starts, or ends with its refusal; ABORT,
a time-out and a parity error end the running job with ABORTED and POISON; nothing is done for an idle port or pipeline. The end
of a job shows its STATUS, the bytes made and its tag; one that failed is counted and raises E1464. Choices of the model in it:
log 78, 97. -/
def Obligations.StippleJobs : Prop :=
  (∀ (s : State) (j : Fin 4), s.asleep = false →
    (((s.stpPort j).queue.length ≥ 4 ∨ s.inP1 = true ∨ s.stpTaped = true) →
      exec (.stpJobGo j) s = .next (settle (s.wr (R.STP_JOB_STAT_REFUSED j) 1))) ∧
    ((s.stpPort j).queue.length < 4 → s.inP1 = false → s.stpTaped = false → exec (.stpJobGo j) s = .next (settle
      (showJobs j (s.setStpPort j { s.stpPort j with queue := (s.stpPort j).queue ++ [s.stpRequest j] })))) ∧
    ((s.stpPort j).run = true → exec (.stpJobAbort j) s = .next (settle (stpEnd j 13 0 s)) ∧
      exec (.stpAccessTimeout j) s = .next (settle (stpEnd j 12 0 s)) ∧
      exec (.stippleParityError (.job j)) s = .next (settle (stpEnd j 12 0 ((s.inc R.STP_PARITY).raise 1466)))) ∧
    ((s.stpPort j).run = false → exec (.stpJobAbort j) s = .next (settle s) ∧ exec (.stpAccessTimeout j) s = .next (settle s) ∧
      exec (.stippleParityError (.job j)) s = .next (settle ((s.inc R.STP_PARITY).raise 1466))) ∧
    (s.stpPipe = [] → exec (.stippleParityError .pipeline) s = .next (settle ((s.inc R.STP_PARITY).raise 1466)) ∧
      ∀ err, exec (.stippleBlockDone .pipeline err) s = .next (settle s)) ∧
    (∀ q rest, (s.stpPort j).queue = q :: rest → (s.stpPort j).run = false → s.stpRefusal q = none →
      (q.op ≠ 1 → exec (.stpCompressJob j) s = .next (settle
        (showJobs j (s.setStpPort j { s.stpPort j with run := true, used := 0, made := 0 }))) ∧
        exec (.stpDecompressJob j) s = .next (settle s)) ∧
      (q.op = 1 → exec (.stpDecompressJob j) s = .next (settle
        (showJobs j (s.setStpPort j { s.stpPort j with run := true, used := 0, made := 0 }))) ∧
        exec (.stpCompressJob j) s = .next (settle s))) ∧
    (∀ q rest st, (s.stpPort j).queue = q :: rest → (s.stpPort j).run = false → s.stpRefusal q = some st →
      (q.op ≠ 1 → exec (.stpCompressJob j) s = .next (settle (stpEnd j st 0 s))) ∧
      (q.op = 1 → exec (.stpDecompressJob j) s = .next (settle (stpEnd j st 0 s)))) ∧
    ((s.stpPort j).queue = [] → exec (.stpCompressJob j) s = .next (settle s) ∧ exec (.stpDecompressJob j) s = .next (settle s)) ∧
    (∀ err, (s.stpPort j).run = false → exec (.stippleBlockDone (.job j) err) s = .next (settle s)) ∧
    (∀ err q rest, (s.stpPort j).queue = q :: rest → (s.stpPort j).run = true → exec (.stippleBlockDone (.job j) err) s =
      .next (settle (if q.op = 0 then stpCompressed j q err s else stpDecompressed j q err s))) ∧
    (∀ err, exec (.stippleBlockDone .pipeline err) s = .next (settle (pipeFinish (if s.stpTaped then some 11 else none) s))) ∧
    (∀ err q rest blk raws, (s.stpPort j).queue = q :: rest → (s.stpPort j).run = true → q.op = 0 →
      s.memCls q.src q.inLen = some .scratch → s.memCls q.dst blk.length = some .scratch →
      stippleBlock q.s8 q.w q.npl (memRead s.scratch (q.src % 0x80000) q.inLen) = (blk, raws) →
      encodeStatus q.inLen blk.length q.dstLen = 0 →
      exec (.stippleBlockDone (.job j) err) s = .next (settle (stpEnd j 0 blk.length
        (({ s with scratch := memWrite s.scratch (q.dst % 0x80000) blk }.inc R.STP_RAW_ROWS (rawRows q.inLen q.dstLen raws)).inc
          R.STP_ENC_BLOCKS))))) ∧
  (∀ (s : State) (j : Fin 4) (q : StpJob) (rest : List StpJob) (st made : Nat), (s.stpPort j).queue = q :: rest → q.note = false →
    (st = 0 ∨ (2 ≤ st ∧ st < 8 ∧ st ≠ 4) ∨ st = 14) → made < 2 ^ 32 → q.tag < 2 ^ 16 →
    (stpEnd j st made s).rd (R.STP_JOB_STAT_STATUS j) = st ∧ (stpEnd j st made s).rd (R.STP_JOB_OUT j) = made ∧
    (stpEnd j st made s).rd (R.STP_JOB_LAST_TAG_TAG j) = q.tag ∧ (stpEnd j st made s).rd (R.STP_JOB_STAT_BUSY j) = 0 ∧
    ((stpEnd j st made s).stpPort j).queue = rest ∧ ((stpEnd j st made s).stpPort j).run = false ∧
    (stpEnd j st made s).raised = if st = 0 then s.raised else s.raised ++ [1464])

/-- R457 to R460, R468: an occurrence of an event at S0 or S1 whose snag is clear, with no entry to send: it is latched with its
time and level, counted, live for a level cause, and stops ALIVE only at STOP_SEV; nothing else changes. The level of an
occurrence is the severity, and one step more while the snag is latched, never above S4; not for S0 events or with NOESC; the
severity of E1505 is S4 whatever is written. Choices of the model in it: log 38. -/
def Obligations.CollectorOccurrence : Prop :=
  (∀ (s : State) (e : Fin 1536), s.asleep = false → s.raised = [] → s.ruleTaped = [] → s.tst = [] → s.answered = false →
    s.rd R.THM_PWR_STAT_STATE < 2 → 3 ≤ s.stage → s.stage < 6 → evReserved e = false → s.muted e = false →
    s.suppressed e = false → (s.snag e).live = false → (s.snag e).latched = false → s.evSev e ≤ 1 →
    s.flag R.FLT_NOTIFY_HAWK_EN = false → s.evSev e < s.rd R.FLT_NOTIFY_FWD_SEV →
    ∃ t, exec (.faultRaise e) s = .next t ∧
      t.snag e = { latched := true, live := evLevel e, conseq := (s.snag e).conseq, level := s.evSev e,
                   count := ((s.snag e).count + 1) % 2 ^ 32, time := s.now, inWindow := false,
                   stops := (s.snag e).stops || decide (s.stopSev ≤ s.evSev e) } ∧
      (∀ k, k ≠ e.val → t.snag k = s.snag k) ∧ t.cnt = (s.inc R.FLT_RAISED).cnt ∧ t.regs = s.regs ∧ t.units = s.units ∧
      t.raised = [] ∧ t.mram = s.mram ∧ t.dram = s.dram ∧ t.chalk = s.chalk) ∧
  (∀ (s : State) (e : Nat),
    ((s.snag e).latched = false → s.evLvl e = s.evSev e) ∧
    ((s.snag e).latched = true → s.evSev e ≠ 0 → s.flag (fltNoesc e) = false → s.evLvl e = min ((s.snag e).level + 1) 4) ∧
    (s.evSev e = 0 → s.evLvl e = 0) ∧ s.evSev e ≤ 4 ∧ s.evSev 1505 = 4 ∧
    (s.flag (fltNoesc e) = true → e ≠ 1505 → s.evLvl e = s.evSev e))

/-- R457, R460, R463, R475: commands of the collector. A raise waits for the collector; ACK clears latch, consequence and the
stop of ALIVE; ACK_ALL does it for every event; a write of FLT_SEV sets severity and NOESC of eight events, reserved ones and
E1505 apart; TAPE takes a used unit off by its own, a bay with its ports; RELEASE acts on no unused, shed or permanent unit.
Choices of the model in it: log 72. -/
def Obligations.CollectorCommands : Prop :=
  ∀ s : State, s.asleep = false →
    (∀ e : Fin 1536, exec (.faultRaise e) s = .next (settle (s.raise e)) ∧
      exec (.fltAck e) s = .next (settle (s.setSnag e { s.snag e with latched := false, conseq := false, stops := false }))) ∧
    exec .collectorParityError s = .next (settle (s.raise 1524)) ∧
    (∃ t, exec .fltAckAll s = .next (settle t) ∧ (∀ e, (t.snag e).latched = false ∧ (t.snag e).count = (s.snag e).count ∧
      (t.snag e).live = (s.snag e).live) ∧ t.regs = s.regs ∧ t.cnt = s.cnt ∧ t.raised = s.raised) ∧
    (∀ (k : Fin 192) (v : Word), ∃ t, exec (.fltSevWrite k v) s = .next (settle t) ∧
      (∀ j, j < 8 → 8 * k.val + j ≠ 1505 → evReserved (8 * k + j) = false →
        t.rd (fltSev (8 * k + j)) = v.toNat / 2 ^ (4 * j) % 8 ∧ t.rd (fltNoesc (8 * k + j)) = v.toNat / 2 ^ (4 * j + 3) % 2) ∧
      t.evSev 1505 = 4 ∧ t.snags = s.snags ∧ t.cnt = s.cnt ∧ t.raised = s.raised) ∧
    (∀ c : Fin 65536, s.unitUsed c = false → exec (.fltUnitTape c) s = .next (settle s) ∧
      exec (.fltUnitRelease c) s = .next (settle s)) ∧
    (∀ c : Fin 65536, s.unitUsed c = true → c.val / 0x1000 ≠ 1 → s.unitTaped c = false → exec (.fltUnitTape c) s =
      .next (settle (tapedNow [c.val] 0x7FF 2 (s.holds c) false
        (s.setUnit c { s.unit c with own := some ⟨0x7FF, 2, s.holds c⟩ })))) ∧
    (∀ c : Fin 65536, s.unitUsed c = true → c.val / 0x1000 = 1 → exec (.fltUnitTape c) s = .next (settle
      (tapeScope c ((sortNat (s.bayScope (c % 0x1000))).eraseDups.filter s.unitUsed) 0x7FF 2 s))) ∧
    (∀ c : Fin 65536, s.unitUsed c = true → c.val / 0x1000 ≠ 1 → s.unitTaped c = true →
      exec (.fltUnitTape c) s = .next (settle s)) ∧
    (∀ c : Fin 65536, s.unitUsed c = true → (s.unit c).shed = false → (s.unit c).permanent = false →
      let scope := ((s.unit c).anchored.map (·.2)).getD []
      let own := (s.unit c).own.isSome || scope.contains c.val
      exec (.fltUnitRelease c) s = .next (settle (returnUnits
        (sortNat ((if (s.unit c).own.isSome then [c.val] else []) ++ scope.filter (· != c.val) ++
          (if own && (s.unit c).own.isNone then [c.val] else []))) false
        (s.setUnit c { s.unit c with own := none, anchored := none, returns := [] })))) ∧
    (∀ (c : Fin 65536) (x : Taping), s.unitUsed c = true → (s.unit c).shed = false → (s.unit c).permanent = false →
      (s.unit c).own = some x → (s.unit c).anchored = none → exec (.fltUnitRelease c) s = .next (settle
        (returnUnits [c.val] false (s.setUnit c { s.unit c with own := none, anchored := none, returns := [] })))) ∧
    (∀ c : Fin 65536, ((s.unit c).shed = true ∨ (s.unit c).permanent = true) →
      exec (.fltUnitRelease c) s = .next (settle s))

/-- R461, R462, R464, R465: recovery and taping. A quiet period acts on a taping that is not held: the unit, if nothing else
tapes it, returns, and its return is remembered. The end of a reset starts SETTLE in its windows; the end of a window lets level
conditions occur that rose in it. The taping of one CVU, when no entry is sent, is counted, shows its event and level, and opens
windows on the units its reset can disturb. Choices of the model in it: log 72, 91. -/
def Obligations.RecoveryAndTaping : Prop :=
  (∀ (s : State) (c : Fin 65536), s.asleep = false →
    ((s.unit c).own = none → exec (.quietPeriodExpiry c false) s = .next (settle s)) ∧
    ((s.unit c).anchored = none → exec (.quietPeriodExpiry c true) s = .next (settle s)) ∧
    (∀ x : Taping, (s.unit c).own = some x → (x.held = true ∨ (s.unit c).permanent = true) →
      exec (.quietPeriodExpiry c false) s = .next (settle s)) ∧
    (∀ x : Taping, (s.unit c).own = some x → x.held = false → (s.unit c).permanent = false →
      let s1 := s.setUnit c { s.unit c with own := none }
      exec (.quietPeriodExpiry c false) s = .next (settle (returnUnits [c.val] true (if s1.unitTaped c then s1 else s1.setUnit c
        { s.unit c with own := none, returns := (s.unit c).returns ++ [s.chalk.cycles] })))) ∧
    (∀ (x : Taping) (ms : List Nat), (s.unit c).anchored = some (x, ms) → exec (.quietPeriodExpiry c true) s = .next (settle (
      if x.held then s else returnUnits ms true
        (s.setUnit c { s.unit c with anchored := none, returns := (s.unit c).returns ++ [s.chalk.cycles] })))) ∧
    exec (.unitResetDone c) s = .next (settle { s.setUnit c { s.unit c with resetting := false } with
      windows := mapIf (·.1 == c.val) (fun w => (w.1, w.2.1, true)) s.windows }) ∧
    (∀ d : Fin 65536, s.windows.contains (c.val, d.val, true) = false → exec (.suppressionWindowEnd c d) s = .next (settle s)) ∧
    (∀ d : Fin 65536, s.windows.contains (c.val, d.val, true) = true → exec (.suppressionWindowEnd c d) s = .next (settle
      (((s.snags.filter (fun x => x.2.inWindow && x.2.live)).map (·.1)).foldl
        (fun t e => if t.suppressed e then t else occur e t.now id t)
        { s with windows := s.windows.filter (· != (c.val, d.val, true)) }))) ∧
    (∀ d : Fin 65536, s.windows.contains (c.val, d.val, true) = true → (∀ x ∈ s.snags, x.2.inWindow = false) →
      exec (.suppressionWindowEnd c d) s =
        .next (settle { s with windows := s.windows.filter (· != (c.val, d.val, true)) }))) ∧
  (∀ (s : State) (c ev lvl : Nat), c / 0x1000 = 10 → ev ≠ 0x7FF → s.flag R.FLT_NOTIFY_HAWK_EN = false →
    min 4 lvl < s.rd R.FLT_NOTIFY_FWD_SEV → let t := tapedNow [c] ev lvl false false s
      t.unit c = { s.unit c with lastEvent := ev, lastLevel := lvl, resetting := true } ∧ t.cnt = (s.inc R.FLT_TAPINGS).cnt ∧
      (∀ d ∈ ((s.ldr.edges.filter (·.1 == c)).map (·.2.1)), (c, d, false) ∈ t.windows) ∧ t.regs = s.regs ∧ t.raised = s.raised)

/-- R466, R468 to R471, R575, R579, R22: sensors, shedding, the trip comparator, supplies, clocks and ALIVE. A valid hottest
below 130 °C with nothing shed ends shedding; a step of shedding takes or returns a port; a trip is held; ALIVE toggles each
half period unless it is stopped, and a lost heartbeat stops it once. Choices of the model in it: log 72, 73. -/
def Obligations.ThermalSupplyAliveCommands : Prop :=
  (∀ s : State,
    (∀ (readings : List (Option (BitVec 13))) (x : Int), s.asleep = false → 3 ≤ s.stage → s.stage < 6 →
      hottest ((List.range 16).map (fun i => ((readings.map (·.map (·.toNat)))[i]?).getD none)) = some x → x < 2080 →
      ∃ t, exec (.thermalSample readings) s = .next (settle t) ∧ t.therm.hot = some x ∧ t.therm.active = false ∧
        t.therm.shed = s.therm.shed) ∧
    (∀ readings : List (Option (BitVec 13)), s.asleep = false → ∃ t, exec (.thermalSample readings) s = .next (settle t) ∧
      t.therm.hot = hottest ((List.range 16).map (fun i => ((readings.map (·.map (·.toNat)))[i]?).getD none))) ∧
    (s.asleep = false → s.therm.active = false → s.therm.returning = false →
      exec .shedStepTimer s = .next (settle (showThermal s))) ∧
    (s.asleep = false → s.therm.active = true → exec .shedStepTimer s = .next (settle (showThermal (shedStep s)))) ∧
    (s.asleep = false → s.therm.active = false → s.therm.returning = true →
      exec .shedStepTimer s = .next (settle (showThermal (shedReturn s)))) ∧
    (∀ x n, s.asleep = false → s.therm.active = false → s.therm.returning = false → n ∈ s.therm.shed → s.therm.hot = some x →
      exec .shedHoldExpiry s = .next (settle (if x < 2080 then
        showThermal (shedReturn { s with therm := { s.therm with returning := true } }) else s))) ∧
    (s.power.off = false → s.pins.porLow = false → s.pins.tripped = false → ∃ t, exec .thermtrip s = .next (settle t) ∧
      t.pins.tripped = true ∧ t.pins.railEn = false ∧ t.raised = s.raised ∧ t.fuses = s.fuses) ∧
    (s.power.off = false → s.pins.porLow = false → s.pins.tripped = true → exec .thermtrip s = .next (settle s)) ∧
    (s.asleep = false → s.rd R.THM_PWR_STAT_STATE < 2 → (s.snag 1512).live = false → s.boot.early = [] →
      exec .supplyOutOfWindow s = .next (settle (s.raise 1512))) ∧
    (s.asleep = false → s.rd R.THM_PWR_STAT_STATE < 2 → ∃ t, exec .supplyInWindow s = .next (settle t) ∧
      (t.snag 1512).live = false ∧ (t.snag 1512).latched = (s.snag 1512).latched ∧ t.raised = s.raised) ∧
    (s.asleep = false → exec .refclkUpLoss s = .next (settle
      ((if (s.snag 1522).live || s.boot.early.any (·.1 == 1522) then s else s.raise 1522).forAll (List.range s.nsub) upDown))) ∧
    (s.asleep = false → exec .refclkVslLoss s = .next (settle { s with pins := { s.pins with vslLost := true } }))) ∧
  (∀ s : State, s.asleep = false →
    exec .aliveToggle s = .next (settle (if s.pins.runs = true ∧ s.aliveStopped = false then
      { s with pins := { s.pins with alive := !s.pins.alive } } else s)) ∧
    (s.devFault = true → exec .aliveToggle s = .next (settle s)) ∧
    (s.pins.runs = true → s.pins.hbLost = false → ∃ t, exec .heartbeatLoss s = .next (settle t) ∧ t.pins.hbLost = true ∧
      t.aliveStopped = true ∧ t.pins.alive = s.pins.alive ∧ t.cnt = s.cnt ∧ t.raised = s.raised) ∧
    ((s.pins.runs = false ∨ s.pins.hbLost = true) → exec .heartbeatLoss s = .next (settle s)))

/-- R481, R482, R484, R575: resets. POR_N resets everything but fuses and MRAM, and holds the device; its release, and
SYS_RST_N, latch BOOT_SEL and start Primer in CLOCK; SYS_RST_N keeps the always-on island, and starts nothing while THERMTRIP_N
is asserted. A restart and an undervoltage of the core act as SYS_RST_N, an undervoltage of the island as POR_N. -/
def Obligations.ResetCommands : Prop :=
  ∀ (s : State) (sel : Fin 8),
    (∃ t, exec .porAsserted s = .next (settle t) ∧ t.pins.porLow = true ∧ t.fuses = s.fuses ∧ t.mram = s.mram ∧
      t.pending = s.pending ∧ t.regs = Regs.reset ∧ t.cnt = Regs.reset ∧ t.dram = [] ∧ t.pins.tripped = false) ∧
    (∃ t, exec (.porRelease sel) s = .next (settle t) ∧ t.rd R.BOT_STRAP_SEL = sel ∧ t.stage = 1 ∧ t.rd R.BOT_STAT_STEP = 2 ∧
      t.pins.porLow = false ∧ t.pins.tripped = false ∧ t.fuses = s.fuses ∧ t.chalk.run = false ∧ t.dram = [] ∧ t.cnt = Regs.reset) ∧
    (s.power.off = false → s.pins.porLow = false → s.pins.tripped = false → ∃ t, exec (.sysReset sel) s = .next (settle t) ∧
      t.rd R.BOT_STRAP_SEL = sel ∧ t.stage = 1 ∧ t.rd R.BOT_STAT_STEP = 2 ∧ t.fuses = s.fuses ∧ t.chalk.run = false ∧ t.dram = [] ∧
      t.cnt = Regs.reset ∧ t.rd R.THM_WAKE_CFG_PIN_EN = s.rd R.THM_WAKE_CFG_PIN_EN % 2 ∧
      t.rd R.THM_WAKE_CFG_TIMER_EN = s.rd R.THM_WAKE_CFG_TIMER_EN % 2 ∧ t.io.dbg = s.io.dbg) ∧
    (s.power.off = false → s.pins.porLow = false → s.pins.tripped = true → ∃ t, exec (.sysReset sel) s = .next (settle t) ∧
      t.stage = 0 ∧ t.pins.tripped = true ∧ t.mram = s.mram ∧ t.fuses = s.fuses) ∧
    (s.power.off = true → exec (.sysReset sel) s = .next s) ∧
    (s.asleep = false → s.boot.selPins = sel → ∃ t, exec .botRestart s = .next t ∧ exec .coreUndervoltage s = .next t ∧
      exec (.sysReset sel) s = .next t) ∧
    (s.boot.selPins = sel → ∃ t, exec .aonUndervoltage s = .next t ∧ exec (.porRelease sel) s = .next t)

/-- R482, R484, R489: Primer. The core PLL starts Chalk at 0 and BOOT_SEL chooses the source of the firmware: boot flash or
MRAM, the host, safe mode, or for 7 the debug start of a BLANK part; the first retry of CLOCK is recorded; a slot that does not
verify leaves the other one, and safe mode after the last; one that verifies runs and Undercoat trains memory. Choices of the
model in it: log 48. -/
def Obligations.PrimerCommands : Prop :=
  ∀ s : State, s.asleep = false →
    (∀ (bad : BitVec 16) (jerr : Bool), s.stage = 1 → s.rd R.BOT_STAT_STEP = 2 →
      ∃ t, exec (.corePllLock bad jerr) s = .next (settle t) ∧ t.chalk = { Chalk.init with run := true } ∧
        (s.rd R.BOT_STRAP_SEL ≤ 3 → t.stage = 1 ∧ t.rd R.BOT_STAT_STEP = 4 ∧ t.rd R.BOT_STAT_SRC = s.rd R.BOT_STRAP_SEL / 3) ∧
        (s.rd R.BOT_STRAP_SEL = 4 → t.stage = 2 ∧ t.rd R.BOT_STAT_SRC = 2) ∧
        ((s.rd R.BOT_STRAP_SEL = 5 ∨ s.rd R.BOT_STRAP_SEL = 6) → t.stage = 6 ∧ t.rd R.BOT_STAT_SAFE_CAUSE = 2) ∧
        (s.rd R.BOT_STRAP_SEL = 7 → s.fuses.lc = 0 → t.stage = 1 ∧ t.rd R.BOT_STAT_STEP = 4 ∧ t.boot.d3 = true) ∧
        (s.rd R.BOT_STRAP_SEL = 7 → s.fuses.lc ≠ 0 → t.stage = 6 ∧ t.rd R.BOT_STAT_SAFE_CAUSE = 2)) ∧
    (∀ (bad : BitVec 16) (jerr : Bool), (s.stage ≠ 1 ∨ s.rd R.BOT_STAT_STEP ≠ 2) →
      exec (.corePllLock bad jerr) s = .next (settle s)) ∧
    (s.stage = 1 → s.rd R.BOT_STAT_STEP = 2 → s.boot.clockFail = false → ∃ t, exec .clockRetryTimer s = .next (settle t) ∧
      t.boot.clockFail = true ∧ t.rd R.BOT_JNL_NEXT_N = (s.rd R.BOT_JNL_NEXT_N + 1) % 7936 ∧ t.raised = s.raised ++ [1488]) ∧
    (s.boot.clockFail = true → exec .clockRetryTimer s = .next (settle s)) ∧
    (∀ a b : List Byte, s.stage = 1 → s.rd R.BOT_STAT_STEP = 4 → s.rd R.BOT_STRAP_SEL ≤ 3 →
      exec (.slotVerifyDone a b) s = .next (settle (slotDone a b s))) ∧
    (∀ a b : List Byte, (s.stage ≠ 1 ∨ s.rd R.BOT_STAT_STEP ≠ 4) → exec (.slotVerifyDone a b) s = .next (settle s)) ∧
    (∀ (a b : List Byte) (c d : Nat) (l : List Nat) (e : Nat × Nat × Nat), s.stage = 1 → s.rd R.BOT_STAT_STEP = 4 →
      s.rd R.BOT_STRAP_SEL ≤ 2 → s.boot.pref ≠ 2 → s.boot.candidates = c :: d :: l →
      s.slotCheck (if c = 0 then a else b) 0x4000000 = .error e → ∃ t, exec (.slotVerifyDone a b) s = .next (settle t) ∧ t.stage = 1 ∧
        t.rd R.BOT_STAT_STEP = 4 ∧ t.boot.candidates = d :: l) ∧
    (∀ (a b : List Byte) (c : Nat) (e : Nat × Nat × Nat), s.stage = 1 → s.rd R.BOT_STAT_STEP = 4 → s.rd R.BOT_STRAP_SEL ≤ 2 →
      s.boot.pref ≠ 2 → s.boot.candidates = [c] → s.slotCheck (if c = 0 then a else b) 0x4000000 = .error e →
      ∃ t, exec (.slotVerifyDone a b) s = .next (settle t) ∧ t.stage = 6 ∧ t.rd R.BOT_STAT_STEP = 0 ∧
        t.rd R.BOT_STAT_SAFE_CAUSE = 1) ∧
    (∀ (a b : List Byte) (c : Nat) (l : List Nat) (x : FwInfo × FwInfo), s.stage = 1 → s.rd R.BOT_STAT_STEP = 4 →
      s.rd R.BOT_STRAP_SEL ≤ 2 → s.boot.pref ≠ 2 → s.boot.candidates = c :: l → s.boot.early = [] →
      (∀ m, m < 8 → s.decision (192 + m) ≠ 2) → ∃ t, exec (.slotVerifyDone a b) s = .next (settle t) ∧
        (s.slotCheck (if c = 0 then a else b) 0x4000000 = .ok x → t.stage = 3 ∧ t.rd R.BOT_STAT_STEP = 0x10 ∧
        t.rd R.BOT_STAT_SLOT = c % 2 ∧ t.rd R.BOT_FW_INFO_CMAJ = x.1.major % 2 ^ 8 ∧ t.rd R.BOT_FW_INFO_LMAJ = x.2.major % 2 ^ 8 ∧
        t.boot.watchdog = true ∧ t.pins.runs = true ∧ ∀ m ∈ t.boot.training, t.rd (R.MEM_CH_STAT_STATE m) = 1))

/-- R483, R489, R490, R491: Undercoat. MEMORY ends with the channels in service and goes on to LATH; PORTS and UPLINK end in any
order, and Topcoat follows the second; an expiry of the watchdog restarts. The host boots from HOSTWAIT or safe mode, stays
there with SAFE_CAUSE 1 when its slot fails (DESIGN CHOICE, log 50), and nowhere else. -/
def Obligations.UndercoatCommands : Prop :=
  ∀ s : State, s.asleep = false →
    (s.stage = 3 → s.rd R.BOT_STAT_STEP = 0x10 → ∃ t, exec .memoryStepEnd s = .next (settle t) ∧ t.rd R.BOT_STAT_STEP = 0x11 ∧
      (t.stage = 3 ∨ t.stage = 4) ∧ t.boot.training = [] ∧ ∀ m, m ∈ t.mem.chans ↔ m < 8 ∧ t.rd (R.MEM_CH_STAT_STATE m) = 2) ∧
    (s.stage ≠ 3 → exec .memoryStepEnd s = .next (settle s) ∧ exec .portsStepEnd s = .next (settle s) ∧
      exec .uplinkStepEnd s = .next (settle s) ∧ exec .undercoatWatchdog s = .next (settle s)) ∧
    (s.bringUp = true → s.boot.portsDone = false → s.boot.uplinkDone = false → ∃ t, exec .portsStepEnd s = .next (settle t) ∧
      t.stage = 3 ∧ t.rd R.BOT_STAT_STEP = 0x13 ∧ t.boot.portsDone = true) ∧
    (s.bringUp = true → s.boot.portsDone = false → s.boot.uplinkDone = false → ∃ t, exec .uplinkStepEnd s = .next (settle t) ∧
      t.stage = 3 ∧ t.rd R.BOT_STAT_STEP = 0x12 ∧ t.boot.uplinkDone = true) ∧
    (s.bringUp = true → s.boot.portsDone = true → s.boot.uplinkDone = false → ∃ t, exec .uplinkStepEnd s = .next (settle t) ∧
      t.stage = 5 ∧ t.rd R.BOT_STAT_STEP = 0 ∧ t.boot.watchdog = false) ∧
    (s.bringUp = true → s.boot.portsDone = false → s.boot.uplinkDone = true → ∃ t, exec .portsStepEnd s = .next (settle t) ∧
      t.stage = 5 ∧ t.rd R.BOT_STAT_STEP = 0 ∧ t.boot.watchdog = false) ∧
    ((s.stage = 2 ∨ s.stage = 6) → exec .hostboot s = .next (settle (hostBoot s))) ∧
    (s.boot.watchdog = true → s.stage = 3 → s.pins.tripped = false → ∃ t, exec .undercoatWatchdog s = .next (settle t) ∧
      t.stage = 1 ∧ t.rd R.BOT_STAT_STEP = 2 ∧ t.fuses = s.fuses ∧ t.chalk.run = false) ∧
    (s.stage ≠ 2 → s.stage ≠ 6 → exec .hostboot s = .next (settle s)) ∧
    (∀ e, (s.stage = 2 ∨ s.stage = 6) → s.slotCheck (memRead s.hostload 0 0x200000) 0x200000 = .error e →
      ∃ t, exec .hostboot s = .next (settle t) ∧ t.stage = 2 ∧ t.rd R.BOT_STAT_SAFE_CAUSE = 1 ∧ 1488 ∈ t.raised) ∧
    (∀ x, (s.stage = 2 ∨ s.stage = 6) → s.boot.early = [] → (∀ m, m < 8 → s.decision (192 + m) ≠ 2) →
      ∃ t, exec .hostboot s = .next (settle t) ∧ (s.slotCheck (memRead s.hostload 0 0x200000) 0x200000 = .ok x →
        t.stage = 3 ∧ t.rd R.BOT_STAT_STEP = 0x10 ∧ t.rd R.BOT_STAT_SRC = 2 ∧ t.rd R.BOT_STAT_SAFE_CAUSE = 0))

/-- R487, R488, R492, R496: the boot journal. FORGET leaves two valid copies whose entries are all 0; forgetting one unit
changes its entry alone; a read of REC0 by a path that may make it answers the first word of the record at IDX and latches that
record. -/
def Obligations.JournalCommands : Prop :=
  ∀ s : State, s.asleep = false → s.boot.copy ≤ 1 →
    (∃ t, exec .journalForget s = .next (settle t) ∧ jnlValid (t.jnlCopy 0) = true ∧ jnlValid (t.jnlCopy 1) = true ∧
      (∀ e, e < 256 → t.jnlEntry e = 0) ∧ t.regs = s.regs ∧ t.fuses = s.fuses ∧ t.raised = s.raised ∧
      (∀ a, 0x1420 ≤ a → Tab.get 0 t.mram a = Tab.get 0 s.mram a)) ∧
    (∀ e : Fin 256, ∃ t, exec (.forgetUnit e) s = .next (settle t) ∧
      (∀ k, k < 256 → t.jnlEntry k = if k = e then 0 else s.jnlEntry k) ∧ t.regs = s.regs ∧ t.raised = s.raised ∧
      (∀ a, 0x1420 ≤ a → Tab.get 0 t.mram a = Tab.get 0 s.mram a)) ∧
    (∀ p : Path, s.accessStatus p false 0x7800040 = 0 → s.io.frozen = [] → exec (.jnlRecordRead p) s = .next (settle
      ({ s with boot := { s.boot with recLatch := some (s.jnlRec (s.rd R.BOT_JNL_IDX_N)) } }.answer p 0
        (leAt (s.jnlRec (s.rd R.BOT_JNL_IDX_N)) 0 4)))) ∧
    (∀ p : Path, s.accessStatus p false 0x7800040 ≠ 0 → exec (.jnlRecordRead p) s = .next (settle
      (s.answer p (s.accessStatus p false 0x7800040) 0)))

/-- R497, R498, R499, R519: lifecycle. A request counts in P0 from MGMT_SPI alone; a target that is not ahead, a missing key and
a wrong token are refused, each with its RESULT; an accepted request burns, and its end moves LC and restarts the device,
erasing the keys for RMA. Choices of the model in it: log 51. -/
def Obligations.LifecycleCommands : Prop :=
  ∀ (s : State) (p : Path) (key : Fin 16), s.asleep = false →
    let req (t : Nat) : State := (s.wr R.SEC_LC_CTRL_TARGET t).wr R.SEC_LC_CTRL_TOKEN_KEY key
    (∀ t, s.sec.burning = some t → exec (.lcToRma p key) s = .next (settle (req 3))) ∧
    (s.sec.burning = none → p ≠ .spi → exec (.lcToProvisioned p key) s = .next (settle ((req 1).wr R.SEC_LC_STAT_RESULT 5)) ∧
      exec (.lcToSecured p key) s = .next (settle ((req 2).wr R.SEC_LC_STAT_RESULT 5)) ∧
      exec (.lcToRma p key) s = .next (settle ((req 3).wr R.SEC_LC_STAT_RESULT 5))) ∧
    (∀ tgt : Fin 16, s.sec.burning = none → s.rd R.THM_PWR_STAT_STATE = 0 → (tgt ≤ s.fuses.lc ∨ 3 < tgt.val) →
      exec (.lcBadTarget .spi key tgt) s = .next (settle ((req tgt).wr R.SEC_LC_STAT_RESULT 2))) ∧
    (s.sec.burning = none → s.rd R.THM_PWR_STAT_STATE = 0 → s.fuses.lc = 0 → (∃ k, k < 8 ∧ 1 ≤ k ∧ s.keyPresent k = true) →
      ∃ u, exec (.lcToProvisioned .spi key) s = .next (settle u) ∧ u.sec.burning = some 1 ∧ u.rd R.SEC_LC_STAT_RESULT = 1 ∧
        u.fuses.lc = 0 ∧ u.raised = s.raised) ∧
    (s.sec.burning = none → s.rd R.THM_PWR_STAT_STATE = 0 → s.fuses.lc = 0 → (∀ k, k < 8 → 1 ≤ k → s.keyPresent k = false) →
      exec (.lcToProvisioned .spi key) s = .next (settle ((req 1).wr R.SEC_LC_STAT_RESULT 4))) ∧
    (s.sec.burning = none → s.rd R.THM_PWR_STAT_STATE = 0 → s.fuses.lc = 1 →
      (2 ≤ bits s.fuses.policy 27 26 ∨ s.keyPresent (bits s.fuses.policy 2 0) = true) →
      ∃ u, exec (.lcToSecured .spi key) s = .next (settle u) ∧ u.fuses.lc = 1 ∧ (if s.tokenOk 2 key then
        u.sec.burning = some 2 ∧ u.rd R.SEC_LC_STAT_RESULT = 1 else u.sec.burning = none ∧ u.rd R.SEC_LC_STAT_RESULT = 3)) ∧
    (s.sec.burning = none → s.rd R.THM_PWR_STAT_STATE = 0 → (s.fuses.lc = 1 ∨ s.fuses.lc = 2) →
      ∃ u, exec (.lcToRma .spi key) s = .next (settle u) ∧ u.fuses.lc = s.fuses.lc ∧ (if s.tokenOk 3 key then
        u.sec.burning = some 3 ∧ u.fuses.erasing = true else
        u.sec.burning = none ∧ u.rd R.SEC_LC_STAT_RESULT = 3 ∧ u.fuses = s.fuses)) ∧
    (∀ t, s.sec.burning = some t → s.pins.tripped = false → ∃ u, exec .lifecycleBurnDone s = .next (settle u) ∧ u.fuses.lc = t ∧
      u.stage = 1 ∧ u.rd R.BOT_STAT_STEP = 2 ∧ u.fuses.rollback = s.fuses.rollback ∧ 1499 ∈ u.raised ∧
      (t = 3 → u.fuses.ec = [] ∧ u.fuses.pq = [] ∧ u.fuses.aes = []) ∧
      (t ≠ 3 → u.fuses.ec = s.fuses.ec ∧ u.fuses.policy = s.fuses.policy)) ∧
    (s.sec.burning = none → exec .lifecycleBurnDone s = .next (settle s))

/-- R502, R504, R522 to R524: key store, anti-rollback and policy. An operation runs on a slot that fits it, that is unused, and
in a lifecycle that allows it; its end writes the fuses. The counter moves only forward, and no further than the firmware and
the image in force; the policy is taken until SECURED. -/
def Obligations.KeyCommands : Prop :=
  ∀ (s : State) (k : Fin 16), s.asleep = false →
    let put (op : Nat) : State := (s.wr R.SEC_KEY_CTRL_OP op).wr R.SEC_KEY_CTRL_SLOT k
    let go (op n : Nat) (t : State) : Prop := t.rd R.SEC_KEY_CTRL_BUSY = 1 ∧ t.rd R.SEC_KEY_CTRL_RESULT = 0 ∧
      t.sec.keyOp = some (op, k.val, s.secBytes 0x1000 n) ∧ t.fuses = s.fuses ∧ t.raised = s.raised
    (s.flag R.SEC_KEY_CTRL_BUSY = true → exec (.keyRevoke k) s = .next (settle ((put 4).wr R.SEC_KEY_CTRL_RESULT 5))) ∧
    (s.flag R.SEC_KEY_CTRL_BUSY = false → 1 ≤ k.val → k.val ≤ 7 → s.fuses.lc ≤ 1 → s.fuses.ec.get [] k = [] →
      s.fuses.aes.get [] k = [] → s.fuses.revoked.testBit k = false → ∃ t, exec (.keyProgEc k) s = .next (settle t) ∧ go 1 96 t) ∧
    (s.flag R.SEC_KEY_CTRL_BUSY = false → 1 ≤ k.val → k.val ≤ 7 → s.fuses.lc ≤ 1 → s.fuses.ec.get [] k ≠ [] →
      s.fuses.pq.get [] k = [] → ∃ t, exec (.keyProgPq k) s = .next (settle t) ∧ go 2 1952 t) ∧
    (s.flag R.SEC_KEY_CTRL_BUSY = false → 8 ≤ k.val → s.fuses.lc ≤ 1 → s.fuses.ec.get [] k = [] → s.fuses.aes.get [] k = [] →
      s.fuses.revoked.testBit k = false → ∃ t, exec (.keyProgAes k) s = .next (settle t) ∧ go 3 32 t) ∧
    (s.flag R.SEC_KEY_CTRL_BUSY = false → 1 ≤ k.val → (s.fuses.lc = 1 ∨ s.fuses.lc = 2) →
      ∃ t, exec (.keyRevoke k) s = .next (settle t) ∧ go 4 0 t) ∧
    (s.flag R.SEC_KEY_CTRL_BUSY = false → k.val = 0 → exec (.keyProgEc k) s = .next (settle ((put 1).wr R.SEC_KEY_CTRL_RESULT 2))) ∧
    (s.flag R.SEC_KEY_CTRL_BUSY = false → 8 ≤ k.val → 2 ≤ s.fuses.lc →
      exec (.keyProgAes k) s = .next (settle ((put 3).wr R.SEC_KEY_CTRL_RESULT 3))) ∧
    (∀ op : Fin 3, s.flag R.SEC_KEY_CTRL_BUSY = false →
      exec (.keyOpBad op k) s = .next (settle ((put (5 + op)).wr R.SEC_KEY_CTRL_RESULT 6))) ∧
    (∀ (op : Nat) (b : List Byte), s.sec.keyOp = some (op, k.val, b) → ∃ t, exec (.keyOpDone false) s = .next (settle t) ∧
      t.rd R.SEC_KEY_CTRL_BUSY = 0 ∧ t.rd R.SEC_KEY_CTRL_RESULT = 1 ∧ t.sec.keyOp = none ∧
      (op = 1 → t.fuses = { s.fuses with ec := s.fuses.ec.set [] k b }) ∧ (op = 2 → t.fuses = { s.fuses with pq := s.fuses.pq.set [] k b }) ∧
      (op = 3 → t.fuses = { s.fuses with aes := s.fuses.aes.set [] k b }) ∧
      (op = 4 → t.fuses = { s.fuses with revoked := s.fuses.revoked ||| 2 ^ k.val })) ∧
    (∀ x, s.sec.keyOp = some x → ∃ t, exec (.keyOpDone true) s = .next (settle t) ∧ t.rd R.SEC_KEY_CTRL_RESULT = 7 ∧
      t.rd R.SEC_KEY_CTRL_BUSY = 0 ∧ t.fuses = s.fuses) ∧
    (∀ v : Byte, s.sec.rbBurn = none → s.fuses.rollback < v.toNat → v.toNat ≤ s.fw.ctlVer → v.toNat ≤ s.fw.laneVer → s.ldr.inForce = true →
      v.toNat ≤ s.ldr.version → ∃ t, exec (.rollbackAdvance v) s = .next (settle t) ∧ t.sec.rbBurn = some v.toNat ∧
        t.rd R.SEC_RB_CTRL_RESULT = 3 ∧ t.fuses = s.fuses) ∧
    (∀ v : Byte, s.sec.rbBurn = none → (v.toNat ≤ s.fuses.rollback ∨ s.fw.ctlVer < v.toNat ∨ s.fw.laneVer < v.toNat) →
      exec (.rollbackAdvance v) s = .next (settle ((s.wr R.SEC_RB_CTRL_NEW v.toNat).wr R.SEC_RB_CTRL_RESULT 2))) ∧
    (∀ v, s.sec.rbBurn = some v → exec .rollbackBurnDone s = .next (settle { s.wr R.SEC_RB_CTRL_RESULT 1 with
      sec := { s.sec with rbBurn := none }, fuses := { s.fuses with rollback := v } })) ∧
    (s.dbgLevel < 4 → s.lcWord / 2 ^ 16 % 2 ^ 8 = s.fuses.rollback % 2 ^ 8) ∧
    (∀ (b : List Byte) (magic kind : Nat) (lath : Bool) (x : List Byte), imgVersion b < s.fuses.rollback →
      s.imgVerify b b.length magic kind lath ≠ .ok x) ∧
    (∀ v : Byte, s.sec.rbBurn = none → (s.ldr.inForce = false ∨ s.ldr.version < v.toNat) →
      exec (.rollbackAdvance v) s = .next (settle ((s.wr R.SEC_RB_CTRL_NEW v.toNat).wr R.SEC_RB_CTRL_RESULT 2))) ∧
    (∀ v : Word, exec (.secPolicyWrite v) s = .next (settle (if s.fuses.lc ≤ 1 then
      { s with fuses := { s.fuses with policy := v.toNat &&& 0xFC000007 } } else s)))

/-- R507 to R512, R518, R525, R526: debug sessions. A level whose rule is OPEN opens at once, one under CERT after its
certificate verifies; the policy refuses, and another session is BUSY; every opening, refusal and end raises E1497. An end
erases the key and resumes the cores; cores are halted in a D2 session alone. A session without MAX_TIME has no time-out, and
the opening of D2 in SECURED ends a load that is decrypting. Choices of the model in it: log 100. -/
def Obligations.DebugCommands : Prop :=
  ∀ (s : State) (p : Path) (l : Fin 4), s.asleep = false →
    let req : State := s.wr R.SEC_DBG_CTRL_LEVEL l
    (p ≠ .spi → p ≠ .debug → exec (.debugOpen p l) s = .next (settle req)) ∧
    ((p = .spi ∨ p = .debug) → s.dbgRule l = 2 → exec (.debugOpen p l) s =
      .next (settle ((req.wr R.SEC_DBG_STAT_RESULT 2).raise 1497))) ∧
    ((p = .spi ∨ p = .debug) → s.dbgRule l ≠ 2 → s.sec.session.isSome = true → exec (.debugOpen p l) s =
      .next (settle ((req.wr R.SEC_DBG_STAT_RESULT 4).raise 1497))) ∧
    ((p = .spi ∨ p = .debug) → s.dbgRule l = 0 → s.sec.session = none → s.sec.verify = none → s.rd R.THM_PWR_STAT_STATE < 2 →
      ∃ t, exec (.debugOpen p l) s = .next (settle t) ∧ t.sec.session = some ⟨p, l.val, none, 0, 0⟩ ∧ t.rd R.SEC_DBG_STAT_STATE = 2 ∧
        t.rd R.SEC_DBG_STAT_RESULT = 1 ∧ t.rd R.SEC_DBG_STAT_LEVEL = l ∧ t.rd R.SEC_DBG_STAT_PATH = (if p = .debug then 1 else 2) ∧
        t.raised = s.raised ++ [1497]) ∧
    ((p = .spi ∨ p = .debug) → s.dbgRule l = 1 → s.sec.session = none → s.sec.verify = none → s.rd R.THM_PWR_STAT_STATE < 2 →
      ∃ t, exec (.debugOpen p l) s = .next (settle t) ∧ t.sec.session = none ∧ t.sec.verify = some (p, l.val, s.certBytes) ∧
        t.rd R.SEC_DBG_STAT_STATE = 1 ∧ t.raised = s.raised) ∧
    (∀ c, s.sec.verify = some (p, l.val, c) → ∃ t, exec .debugCertVerified s = .next (settle t) ∧ t.sec.verify = none ∧
      1497 ∈ t.raised ∧ (s.lathState ≠ 2 → t.raised = s.raised ++ [1497]) ∧ (if s.certOk l c then
        t.rd R.SEC_DBG_STAT_STATE = 2 ∧ (∃ k, t.sec.session = some ⟨p, l.val, some k, 0, leAt c 0x38 4⟩) ∧
        (s.fuses.lc = 2 → l = 2 → s.lathState = 2 → imgEnc s.ldr.image = true → t.lathState = 7 ∧ t.rd R.GLB_LATH_STAT_STATUS = 9) else
        t.rd R.SEC_DBG_STAT_STATE = 0 ∧ t.rd R.SEC_DBG_STAT_RESULT = 3 ∧ t.sec.session = s.sec.session)) ∧
    (s.sec.verify = none → exec .debugCertVerified s = .next (settle s)) ∧
    (s.sec.session = none → exec .debugEnd s = .next (settle s) ∧ exec .debugSessionTimeout s = .next (settle s)) ∧
    (s.sec.session.isSome = true → ∃ t, exec .debugEnd s = .next (settle t) ∧
      t.sec.session = none ∧ t.rd R.SEC_DBG_STAT_END_CAUSE = 1 ∧ t.rd R.SEC_DBG_CORE_HALTED = 0 ∧ t.raised = s.raised ++ [1497]) ∧
    (∀ x : Session, s.sec.session = some x → x.limit = 0 → exec .debugSessionTimeout s = .next (settle s)) ∧
    (∀ x : Session, s.sec.session = some x → x.limit ≠ 0 → ∃ u, exec .debugSessionTimeout s = .next (settle u) ∧
      u.sec.session = none ∧ u.rd R.SEC_DBG_STAT_END_CAUSE = 2 ∧ u.rd R.SEC_DBG_CORE_HALTED = 0 ∧ u.raised = s.raised ++ [1497]) ∧
    (∀ v : Fin 16, exec (.debugCoreHalt v) s = .next (settle (if s.d2 then
      (s.wr R.SEC_DBG_CORE_HALT v).wr R.SEC_DBG_CORE_HALTED v else s)))

/-- R513 to R517, R529 to R531: power states. Requests are refused outside Topcoat and during a transition; P1 to P3 from P0
stop every generator and drain; P1 parks memory in self-refresh, P0 brings everything back; P2 and P3 leave the always-on
island, which a request on MGMT_SPI, WAKE_N or the timer wakes; a WAKE_N edge in the entry to P2 is held and acts on arrival
(R588). -/
def Obligations.PowerCommands : Prop :=
  ∀ (s : State) (p : Path), s.power.off = false → s.pins.porLow = false →
    let req (n : Nat) : State := s.wr R.THM_PWR_CTRL_TARGET n
    let no (r : Nat) (t : State) : State := ((t.wr R.THM_PWR_STAT_RESULT r).wr R.GLB_IRQ_STAT_POWER 1).raise 1513
    (s.pwrState < 2 → s.boot.d3 = false → s.stage ≠ 5 → exec (.pwrReqP1 p) s = .next (settle (no 2 (req 1))) ∧
      exec (.pwrReqP2 p) s = .next (settle (no 2 (req 2))) ∧ exec (.pwrReqP3 p) s = .next (settle (no 2 (req 3)))) ∧
    (s.pwrState = 0 → s.pwrTrans = 0 → s.boot.d3 = false → exec (.pwrReqP0 p) s = .next (settle (req 0))) ∧
    (s.pwrState = 0 → s.pwrTrans = 0 → s.boot.d3 = false → s.stage = 5 → s.halted = true →
      exec (.pwrReqP3 p) s = .next (settle (no 3 (req 3)))) ∧
    (s.pwrState = 0 → s.pwrTrans = 2 → s.boot.d3 = false → s.stage = 5 → exec (.pwrReqP1 p) s = .next (settle (no 5 (req 1)))) ∧
    (s.pwrState = 0 → s.pwrTrans = 0 → s.boot.d3 = false → s.stage = 5 → s.halted = false → s.lathBusy = false →
      (∀ g, g < 24 → s.tgEn g = true → (s.seam g).rows ≠ []) →
      ∃ t u v, exec (.pwrReqP1 p) s = .next (settle t) ∧ exec (.pwrReqP2 p) s = .next (settle u) ∧
        exec (.pwrReqP3 p) s = .next (settle v) ∧ t.pwrTrans = 1 ∧ u.pwrTrans = 2 ∧ v.pwrTrans = 3 ∧
        (∀ g, g < 24 → t.tgEn g = false ∧ u.tgEn g = false ∧ v.tgEn g = false) ∧
        t.power.gens = (List.range 24).filter s.tgEn ∧ t.raised = s.raised ∧ t.seams = s.seams) ∧
    (s.pwrState = 0 → s.pwrTrans = 0 → s.boot.d3 = false → s.stage = 5 → s.halted = false →
      exec (.pwrReqP1 p) s = .next (settle (pwrBegin 1 (req 1))) ∧ exec (.pwrReqP2 p) s = .next (settle (pwrBegin 2 (req 2))) ∧
      exec (.pwrReqP3 p) s = .next (settle (pwrBegin 3 (req 3)))) ∧
    (s.asleep = false → s.pipeEmpty = false → exec .pwrDrainDone s = .next (settle s)) ∧
    (s.pwrState = 0 → s.pwrTrans = 1 → s.ldr.pwrWait = none → s.pipeEmpty = true → s.power.held = false →
      ∃ t, exec .pwrDrainDone s = .next (settle t) ∧ t.pwrState = 1 ∧ t.pwrTrans = 0 ∧ t.rd R.THM_PWR_STAT_RESULT = 1 ∧
        (∀ m, m < 8 → s.rd (R.MEM_CH_STAT_STATE m) = 2 → t.rd (R.MEM_CH_STAT_STATE m) = 5)) ∧
    (s.pwrState = 0 → s.pwrTrans = 2 → s.ldr.pwrWait = none → s.pipeEmpty = true → s.power.held = true →
      ∃ t, exec .pwrDrainDone s = .next (settle t) ∧ t.pwrState = 2 ∧ t.pwrTrans = 4 ∧ t.rd R.THM_PWR_STAT_WAKE = 1 ∧
        t.pins.railEn = true ∧ t.power.rails = true ∧ t.dram = []) ∧
    (s.pwrState = 0 → (s.pwrTrans = 2 ∨ s.pwrTrans = 3) → s.ldr.pwrWait = none → s.pipeEmpty = true → s.power.held = false →
      ∃ t, exec .pwrDrainDone s = .next (settle t) ∧ t.pwrState = 2 ∧ t.rd R.THM_PWR_STAT_RESULT = 1 ∧ t.pins.railEn = false ∧
        (t.power.off = true ↔ s.pwrTrans = 3) ∧ t.sec.session = none ∧ t.dram = [] ∧ t.hostload = []) ∧
    (s.pwrState = 1 → s.pwrTrans = 0 → s.boot.d3 = false → s.stage = 5 → ∃ t, exec (.pwrReqP0 p) s = .next (settle t) ∧
      t.pwrState = 0 ∧ t.power.gens = [] ∧ t.rd R.THM_PWR_STAT_RESULT = 1) ∧
    (s.pwrState = 2 → s.pwrTrans = 0 → exec (.pwrReqP1 p) s = .next (settle ((req 1).wr R.THM_PWR_STAT_RESULT 7)) ∧
      exec (.pwrReqP2 p) s = .next (settle (req 2)) ∧ (p ≠ .spi → exec (.pwrReqP0 p) s = .next (settle (req 0)))) ∧
    (s.pwrState = 2 → s.pwrTrans = 0 → ∃ t, exec (.pwrReqP0 .spi) s = .next (settle t) ∧ t.pwrTrans = 4 ∧
      t.rd R.THM_PWR_STAT_WAKE = 2 ∧ t.pins.railEn = true ∧ t.power.rails = true) ∧
    (s.flag R.THM_WAKE_CFG_PIN_EN = false → exec .wakePin s = .next (settle s)) ∧
    (s.flag R.THM_WAKE_CFG_TIMER_EN = false → exec .wakeTimer s = .next (settle s)) ∧
    (s.flag R.THM_WAKE_CFG_PIN_EN = true → s.pwrState = 0 → (s.pwrTrans = 1 ∨ s.pwrTrans = 2) → exec .wakePin s =
      .next (settle { s with power := { s.power with held := true } })) ∧
    (s.flag R.THM_WAKE_CFG_PIN_EN = true → s.pwrState = 2 → s.pwrTrans = 0 → ∃ t, exec .wakePin s = .next (settle t) ∧
      t.pwrTrans = 4 ∧ t.rd R.THM_PWR_STAT_WAKE = 1 ∧ t.pins.railEn = true) ∧
    (s.flag R.THM_WAKE_CFG_TIMER_EN = true → s.pwrState = 2 → s.pwrTrans = 0 → ∃ t, exec .wakeTimer s = .next (settle t) ∧
      t.pwrTrans = 4 ∧ t.rd R.THM_PWR_STAT_WAKE = 3 ∧ t.pins.railEn = true) ∧
    (s.pwrState = 2 → s.power.rails = true → s.pins.tripped = false → ∃ t, exec .wakeRailsReady s = .next (settle t) ∧
      t.stage = 1 ∧ t.rd R.BOT_STAT_STEP = 2 ∧ t.pwrState = 0 ∧ t.rd R.THM_PWR_STAT_RESULT = 1 ∧ t.fuses = s.fuses) ∧
    (s.pwrState = 2 → s.power.rails = true → exec .railWakeTimeout s = .next (settle
      { (s.wr R.THM_PWR_STAT_TRANS 0).wr R.THM_PWR_STAT_RESULT 6 with
        pins := { s.pins with railEn := false }, power := { s.power with rails := false } })) ∧
    (s.power.rails = false → exec .wakeRailsReady s = .next (settle s) ∧ exec .railWakeTimeout s = .next (settle s))

/-- R9, R10, R37, R128, R555, R559: what access codes do. RW fields take the word, W1C fields clear where it has ones, SH fields
change the shadow alone, RO fields and offsets without a register ignore it; WO fields and such offsets read 0, counters read
their copies; a read of a LO register freezes its HI register until that is read; a failed access changes nothing and returns
data 0. -/
def Obligations.RegisterAccess : Prop :=
  ∀ s : State, s.asleep = false → s.stage ≠ 6 → s.sessKey .spi = none → s.io.frozen = [] →
    (∀ (k : Fin 4) (v : Word), exec (.registerWrite (BitVec.ofNat 32 (0x30 + 4 * k.val)) v .spi) s =
      .next (settle ((s.wr (R.GLB_IRQ_EN_EN k) v.toNat).answer .spi 0 0))) ∧
    (∃ t, exec (.registerWrite 0x20 0x40 .spi) s = .next (settle t) ∧ (s.rd R.GLB_IRQ_STAT_SNAP ≤ 1 → t.rd R.GLB_IRQ_STAT_SNAP = 0) ∧
      (s.rd R.GLB_IRQ_STAT_MBX ≤ 1 → t.rd R.GLB_IRQ_STAT_MBX = s.rd R.GLB_IRQ_STAT_MBX)) ∧
    (∀ v : Word, exec (.registerWrite 0x0 v .spi) s = .next (settle (s.answer .spi 0 0)) ∧
      exec (.registerWrite 0x4 v .spi) s = .next (settle (s.answer .spi 0 0)) ∧
      exec (.registerWrite 0x3400018 v .spi) s = .next (settle ((s.wr (R.STN_FG_THR_THR 0) v.toNat).answer .spi 0 0))) ∧
    exec (.spiRead 0x4) s = .next (settle (s.answer .spi 0 0)) ∧
    exec (.spiRead 0x7001000) s = .next (settle (s.answer .spi 0 0)) ∧
    exec (.spiRead 0x0) s = .next (settle (s.answer .spi 0 (s.rd (.at .glb 0 16 16 0x4192) * 2 ^ 16 + s.rd (.at .glb 0 0 4 0) +
      Config.stepping % 16))) ∧
    (s.flag R.GLB_SNAPSHOT_BUSY = false → exec (.spiRead 0x4005014) s =
      .next (settle (s.answer .spi 0 (s.snap.get R.FXT_RX_ERR)))) ∧
    exec (.freezingLoRead 0x100000 .spi) s = .next (settle ({ s with io := { s.io with
      frozen := [(0x100004, some (s.now / 2 ^ 32 % 2 ^ 32))] } }.answer .spi 0 (s.now % 2 ^ 32))) ∧
    (∀ v : Nat, exec (.freezingHiRead 0x100004 .spi) { s with io := { s.io with frozen := [(0x100004, some v)] } } =
      .next (settle (s.answer .spi 0 v))) ∧
    (∀ (a v : Word) (p : Path), s.accessStatus p true a.toNat ≠ 0 →
      exec (.registerWrite a v p) s = .next (settle (s.answer p (s.accessStatus p true a.toNat) 0))) ∧
    (∀ (a : Word) (p : Path), s.accessStatus p false a.toNat ≠ 0 →
      exec (.freezingLoRead a p) s = .next (settle (s.answer p (s.accessStatus p false a.toNat) 0)) ∧
      exec (.freezingHiRead a p) s = .next (settle (s.answer p (s.accessStatus p false a.toNat) 0)))

/-- R11, R491, R506, R516, R559: the first cause that applies. Alignment comes before the window, the window before
availability, and that before reach; key material is out of reach for DMA, SMBus and the debug port, and in SECURED for the
network; lifecycle registers are MGMT_SPI's alone; SMBus writes nothing; a TST write wants a session. -/
def Obligations.AccessReach : Prop :=
  ∀ (s : State) (p : Path) (w : Bool) (a : Nat),
    (a % 4 ≠ 0 → s.accessStatus p w a = 2) ∧
    (a % 4 = 0 → decodeAddr a = .none → s.accessStatus p w a = 1) ∧
    (a % 4 = 0 → decodeAddr a ≠ .none → s.stage = 6 → winOf a = some .vsp → s.accessStatus p w a = 4) ∧
    (∀ k, k < 192 → s.asleep = false → s.stage ≠ 6 → (p = .dma ∨ p = .smbus ∨ p = .debug) →
      s.accessStatus p w (0x1000620 + 0x10000 * k) = 3) ∧
    (s.asleep = false → (p = .mge ∨ p = .fxt) → s.fuses.lc = 2 → s.accessStatus p w 0x700000C = 3) ∧
    (s.asleep = false → s.accessStatus .spi w 0x700000C = 0) ∧
    (s.asleep = false → p ≠ .spi → p ≠ .mailbox → s.accessStatus p w 0x7000004 = 3) ∧
    (s.asleep = false → s.stage ≠ 6 → a % 4 = 0 → decodeAddr a ≠ .none → s.accessStatus .smbus true a = 3) ∧
    (s.asleep = false → s.stage ≠ 6 → s.sec.session = none → s.boot.d3 = false → (p = .spi ∨ p = .mge ∨ p = .dma) →
      s.accessStatus p true 0x8000000 = 3)

/-- R510, R560, R561: MGMT_SPI. Outside a CERT session a command is served as it stands; in one an access without a tag, or with
a wrong tag, ends the session with END_CAUSE 3 and STATUS TAG; a correct tag counts the access and serves it, and a tagged read
returns the tag over its data. An unknown command does nothing. Choices of the model in it: log 57. -/
def Obligations.SpiCommands : Prop :=
  ∀ (s : State) (a d : Word) (tag : List Byte), s.power.off = false → s.pins.porLow = false →
    (s.sessKey .spi = none → exec (.spiRead a) s = .next (settle (regRead a.toNat .spi s)) ∧
      exec (.spiWrite a d) s = .next (settle (regWrite a.toNat d.toNat .spi s)) ∧
      exec (.spiTaggedWrite a d tag) s = .next (settle (regWrite a.toNat d.toNat .spi s))) ∧
    (s.sessKey .spi = none → s.accessStatus .spi false a.toNat ≠ 0 → ∃ t, exec (.spiTaggedRead a) s = .next (settle t) ∧
      t.answerOf .spi = some (s.accessStatus .spi false a.toNat, 0) ∧ t.regs = s.regs ∧ t.cnt = s.cnt) ∧
    (∀ x : Session, s.sec.session = some x → x.path = .spi → x.key.isSome = true → ∃ t, exec (.spiRead a) s = .next (settle t) ∧
      exec (.spiWrite a d) s = .next (settle t) ∧ t.sec.session = none ∧ t.rd R.SEC_DBG_STAT_END_CAUSE = 3 ∧
      t.answerOf .spi = some (6, 0) ∧ t.raised = s.raised ++ [1497]) ∧
    (∀ (x : Session) (key : List Byte), s.sec.session = some x → x.path = .spi → x.key = some key →
      (tag ≠ accessTag key x.ctr 2 a.toNat d.toNat → ∃ t, exec (.spiTaggedWrite a d tag) s = .next (settle t) ∧
        t.sec.session = none ∧ t.answerOf .spi = some (6, 0)) ∧
      (tag = accessTag key x.ctr 2 a.toNat d.toNat → exec (.spiTaggedWrite a d tag) s = .next (settle (regWrite a.toNat d.toNat .spi
        { s with sec := { s.sec with session := some { x with ctr := x.ctr + 1 } } }))) ∧
      (s.accessStatus .spi false a.toNat = 1 → ∃ t, exec (.spiTaggedRead a) s = .next (settle t) ∧
        t.io.spiTag = accessTag key x.ctr 1 a.toNat 0 ∧ t.answerOf .spi = some (1, 0))) ∧
    exec (.spiTaggedRead a) s = .next (settle (taggedRead a.toNat .spi s)) ∧
    exec .spiUnknownCmd s = .next (settle s)

/-- R321, R512, R558, R563 to R565, R571: the other paths. A sound request to the management port is answered, an unsound one
counted, and nothing is taken while the port is off, or of a frame with a bad FCS or for another address. SMBus reads at its
pointer. A mailbox command waits for the firmware unless one runs, and ends with its RESULT and interrupt; a halted core ends
none. A stalled access ends with TIMEOUT. Choices of the model in it: log 63, 66, 100. -/
def Obligations.PathCommands : Prop :=
  ∀ s : State, s.asleep = false →
    (∀ f b, (s.flag R.GLB_MGE_CTRL_EN = false ∨ s.flag R.GLB_MGE_CTRL_LINK = false ∨ b = true ∨
      beAt f 0 6 ≠ 2 ^ 32 * s.rd R.GLB_MGE_MAC_HI_MAC + s.rd R.GLB_MGE_MAC_LO) → exec (.mgeMgmtReq f b) s = .next (settle s)) ∧
    (∀ f b src q, s.mgeFxt ⟨f, b⟩ = some (src, q) → mgmtFrame q = none →
      exec (.mgeMgmtReq f b) s = .next (settle (if fxtType q = 0x10 then s.inc R.FXT_RX_ERR else s))) ∧
    (∀ f b src q d, s.mgeFxt ⟨f, b⟩ = some (src, q) →
      mgmtFrame q = some [⟨1, 1, d⟩] → s.io.reqs = [] → ∃ t, exec (.mgeMgmtReq f b) s = .next (settle t) ∧
        t.io.mgeOut = some (src, slice q 4 4 ++ [0, 1, 0, 0, 1, 2, 0, 0, 0, 0, 0, 1, 0, 0, 0, 0]) ∧ t.cnt = (s.inc R.FXT_RX_MGMT).cnt) ∧
    (∀ f b src q ops, s.mgeFxt ⟨f, b⟩ = some (src, q) → mgmtFrame q = some ops →
      exec (.mgeMgmtReq f b) s = .next (settle (if 4 ≤ (s.io.reqs.filter (·.path == .mge)).length then s.inc R.FXT_RX_BUSY
        else mgmtTake .mge 0 src q ops s))) ∧
    exec .mgeLinkUp s = .next (settle (s.wr R.GLB_MGE_CTRL_LINK 1)) ∧ exec .mgeLinkDown s = .next (settle (s.wr R.GLB_MGE_CTRL_LINK 0)) ∧
    (∀ a : Word, exec (.smbSetPointer a) s = .next (settle { s with io := { s.io with smbPtr := a.toNat, smbNack := false } })) ∧
    (s.io.smbPtr % 4 ≠ 0 → exec .smbBlockRead s =
      .next (settle ({ s with io := { s.io with smbNack := false } }.answer .smbus 2 0))) ∧
    (s.io.smbPtr = 0 → s.io.frozen = [] → ∃ t, exec .smbBlockRead s = .next (settle t) ∧ t.io.smbNack = false ∧
      t.answerOf .smbus = some (0, s.rd (.at .glb 0 16 16 0x4192) * 2 ^ 16 + s.rd (.at .glb 0 0 4 0) + Config.stepping % 16)) ∧
    exec .smbBadCommand s = .next (settle { s with io := { s.io with smbNack := true } }) ∧
    (∀ v : Word, s.flag R.GLB_MBX_STAT_BUSY = true →
      exec (.mbxPing v) s = .next (settle (((s.wr (R.GLB_MBX_ARG 0) v.toNat).wr R.GLB_MBX_CMD_CMD 1).wr R.GLB_MBX_STAT_REFUSED 1))) ∧
    (∀ (v w d : Word) (c : BitVec 16), s.flag R.GLB_MBX_STAT_BUSY = false → ∃ t1 t2 t3 t4 t5,
      exec (.mbxPing v) s = .next (settle t1) ∧ exec .mbxFwInfo s = .next (settle t2) ∧
      exec (.mbxMramRead v w d) s = .next (settle t3) ∧ exec .mbxServoReset s = .next (settle t4) ∧
      exec (.mbxBadCmd c) s = .next (settle t5) ∧
      (∀ t ∈ [t1, t2, t3, t4, t5], t.rd R.GLB_MBX_STAT_BUSY = 1 ∧ t.cnt = s.cnt ∧ t.raised = s.raised) ∧
      (t1.io.mailbox.map (fun m => (m.1, m.2.take 1))) = some (1, [v.toNat]) ∧ (t2.io.mailbox.map (·.1)) = some 2 ∧
      (t3.io.mailbox.map (fun m => (m.1, m.2.take 3))) = some (3, [v.toNat, w.toNat, d.toNat]) ∧
      (t4.io.mailbox.map (·.1)) = some 4 ∧ (t5.io.mailbox.map (·.1)) = some c.toNat) ∧
    (∀ m, s.io.mailbox = some m → s.halted = false → ∃ t, exec (.mbxDone true) s = .next (settle t) ∧ t.io.mailbox = none ∧
      t.rd R.GLB_MBX_STAT_BUSY = 0 ∧ t.rd R.GLB_MBX_STAT_RESULT = 4 ∧ t.rd R.GLB_IRQ_STAT_MBX = 1) ∧
    (∀ v l, s.io.mailbox = some (1, v :: l) → s.halted = false → ∃ t, exec (.mbxDone false) s = .next (settle t) ∧
      t.rd R.GLB_MBX_STAT_RESULT = 1 ∧ t.rd (R.GLB_MBX_RSP 0) = (v ^^^ 0xFFFFFFFF) % 2 ^ 32) ∧
    (∀ a n d l, s.io.mailbox = some (3, a :: n :: d :: l) → s.halted = false → mramReadBad a n d = false →
      ∃ t, exec (.mbxDone false) s = .next (settle t) ∧ t.rd R.GLB_MBX_STAT_RESULT = 1 ∧
        t.scratch = memWrite s.scratch d (memRead s.mram a n) ∧ t.mram = s.mram) ∧
    (∀ a n d l, s.io.mailbox = some (3, a :: n :: d :: l) → s.halted = false → a % 64 ≠ 0 →
      ∃ t, exec (.mbxDone false) s = .next (settle t) ∧ t.rd R.GLB_MBX_STAT_RESULT = 3 ∧ t.scratch = s.scratch) ∧
    (∀ m, s.io.mailbox = some m → 4 < m.1 → s.halted = false → ∃ t, exec (.mbxDone false) s = .next (settle t) ∧
      t.rd R.GLB_MBX_STAT_RESULT = 2) ∧
    (∀ b, (s.halted = true ∨ s.io.mailbox = none) → exec (.mbxDone b) s = .next (settle s)) ∧
    (∀ p : Path, (s.answerOf p).isSome = true → exec (.accessTimeout p) s = .next (settle s)) ∧
    (s.io.smbPtr % 4 = 0 → exec .smbBlockRead s =
      .next (settle (regRead s.io.smbPtr .smbus { s with io := { s.io with smbNack := false } }))) ∧
    (∀ p : Path, s.answerOf p = none → p ≠ .debug → p ≠ .dma → ∃ t, exec (.accessTimeout p) s = .next (settle t) ∧
      t.answerOf p = some (5, 0) ∧ t.regs = s.regs ∧ ∀ q, (t.hq q).items = (s.hq q).items ∧ ∀ y ∈ (t.hq q).stalled, y.1 ≠ p) ∧
    (∀ f, s.flag R.GLB_MGE_CTRL_EN = true → s.flag R.GLB_MGE_CTRL_LINK = true →
      beAt f 0 6 = 2 ^ 32 * s.rd R.GLB_MGE_MAC_HI_MAC + s.rd R.GLB_MGE_MAC_LO →
      beAt f 12 2 = s.rd R.GLB_MGE_CTRL_ETHERTYPE → beAt f 12 2 ≠ 0x8100 → mgmtFrame ((f.drop 14).take (36 + beAt (f.drop 14) 10 2)) = none →
      fxtType ((f.drop 14).take (36 + beAt (f.drop 14) 10 2)) = 0x10 →
      exec (.mgeMgmtReq f false) s = .next (settle (s.inc R.FXT_RX_ERR)))

/-- R545 to R547: the TAP. An instruction that is not available acts as BYPASS, reset selects IDCODE, and leaving an instruction
that drives the balls resets the device. With DBG in force and no access pending, an access starts; its result shows at Capture-
DR with the debug port's own codes. Choices of the model in it: log 65. -/
def Obligations.TapCommands : Prop :=
  ∀ s : State, s.asleep = false →
    (∀ ir : Byte, (s.io.dbg.ir < 3 ∨ 7 < s.io.dbg.ir) → exec (.tapInstruction ir) s = .next (settle { s with io := { s.io with
      dbg := { s.io.dbg with ir := if s.tapOpen ir.toNat then ir.toNat else 0xFF } } })) ∧
    (∀ ir : Byte, exec (.tapInstruction ir) s = .next (settle (tapLoad ir.toNat s))) ∧
    ((s.io.dbg.ir < 3 ∨ 7 < s.io.dbg.ir) → exec .tapReset s =
      .next (settle { s with io := { s.io with dbg := { s.io.dbg with ir := 1 } } })) ∧
    (3 ≤ s.io.dbg.ir → s.io.dbg.ir ≤ 7 → s.pins.tripped = false → ∃ t, exec .tapReset s = .next (settle t) ∧ t.io.dbg.ir = 1 ∧
      t.stage = 1 ∧ t.rd R.BOT_STAT_STEP = 2 ∧ t.fuses = s.fuses) ∧
    (∀ (a d : Word) (tag : List Byte), s.dbgReady = false → exec (.dbgRead a tag) s = .next (settle s) ∧
      exec (.dbgWrite a d tag) s = .next (settle s)) ∧
    (∀ (a d : Word) (tag : List Byte), s.dbgReady = true → s.sessKey .debug = none → ∃ t u, exec (.dbgRead a tag) s = .next (settle t) ∧
      exec (.dbgWrite a d tag) s = .next (settle u) ∧ u.io.dbg.addr = a.toNat ∧
      t = regRead a.toNat .debug { s with io := { s.io with dbg := { s.io.dbg with addr := a.toNat, tag := zeros 16 } } } ∧
      u.answerOf .debug = some (((regWrite a.toNat d.toNat .debug s).answerOf .debug |>.map (·.1)).getD 0, d.toNat)) ∧
    (∀ (a : Word) (tag : List Byte) (x : Session) (key : List Byte), s.dbgReady = true → s.sec.session = some x → x.path = .debug →
      x.key = some key → tag ≠ accessTag key x.ctr 1 a.toNat 0 → ∃ t, exec (.dbgRead a tag) s = .next (settle t) ∧
        t.sec.session = none ∧ t.answerOf .debug = some (6, 0)) ∧
    (∀ st v, s.answerOf .debug = some (st, v) → exec .dbgCapture s = .next (settle { s with io := { s.io with dbg := { s.io.dbg with
      status := if st = 0 then 0 else if st = 3 ∨ st = 6 then 3 else 2, data := v } } })) ∧
    (s.answerOf .debug = none → ∃ t, exec .dbgCapture s = .next (settle t) ∧ t.io.dbg.status = 1)

/-- R532 to R543: lanes under test. A write of MODE activates an eligible lane with its pattern and restarts generator and
checker; a reserved mode and a lane in service are REFUSED; OFF ends the test. 256 matching bits lock a checker, and a loss of
lock counts its errors; INJECT inverts one generated bit, which counts once on a looped-back lane. A pattern obeys its
polynomial, or repeats with PLEN. An eye-scan point runs on a powered receiver, one at a time. Choices of the model in it: log
71, 101. -/
def Obligations.TestLaneCommands : Prop :=
  ∀ (s : State) (l : Fin 200), s.asleep = false →
    (l.val < 192 → (s.tstEligible l = true ↔ (s.laneState l = 0 ∨ s.laneState l = 6 ∨ s.laneState l = 7))) ∧
    (∀ u : Fin 8, s.tstEligible (192 + u) = true ↔ (s.flag (R.UPL_LANE_STAT_IN_USE u) = false ∨
      s.flag (R.UPL_LANE_STAT_TAPED u) = true)) ∧
    (∀ v : Word, (tstModeOk l (bits v.toNat 31 29) = false ∨ (bits v.toNat 31 29 ≠ 0 ∧ s.tstEligible l = false)) →
      exec (.tstModeWrite l v) s = .next (settle (s.wr (R.TST_LANE_STAT_REFUSED l) 1))) ∧
    (∀ v : Word, tstModeOk l (bits v.toNat 31 29) = true → bits v.toNat 31 29 ≠ 0 → s.tstEligible l = true → s.tstMode l = 0 →
      ∃ t, exec (.tstModeWrite l v) s = .next (settle t) ∧ t.tstMode l = bits v.toNat 31 29 ∧
        t.rd (R.TST_LANE_CTRL_PAT l) = bits v.toNat 28 26 ∧ t.rd (R.TST_LANE_CTRL_RATE l) = bits v.toNat 23 22 ∧
        t.rd (R.TST_LANE_CTRL_PLEN_M1 l) = bits v.toNat 6 0 ∧ t.rd (R.TST_LANE_STAT_ACTIVE l) = 1 ∧
        t.rd (R.TST_LANE_STAT_LOCK l) = 0 ∧ t.rd (R.TST_LANE_STAT_ENDED l) = 0 ∧ (t.tstLane l).lockAt = none ∧
        t.raised = s.raised) ∧
    (∀ v : Word, bits v.toNat 31 29 = 0 →  s.tstMode l ≠ 0 → s.laneState (s.base l) ≠ 6 →
      ∃ t, exec (.tstModeWrite l v) s = .next (settle t) ∧ t.tstMode l = 0 ∧ t.rd (R.TST_LANE_STAT_ACTIVE l) = 0 ∧
        t.rd (R.TST_LANE_STAT_LOCK l) = 0 ∧ (t.tstLane l).lockAt = none ∧ t.raised = s.raised) ∧
    (tstGen l (s.tstMode l) = false → exec (.tstInject l) s = .next (settle s)) ∧
    (tstGen l (s.tstMode l) = true → s.tstMode l ≠ 4 → exec (.tstInject l) s = .next (settle
      (if (s.tstLane l).flips.contains (s.injectAt l) then s
        else s.setTst l { s.tstLane l with flips := (s.tstLane l).flips ++ [s.injectAt l] }))) ∧
    (s.tstMode l = 4 → s.flag (R.TST_LANE_STAT_LOCK l) = true → (s.tstLane l).flips.contains (s.injectAt l) = false →
      ∃ t, exec (.tstInject l) s = .next (settle t) ∧ t.ctr (R.TST_ERR_LO l) = (s.ctr (R.TST_ERR_LO l) + 1) % 2 ^ 32 ∧
        t.genBit l (s.injectAt l) = !s.genBit l (s.injectAt l) ∧ (∀ k, k ≠ s.injectAt l → t.genBit l k = s.genBit l k) ∧
        t.regs = s.regs) ∧
    (s.flag (R.TST_LANE_STAT_LOCK l) = true → exec (.tstCheckerLock l) s = .next (settle s)) ∧
    (tstCheck l (s.tstMode l) = true → s.flag (R.TST_LANE_STAT_LOCK l) = false → exec (.tstCheckerLock l) s = .next (settle
      ((s.setTst l { s.tstLane l with lockAt := some s.chalk.cycles, counted := 0 }).wr (R.TST_LANE_STAT_LOCK l) 1))) ∧
    (∀ e : Nat, s.flag (R.TST_LANE_STAT_LOCK l) = false → exec (.tstCheckerLockLoss l e) s = .next (settle s)) ∧
    (∀ e : Nat, s.flag (R.TST_LANE_STAT_LOCK l) = true → ∃ t, exec (.tstCheckerLockLoss l e) s = .next (settle t) ∧
      t.rd (R.TST_LANE_STAT_LOCK l) = 0 ∧ (t.tstLane l).lockAt = none ∧ t.ctr (R.TST_LOCK_LOSS l) = (s.ctr (R.TST_LOCK_LOSS l) + 1) % 2 ^ 32 ∧
      ((s.tstLane l).lockAt.isSome = true → t.ctr (R.TST_ERR_LO l) = (s.ctr (R.TST_ERR_LO l) + e) % 2 ^ 32) ∧
      (t.tstLane l).genAt = (s.tstLane l).genAt) ∧
    ((s.rxDown l = true ∨ (s.tstLane l).eye = true) → exec (.eyeScanGo l) s =
      .next (settle (s.wr (R.TST_EYE_STAT_REFUSED l) 1))) ∧
    (s.rxDown l = false → (s.tstLane l).eye = false → exec (.eyeScanGo l) s =
      .next (settle ((s.setTst l { s.tstLane l with eye := true }).wr (R.TST_EYE_STAT_BUSY l) 1))) ∧
    (∀ e : Nat, (s.tstLane l).eye = true → exec (.eyePointDone l e) s = .next (settle
      ((((s.setTst l { s.tstLane l with eye := false }).wr (R.TST_EYE_STAT_BUSY l) 0).wr (R.TST_EYE_STAT_DONE l) 1).wr
        (R.TST_EYE_ERR l) (min e (2 ^ 32 - 1))))) ∧
    (∀ e : Nat, (s.tstLane l).eye = false → exec (.eyePointDone l e) s = .next (settle s)) ∧
    ((∀ j, j < 7 → s.rd (R.TST_BCAST_MASK j) = 0) → exec .tstBcastGo s = .next (settle s)) ∧
    (∀ v, (∀ j, j < 7 → s.rd (R.TST_BCAST_MASK j) = if j = l.val / 32 then 2 ^ (l.val % 32) else 0) →
      2 ^ 29 * s.rd R.TST_BCAST_CTRL_MODE + 2 ^ 26 * s.rd R.TST_BCAST_CTRL_PAT + 2 ^ 25 * s.rd R.TST_BCAST_CTRL_INV +
        2 ^ 22 * s.rd R.TST_BCAST_CTRL_RATE + s.rd R.TST_BCAST_CTRL_PLEN_M1 = v →
      exec .tstBcastGo s = .next (settle (tstWrite l v s))) ∧
    (∀ k : Nat, s.flag (R.TST_LANE_CTRL_INV l) = false → s.rd (R.TST_LANE_CTRL_PAT l) ≠ 5 →
      let n := (prbsTerms (s.rd (R.TST_LANE_CTRL_PAT l))).1
      let m := (prbsTerms (s.rd (R.TST_LANE_CTRL_PAT l))).2
      s.patBit l (k + n) = (s.patBit l k != s.patBit l (k + n - m))) ∧
    (∀ k : Nat, s.rd (R.TST_LANE_CTRL_PAT l) = 5 →
      s.patBit l (k + s.rd (R.TST_LANE_CTRL_PLEN_M1 l) + 1) = s.patBit l k)

/-- R136, R137, R144, R178, R215: the arithmetic of Render, Seam and Skim. Dark subtraction and gain saturate, with the worked
example of R137; the Catmull-Rom weights sum to 2^31 for every phase; outputs are u16; a crossfade lies between its two values;
a Skim update moves a gain by at most the clamp and keeps it in range. -/
def Obligations.PixelArithmetic : Prop :=
  (∀ (d x : Nat) (delta : Int), (darkStep d delta x).1 = x - (max 0 (min 65535 ((d : Int) + delta))).toNat ∧
    ((darkStep d delta x).2 = 1 ↔ x < (max 0 (min 65535 ((d : Int) + delta))).toNat)) ∧
  (∀ g y : Nat, (gainStep g y).1 = min 65535 ((y * g + 2 ^ 13) / 2 ^ 14)) ∧
  darkStep 3200 80 23088 = (19808, 0) ∧ gainStep 0x4A31 19808 = (22962, 0) ∧
  (∀ f : Nat, (cubicWeights f).sum = 2 ^ 31) ∧
  (∀ (v : Int), (clampOut v).1 ≤ 65535 ∧ ((clampOut v).2 = 0 ↔ 0 ≤ v ∧ v ≤ 65535)) ∧
  (∀ (m : MembGeom) (a b c x y z : Nat), m.mode = 0 → a ≤ c → c ≤ b → overlapValue m a b c (some x) (some y) = some z →
    min x y ≤ z ∧ z ≤ max x y) ∧
  (∀ g gt n k : Nat, 1 ≤ g → g ≤ 65535 → 1 ≤ (gainMove g gt n k 10).1 ∧ (gainMove g gt n k 10).1 ≤ 65535 ∧
    (gainMove g gt n k 10).1 ≤ g + max 1 (g / 1024) ∧ g ≤ (gainMove g gt n k 10).1 + max 1 (g / 1024))

/-- R146, R151 to R154, R163: table banks. A line leaves its port's queue for the engines; SWAP starts a validation unless the
shadow half is locked; a good validation arms, a failed one reports TBL_ERR; DISARM cancels; copy-back makes both banks equal; a
window write reaches the shadow bank below Lb and nothing else, and reads back. -/
def Obligations.BankCommands : Prop :=
  ∀ (s : State) (n : Fin 192), s.asleep = false →
    ((s.port n).lines = [] → exec (.renderLineDone n) s = .next (settle s)) ∧
    (∀ l rest, (s.port n).lines = l :: rest → ∃ t, exec (.renderLineDone n) s = .next (settle t) ∧
      t.port n = { s.port n with lines := rest } ∧ t.raised = s.raised ∧ t.mram = s.mram ∧ t.hawk = s.hawk) ∧
    (s.shadowLocked n = true → exec (.bankSwapArm n) s = .next (settle (s.wr (R.RND_BANK_STAT_WERR n) 1))) ∧
    (s.shadowLocked n = false → exec (.bankSwapArm n) s = .next (settle
      ((s.setRnd n { s.rnd n with cancel := false, want := none }).wr (R.RND_BANK_STAT_VALIDATING n) 1))) ∧
    (s.flag (R.RND_BANK_STAT_VALIDATING n) = false → exec (.bankValidationDone n) s = .next (settle s)) ∧
    (s.flag (R.RND_BANK_STAT_VALIDATING n) = true → bankError (s.shadowBank n) (s.shape n) = 0 → (s.rnd n).cancel = false →
      (s.rnd n).want = none → s.flag (R.RND_STAT_SKIM_OWNS n) = false → ∃ t, exec (.bankValidationDone n) s = .next (settle t) ∧ t.rd (R.RND_BANK_STAT_ARMED n) = 1 ∧
        t.rd (R.RND_BANK_STAT_VALIDATING n) = 0 ∧ t.rd (R.RND_BANK_STAT_TBL_ERR n) = 0 ∧ t.rnd n = s.rnd n) ∧
    (s.flag (R.RND_BANK_STAT_VALIDATING n) = true → (bankError (s.shadowBank n) (s.shape n) ≠ 0 ∨ (s.rnd n).cancel = true ∨
      s.flag (R.RND_STAT_SKIM_OWNS n) = true) → ∃ t, exec (.bankValidationDone n) s = .next (settle t) ∧ t.rd (R.RND_BANK_STAT_ARMED n) = s.rd (R.RND_BANK_STAT_ARMED n) ∧
        t.rd (R.RND_BANK_STAT_VALIDATING n) = 0 ∧
        t.rd (R.RND_BANK_STAT_TBL_ERR n) = bankError (s.shadowBank n) (s.shape n) ∧
        t.activeBank n = s.activeBank n ∧ t.shadowBank n = s.shadowBank n) ∧
    (s.flag (R.RND_BANK_STAT_VALIDATING n) = true → exec (.bankDisarm n) s =
      .next (settle (s.setRnd n { s.rnd n with cancel := true }))) ∧
    (s.flag (R.RND_BANK_STAT_VALIDATING n) = false → exec (.bankDisarm n) s = .next (settle (s.wr (R.RND_BANK_STAT_ARMED n) 0))) ∧
    (s.flag (R.RND_BANK_STAT_VALIDATING n) = true → exec (.bankValidationDone n) s = .next (settle (validationDone n s))) ∧
    (s.flag (R.RND_BANK_STAT_COPYING n) = true → (∀ g i, s.memberOfEngine n = some (g, i) → (s.skimG g).stopAt = none) → ∃ t, exec (.copyBackDone n) s = .next (settle t) ∧
      t.shadowBank n = s.activeBank n ∧ t.activeBank n = s.activeBank n ∧ t.rd (R.RND_BANK_STAT_COPYING n) = 0 ∧
      t.rd (R.RND_BANK_STAT_SCHEDULED n) = 0 ∧ (t.rnd n).swap = none) ∧
    (s.flag (R.RND_BANK_STAT_COPYING n) = false → s.memberOfEngine n = none → exec (.copyBackDone n) s = .next (settle s)) ∧
    (∀ (off : Fin 65536) (v : Word), (32768 ≤ off.val ∨ s.shadowLocked n = true) →
      exec (.tableWindowWrite n off v) s = .next (settle (s.wr (R.RND_BANK_STAT_WERR n) 1))) ∧
    (∀ (off : Fin 65536) (v : Word), off.val < 32768 → s.shadowLocked n = false → (s.shape n).lb ≤ 4 * off.val →
      exec (.tableWindowWrite n off v) s = .next (settle s)) ∧
    (∀ (off : Fin 65536) (v : Word), off.val < 32768 → s.shadowLocked n = false → 4 * off.val < (s.shape n).lb →
      ∃ t, exec (.tableWindowWrite n off v) s = .next (settle t) ∧ t.tableRead n (4 * off.val) = v.toNat ∧
        t.activeBank n = s.activeBank n ∧ (∀ k, k < 65536 → k ≠ off.val → t.tableRead n (4 * k) = s.tableRead n (4 * k)) ∧
        t.regs = s.regs)

/-- R169, R172, R174 to R180, R182: Skim. A held line goes when its mask comes, or is counted as timed out; the end of a slice
starts the next with fresh sums and never touches the bank in force; the schedule instant schedules every member once, and the
boundary puts the next epoch in force. With a control core halted no slice ends (R512). Choices of the model in it: log 100. -/
def Obligations.SkimCommands : Prop :=
  ∀ s : State, s.asleep = false →
    (∀ n : Fin 192, (s.skim n).hold = none → exec (.skimMaskArrival n) s = .next (settle s) ∧
      exec (.skimMaskTimeout n) s = .next (settle s)) ∧
    (∀ (n : Fin 192) (h : SkimHold), (s.skim n).hold = some h → h.mask.isSome = true → s.memberOfEngine n ≠ none →
      ∃ t, exec (.skimMaskArrival n) s = .next (settle t) ∧ (t.skim n).hold = none ∧ t.rd (R.RND_SKIM_STAT_HELD n) = 0 ∧
        t.rnds = s.rnds ∧ t.raised = s.raised) ∧
    (∀ (n : Fin 192) (h : SkimHold), (s.skim n).hold = some h → h.mask = none → exec (.skimMaskTimeout n) s = .next (settle
      (((s.setSkim n { s.skim n with hold := none }).wr (R.RND_SKIM_STAT_HELD n) 0).inc (R.RND_SKIM_MASK_TMO n)))) ∧
    (∀ n : Fin 192, (s.memberOfEngine n = none ∨ s.halted = true) → exec (.skimSliceEnd n) s = .next (settle s)) ∧
    (∀ (n : Fin 192) (g i : Nat), s.memberOfEngine n = some (g, i) → s.halted = false → (s.skimG g).r0.isSome = true →
      (s.skim n).slice < s.sliceCount n → (s.skim n).hold.any (·.slice == (s.skim n).slice) = false → ∃ t, exec (.skimSliceEnd n) s = .next (settle t) ∧
        (t.skim n).slice = (s.skim n).slice + 1 ∧ (t.skim n).sums = [] ∧ t.activeBank n = s.activeBank n ∧ t.regs = s.regs) ∧
    (∀ g : Fin 24, (s.skimG g).r0 = none → exec (.skimScheduleInstant g) s = .next (settle s) ∧
      exec (.skimEpochBoundary g) s = .next (settle s)) ∧
    (∀ g : Fin 24, (s.skimG g).r0.isSome = true → (s.skimG g).due = false →
      ∃ t, exec (.skimScheduleInstant g) s = .next (settle t) ∧ (t.skimG g).due = true ∧
        t.rd (R.SEM_SKIM_STAT_SCHEDULED g) = 1 ∧ (t.skimG g).k = (s.skimG g).k ∧
        (∀ e ∈ s.engines g, t.rd (R.RND_BANK_STAT_SCHEDULED e) = 1 ∧ t.rd (R.RND_BANK_STAT_ARMED e) = 0) ∧ s.now ≤ t.now) ∧
    (∀ g : Fin 24, (s.skimG g).r0.isSome = true → (s.skimG g).due = false → exec (.skimEpochBoundary g) s = .next (settle s)) ∧
    (∀ g : Fin 24, (s.skimG g).r0.isSome = true → (s.skimG g).due = true →
      ∃ t, exec (.skimEpochBoundary g) s = .next (settle t) ∧ (t.skimG g).k = (s.skimG g).k + 1 ∧ (t.skimG g).due = false ∧
        t.rd (R.SEM_SKIM_EPOCH g) = (s.rd (R.SEM_SKIM_EPOCH g) + 1) % 2 ^ 32)

/-- R184 to R186, R200, R201, R456: checkpoints. A start shows BUSY and keeps its time, or merges; without an area, or on a
write error, the checkpoint fails and MRAM stays, the latter with E1491; a complete one leaves a valid slot with the next
sequence number, and nothing else of MRAM changes; with a control core halted none completes (R512). Choices of the model in it:
log 100. -/
def Obligations.CheckpointCommands : Prop :=
  ∀ s : State, s.asleep = false →
    (s.flag R.BOT_CKPT_STAT_BUSY = true → exec .ckptNow s = .next (settle (s.wr R.BOT_CKPT_STAT_MERGED 1))) ∧
    (s.flag R.BOT_CKPT_STAT_BUSY = false → exec .ckptNow s = .next (settle
      { s.wr R.BOT_CKPT_STAT_BUSY 1 with boot := { s.boot with ckptTime := s.now } })) ∧
    (s.rd R.BOT_CKPT_CTRL_INTERVAL = 0 → exec .ckptIntervalExpiry s = .next (settle s)) ∧
    (s.rd R.BOT_CKPT_CTRL_INTERVAL ≠ 0 → ∃ t, exec .ckptIntervalExpiry s = .next t ∧ exec .ckptNow s = .next t) ∧
    (∀ b, (s.flag R.BOT_CKPT_STAT_BUSY = false ∨ s.halted = true) → exec (.ckptComplete b) s = .next (settle s)) ∧
    (∀ b, s.halted = false → s.flag R.BOT_CKPT_STAT_BUSY = true → s.rd R.BOT_CKPT_AREA_SIZE = 0 → ∃ t, exec (.ckptComplete b) s = .next (settle t) ∧
      t.rd R.BOT_CKPT_STAT_BUSY = 0 ∧ t.rd R.BOT_CKPT_STAT_RESULT = 2 ∧ t.mram = s.mram) ∧
    (s.halted = false → s.flag R.BOT_CKPT_STAT_BUSY = true → s.rd R.BOT_CKPT_AREA_SIZE ≠ 0 → ∃ t, exec (.ckptComplete true) s = .next (settle t) ∧
      t.rd R.BOT_CKPT_STAT_BUSY = 0 ∧ t.rd R.BOT_CKPT_STAT_RESULT = 3 ∧ t.mram = s.mram ∧ 1491 ∈ t.raised) ∧
    (∀ i : Nat, s.halted = false → s.flag R.BOT_CKPT_STAT_BUSY = true → s.rd R.BOT_CKPT_AREA_SIZE ≠ 0 → s.rd R.BOT_CKPT_AREA_SIZE < 2 ^ 16 →
      64 + ((s.ckptPorts.map s.ckptRecord).flatten).length ≤ (s.ckptSlot 0).2 → s.ckptNewest = some i →
      ∃ t, exec (.ckptComplete false) s = .next (settle t) ∧ t.rd R.BOT_CKPT_STAT_BUSY = 0 ∧ t.rd R.BOT_CKPT_STAT_RESULT = 1 ∧
        ckptValid (t.ckptBytes (1 - i)) = true ∧
        leAt (t.ckptBytes (1 - i)) 8 4 = (leAt (s.ckptBytes i) 8 4 + 1) % 2 ^ 32 ∧ t.ckptBytes i = s.ckptBytes i)

/-- R205, R211, R212, R217, R229, R252: rows and records. The deadline makes every unsettled member of the earliest row that is
not ready missing, cause 6, and the row ready; a member whose port is not in UP at its source's exposure is missing, cause 2;
only a ready row leaves Seam, the oldest first; Stencil takes rows in order, none while it is taped off; records pass Plumb in
order, and a record of an upper group enters its tracker's association store. Choices of the model in it: log 13, 83. -/
def Obligations.RowCommands : Prop :=
  ∀ (s : State) (g : Fin 24), s.asleep = false →
    ((∀ r ∈ (s.seam g).rows, r.ready.isSome = true) → exec (.rowDeadline g) s = .next (settle s)) ∧
    (∀ (l rest : List SeamRow) (r : SeamRow), (s.seam g).rows = l ++ r :: rest → r.ready = none →
      (∀ x ∈ l, x.ready.isSome = true) → (∀ x ∈ l ++ rest, x.n ≠ r.n) → ∃ t r', exec (.rowDeadline g) s = .next (settle t) ∧
      (t.seam g).rows = l ++ r' :: rest ∧ r'.ready = some true ∧ r'.line = r.line ∧ s.now ≤ t.now ∧ r'.members.length = r.members.length ∧
      (∀ (i : Nat) (m : SeamMember), r.members[i]? = some m → r'.members[i]? = some (if m.cause = none then { m with cause := some 6 } else m)) ∧
      t.regs = s.regs ∧ t.raised = s.raised) ∧
    (∀ m : Fin 32, (∀ r ∈ (s.seam g).rows, ∀ x, r.members[m.val]? = some x → x.cause.isSome = true) →
      exec (.sourceExposureTime g m) s = .next (settle s)) ∧
    (∀ (m : Fin 32) (r : SeamRow) (x : SeamMember), (s.seam g).rows = [r] → r.members[m.val]? = some x → x.cause = none →
      s.portUp (s.membPort g m) = false → s.sourceTime g r.n m ≤ s.now → ∃ t r', exec (.sourceExposureTime g m) s = .next (settle t) ∧
        (t.seam g).rows = [r'] ∧ r'.members[m.val]? = some { x with cause := some 2 } ∧ t.regs = s.regs ∧ t.raised = s.raised) ∧
    (∀ m : Fin 32, s.portUp (s.membPort g m) = true → ∃ t, exec (.sourceExposureTime g m) s = .next (settle t) ∧ t.seams = s.seams ∧
      t.regs = s.regs) ∧
    ((s.seam g).rows = [] → exec (.seamRowEmit g) s = .next (settle s)) ∧
    (∀ r rest, (s.seam g).rows = r :: rest → r.ready = none → exec (.seamRowEmit g) s = .next (settle s)) ∧
    (∀ r rest, (s.seam g).rows = r :: rest → r.ready.isSome = true → ∃ t d, exec (.seamRowEmit g) s = .next (settle t) ∧ (t.seam g).rows = rest ∧ (t.seam g).emitted = r.n + 1 ∧
        (t.seam g).out = (s.seam g).out ++ [d] ∧ d.n = r.n ∧ d.line = r.line ∧ d.time = r.time ∧ d.width = s.rd (R.SEM_CFG_ROW_W_M1 g) + 1 ∧
        d.cols.length = d.width ∧ d.colValid.length = d.width ∧ d.valid = memberMask r.members (·.cause == some 0) ∧
        t.rd (R.SEM_LAST_ROW g) = r.line % 2 ^ 32) ∧
    ((s.seam g).out = [] → s.tgEn g = true → s.commit g = none → (s.stn g).tiles = [] →
      ∃ t, exec (.stencilRow g) s = .next (settle t) ∧ t.seams = s.seams ∧ t.regs = s.regs ∧ t.cnt = s.cnt ∧ t.raised = s.raised) ∧
    (∀ d rest, (s.seam g).out = d :: rest → (s.stn g).taped = true → s.tgEn g = true → s.commit g = none → (s.stn g).tiles = [] →
      ∃ t, exec (.stencilRow g) s = .next (settle t) ∧ (t.seam g).out = rest ∧ t.stn g = s.stn g ∧ t.regs = s.regs ∧ t.cnt = s.cnt ∧
        t.raised = s.raised) ∧
    (∀ d rest, (s.seam g).out = d :: rest → (s.stn g).taped = false → s.tgEn g = true → ∃ t, exec (.stencilRow g) s = .next (settle t) ∧ (t.seam g).out = rest ∧
        t.rd (R.STN_STAT_RUNNING g) = 1 ∧ t.ctr (R.STN_ROWS g) = (s.ctr (R.STN_ROWS g) + 1) % 2 ^ 32) ∧
    (∀ d rest, (s.seam g).out = d :: rest → ∃ t, exec (.stencilRow g) s = .next (settle t) ∧ (t.seam g).out = rest) ∧
    (∀ (q : Fin 36) (r : ObjRec) (rest : List ObjRec), (s.plb q).queue = r :: rest → ∃ t, exec (.plumbRecord q) s = .next (settle t) ∧
      (t.plb q).queue = rest) ∧
    (∀ q : Fin 36, (s.plb q).queue = [] → exec (.plumbRecord q) s = .next (settle s)) ∧
    (∀ (q : Fin 36) (r : ObjRec) (rest : List ObjRec), 12 ≤ q.val → (s.plb q).queue = r :: rest → s.commit r.group = none →
      ∃ t, exec (.plumbRecord q) s = .next (settle t) ∧ t.plbs = (s.setPlb q { s.plb q with queue := rest }).plbs ∧ t.regs = s.regs) ∧
    (∀ (q : Fin 36) (r : ObjRec) (rest : List ObjRec), q.val < 12 → (s.plb q).queue = r :: rest → s.commit r.group = none →
      s.commit (s.plbUpper q) = none → (s.plb q).taped = false → r.group = s.plbUpper q → s.linkOf q = none →
      (s.plb q).store.length < 4096 → ∃ t e, exec (.plumbRecord q) s = .next (settle t) ∧ (t.plb q).queue = rest ∧
        (t.plb q).store = (s.plb q).store ++ [e] ∧ e.id = recId r.data ∧ e.area = recArea r.data ∧
        t.ctr (R.PLB_UPPER_IN q) = (s.ctr (R.PLB_UPPER_IN q) + 1) % 2 ^ 32)

/-- R231, R234, R244: morphology and runs. An eroded row holds only pixels of the row, a dilated one every valid pixel of it;
the runs of a row are exactly its foreground columns, each maximal. Object records. Stencil's record is 256 bytes with PSTATE 0
and TRACKER 0xFF, and Plumb rewrites its own fields in place: every byte before 0xC0 and from 0xF0 on is as Stencil left it. -/
def Obligations.StencilMasksAndRecords : Prop :=
  ((∀ (up mid dn valid : List Bool) (c : Nat), maskAt (morphRow false up mid dn valid) c = true →
    maskAt mid c = true ∧ maskAt valid c = true) ∧
  (∀ (up mid dn valid : List Bool) (c : Nat), maskAt mid c = true → maskAt valid c = true →
    maskAt (morphRow true up mid dn valid) c = true) ∧
  (∀ (m : List Bool) (c : Nat), maskAt m c = true ↔ ∃ r ∈ runsOf m 0 none, r.1 ≤ c ∧ c ≤ r.2) ∧
  (∀ (m : List Bool) (r : Nat × Nat), r ∈ runsOf m 0 none → r.1 ≤ r.2 ∧ maskAt m ((r.1 : Int) - 1) = false ∧ maskAt m (r.2 + 1) = false)) ∧
  ((∀ (e : Ended) (g id excess : Nat), e.acc.sums.length = 4 → e.acc.hist.length = 16 → (e.record g id excess).length = 256 ∧
    leAt (e.record g id excess) 0 1 = 1 ∧ leAt (e.record g id excess) 8 8 = id % 2 ^ 64 ∧
    leAt (e.record g id excess) 0xC0 1 = 0 ∧ leAt (e.record g id excess) 0xCC 1 = 0xFF ∧
    leAt (e.record g id excess) 0x30 4 = e.acc.area % 2 ^ 32 ∧ leAt (e.record g id excess) 0xF0 8 = e.prev % 2 ^ 64) ∧
  (∀ (s : State) (t : Nat) (r : ObjRec), r.data.length = 256 → (plumbTrack t r s).1.length = 256 ∧
    (plumbTrack t r s).1.take 0xC0 = r.data.take 0xC0 ∧ (plumbTrack t r s).1.drop 0xF0 = r.data.drop 0xF0))

/-- R277, R290, R292 to R294, R303, R306: the loader. GO starts FETCH, or is refused while a load runs, before AWAIT_LATH, in a
power state below P0 or a transition; a failing FETCH, VERIFY or CHECK ends FAILED with its STATUS and the load event; DRAIN
waits for the groups; APPLY ends DONE with the interrupt; in AWAIT_LATH and Undercoat the start-up goes on with it, and so does
a power request that waits. Choices of the model in it: log 42, 89. -/
def Obligations.LathCommands : Prop :=
  (∀ (s : State) (b : Bool), s.asleep = false →
    exec (.lathLoadGo b) s = .next (settle (pwrLathEnd (bootLath (lathControl (2 * b2n b + 1) s)))) ∧
    (s.lathState = 1 → exec (.lathFetchDone b) s = .next (settle (pwrLathEnd (bootLath (lathFetchDone b s))))) ∧
    (s.lathState = 2 → exec .lathVerifyDone s = .next (settle (pwrLathEnd (bootLath (lathVerifyDone s))))) ∧
    (s.lathState = 3 → exec .lathCheckDone s = .next (settle (pwrLathEnd (bootLath (lathCheckDone s))))) ∧
    (s.lathState = 4 → exec .lathDrainDone s = .next (settle (pwrLathEnd (bootLath (lathDrainDone s)))))) ∧
  ∀ s : State, s.asleep = false → s.stage = 5 → s.ldr.pwrWait = none →
    (∀ b : Bool, s.lathBusy = false → s.rd R.THM_PWR_STAT_STATE = 0 → s.rd R.THM_PWR_STAT_TRANS = 0 →
      ∃ t, exec (.lathLoadGo b) s = .next (settle t) ∧ t.lathState = 1 ∧ t.rd R.GLB_LATH_STAT_STATUS = 0 ∧
        t.rd R.GLB_LATH_CTRL_KIND = (if b then 1 else 0) ∧ t.ldr.auto = false ∧ t.raised = s.raised) ∧
    (∀ b : Bool, (s.lathBusy = true ∨ s.rd R.THM_PWR_STAT_STATE ≠ 0 ∨ s.rd R.THM_PWR_STAT_TRANS ≠ 0) →
      exec (.lathLoadGo b) s = .next (settle ((s.wr R.GLB_LATH_CTRL_KIND (if b then 1 else 0)).wr R.GLB_LATH_STAT_REFUSED 1))) ∧
    (s.lathState = 1 → exec (.lathFetchDone true) s = .next (settle ((((((s.wr R.GLB_LATH_STAT_STATE 7).wr R.GLB_LATH_STAT_STATUS 2).wr
      R.GLB_LATH_STAT_SECTION 0xFFFF).wr R.GLB_IRQ_STAT_LATH 1).raise 1489)))) ∧
    (∀ b, s.lathState = 1 → s.lathAddr % 64 = 0 → s.lathLen % 64 = 0 → 0 < s.lathLen → s.lathLen ≤ 33554432 →
      s.lathImage.1 = b → ∃ t, exec (.lathFetchDone false) s = .next (settle t) ∧
        (s.lathImage.2.1 = false → t.lathState = 2 ∧ t.ldr = { s.ldr with image := b }) ∧
        (s.lathImage.2.1 = true → t.lathState = 7 ∧ t.rd R.GLB_LATH_STAT_STATUS = 2 ∧ 1489 ∈ t.raised)) ∧
    (∀ b, s.lathState ≠ 1 → exec (.lathFetchDone b) s = .next (settle s)) ∧
    (∀ e, s.lathState = 2 → s.imgVerify s.ldr.image s.ldr.image.length 0x4854414C (s.rd R.GLB_LATH_CTRL_KIND) true = .error e →
      ∃ t, exec .lathVerifyDone s = .next (settle t) ∧ t.lathState = 7 ∧ t.rd R.GLB_LATH_STAT_STATUS = e % 2 ^ 8 ∧
        (if 6 ≤ e ∧ e ≤ 11 then t.raised = s.raised ++ [1489, 1496] else t.raised = s.raised ++ [1489]) ∧ t.ldr = s.ldr) ∧
    (s.lathState = 2 → ∃ t, exec .lathVerifyDone s = .next (settle t) ∧
      ∀ b, s.imgVerify s.ldr.image s.ldr.image.length 0x4854414C (s.rd R.GLB_LATH_CTRL_KIND) true = .ok b →
        t = { s.wr R.GLB_LATH_STAT_STATE 3 with ldr := { s.ldr with body := b } }) ∧
    (s.lathState ≠ 2 → exec .lathVerifyDone s = .next (settle s)) ∧
    (∀ st sec, s.lathState = 3 → s.lathError s.ldr.image s.lath = some (st, sec) → st ≠ 15 → ∃ t,
      exec .lathCheckDone s = .next (settle t) ∧ t.lathState = 7 ∧ t.rd R.GLB_LATH_STAT_STATUS = st % 2 ^ 8 ∧
        t.rd R.GLB_LATH_STAT_SECTION = sec % 2 ^ 16 ∧ t.rd R.GLB_IRQ_STAT_LATH = 1 ∧ t.tgs = s.tgs) ∧
    (s.lathState = 3 → s.lathError s.ldr.image s.lath = none → (∀ g, s.tgEn g = false) → ∃ t,
      exec .lathCheckDone s = .next (settle t) ∧ t.lathState = 4 ∧ (∀ g, g < 24 → g ∈ s.lath.affected →
        t.rd (R.SEM_STAT_RELOADING g) = if s.lath.part = true ∧ s.drained g = false then 1 else 0) ∧
        t.raised = s.raised) ∧
    (s.lathState ≠ 3 → exec .lathCheckDone s = .next (settle s)) ∧
    (s.lathState = 4 → s.lath.affected.all s.drained = false → exec .lathDrainDone s = .next (settle s)) ∧
    (s.lathState = 4 → s.lath.affected.all s.drained = true → ∃ t, exec .lathDrainDone s = .next (settle t) ∧ t.lathState = 5 ∧
      t.raised = s.raised ∧ (∀ k, k < 12 → s.flag (R.PLB_CFG_EN k) = true → s.plbUpper k ∈ s.lath.affected → (t.plb k).store = [])) ∧
    (s.lathState ≠ 4 → exec .lathDrainDone s = .next (settle s)) ∧
    (s.lathState ≠ 5 → exec .lathApplyDone s = .next (settle s)) ∧
    (s.lathState = 5 → ∃ t, exec .lathApplyDone s = .next (settle (pwrLathEnd (bootLath t))) ∧ t.lathState = 6 ∧ t.rd R.GLB_LATH_STAT_STATUS = 1 ∧
      t.rd R.GLB_IRQ_STAT_LATH = 1 ∧ 1489 ∈ t.raised) ∧
    (∀ v : Word, s.lathState = 1 → exec (.lathAddrWrite 0 v) s = .next (settle (s.wr R.GLB_LATH_STAT_REFUSED 1))) ∧
    (∀ v : Word, s.lathState ≠ 1 → exec (.lathAddrWrite 0 v) s = .next (settle (s.wr R.GLB_LATH_ADDR_LO v.toNat)) ∧
      exec (.lathAddrWrite 1 v) s = .next (settle (s.wr R.GLB_LATH_ADDR_HI_ADDR v.toNat)) ∧
      exec (.lathAddrWrite 2 v) s = .next (settle (s.wr R.GLB_LATH_LEN v.toNat)))

/-- R297 to R300: commits. A write of no group and no device bit is none; a request is refused in P1, for no used group, for one
that reloads, and for one that has a set pending, in that order; an accepted one of a running group captures its shadows for the
row that comes after 5,000 ns at the earliest, and leaves the registers in force alone until then; one of the device acts at
once. Choices of the model in it: log 89, 94. -/
def Obligations.CommitCommands : Prop :=
  ∀ (s : State) (v : Word), s.asleep = false → s.tst = [] → s.flag R.GLB_SNAP_CTRL_ON_COMMIT = false →
    let gs := s.usedGroups (bits v.toNat 23 0)
    let dev := v.toNat.testBit 24
    (bits v.toNat 23 0 = 0 → dev = false → exec (.commitRequest v) s = .next (settle s)) ∧
    (∀ r, (bits v.toNat 23 0 ≠ 0 ∨ dev = true) → s.commitRefusal gs dev s.inP1 = some r → exec (.commitRequest v) s = .next (settle
      ((s.wr R.GLB_COMMIT_STAT_RESULT r).wr R.GLB_COMMIT_STAT_REFUSED 1))) ∧
    (s.inP1 = true → s.commitRefusal gs dev s.inP1 = some 5) ∧
    (s.inP1 = false → gs = [] → dev = false → s.commitRefusal gs dev s.inP1 = some 4) ∧
    (∀ g, s.inP1 = false → g ∈ gs → s.reloading g = true → s.commitRefusal gs dev s.inP1 = some 3) ∧
    (∀ g, s.inP1 = false → g ∈ gs → (∀ k ∈ gs, s.reloading k = false) → (s.commit g).isSome = true →
      s.commitRefusal gs dev s.inP1 = some 2) ∧
    (gs = [] → dev = true → s.inP1 = false → ∃ t, exec (.commitRequest v) s = .next (settle t) ∧
      t.rd R.GLB_COMMIT_STAT_RESULT = 1 ∧ t.rd R.GLB_COMMIT_TIME_LO = s.now % 2 ^ 32 ∧ t.commits = s.commits ∧ t.raised = s.raised) ∧
    (s.commitRefusal gs dev s.inP1 = none → (bits v.toNat 23 0 ≠ 0 ∨ dev = true) → ∃ t, exec (.commitRequest v) s = .next (settle t) ∧
      t.rd R.GLB_COMMIT_STAT_RESULT = 1 ∧ t.rd R.GLB_COMMIT_TIME_LO = s.now % 2 ^ 32) ∧
    (∀ g, gs = [g] → dev = false → s.inP1 = false → s.reloading g = false → s.commit g = none → s.tgEn g = true →
      ∃ t c, exec (.commitRequest v) s = .next (settle t) ∧ t.commit g = some c ∧ c.row = s.commitRow g s.now ∧ c.late = false ∧
        t.rd R.GLB_COMMIT_STAT_RESULT = 1 ∧ t.rd (R.STN_FG_THR_LIVE_THR g) = s.rd (R.STN_FG_THR_LIVE_THR g) ∧
        (R.STN_FG_THR_LIVE_THR g, s.rd (R.STN_FG_THR_THR g)) ∈ c.vals ∧ t.raised = s.raised)

/-- R308 to R312, R332, R338, R460, R536: bringing a sub-port up. Training leads to ALIGNING, alignment to UP, where the link
condition clears; 500 ms without UP fail it with its link event; a retry trains again on a clean division and otherwise waits; a
lane that has lost lock for HOLD is taped off by its own rule; RESTORE brings a sub-port in fall-back back to all its lanes;
lanes under test take no part. -/
def Obligations.SubPortCommands : Prop :=
  ∀ (s : State) (x : Fin 8), s.asleep = false →
    (s.subState x = 1 → exec (.uplinkTrainingDone x) s = .next (settle (s.wr (R.UPL_SP_STAT_STATE x) 2))) ∧
    (s.subState x ≠ 1 → exec (.uplinkTrainingDone x) s = .next (settle s)) ∧
    (s.subState x ≠ 2 → exec (.uplinkAligned x) s = .next (settle s)) ∧
    (s.subState x = 2 → ∃ t, exec (.uplinkAligned x) s = .next (settle t) ∧ t.subState x = 3 ∧
      (∀ u, u < 8 → (s.rd (R.UPL_SP_STAT_LANES x)).testBit u = true → t.rd (R.UPL_LANE_STAT_AM_LOCK u) = 1) ∧
      (∀ u ∈ s.subLanes x, (t.snag (upEv u 0)).live = false)) ∧
    ((s.subState x = 1 ∨ s.subState x = 2) → exec (.uplinkBringupTimeout x) s =
      .next (settle ((s.wr (R.UPL_SP_STAT_STATE x) 4).raise (upEv (s.lowLane x) 0)))) ∧
    (s.subState x ≠ 1 → s.subState x ≠ 2 → exec (.uplinkBringupTimeout x) s = .next (settle s)) ∧
    ((s.subState x ≠ 4 ∨ s.division x (s.flag (R.UPL_SP_STAT_FALLBACK x)) = none) →
      exec (.uplinkRetryExpiry x) s = .next (settle s)) ∧
    (∀ ls, s.subState x = 4 → s.division x (s.flag (R.UPL_SP_STAT_FALLBACK x)) = some ls → ∃ t,
      exec (.uplinkRetryExpiry x) s = .next (settle t) ∧ t.subState x = (if s.flag R.UPL_CTRL_LT_EN then 1 else 2) ∧
        (∀ u ∈ s.subLanes x, t.rd (R.UPL_LANE_STAT_IN_USE u) = if u ∈ ls then 1 else 0) ∧ (t.sub x).cur = none ∧
        ∀ e ∈ t.raised, e ∈ s.raised ∨ e = upEv (s.lowLane x) 2) ∧
    (∀ u : Fin 8, (s.tstMode (192 + u) ≠ 0 ∨ s.flag (R.UPL_LANE_STAT_IN_USE u) = false ∨ s.flag (R.UPL_LANE_STAT_AM_LOCK u) = true) →
      exec (.uplinkLaneLoss u) s = .next (settle s)) ∧
    (∀ u : Fin 8, s.tstMode (192 + u) = 0 → s.flag (R.UPL_LANE_STAT_IN_USE u) = true → s.flag (R.UPL_LANE_STAT_AM_LOCK u) = false →
      s.subState (s.rd (R.UPL_LANE_STAT_SUBPORT u)) = 3 → ∃ t, exec (.uplinkLaneLoss u) s = .next (settle t) ∧
        t.rd (R.UPL_LANE_STAT_TAPED u) = 1 ∧ upEv u 0 ∈ t.raised ∧ t.ruleTaped = s.ruleTaped ++ [(0x5000 + u.val, upEv u 0)]) ∧
    ((∀ k, s.flag (R.UPL_SP_STAT_FALLBACK k) = false) → exec .uplinkRestore s = .next (settle s)) ∧
    (s.nsub = 1 → s.flag (R.UPL_SP_STAT_FALLBACK 0) = true → (∀ u ∈ s.subLanes 0, s.laneTaped u = false ∧ s.tstMode (192 + u) = 0) →
      ∃ t, exec .uplinkRestore s = .next (settle t) ∧ t.rd (R.UPL_SP_STAT_FALLBACK 0) = 0 ∧
        t.subState 0 = (if s.flag R.UPL_CTRL_LT_EN then 1 else 2) ∧ ∀ e ∈ t.raised, e ∈ s.raised ∨ e = upEv (s.lowLane 0) 2) ∧
    (∀ (u : Fin 8) (corr bad sym : Nat), s.tstMode (192 + u) = 0 → exec (.fecWindowEnd u corr bad sym) s = .next (settle (
      let t := ((s.inc (R.UPL_FEC_CORR u) corr).inc (R.UPL_FEC_UNCORR u) bad).inc (R.UPL_FEC_SYM u) sym
      if s.rd R.UPL_LANE_CFG_DEG_THR ≠ 0 ∧ s.rd R.UPL_LANE_CFG_DEG_THR < bad then t.raise (upEv u 1) else t))) ∧
    (∀ u : Fin 8, s.tstMode (192 + u) = 0 → exec (.alignmentMarkerLockLost u) s =
      .next (settle ((s.inc (R.UPL_AM_LOSS u)).wr (R.UPL_LANE_STAT_AM_LOCK u) 0))) ∧
    (∀ u : Fin 8, s.tstMode (192 + u) = 0 → s.flag (R.UPL_LANE_STAT_IN_USE u) = true → s.laneTaped u = false →
      s.subState (s.rd (R.UPL_LANE_STAT_SUBPORT u)) = 3 → exec (.alignmentMarkerLockRegained u) s =
        .next (settle (s.wr (R.UPL_LANE_STAT_AM_LOCK u) 1))) ∧
    (∀ u : Fin 8, s.flag (R.UPL_LANE_STAT_IN_USE u) = false → exec (.alignmentMarkerLockRegained u) s = .next (settle s))

/-- R317, R319, R321, R323 to R326, R328: frames. The end of a frame counts it and starts the next; a head past its deadline is
dropped; an open OBJECT or EVENT frame closes after its quiet time; management requests are served, counted as errors, or turned
away when four are held; what is not for the device is counted. Choices of the model in it: log 95, 98. -/
def Obligations.FrameCommands : Prop :=
  ∀ (s : State) (x c : Fin 8), s.asleep = false →
    (s.subState x ≠ 3 → (s.sub x).cur = none → exec (.frameTxComplete x) s = .next (settle s)) ∧
    ((s.sub x).cur = none → exec (.frameTxComplete x) s = .next (settle (upKick x s))) ∧
    (∀ f done, (s.sub x).cur = some (f, done) → ∃ t, exec (.frameTxComplete x) s = .next (settle t) ∧
      ((∀ k, (s.ucl (cix x k)).queue = []) → (t.sub x).cur = none ∧ t.raised = s.raised) ∧ t.regs = s.regs ∧
        t.ctr (R.UPL_CLASS_SENT (cix x f.cls)) = (s.ctr (R.UPL_CLASS_SENT (cix x f.cls)) + 1) % 2 ^ 32) ∧
    ((s.ucl (cix x c)).queue = [] → exec (.deadlineDrop x c) s = .next (settle s)) ∧
    (∀ f rest, (s.ucl (cix x c)).queue = f :: rest → f.deadline = none → exec (.deadlineDrop x c) s = .next (settle s)) ∧
    (∀ f rest d, (s.ucl (cix x c)).queue = f :: rest → f.deadline = some d → 0 < s.subRate x → s.chalk.run = true → ∃ t,
      exec (.deadlineDrop x c) s = .next (settle t) ∧ (t.ucl (cix x c)).queue <:+ rest ∧ s.now ≤ t.now ∧ t.regs = s.regs) ∧
    (∀ f rest d, (s.ucl (cix x c)).queue = f :: rest → f.deadline = some d → s.subRate x = 0 → ∃ t,
      exec (.deadlineDrop x c) s = .next (settle t) ∧ (t.ucl (cix x c)).queue <:+ rest ∧ t.chalk = s.chalk ∧ t.regs = s.regs) ∧
    ((s.ucl (cix x c)).objs = none → exec (.objectFrameCloseTimeout x c false) s = .next (settle s)) ∧
    ((s.ucl (cix x c)).evts = none → exec (.objectFrameCloseTimeout x c true) s = .next (settle s)) ∧
    (∀ o, (s.ucl (cix x c)).objs = some o → ∃ t, exec (.objectFrameCloseTimeout x c false) s = .next (settle t) ∧
      (t.ucl (cix x c)).objs = none ∧ t.regs = s.regs) ∧
    (∀ o, (s.ucl (cix x c)).evts = some o → ∃ t, exec (.objectFrameCloseTimeout x c true) s = .next (settle t) ∧
      (t.ucl (cix x c)).evts = none ∧ t.regs = s.regs) ∧
    (∀ f r, s.subState x ≠ 3 → exec (.mgmtReqReceived x f) s = .next (settle s) ∧ exec (.rxFrameDiscard x r) s = .next (settle s)) ∧
    (∀ r : RxFrame, (r.bad = true ∨ 9216 < r.bytes.length + 4) → s.rxKind x r = .other) ∧
    (∀ r : RxFrame, s.subState x = 3 → s.rxKind x r = .other → exec (.rxFrameDiscard x r) s = .next (settle (s.inc R.FXT_RX_OTHER))) ∧
    (∀ (r : RxFrame) (f : List Byte), s.subState x = 3 → s.rxKind x r = .fxt f → fxtType f ≠ 0x10 →
      exec (.rxFrameDiscard x r) s = .next (settle (s.inc R.FXT_RX_ERR))) ∧
    (∀ (r : RxFrame) (f : List Byte), s.subState x = 3 → s.rxKind x r = .fxt f → fxtType f = 0x10 →
      exec (.rxFrameDiscard x r) s = exec (.mgmtReqReceived x f) s) ∧
    (∀ r : RxFrame, s.rxKind x r = .control → exec (.rxFrameDiscard x r) s = .next (settle s)) ∧
    (∀ f, s.subState x = 3 → (mgmtFrame f = none ∨ s.flag R.FXT_CFG_MGMT_EN = false ∨ s.matchOn x 0x11 0xFF = none) →
      exec (.mgmtReqReceived x f) s = .next (settle (s.inc R.FXT_RX_ERR))) ∧
    (∀ f ops, s.subState x = 3 → mgmtFrame f = some ops → s.flag R.FXT_CFG_MGMT_EN = true → (s.matchOn x 0x11 0xFF).isSome = true →
      4 ≤ s.mgmtHeld → exec (.mgmtReqReceived x f) s = .next (settle (s.inc R.FXT_RX_BUSY))) ∧
    (∀ f d, s.subState x = 3 → mgmtFrame f = some [⟨1, 1, d⟩] → s.flag R.FXT_CFG_MGMT_EN = true →
      (s.matchOn x 0x11 0xFF).isSome = true → s.mgmtHeld < 4 → s.io.reqs = [] → ∃ t, exec (.mgmtReqReceived x f) s = .next (settle t) ∧
        t.answerOf .fxt = some (2, 0) ∧ t.ctr R.FXT_RX_MGMT = (s.ctr R.FXT_RX_MGMT + 1) % 2 ^ 32 ∧ t.regs = s.regs) ∧
    (∀ f ops, s.subState x = 3 → mgmtFrame f = some ops → s.flag R.FXT_CFG_MGMT_EN = true → (s.matchOn x 0x11 0xFF).isSome = true →
      s.mgmtHeld < 4 → exec (.mgmtReqReceived x f) s = .next (settle (mgmtTake .fxt x [] f ops s))) ∧
    exec (.frameWaitAccept x c) s = .next (settle (rpPump (waitAccept x c s))) ∧
    (s.replay.closing = [] → s.replay.run = none → (s.ucl (cix x c)).wait = [] → exec (.frameWaitAccept x c) s = .next (settle s)) ∧
    (∀ r rest, s.replay.closing = [] → s.replay.run = none → (s.ucl (cix x c)).wait = r :: rest →
      s.classRoom x (cix x c) r.2.type (36 + r.2.payload.length) = true → ∃ t, exec (.frameWaitAccept x c) s = .next (settle t) ∧
        (t.ucl (cix x c)).wait = rest ∧ (t.ucl (cix x c)).seq = ((s.ucl (cix x c)).seq + 1) % 2 ^ 32 ∧ t.regs = s.regs)

/-- R322, R329 to R331: flow control and time. PFC pauses the priorities it enables, PAUSE all of them with PAUSE_EN, until they
elapse; a long pause of a class raises the flow event once. Messages count on the PTP sub-port and domain alone; the grandmaster
shows, an answer gives the offset, and 3 s without Sync are HOLDOVER. Choices of the model in it: log 22, 95. -/
def Obligations.FlowAndTimeCommands : Prop :=
  ∀ (s : State) (x : Fin 8), s.asleep = false →
    (∀ (e : Byte) (q : List (BitVec 16)) (k : Nat), k < 8 → q.length = 8 → e.toNat.testBit k = true → ∃ t,
      exec (.pfcReceived x e q) s = .next (settle t) ∧ ((t.sub x).paused.contains k = true ↔ (q[k]?).getD 0 ≠ 0) ∧
        t.ctr (R.UPL_SP_PAUSE_RX x) = (s.ctr (R.UPL_SP_PAUSE_RX x) + 1) % 2 ^ 32) ∧
    (∀ q : BitVec 16, s.flag R.UPL_CTRL_PAUSE_EN = false → exec (.pauseFrameReceived x q) s =
      .next (settle (s.inc (R.UPL_SP_PAUSE_RX x)))) ∧
    (∀ q : BitVec 16, s.flag R.UPL_CTRL_PAUSE_EN = true → ∃ t, exec (.pauseFrameReceived x q) s = .next (settle t) ∧
      (∀ k, k < 8 → ((t.sub x).paused.contains k = true ↔ q ≠ 0)) ∧ (q ≠ 0 → t.rd (R.UPL_SP_STAT_PAUSED x) = 0xFF)) ∧
    (∀ k : Fin 9, ∃ t, exec (.pauseExpiry x k) s = .next (settle t) ∧ ∀ q, (t.sub x).paused.contains q = true ↔
      (s.sub x).paused.contains q = true ∧ ((s.sub x).slot k).contains q = false) ∧
    (∀ k : Fin 9, (s.rd R.UPL_FLOW_PAUSE_MAX = 0 ∨ ∀ q ∈ (s.sub x).slot k, (s.sub x).noted.contains q = true) →
      exec (.pauseMaxExceeded x k) s = .next (settle s)) ∧
    (∀ (k : Fin 9) (q c : Nat), s.rd R.UPL_FLOW_PAUSE_MAX ≠ 0 → q ∈ (s.sub x).slot k → (s.sub x).noted.contains q = false →
      c ∈ s.classes x → s.rd (R.UPL_CLASS_CTRL_LIVE_PCP (cix x c)) = q → exec (.pauseMaxExceeded x k) s =
        .next (settle ((s.setSub x { s.sub x with noted := (s.sub x).noted ++ s.pauseNew x k }).raise (upEv (s.lowLane x) 3)))) ∧
    (∀ (h : PtpHdr) (m : PtpMsg), (s.flag R.UPL_PTP_CFG_EN = false ∨ x.val ≠ s.rd R.UPL_PTP_CFG_SUBPORT ∨
      h.domain.toNat ≠ s.rd R.UPL_PTP_CFG_DOMAIN ∨ h.via.val ≠ s.ptpVia) → exec (.ptpMessageReceived x h m) s = .next (settle s)) ∧
    (∀ (h : PtpHdr) (gm : BitVec 64), s.ptpTaken x h = true → exec (.ptpMessageReceived x h (.announce gm true)) s = .next (settle
      { (s.wr R.UPL_PTP_GM_HI (gm.toNat / 2 ^ 32)).wr R.UPL_PTP_GM_LO gm.toNat with
        ptp := { s.ptp with master := some h.source.toNat } })) ∧
    (∀ (h : PtpHdr) (q : BitVec 16) (two : Bool) (t1 : BitVec 64) (corr : Int), s.ptp.master ≠ some h.source.toNat →
      exec (.ptpMessageReceived x h (.sync q two t1 corr)) s = .next (settle s)) ∧
    (∀ (h : PtpHdr) (q : BitVec 16) (t1 : BitVec 64) (corr : Int), s.ptpTaken x h = true → s.ptp.master = some h.source.toNat →
      (∃ t, exec (.ptpMessageReceived x h (.sync q false t1 corr)) s = .next (settle t) ∧ t.ptp.pair = some (t1.toNat + corr, (s.now : Int)) ∧
        t.ptp.dreq = some ⟨s.ptpVia, s.rd R.UPL_PTP_CFG_SUBPORT, s.rd R.UPL_PTP_CFG_DOMAIN, s.ptp.seq, s.now⟩ ∧ t.chalk = s.chalk ∧
        ((s.rd R.UPL_PTP_STAT_SERVO = 0 ∨ s.rd R.UPL_PTP_STAT_SERVO = 3) → t.rd R.UPL_PTP_STAT_SERVO = 1)) ∧
      (∃ t, exec (.ptpMessageReceived x h (.sync q true t1 corr)) s = .next (settle t) ∧
        t.ptp.sync = some (q.toNat, s.now, corr) ∧ t.ptp.pair = s.ptp.pair ∧ t.chalk = s.chalk) ∧
      (∀ (t2 : Nat) (c : Int), s.ptp.sync = some (q.toNat, t2, c) → ∃ t, exec (.ptpMessageReceived x h (.followUp q t1 corr)) s = .next (settle t) ∧
        t.ptp.pair = some (t1.toNat + c + corr, (t2 : Int)) ∧ t.ptp.sync = none ∧ t.ptp.dreq.isSome = true)) ∧
    (∀ (h : PtpHdr) (q : BitVec 16) (t4 : BitVec 64) (corr t1 t2 : Int) (d : DelayReq), s.ptpTaken x h = true →
      s.ptp.master = some h.source.toNat → s.ptp.pair = some (t1, t2) → s.ptp.dreq = some d → d.seq = q.toNat →
      s.flag R.UPL_PTP_CFG_DISCIPLINE = false → ∃ t,
      exec (.ptpMessageReceived x h (.delayResp q t4 corr)) s = .next (settle t) ∧ t.ptp.dreq = none ∧
        t.ptp.offset = floorDiv ((t2 - t1) - ((t4.toNat : Int) - corr - d.t3)) 2 ∧
        t.rd R.UPL_PTP_STAT_OFFSET = satSigned 24 t.ptp.offset ∧ t.chalk = s.chalk) ∧
    ((s.rd R.UPL_PTP_STAT_SERVO = 1 ∨ s.rd R.UPL_PTP_STAT_SERVO = 2) → ∃ t, exec .ptpHoldoverTimeout s = .next (settle t) ∧
      t.rd R.UPL_PTP_STAT_SERVO = 3 ∧ t.chalk = s.chalk ∧ t.raised = s.raised) ∧
    (s.rd R.UPL_PTP_STAT_SERVO ≠ 1 → s.rd R.UPL_PTP_STAT_SERVO ≠ 2 → exec .ptpHoldoverTimeout s = .next (settle s)) ∧
    ((s.rd R.FXT_TIME_CFG_PERIOD = 0 ∨ s.subState x ≠ 3) → exec (.timeFrameTimer x) s = .next (settle s)) ∧
    (s.rd R.FXT_TIME_CFG_PERIOD ≠ 0 → s.subState x = 3 → exec (.timeFrameTimer x) s = .next (settle (timeFrames x s))) ∧
    (∀ c : Nat, s.rd R.FXT_TIME_CFG_PERIOD ≠ 0 → s.subState x = 3 → (s.classes x).filter (s.matchesClass x 0x20 0xFF) = [c] →
      s.classRoom x (cix x c) 0x20 68 = true → ∃ t, exec (.timeFrameTimer x) s = .next (settle t) ∧
        (t.ucl (cix x c)).seq = ((s.ucl (cix x c)).seq + 1) % 2 ^ 32 ∧ t.regs = s.regs) ∧
    (∀ v : BitVec 16, exec (.timePeriodWrite v) s = .next (settle (s.wr R.FXT_TIME_CFG_PERIOD v.toNat)))
end

