-- ==== Sys2Proof/Laws/Blocks.lean ====
section
/-! SUPPORT. Blocks and scrambling: a block's parts, and a descrambler that holds what the scrambler holds gives back the block sent
(R45, R46). -/

namespace Sys2Proof.Machine
/-- Each scrambled bit (R46). -/
theorem scramble_getLsbD (r : BitVec 58) (p : BitVec 64) (i : Nat) (hi : i < 64) :
    (scramble r p).getLsbD i = ((p.getLsbD i ^^ (r ++ scramble r p).getLsbD (39 + i)) ^^ (r ++ scramble r p).getLsbD (58 + i)) := by
  by_cases h1 : i < 25
  · have c : ¬ 39 + i < 25 := by omega
    have d : ¬ 58 + i < 25 := by omega
    have e : 39 + i - 25 = 14 + i := by omega
    have f : 58 + i - 25 = 33 + i := by omega
    have g : 39 + i < 64 := by omega
    have k : 14 + i < 39 := by omega
    by_cases h2 : i < 6
    · have l : 58 + i < 64 := by omega
      have m : 33 + i < 39 := by omega
      simp only [scramble, BitVec.getLsbD_xor, BitVec.getLsbD_append, BitVec.getLsbD_extractLsb', h1, c, d, e, f, g, k, l, m]
      simp
    · have l : ¬ 58 + i < 64 := by omega
      have m : ¬ 33 + i < 39 := by omega
      have o : 58 + i - 64 = 33 + i - 39 := by omega
      simp only [scramble, BitVec.getLsbD_xor, BitVec.getLsbD_append, BitVec.getLsbD_extractLsb', h1, c, d, e, f, g, k, l, m, o]
      simp
  · have g : ¬ 39 + i < 64 := by omega
    have l : ¬ 58 + i < 64 := by omega
    have a : 39 + i - 64 = i - 25 := by omega
    have b : 58 + i - 64 = 19 + (i - 25) := by omega
    have c : i - 25 < 39 := by omega
    have d : 25 + (i - 25) = i := by omega
    simp only [scramble, BitVec.getLsbD_xor, BitVec.getLsbD_append, BitVec.getLsbD_extractLsb', h1, g, l, a, b, c, d]
    simp
/-- Descrambling takes scrambling back (R46). -/
theorem descramble_scramble (r : BitVec 58) (p : BitVec 64) : descramble r (scramble r p) = p := by
  apply BitVec.eq_of_getLsbD_eq
  intro i hi
  simp only [descramble, BitVec.getLsbD_xor, BitVec.getLsbD_extractLsb', hi, decide_true, Bool.true_and]
  rw [scramble_getLsbD r p i hi]
  generalize (r ++ scramble r p).getLsbD (39 + i) = a
  generalize (r ++ scramble r p).getLsbD (58 + i) = b
  cases p.getLsbD i <;> cases a <;> cases b <;> rfl

/-- The bits of a block: the payload below, the sync header above. -/
theorem mkBlock_bit (h : BitVec 2) (p : BitVec 64) (i : Nat) :
    (mkBlock h p).getLsbD i = if i < 64 then p.getLsbD i else h.getLsbD (i - 64) :=
  (BitVec.getLsbD_append (x := h) (y := p) (i := i)).trans (by split <;> simp_all)

@[simp] theorem blockPayload_mkBlock (h : BitVec 2) (p : BitVec 64) : blockPayload (mkBlock h p) = p := by
  apply BitVec.eq_of_getLsbD_eq
  intro i hi
  simp only [blockPayload, BitVec.getLsbD_extractLsb', mkBlock_bit, Nat.zero_add, hi, if_true, decide_true, Bool.true_and]

@[simp] theorem sync_mkBlock (h : BitVec 2) (p : BitVec 64) : (mkBlock h p).extractLsb' 64 2 = h := by
  apply BitVec.eq_of_getLsbD_eq
  intro i hi
  have a : ¬ 64 + i < 64 := by omega
  simp only [BitVec.getLsbD_extractLsb', mkBlock_bit, hi, a, if_false, decide_true, Bool.true_and, Nat.add_sub_cancel_left]

theorem mkBlock_parts (w : Block) : mkBlock (w.extractLsb' 64 2) (blockPayload w) = w := by
  apply BitVec.eq_of_getLsbD_eq
  intro i hi
  have b : i - 64 < 2 := by omega
  rw [mkBlock_bit]
  split
  · simp only [blockPayload, BitVec.getLsbD_extractLsb', Nat.zero_add, *, decide_true, Bool.true_and]
  · have a : 64 + (i - 64) = i := by omega
    simp only [BitVec.getLsbD_extractLsb', a, b, decide_true, Bool.true_and]

/-- A block that a scrambler in step has put on the wire is received as it was sent (R46). -/
theorem descramble_onWire (r : BitVec 58) (u : Block) :
    mkBlock ((onWire r u).extractLsb' 64 2) (descramble r (blockPayload (onWire r u))) = u := by
  simp [onWire, descramble_scramble, mkBlock_parts]

/-- The bytes of a payload come back in order (R45). -/
theorem payloadBytes_payloadOf (a b c d e f g h : Byte) : payloadBytes (payloadOf [a, b, c, d, e, f, g, h]) = [a, b, c, d, e, f, g, h] := by
  have ha := a.isLt; have hb := b.isLt; have hc := c.isLt; have hd := d.isLt
  have he := e.isLt; have hf := f.isLt; have hg := g.isLt; have hh := h.isLt
  have r : List.range 8 = [0, 1, 2, 3, 4, 5, 6, 7] := by decide
  have p : padTo 8 [a, b, c, d, e, f, g, h] = [a, b, c, d, e, f, g, h] := rfl
  simp only [payloadBytes, r, List.map, payloadOf, p, beNat, List.foldl]
  simp only [List.cons.injEq, and_true]
  refine ⟨?_, ?_, ?_, ?_, ?_, ?_, ?_, ?_⟩ <;>
    (apply BitVec.eq_of_toNat_eq; simp only [BitVec.extractLsb'_toNat, BitVec.toNat_ofNat, Nat.shiftRight_eq_div_pow]; omega)

/-- A control block carries its 8 bytes (R45). -/
theorem blockBytes_controlBlock (bs : List Byte) (h : bs.length = 8) : blockBytes (controlBlock bs) = bs := by
  match bs, h with
  | [a, b, c, d, e, f, g, k], _ => exact (congrArg payloadBytes (blockPayload_mkBlock _ _)).trans (payloadBytes_payloadOf a b c d e f g k)

/-- A data block carries its 8 bytes (R45, R52). -/
theorem blockBytes_dataBlock (bs : List Byte) (h : bs.length = 8) : blockBytes (dataBlock bs) = bs := by
  match bs, h with
  | [a, b, c, d, e, f, g, k], _ => exact (congrArg payloadBytes (blockPayload_mkBlock _ _)).trans (payloadBytes_payloadOf a b c d e f g k)

/-- A data block is one (R45). -/
theorem blockKind_dataBlock (bs : List Byte) : blockKind (dataBlock bs) = .data := by
  simp [blockKind, blockSync, dataBlock]

end Sys2Proof.Machine
end

