-- ==== Sys2Proof/Laws/Tab.lean ====
section
/-! SUPPORT. Laws of the sparse tables, of the register store and of the memories: a read after a write, and the canonical form. -/

namespace Sys2Proof.Machine

variable {α : Type}

/-! ### Keys and reads -/

theorem Tab.above_mono {b c : Nat} (h : c ≤ b) : ∀ {t : Tab α}, t.above b = true → t.above c = true
  | [], _ => rfl
  | (k, _) :: t, ht => by
    simp only [Tab.above, Bool.and_eq_true, decide_eq_true_eq] at ht ⊢
    exact ⟨by omega, Tab.above_mono h ht.2⟩

theorem Tab.above_erase {b a : Nat} : ∀ {t : Tab α}, t.above b = true → (t.erase a).above b = true
  | [], _ => rfl
  | (k, v) :: t, h => by
    simp only [Tab.above, Bool.and_eq_true, decide_eq_true_eq] at h
    unfold Tab.erase
    split
    · exact Tab.above_erase h.2
    · simp [Tab.above, h.1, Tab.above_erase h.2]

theorem Tab.above_insert {b a : Nat} {v : α} (ha : b < a) : ∀ {t : Tab α}, t.above b = true → (t.insert a v).above b = true
  | [], _ => by simp [Tab.insert, Tab.above, ha]
  | (k, w) :: t, h => by
    simp only [Tab.above, Bool.and_eq_true, decide_eq_true_eq] at h
    unfold Tab.insert
    split
    · simp [Tab.above, ha, h.1, h.2]
    · split
      · simp [Tab.above, ha, h.2]
      · simp [Tab.above, h.1, Tab.above_insert ha h.2]

/-- A key below every listed key reads as the default. -/
theorem Tab.get_of_above {d : α} {a b : Nat} (hb : a ≤ b) : ∀ {t : Tab α}, t.above b = true → t.get d a = d
  | [], _ => rfl
  | (k, v) :: t, h => by
    simp only [Tab.above, Bool.and_eq_true, decide_eq_true_eq] at h
    have hk : k ≠ a := by omega
    simp [Tab.get, hk, Tab.get_of_above hb h.2]

theorem Tab.get_erase_same {d : α} {a : Nat} : ∀ {t : Tab α}, (t.erase a).get d a = d
  | [] => rfl
  | (k, v) :: t => by
    unfold Tab.erase
    split
    · exact Tab.get_erase_same
    · rename_i h
      simp [Tab.get, h, Tab.get_erase_same]

theorem Tab.get_erase_other {d : α} {a b : Nat} (h : b ≠ a) : ∀ {t : Tab α}, (t.erase a).get d b = t.get d b
  | [] => rfl
  | (k, v) :: t => by
    unfold Tab.erase
    split
    · rename_i e
      subst e
      simp [Tab.get, Ne.symm h, Tab.get_erase_other h]
    · simp [Tab.get, Tab.get_erase_other h]

theorem Tab.get_insert_same {d v : α} {a : Nat} : ∀ {t : Tab α}, (t.insert a v).get d a = v
  | [] => by simp [Tab.insert, Tab.get]
  | (k, w) :: t => by
    unfold Tab.insert
    split
    · simp [Tab.get]
    · split
      · simp [Tab.get]
      · rename_i h
        simp [Tab.get, Ne.symm h, Tab.get_insert_same]

theorem Tab.get_insert_other {d v : α} {a b : Nat} (h : b ≠ a) : ∀ {t : Tab α}, (t.insert a v).get d b = t.get d b
  | [] => by simp [Tab.insert, Tab.get, Ne.symm h]
  | (k, w) :: t => by
    unfold Tab.insert
    split
    · simp [Tab.get, Ne.symm h]
    · split
      · rename_i e
        subst e
        simp [Tab.get, Ne.symm h]
      · simp [Tab.get, Tab.get_insert_other h]

/-- A read of the key just written gives the value written. -/
theorem Tab.get_set_same [DecidableEq α] {d v : α} {t : Tab α} {a : Nat} : (t.set d a v).get d a = v := by
  unfold Tab.set
  split
  · rename_i h
    rw [h, Tab.get_erase_same]
  · exact Tab.get_insert_same

/-- A write leaves every other key alone. -/
theorem Tab.get_set_other [DecidableEq α] {d v : α} {t : Tab α} {a b : Nat} (h : b ≠ a) : (t.set d a v).get d b = t.get d b := by
  unfold Tab.set
  split
  · exact Tab.get_erase_other h
  · exact Tab.get_insert_other h

/-! ### The canonical form -/

theorem Tab.wf_nil [DecidableEq α] {d : α} : Tab.wf d [] = true := rfl

theorem Tab.wf_erase [DecidableEq α] {d : α} {a : Nat} : ∀ {t : Tab α}, t.wf d = true → (t.erase a).wf d = true
  | [], _ => rfl
  | (k, v) :: t, h => by
    simp only [Tab.wf, Bool.and_eq_true, decide_eq_true_eq] at h
    unfold Tab.erase
    split
    · exact Tab.wf_erase h.2
    · simp [Tab.wf, Tab.above_erase h.1.1, h.1.2, Tab.wf_erase h.2]

theorem Tab.wf_insert [DecidableEq α] {d v : α} {a : Nat} (hv : v ≠ d) : ∀ {t : Tab α}, t.wf d = true → (t.insert a v).wf d = true
  | [], _ => by simp [Tab.insert, Tab.wf, Tab.above, hv]
  | (k, w) :: t, h => by
    simp only [Tab.wf, Bool.and_eq_true, decide_eq_true_eq] at h
    unfold Tab.insert
    split
    · rename_i ha
      simp [Tab.wf, Tab.above, ha, hv, h.1.1, h.1.2, h.2, Tab.above_mono (Nat.le_of_lt ha) h.1.1]
    · split
      · rename_i e
        subst e
        simp [Tab.wf, hv, h.1.1, h.2]
      · rename_i h1 h2
        simp [Tab.wf, h.1.2, Tab.above_insert (by omega : k < a) h.1.1, Tab.wf_insert hv h.2]

/-- A write keeps the canonical form. -/
theorem Tab.wf_set [DecidableEq α] {d v : α} {t : Tab α} {a : Nat} (h : t.wf d = true) : (t.set d a v).wf d = true := by
  unfold Tab.set
  split
  · exact Tab.wf_erase h
  · exact Tab.wf_insert (by assumption) h

/-! ### Registers -/

theorem Regs.wf_tab {r : Regs} (h : r.wf = true) (b : Blk) : (r.tab b).wf 0 = true := by
  simp only [Regs.wf, Bool.and_eq_true] at h
  cases b <;> simp [Regs.tab, h]

theorem Regs.wf_setTab {r : Regs} (h : r.wf = true) (b : Blk) {t : Tab Nat} (ht : t.wf 0 = true) : (r.setTab b t).wf = true := by
  simp only [Regs.wf, Bool.and_eq_true] at h
  cases b <;> simp [Regs.setTab, Regs.wf, h, ht]

/-- Setting a field keeps the canonical form. -/
theorem Regs.wf_set {r : Regs} (h : r.wf = true) (f : Fld) (v : Nat) : (r.set f v).wf = true :=
  Regs.wf_setTab h f.blk (Tab.wf_set (Regs.wf_tab h f.blk))

@[simp] theorem Regs.tab_setTab_same (r : Regs) (b : Blk) (t : Tab Nat) : (r.setTab b t).tab b = t := by cases b <;> rfl

theorem Regs.tab_setTab_other (r : Regs) {b c : Blk} (h : c ≠ b) (t : Tab Nat) : (r.setTab b t).tab c = r.tab c := by
  cases b <;> cases c <;> first | rfl | exact absurd rfl h

/-- A field just set reads as the low bits written. -/
theorem Regs.get_set_same (r : Regs) (f : Fld) (v : Nat) : (r.set f v).get f = v % 2 ^ f.w := by
  simp only [Regs.get, Regs.set, Regs.tab_setTab_same, Tab.get_set_same, Nat.xor_assoc, Nat.xor_self, Nat.xor_zero]

/-- Setting a field leaves every field at another place alone. -/
theorem Regs.get_set_other (r : Regs) {f g : Fld} (v : Nat) (h : g.blk ≠ f.blk ∨ g.key ≠ f.key) : (r.set f v).get g = r.get g := by
  unfold Regs.get Regs.set
  by_cases hb : g.blk = f.blk
  · rw [hb, Regs.tab_setTab_same, Tab.get_set_other (h.resolve_left (fun n => n hb))]
  · rw [Regs.tab_setTab_other r hb]

/-- Every field reads its reset value in the store at reset. -/
theorem Regs.get_reset (f : Fld) : Regs.reset.get f = f.rst := by
  unfold Regs.get Regs.reset
  cases f with | mk b k w v => cases b <;> simp [Regs.tab, Tab.get]

/-! ### Memories -/

/-- Writing bytes keeps the canonical form. -/
theorem memWrite_wf {m : List Host.Cell} (a : Nat) (bs : List Byte) (h : Tab.wf 0 m = true) : Tab.wf 0 (memWrite m a bs) = true := by
  induction bs generalizing m a with
  | nil => exact h
  | cons b t ih => exact ih (a + 1) (Tab.wf_set h)

/-- Writing bytes at `a` leaves every byte outside them alone. -/
theorem memWrite_other {m : List Host.Cell} (a : Nat) (bs : List Byte) {x : Nat} (h : x < a ∨ a + bs.length ≤ x) :
    Tab.get 0 (memWrite m a bs) x = Tab.get 0 m x := by
  induction bs generalizing m a with
  | nil => rfl
  | cons b t ih =>
    simp only [List.length_cons] at h
    rw [memWrite, ih (a + 1) (by omega), Tab.get_set_other (by omega)]

/-- A byte written reads back. -/
theorem memWrite_same {m : List Host.Cell} (a : Nat) (bs : List Byte) {i : Nat} (h : i < bs.length) :
    Tab.get 0 (memWrite m a bs) (a + i) = bs[i] := by
  induction bs generalizing m a i with
  | nil => simp at h
  | cons b t ih =>
    cases i with
    | zero =>
      rw [memWrite, memWrite_other (a + 1) t (by omega)]
      exact Tab.get_set_same
    | succ j =>
      simp only [List.length_cons] at h
      rw [memWrite, show a + (j + 1) = a + 1 + j by omega, ih (a + 1) (by omega)]
      rfl

end Sys2Proof.Machine
end

