-- ==== Sys2Proof/Laws/Keeps.lean ====
section
/-! SUPPORT. What every operation of the block keeps: the queue, the canonical form of tables and memories, the free values
already drawn, and the one-way fuses. `Keeps a s` says it of a state `s` reached from `a`; each operation has one lemma that
carries it on. -/

namespace Sys2Proof.Machine

/-- What a state `b` reached from `a` by operations of one command has kept. -/
structure Keeps (a b : State) : Prop where
  queue    : b.pending = a.pending
  draws    : a.draws ≤ b.draws
  canon    : a.Canon → b.Canon
  life     : a.Lifecycle → b.Lifecycle
  lc       : a.Lifecycle → a.fuses.lc ≤ b.fuses.lc
  rollback : a.Lifecycle → a.fuses.rollback ≤ b.fuses.rollback
  revoked  : ∀ k, 1 ≤ k → k < 16 → a.fuses.revoked.testBit k = true → b.fuses.revoked.testBit k = true

theorem Keeps.refl (a : State) : Keeps a a :=
  ⟨rfl, Nat.le_refl _, id, id, fun _ => Nat.le_refl _, fun _ => Nat.le_refl _, fun _ _ _ => id⟩

theorem Keeps.trans {a b c : State} (h : Keeps a b) (g : Keeps b c) : Keeps a c :=
  ⟨g.queue.trans h.queue, Nat.le_trans h.draws g.draws, g.canon ∘ h.canon, g.life ∘ h.life,
    fun l => Nat.le_trans (h.lc l) (g.lc (h.life l)), fun l => Nat.le_trans (h.rollback l) (g.rollback (h.life l)),
    fun k h1 h2 x => g.revoked k h1 h2 (h.revoked k h1 h2 x)⟩

/-- A change that leaves fuses and burns alone. -/
theorem Keeps.upd {a s b : State} (h : Keeps a s) (hq : b.pending = s.pending) (hd : s.draws ≤ b.draws) (hc : s.Canon → b.Canon)
    (hf : b.fuses = s.fuses) (hb : b.sec.burning = s.sec.burning) (hr : b.sec.rbBurn = s.sec.rbBurn) : Keeps a b :=
  h.trans ⟨hq, hd, hc, fun l => ⟨hf ▸ l.legal, fun t ht => hf ▸ l.burning t (hb ▸ ht), fun v hv => hf ▸ l.rollback v (hr ▸ hv)⟩,
    fun _ => Nat.le_of_eq (by rw [hf]), fun _ => Nat.le_of_eq (by rw [hf]), fun k _ _ x => by rw [hf]; exact x⟩

/-- A change outside registers, counters, memories, fuses, burns and the queue. -/
theorem Keeps.frame {a s : State} (h : Keeps a s) {raised : List Nat} {ruleTaped : List (Nat × Nat)} {chalk : Chalk} {tgs : Tab Tg}
    {lanes : Tab Lane} {ports : Tab Port} {hawk : Tab HawkQ} {snags : Tab Snag} {units : Tab FUnit}
    {windows : List (Nat × Nat × Bool)} {commits : Tab (Option PendSet)} {seams : Tab Seam} {rnds : Tab Rnd} {skims : Tab SkimPort}
    {skimGs : Tab SkimGrp} {stns : Tab Stn} {plbs : Tab Plb} {ucls : Tab UClass} {subs : Tab SubPort} {ptp : Ptp} {hst : Hst}
    {replay : Replay} {mem : Dram} {stpPorts : Tab StpPort} {stpPipe : List PipeBlk} {stpTiles : List (Tile × TileCode)}
    {stpTaped : Bool} {dmaChs : Tab DmaCh} {ldr : Ldr} {boot : Boot} {pins : Pins} {therm : Thermal} {power : Power} {bad : Nat}
    {nonce : List Byte} {session : Option Session} {verify : Option (Path × Nat × List Byte)}
    {keyOp : Option (Nat × Nat × List Byte)} {fw : Firmware} {tst : Tab TstLane} {io : Ports}
    {answers : Tab (Option (Nat × Nat))} :
    Keeps a ⟨s.regs, s.cnt, s.snap, s.snapNext, s.draws, raised, ruleTaped, chalk, tgs, lanes, ports, hawk, snags, units, windows,
      commits, seams, rnds, skims, skimGs, stns, plbs, ucls, subs, ptp, hst, replay, mem, stpPorts, stpPipe, stpTiles, stpTaped,
      dmaChs, ldr, s.mram, s.dram, s.scratch, s.hostload, boot, pins, therm, power, s.fuses,
      ⟨bad, nonce, session, verify, s.sec.burning, keyOp, s.sec.rbBurn⟩, fw, tst, io, answers, s.pending⟩ :=
  h.upd rfl (Nat.le_refl _) (fun c => ⟨c.regs, c.cnt, c.snap, c.snapNext, c.mram, c.dram, c.scratch, c.hostload⟩) rfl rfl rfl

theorem Keeps.frame' {a s : State} (h : Keeps a s) {raised : List Nat} {ruleTaped : List (Nat × Nat)} {chalk : Chalk} {tgs : Tab Tg}
    {lanes : Tab Lane} {ports : Tab Port} {hawk : Tab HawkQ} {snags : Tab Snag} {units : Tab FUnit}
    {windows : List (Nat × Nat × Bool)} {commits : Tab (Option PendSet)} {seams : Tab Seam} {rnds : Tab Rnd} {skims : Tab SkimPort}
    {skimGs : Tab SkimGrp} {stns : Tab Stn} {plbs : Tab Plb} {ucls : Tab UClass} {subs : Tab SubPort} {ptp : Ptp} {hst : Hst}
    {replay : Replay} {mem : Dram} {stpPorts : Tab StpPort} {stpPipe : List PipeBlk} {stpTiles : List (Tile × TileCode)}
    {stpTaped : Bool} {dmaChs : Tab DmaCh} {ldr : Ldr} {boot : Boot} {pins : Pins} {therm : Thermal} {power : Power}
    {fw : Firmware} {tst : Tab TstLane} {io : Ports} {answers : Tab (Option (Nat × Nat))} :
    Keeps a ⟨s.regs, s.cnt, s.snap, s.snapNext, s.draws, raised, ruleTaped, chalk, tgs, lanes, ports, hawk, snags, units, windows,
      commits, seams, rnds, skims, skimGs, stns, plbs, ucls, subs, ptp, hst, replay, mem, stpPorts, stpPipe, stpTiles, stpTaped,
      dmaChs, ldr, s.mram, s.dram, s.scratch, s.hostload, boot, pins, therm, power, s.fuses, s.sec, fw, tst, io, answers,
      s.pending⟩ :=
  h.upd rfl (Nat.le_refl _) (fun c => ⟨c.regs, c.cnt, c.snap, c.snapNext, c.mram, c.dram, c.scratch, c.hostload⟩) rfl rfl rfl

/-! ### Registers, counters, free values -/

theorem State.wr_keeps (s : State) (f : Fld) (v : Nat) {a : State} (h : Keeps a s) : Keeps a (s.wr f v) :=
  h.upd rfl (Nat.le_refl _)
    (fun c => ⟨Regs.wf_set c.regs f v, c.cnt, c.snap, c.snapNext, c.mram, c.dram, c.scratch, c.hostload⟩) rfl rfl rfl

theorem State.inc_keeps (s : State) (f : Fld) (k : Nat) {a : State} (h : Keeps a s) : Keeps a (s.inc f k) :=
  h.upd rfl (Nat.le_refl _)
    (fun c => ⟨c.regs, Regs.wf_set c.cnt f _, c.snap, c.snapNext, c.mram, c.dram, c.scratch, c.hostload⟩) rfl rfl rfl

theorem State.inc64_keeps (s : State) (lo hi : Fld) (k : Nat) {a : State} (h : Keeps a s) : Keeps a (s.inc64 lo hi k) :=
  h.upd rfl (Nat.le_refl _)
    (fun c => ⟨c.regs, Regs.wf_set (Regs.wf_set c.cnt _ _) _ _, c.snap, c.snapNext, c.mram, c.dram, c.scratch, c.hostload⟩)
    rfl rfl rfl

theorem State.draw_keeps (s : State) (range : Nat) {a : State} (h : Keeps a s) : Keeps a (s.draw range).2 :=
  h.upd rfl (Nat.le_succ _) (fun c => ⟨c.regs, c.cnt, c.snap, c.snapNext, c.mram, c.dram, c.scratch, c.hostload⟩) rfl rfl rfl

theorem State.drawBytes_keeps (s : State) (n : Nat) {a : State} (h : Keeps a s) : Keeps a (s.drawBytes n).2 := by
  induction n generalizing s with
  | zero => exact h
  | succ n ih => exact ih _ (s.draw_keeps 256 h)

theorem State.drawList_keeps (s : State) (range n : Nat) {a : State} (h : Keeps a s) : Keeps a (s.drawList range n).2 := by
  induction n generalizing s with
  | zero => exact h
  | succ n ih => exact ih _ (s.draw_keeps range h)

/-! ### Combinators -/

theorem State.when_keeps (s : State) (c : Bool) (f : State → State) {a : State} (hf : ∀ t, Keeps a t → Keeps a (f t))
    (h : Keeps a s) : Keeps a (s.when c f) := by
  unfold State.when
  split
  · exact hf s h
  · exact h

theorem Keeps.foldl {β : Type} {f : State → β → State} {a : State} (hf : ∀ t x, Keeps a t → Keeps a (f t x)) (l : List β) {s : State}
    (h : Keeps a s) : Keeps a (l.foldl f s) := by
  induction l generalizing s with
  | nil => exact h
  | cons x t ih => exact ih (hf s x h)

theorem State.forAll_keeps (s : State) (l : List Nat) (f : Nat → State → State) {a : State}
    (hf : ∀ i t, Keeps a t → Keeps a (f i t)) (h : Keeps a s) : Keeps a (s.forAll l f) :=
  Keeps.foldl (fun t i => hf i t) l h

theorem iter_keeps {f : State → State} {a : State} (hf : ∀ t, Keeps a t → Keeps a (f t)) (n : Nat) (s : State) (h : Keeps a s) :
    Keeps a (iter f n s) := by
  induction n generalizing s with
  | zero => exact h
  | succ n ih => exact ih _ (hf s h)

theorem Keeps.ite {a x y : State} {c : Prop} [Decidable c] (hx : c → Keeps a x) (hy : ¬c → Keeps a y) :
    Keeps a (if c then x else y) := by
  split
  · exact hx (by assumption)
  · exact hy (by assumption)

theorem Keeps.snd {a s : State} {β : Type} {p : β × State} {v : β} (e : p = (v, s)) (h : Keeps a p.2) : Keeps a s := by
  rw [e] at h; exact h

theorem Keeps.trd {a s : State} {β γ : Type} {p : β × γ × State} {v : β} {w : γ} (e : p = (v, w, s)) (h : Keeps a p.2.2) :
    Keeps a s := by
  rw [e] at h; exact h

theorem Keeps.frt {a s : State} {β γ δ : Type} {p : β × γ × δ × State} {v : β} {w : γ} {x : δ} (e : p = (v, w, x, s))
    (h : Keeps a p.2.2.2) : Keeps a s := by
  rw [e] at h; exact h

theorem Keeps.some {a s : State} {o : Option State} (e : o = some s) (h : ∀ t, o = some t → Keeps a t) : Keeps a s := h s e

theorem Keeps.someSnd {a s : State} {β : Type} {o : Option (β × State)} {v : β} (e : o = .some (v, s))
    (h : ∀ v t, o = .some (v, t) → Keeps a t) : Keeps a s := h v s e

end Sys2Proof.Machine
end

