-- ==== Sys2Proof/Laws/KeepsOps.lean ====
section
/-! SUPPORT. What the operations of Machine/Ops.lean keep. -/

namespace Sys2Proof.Machine

theorem State.bumpSat_keeps (s : State) (f : Fld) {z : State} (hk : Keeps z s) :
    Keeps z (State.bumpSat s f) := by
  unfold State.bumpSat
  repeat' (with_reducible (first | assumption | apply State.wr_keeps))

theorem State.raise_keeps (s : State) (e : Nat) {z : State} (hk : Keeps z s) :
    Keeps z (State.raise s e) := by
  unfold State.raise
  repeat' (with_reducible (first | assumption | apply Keeps.frame'))

theorem State.raiseIf_keeps (s : State) (c : Bool) (e : Nat) {z : State} (hk : Keeps z s) :
    Keeps z (State.raiseIf s c e) := by
  unfold State.raiseIf
  repeat' (with_reducible (first | assumption | apply State.raise_keeps | apply Keeps.ite | intro _))

theorem State.setLane_keeps (s : State) (n : Nat) (l : Lane) {z : State} (hk : Keeps z s) :
    Keeps z (State.setLane s n l) := by
  unfold State.setLane
  repeat' (with_reducible (first | assumption | apply Keeps.frame'))

theorem State.setPort_keeps (s : State) (n : Nat) (p : Port) {z : State} (hk : Keeps z s) :
    Keeps z (State.setPort s n p) := by
  unfold State.setPort
  repeat' (with_reducible (first | assumption | apply Keeps.frame'))

theorem State.setTg_keeps (s : State) (g : Nat) (x : Tg) {z : State} (hk : Keeps z s) :
    Keeps z (State.setTg s g x) := by
  unfold State.setTg
  repeat' (with_reducible (first | assumption | apply Keeps.frame'))

theorem State.setHq_keeps (s : State) (q : Nat) (h : HawkQ) {z : State} (hk : Keeps z s) :
    Keeps z (State.setHq s q h) := by
  unfold State.setHq
  repeat' (with_reducible (first | assumption | apply Keeps.frame'))

theorem State.setSnag_keeps (s : State) (e : Nat) (x : Snag) {z : State} (hk : Keeps z s) :
    Keeps z (State.setSnag s e x) := by
  unfold State.setSnag
  repeat' (with_reducible (first | assumption | apply Keeps.frame'))

theorem State.setUnit_keeps (s : State) (c : Nat) (u : FUnit) {z : State} (hk : Keeps z s) :
    Keeps z (State.setUnit s c u) := by
  unfold State.setUnit
  repeat' (with_reducible (first | assumption | apply Keeps.frame'))

theorem Tab.above_filter {α : Type} {b : Nat} {p : Nat × α → Bool} :
    ∀ {t : Tab α}, t.above b = true → Tab.above b (t.filter p) = true
  | [], _ => rfl
  | (k, v) :: t, h => by
    simp only [Tab.above, Bool.and_eq_true, decide_eq_true_eq] at h
    rw [List.filter_cons]
    split
    · simp [Tab.above, h.1, Tab.above_filter h.2]
    · exact Tab.above_filter h.2

theorem Tab.wf_filter {α : Type} [DecidableEq α] {d : α} {p : Nat × α → Bool} :
    ∀ {t : Tab α}, t.wf d = true → Tab.wf d (t.filter p) = true
  | [], _ => rfl
  | (k, v) :: t, h => by
    simp only [Tab.wf, Bool.and_eq_true, decide_eq_true_eq] at h
    rw [List.filter_cons]
    split
    · simp [Tab.wf, Tab.above_filter h.1.1, h.1.2, Tab.wf_filter h.2]
    · exact Tab.wf_filter h.2

theorem State.resetRange_keeps (s : State) (b : Blk) (lo hi : Nat) {z : State} (hk : Keeps z s) :
    Keeps z (s.resetRange b lo hi) :=
  hk.upd rfl (Nat.le_refl _)
    (fun c => ⟨Regs.wf_setTab c.regs b (Tab.wf_filter (Regs.wf_tab c.regs b)), c.cnt, c.snap, c.snapNext, c.mram, c.dram, c.scratch,
      c.hostload⟩) rfl rfl rfl

theorem State.resetCounters_keeps (s : State) (b : Blk) (lo hi : Nat) {z : State} (hk : Keeps z s) :
    Keeps z (s.resetCounters b lo hi) :=
  hk.upd rfl (Nat.le_refl _)
    (fun c => ⟨c.regs, Regs.wf_setTab c.cnt b (Tab.wf_filter (Regs.wf_tab c.cnt b)),
      Regs.wf_setTab c.snap b (Tab.wf_filter (Regs.wf_tab c.snap b)),
      Regs.wf_setTab c.snapNext b (Tab.wf_filter (Regs.wf_tab c.snapNext b)), c.mram, c.dram, c.scratch, c.hostload⟩) rfl rfl rfl

theorem State.fall_keeps (s : State) (e : Nat) {z : State} (hk : Keeps z s) :
    Keeps z (State.fall s e) := by
  unfold State.fall
  repeat' (with_reducible (first | assumption | apply State.setSnag_keeps))

theorem State.answer_keeps (s : State) (p : Path) (st d : Nat) {z : State} (hk : Keeps z s) :
    Keeps z (State.answer s p st d) := by
  unfold State.answer
  repeat' (with_reducible (first | assumption | apply Keeps.frame'))

theorem State.stall_keeps (s : State) (p : Path) {z : State} (hk : Keeps z s) :
    Keeps z (State.stall s p) := by
  unfold State.stall
  repeat' (with_reducible (first | assumption | apply Keeps.frame'))

theorem State.setSeam_keeps (s : State) (g : Nat) (x : Seam) {z : State} (hk : Keeps z s) :
    Keeps z (State.setSeam s g x) := by
  unfold State.setSeam
  repeat' (with_reducible (first | assumption | apply Keeps.frame'))

theorem State.setRnd_keeps (s : State) (e : Nat) (x : Rnd) {z : State} (hk : Keeps z s) :
    Keeps z (State.setRnd s e x) := by
  unfold State.setRnd
  repeat' (with_reducible (first | assumption | apply Keeps.frame'))

theorem State.setSkim_keeps (s : State) (e : Nat) (x : SkimPort) {z : State} (hk : Keeps z s) :
    Keeps z (State.setSkim s e x) := by
  unfold State.setSkim
  repeat' (with_reducible (first | assumption | apply Keeps.frame'))

theorem State.setSkimG_keeps (s : State) (g : Nat) (x : SkimGrp) {z : State} (hk : Keeps z s) :
    Keeps z (State.setSkimG s g x) := by
  unfold State.setSkimG
  repeat' (with_reducible (first | assumption | apply Keeps.frame'))

theorem State.setStn_keeps (s : State) (g : Nat) (x : Stn) {z : State} (hk : Keeps z s) :
    Keeps z (State.setStn s g x) := by
  unfold State.setStn
  repeat' (with_reducible (first | assumption | apply Keeps.frame'))

theorem State.setPlb_keeps (s : State) (t : Nat) (x : Plb) {z : State} (hk : Keeps z s) :
    Keeps z (State.setPlb s t x) := by
  unfold State.setPlb
  repeat' (with_reducible (first | assumption | apply Keeps.frame'))

theorem State.setUcl_keeps (s : State) (i : Nat) (x : UClass) {z : State} (hk : Keeps z s) :
    Keeps z (State.setUcl s i x) := by
  unfold State.setUcl
  repeat' (with_reducible (first | assumption | apply Keeps.frame'))

theorem State.setSub_keeps (s : State) (i : Nat) (x : SubPort) {z : State} (hk : Keeps z s) :
    Keeps z (State.setSub s i x) := by
  unfold State.setSub
  repeat' (with_reducible (first | assumption | apply Keeps.frame'))

theorem State.setStpPort_keeps (s : State) (j : Nat) (x : StpPort) {z : State} (hk : Keeps z s) :
    Keeps z (State.setStpPort s j x) := by
  unfold State.setStpPort
  repeat' (with_reducible (first | assumption | apply Keeps.frame'))

theorem State.setDmaCh_keeps (s : State) (c : Nat) (x : DmaCh) {z : State} (hk : Keeps z s) :
    Keeps z (State.setDmaCh s c x) := by
  unfold State.setDmaCh
  repeat' (with_reducible (first | assumption | apply Keeps.frame'))

theorem State.setTst_keeps (s : State) (l : Nat) (x : TstLane) {z : State} (hk : Keeps z s) :
    Keeps z (State.setTst s l x) := by
  unfold State.setTst
  repeat' (with_reducible (first | assumption | apply Keeps.frame'))

theorem State.setCommit_keeps (s : State) (g : Nat) (x : Option PendSet) {z : State} (hk : Keeps z s) :
    Keeps z (State.setCommit s g x) := by
  unfold State.setCommit
  repeat' (with_reducible (first | assumption | apply Keeps.frame'))

theorem commitPut_keeps (g : Nat) (c : PendSet) (vals : List (Fld × Nat)) (s : State) {z : State} (hk : Keeps z s) :
    Keeps z (commitPut g c vals s) := by
  unfold commitPut
  repeat' (with_reducible (first | assumption | apply State.wr_keeps | apply State.setCommit_keeps | apply Keeps.foldl | intro _))

theorem State.switchStage_keeps (s : State) (g n : Nat) (st : Stage) (mine : Fld → Bool) {z : State} (hk : Keeps z s) :
    Keeps z (State.switchStage s g n st mine) := by
  unfold State.switchStage
  repeat' (with_reducible (first | assumption | apply commitPut_keeps | apply Keeps.ite | intro _ | split))

end Sys2Proof.Machine
end

