-- ==== Sys2Proof/Laws/KeepsHawk.lean ====
section
/-! SUPPORT. What the operations of Machine/Hawk.lean keep. -/

namespace Sys2Proof.Machine

theorem hawkOverrun_keeps (q : Nat) (s : State) {z : State} (hk : Keeps z s) :
    Keeps z (hawkOverrun q s) := by
  unfold hawkOverrun
  repeat' (with_reducible (first | assumption | apply State.wr_keeps | apply State.inc_keeps | apply State.raiseIf_keeps))

theorem hawkFlushEnd_keeps (q : Nat) (s : State) {z : State} (hk : Keeps z s) :
    Keeps z (hawkFlushEnd q s) := by
  unfold hawkFlushEnd
  repeat' (with_reducible (first | assumption | apply State.inc_keeps | apply State.setHq_keeps | apply Keeps.ite | intro _))

theorem hawkAnswer_keeps (q v : Nat) (s : State) {z : State} (hk : Keeps z s) :
    Keeps z (hawkAnswer q v s) := by
  unfold hawkAnswer
  repeat' (with_reducible (first | assumption | apply State.setHq_keeps | apply State.answer_keeps | apply Keeps.foldl | intro _))

theorem hawkServe_keeps (q : Nat) (s : State) {z : State} (hk : Keeps z s) :
    Keeps z (hawkServe q s) := by
  unfold hawkServe
  repeat' (with_reducible (first | assumption | apply State.setHq_keeps | apply hawkAnswer_keeps | split | dsimp only))

theorem hawkForsake_keeps (p : Path) (s : State) {z : State} (hk : Keeps z s) :
    Keeps z (hawkForsake p s) := by
  unfold hawkForsake
  repeat' (with_reducible (first | assumption | apply State.forAll_keeps | apply State.setHq_keeps | intro _))

theorem hawkAccept_keeps (q prio : Nat) (words : List Nat) (flushed : Bool) (s : State) {z : State} (hk : Keeps z s) :
    Keeps z (hawkAccept q prio words flushed s) := by
  unfold hawkAccept
  repeat' (with_reducible (first
    | assumption | apply State.wr_keeps | apply State.inc_keeps | apply State.setHq_keeps | apply hawkServe_keeps
    | apply Keeps.ite | intro _))

theorem hawkPost_keeps (q prio : Nat) (words : List Nat) (s : State) {z : State} (hk : Keeps z s) :
    Keeps z (hawkPost q prio words s).2 := by
  unfold hawkPost
  repeat' (with_reducible (first | assumption | apply hawkOverrun_keeps | apply hawkAccept_keeps | split | dsimp only))

theorem hawkNote_keeps (en : Bool) (q prio : Nat) (words : List Nat) (lost : Fld) (s : State) {z : State} (hk : Keeps z s) :
    Keeps z (hawkNote en q prio words lost s) := by
  unfold hawkNote
  repeat' (with_reducible (first
    | assumption | apply State.inc_keeps | apply hawkPost_keeps | apply Keeps.ite | (refine Keeps.snd (by assumption) ?_)
    | intro _ | split))

theorem hawkWhdr_keeps (q v : Nat) (s : State) {z : State} (hk : Keeps z s) :
    Keeps z (hawkWhdr q v s) := by
  unfold hawkWhdr
  repeat' (with_reducible (first
    | assumption | apply State.wr_keeps | apply State.setHq_keeps | apply hawkOverrun_keeps | apply hawkFlushEnd_keeps
    | apply Keeps.ite | intro _))

theorem hawkWdata_keeps (q v : Nat) (s : State) {z : State} (hk : Keeps z s) :
    Keeps z (hawkWdata q v s) := by
  unfold hawkWdata
  repeat' (with_reducible (first
    | assumption | apply State.wr_keeps | apply State.setHq_keeps | apply hawkFlushEnd_keeps | apply hawkAccept_keeps
    | apply Keeps.ite | intro _ | split))

theorem hawkRhdr_keeps (q : Nat) (p : Path) (s : State) {z : State} (hk : Keeps z s) :
    Keeps z (hawkRhdr q p s) := by
  unfold hawkRhdr
  repeat' (with_reducible (first
    | assumption | apply State.setHq_keeps | apply State.answer_keeps | apply State.stall_keeps | apply Keeps.ite | intro _
    | split))

theorem hawkStallEnd_keeps (q : Nat) (s : State) {z : State} (hk : Keeps z s) :
    Keeps z (hawkStallEnd q s) := by
  unfold hawkStallEnd
  repeat' (with_reducible (first | assumption | apply State.setHq_keeps | apply State.answer_keeps | split | dsimp only))

theorem hawkRdata_keeps (q : Nat) (p : Path) (flips : List Nat) (s : State) {z : State} (hk : Keeps z s) :
    Keeps z (hawkRdata q p flips s) := by
  unfold hawkRdata
  repeat' (with_reducible (first
    | assumption | apply State.when_keeps | apply State.wr_keeps | apply State.inc_keeps | apply State.raiseIf_keeps
    | apply State.setHq_keeps | apply State.answer_keeps | intro _ | split | dsimp only))

theorem hawkDropCur_keeps (q : Nat) (s : State) {z : State} (hk : Keeps z s) :
    Keeps z (hawkDropCur q s) := by
  unfold hawkDropCur
  repeat' (with_reducible (first | assumption | apply State.setHq_keeps | split | dsimp only))

theorem hawkFlush_keeps (q : Nat) (s : State) {z : State} (hk : Keeps z s) :
    Keeps z (hawkFlush q s) := by
  unfold hawkFlush
  repeat' (with_reducible (first | assumption | apply State.setHq_keeps))

theorem hawkFlushTimeout_keeps (q : Nat) (s : State) {z : State} (hk : Keeps z s) :
    Keeps z (hawkFlushTimeout q s) := by
  unfold hawkFlushTimeout
  repeat' (with_reducible (first | assumption | apply State.wr_keeps | apply State.setHq_keeps | apply Keeps.ite | intro _ | split | dsimp only))

theorem hawkEcc_keeps (q : Nat) (ecc : Bool) (s : State) {z : State} (hk : Keeps z s) :
    Keeps z (hawkEcc q ecc s) := by
  unfold hawkEcc
  repeat' (with_reducible (first | assumption | apply State.wr_keeps | apply Keeps.ite | intro _))

theorem hawkTape_keeps (q : Nat) (s : State) {z : State} (hk : Keeps z s) :
    Keeps z (hawkTape q s) := by
  unfold hawkTape
  repeat' (with_reducible (first | assumption | apply State.setHq_keeps | apply hawkAnswer_keeps))

theorem hawkReturn_keeps (q : Nat) (s : State) {z : State} (hk : Keeps z s) :
    Keeps z (hawkReturn q s) := by
  unfold hawkReturn
  repeat' (with_reducible (first | assumption | apply State.setHq_keeps))

theorem hawkMemLoss_keeps (q : Nat) (onChannel : Nat → Bool) (s : State) {z : State} (hk : Keeps z s) :
    Keeps z (hawkMemLoss q onChannel s) := by
  unfold hawkMemLoss
  repeat' (with_reducible (first
    | assumption | apply State.wr_keeps | apply State.setHq_keeps | apply Keeps.ite
    | intro _))

theorem hawkRegion_keeps (q base size : Nat) (s : State) {z : State} (hk : Keeps z s) :
    Keeps z (hawkRegion q base size s) := by
  unfold hawkRegion
  repeat' (with_reducible (first | assumption | apply State.wr_keeps | apply State.setHq_keeps))

end Sys2Proof.Machine
end

