-- ==== Sys2Proof/Laws/KeepsTime.lean ====
section
/-! SUPPORT. What the operations of Machine/Time.lean keep. -/

namespace Sys2Proof.Machine

theorem State.atTime_keeps (s : State) (t : Nat) {z : State} (hk : Keeps z s) :
    Keeps z (State.atTime s t) := by
  unfold State.atTime
  repeat' (with_reducible (first | assumption | apply Keeps.ite | intro _ | dsimp only | apply Keeps.frame'))

theorem State.atCycle_keeps (s : State) (c : Nat) {z : State} (hk : Keeps z s) :
    Keeps z (State.atCycle s c) := by
  unfold State.atCycle
  repeat' (with_reducible (first | assumption | apply Keeps.frame'))

end Sys2Proof.Machine
end

