-- ==== Sys2Proof/Laws/KeepsMemory.lean ====
section
/-! SUPPORT. What the operations of Machine/Memory.lean keep. -/

namespace Sys2Proof.Machine

theorem latchErr_keeps (m a kind act : Nat) (s : State) {z : State} (hk : Keeps z s) :
    Keeps z (latchErr m a kind act s) := by
  unfold latchErr
  repeat' (with_reducible (first | assumption | apply State.wr_keeps))

theorem readUe_keeps (act a : Nat) (s : State) {z : State} (hk : Keeps z s) :
    Keeps z (readUe act a s) := by
  unfold readUe
  repeat' (with_reducible (first | assumption | apply State.inc_keeps | apply State.raise_keeps | apply latchErr_keeps))

theorem readCe_keeps (act a : Nat) (s : State) {z : State} (hk : Keeps z s) :
    Keeps z (readCe act a s) := by
  unfold readCe
  repeat' (with_reducible (first | assumption | apply State.inc_keeps | apply latchErr_keeps))

theorem countBursts_keeps (act : Nat) (ls : List Nat) (s : State) {z : State} (hk : Keeps z s) :
    Keeps z (countBursts act ls s) := by
  unfold countBursts
  repeat' (with_reducible (first | assumption | apply State.inc_keeps | apply Keeps.foldl | intro _))

theorem dramRead_keeps (act a n : Nat) (err : MemErr) (s : State) {z : State} (hk : Keeps z s) :
    Keeps z (dramRead act a n err s).2.2 := by
  unfold dramRead
  repeat' (with_reducible (first | assumption | apply readUe_keeps | apply readCe_keeps | apply countBursts_keeps | apply Keeps.foldl | intro _ | split))

theorem dramPut_wf (s : State) (m : List Host.Cell) (a : Nat) (bs : List Byte) (h : Memory.wf m = true) :
    Memory.wf (dramPut s m a bs) = true := by
  induction bs generalizing m a with
  | nil => exact h
  | cons b t ih =>
    refine ih _ _ ?_
    split
    · exact h
    · exact Tab.wf_set h

theorem dramWrite_keeps (act a : Nat) (bs : List Byte) (s : State) {z : State} (hk : Keeps z s) : Keeps z (dramWrite act a bs s) :=
  (countBursts_keeps act (linesOf a bs.length) s hk).upd rfl (Nat.le_refl _)
    (fun c => ⟨c.regs, c.cnt, c.snap, c.snapNext, c.mram, dramPut_wf _ _ _ _ c.dram, c.scratch, c.hostload⟩) rfl rfl rfl

theorem devRead_keeps (act a n : Nat) (err : MemErr) (s : State) {z : State} (hk : Keeps z s) :
    Keeps z (devRead act a n err s).2.2 := by
  unfold devRead
  repeat' (with_reducible (first | assumption | apply dramRead_keeps | split))

theorem devWrite_keeps (act a : Nat) (bs : List Byte) (s : State) {z : State} (hk : Keeps z s) :
    Keeps z (devWrite act a bs s).2 := by
  unfold devWrite
  split
  · exact dramWrite_keeps act a bs s hk
  · exact hk.upd rfl (Nat.le_refl _)
      (fun c => ⟨c.regs, c.cnt, c.snap, c.snapNext, c.mram, c.dram, memWrite_wf _ _ c.scratch, c.hostload⟩) rfl rfl rfl
  · split
    · exact hk.upd rfl (Nat.le_refl _)
        (fun c => ⟨c.regs, c.cnt, c.snap, c.snapNext, c.mram, c.dram, c.scratch, memWrite_wf _ _ c.hostload⟩) rfl rfl rfl
    · exact hk
  · exact hk

theorem devUndefined_keeps (act a n : Nat) (s : State) {z : State} (hk : Keeps z s) :
    Keeps z (devUndefined act a n s) := by
  unfold devUndefined
  repeat' (with_reducible (first | assumption | apply State.drawBytes_keeps | apply devWrite_keeps))

theorem chanTrained_keeps (m cause : Nat) (s : State) {z : State} (hk : Keeps z s) :
    Keeps z (chanTrained m cause s) := by
  unfold chanTrained
  repeat' (with_reducible (first
    | assumption | apply State.wr_keeps | apply State.raise_keeps | apply Keeps.ite | intro _ | dsimp only
    | apply Keeps.frame'))

theorem ceWindow_keeps (m : Nat) (s : State) {z : State} (hk : Keeps z s) :
    Keeps z (ceWindow m s) := by
  unfold ceWindow
  repeat' (with_reducible (first | assumption | apply State.raiseIf_keeps | dsimp only | apply Keeps.frame'))

theorem scrubRead_keeps (a : Nat) (err : MemErr) (s : State) {z : State} (hk : Keeps z s) :
    Keeps z (scrubRead a err s) := by
  unfold scrubRead
  repeat' (with_reducible (first
    | assumption | apply State.inc_keeps | apply State.raise_keeps | apply latchErr_keeps | apply readCe_keeps
    | apply Keeps.ite | intro _ | split | dsimp only | apply Keeps.frame'))

theorem memAlert_keeps (m : Nat) (s : State) {z : State} (hk : Keeps z s) :
    Keeps z (memAlert m s) := by
  unfold memAlert
  repeat' (with_reducible (first | assumption | apply State.inc_keeps | apply State.raise_keeps))

theorem memTemp_keeps (m : Nat) (hot : Bool) (s : State) {z : State} (hk : Keeps z s) :
    Keeps z (memTemp m hot s) := by
  unfold memTemp
  repeat' (with_reducible (first | assumption | apply State.wr_keeps | apply State.raiseIf_keeps))

end Sys2Proof.Machine
end

