-- ==== Sys2Proof/Laws/KeepsStipple.lean ====
section
/-! SUPPORT. What the operations of Machine/Stipple.lean keep. -/

namespace Sys2Proof.Machine

theorem showLanes_keeps (s : State) {z : State} (hk : Keeps z s) :
    Keeps z (showLanes s) := by
  unfold showLanes
  repeat' (with_reducible (first | assumption | apply State.wr_keeps))

theorem showJobs_keeps (j : Nat) (s : State) {z : State} (hk : Keeps z s) :
    Keeps z (showJobs j s) := by
  unfold showJobs
  repeat' (with_reducible (first | assumption | apply State.wr_keeps | apply showLanes_keeps))

theorem stpGo_keeps (j : Nat) (s : State) {z : State} (hk : Keeps z s) :
    Keeps z (stpGo j s) := by
  unfold stpGo
  repeat' (with_reducible (first | assumption | apply State.wr_keeps | apply State.setStpPort_keeps | apply showJobs_keeps | apply Keeps.ite | intro _))

theorem stpEnd_keeps (j st made : Nat) (s : State) {z : State} (hk : Keeps z s) :
    Keeps z (stpEnd j st made s) := by
  unfold stpEnd
  repeat' (with_reducible (first
    | assumption | apply State.wr_keeps | apply State.inc_keeps | apply State.raiseIf_keeps | apply State.setStpPort_keeps
    | apply hawkNote_keeps | apply devUndefined_keeps | apply showJobs_keeps | split | dsimp only))

theorem stpStart_keeps (j : Nat) (chain : Bool) (s : State) {z : State} (hk : Keeps z s) :
    Keeps z (stpStart j chain s) := by
  unfold stpStart
  repeat' (with_reducible (first
    | assumption | apply State.setStpPort_keeps | apply showJobs_keeps | apply stpEnd_keeps | apply Keeps.ite | intro _
    | split | dsimp only))

theorem stpCompressed_keeps (j : Nat) (q : StpJob) (err : MemErr) (s : State) {z : State} (hk : Keeps z s) :
    Keeps z (stpCompressed j q err s) := by
  unfold stpCompressed
  repeat' (with_reducible (first
    | assumption | apply State.inc_keeps | apply devRead_keeps | apply devWrite_keeps | apply stpEnd_keeps | apply Keeps.ite
    | intro _ | split))

theorem stpDecompressed_keeps (j : Nat) (q : StpJob) (err : MemErr) (s : State) {z : State} (hk : Keeps z s) :
    Keeps z (stpDecompressed j q err s) := by
  unfold stpDecompressed
  repeat' (with_reducible (first
    | assumption | apply State.inc_keeps | apply State.setStpPort_keeps | apply devRead_keeps | apply devWrite_keeps
    | apply stpEnd_keeps | apply Keeps.ite | intro _ | split))

theorem stpBlockDone_keeps (j : Nat) (err : MemErr) (s : State) {z : State} (hk : Keeps z s) :
    Keeps z (stpBlockDone j err s) := by
  unfold stpBlockDone
  repeat' (with_reducible (first | assumption | apply stpCompressed_keeps | apply stpDecompressed_keeps | apply Keeps.ite | intro _ | split | dsimp only))

theorem stpStop_keeps (j st : Nat) (s : State) {z : State} (hk : Keeps z s) :
    Keeps z (stpStop j st s) := by
  unfold stpStop
  repeat' (with_reducible (first | assumption | apply stpEnd_keeps | apply Keeps.ite | intro _))

theorem pipeSubmit_keeps (b : PipeBlk) (s : State) {z : State} (hk : Keeps z s) :
    Keeps z (pipeSubmit b s) := by
  unfold pipeSubmit
  repeat' (with_reducible (first | assumption | apply showLanes_keeps | apply Keeps.frame'))

theorem pipeDone_keeps (fail : Option Nat) (s : State) {z : State} (hk : Keeps z s) :
    ∀ b r t, pipeDone fail s = some (b, r, t) → Keeps z t := by
  intro b r t ht
  have h1 : ∀ l, Keeps z (showLanes { s with stpPipe := l }) := fun l => showLanes_keeps _ hk.frame'
  unfold pipeDone at ht
  split at ht
  · cases ht
  · rename_i b0 rest _
    dsimp only at ht
    generalize hs : showLanes { s with stpPipe := rest } = s1 at ht
    have h2 : Keeps z s1 := hs ▸ h1 rest
    split at ht
    · obtain ⟨rfl, rfl, rfl⟩ := ht
      exact State.raise_keeps _ _ (State.inc_keeps _ _ _ h2)
    · split at ht
      · obtain ⟨rfl, rfl, rfl⟩ := ht
        exact State.inc_keeps _ _ _ (State.inc_keeps _ _ _ h2)
      · obtain ⟨rfl, rfl, rfl⟩ := ht
        exact State.inc_keeps _ _ _ (State.inc_keeps _ _ _ h2)

theorem Keeps.someTrd {z s : State} {β γ : Type} {o : Option (β × γ × State)} {v : β} {w : γ} (e : o = .some (v, w, s))
    (h : ∀ v w t, o = .some (v, w, t) → Keeps z t) : Keeps z s := h v w s e

theorem tileSubmit_keeps (t : Tile) (s : State) {z : State} (hk : Keeps z s) :
    Keeps z (tileSubmit t s) := by
  unfold tileSubmit
  repeat' (with_reducible (first
    | assumption | apply pipeSubmit_keeps | apply Keeps.foldl | intro _
    | apply Keeps.frame'))

theorem tileBlock_keeps (key : Nat) (r : Option (List Byte)) (s : State) {z : State} (hk : Keeps z s) :
    Keeps z (tileBlock key r s).2 := by
  unfold tileBlock
  repeat' (with_reducible (first | assumption | split | dsimp only | apply Keeps.frame'))

theorem stpAbortJobs_keeps (s : State) {z : State} (hk : Keeps z s) :
    Keeps z (stpAbortJobs s) := by
  unfold stpAbortJobs
  repeat' (with_reducible (first
    | assumption | apply State.forAll_keeps | apply iter_keeps | apply stpEnd_keeps
    | intro _))

end Sys2Proof.Machine
end

