-- ==== Sys2Proof/Laws/KeepsHistory.lean ====
section
/-! SUPPORT. What the operations of Machine/History.lean keep. -/

namespace Sys2Proof.Machine

theorem hstNote_keeps (s : State) {z : State} (hk : Keeps z s) :
    Keeps z (hstNote s) := by
  unfold hstNote
  repeat' (with_reducible (first | assumption | apply State.raise_keeps | apply Keeps.ite | intro _ | dsimp only | apply Keeps.frame'))

theorem hstSkip_keeps (g k : Nat) (stale : Bool) (s : State) {z : State} (hk : Keeps z s) :
    Keeps z (hstSkip g k stale s) := by
  unfold hstSkip
  repeat' (with_reducible (first | assumption | apply State.inc_keeps | apply hstNote_keeps | split | dsimp only | apply Keeps.frame'))

theorem showRing_keeps (s : State) {z : State} (hk : Keeps z s) :
    Keeps z (showRing s) := by
  unfold showRing
  repeat' (with_reducible (first | assumption | apply State.wr_keeps))

theorem setMark_keeps (i : Nat) (m : Mark) (s : State) {z : State} (hk : Keeps z s) :
    Keeps z (setMark i m s) := by
  unfold setMark
  repeat' (with_reducible (first | assumption | dsimp only | apply Keeps.frame'))

theorem demoteOldest_keeps (s : State) {z : State} (hk : Keeps z s) :
    Keeps z (demoteOldest s) := by
  unfold demoteOldest
  repeat' (with_reducible (first | assumption | apply State.wr_keeps | apply State.inc_keeps | apply State.raise_keeps | apply setMark_keeps | split))

theorem demoteAll_keeps (n : Nat) (s : State) {z : State} (hk : Keeps z s) : Keeps z (demoteAll n s) := by
  induction n generalizing s with
  | zero => exact hk
  | succ n ih =>
    unfold demoteAll
    repeat' (with_reducible (first | assumption | apply ih | apply demoteOldest_keeps | apply Keeps.ite | intro _))

theorem loseMarks_keeps (s : State) {z : State} (hk : Keeps z s) :
    Keeps z (loseMarks s) := by
  unfold loseMarks
  repeat' (with_reducible (first | assumption | apply State.inc_keeps | apply State.raise_keeps | apply setMark_keeps | apply Keeps.foldl | intro _))

theorem dropRecords_keeps (s : State) {z : State} (hk : Keeps z s) :
    Keeps z (dropRecords s) := by
  unfold dropRecords
  repeat' (with_reducible (first | assumption | apply loseMarks_keeps | dsimp only | apply Keeps.frame'))

theorem bindMarks_keeps (r : HstRec) (s : State) {z : State} (hk : Keeps z s) :
    Keeps z (bindMarks r s) := by
  unfold bindMarks
  repeat' (with_reducible (first | assumption | apply setMark_keeps | apply demoteAll_keeps | apply Keeps.foldl | apply Keeps.ite | intro _))

theorem indexRecord_keeps (r : HstRec) (s : State) {z : State} (hk : Keeps z s) :
    Keeps z (indexRecord r s) := by
  unfold indexRecord
  repeat' (with_reducible (first | assumption | apply dramWrite_keeps | apply Keeps.ite | intro _ | dsimp only | apply Keeps.frame'))

theorem allocRecord_keeps (r : HstRec) (bs : List Byte) (s : State) {z : State} (hk : Keeps z s) :
    Keeps z (allocRecord r bs s) := by
  unfold allocRecord
  repeat' (with_reducible (first
    | assumption | apply dramWrite_keeps | apply showRing_keeps | apply dropRecords_keeps | apply bindMarks_keeps
    | apply indexRecord_keeps | dsimp only | apply Keeps.frame'))

theorem allocPad_keeps (p : Nat) (s : State) {z : State} (hk : Keeps z s) :
    Keeps z (allocPad p s) := by
  unfold allocPad
  repeat' (with_reducible (first | assumption | apply allocRecord_keeps | apply Keeps.ite | intro _))

theorem allocItem_keeps (i : HstItem) (fl : Nat) (pay : List Byte) (s : State) {z : State} (hk : Keeps z s) :
    Keeps z (allocItem i fl pay s) := by
  unfold allocItem
  repeat' (with_reducible (first | assumption | apply State.inc_keeps | apply allocRecord_keeps | dsimp only | apply Keeps.frame'))

theorem setFirst_keeps (i : Option HstItem) (s : State) {z : State} (hk : Keeps z s) :
    Keeps z (setFirst i s) := by
  unfold setFirst
  repeat' (with_reducible (first | assumption | split | dsimp only | apply Keeps.frame'))

theorem segSubmit_keeps (i : HstItem) (s : State) {z : State} (hk : Keeps z s) :
    Keeps z (segSubmit i s) := by
  unfold segSubmit
  repeat' (with_reducible (first | assumption | apply pipeSubmit_keeps | apply Keeps.ite | intro _))

theorem segReturn_keeps (key : Nat) (r : Option (List Byte)) (s : State) {z : State} (hk : Keeps z s) :
    Keeps z (segReturn key r s) := by
  unfold segReturn
  repeat' (with_reducible (first | assumption | dsimp only | apply Keeps.frame'))

theorem skipFirst_keeps (i : HstItem) (stale : Bool) (s : State) {z : State} (hk : Keeps z s) :
    Keeps z (skipFirst i stale s) := by
  unfold skipFirst
  repeat' (with_reducible (first | assumption | apply hstSkip_keeps | apply setFirst_keeps))

theorem hstAllocate_keeps (s : State) {z : State} (hk : Keeps z s) :
    Keeps z (hstAllocate s) := by
  unfold hstAllocate
  repeat' (with_reducible (first
    | assumption | apply State.inc_keeps | apply allocPad_keeps | apply allocItem_keeps | apply setFirst_keeps
    | apply segSubmit_keeps | apply skipFirst_keeps | apply Keeps.ite | intro _ | split | dsimp only))

theorem hstDeadline_keeps (g : Nat) (s : State) {z : State} (hk : Keeps z s) :
    Keeps z (hstDeadline g s) := by
  unfold hstDeadline
  repeat' (with_reducible (first | assumption | apply hstSkip_keeps | split | dsimp only | apply Keeps.frame'))

theorem hstStage_keeps (i : HstItem) (s : State) {z : State} (hk : Keeps z s) :
    Keeps z (hstStage i s) := by
  unfold hstStage
  repeat' (with_reducible (first | assumption | apply hstSkip_keeps | apply segSubmit_keeps | apply Keeps.ite | intro _ | dsimp only | apply Keeps.frame'))

theorem batchClose_keeps (g : Nat) (s : State) {z : State} (hk : Keeps z s) :
    Keeps z (batchClose g s) := by
  unfold batchClose
  repeat' (with_reducible (first | assumption | apply hstStage_keeps | split | dsimp only | apply Keeps.frame'))

theorem hstTap_keeps (i : Option HstItem) (s : State) {z : State} (hk : Keeps z s) :
    Keeps z (hstTap i s) := by
  unfold hstTap
  repeat' (with_reducible (first | assumption | split | dsimp only | apply Keeps.frame'))

theorem hstObject_keeps (g : Nat) (rec : List Byte) (s : State) {z : State} (hk : Keeps z s) :
    Keeps z (hstObject g rec s) := by
  unfold hstObject
  repeat' (with_reducible (first | assumption | apply hstSkip_keeps | apply batchClose_keeps | apply Keeps.ite | intro _ | dsimp only | apply Keeps.frame'))

theorem hstArrive_keeps (s : State) {z : State} (hk : Keeps z s) :
    Keeps z (hstArrive s) := by
  unfold hstArrive
  repeat' (with_reducible (first
    | assumption | apply hstStage_keeps | apply hstObject_keeps | apply Keeps.ite | intro _ | split | dsimp only
    | apply Keeps.frame'))

theorem hstState_keeps (halted : Bool) (s : State) {z : State} (hk : Keeps z s) :
    Keeps z (hstState halted s) := by
  unfold hstState
  repeat' (with_reducible (first | assumption | apply State.wr_keeps))

theorem ringClear_keeps (s : State) {z : State} (hk : Keeps z s) :
    Keeps z (ringClear s) := by
  unfold ringClear
  repeat' (with_reducible (first | assumption | apply showRing_keeps | apply hstState_keeps | apply Keeps.frame'))

theorem hstEnable_keeps (en : Bool) (s : State) {z : State} (hk : Keeps z s) :
    Keeps z (hstEnable en s) := by
  unfold hstEnable
  repeat' (with_reducible (first | assumption | apply State.wr_keeps | apply hstState_keeps))

theorem hstHalt_keeps (s : State) {z : State} (hk : Keeps z s) :
    Keeps z (hstHalt s) := by
  unfold hstHalt
  repeat' (with_reducible (first
    | assumption | apply State.raise_keeps | apply hstState_keeps | apply Keeps.ite
    | intro _))

theorem markShow_keeps (i result : Nat) (s : State) {z : State} (hk : Keeps z s) :
    Keeps z (markShow i result s) := by
  unfold markShow
  repeat' (with_reducible (first | assumption | apply State.wr_keeps | split | dsimp only | apply Keeps.frame'))

theorem markSetNow_keeps (i : Nat) (s : State) {z : State} (hk : Keeps z s) :
    Keeps z (markSetNow i s) := by
  unfold markSetNow
  repeat' (with_reducible (first
    | assumption | apply showRing_keeps | apply setMark_keeps | apply markShow_keeps
    | split))

theorem markSetTime_keeps (i : Nat) (s : State) {z : State} (hk : Keeps z s) :
    Keeps z (markSetTime i s) := by
  unfold markSetTime
  repeat' (with_reducible (first
    | assumption | apply showRing_keeps | apply setMark_keeps | apply demoteAll_keeps | apply dropRecords_keeps
    | apply markShow_keeps | apply Keeps.ite | intro _ | split))

theorem markClear_keeps (i : Nat) (s : State) {z : State} (hk : Keeps z s) :
    Keeps z (markClear i s) := by
  unfold markClear
  repeat' (with_reducible (first | assumption | apply showRing_keeps | apply setMark_keeps | apply dropRecords_keeps | apply markShow_keeps | split))

theorem markSelect_keeps (i : Nat) (s : State) {z : State} (hk : Keeps z s) :
    Keeps z (markSelect i s) := by
  unfold markSelect
  repeat' (with_reducible (first | assumption | apply markShow_keeps))

theorem markBadOp_keeps (i : Nat) (s : State) {z : State} (hk : Keeps z s) :
    Keeps z (markBadOp i s) := by
  unfold markBadOp
  repeat' (with_reducible (first | assumption | apply markShow_keeps))

end Sys2Proof.Machine
end

