-- ==== Sys2Proof/Laws/KeepsUplink.lean ====
section
/-! SUPPORT. What the operations of Machine/Uplink.lean keep. -/

namespace Sys2Proof.Machine

theorem creditUpdate_keeps (x : Nat) (s : State) {z : State} (hk : Keeps z s) :
    Keeps z (creditUpdate x s) := by
  unfold creditUpdate
  repeat' (with_reducible (first | assumption | apply State.forAll_keeps | apply State.setUcl_keeps | intro _))

theorem State.encapNow_keeps (s : State) (x : Nat) {z : State} (hk : Keeps z s) :
    Keeps z (State.encapNow s x).2 := by
  unfold State.encapNow
  repeat' (with_reducible (first | assumption | apply State.draw_keeps))

theorem frameAccept_keeps (x c : Nat) (e : Encap) (r : FrameReq) (dl : Option Nat) (s : State) {z : State} (hk : Keeps z s) :
    Keeps z (frameAccept x c e r dl s) := by
  unfold frameAccept
  repeat' (with_reducible (first | assumption | apply State.setUcl_keeps))

theorem frameBuild_keeps (x c : Nat) (r : FrameReq) (dl : Option Nat) (s : State) {z : State} (hk : Keeps z s) :
    Keeps z (frameBuild x c r dl s) := by
  unfold frameBuild
  repeat' (with_reducible (first | assumption | apply State.encapNow_keeps | apply frameAccept_keeps))

theorem dropLate_keeps (x c n : Nat) (s : State) {z : State} (hk : Keeps z s) : Keeps z (dropLate x c n s) := by
  induction n generalizing s with
  | zero => exact hk
  | succ n ih =>
    unfold dropLate
    repeat' (with_reducible (first
    | assumption | apply ih | apply State.raise_keeps | apply State.inc_keeps | apply State.setUcl_keeps
    | apply State.setSub_keeps | apply Keeps.ite | intro _ | split | dsimp only))

theorem dropLateAll_keeps (x : Nat) (s : State) {z : State} (hk : Keeps z s) :
    Keeps z (dropLateAll x s) := by
  unfold dropLateAll
  repeat' (with_reducible (first | assumption | apply State.forAll_keeps | apply dropLate_keeps | intro _))

theorem deadlineDrop_keeps (x c : Nat) (s : State) {z : State} (hk : Keeps z s) :
    Keeps z (deadlineDrop x c s) := by
  unfold deadlineDrop
  repeat' (with_reducible (first | assumption | apply State.atTime_keeps | apply dropLate_keeps | apply Keeps.ite | intro _ | split))

theorem upKick_keeps (x : Nat) (s : State) {z : State} (hk : Keeps z s) :
    Keeps z (upKick x s) := by
  unfold upKick
  repeat' (with_reducible (first
    | assumption | apply State.setUcl_keeps | apply State.setSub_keeps | apply creditUpdate_keeps | apply dropLateAll_keeps
    | apply Keeps.ite | intro _ | split | dsimp only))

theorem frameDone_keeps (x : Nat) (s : State) {z : State} (hk : Keeps z s) :
    Keeps z (frameDone x s) := by
  unfold frameDone
  repeat' (with_reducible (first | assumption | apply State.inc_keeps | apply State.setSub_keeps | apply State.atCycle_keeps | apply upKick_keeps | split))

theorem offerClass_keeps (x c : Nat) (r : FrameReq) (dl : Option Nat) (s : State) {z : State} (hk : Keeps z s) :
    Keeps z (offerClass x c r dl s) := by
  unfold offerClass
  repeat' (with_reducible (first
    | assumption | apply State.inc_keeps | apply State.raise_keeps | apply frameBuild_keeps | apply upKick_keeps
    | apply Keeps.ite | intro _))

theorem offerOn_keeps (x : Nat) (rs : List FrameReq) (s : State) {z : State} (hk : Keeps z s) :
    Keeps z (offerOn x rs s) := by
  unfold offerOn
  repeat' (with_reducible (first | assumption | apply offerClass_keeps | apply Keeps.foldl | intro _ | split))

theorem offerAll_keeps (rs : List FrameReq) (s : State) {z : State} (hk : Keeps z s) :
    Keeps z (offerAll rs s) := by
  unfold offerAll
  repeat' (with_reducible (first | assumption | apply State.forAll_keeps | apply offerOn_keeps | intro _))

theorem waitAccept_keeps (x c : Nat) (s : State) {z : State} (hk : Keeps z s) :
    Keeps z (waitAccept x c s) := by
  unfold waitAccept
  repeat' (with_reducible (first
    | assumption | apply State.setUcl_keeps | apply frameAccept_keeps | apply upKick_keeps | apply Keeps.ite | intro _
    | split | dsimp only))

theorem offerWait_keeps (x : Nat) (r : FrameReq) (s : State) {z : State} (hk : Keeps z s) :
    Keeps z (offerWait x r s) := by
  unfold offerWait
  repeat' (with_reducible (first
    | assumption | apply State.setUcl_keeps | apply State.encapNow_keeps | apply waitAccept_keeps | apply Keeps.ite | intro _
    | split))

theorem upRow_keeps (g ref : Nat) (d : RowData) (s : State) {z : State} (hk : Keeps z s) :
    Keeps z (upRow g ref d s) := by
  unfold upRow
  repeat' (with_reducible (first | assumption | apply offerAll_keeps))

theorem upTile_keeps (g ref id : Nat) (img : List Byte) (s : State) {z : State} (hk : Keeps z s) :
    Keeps z (upTile g ref id img s) := by
  unfold upTile
  repeat' (with_reducible (first | assumption | apply offerAll_keeps))

theorem closeOpen_keeps (x c type : Nat) (o : OpenFrame) (s : State) {z : State} (hk : Keeps z s) :
    Keeps z (closeOpen x c type o s) := by
  unfold closeOpen
  repeat' (with_reducible (first | assumption | apply offerClass_keeps))

theorem upObject_keeps (g ref : Nat) (rec : List Byte) (s : State) {z : State} (hk : Keeps z s) :
    Keeps z (upObject g ref rec s) := by
  unfold upObject
  repeat' (with_reducible (first
    | assumption | apply State.forAll_keeps | apply State.setUcl_keeps | apply closeOpen_keeps | apply Keeps.ite | intro _
    | split))

theorem upEvent_keeps (ref : Nat) (e : List Byte) (s : State) {z : State} (hk : Keeps z s) :
    Keeps z (upEvent ref e s) := by
  unfold upEvent
  repeat' (with_reducible (first
    | assumption | apply State.forAll_keeps | apply State.setUcl_keeps | apply closeOpen_keeps | apply Keeps.ite | intro _
    | split))

theorem frameTimeout_keeps (x c : Nat) (event : Bool) (s : State) {z : State} (hk : Keeps z s) :
    Keeps z (frameTimeout x c event s) := by
  unfold frameTimeout
  repeat' (with_reducible (first | assumption | apply State.setUcl_keeps | apply closeOpen_keeps | split | dsimp only))

theorem timeFrames_keeps (x : Nat) (s : State) {z : State} (hk : Keeps z s) :
    Keeps z (timeFrames x s) := by
  unfold timeFrames
  repeat' (with_reducible (first | assumption | apply State.forAll_keeps | apply offerClass_keeps | intro _))

theorem timeTimer_keeps (x : Nat) (s : State) {z : State} (hk : Keeps z s) :
    Keeps z (timeTimer x s) := by
  unfold timeTimer
  repeat' (with_reducible (first | assumption | apply timeFrames_keeps | apply Keeps.ite | intro _))

theorem discardDeadlines_keeps (s : State) {z : State} (hk : Keeps z s) :
    Keeps z (discardDeadlines s) := by
  unfold discardDeadlines
  repeat' (with_reducible (first | assumption | apply State.forAll_keeps | apply State.inc_keeps | apply State.setUcl_keeps | intro _))

theorem discardStopped_keeps (s : State) {z : State} (hk : Keeps z s) :
    Keeps z (discardStopped s) := by
  unfold discardStopped
  repeat' (with_reducible (first | assumption | apply State.forAll_keeps | apply State.setUcl_keeps | intro _))

theorem upFlush_keeps (x : Nat) (s : State) {z : State} (hk : Keeps z s) :
    Keeps z (upFlush x s) := by
  unfold upFlush
  repeat' (with_reducible (first | assumption | apply State.forAll_keeps | apply State.inc_keeps | apply State.setUcl_keeps | intro _))

theorem upAbort_keeps (x : Nat) (s : State) {z : State} (hk : Keeps z s) :
    Keeps z (upAbort x s) := by
  unfold upAbort
  repeat' (with_reducible (first | assumption | apply State.inc_keeps | apply State.setSub_keeps | split))

theorem rescale_keeps (x lanes : Nat) (s : State) {z : State} (hk : Keeps z s) : Keeps z (rescale x lanes s) := by
  have h : ∀ (f : Nat × State → Nat → Nat × State), (∀ p c, Keeps z p.2 → Keeps z (f p c).2) →
      ∀ (l : List Nat) (p : Nat × State), Keeps z p.2 → Keeps z (l.foldl f p).2 := by
    intro f hf l
    induction l with
    | nil => exact fun _ h => h
    | cons c t ih => exact fun p h => ih _ (hf p c h)
  unfold rescale
  exact h _ (fun p c hp => State.wr_keeps _ _ _ hp) _ _ (creditUpdate_keeps x s hk)

theorem carry_keeps (x : Nat) (ls : List Nat) (s : State) {z : State} (hk : Keeps z s) :
    Keeps z (carry x ls s) := by
  unfold carry
  repeat' (with_reducible (first | assumption | apply State.forAll_keeps | apply State.wr_keeps | apply Keeps.ite | intro _))

theorem upTrain_keeps (x : Nat) (s : State) {z : State} (hk : Keeps z s) :
    Keeps z (upTrain x s) := by
  unfold upTrain
  repeat' (with_reducible (first | assumption | apply State.wr_keeps))

theorem upFail_keeps (x : Nat) (s : State) {z : State} (hk : Keeps z s) :
    Keeps z (upFail x s) := by
  unfold upFail
  repeat' (with_reducible (first | assumption | apply State.wr_keeps | apply State.raise_keeps))

theorem upBring_keeps (x : Nat) (fb : Bool) (s : State) {z : State} (hk : Keeps z s) :
    Keeps z (upBring x fb s) := by
  unfold upBring
  repeat' (with_reducible (first
    | assumption | apply State.wr_keeps | apply creditUpdate_keeps | apply dropLateAll_keeps | apply upAbort_keeps
    | apply rescale_keeps | apply carry_keeps | apply upTrain_keeps | apply upFail_keeps | split | dsimp only))

theorem upTrained_keeps (x : Nat) (s : State) {z : State} (hk : Keeps z s) :
    Keeps z (upTrained x s) := by
  unfold upTrained
  repeat' (with_reducible (first | assumption | apply State.wr_keeps | apply Keeps.ite | intro _))

theorem upAligned_keeps (x : Nat) (s : State) {z : State} (hk : Keeps z s) :
    Keeps z (upAligned x s) := by
  unfold upAligned
  repeat' (with_reducible (first
    | assumption | apply State.forAll_keeps | apply State.wr_keeps | apply State.fall_keeps | apply State.setUcl_keeps
    | apply upKick_keeps | apply waitAccept_keeps | apply timeFrames_keeps | apply Keeps.ite | intro _))

theorem upTimeout_keeps (x : Nat) (s : State) {z : State} (hk : Keeps z s) :
    Keeps z (upTimeout x s) := by
  unfold upTimeout
  repeat' (with_reducible (first | assumption | apply upFail_keeps | apply Keeps.ite | intro _))

theorem upRetry_keeps (x : Nat) (s : State) {z : State} (hk : Keeps z s) :
    Keeps z (upRetry x s) := by
  unfold upRetry
  repeat' (with_reducible (first | assumption | apply upBring_keeps | apply Keeps.ite | intro _))

theorem amLost_keeps (u : Nat) (s : State) {z : State} (hk : Keeps z s) :
    Keeps z (amLost u s) := by
  unfold amLost
  repeat' (with_reducible (first | assumption | apply State.wr_keeps | apply State.inc_keeps))

theorem upLaneTape_keeps (u : Nat) (s : State) {z : State} (hk : Keeps z s) :
    Keeps z (upLaneTape u s) := by
  unfold upLaneTape
  repeat' (with_reducible (first | assumption | apply State.wr_keeps | apply upBring_keeps | apply Keeps.ite | intro _))

theorem upLaneReturn_keeps (u : Nat) (s : State) {z : State} (hk : Keeps z s) :
    Keeps z (upLaneReturn u s) := by
  unfold upLaneReturn
  repeat' (with_reducible (first | assumption | apply State.wr_keeps))

theorem upLaneLoss_keeps (u : Nat) (s : State) {z : State} (hk : Keeps z s) :
    Keeps z (upLaneLoss u s) := by
  unfold upLaneLoss
  repeat' (with_reducible (first
    | assumption | apply State.raise_keeps | apply upLaneTape_keeps | apply Keeps.ite | intro _ | dsimp only
    | apply Keeps.frame'))

theorem upDown_keeps (x : Nat) (s : State) {z : State} (hk : Keeps z s) :
    Keeps z (upDown x s) := by
  unfold upDown
  repeat' (with_reducible (first | assumption | apply State.wr_keeps | apply upAbort_keeps | apply carry_keeps))

theorem fecWindow_keeps (u corr bad sym : Nat) (s : State) {z : State} (hk : Keeps z s) :
    Keeps z (fecWindow u corr bad sym s) := by
  unfold fecWindow
  repeat' (with_reducible (first | assumption | apply State.inc_keeps | apply State.raiseIf_keeps))

theorem showPaused_keeps (x : Nat) (s : State) {z : State} (hk : Keeps z s) :
    Keeps z (showPaused x s) := by
  unfold showPaused
  repeat' (with_reducible (first | assumption | apply State.wr_keeps))

theorem setPause_keeps (x k : Nat) (byPause on : Bool) (s : State) {z : State} (hk : Keeps z s) :
    Keeps z (setPause x k byPause on s) := by
  unfold setPause
  repeat' (with_reducible (first | assumption | apply State.setSub_keeps | apply showPaused_keeps))

theorem pfc_keeps (x enable : Nat) (quanta : List Nat) (s : State) {z : State} (hk : Keeps z s) :
    Keeps z (pfc x enable quanta s) := by
  unfold pfc
  repeat' (with_reducible (first | assumption | apply State.forAll_keeps | apply State.inc_keeps | apply upKick_keeps | apply setPause_keeps | intro _))

theorem pauseFrame_keeps (x quanta : Nat) (s : State) {z : State} (hk : Keeps z s) :
    Keeps z (pauseFrame x quanta s) := by
  unfold pauseFrame
  repeat' (with_reducible (first
    | assumption | apply State.forAll_keeps | apply State.inc_keeps | apply upKick_keeps | apply setPause_keeps
    | apply Keeps.ite | intro _))

theorem pauseEnd_keeps (x k : Nat) (s : State) {z : State} (hk : Keeps z s) :
    Keeps z (pauseEnd x k s) := by
  unfold pauseEnd
  repeat' (with_reducible (first | assumption | apply State.forAll_keeps | apply upKick_keeps | apply setPause_keeps | intro _))

theorem pauseLong_keeps (x k : Nat) (s : State) {z : State} (hk : Keeps z s) :
    Keeps z (pauseLong x k s) := by
  unfold pauseLong
  repeat' (with_reducible (first | assumption | apply State.raise_keeps | apply State.setSub_keeps | apply Keeps.ite | intro _))

theorem servoTo_keeps (v : Nat) (s : State) {z : State} (hk : Keeps z s) :
    Keeps z (servoTo v s) := by
  unfold servoTo
  repeat' (with_reducible (first | assumption | apply State.wr_keeps | dsimp only | apply Keeps.frame'))

theorem servoJudge_keeps (o : Int) (s : State) {z : State} (hk : Keeps z s) :
    Keeps z (servoJudge o s) := by
  unfold servoJudge
  repeat' (with_reducible (first | assumption | apply servoTo_keeps | apply Keeps.ite | intro _ | split | apply Keeps.frame'))

theorem addPhase_keeps (d : Int) (s : State) {z : State} (hk : Keeps z s) :
    Keeps z (addPhase d s) := by
  unfold addPhase
  repeat' (with_reducible (first | assumption | dsimp only | apply Keeps.frame'))

theorem chalkJump_keeps (t : Nat) (s : State) {z : State} (hk : Keeps z s) :
    Keeps z (chalkJump t s).2 := by
  unfold chalkJump
  repeat' (with_reducible (first | assumption | dsimp only | apply Keeps.frame'))

theorem servoOffset_keeps (o : Int) (s : State) {z : State} (hk : Keeps z s) :
    Keeps z (servoOffset o s).2 := by
  unfold servoOffset
  repeat' (with_reducible (first
    | assumption | apply State.wr_keeps | apply State.draw_keeps | apply servoJudge_keeps | apply addPhase_keeps
    | apply chalkJump_keeps | apply Keeps.ite | intro _ | split | dsimp only | apply Keeps.frame'))

theorem servoSync_keeps (s : State) {z : State} (hk : Keeps z s) :
    Keeps z (servoSync s) := by
  unfold servoSync
  repeat' (with_reducible (first | assumption | apply servoTo_keeps | apply Keeps.ite | intro _))

theorem ptpPair_keeps (t1 t2 : Int) (s0 : State) {z : State} (hk : Keeps z s0) :
    Keeps z (ptpPair t1 t2 s0) := by
  unfold ptpPair
  repeat' (with_reducible (first | assumption | apply servoSync_keeps | dsimp only | apply Keeps.frame'))

theorem ptpMessage_keeps (x : Nat) (h : PtpHdr) (m : PtpMsg) (s : State) {z : State} (hk : Keeps z s) :
    Keeps z (ptpMessage x h m s).2 := by
  unfold ptpMessage
  repeat' (with_reducible (first
    | assumption | apply State.when_keeps | apply State.wr_keeps | apply servoOffset_keeps | apply servoSync_keeps
    | apply ptpPair_keeps | apply Keeps.ite | intro _ | split | dsimp only | apply Keeps.frame'))

theorem ptpHoldover_keeps (s : State) {z : State} (hk : Keeps z s) :
    Keeps z (ptpHoldover s) := by
  unfold ptpHoldover
  repeat' (with_reducible (first | assumption | apply servoTo_keeps | apply Keeps.ite | intro _))

end Sys2Proof.Machine
end

