-- ==== Sys2Proof/Laws/KeepsReplay.lean ====
section
/-! SUPPORT. What the operations of Machine/Replay.lean keep. -/

namespace Sys2Proof.Machine

theorem showReplay_keeps (s : State) {z : State} (hk : Keeps z s) :
    Keeps z (showReplay s) := by
  unfold showReplay
  repeat' (with_reducible (first | assumption | apply State.wr_keeps))

theorem setRun_keeps (r : Option RpRun) (s : State) {z : State} (hk : Keeps z s) :
    Keeps z (setRun r s) := by
  unfold setRun
  repeat' (with_reducible (first | assumption | dsimp only | apply Keeps.frame'))

theorem rpGo_keeps (s : State) {z : State} (hk : Keeps z s) :
    Keeps z (rpGo s) := by
  unfold rpGo
  repeat' (with_reducible (first
    | assumption | apply State.wr_keeps | apply showReplay_keeps | apply Keeps.ite | intro _ | dsimp only
    | apply Keeps.frame'))

theorem State.rpOffer_keeps (s : State) (f : FrameReq) {z : State} (hk : Keeps z s) :
    ∀ t, s.rpOffer f = some t → Keeps z t := by
  intro t ht
  unfold State.rpOffer at ht
  split at ht
  · cases ht; exact hk
  · split at ht
    · cases ht; exact hk
    · split at ht <;> cases ht
      exact upKick_keeps _ _ (frameBuild_keeps _ _ _ _ _ hk)

theorem rpFrames_keeps (n : Nat) (r : RpRun) (s : State) {z : State} (hk : Keeps z s) : Keeps z (rpFrames n r s).2.2 := by
  induction n generalizing r s with
  | zero => exact hk
  | succ n ih =>
    unfold rpFrames
    repeat' (with_reducible (first | assumption | apply ih | refine Keeps.some (by assumption) (State.rpOffer_keeps _ _ ?_) | split | dsimp only))

theorem rpClose_keeps (r : RpRun) (s : State) {z : State} (hk : Keeps z s) :
    Keeps z (rpClose r s) := by
  unfold rpClose
  repeat' (with_reducible (first | assumption | apply State.wr_keeps | apply State.inc_keeps | apply State.raiseIf_keeps | apply showReplay_keeps))

theorem rpDrain_keeps (n : Nat) (s : State) {z : State} (hk : Keeps z s) : Keeps z (rpDrain n s) := by
  induction n generalizing s with
  | zero => exact hk
  | succ n ih =>
    rw [rpDrain]
    split
    · exact hk
    · rename_i r t _
      split
      · exact ih _ (rpClose_keeps _ _ hk.frame')
      · have hp := rpFrames_keeps (r.out.length + 2) r s hk
        split
        rename_i r1 done s1 e
        rw [e] at hp
        split
        · exact ih _ (rpClose_keeps _ _ (Keeps.frame' (s := s1) hp))
        · exact Keeps.frame' (s := s1) hp

theorem rpPump_keeps (s : State) {z : State} (hk : Keeps z s) :
    Keeps z (rpPump s) := by
  unfold rpPump
  repeat' (with_reducible (first
    | assumption | apply setRun_keeps | apply rpFrames_keeps | apply rpDrain_keeps | apply Keeps.ite | intro _ | split
    | dsimp only))

theorem rpEnd_keeps (st : Nat) (s : State) {z : State} (hk : Keeps z s) :
    Keeps z (rpEnd st s) := by
  unfold rpEnd
  repeat' (with_reducible (first | assumption | apply showReplay_keeps | apply rpPump_keeps | split | dsimp only | apply Keeps.frame'))

theorem rpAbort_keeps (s : State) {z : State} (hk : Keeps z s) :
    Keeps z (rpAbort s) := by
  unfold rpAbort
  repeat' (with_reducible (first | assumption | apply showReplay_keeps | apply rpPump_keeps | apply rpEnd_keeps | split | dsimp only | apply Keeps.frame'))

theorem rpEndAll_keeps (st : Nat) (s : State) {z : State} (hk : Keeps z s) :
    Keeps z (rpEndAll st s) := by
  unfold rpEndAll
  repeat' (with_reducible (first | assumption | apply showReplay_keeps | apply rpPump_keeps | apply rpEnd_keeps | dsimp only | apply Keeps.frame'))

theorem indexSearch_keeps (t n i : Nat) (s : State) {z : State} (hk : Keeps z s) : Keeps z (indexSearch t n i s).2.2 := by
  induction n generalizing i s with
  | zero => exact hk
  | succ n ih =>
    unfold indexSearch
    repeat' (with_reducible (first | assumption | apply ih | apply dramRead_keeps | (refine Keeps.trd (by assumption) ?_) | split))

theorem rpTake_keeps (q : RpReq) (r : RpRun) (s : State) {z : State} (hk : Keeps z s) :
    Keeps z (rpTake q r s) := by
  unfold rpTake
  repeat' (with_reducible (first
    | assumption | apply showReplay_keeps | apply setRun_keeps | apply rpEnd_keeps | apply Keeps.ite | intro _ | split
    | dsimp only | apply Keeps.frame'))

theorem rpWindowStart_keeps (s : State) {z : State} (hk : Keeps z s) :
    Keeps z (rpWindowStart s) := by
  unfold rpWindowStart
  repeat' (with_reducible (first
    | assumption | apply setRun_keeps | apply rpEnd_keeps | apply indexSearch_keeps | apply rpTake_keeps | apply Keeps.ite
    | intro _ | split))

theorem rpMarkStart_keeps (s : State) {z : State} (hk : Keeps z s) :
    Keeps z (rpMarkStart s) := by
  unfold rpMarkStart
  repeat' (with_reducible (first | assumption | apply rpTake_keeps | split))

theorem rpSend_keeps (img : List Byte) (r : RpRun) (s : State) {z : State} (hk : Keeps z s) :
    ∀ v t, rpSend img r s = some (v, t) → Keeps z t := by
  intro v t ht
  unfold rpSend at ht
  split at ht
  · split at ht <;> cases ht
    exact devWrite_keeps _ _ _ _ hk
  · cases ht; exact hk

theorem rpRecord_keeps (r : RpRun) (x : HstRec) (err : MemErr) (s : State) {z : State} (hk : Keeps z s) :
    Keeps z (rpRecord r x err s) := by
  unfold rpRecord
  repeat' (with_reducible (first
    | assumption | apply dramRead_keeps | apply setRun_keeps | apply rpPump_keeps | apply rpEnd_keeps
    | refine Keeps.someSnd (by assumption) (rpSend_keeps _ _ _ ?_) | apply Keeps.ite | intro _ | split))

theorem rpRead_keeps (err : MemErr) (s : State) {z : State} (hk : Keeps z s) :
    Keeps z (rpRead err s) := by
  unfold rpRead
  repeat' (with_reducible (first
    | assumption | apply rpPump_keeps | apply rpEnd_keeps | apply rpRecord_keeps | apply Keeps.ite | intro _ | split
    | dsimp only))

theorem rpEndTime_keeps (s : State) {z : State} (hk : Keeps z s) :
    Keeps z (rpEndTime s) := by
  unfold rpEndTime
  repeat' (with_reducible (first | assumption | apply State.atTime_keeps | apply rpEnd_keeps | apply Keeps.ite | intro _ | split))

theorem rpCovered_keeps (before s : State) {z : State} (hk : Keeps z s) :
    Keeps z (rpCovered before s) := by
  unfold rpCovered
  repeat' (with_reducible (first | assumption | apply rpEnd_keeps | apply Keeps.ite | intro _ | split))

theorem ringReset_keeps (s : State) {z : State} (hk : Keeps z s) :
    Keeps z (ringReset s) := by
  unfold ringReset
  repeat' (with_reducible (first | assumption | apply ringClear_keeps | apply rpEndAll_keeps))

theorem rpTape_keeps (s : State) {z : State} (hk : Keeps z s) :
    Keeps z (rpTape s) := by
  unfold rpTape
  repeat' (with_reducible (first | assumption | apply rpEndAll_keeps | dsimp only | apply Keeps.frame'))

theorem rpReturn_keeps (s : State) {z : State} (hk : Keeps z s) :
    Keeps z (rpReturn s) := by
  unfold rpReturn
  repeat' (with_reducible (first | assumption | dsimp only | apply Keeps.frame'))

end Sys2Proof.Machine
end

