-- ==== Sys2Proof/Laws/KeepsPipeBlocks.lean ====
section
/-! SUPPORT. What the operations of Machine/PipeBlocks.lean keep. -/

namespace Sys2Proof.Machine

theorem pipeFinish_keeps (fail : Option Nat) (s : State) {z : State} (hk : Keeps z s) :
    Keeps z (pipeFinish fail s) := by
  unfold pipeFinish
  repeat' (with_reducible (first
    | assumption | refine Keeps.someTrd (by assumption) (pipeDone_keeps _ _ ?_) | apply tileBlock_keeps
    | apply segReturn_keeps | apply hstTap_keeps | apply upTile_keeps | apply Keeps.ite | (refine Keeps.snd (by assumption) ?_)
    | intro _ | split))

theorem pipeAbort_keeps (s : State) {z : State} (hk : Keeps z s) :
    Keeps z (pipeAbort s) := by
  unfold pipeAbort
  repeat' (with_reducible (first | assumption | apply iter_keeps | apply pipeFinish_keeps | intro _))

end Sys2Proof.Machine
end

