-- ==== Sys2Proof/Laws/KeepsSeam.lean ====
section
/-! SUPPORT. What the operations of Machine/Seam.lean keep. -/

namespace Sys2Proof.Machine

theorem State.onRow_keeps (s : State) (g n : Nat) (f : SeamRow → SeamRow) {z : State} (hk : Keeps z s) :
    Keeps z (State.onRow s g n f) := by
  unfold State.onRow
  repeat' (with_reducible (first | assumption | apply State.setSeam_keeps))

theorem seamAhead_keeps (g n i c : Nat) (l : Option LineOut) (s : State) {z : State} (hk : Keeps z s) :
    Keeps z (seamAhead g n i c l s) := by
  unfold seamAhead
  repeat' (with_reducible (first | assumption | apply State.setSeam_keeps))

theorem seamNotUp_keeps (n : Nat) (p : State → Nat → SeamRow → Nat → Bool) (s : State) {z : State} (hk : Keeps z s) :
    Keeps z (seamNotUp n p s) := by
  unfold seamNotUp
  repeat' (with_reducible (first | assumption | apply State.setSeam_keeps | split))

theorem seamPortDown_keeps (n : Nat) (s : State) {z : State} (hk : Keeps z s) :
    Keeps z (seamPortDown n s) := by
  unfold seamPortDown
  repeat' (with_reducible (first | assumption | apply seamNotUp_keeps))

theorem seamPortUp_keeps (n : Nat) (s : State) {z : State} (hk : Keeps z s) :
    Keeps z (seamPortUp n s) := by
  unfold seamPortUp
  repeat' (with_reducible (first | assumption | apply seamNotUp_keeps))

theorem seamLate_keeps (g i : Nat) (s : State) {z : State} (hk : Keeps z s) :
    Keeps z (seamLate g i s) := by
  unfold seamLate
  repeat' (with_reducible (first | assumption | apply State.inc_keeps))

theorem seamApply_keeps (g n i : Nat) (l : LineOut) (s : State) {z : State} (hk : Keeps z s) :
    Keeps z (seamApply g n i l s) := by
  unfold seamApply
  repeat' (with_reducible (first | assumption | apply State.inc_keeps | apply State.onRow_keeps | apply seamLate_keeps | apply Keeps.ite | intro _ | split))

theorem seamEarly_keeps (g n i : Nat) (s : State) {z : State} (hk : Keeps z s) :
    Keeps z (seamEarly g n i s) := by
  unfold seamEarly
  repeat' (with_reducible (first | assumption | apply State.onRow_keeps | apply seamAhead_keeps | apply Keeps.ite | intro _))

theorem seamDue_keeps (g : Nat) (s : State) {z : State} (hk : Keeps z s) :
    Keeps z (seamDue g s) := by
  unfold seamDue
  repeat' (with_reducible (first | assumption | apply State.setSeam_keeps))

theorem seamContribute_keeps (g n i : Nat) (l : LineOut) (s0 : State) {z : State} (hk : Keeps z s0) :
    Keeps z (seamContribute g n i l s0) := by
  unfold seamContribute
  repeat' (with_reducible (first
    | assumption | apply State.inc_keeps | apply seamAhead_keeps | apply seamLate_keeps | apply seamApply_keeps
    | apply seamEarly_keeps | apply seamDue_keeps | apply Keeps.ite | intro _))

theorem seamOpen_keeps (g n : Nat) (epoch : Option Nat) (s : State) {z : State} (hk : Keeps z s) :
    Keeps z (seamOpen g n epoch s) := by
  unfold seamOpen
  repeat' (with_reducible (first | assumption | apply State.setSeam_keeps | apply seamApply_keeps | apply Keeps.foldl | apply Keeps.ite | intro _ | split))

theorem seamExclude_keeps (g row : Nat) (s : State) {z : State} (hk : Keeps z s) :
    Keeps z (seamExclude g row s) := by
  unfold seamExclude
  repeat' (with_reducible (first | assumption | apply State.setSeam_keeps))

theorem seamSource_keeps (g i : Nat) (s : State) {z : State} (hk : Keeps z s) :
    Keeps z (seamSource g i s) := by
  unfold seamSource
  repeat' (with_reducible (first | assumption | apply State.atTime_keeps | apply State.onRow_keeps | apply Keeps.foldl | apply Keeps.ite | intro _ | split))

theorem seamDeadline_keeps (g : Nat) (s : State) {z : State} (hk : Keeps z s) :
    Keeps z (seamDeadline g s) := by
  unfold seamDeadline
  repeat' (with_reducible (first | assumption | apply State.atTime_keeps | apply State.onRow_keeps | split))

theorem seamMemberStats_keeps (g : Nat) (ms : List SeamMember) (s : State) {z : State} (hk : Keeps z s) :
    Keeps z (seamMemberStats g ms s) := by
  unfold seamMemberStats
  repeat' (with_reducible (first | assumption | apply State.when_keeps | apply State.wr_keeps | apply State.inc_keeps | apply Keeps.foldl | intro _))

theorem seamLastRegs_keeps (g : Nat) (d : RowData) (s : State) {z : State} (hk : Keeps z s) :
    Keeps z (seamLastRegs g d s) := by
  unfold seamLastRegs
  repeat' (with_reducible (first | assumption | apply State.wr_keeps))

theorem seamRowStats_keeps (g : Nat) (d : RowData) (s : State) {z : State} (hk : Keeps z s) :
    Keeps z (seamRowStats g d s) := by
  unfold seamRowStats
  repeat' (with_reducible (first | assumption | apply State.inc_keeps))

theorem seamCommitted_keeps (g row : Nat) (s : State) {z : State} (hk : Keeps z s) :
    Keeps z (seamCommitted g row s) := by
  unfold seamCommitted
  repeat' (with_reducible (first | assumption | apply State.wr_keeps | apply State.setSeam_keeps))

theorem seamSwitch_keeps (g n : Nat) (s : State) {z : State} (hk : Keeps z s) :
    Keeps z (seamSwitch g n s) := by
  unfold seamSwitch
  repeat' (with_reducible (first | assumption | apply State.switchStage_keeps | apply seamCommitted_keeps | apply Keeps.ite | intro _ | split))

theorem seamEmit_keeps (g load : Nat) (s : State) {z : State} (hk : Keeps z s) :
    ∀ v t, seamEmit g load s = some (v, t) → Keeps z t := by
  intro v t ht
  unfold seamEmit at ht
  split at ht
  · cases ht
  · split at ht <;> cases ht
    repeat' (with_reducible (first
    | assumption | apply State.raiseIf_keeps | apply seamRowStats_keeps | apply seamLastRegs_keeps
    | apply seamMemberStats_keeps | apply State.setSeam_keeps | apply seamSwitch_keeps))

theorem seamClear_keeps (g : Nat) (s : State) {z : State} (hk : Keeps z s) :
    Keeps z (seamClear g s) := by
  unfold seamClear
  repeat' (with_reducible (first | assumption | apply State.setSeam_keeps))

end Sys2Proof.Machine
end

