-- ==== Sys2Proof/Laws/KeepsRender.lean ====
section
/-! SUPPORT. What the operations of Machine/Render.lean keep. -/

namespace Sys2Proof.Machine

theorem setShadow_keeps (e : Nat) (m : List Host.Cell) (s : State) {z : State} (hk : Keeps z s) :
    Keeps z (setShadow e m s) := by
  unfold setShadow
  repeat' (with_reducible (first | assumption | apply State.setRnd_keeps))

theorem swapSchedule_keeps (e b : Nat) (skim : Bool) (s : State) {z : State} (hk : Keeps z s) :
    Keeps z (swapSchedule e b skim s) := by
  unfold swapSchedule
  repeat' (with_reducible (first | assumption | apply State.wr_keeps | apply State.setRnd_keeps))

theorem copyBack_keeps (e : Nat) (s : State) {z : State} (hk : Keeps z s) :
    Keeps z (copyBack e s) := by
  unfold copyBack
  repeat' (with_reducible (first | assumption | apply State.wr_keeps))

theorem swapReach_keeps (e m : Nat) (s : State) {z : State} (hk : Keeps z s) :
    Keeps z (swapReach e m s) := by
  unfold swapReach
  repeat' (with_reducible (first | assumption | apply State.wr_keeps | apply State.setRnd_keeps | apply Keeps.ite | intro _ | split))

theorem swapPassed_keeps (e m : Nat) (s : State) {z : State} (hk : Keeps z s) :
    Keeps z (swapPassed e m s) := by
  unfold swapPassed
  repeat' (with_reducible (first
    | assumption | apply State.setRnd_keeps | apply copyBack_keeps | apply swapReach_keeps | apply Keeps.ite | intro _
    | split | dsimp only))

theorem copyBackDone_keeps (e : Nat) (s : State) {z : State} (hk : Keeps z s) :
    Keeps z (copyBackDone e s) := by
  unfold copyBackDone
  repeat' (with_reducible (first | assumption | apply State.wr_keeps | apply State.setRnd_keeps | apply setShadow_keeps | apply Keeps.ite | intro _))

theorem bankWerr_keeps (e : Nat) (s : State) {z : State} (hk : Keeps z s) :
    Keeps z (bankWerr e s) := by
  unfold bankWerr
  repeat' (with_reducible (first | assumption | apply State.wr_keeps))

theorem swapArm_keeps (e : Nat) (s : State) {z : State} (hk : Keeps z s) :
    Keeps z (swapArm e s) := by
  unfold swapArm
  repeat' (with_reducible (first | assumption | apply State.wr_keeps | apply State.setRnd_keeps | apply bankWerr_keeps | apply Keeps.ite | intro _))

theorem validationDone_keeps (e : Nat) (s : State) {z : State} (hk : Keeps z s) :
    Keeps z (validationDone e s) := by
  unfold validationDone
  repeat' (with_reducible (first
    | assumption | apply State.wr_keeps | apply State.setRnd_keeps | apply swapSchedule_keeps | apply Keeps.ite | intro _
    | split))

theorem swapForce_keeps (e : Nat) (s : State) {z : State} (hk : Keeps z s) :
    Keeps z (swapForce e s) := by
  unfold swapForce
  repeat' (with_reducible (first | assumption | apply State.wr_keeps | apply copyBack_keeps | apply copyBackDone_keeps | apply Keeps.ite | intro _ | split))

theorem disarm_keeps (e : Nat) (s : State) {z : State} (hk : Keeps z s) :
    Keeps z (disarm e s) := by
  unfold disarm
  repeat' (with_reducible (first | assumption | apply State.wr_keeps | apply State.setRnd_keeps | apply Keeps.ite | intro _))

theorem swapCommit_keeps (e b : Nat) (s : State) {z : State} (hk : Keeps z s) :
    Keeps z (swapCommit e b s) := by
  unfold swapCommit
  repeat' (with_reducible (first | assumption | apply State.setRnd_keeps | apply swapSchedule_keeps | apply Keeps.ite | intro _))

theorem loadBanks_keeps (e : Nat) (m : List Host.Cell) (s : State) {z : State} (hk : Keeps z s) :
    Keeps z (loadBanks e m s) := by
  unfold loadBanks
  repeat' (with_reducible (first | assumption | apply State.wr_keeps | apply State.setRnd_keeps))

theorem tableWrite_keeps (e off v : Nat) (s : State) {z : State} (hk : Keeps z s) :
    Keeps z (tableWrite e off v s) := by
  unfold tableWrite
  repeat' (with_reducible (first | assumption | apply setShadow_keeps | apply bankWerr_keeps | apply Keeps.ite | intro _))

theorem obEnable_keeps (e m b : Nat) (s : State) {z : State} (hk : Keeps z s) :
    Keeps z (obEnable e m b s) := by
  unfold obEnable
  repeat' (with_reducible (first | assumption | apply State.wr_keeps | apply State.setRnd_keeps | apply Keeps.ite | intro _))

theorem obUpdate_keeps (e b : Nat) (l : RawLine) (s : State) {z : State} (hk : Keeps z s) :
    Keeps z (obUpdate e b l s) := by
  unfold obUpdate
  repeat' (with_reducible (first | assumption | apply State.wr_keeps | apply State.inc_keeps | apply Keeps.ite | intro _))

theorem engineCorrect_keeps (e : Nat) (deltas : List Int) (l : RawLine) (s : State) {z : State} (hk : Keeps z s) :
    Keeps z (engineCorrect e deltas l s) := by
  unfold engineCorrect
  repeat' (with_reducible (first | assumption | apply State.inc_keeps | apply State.setRnd_keeps))

theorem engineOutput_keeps (e : Nat) (o : Int) (v : List (List Nat)) (s : State) {z : State} (hk : Keeps z s) :
    Keeps z (engineOutput e o v s).2 := by
  unfold engineOutput
  repeat' (with_reducible (first | assumption | apply State.inc_keeps))

theorem engineSwitch_keeps (e o : Nat) (s : State) {z : State} (hk : Keeps z s) :
    Keeps z (engineSwitch e o s) := by
  unfold engineSwitch
  repeat' (with_reducible (first | assumption | apply State.switchStage_keeps | split | dsimp only))

theorem channelOutput_keeps (o : Int) (es : List Nat) (s : State) {z : State} (hk : Keeps z s) :
    Keeps z (channelOutput o es s).2 := by
  induction es generalizing s with
  | nil => exact hk
  | cons e t ih =>
    unfold channelOutput
    repeat' (with_reducible (first | assumption | apply ih | apply State.inc_keeps | apply engineOutput_keeps | apply engineSwitch_keeps | split))

theorem deliverLine_keeps (n : Nat) (o : Int) (s : State) {z : State} (hk : Keeps z s) :
    Keeps z (deliverLine n o s) := by
  unfold deliverLine
  repeat' (with_reducible (first
    | assumption | apply seamContribute_keeps | apply channelOutput_keeps | apply Keeps.ite
    | (refine Keeps.snd (by assumption) ?_) | intro _ | split))

theorem renderLine_keeps (n : Nat) (l : RawLine) (s : State) {z : State} (hk : Keeps z s) :
    Keeps z (renderLine n l s) := by
  unfold renderLine
  repeat' (with_reducible (first
    | assumption | apply State.when_keeps | apply State.forAll_keeps | apply State.inc_keeps | apply swapReach_keeps
    | apply swapPassed_keeps | apply obEnable_keeps | apply obUpdate_keeps | apply engineCorrect_keeps | apply deliverLine_keeps
    | intro _))

theorem renderMissing_keeps (n : Nat) (s : State) {z : State} (hk : Keeps z s) :
    Keeps z (renderMissing n s) := by
  unfold renderMissing
  repeat' (with_reducible (first | assumption | apply State.forAll_keeps | apply State.inc_keeps | intro _))

theorem renderPortUp_keeps (n : Nat) (s : State) {z : State} (hk : Keeps z s) :
    Keeps z (renderPortUp n s) := by
  unfold renderPortUp
  repeat' (with_reducible (first | assumption | apply State.forAll_keeps | apply State.wr_keeps | apply State.setRnd_keeps | intro _))

end Sys2Proof.Machine
end

