-- ==== Sys2Proof/Laws/KeepsSkim.lean ====
section
/-! SUPPORT. What the operations of Machine/Skim.lean keep. -/

namespace Sys2Proof.Machine

theorem skimNotice_keeps (g kind cause port epoch : Nat) (s : State) {z : State} (hk : Keeps z s) :
    Keeps z (skimNotice g kind cause port epoch s) := by
  unfold skimNotice
  repeat' (with_reducible (first | assumption | apply hawkNote_keeps))

theorem skimRelease_keeps (e : Nat) (s : State) {z : State} (hk : Keeps z s) :
    Keeps z (skimRelease e s) := by
  unfold skimRelease
  repeat' (with_reducible (first | assumption | apply State.wr_keeps | apply State.setSkim_keeps))

theorem skimTap_keeps (e : Nat) (free : Bool) (o : Int) (v : List (List Nat)) (s : State) {z : State} (hk : Keeps z s) :
    Keeps z (skimTap e free o v s) := by
  unfold skimTap
  repeat' (with_reducible (first
    | assumption | apply State.wr_keeps | apply State.inc_keeps | apply State.setSkim_keeps | apply skimRelease_keeps
    | apply Keeps.ite | intro _ | split))

theorem skimRowEmitted_keeps (g row valid : Nat) (s : State) {z : State} (hk : Keeps z s) :
    Keeps z (skimRowEmitted g row valid s) := by
  unfold skimRowEmitted
  repeat' (with_reducible (first | assumption | apply State.forAll_keeps | apply State.inc_keeps | apply skimRelease_keeps | apply Keeps.ite | intro _))

theorem skimMask_keeps (g row : Nat) (mask : List Bool) (s : State) {z : State} (hk : Keeps z s) :
    Keeps z (skimMask g row mask s) := by
  unfold skimMask
  repeat' (with_reducible (first | assumption | apply State.forAll_keeps | apply State.setSkim_keeps | intro _))

theorem skimAdd_keeps (e ix v : Nat) (s : State) {z : State} (hk : Keeps z s) :
    Keeps z (skimAdd e ix v s) := by
  unfold skimAdd
  repeat' (with_reducible (first | assumption | apply State.setSkim_keeps | apply Keeps.ite | intro _))

theorem skimResolve_keeps (e : Nat) (h : SkimHold) (mask : List Bool) (s : State) {z : State} (hk : Keeps z s) :
    Keeps z (skimResolve e h mask s) := by
  unfold skimResolve
  repeat' (with_reducible (first
    | assumption | apply State.forAll_keeps | apply State.inc_keeps | apply State.setSkim_keeps | apply skimRelease_keeps
    | apply skimAdd_keeps | apply Keeps.ite | intro _))

theorem skimMaskArrival_keeps (e : Nat) (s : State) {z : State} (hk : Keeps z s) :
    Keeps z (skimMaskArrival e s) := by
  unfold skimMaskArrival
  repeat' (with_reducible (first | assumption | apply skimRelease_keeps | apply skimResolve_keeps | apply Keeps.ite | intro _ | split))

theorem skimMaskTimeout_keeps (e : Nat) (s : State) {z : State} (hk : Keeps z s) :
    Keeps z (skimMaskTimeout e s) := by
  unfold skimMaskTimeout
  repeat' (with_reducible (first | assumption | apply State.inc_keeps | apply skimRelease_keeps | apply Keeps.ite | intro _))

theorem skimUpdate_keeps (e j a : Nat) (s : State) {z : State} (hk : Keeps z s) :
    Keeps z (skimUpdate e j a s) := by
  unfold skimUpdate
  repeat' (with_reducible (first
    | assumption | apply State.inc_keeps | apply State.draw_keeps | apply State.setSkim_keeps | apply setShadow_keeps
    | apply Keeps.ite | intro _ | split | dsimp only))

theorem skimSliceEnd_keeps (e : Nat) (s : State) {z : State} (hk : Keeps z s) :
    Keeps z (skimSliceEnd e s) := by
  unfold skimSliceEnd
  repeat' (with_reducible (first
    | assumption | apply State.forAll_keeps | apply State.setSkim_keeps | apply skimUpdate_keeps | apply Keeps.ite | intro _
    | split))

theorem skimEpochStart_keeps (g e n : Nat) (s : State) {z : State} (hk : Keeps z s) :
    Keeps z (skimEpochStart g e n s) := by
  unfold skimEpochStart
  repeat' (with_reducible (first | assumption | apply State.setSkim_keeps))

theorem skimLevels_keeps (g row : Nat) (v : Nat → Option Nat) (s : State) {z : State} (hk : Keeps z s) :
    Keeps z (skimLevels g row v s) := by
  unfold skimLevels
  repeat' (with_reducible (first | assumption | apply State.forAll_keeps | apply State.wr_keeps | apply State.setSkimG_keeps | intro _ | split))

theorem skimStart_keeps (g r0 : Nat) (s : State) {z : State} (hk : Keeps z s) :
    Keeps z (skimStart g r0 s) := by
  unfold skimStart
  repeat' (with_reducible (first
    | assumption | apply State.forAll_keeps | apply State.wr_keeps | apply State.setSeam_keeps | apply State.setSkimG_keeps
    | apply skimEpochStart_keeps | apply skimLevels_keeps | apply Keeps.ite | intro _))

theorem skimEnd_keeps (g : Nat) (restore : Bool) (s : State) {z : State} (hk : Keeps z s) :
    Keeps z (skimEnd g restore s) := by
  unfold skimEnd
  repeat' (with_reducible (first
    | assumption | apply State.forAll_keeps | apply State.wr_keeps | apply State.setSkimG_keeps | apply copyBack_keeps
    | apply skimRelease_keeps | apply Keeps.ite | intro _))

theorem skimStop_keeps (g n : Nat) (s : State) {z : State} (hk : Keeps z s) :
    Keeps z (skimStop g n s) := by
  unfold skimStop
  repeat' (with_reducible (first | assumption | apply skimEnd_keeps | apply Keeps.ite | intro _ | split))

theorem skimRefuse_keeps (g : Nat) (s : State) {z : State} (hk : Keeps z s) :
    Keeps z (skimRefuse g s) := by
  unfold skimRefuse
  repeat' (with_reducible (first | assumption | apply State.wr_keeps | apply State.setSkimG_keeps | apply State.setCommit_keeps | split | dsimp only))

theorem skimRowStart_keeps (g n : Nat) (s : State) {z : State} (hk : Keeps z s) :
    Keeps z (skimRowStart g n s) := by
  unfold skimRowStart
  repeat' (with_reducible (first
    | assumption | apply skimStart_keeps | apply skimStop_keeps | apply skimRefuse_keeps | apply Keeps.ite | intro _ | split
    | dsimp only))

theorem skimFirstRow_keeps (g old n : Nat) (s : State) {z : State} (hk : Keeps z s) :
    Keeps z (skimFirstRow g old n s) := by
  unfold skimFirstRow
  repeat' (with_reducible (first | assumption | apply State.wr_keeps | apply State.setSkimG_keeps | apply Keeps.ite | intro _))

theorem skimSwapDone_keeps (e : Nat) (s : State) {z : State} (hk : Keeps z s) :
    Keeps z (skimSwapDone e s) := by
  unfold skimSwapDone
  repeat' (with_reducible (first | assumption | apply State.wr_keeps | apply skimStop_keeps | apply Keeps.ite | intro _ | split))

theorem skimScheduleEngine_keeps (g e next epoch : Nat) (s : State) {z : State} (hk : Keeps z s) :
    Keeps z (skimScheduleEngine g e next epoch s) := by
  unfold skimScheduleEngine
  repeat' (with_reducible (first | assumption | apply State.inc_keeps | apply State.setSkim_keeps | apply setShadow_keeps | apply swapSchedule_keeps))

theorem skimSchedule_keeps (g : Nat) (s : State) {z : State} (hk : Keeps z s) :
    Keeps z (skimSchedule g s) := by
  unfold skimSchedule
  repeat' (with_reducible (first
    | assumption | apply State.forAll_keeps | apply State.wr_keeps | apply State.setSkimG_keeps | apply State.atTime_keeps
    | apply swapForce_keeps | apply skimScheduleEngine_keeps | apply Keeps.ite | intro _ | split))

theorem skimBoundaryEngine_keeps (g e row epoch : Nat) (s : State) {z : State} (hk : Keeps z s) :
    Keeps z (skimBoundaryEngine g e row epoch s) := by
  unfold skimBoundaryEngine
  repeat' (with_reducible (first
    | assumption | apply State.when_keeps | apply State.wr_keeps | apply State.inc_keeps | apply State.setSkim_keeps
    | apply swapPassed_keeps | apply skimNotice_keeps | apply skimEpochStart_keeps | apply Keeps.ite | intro _ | split))

theorem skimNewHead_keeps (n : Nat) (s : State) {z : State} (hk : Keeps z s) :
    Keeps z (skimNewHead n s) := by
  unfold skimNewHead
  repeat' (with_reducible (first
    | assumption | apply State.when_keeps | apply State.forAll_keeps | apply State.wr_keeps | apply State.setSkim_keeps
    | apply skimNotice_keeps | apply Keeps.ite | intro _ | split))

theorem newHead_keeps (n : Nat) (s : State) {z : State} (hk : Keeps z s) :
    Keeps z (newHead n s) := by
  unfold newHead
  repeat' (with_reducible (first | assumption | apply State.wr_keeps | apply skimNewHead_keeps))

theorem skimPortDown_keeps (n : Nat) (s : State) {z : State} (hk : Keeps z s) :
    Keeps z (skimPortDown n s) := by
  unfold skimPortDown
  repeat' (with_reducible (first | assumption | apply State.forAll_keeps | apply State.setSkim_keeps | apply skimRelease_keeps | intro _ | split))

theorem skimPortUp_keeps (n : Nat) (s : State) {z : State} (hk : Keeps z s) :
    Keeps z (skimPortUp n s) := by
  unfold skimPortUp
  repeat' (with_reducible (first | assumption | apply State.forAll_keeps | apply State.setSkim_keeps | intro _))

end Sys2Proof.Machine
end

