-- ==== Sys2Proof/Laws/KeepsCkpt.lean ====
section
/-! SUPPORT. What the operations of Machine/Ckpt.lean keep. -/

namespace Sys2Proof.Machine

theorem ckptStart_keeps (s : State) {z : State} (hk : Keeps z s) :
    Keeps z (ckptStart s) := by
  unfold ckptStart
  repeat' (with_reducible (first | assumption | apply State.wr_keeps | apply Keeps.ite | intro _ | dsimp only | apply Keeps.frame'))

theorem ckptDrift_keeps (e : Nat) (s : State) {z : State} (hk : Keeps z s) :
    Keeps z (ckptDrift e s) := by
  unfold ckptDrift
  repeat' (with_reducible (first | assumption | apply State.wr_keeps | apply skimNotice_keeps | apply Keeps.ite | intro _ | split | dsimp only))

theorem ckptNotice_keeps (kind cause seq : Nat) (s : State) {z : State} (hk : Keeps z s) :
    Keeps z (ckptNotice kind cause seq s) := by
  unfold ckptNotice
  repeat' (with_reducible (first | assumption | apply hawkNote_keeps | split))

theorem ckptEnd_keeps (r seq : Nat) (s : State) {z : State} (hk : Keeps z s) :
    Keeps z (ckptEnd r seq s) := by
  unfold ckptEnd
  repeat' (with_reducible (first | assumption | apply State.wr_keeps | apply ckptNotice_keeps))

theorem ckptComplete_keeps (fail : Bool) (s : State) {z : State} (hk : Keeps z s) : Keeps z (ckptComplete fail s) := by
  unfold ckptComplete
  have h1 : ∀ a bs, Keeps z { s with mram := memWrite s.mram a bs } := fun a bs =>
    hk.upd rfl (Nat.le_refl _)
      (fun c => ⟨c.regs, c.cnt, c.snap, c.snapNext, memWrite_wf _ _ c.mram, c.dram, c.scratch, c.hostload⟩) rfl rfl rfl
  repeat' (with_reducible (first
    | assumption | apply ckptEnd_keeps | apply State.raise_keeps | apply State.wr_keeps | apply State.forAll_keeps
    | apply ckptDrift_keeps | apply h1 | apply Keeps.ite | intro _))

theorem ckptRestoreEngine_keeps (e : Nat) (recs : List (List Byte)) (s : State) {z : State} (hk : Keeps z s) :
    Keeps z (ckptRestoreEngine e recs s) := by
  unfold ckptRestoreEngine
  repeat' (with_reducible (first | assumption | apply State.wr_keeps | apply State.setRnd_keeps | apply Keeps.ite | intro _ | split))

theorem ckptRestore_keeps (g : Nat) (s : State) {z : State} (hk : Keeps z s) :
    Keeps z (ckptRestore g s) := by
  unfold ckptRestore
  repeat' (with_reducible (first
    | assumption | apply State.forAll_keeps | apply State.setSkimG_keeps | apply newHead_keeps
    | apply ckptRestoreEngine_keeps | apply Keeps.ite | intro _ | split | dsimp only))

theorem skimBoundary_keeps (g : Nat) (s : State) {z : State} (hk : Keeps z s) :
    Keeps z (skimBoundary g s) := by
  unfold skimBoundary
  repeat' (with_reducible (first
    | assumption | apply State.forAll_keeps | apply State.wr_keeps | apply State.inc_keeps | apply State.setSkimG_keeps
    | apply State.atTime_keeps | apply skimLevels_keeps | apply skimBoundaryEngine_keeps | apply ckptRestore_keeps
    | apply Keeps.ite | intro _ | split))

end Sys2Proof.Machine
end

