-- ==== Sys2Proof/Laws/KeepsJournal.lean ====
section
/-! SUPPORT. What the operations of Machine/Journal.lean keep. -/

namespace Sys2Proof.Machine

theorem Keeps.mramSet {z s : State} (h : Keeps z s) (a : Nat) (bs : List Byte) :
    Keeps z { s with mram := memWrite s.mram a bs } :=
  h.upd rfl (Nat.le_refl _)
    (fun c => ⟨c.regs, c.cnt, c.snap, c.snapNext, memWrite_wf _ _ c.mram, c.dram, c.scratch, c.hostload⟩) rfl rfl rfl

theorem jnlStore_keeps (entries : List Byte) (s : State) {z : State} (hk : Keeps z s) : Keeps z (jnlStore entries s) := by
  unfold jnlStore
  dsimp only
  have h : ∀ a bs b, Keeps z { s with mram := memWrite s.mram a bs, boot := b } := fun a bs b => hk.upd rfl (Nat.le_refl _)
    (fun c => ⟨c.regs, c.cnt, c.snap, c.snapNext, memWrite_wf a bs c.mram, c.dram, c.scratch, c.hostload⟩) rfl rfl rfl
  exact h _ _ _

theorem jnlAppend_keeps (rec entries : List Byte) (s : State) {z : State} (hk : Keeps z s) : Keeps z (jnlAppend rec entries s) := by
  unfold jnlAppend
  dsimp only
  exact jnlStore_keeps _ _ (State.wr_keeps _ _ _ (hk.mramSet _ _))

theorem jnlInfo_keeps (step outcome unit cause param : Nat) (s : State) {z : State} (hk : Keeps z s) :
    Keeps z (jnlInfo step outcome unit cause param s) := by
  unfold jnlInfo
  repeat' (with_reducible (first | assumption | apply jnlAppend_keeps))

theorem jnlOutcome_keeps (step e unit outcome pset cause param : Nat) (s : State) {z : State} (hk : Keeps z s) :
    Keeps z (jnlOutcome step e unit outcome pset cause param s) := by
  unfold jnlOutcome
  repeat' (with_reducible (first | assumption | apply State.raiseIf_keeps | apply jnlAppend_keeps))

theorem jnlRewrite_keeps (entries : List Byte) (s : State) {z : State} (hk : Keeps z s) :
    Keeps z (jnlRewrite entries s) := by
  unfold jnlRewrite
  repeat' (with_reducible (first | assumption | apply jnlStore_keeps))

theorem jnlTableOnly_keeps (e outcome : Nat) (s : State) {z : State} (hk : Keeps z s) :
    Keeps z (jnlTableOnly e outcome s) := by
  unfold jnlTableOnly
  repeat' (with_reducible (first | assumption | apply State.raiseIf_keeps | apply jnlRewrite_keeps))

theorem jnlDevice_keeps (step outcome : Nat) (s : State) {z : State} (hk : Keeps z s) :
    Keeps z (jnlDevice step outcome s) := by
  unfold jnlDevice
  repeat' (with_reducible (first | assumption | apply State.raiseIf_keeps | apply jnlAppend_keeps))

end Sys2Proof.Machine
end

