-- ==== Sys2Proof/Laws/KeepsDma.lean ====
section
/-! SUPPORT. What the operations of Machine/Dma.lean keep. -/

namespace Sys2Proof.Machine

theorem setFailAddr_keeps (c a : Nat) (s : State) {z : State} (hk : Keeps z s) :
    Keeps z (setFailAddr c a s) := by
  unfold setFailAddr
  repeat' (with_reducible (first | assumption | apply State.wr_keeps))

theorem dmaForsake_keeps (c : Nat) (s : State) {z : State} (hk : Keeps z s) :
    Keeps z (dmaForsake c s) := by
  unfold dmaForsake
  repeat' (with_reducible (first | assumption | apply State.when_keeps | apply State.setDmaCh_keeps | apply hawkForsake_keeps | intro _))

theorem dmaStop_keeps (c err dir : Nat) (s0 : State) {z : State} (hk : Keeps z s0) :
    Keeps z (dmaStop c err dir s0) := by
  unfold dmaStop
  repeat' (with_reducible (first
    | assumption | apply State.wr_keeps | apply State.inc_keeps | apply State.raiseIf_keeps | apply State.setDmaCh_keeps
    | apply dmaForsake_keeps))

theorem dmaHalt_keeps (c err dir a : Nat) (s : State) {z : State} (hk : Keeps z s) :
    Keeps z (dmaHalt c err dir a s) := by
  unfold dmaHalt
  repeat' (with_reducible (first | assumption | apply setFailAddr_keeps | apply dmaStop_keeps))

theorem dmaBreak_keeps (c err : Nat) (s : State) {z : State} (hk : Keeps z s) :
    Keeps z (dmaBreak c err s) := by
  unfold dmaBreak
  repeat' (with_reducible (first | assumption | apply State.draw_keeps | apply dmaHalt_keeps))

theorem dmaStart_keeps (c : Nat) (s : State) {z : State} (hk : Keeps z s) :
    Keeps z (dmaStart c s) := by
  unfold dmaStart
  repeat' (with_reducible (first | assumption | apply State.wr_keeps | apply State.setDmaCh_keeps | apply Keeps.ite | intro _))

theorem dmaAbort_keeps (c : Nat) (s : State) {z : State} (hk : Keeps z s) :
    Keeps z (dmaAbort c s) := by
  unfold dmaAbort
  repeat' (with_reducible (first | assumption | apply dmaBreak_keeps | apply Keeps.ite | intro _))

theorem dmaAck_keeps (c : Nat) (s : State) {z : State} (hk : Keeps z s) :
    Keeps z (dmaAck c s) := by
  unfold dmaAck
  repeat' (with_reducible (first | assumption | apply State.wr_keeps | apply Keeps.ite | intro _))

theorem dmaConfig_keeps (c off v : Nat) (s : State) {z : State} (hk : Keeps z s) :
    Keeps z (dmaConfig c off v s) := by
  unfold dmaConfig
  repeat' (with_reducible (first | assumption | apply State.wr_keeps | apply Keeps.ite | intro _ | split))

theorem dmaTape_keeps (c : Nat) (s : State) {z : State} (hk : Keeps z s) :
    Keeps z (dmaTape c s) := by
  unfold dmaTape
  repeat' (with_reducible (first | assumption | apply State.setDmaCh_keeps | apply dmaBreak_keeps | apply Keeps.ite | intro _))

theorem dmaReturn_keeps (c : Nat) (s : State) {z : State} (hk : Keeps z s) :
    Keeps z (dmaReturn c s) := by
  unfold dmaReturn
  repeat' (with_reducible (first | assumption | apply State.wr_keeps | apply State.setDmaCh_keeps))

theorem dmaFollow_keeps (c a : Nat) (s : State) {z : State} (hk : Keeps z s) :
    Keeps z (dmaFollow c a s) := by
  unfold dmaFollow
  repeat' (with_reducible (first | assumption | apply State.setDmaCh_keeps | apply dmaHalt_keeps | apply Keeps.ite | intro _))

theorem dmaComplete_keeps (c : Nat) (last done : Bool) (next : Nat) (s : State) {z : State} (hk : Keeps z s) :
    Keeps z (dmaComplete c last done next s) := by
  unfold dmaComplete
  repeat' (with_reducible (first
    | assumption | apply State.wr_keeps | apply State.inc_keeps | apply State.setDmaCh_keeps | apply dmaFollow_keeps
    | apply Keeps.ite | intro _))

theorem dmaCheck_keeps (c a : Nat) (d : RawDesc) (s : State) {z : State} (hk : Keeps z s) :
    Keeps z (dmaCheck c a d s) := by
  unfold dmaCheck
  repeat' (with_reducible (first
    | assumption | apply State.wr_keeps | apply State.setDmaCh_keeps | apply dmaHalt_keeps | apply dmaComplete_keeps
    | apply Keeps.ite | intro _ | split))

theorem setCur_keeps (c a : Nat) (s : State) {z : State} (hk : Keeps z s) :
    Keeps z (setCur c a s) := by
  unfold setCur
  repeat' (with_reducible (first | assumption | apply State.wr_keeps))

theorem dmaFetch_keeps (c : Nat) (err : MemErr) (s : State) {z : State} (hk : Keeps z s) :
    Keeps z (dmaFetch c err s) := by
  unfold dmaFetch
  repeat' (with_reducible (first
    | assumption | apply State.wr_keeps | apply devRead_keeps | apply dmaHalt_keeps | apply dmaCheck_keeps
    | apply setCur_keeps | apply Keeps.ite | intro _))

end Sys2Proof.Machine
end

