-- ==== Sys2Proof/Laws/KeepsCvu.lean ====
section
/-! SUPPORT. What the operations of Machine/Cvu.lean keep. -/

namespace Sys2Proof.Machine

theorem cvuInit_keeps (c : Nat) (s : State) {z : State} (hk : Keeps z s) :
    Keeps z (cvuInit c s) := by
  unfold cvuInit
  repeat' (with_reducible (first | assumption | apply State.wr_keeps | apply Keeps.ite | intro _))

theorem cvuCfg_keeps (c v : Nat) (s : State) {z : State} (hk : Keeps z s) :
    Keeps z (cvuCfg c v s) := by
  unfold cvuCfg
  repeat' (with_reducible (first | assumption | apply State.wr_keeps | apply cvuInit_keeps | apply Keeps.ite | intro _))

theorem cvuFeed_keeps (c n v : Nat) (s : State) {z : State} (hk : Keeps z s) :
    Keeps z (cvuFeed c n v s) := by
  unfold cvuFeed
  repeat' (with_reducible (first | assumption | apply State.wr_keeps | apply Keeps.ite | intro _))

theorem cvuValue_keeps (c v : Nat) (s : State) {z : State} (hk : Keeps z s) :
    Keeps z (cvuValue c v s) := by
  unfold cvuValue
  repeat' (with_reducible (first | assumption | apply State.wr_keeps | apply Keeps.ite | intro _))

theorem cvuAlive_keeps (c v : Nat) (s : State) {z : State} (hk : Keeps z s) :
    Keeps z (cvuAlive c v s) := by
  unfold cvuAlive
  repeat' (with_reducible (first | assumption | apply State.wr_keeps | apply State.inc_keeps | apply State.raiseIf_keeps | apply Keeps.ite | intro _))

theorem cvuAliveReset_keeps (c : Nat) (s : State) {z : State} (hk : Keeps z s) :
    Keeps z (cvuAliveReset c s) := by
  unfold cvuAliveReset
  repeat' (with_reducible (first | assumption | apply State.wr_keeps | apply Keeps.ite | intro _))

theorem cvuReturn_keeps (c : Nat) (s : State) {z : State} (hk : Keeps z s) :
    Keeps z (cvuReturn c s) := by
  unfold cvuReturn
  repeat' (with_reducible (first | assumption | apply State.resetRange_keeps | apply State.resetCounters_keeps))

end Sys2Proof.Machine
end

