-- ==== Sys2Proof/Laws/KeepsPacket.lean ====
section
/-! SUPPORT. What the operations of Machine/Packet.lean keep. -/

namespace Sys2Proof.Machine

theorem dropLine_keeps (n : Nat) (d : Drop) (stream line : Nat) (s : State) {z : State} (hk : Keeps z s) :
    Keeps z (dropLine n d stream line s) := by
  unfold dropLine
  repeat' (with_reducible (first | assumption | apply State.wr_keeps | apply State.inc_keeps | apply State.raise_keeps | split))

theorem trigExpire_keeps (n : Nat) (e : TrigEnt) (s : State) {z : State} (hk : Keeps z s) :
    Keeps z (trigExpire n e s) := by
  unfold trigExpire
  repeat' (with_reducible (first
    | assumption | apply State.when_keeps | apply State.forAll_keeps | apply iter_keeps | apply State.inc_keeps
    | apply State.raise_keeps | apply State.setPort_keeps | apply swapPassed_keeps | apply renderMissing_keeps | intro _))

theorem trigExpireDue_keeps (n : Nat) (s : State) {z : State} (hk : Keeps z s) :
    Keeps z (trigExpireDue n s) := by
  unfold trigExpireDue
  repeat' (with_reducible (first | assumption | apply trigExpire_keeps | apply Keeps.foldl | intro _))

theorem setPkt_keeps (n : Nat) (k : Option Pkt) (s : State) {z : State} (hk : Keeps z s) :
    Keeps z (setPkt n k s) := by
  unfold setPkt
  repeat' (with_reducible (first | assumption | apply State.setPort_keeps))

theorem lineToRender_keeps (n : Nat) (k : Pkt) (payload : List Byte) (good : Bool) (s : State) {z : State} (hk : Keeps z s) :
    Keeps z (lineToRender n k payload good s) := by
  unfold lineToRender
  repeat' (with_reducible (first | assumption | apply State.setPort_keeps | apply Keeps.ite | intro _))

theorem packetCut_keeps (n : Nat) (s : State) {z : State} (hk : Keeps z s) :
    Keeps z (packetCut n s) := by
  unfold packetCut
  repeat' (with_reducible (first
    | assumption | apply State.setPort_keeps | apply dropLine_keeps | apply setPkt_keeps | apply lineToRender_keeps
    | apply Keeps.ite | intro _ | split))

theorem portSwitch_keeps (n m : Nat) (s : State) {z : State} (hk : Keeps z s) :
    Keeps z (portSwitch n m s) := by
  unfold portSwitch
  repeat' (with_reducible (first | assumption | apply State.switchStage_keeps | split))

theorem headerSequenced_keeps (n : Nat) (h : List Byte) (bad : Bool) (s : State) {z : State} (hk : Keeps z s) :
    Keeps z (headerSequenced n h bad s) := by
  unfold headerSequenced
  repeat' (with_reducible (first
    | assumption | apply State.inc_keeps | apply State.setPort_keeps | apply dropLine_keeps | apply setPkt_keeps
    | apply portSwitch_keeps | apply Keeps.ite | intro _ | split | dsimp only))

theorem lineHeader_keeps (n : Nat) (h : List Byte) (bad : Bool) (s : State) {z : State} (hk : Keeps z s) :
    Keeps z (lineHeader n h bad s) := by
  unfold lineHeader
  repeat' (with_reducible (first
    | assumption | apply dropLine_keeps | apply trigExpireDue_keeps | apply setPkt_keeps | apply headerSequenced_keeps
    | split | dsimp only))

theorem linePayload_keeps (n : Nat) (k : Pkt) (s : State) {z : State} (hk : Keeps z s) :
    Keeps z (linePayload n k s) := by
  unfold linePayload
  repeat' (with_reducible (first
    | assumption | apply State.inc_keeps | apply dropLine_keeps | apply setPkt_keeps | apply lineToRender_keeps
    | apply Keeps.ite | intro _))

theorem packetStart_keeps (n : Nat) (s : State) {z : State} (hk : Keeps z s) :
    Keeps z (packetStart n s) := by
  unfold packetStart
  repeat' (with_reducible (first | assumption | apply State.setPort_keeps | apply packetCut_keeps))

theorem packetData_keeps (n : Nat) (bs : List Byte) (s : State) {z : State} (hk : Keeps z s) :
    Keeps z (packetData n bs s) := by
  unfold packetData
  repeat' (with_reducible (first
    | assumption | apply State.setPort_keeps | apply setPkt_keeps | apply lineHeader_keeps | apply linePayload_keeps
    | apply Keeps.ite | intro _ | split))

theorem packetBad_keeps (n : Nat) (s : State) {z : State} (hk : Keeps z s) :
    Keeps z (packetBad n s) := by
  unfold packetBad
  repeat' (with_reducible (first | assumption | apply State.setPort_keeps))

theorem bcPick_keeps (n : Nat) (s : State) {z : State} (hk : Keeps z s) :
    Keeps z (bcPick n s) := by
  unfold bcPick
  repeat' (with_reducible (first | assumption | apply State.setPort_keeps | split | dsimp only))

theorem bcSend_keeps (n : Nat) (m : Msg) (s : State) {z : State} (hk : Keeps z s) :
    Keeps z (bcSend n m s) := by
  unfold bcSend
  repeat' (with_reducible (first | assumption | apply State.setPort_keeps | apply bcPick_keeps))

theorem bcSent_keeps (n : Nat) (s : State) {z : State} (hk : Keeps z s) :
    Keeps z (bcSent n s) := by
  unfold bcSent
  repeat' (with_reducible (first | assumption | apply State.setLane_keeps | apply State.setPort_keeps | apply bcPick_keeps | split | dsimp only))

theorem trigSendNow_keeps (n : Nat) (e : TrigEnt) (s : State) {z : State} (hk : Keeps z s) :
    Keeps z (trigSendNow n e s) := by
  unfold trigSendNow
  repeat' (with_reducible (first | assumption | apply State.inc_keeps | apply State.setPort_keeps | apply bcSend_keeps))

theorem trigSend_keeps (n : Nat) (e : TrigEnt) (s : State) {z : State} (hk : Keeps z s) :
    Keeps z (trigSend n e s) := by
  unfold trigSend
  repeat' (with_reducible (first | assumption | apply State.setPort_keeps | apply trigSendNow_keeps | apply Keeps.ite | intro _))

theorem trigRelease_keeps (n : Nat) (s : State) {z : State} (hk : Keeps z s) :
    Keeps z (trigRelease n s) := by
  unfold trigRelease
  repeat' (with_reducible (first
    | assumption | apply State.setPort_keeps | apply State.atTime_keeps | apply trigSendNow_keeps | apply Keeps.ite | intro _
    | split))

theorem syncStart_keeps (n : Nat) (s : State) {z : State} (hk : Keeps z s) :
    Keeps z (syncStart n s) := by
  unfold syncStart
  repeat' (with_reducible (first
    | assumption | apply State.setPort_keeps | apply bcSend_keeps | apply Keeps.ite
    | intro _))

theorem syncAccept_keeps (n seq : Nat) (off d : Int) (s : State) {z : State} (hk : Keeps z s) :
    Keeps z (syncAccept n seq off d s) := by
  unfold syncAccept
  repeat' (with_reducible (first | assumption | apply State.wr_keeps | apply State.setPort_keeps | apply bcSend_keeps))

theorem syncRsp_keeps (n seq t2 t3 t4 : Nat) (s : State) {z : State} (hk : Keeps z s) :
    Keeps z (syncRsp n seq t2 t3 t4 s) := by
  unfold syncRsp
  repeat' (with_reducible (first
    | assumption | apply State.wr_keeps | apply State.inc_keeps | apply State.setPort_keeps | apply syncAccept_keeps
    | apply Keeps.ite | intro _ | split | dsimp only))

theorem syncTimeout_keeps (n : Nat) (s : State) {z : State} (hk : Keeps z s) :
    Keeps z (syncTimeout n s) := by
  unfold syncTimeout
  repeat' (with_reducible (first
    | assumption | apply State.wr_keeps | apply State.inc_keeps | apply State.raise_keeps | apply State.setPort_keeps
    | apply Keeps.ite | intro _ | split | dsimp only))

theorem headNote_keeps (en : Bool) (n : Nat) (words : List Nat) (s : State) {z : State} (hk : Keeps z s) :
    Keeps z (headNote en n words s) := by
  unfold headNote
  repeat' (with_reducible (first | assumption | apply hawkNote_keeps))

theorem cmdEnd_keeps (n st : Nat) (data : List Byte) (s : State) {z : State} (hk : Keeps z s) :
    Keeps z (cmdEnd n st data s) := by
  unfold cmdEnd
  repeat' (with_reducible (first | assumption | apply State.wr_keeps | apply headNote_keeps))

theorem cmdGo_keeps (n : Nat) (s : State) {z : State} (hk : Keeps z s) :
    Keeps z (cmdGo n s) := by
  unfold cmdGo
  repeat' (with_reducible (first | assumption | apply State.wr_keeps | apply State.setPort_keeps | apply bcSend_keeps | apply Keeps.ite | intro _))

theorem rspStore_keeps (n : Nat) (data : List Byte) (s : State) {z : State} (hk : Keeps z s) :
    Keeps z (rspStore n data s) := by
  unfold rspStore
  repeat' (with_reducible (first | assumption | apply State.wr_keeps | apply Keeps.foldl | intro _))

theorem headRsp_keeps (n tag : Nat) (data : List Byte) (s : State) {z : State} (hk : Keeps z s) :
    Keeps z (headRsp n tag data s) := by
  unfold headRsp
  repeat' (with_reducible (first
    | assumption | apply State.wr_keeps | apply State.inc_keeps | apply cmdEnd_keeps | apply rspStore_keeps | apply Keeps.ite
    | intro _))

theorem cmdTimeout_keeps (n : Nat) (s : State) {z : State} (hk : Keeps z s) :
    Keeps z (cmdTimeout n s) := by
  unfold cmdTimeout
  repeat' (with_reducible (first | assumption | apply State.when_keeps | apply cmdEnd_keeps | intro _))

theorem headEvt_keeps (n : Nat) (data : List Byte) (s : State) {z : State} (hk : Keeps z s) :
    Keeps z (headEvt n data s) := by
  unfold headEvt
  repeat' (with_reducible (first | assumption | apply State.inc_keeps | apply headNote_keeps | apply Keeps.ite | intro _))

theorem chalStart_keeps (n : Nat) (s : State) {z : State} (hk : Keeps z s) :
    Keeps z (chalStart n s) := by
  unfold chalStart
  repeat' (with_reducible (first
    | assumption | apply State.when_keeps | apply State.wr_keeps | apply State.drawBytes_keeps | apply State.setPort_keeps
    | apply bcSend_keeps | apply Keeps.ite | intro _))

theorem chalRsp_keeps (n : Nat) (mac : List Byte) (s : State) {z : State} (hk : Keeps z s) :
    Keeps z (chalRsp n mac s) := by
  unfold chalRsp
  repeat' (with_reducible (first | assumption | apply State.wr_keeps | apply State.inc_keeps | apply State.raise_keeps | apply Keeps.ite | intro _))

theorem chalTimeout_keeps (n : Nat) (s : State) {z : State} (hk : Keeps z s) :
    Keeps z (chalTimeout n s) := by
  unfold chalTimeout
  repeat' (with_reducible (first
    | assumption | apply State.wr_keeps | apply State.raise_keeps | apply Keeps.ite
    | intro _))

theorem chalKeyWord_keeps (n i v : Nat) (s : State) {z : State} (hk : Keeps z s) :
    Keeps z (chalKeyWord n i v s) := by
  unfold chalKeyWord
  repeat' (with_reducible (first | assumption | apply State.wr_keeps | apply State.setPort_keeps))

theorem msgBegin_keeps (n len : Nat) (s : State) {z : State} (hk : Keeps z s) :
    Keeps z (msgBegin n len s) := by
  unfold msgBegin
  repeat' (with_reducible (first | assumption | apply State.when_keeps | apply State.inc_keeps | apply State.setPort_keeps | intro _))

theorem msgWhole_keeps (n len : Nat) (f : State → State) (s : State) {z : State} (hf : ∀ t, Keeps z t → Keeps z (f t)) (hk : Keeps z s) :
    Keeps z (msgWhole n len f s) := by
  unfold msgWhole
  repeat' (with_reducible (first | assumption | apply msgBegin_keeps | apply hf | apply Keeps.ite | intro _))

theorem msgDispatch_keeps (n : Nat) (m : List Byte) (s : State) {z : State} (hk : Keeps z s) :
    Keeps z (msgDispatch n m s) := by
  unfold msgDispatch
  repeat' (with_reducible (first
    | assumption | apply State.inc_keeps | apply syncRsp_keeps | apply headRsp_keeps | apply headEvt_keeps
    | apply chalRsp_keeps | apply Keeps.ite | intro _ | split))

theorem msgUnit_keeps (n : Nat) (u : List Byte) (s : State) {z : State} (hk : Keeps z s) :
    Keeps z (msgUnit n u s) := by
  unfold msgUnit
  repeat' (with_reducible (first
    | assumption | apply State.inc_keeps | apply State.setPort_keeps | apply msgDispatch_keeps | apply Keeps.ite | intro _
    | split | dsimp only))

theorem portEnterUp_keeps (n : Nat) (s : State) {z : State} (hk : Keeps z s) :
    Keeps z (portEnterUp n s) := by
  unfold portEnterUp
  repeat' (with_reducible (first
    | assumption | apply State.when_keeps | apply State.wr_keeps | apply State.setPort_keeps | apply seamPortUp_keeps
    | apply renderPortUp_keeps | apply skimPortUp_keeps | apply chalStart_keeps | intro _))

theorem portLeaveUp_keeps (n : Nat) (s : State) {z : State} (hk : Keeps z s) :
    Keeps z (portLeaveUp n s) := by
  unfold portLeaveUp
  repeat' (with_reducible (first
    | assumption | apply State.when_keeps | apply State.wr_keeps | apply State.setPort_keeps | apply seamPortDown_keeps
    | apply skimPortDown_keeps | apply packetCut_keeps | apply cmdEnd_keeps | intro _))

end Sys2Proof.Machine
end

