-- ==== Sys2Proof/Laws/KeepsLane.lean ====
section
/-! SUPPORT. What the operations of Machine/Lane.lean keep. -/

namespace Sys2Proof.Machine

theorem onLane_keeps (n : Nat) (f : Lane → Lane) (s : State) {z : State} (hk : Keeps z s) :
    Keeps z (onLane n f s) := by
  unfold onLane
  repeat' (with_reducible (first | assumption | apply State.setLane_keeps))

theorem setLaneState_keeps (n st : Nat) (s : State) {z : State} (hk : Keeps z s) :
    Keeps z (setLaneState n st s) := by
  unfold setLaneState
  repeat' (with_reducible (first | assumption | apply State.wr_keeps))

theorem setChanState_keeps (n st : Nat) (s : State) {z : State} (hk : Keeps z s) :
    Keeps z (setChanState n st s) := by
  unfold setChanState
  repeat' (with_reducible (first | assumption | apply State.forAll_keeps | apply setLaneState_keeps | intro _))

theorem laneEvent_keeps (n k : Nat) (s : State) {z : State} (hk : Keeps z s) :
    Keeps z (laneEvent n k s) := by
  unfold laneEvent
  repeat' (with_reducible (first | assumption | apply State.raiseIf_keeps))

theorem alignClear_keeps (n : Nat) (s : State) {z : State} (hk : Keeps z s) :
    Keeps z (alignClear n s) := by
  unfold alignClear
  repeat' (with_reducible (first | assumption | apply State.forAll_keeps | apply State.wr_keeps | apply onLane_keeps | intro _))

theorem trainPass_keeps (n : Nat) (s : State) {z : State} (hk : Keeps z s) :
    Keeps z (trainPass n s) := by
  unfold trainPass
  repeat' (with_reducible (first | assumption | apply onLane_keeps | apply alignClear_keeps))

theorem trainRestart_keeps (n : Nat) (s : State) {z : State} (hk : Keeps z s) :
    Keeps z (trainRestart n s) := by
  unfold trainRestart
  repeat' (with_reducible (first | assumption | apply State.bumpSat_keeps | apply onLane_keeps | apply trainPass_keeps))

theorem attemptLane_keeps (n : Nat) (s : State) {z : State} (hk : Keeps z s) :
    Keeps z (attemptLane n s) := by
  unfold attemptLane
  repeat' (with_reducible (first
    | assumption | apply State.wr_keeps | apply State.inc_keeps | apply State.setLane_keeps | apply setLaneState_keeps
    | apply alignClear_keeps))

theorem attempt_keeps (n : Nat) (s : State) {z : State} (hk : Keeps z s) :
    Keeps z (attempt n s) := by
  unfold attempt
  repeat' (with_reducible (first | assumption | apply State.forAll_keeps | apply attemptLane_keeps | intro _))

theorem bumpRetry_keeps (n : Nat) (s : State) {z : State} (hk : Keeps z s) :
    Keeps z (bumpRetry n s) := by
  unfold bumpRetry
  repeat' (with_reducible (first | assumption | apply State.wr_keeps))

theorem stampTrainTime_keeps (n : Nat) (s : State) {z : State} (hk : Keeps z s) :
    Keeps z (stampTrainTime n s) := by
  unfold stampTrainTime
  repeat' (with_reducible (first | assumption | apply State.wr_keeps | split))

theorem laneRest_keeps (n : Nat) (s : State) {z : State} (hk : Keeps z s) :
    Keeps z (laneRest n s) := by
  unfold laneRest
  repeat' (with_reducible (first | assumption | apply onLane_keeps))

theorem trainRecord_keeps (n cause : Nat) (s : State) {z : State} (hk : Keeps z s) :
    Keeps z (trainRecord n cause s) := by
  unfold trainRecord
  repeat' (with_reducible (first | assumption | apply jnlAppend_keeps))

theorem trainFail_keeps (n cause : Nat) (fs : List Nat) (s : State) {z : State} (hk : Keeps z s) :
    Keeps z (trainFail n cause fs s) := by
  unfold trainFail
  repeat' (with_reducible (first
    | assumption | apply State.forAll_keeps | apply State.wr_keeps | apply setLaneState_keeps | apply laneEvent_keeps
    | apply alignClear_keeps | apply stampTrainTime_keeps | apply laneRest_keeps | apply trainRecord_keeps | apply Keeps.foldl
    | intro _))

theorem lockFound_keeps (n : Nat) (s : State) {z : State} (hk : Keeps z s) :
    Keeps z (lockFound n s) := by
  unfold lockFound
  repeat' (with_reducible (first
    | assumption | apply State.wr_keeps | apply onLane_keeps | apply setLaneState_keeps | apply trainPass_keeps
    | apply Keeps.ite | intro _))

theorem lockTimeout_keeps (n : Nat) (energy : Bool) (s : State) {z : State} (hk : Keeps z s) :
    Keeps z (lockTimeout n energy s) := by
  unfold lockTimeout
  repeat' (with_reducible (first
    | assumption | apply State.forAll_keeps | apply State.wr_keeps | apply setLaneState_keeps | apply laneEvent_keeps
    | apply alignClear_keeps | apply bumpRetry_keeps | apply laneRest_keeps | apply Keeps.ite | intro _))

theorem gangTape_keeps (n ev : Nat) (s : State) {z : State} (hk : Keeps z s) :
    Keeps z (gangTape n ev s) := by
  unfold gangTape
  repeat' (with_reducible (first
    | assumption | apply State.forAll_keeps | apply State.raise_keeps | apply portLeaveUp_keeps | apply onLane_keeps
    | apply setLaneState_keeps | apply alignClear_keeps | apply bumpRetry_keeps | apply laneRest_keeps | intro _ | dsimp only
    | apply Keeps.frame'))

theorem lockGone_keeps (n : Nat) (s : State) {z : State} (hk : Keeps z s) :
    Keeps z (lockGone n s) := by
  unfold lockGone
  repeat' (with_reducible (first
    | assumption | apply State.wr_keeps | apply State.raise_keeps | apply portLeaveUp_keeps | apply onLane_keeps
    | apply setLaneState_keeps | apply alignClear_keeps | apply attempt_keeps | apply gangTape_keeps | apply Keeps.ite | intro _
    | split))

theorem lockLost_keeps (n : Nat) (energy : Bool) (s : State) {z : State} (hk : Keeps z s) :
    Keeps z (lockLost n energy s) := by
  unfold lockLost
  repeat' (with_reducible (first | assumption | apply State.wr_keeps | apply State.inc_keeps | apply lockGone_keeps | apply Keeps.ite | intro _))

theorem budgetExpiry_keeps (n : Nat) (s : State) {z : State} (hk : Keeps z s) :
    Keeps z (budgetExpiry n s) := by
  unfold budgetExpiry
  repeat' (with_reducible (first | assumption | apply trainFail_keeps | apply Keeps.ite | intro _))

theorem request_keeps (n : Nat) (f : ReqFor) (s : State) {z : State} (hk : Keeps z s) :
    Keeps z (request n f s) := by
  unfold request
  repeat' (with_reducible (first | assumption | apply State.bumpSat_keeps | apply onLane_keeps))

theorem nextMove_keeps (n : Nat) (s : State) {z : State} (hk : Keeps z s) :
    Keeps z (nextMove n s) := by
  unfold nextMove
  repeat' (with_reducible (first | assumption | apply State.setLane_keeps | apply request_keeps | apply Keeps.ite | intro _))

theorem converge_keeps (n : Nat) (s : State) {z : State} (hk : Keeps z s) :
    Keeps z (converge n s) := by
  unfold converge
  repeat' (with_reducible (first
    | assumption | apply State.forAll_keeps | apply onLane_keeps | apply Keeps.ite
    | intro _))

theorem judgeWindow_keeps (n bad p : Nat) (s : State) {z : State} (hk : Keeps z s) :
    Keeps z (judgeWindow n bad p s) := by
  unfold judgeWindow
  repeat' (with_reducible (first
    | assumption | apply State.setLane_keeps | apply request_keeps | apply nextMove_keeps | apply converge_keeps
    | apply Keeps.ite | intro _ | split))

theorem tapAnswer_keeps (n : Nat) (ok : Bool) (s : State) {z : State} (hk : Keeps z s) :
    Keeps z (tapAnswer n ok s) := by
  unfold tapAnswer
  repeat' (with_reducible (first | assumption | apply State.setLane_keeps | apply nextMove_keeps | split | dsimp only))

theorem adaptationEnd_keeps (n : Nat) (s : State) {z : State} (hk : Keeps z s) :
    Keeps z (adaptationEnd n s) := by
  unfold adaptationEnd
  repeat' (with_reducible (first | assumption | apply State.setLane_keeps | apply Keeps.ite | intro _))

theorem storeEq_keeps (n k : Nat) (eq : RxEq) (s : State) {z : State} (hk : Keeps z s) :
    Keeps z (storeEq n k eq s) := by
  unfold storeEq
  repeat' (with_reducible (first
    | assumption | apply State.when_keeps | apply State.wr_keeps | apply Keeps.ite
    | intro _))

theorem storeEye_keeps (n pe height width : Nat) (s : State) {z : State} (hk : Keeps z s) :
    Keeps z (storeEye n pe height width s) := by
  unfold storeEye
  repeat' (with_reducible (first | assumption | apply State.wr_keeps))

theorem tapTimeout_keeps (n : Nat) (s : State) {z : State} (hk : Keeps z s) :
    Keeps z (tapTimeout n s) := by
  unfold tapTimeout
  repeat' (with_reducible (first | assumption | apply State.inc_keeps | apply State.setLane_keeps | apply trainRestart_keeps | apply Keeps.ite | intro _))

theorem linkUpTimeout_keeps (n : Nat) (s : State) {z : State} (hk : Keeps z s) :
    Keeps z (linkUpTimeout n s) := by
  unfold linkUpTimeout
  repeat' (with_reducible (first | assumption | apply State.forAll_keeps | apply trainRestart_keeps | apply Keeps.ite | intro _))

theorem enterUp_keeps (n : Nat) (s : State) {z : State} (hk : Keeps z s) :
    Keeps z (enterUp n s) := by
  unfold enterUp
  repeat' (with_reducible (first
    | assumption | apply State.forAll_keeps | apply State.wr_keeps | apply State.fall_keeps | apply portEnterUp_keeps
    | apply onLane_keeps | apply setLaneState_keeps | apply stampTrainTime_keeps | intro _))

theorem tryUp_keeps (n : Nat) (s : State) {z : State} (hk : Keeps z s) :
    Keeps z (tryUp n s) := by
  unfold tryUp
  repeat' (with_reducible (first | assumption | apply enterUp_keeps | apply Keeps.ite | intro _))

theorem laneClear_keeps (n : Nat) (s : State) {z : State} (hk : Keeps z s) :
    Keeps z (laneClear n s) := by
  unfold laneClear
  repeat' (with_reducible (first | assumption | apply onLane_keeps | apply tryUp_keeps | apply Keeps.ite | intro _))

theorem backToTraining_keeps (n : Nat) (burst : Bool) (s : State) {z : State} (hk : Keeps z s) :
    Keeps z (backToTraining n burst s) := by
  unfold backToTraining
  repeat' (with_reducible (first
    | assumption | apply State.forAll_keeps | apply portLeaveUp_keeps | apply onLane_keeps | apply setLaneState_keeps
    | apply trainPass_keeps | intro _))

theorem bufferError_keeps (n : Nat) (s : State) {z : State} (hk : Keeps z s) :
    Keeps z (bufferError n s) := by
  unfold bufferError
  repeat' (with_reducible (first | assumption | apply State.inc_keeps | apply packetCut_keeps | apply onLane_keeps | apply laneEvent_keeps))

theorem dualOverflow_keeps (n : Nat) (s : State) {z : State} (hk : Keeps z s) :
    Keeps z (dualOverflow n s) := by
  unfold dualOverflow
  repeat' (with_reducible (first
    | assumption | apply packetCut_keeps | apply laneEvent_keeps | apply Keeps.ite
    | intro _))

theorem elastic_keeps (n fill : Nat) (s : State) {z : State} (hk : Keeps z s) :
    Keeps z (elastic n fill s) := by
  unfold elastic
  repeat' (with_reducible (first | assumption | apply State.inc_keeps | apply onLane_keeps | apply bufferError_keeps | apply Keeps.ite | intro _))

theorem wrongBlock_keeps (n : Nat) (s : State) {z : State} (hk : Keeps z s) :
    Keeps z (wrongBlock n s) := by
  unfold wrongBlock
  repeat' (with_reducible (first | assumption | apply State.when_keeps | apply onLane_keeps | intro _))

theorem latchIdent_keeps (n : Nat) (page : List Byte) (s : State) {z : State} (hk : Keeps z s) :
    Keeps z (latchIdent n page s) := by
  unfold latchIdent
  repeat' (with_reducible (first
    | assumption | apply State.when_keeps | apply State.wr_keeps | apply State.setLane_keeps | apply newHead_keeps
    | apply onLane_keeps | apply trainFail_keeps | apply request_keeps | apply Keeps.ite | intro _))

theorem latchCaps_keeps (n : Nat) (page : List Byte) (s : State) {z : State} (hk : Keeps z s) :
    Keeps z (latchCaps n page s) := by
  unfold latchCaps
  repeat' (with_reducible (first | assumption | apply State.wr_keeps))

theorem trainPage_keeps (n : Nat) (block : List Byte) (s : State) {z : State} (hk : Keeps z s) :
    Keeps z (trainPage n block s) := by
  unfold trainPage
  repeat' (with_reducible (first
    | assumption | apply State.setLane_keeps | apply latchIdent_keeps | apply latchCaps_keeps | apply Keeps.ite | intro _
    | split))

theorem trainEcho_keeps (n : Nat) (block : List Byte) (s : State) {z : State} (hk : Keeps z s) :
    Keeps z (trainEcho n block s) := by
  unfold trainEcho
  repeat' (with_reducible (first | assumption | apply State.setLane_keeps | apply tapAnswer_keeps | apply Keeps.ite | intro _))

theorem trainBlock_keeps (n : Nat) (block : List Byte) (fill : Nat) (s : State) {z : State} (hk : Keeps z s) :
    Keeps z (trainBlock n block fill s) := by
  unfold trainBlock
  repeat' (with_reducible (first
    | assumption | apply State.wr_keeps | apply onLane_keeps | apply backToTraining_keeps | apply elastic_keeps
    | apply trainPage_keeps | apply trainEcho_keeps | apply Keeps.ite | intro _))

theorem fillerBlock_keeps (n fill : Nat) (s : State) {z : State} (hk : Keeps z s) :
    Keeps z (fillerBlock n fill s) := by
  unfold fillerBlock
  repeat' (with_reducible (first | assumption | apply elastic_keeps | apply wrongBlock_keeps))

theorem reservedBlock_keeps (n : Nat) (badHeader : Bool) (s : State) {z : State} (hk : Keeps z s) :
    Keeps z (reservedBlock n badHeader s) := by
  unfold reservedBlock
  repeat' (with_reducible (first | assumption | apply State.when_keeps | apply State.inc_keeps | apply packetBad_keeps | intro _))

theorem streamBlock_keeps (b : Nat) (w : Block) (s : State) {z : State} (hk : Keeps z s) :
    Keeps z (streamBlock b w s) := by
  unfold streamBlock
  repeat' (with_reducible (first | assumption | apply packetStart_keeps | apply packetData_keeps | apply Keeps.ite | intro _ | split))

theorem gangDrain_keeps (n k : Nat) (s : State) {z : State} (hk : Keeps z s) : Keeps z (gangDrain n k s) := by
  induction k generalizing s with
  | zero => exact hk
  | succ k ih =>
    unfold gangDrain
    repeat' (with_reducible (first | assumption | apply ih | apply onLane_keeps | apply State.setPort_keeps | apply streamBlock_keeps | split | dsimp only))

theorem stripedBlock_keeps (n : Nat) (w : Block) (s : State) {z : State} (hk : Keeps z s) :
    Keeps z (stripedBlock n w s) := by
  unfold stripedBlock
  repeat' (with_reducible (first
    | assumption | apply State.when_keeps | apply State.forAll_keeps | apply onLane_keeps | apply dualOverflow_keeps
    | apply wrongBlock_keeps | apply streamBlock_keeps | apply gangDrain_keeps | apply Keeps.ite | intro _))

theorem alignSeek_keeps (n : Nat) (m : Option Nat) (s : State) {z : State} (hk : Keeps z s) :
    Keeps z (alignSeek n m s) := by
  unfold alignSeek
  repeat' (with_reducible (first
    | assumption | apply State.forAll_keeps | apply State.wr_keeps | apply State.setPort_keeps | apply onLane_keeps
    | apply tryUp_keeps | apply gangDrain_keeps | apply Keeps.ite | intro _ | split))

theorem alignLost_keeps (n : Nat) (s : State) {z : State} (hk : Keeps z s) :
    Keeps z (alignLost n s) := by
  unfold alignLost
  repeat' (with_reducible (first
    | assumption | apply State.wr_keeps | apply State.inc_keeps | apply alignClear_keeps | apply gangTape_keeps
    | apply lockGone_keeps | apply Keeps.ite | intro _))

theorem alignHold_keeps (n : Nat) (m : Option Nat) (s : State) {z : State} (hk : Keeps z s) :
    Keeps z (alignHold n m s) := by
  unfold alignHold
  repeat' (with_reducible (first | assumption | apply State.setLane_keeps | apply alignLost_keeps | apply Keeps.ite | intro _))

theorem alignAt_keeps (n : Nat) (m : Option Nat) (s : State) {z : State} (hk : Keeps z s) :
    Keeps z (alignAt n m s) := by
  unfold alignAt
  repeat' (with_reducible (first
    | assumption | apply alignSeek_keeps | apply alignHold_keeps | apply Keeps.ite
    | intro _))

theorem alignBlock_keeps (n : Nat) (block : List Byte) (skew : Nat) (s : State) {z : State} (hk : Keeps z s) :
    Keeps z (alignBlock n block skew s) := by
  unfold alignBlock
  repeat' (with_reducible (first
    | assumption | apply State.when_keeps | apply State.inc_keeps | apply onLane_keeps | apply alignAt_keeps
    | apply Keeps.ite | intro _))

theorem alignMissing_keeps (n : Nat) (s : State) {z : State} (hk : Keeps z s) :
    Keeps z (alignMissing n s) := by
  unfold alignMissing
  repeat' (with_reducible (first | assumption | apply alignAt_keeps | apply Keeps.ite | intro _))

theorem bipTake_keeps (n : Nat) (w : Block) (s : State) {z : State} (hk : Keeps z s) :
    Keeps z (bipTake n w s) := by
  unfold bipTake
  repeat' (with_reducible (first | assumption | apply onLane_keeps | split))

theorem laneBlock_keeps (n : Nat) (w : Block) (fill skew : Nat) (s : State) {z : State} (hk : Keeps z s) :
    Keeps z (laneBlock n w fill skew s) := by
  unfold laneBlock
  repeat' (with_reducible (first
    | assumption | apply State.when_keeps | apply msgUnit_keeps | apply trainBlock_keeps | apply fillerBlock_keeps
    | apply reservedBlock_keeps | apply stripedBlock_keeps | apply alignBlock_keeps | apply bipTake_keeps | intro _ | split))

theorem rxBlock_keeps (n : Nat) (w : Block) (fill skew : Nat) (s : State) {z : State} (hk : Keeps z s) :
    Keeps z (rxBlock n w fill skew s) := by
  unfold rxBlock
  repeat' (with_reducible (first | assumption | apply onLane_keeps | apply laneBlock_keeps | apply Keeps.ite | intro _))

theorem rxBlocks_keeps (n : Nat) (ws : List (Fin 4 × Block)) (s : State) {z : State} (hk : Keeps z s) :
    Keeps z (rxBlocks n ws s) := by
  unfold rxBlocks
  repeat' (with_reducible (first | assumption | apply rxBlock_keeps | apply Keeps.foldl | intro _))

theorem lanesTape_keeps (n : Nat) (s : State) {z : State} (hk : Keeps z s) :
    Keeps z (lanesTape n s) := by
  unfold lanesTape
  repeat' (with_reducible (first
    | assumption | apply State.forAll_keeps | apply portLeaveUp_keeps | apply setChanState_keeps | apply alignClear_keeps
    | apply laneRest_keeps | apply Keeps.ite | intro _))

theorem lanesReturn_keeps (n : Nat) (s : State) {z : State} (hk : Keeps z s) :
    Keeps z (lanesReturn n s) := by
  unfold lanesReturn
  repeat' (with_reducible (first | assumption | apply attempt_keeps | apply Keeps.ite | intro _))

theorem laneEnable_keeps (n : Nat) (s : State) {z : State} (hk : Keeps z s) :
    Keeps z (laneEnable n s) := by
  unfold laneEnable
  repeat' (with_reducible (first | assumption | apply State.wr_keeps | apply attemptLane_keeps))

theorem laneOff_keeps (n : Nat) (s : State) {z : State} (hk : Keeps z s) :
    Keeps z (laneOff n s) := by
  unfold laneOff
  repeat' (with_reducible (first
    | assumption | apply State.wr_keeps | apply State.setLane_keeps | apply portLeaveUp_keeps | apply setLaneState_keeps
    | apply Keeps.ite | intro _))

end Sys2Proof.Machine
end

