-- ==== Sys2Proof/Laws/KeepsTestLane.lean ====
section
/-! SUPPORT. What the operations of Machine/TestLane.lean keep. -/

namespace Sys2Proof.Machine

theorem tstCount_keeps (l : Nat) (errs : Option Nat) (s : State) {z : State} (hk : Keeps z s) :
    Keeps z (tstCount l errs s) := by
  unfold tstCount
  split
  · exact hk
  · refine State.inc64_keeps _ _ _ _ (State.inc64_keeps _ _ _ _ (State.setTst_keeps _ _ _ ?_))
    split
    · exact hk
    · split
      · exact hk
      · exact State.draw_keeps _ _ hk

theorem tstAccount_keeps (l : Nat) (s : State) {z : State} (hk : Keeps z s) :
    Keeps z (tstAccount l s) := tstCount_keeps l none s hk

theorem tstAccountAll_keeps (s : State) {z : State} (hk : Keeps z s) :
    Keeps z (tstAccountAll s) := by
  unfold tstAccountAll
  repeat' (with_reducible (first | assumption | apply State.forAll_keeps | apply tstAccount_keeps | intro _))

theorem tstRestart_keeps (l : Nat) (s : State) {z : State} (hk : Keeps z s) :
    Keeps z (tstRestart l s) := by
  unfold tstRestart
  repeat' (with_reducible (first | assumption | apply State.wr_keeps | apply State.setTst_keeps | apply tstAccount_keeps))

theorem eyeEnd_keeps (l errs : Nat) (aborted : Bool) (s : State) {z : State} (hk : Keeps z s) :
    Keeps z (eyeEnd l errs aborted s) := by
  unfold eyeEnd
  repeat' (with_reducible (first | assumption | apply State.wr_keeps | apply State.setTst_keeps | apply Keeps.ite | intro _))

theorem eyeSweep_keeps (s : State) {z : State} (hk : Keeps z s) :
    Keeps z (eyeSweep s) := by
  unfold eyeSweep
  repeat' (with_reducible (first
    | assumption | apply State.forAll_keeps | apply eyeEnd_keeps | apply Keeps.ite
    | intro _))

theorem tstOff_keeps (l : Nat) (s : State) {z : State} (hk : Keeps z s) :
    Keeps z (tstOff l s) := by
  unfold tstOff
  repeat' (with_reducible (first | assumption | apply State.wr_keeps | apply lanesReturn_keeps | apply tstRestart_keeps | apply Keeps.ite | intro _))

theorem tstEnded_keeps (l cause : Nat) (s : State) {z : State} (hk : Keeps z s) :
    Keeps z (tstEnded l cause s) := by
  unfold tstEnded
  repeat' (with_reducible (first
    | assumption | apply State.wr_keeps | apply tstRestart_keeps | apply Keeps.ite
    | intro _))

theorem tstWrite_keeps (l v : Nat) (s : State) {z : State} (hk : Keeps z s) :
    Keeps z (tstWrite l v s) := by
  unfold tstWrite
  repeat' (with_reducible (first | assumption | apply State.wr_keeps | apply tstRestart_keeps | apply tstOff_keeps | apply Keeps.ite | intro _))

theorem tstUser_keeps (l i v : Nat) (s : State) {z : State} (hk : Keeps z s) :
    Keeps z (tstUser l i v s) := by
  unfold tstUser
  repeat' (with_reducible (first
    | assumption | apply State.wr_keeps | apply tstRestart_keeps | apply Keeps.ite
    | intro _))

theorem tstInject_keeps (l : Nat) (s : State) {z : State} (hk : Keeps z s) :
    Keeps z (tstInject l s) := by
  unfold tstInject
  repeat' (with_reducible (first | assumption | apply State.inc64_keeps | apply State.setTst_keeps | apply Keeps.ite | intro _))

theorem tstBroadcast_keeps (s : State) {z : State} (hk : Keeps z s) :
    Keeps z (tstBroadcast s) := by
  unfold tstBroadcast
  repeat' (with_reducible (first | assumption | apply State.forAll_keeps | apply tstWrite_keeps | intro _))

theorem tstLock_keeps (l : Nat) (s : State) {z : State} (hk : Keeps z s) :
    Keeps z (tstLock l s) := by
  unfold tstLock
  repeat' (with_reducible (first | assumption | apply State.wr_keeps | apply State.setTst_keeps | apply Keeps.ite | intro _))

theorem tstLockLoss_keeps (l errs : Nat) (s : State) {z : State} (hk : Keeps z s) :
    Keeps z (tstLockLoss l errs s) := by
  unfold tstLockLoss
  repeat' (with_reducible (first
    | assumption | apply State.inc_keeps | apply State.wr_keeps | apply State.setTst_keeps | apply tstCount_keeps | apply Keeps.ite
    | intro _ | dsimp only))

theorem eyeGo_keeps (l : Nat) (s : State) {z : State} (hk : Keeps z s) :
    Keeps z (eyeGo l s) := by
  unfold eyeGo
  repeat' (with_reducible (first | assumption | apply State.wr_keeps | apply State.setTst_keeps | apply Keeps.ite | intro _))

end Sys2Proof.Machine
end

