-- ==== Sys2Proof/Laws/KeepsStencil.lean ====
section
/-! SUPPORT. What the operations of Machine/Stencil.lean keep. -/

namespace Sys2Proof.Machine

theorem bgAccumulate_keeps (g : Nat) (d : RowData) (back : List Bool) (s : State) {z : State} (hk : Keeps z s) :
    Keeps z (bgAccumulate g d back s) := by
  unfold bgAccumulate
  repeat' (with_reducible (first | assumption | apply State.setSkimG_keeps | apply Keeps.ite | intro _ | split))

theorem bumpSeq_keeps (g : Nat) (s : State) {z : State} (hk : Keeps z s) :
    Keeps z (bumpSeq g s) := by
  unfold bumpSeq
  repeat' (with_reducible (first | assumption | apply State.wr_keeps | apply State.setStn_keeps))

theorem recordSend_keeps (r : ObjRec) (s : State) {z : State} (hk : Keeps z s) :
    Keeps z (recordSend r s) := by
  unfold recordSend
  repeat' (with_reducible (first | assumption | apply State.setPlb_keeps))

theorem endedEmit_keeps (g close start excess : Nat) (e : Ended) (s : State) {z : State} (hk : Keeps z s) :
    Keeps z (endedEmit g close start excess e s).2 := by
  unfold endedEmit
  repeat' (with_reducible (first
    | assumption | apply State.inc_keeps | apply State.setStn_keeps | apply bumpSeq_keeps | apply recordSend_keeps
    | apply Keeps.ite | intro _))

theorem endedEmitAll_keeps (g close start excess : Nat) (es : List Ended) (s : State) {z : State} (hk : Keeps z s) :
    Keeps z (endedEmitAll g close start excess es s).2 := by
  induction es generalizing s with
  | nil => exact hk
  | cons e t ih =>
    cases t with
    | nil => exact endedEmit_keeps g close start excess e s hk
    | cons e' t' => exact ih _ (endedEmit_keeps g close start 0 e s hk)

theorem rowRecords_keeps (g close start : Nat) (es : List Ended) (s : State) {z : State} (hk : Keeps z s) :
    Keeps z (rowRecords g close start es s).2.2 := by
  unfold rowRecords
  repeat' (with_reducible (first | assumption | apply State.inc_keeps | apply endedEmitAll_keeps))

theorem labelRow_keeps (g : Nat) (d : RowData) (mask : List Bool) (start : Nat) (s : State) {z : State} (hk : Keeps z s) :
    Keeps z (labelRow g d mask start s) := by
  unfold labelRow
  repeat' (with_reducible (first
    | assumption | apply State.inc_keeps | apply State.drawList_keeps | apply State.raiseIf_keeps | apply State.setStn_keeps
    | apply rowRecords_keeps))

theorem tileDrop_keeps (g : Nat) (s : State) {z : State} (hk : Keeps z s) :
    Keeps z (tileDrop g s) := by
  unfold tileDrop
  repeat' (with_reducible (first | assumption | apply State.inc_keeps | apply State.raise_keeps))

theorem captureObjs_keeps (g : Nat) (s : State) {z : State} (hk : Keeps z s) :
    Keeps z (captureObjs g s) := by
  unfold captureObjs
  repeat' (with_reducible (first | assumption | apply State.setStn_keeps | apply tileDrop_keeps | apply Keeps.foldl | intro _ | split | dsimp only))

theorem captureJobs_keeps (g n : Nat) (s : State) {z : State} (hk : Keeps z s) :
    Keeps z (captureJobs g n s) := by
  unfold captureJobs
  repeat' (with_reducible (first | assumption | apply State.setStn_keeps | apply tileDrop_keeps | apply Keeps.foldl | intro _ | split))

theorem finishTiles_keeps (g n : Nat) (flush : Bool) (s : State) {z : State} (hk : Keeps z s) :
    Keeps z (finishTiles g n flush s) := by
  unfold finishTiles
  repeat' (with_reducible (first | assumption | apply State.inc_keeps | apply State.setStn_keeps))

theorem trimRows_keeps (g : Nat) (s : State) {z : State} (hk : Keeps z s) :
    Keeps z (trimRows g s) := by
  unfold trimRows
  repeat' (with_reducible (first | assumption | apply State.setStn_keeps))

theorem maskRow_keeps (g start : Nat) (s : State) {z : State} (hk : Keeps z s) :
    Keeps z (maskRow g start s) := by
  unfold maskRow
  repeat' (with_reducible (first
    | assumption | apply State.inc_keeps | apply State.setStn_keeps | apply skimMask_keeps | apply bgAccumulate_keeps
    | apply labelRow_keeps | apply captureObjs_keeps | apply captureJobs_keeps | split | dsimp only))

theorem showLabels_keeps (g : Nat) (s : State) {z : State} (hk : Keeps z s) :
    Keeps z (showLabels g s) := by
  unfold showLabels
  repeat' (with_reducible (first | assumption | apply State.wr_keeps))

theorem stencilCut_keeps (g : Nat) (s : State) {z : State} (hk : Keeps z s) :
    Keeps z (stencilCut g s) := by
  unfold stencilCut
  repeat' (with_reducible (first
    | assumption | apply State.wr_keeps | apply iter_keeps | apply State.raiseIf_keeps | apply State.setStn_keeps
    | apply rowRecords_keeps | apply finishTiles_keeps | apply maskRow_keeps | apply showLabels_keeps | intro _))

theorem stencilSwitch_keeps (g n : Nat) (s : State) {z : State} (hk : Keeps z s) :
    Keeps z (stencilSwitch g n s) := by
  unfold stencilSwitch
  repeat' (with_reducible (first | assumption | apply State.switchStage_keeps))

theorem stencilRow_keeps (g : Nat) (s : State) {z : State} (hk : Keeps z s) :
    Keeps z (stencilRow g s) := by
  unfold stencilRow
  repeat' (with_reducible (first
    | assumption | apply State.wr_keeps | apply State.inc_keeps | apply State.setSeam_keeps | apply State.setStn_keeps
    | apply finishTiles_keeps | apply trimRows_keeps | apply maskRow_keeps | apply showLabels_keeps | apply stencilCut_keeps
    | apply stencilSwitch_keeps | apply Keeps.ite | intro _ | split | dsimp only))

theorem stencilClear_keeps (g : Nat) (s : State) {z : State} (hk : Keeps z s) :
    Keeps z (stencilClear g s) := by
  unfold stencilClear
  repeat' (with_reducible (first | assumption | apply State.wr_keeps | apply State.setStn_keeps | apply showLabels_keeps))

end Sys2Proof.Machine
end

