-- ==== Sys2Proof/Laws/KeepsPlumb.lean ====
section
/-! SUPPORT. What the operations of Machine/Plumb.lean keep. -/

namespace Sys2Proof.Machine

theorem showDtNom_keeps (t : Nat) (s : State) {z : State} (hk : Keeps z s) :
    Keeps z (showDtNom t s) := by
  unfold showDtNom
  repeat' (with_reducible (first | assumption | apply State.wr_keeps))

theorem plumbSwitchNow_keeps (t : Nat) (c : PendSet) (s : State) {z : State} (hk : Keeps z s) :
    Keeps z (plumbSwitchNow t c s) := by
  unfold plumbSwitchNow
  repeat' (with_reducible (first
    | assumption | apply State.wr_keeps | apply State.setPlb_keeps | apply State.setCommit_keeps | apply showDtNom_keeps
    | apply Keeps.foldl | intro _))

theorem plumbSwitch_keeps (t n : Nat) (s : State) {z : State} (hk : Keeps z s) :
    Keeps z (plumbSwitch t n s) := by
  unfold plumbSwitch
  repeat' (with_reducible (first | assumption | apply plumbSwitchNow_keeps | apply Keeps.ite | intro _ | split))

theorem State.near_keeps (s : State) (r : Nat) (v : Int) {z : State} (hk : Keeps z s) :
    Keeps z (State.near s r v).2 := by
  unfold State.near
  repeat' (with_reducible (first | assumption | apply State.draw_keeps))

theorem assocInsert_keeps (t : Nat) (e : Assoc) (s : State) {z : State} (hk : Keeps z s) :
    Keeps z (assocInsert t e s) := by
  unfold assocInsert
  repeat' (with_reducible (first
    | assumption | apply State.inc_keeps | apply State.raise_keeps | apply State.setPlb_keeps | apply Keeps.ite | intro _
    | split))

theorem plumbPending_keeps (t : Nat) (r : ObjRec) (tc : Nat) (x : Int) (s : State) {z : State} (hk : Keeps z s) :
    Keeps z (plumbPending t r tc x s).2 := by
  unfold plumbPending
  repeat' (with_reducible (first | assumption | apply State.inc_keeps | apply State.near_keeps | apply assocInsert_keeps))

theorem plumbUnmatched_keeps (t : Nat) (r : ObjRec) (tc : Nat) (x : Int) (s : State) {z : State} (hk : Keeps z s) :
    Keeps z (plumbUnmatched t r tc x s).2 := by
  unfold plumbUnmatched
  repeat' (with_reducible (first | assumption | apply State.inc_keeps | apply State.raise_keeps | apply State.near_keeps))

theorem plumbMatched_keeps (t : Nat) (r : ObjRec) (tc : Nat) (x : Int) (c : Nat) (e : Assoc) (ambig : Bool) (s : State) {z : State} (hk : Keeps z s) :
    Keeps z (plumbMatched t r tc x c e ambig s).2 := by
  unfold plumbMatched
  repeat' (with_reducible (first
    | assumption | apply State.inc_keeps | apply State.setPlb_keeps
    | apply State.near_keeps))

theorem plumbLower_keeps (t : Nat) (r : ObjRec) (tc : Nat) (x : Int) (s : State) {z : State} (hk : Keeps z s) :
    Keeps z (plumbLower t r tc x s).2 := by
  unfold plumbLower
  repeat' (with_reducible (first | assumption | apply State.inc_keeps | apply plumbUnmatched_keeps | apply plumbMatched_keeps | split | dsimp only))

theorem setLinks_keeps (t : Nat) (lower : Bool) (l : List Link) (s : State) {z : State} (hk : Keeps z s) :
    Keeps z (setLinks t lower l s) := by
  unfold setLinks
  repeat' (with_reducible (first | assumption | apply State.setPlb_keeps))

theorem linkInsert_keeps (o t : Nat) (lower : Bool) (e : Link) (s : State) {z : State} (hk : Keeps z s) :
    Keeps z (linkInsert o t lower e s) := by
  unfold linkInsert
  repeat' (with_reducible (first | assumption | apply State.inc_keeps | apply State.raise_keeps | apply setLinks_keeps | apply Keeps.ite | intro _ | split))

theorem plumbLink_keeps (t : Nat) (lower : Bool) (n : Nat) (rec : List Byte) (tc : Nat) (x : Int) (s : State) {z : State} (hk : Keeps z s) :
    Keeps z (plumbLink t lower n rec tc x s).2 := by
  unfold plumbLink
  repeat' (with_reducible (first | assumption | apply State.inc_keeps | apply setLinks_keeps | apply linkInsert_keeps | split | dsimp only))

theorem showEntries_keeps (t : Nat) (s : State) {z : State} (hk : Keeps z s) :
    Keeps z (showEntries t s) := by
  unfold showEntries
  repeat' (with_reducible (first | assumption | apply State.wr_keeps))

theorem plumbTrack_keeps (t : Nat) (r : ObjRec) (s : State) {z : State} (hk : Keeps z s) :
    Keeps z (plumbTrack t r s).2 := by
  unfold plumbTrack
  repeat' (with_reducible (first
    | assumption | apply plumbSwitch_keeps | apply plumbPending_keeps | apply plumbLower_keeps | apply plumbLink_keeps
    | apply showEntries_keeps | split | dsimp only))

theorem plumbNext_keeps (q : Nat) (s : State) {z : State} (hk : Keeps z s) :
    ∀ v t, plumbNext q s = some (v, t) → Keeps z t := by
  intro v t ht
  unfold plumbNext at ht
  split at ht
  · cases ht
  · split at ht <;> cases ht
    · exact plumbTrack_keeps _ _ _ (State.setPlb_keeps _ _ _ hk)
    · exact State.setPlb_keeps _ _ _ hk

theorem plumbExpire_keeps (g n time : Nat) (s : State) {z : State} (hk : Keeps z s) :
    Keeps z (plumbExpire g n time s) := by
  unfold plumbExpire
  repeat' (with_reducible (first
    | assumption | apply State.forAll_keeps | apply iter_keeps | apply State.inc_keeps | apply State.raise_keeps
    | apply State.setPlb_keeps | apply setLinks_keeps | apply showEntries_keeps | apply Keeps.ite | intro _ | split | dsimp only))

theorem plumbClear_keeps (t : Nat) (s : State) {z : State} (hk : Keeps z s) :
    Keeps z (plumbClear t s) := by
  unfold plumbClear
  repeat' (with_reducible (first | assumption | apply State.setPlb_keeps | apply showEntries_keeps))

theorem plumbReload_keeps (g : Nat) (s : State) {z : State} (hk : Keeps z s) :
    Keeps z (plumbReload g s) := by
  unfold plumbReload
  repeat' (with_reducible (first
    | assumption | apply State.forAll_keeps | apply State.setPlb_keeps | apply setLinks_keeps | apply showEntries_keeps
    | apply Keeps.ite | intro _ | split | dsimp only))

end Sys2Proof.Machine
end

