-- ==== Sys2Proof/Laws/KeepsCommit.lean ====
section
/-! SUPPORT. What the operations of Machine/Commit.lean keep. -/

namespace Sys2Proof.Machine

theorem snapshotTake_keeps (s : State) {z : State} (hk : Keeps z s) : Keeps z (snapshotTake s) := by
  unfold snapshotTake
  split
  · exact State.wr_keeps _ _ _ hk
  · exact (State.wr_keeps _ _ _ (State.wr_keeps _ _ _ (State.wr_keeps _ _ _ hk))).upd rfl (Nat.le_refl _)
      (fun c => ⟨c.regs, c.cnt, c.snap, c.cnt, c.mram, c.dram, c.scratch, c.hostload⟩) rfl rfl rfl

theorem snapshotDone_keeps (s : State) {z : State} (hk : Keeps z s) : Keeps z (snapshotDone s) := by
  have h1 : Keeps z { s with snap := s.snapNext } := hk.upd rfl (Nat.le_refl _)
    (fun c => ⟨c.regs, c.cnt, c.snapNext, c.snapNext, c.mram, c.dram, c.scratch, c.hostload⟩) rfl rfl rfl
  unfold snapshotDone
  repeat' (with_reducible (first | assumption | apply State.wr_keeps | apply Keeps.ite | intro _))

theorem commitClose_keeps (g : Nat) (s : State) {z : State} (hk : Keeps z s) :
    Keeps z (commitClose g s) := by
  unfold commitClose
  repeat' (with_reducible (first | assumption | apply State.setCommit_keeps | split))

theorem commitFinish_keeps (g : Nat) (s : State) {z : State} (hk : Keeps z s) :
    Keeps z (commitFinish g s) := by
  unfold commitFinish
  repeat' (with_reducible (first
    | assumption | apply State.when_keeps | apply State.forAll_keeps | apply commitPut_keeps | apply seamCommitted_keeps
    | apply plumbSwitchNow_keeps | apply commitClose_keeps | intro _ | split))

theorem commitDiscard_keeps (g : Nat) (s : State) {z : State} (hk : Keeps z s) :
    Keeps z (commitDiscard g s) := by
  unfold commitDiscard
  repeat' (with_reducible (first
    | assumption | apply State.when_keeps | apply State.wr_keeps | apply State.setSkimG_keeps | apply State.setCommit_keeps
    | intro _ | split))

theorem commitDoom_keeps (g : Nat) (s : State) {z : State} (hk : Keeps z s) :
    Keeps z (commitDoom g s) := by
  unfold commitDoom
  repeat' (with_reducible (first | assumption | apply State.setSkimG_keeps | apply State.setCommit_keeps | apply Keeps.ite | intro _ | split))

theorem commitLapse_keeps (g : Nat) (s : State) {z : State} (hk : Keeps z s) :
    Keeps z (commitLapse g s) := by
  unfold commitLapse
  repeat' (with_reducible (first | assumption | apply commitDiscard_keeps | apply Keeps.ite | intro _ | split))

theorem commitClear_keeps (g : Nat) (s : State) {z : State} (hk : Keeps z s) :
    Keeps z (commitClear g s) := by
  unfold commitClear
  repeat' (with_reducible (first | assumption | apply State.setCommit_keeps | apply Keeps.ite | intro _ | split))

theorem groupDrained_keeps (g : Nat) (s0 : State) {z : State} (hk : Keeps z s0) :
    Keeps z (groupDrained g s0) := by
  unfold groupDrained
  repeat' (with_reducible (first
    | assumption | apply State.wr_keeps | apply State.setCommit_keeps | apply skimRowStart_keeps | apply stencilCut_keeps
    | apply commitFinish_keeps | apply commitLapse_keeps | apply commitClear_keeps | apply Keeps.ite | intro _ | split
    | dsimp only))

theorem generatorOff_keeps (g : Nat) (s : State) {z : State} (hk : Keeps z s) :
    Keeps z (generatorOff g s) := by
  unfold generatorOff
  repeat' (with_reducible (first | assumption | apply State.wr_keeps | apply commitDoom_keeps | apply groupDrained_keeps))

theorem commitSkim_keeps (g row : Nat) (vals : List (Fld × Nat)) (s : State) {z : State} (hk : Keeps z s) :
    Keeps z (commitSkim g row vals s) := by
  unfold commitSkim
  repeat' (with_reducible (first | assumption | apply State.setSkimG_keeps | split | dsimp only))

theorem commitFreeze_keeps (g row : Nat) (s : State) {z : State} (hk : Keeps z s) :
    Keeps z (commitFreeze g row s) := by
  unfold commitFreeze
  repeat' (with_reducible (first | assumption | apply State.forAll_keeps | apply State.setSkim_keeps | apply Keeps.ite | intro _ | split))

theorem commitGroup_keeps (g : Nat) (s0 : State) {z : State} (hk : Keeps z s0) :
    Keeps z (commitGroup g s0) := by
  unfold commitGroup
  repeat' (with_reducible (first
    | assumption | apply State.forAll_keeps | apply State.setCommit_keeps | apply seamExclude_keeps | apply swapCommit_keeps
    | apply skimRowStart_keeps | apply commitFinish_keeps | apply groupDrained_keeps | apply commitSkim_keeps
    | apply commitFreeze_keeps | apply Keeps.ite | intro _))

theorem commitDevice_keeps (s : State) {z : State} (hk : Keeps z s) :
    Keeps z (commitDevice s) := by
  unfold commitDevice
  repeat' (with_reducible (first | assumption | apply State.wr_keeps | apply Keeps.foldl | intro _))

theorem commitRequest_keeps (v : Nat) (p1 : Bool) (s : State) {z : State} (hk : Keeps z s) :
    Keeps z (commitRequest v p1 s) := by
  unfold commitRequest
  repeat' (with_reducible (first
    | assumption | apply State.when_keeps | apply State.forAll_keeps | apply State.wr_keeps | apply snapshotTake_keeps
    | apply commitGroup_keeps | apply commitDevice_keeps | apply Keeps.ite | intro _ | split | dsimp only))

end Sys2Proof.Machine
end

