-- ==== Sys2Proof/Laws/KeepsCollector.lean ====
section
/-! SUPPORT. What the operations of Machine/Collector.lean keep. -/

namespace Sys2Proof.Machine

theorem faultNote_keeps (kind lvl ev time : Nat) (s : State) {z : State} (hk : Keeps z s) :
    Keeps z (faultNote kind lvl ev time s) := by
  unfold faultNote
  repeat' (with_reducible (first | assumption | apply State.draw_keeps | apply hawkNote_keeps | apply upEvent_keeps | apply Keeps.ite | intro _ | split))

theorem memTape_keeps (m : Nat) (s : State) {z : State} (hk : Keeps z s) :
    Keeps z (memTape m s) := by
  unfold memTape
  repeat' (with_reducible (first
    | assumption | apply State.forAll_keeps | apply State.wr_keeps | apply hawkMemLoss_keeps | apply hstHalt_keeps
    | apply Keeps.ite | intro _))

theorem unitTapeOff_keeps (c : Nat) (s : State) {z : State} (hk : Keeps z s) :
    Keeps z (unitTapeOff c s) := by
  unfold unitTapeOff
  repeat' (with_reducible (first
    | assumption | apply State.setSeam_keeps | apply State.setStn_keeps | apply State.setPlb_keeps | apply hawkTape_keeps
    | apply stpAbortJobs_keeps | apply upLaneTape_keeps | apply rpTape_keeps | apply seamClear_keeps | apply dmaTape_keeps
    | apply lanesTape_keeps | apply stencilClear_keeps | apply plumbClear_keeps | apply groupDrained_keeps | apply memTape_keeps
    | split | dsimp only | apply Keeps.frame'))

theorem unitReturn_keeps (c : Nat) (s : State) {z : State} (hk : Keeps z s) :
    Keeps z (unitReturn c s) := by
  unfold unitReturn
  repeat' (with_reducible (first
    | assumption | apply State.setSeam_keeps | apply State.setStn_keeps | apply State.setPlb_keeps | apply hawkReturn_keeps
    | apply upLaneReturn_keeps | apply rpReturn_keeps | apply dmaReturn_keeps | apply cvuReturn_keeps | apply lanesReturn_keeps
    | apply Keeps.ite | intro _ | split | dsimp only | apply Keeps.frame'))

theorem unitReset_keeps (c : Nat) (s : State) {z : State} (hk : Keeps z s) :
    Keeps z (unitReset c s) := by
  unfold unitReset
  repeat' (with_reducible (first | assumption | apply State.setUnit_keeps | dsimp only | apply Keeps.frame'))

theorem unitResetDone_keeps (c : Nat) (s : State) {z : State} (hk : Keeps z s) :
    Keeps z (unitResetDone c s) := by
  unfold unitResetDone
  repeat' (with_reducible (first | assumption | apply State.setUnit_keeps | dsimp only | apply Keeps.frame'))

theorem tapedNow_keeps (cs : List Nat) (ev lvl : Nat) (held byRule : Bool) (s : State) {z : State} (hk : Keeps z s) :
    Keeps z (tapedNow cs ev lvl held byRule s) := by
  unfold tapedNow
  repeat' (with_reducible (first
    | assumption | apply State.when_keeps | apply State.forAll_keeps | apply State.inc_keeps | apply State.setUnit_keeps
    | apply faultNote_keeps | apply unitTapeOff_keeps | apply unitReset_keeps | intro _))

theorem tapeOwn_keeps (c ev lvl : Nat) (byRule : Bool) (s : State) {z : State} (hk : Keeps z s) :
    Keeps z (tapeOwn c ev lvl byRule s) := by
  unfold tapeOwn
  repeat' (with_reducible (first | assumption | apply State.setUnit_keeps | apply tapedNow_keeps | apply Keeps.ite | intro _))

theorem tapeScope_keeps (anchor : Nat) (members : List Nat) (ev lvl : Nat) (s : State) {z : State} (hk : Keeps z s) :
    Keeps z (tapeScope anchor members ev lvl s) := by
  unfold tapeScope
  repeat' (with_reducible (first | assumption | apply State.setUnit_keeps | apply tapedNow_keeps | apply Keeps.ite | intro _))

theorem returnUnits_keeps (cs : List Nat) (entries : Bool) (s : State) {z : State} (hk : Keeps z s) :
    Keeps z (returnUnits cs entries s) := by
  unfold returnUnits
  repeat' (with_reducible (first
    | assumption | apply State.when_keeps | apply State.forAll_keeps | apply State.inc_keeps | apply faultNote_keeps
    | apply unitReturn_keeps | apply unitReset_keeps | intro _))

theorem quietExpiry_keeps (c : Nat) (scope : Bool) (s : State) {z : State} (hk : Keeps z s) :
    Keeps z (quietExpiry c scope s) := by
  unfold quietExpiry
  repeat' (with_reducible (first
    | assumption | apply State.when_keeps | apply State.setUnit_keeps | apply returnUnits_keeps | apply Keeps.ite | intro _
    | split | dsimp only))

theorem unitTapeWrite_keeps (c : Nat) (s : State) {z : State} (hk : Keeps z s) :
    Keeps z (unitTapeWrite c s) := by
  unfold unitTapeWrite
  repeat' (with_reducible (first | assumption | apply tapeOwn_keeps | apply tapeScope_keeps | apply Keeps.ite | intro _))

theorem unitRelease_keeps (c : Nat) (s : State) {z : State} (hk : Keeps z s) :
    Keeps z (unitRelease c s) := by
  unfold unitRelease
  repeat' (with_reducible (first | assumption | apply State.setUnit_keeps | apply returnUnits_keeps | apply Keeps.ite | intro _))

theorem enterFault_keeps (e : Nat) (s : State) {z : State} (hk : Keeps z s) :
    Keeps z (enterFault e s) := by
  unfold enterFault
  repeat' (with_reducible (first
    | assumption | apply State.forAll_keeps | apply State.wr_keeps | apply discardStopped_keeps | apply rpEndAll_keeps
    | apply jnlInfo_keeps | apply generatorOff_keeps | apply Keeps.ite | intro _))

theorem aliveToggle_keeps (s : State) {z : State} (hk : Keeps z s) :
    Keeps z (aliveToggle s) := by
  unfold aliveToggle
  repeat' (with_reducible (first | assumption | apply Keeps.ite | intro _ | dsimp only | apply Keeps.frame'))

theorem heartbeatLoss_keeps (s : State) {z : State} (hk : Keeps z s) :
    Keeps z (heartbeatLoss s) := by
  unfold heartbeatLoss
  repeat' (with_reducible (first | assumption | apply jnlInfo_keeps | apply Keeps.ite | intro _ | dsimp only | apply Keeps.frame'))

theorem faultAct_keeps (e acted : Nat) (s : State) {z : State} (hk : Keeps z s) :
    Keeps z (faultAct e acted s) := by
  unfold faultAct
  repeat' (with_reducible (first | assumption | apply tapeOwn_keeps | apply tapeScope_keeps | apply enterFault_keeps | apply Keeps.ite | intro _ | split))

theorem occur_keeps (e time : Nat) (mid : State → State) (s : State) {z : State} (hmid : ∀ t, Keeps z t → Keeps z (mid t))
    (hk : Keeps z s) : Keeps z (occur e time mid s) := by
  unfold occur
  repeat' (with_reducible (first
    | assumption | apply hmid | apply faultAct_keeps | apply faultNote_keeps | apply State.when_keeps | apply State.inc_keeps
    | apply State.setSnag_keeps | intro _))

theorem collect_keeps (e time : Nat) (rules : List (Nat × Nat)) (s : State) {z : State} (hk : Keeps z s) :
    Keeps z (collect e time rules s) := by
  unfold collect
  repeat' (with_reducible (first
    | assumption | apply State.inc_keeps | apply State.setSnag_keeps | apply tapeOwn_keeps | apply occur_keeps
    | apply Keeps.foldl | apply Keeps.ite | intro _))

theorem collectAll_keeps (s : State) {z : State} (hk : Keeps z s) :
    Keeps z (collectAll s) := by
  unfold collectAll
  repeat' (with_reducible (first
    | assumption | apply collect_keeps | apply Keeps.foldl | apply Keeps.ite | intro _ | split | dsimp only
    | apply Keeps.frame'))

theorem collectRounds_keeps (n : Nat) (s : State) {z : State} (hk : Keeps z s) : Keeps z (collectRounds n s) := by
  induction n generalizing s with
  | zero => exact hk
  | succ n ih =>
    unfold collectRounds
    repeat' (with_reducible (first | assumption | apply ih | apply collectAll_keeps | apply Keeps.ite | intro _))

theorem settleEvents_keeps (s : State) {z : State} (hk : Keeps z s) :
    Keeps z (settleEvents s) := by
  unfold settleEvents
  repeat' (with_reducible (first | assumption | apply eyeSweep_keeps | apply collectRounds_keeps))

theorem windowEnd_keeps (u d : Nat) (s : State) {z : State} (hk : Keeps z s) : Keeps z (windowEnd u d s) := by
  unfold windowEnd
  split
  · exact hk
  · refine Keeps.foldl (fun t e ht => ?_) _ hk.frame'
    split
    · exact ht
    · exact occur_keeps _ _ _ _ (fun _ h => h) ht

theorem ack_keeps (e : Nat) (s : State) {z : State} (hk : Keeps z s) :
    Keeps z (ack e s) := by
  unfold ack
  repeat' (with_reducible (first | assumption | apply State.setSnag_keeps))

theorem ackAll_keeps (s : State) {z : State} (hk : Keeps z s) :
    Keeps z (ackAll s) := by
  unfold ackAll
  repeat' (with_reducible (first | assumption | apply State.forAll_keeps | apply ack_keeps | intro _))

theorem sevWrite_keeps (i v : Nat) (s : State) {z : State} (hk : Keeps z s) :
    Keeps z (sevWrite i v s) := by
  unfold sevWrite
  repeat' (with_reducible (first | assumption | apply State.forAll_keeps | apply State.wr_keeps | apply Keeps.ite | intro _))

end Sys2Proof.Machine
end

