-- ==== Sys2Proof/Laws/KeepsThermal.lean ====
section
/-! SUPPORT. What the operations of Machine/Thermal.lean keep. -/

namespace Sys2Proof.Machine

theorem judge_keeps (e : Nat) (present : Bool) (s : State) {z : State} (hk : Keeps z s) :
    Keeps z (judge e present s) := by
  unfold judge
  repeat' (with_reducible (first
    | assumption | apply State.raise_keeps | apply State.fall_keeps | apply Keeps.ite | intro _ | dsimp only
    | apply Keeps.frame'))

theorem showTemp_keeps (i : Nat) (r : Option Nat) (s : State) {z : State} (hk : Keeps z s) :
    Keeps z (showTemp i r s) := by
  unfold showTemp
  repeat' (with_reducible (first | assumption | apply State.wr_keeps | split))

theorem showThermal_keeps (s : State) {z : State} (hk : Keeps z s) :
    Keeps z (showThermal s) := by
  unfold showThermal
  repeat' (with_reducible (first | assumption | apply State.wr_keeps | apply State.draw_keeps | split))

theorem shedStep_keeps (s : State) {z : State} (hk : Keeps z s) :
    Keeps z (shedStep s) := by
  unfold shedStep
  repeat' (with_reducible (first
    | assumption | apply State.setUnit_keeps | apply tstEnded_keeps | apply tapedNow_keeps | apply collect_keeps
    | apply Keeps.foldl | apply Keeps.ite | intro _ | split | dsimp only | apply Keeps.frame'))

theorem shedReturn_keeps (s : State) {z : State} (hk : Keeps z s) :
    Keeps z (shedReturn s) := by
  unfold shedReturn
  repeat' (with_reducible (first
    | assumption | apply State.setUnit_keeps | apply State.fall_keeps | apply returnUnits_keeps | apply Keeps.ite | intro _
    | split | dsimp only | apply Keeps.frame'))

theorem shedTimer_keeps (s : State) {z : State} (hk : Keeps z s) :
    Keeps z (shedTimer s) := by
  unfold shedTimer
  repeat' (with_reducible (first | assumption | apply showThermal_keeps | apply shedStep_keeps | apply shedReturn_keeps | apply Keeps.ite | intro _))

theorem shedHold_keeps (s : State) {z : State} (hk : Keeps z s) :
    Keeps z (shedHold s) := by
  unfold shedHold
  repeat' (with_reducible (first
    | assumption | apply showThermal_keeps | apply shedReturn_keeps | apply Keeps.ite | intro _ | dsimp only
    | apply Keeps.frame'))

theorem thermalSample_keeps (readings : List (Option Nat)) (s : State) {z : State} (hk : Keeps z s) :
    Keeps z (thermalSample readings s) := by
  unfold thermalSample
  repeat' (with_reducible (first
    | assumption | apply State.forAll_keeps | apply judge_keeps | apply showTemp_keeps | apply showThermal_keeps
    | apply shedStep_keeps | apply Keeps.ite | intro _ | split | dsimp only | apply Keeps.frame'))

theorem thermtrip_keeps (s : State) {z : State} (hk : Keeps z s) :
    Keeps z (thermtrip s) := by
  unfold thermtrip
  repeat' (with_reducible (first | assumption | apply jnlInfo_keeps | apply Keeps.ite | intro _ | dsimp only | apply Keeps.frame'))

theorem supplyMonitor_keeps (out : Bool) (s : State) {z : State} (hk : Keeps z s) :
    Keeps z (supplyMonitor out s) := by
  unfold supplyMonitor
  repeat' (with_reducible (first | assumption | apply judge_keeps | apply Keeps.ite | intro _))

theorem clockCheck_keeps (core mem up mgmt : Bool) (s : State) {z : State} (hk : Keeps z s) :
    Keeps z (clockCheck core mem up mgmt s) := by
  unfold clockCheck
  repeat' (with_reducible (first | assumption | apply judge_keeps))

theorem refclkUpLoss_keeps (s : State) {z : State} (hk : Keeps z s) :
    Keeps z (refclkUpLoss s) := by
  unfold refclkUpLoss
  repeat' (with_reducible (first | assumption | apply State.forAll_keeps | apply upDown_keeps | apply judge_keeps | intro _))

theorem refclkVslLoss_keeps (s : State) {z : State} (hk : Keeps z s) :
    Keeps z (refclkVslLoss s) := by
  unfold refclkVslLoss
  repeat' (with_reducible (first | assumption | dsimp only | apply Keeps.frame'))

end Sys2Proof.Machine
end

