-- ==== Sys2Proof/Laws/KeepsTrigger.lean ====
section
/-! SUPPORT. What the operations of Machine/Trigger.lean keep. -/

namespace Sys2Proof.Machine

theorem backwardStep_keeps (s : State) {z : State} (hk : Keeps z s) :
    Keeps z (backwardStep s) := by
  unfold backwardStep
  repeat' (with_reducible (first | assumption | apply discardDeadlines_keeps | apply ringReset_keeps | apply Keeps.ite | intro _))

theorem chalkStep_keeps (s : State) {z : State} (hk : Keeps z s) :
    Keeps z (chalkStep s) := by
  unfold chalkStep
  repeat' (with_reducible (first
    | assumption | apply State.when_keeps | apply State.wr_keeps | apply chalkJump_keeps | apply backwardStep_keeps
    | apply Keeps.ite | intro _))

theorem tgEnable_keeps (g : Nat) (s : State) {z : State} (hk : Keeps z s) :
    Keeps z (tgEnable g s) := by
  unfold tgEnable
  repeat' (with_reducible (first
    | assumption | apply State.when_keeps | apply State.wr_keeps | apply State.setTg_keeps | apply State.setSeam_keeps
    | apply State.setCommit_keeps | apply skimStart_keeps | apply skimFirstRow_keeps | apply Keeps.ite | intro _ | split))

theorem tgDisable_keeps (g : Nat) (s : State) {z : State} (hk : Keeps z s) :
    Keeps z (tgDisable g s) := by
  unfold tgDisable
  repeat' (with_reducible (first | assumption | apply generatorOff_keeps | apply Keeps.ite | intro _))

theorem tgControl_keeps (g v : Nat) (s : State) {z : State} (hk : Keeps z s) :
    Keeps z (tgControl g v s) := by
  unfold tgControl
  repeat' (with_reducible (first | assumption | apply tgEnable_keeps | apply tgDisable_keeps | apply Keeps.ite | intro _))

theorem tgConfig_keeps (g w v : Nat) (s : State) {z : State} (hk : Keeps z s) :
    Keeps z (tgConfig g w v s) := by
  unfold tgConfig
  repeat' (with_reducible (first | assumption | apply State.wr_keeps | split))

theorem triggerSend_keeps (g : Nat) (s : State) {z : State} (hk : Keeps z s) :
    Keeps z (triggerSend g s) := by
  unfold triggerSend
  repeat' (with_reducible (first
    | assumption | apply State.forAll_keeps | apply State.wr_keeps | apply State.setTg_keeps | apply State.atTime_keeps
    | apply seamOpen_keeps | apply skimRowStart_keeps | apply trigSend_keeps | apply Keeps.ite | intro _))

theorem setStart_keeps (g t : Nat) (s : State) {z : State} (hk : Keeps z s) :
    Keeps z (setStart g t s) := by
  unfold setStart
  repeat' (with_reducible (first | assumption | apply State.wr_keeps))

end Sys2Proof.Machine
end

