-- ==== Sys2Proof/Laws/KeepsLath.lean ====
section
/-! SUPPORT. What the operations of Machine/Lath.lean keep. -/

namespace Sys2Proof.Machine

theorem lathFail_keeps (status sec : Nat) (s : State) {z : State} (hk : Keeps z s) :
    Keeps z (lathFail status sec s) := by
  unfold lathFail
  repeat' (with_reducible (first
    | assumption | apply State.wr_keeps | apply State.raise_keeps
    | apply State.raiseIf_keeps))

theorem lathStart_keeps (s : State) {z : State} (hk : Keeps z s) :
    Keeps z (lathStart s) := by
  unfold lathStart
  repeat' (with_reducible (first | assumption | apply State.wr_keeps))

theorem lathGo_keeps (s : State) {z : State} (hk : Keeps z s) :
    Keeps z (lathGo s) := by
  unfold lathGo
  repeat' (with_reducible (first | assumption | apply State.wr_keeps | apply lathStart_keeps | apply Keeps.ite | intro _ | dsimp only | apply Keeps.frame'))

theorem lathControl_keeps (v : Nat) (s : State) {z : State} (hk : Keeps z s) :
    Keeps z (lathControl v s) := by
  unfold lathControl
  repeat' (with_reducible (first | assumption | apply State.when_keeps | apply State.wr_keeps | apply lathGo_keeps | intro _))

theorem lathAddrWrite_keeps (f : Fld) (v : Nat) (s : State) {z : State} (hk : Keeps z s) :
    Keeps z (lathAddrWrite f v s) := by
  unfold lathAddrWrite
  repeat' (with_reducible (first | assumption | apply State.wr_keeps | apply Keeps.ite | intro _))

theorem State.lathImage_keeps (s : State) {z : State} (hk : Keeps z s) :
    Keeps z (State.lathImage s).2.2 := by
  unfold State.lathImage
  repeat' (with_reducible (first | assumption | apply devRead_keeps))

theorem lathFetchDone_keeps (fail : Bool) (s : State) {z : State} (hk : Keeps z s) :
    Keeps z (lathFetchDone fail s) := by
  unfold lathFetchDone
  repeat' (with_reducible (first
    | assumption | apply State.wr_keeps | apply lathFail_keeps | apply State.lathImage_keeps | apply Keeps.ite | intro _
    | dsimp only | apply Keeps.frame'))

theorem lathVerifyDone_keeps (s : State) {z : State} (hk : Keeps z s) :
    Keeps z (lathVerifyDone s) := by
  unfold lathVerifyDone
  repeat' (with_reducible (first
    | assumption | apply State.wr_keeps | apply lathFail_keeps | apply Keeps.ite | intro _ | split | dsimp only
    | apply Keeps.frame'))

theorem lathCheckDone_keeps (s : State) {z : State} (hk : Keeps z s) :
    Keeps z (lathCheckDone s) := by
  unfold lathCheckDone
  repeat' (with_reducible (first
    | assumption | apply State.forAll_keeps | apply State.wr_keeps | apply tgDisable_keeps | apply lathFail_keeps
    | apply Keeps.ite | intro _ | split | dsimp only))

theorem lathDrainDone_keeps (s : State) {z : State} (hk : Keeps z s) :
    Keeps z (lathDrainDone s) := by
  unfold lathDrainDone
  repeat' (with_reducible (first | assumption | apply State.forAll_keeps | apply State.wr_keeps | apply plumbReload_keeps | apply Keeps.ite | intro _))

theorem portRegs_keeps (l : Lath) (n : Nat) (s : State) {z : State} (hk : Keeps z s) :
    Keeps z (portRegs l n s) := by
  unfold portRegs
  repeat' (with_reducible (first | assumption | apply State.forAll_keeps | apply State.wr_keeps | apply State.resetRange_keeps | intro _ | split))

theorem skipUnit_keeps (c : Nat) (s : State) {z : State} (hk : Keeps z s) :
    Keeps z (skipUnit c s) := by
  unfold skipUnit
  repeat' (with_reducible (first | assumption | apply State.setUnit_keeps))

theorem portStart_keeps (n : Nat) (s : State) {z : State} (hk : Keeps z s) :
    Keeps z (portStart n s) := by
  unfold portStart
  repeat' (with_reducible (first
    | assumption | apply State.when_keeps | apply State.forAll_keeps | apply State.wr_keeps | apply jnlOutcome_keeps
    | apply lanesTape_keeps | apply laneEnable_keeps | apply skipUnit_keeps | apply Keeps.ite | intro _))

theorem applyPorts_keeps (l : Lath) (ns : List Nat) (s : State) {z : State} (hk : Keeps z s) :
    Keeps z (applyPorts l ns s) := by
  unfold applyPorts
  repeat' (with_reducible (first
    | assumption | apply State.forAll_keeps | apply laneOff_keeps | apply tstEnded_keeps | apply portRegs_keeps
    | apply portStart_keeps | apply Keeps.foldl | intro _))

theorem renderRegs_keeps (l : Lath) (n : Nat) (s : State) {z : State} (hk : Keeps z s) :
    Keeps z (renderRegs l n s) := by
  unfold renderRegs
  repeat' (with_reducible (first | assumption | apply State.forAll_keeps | apply State.wr_keeps | apply State.resetRange_keeps | intro _ | split))

theorem applyRender_keeps (l : Lath) (ns : List Nat) (s : State) {z : State} (hk : Keeps z s) :
    Keeps z (applyRender l ns s) := by
  unfold applyRender
  repeat' (with_reducible (first
    | assumption | apply State.forAll_keeps | apply State.wr_keeps | apply State.setRnd_keeps | apply State.setSkim_keeps
    | apply loadBanks_keeps | apply renderRegs_keeps | intro _ | split))

theorem memberRegs_keeps (g i : Nat) (m : LathMemb) (s : State) {z : State} (hk : Keeps z s) :
    Keeps z (memberRegs g i m s) := by
  unfold memberRegs
  repeat' (with_reducible (first | assumption | apply State.wr_keeps))

theorem groupRegs_keeps (g : Nat) (d : List Byte) (s : State) {z : State} (hk : Keeps z s) :
    Keeps z (groupRegs g d s) := by
  unfold groupRegs
  repeat' (with_reducible (first
    | assumption | apply State.when_keeps | apply State.forAll_keeps | apply State.wr_keeps | apply memberRegs_keeps
    | apply Keeps.foldl | intro _))

theorem applyGroup_keeps (l : Lath) (g : Nat) (s : State) {z : State} (hk : Keeps z s) :
    Keeps z (applyGroup l g s) := by
  unfold applyGroup
  repeat' (with_reducible (first
    | assumption | apply State.when_keeps | apply State.wr_keeps | apply State.resetRange_keeps | apply State.setSeam_keeps
    | apply State.setSkimG_keeps | apply State.setStn_keeps | apply stencilClear_keeps | apply groupRegs_keeps | intro _ | split
    | dsimp only | apply Keeps.frame'))

theorem applyTrackers_keeps (l : Lath) (s : State) {z : State} (hk : Keeps z s) :
    Keeps z (applyTrackers l s) := by
  unfold applyTrackers
  repeat' (with_reducible (first
    | assumption | apply State.forAll_keeps | apply State.wr_keeps | apply State.resetRange_keeps | apply plumbClear_keeps
    | apply Keeps.ite | intro _ | split))

theorem applyMemory_keeps (d : List Byte) (s : State) {z : State} (hk : Keeps z s) :
    Keeps z (applyMemory d s) := by
  unfold applyMemory
  repeat' (with_reducible (first
    | assumption | apply State.forAll_keeps | apply State.wr_keeps | apply hawkRegion_keeps | apply hstState_keeps
    | apply ringReset_keeps | apply Keeps.ite | intro _ | dsimp only | apply Keeps.frame'))

theorem uplinkRegs_keeps (d : List Byte) (s : State) {z : State} (hk : Keeps z s) :
    Keeps z (uplinkRegs d s) := by
  unfold uplinkRegs
  repeat' (with_reducible (first | assumption | apply State.forAll_keeps | apply State.wr_keeps | intro _))

theorem subStart_keeps (x : Nat) (s : State) {z : State} (hk : Keeps z s) :
    Keeps z (subStart x s) := by
  unfold subStart
  repeat' (with_reducible (first
    | assumption | apply State.wr_keeps | apply upBring_keeps | apply jnlOutcome_keeps | apply skipUnit_keeps
    | apply Keeps.ite | intro _))

theorem applyUplink_keeps (d : List Byte) (s : State) {z : State} (hk : Keeps z s) :
    Keeps z (applyUplink d s) := by
  unfold applyUplink
  repeat' (with_reducible (first
    | assumption | apply State.forAll_keeps | apply creditUpdate_keeps | apply upFlush_keeps | apply rescale_keeps
    | apply upDown_keeps | apply uplinkRegs_keeps | apply subStart_keeps | apply Keeps.ite | intro _))

theorem applyPolicy_keeps (d : List Byte) (s : State) {z : State} (hk : Keeps z s) :
    Keeps z (applyPolicy d s) := by
  unfold applyPolicy
  repeat' (with_reducible (first | assumption | apply State.forAll_keeps | apply State.wr_keeps | apply Keeps.ite | intro _))

theorem applyDevice_keeps (l : Lath) (s : State) {z : State} (hk : Keeps z s) :
    Keeps z (applyDevice l s) := by
  unfold applyDevice
  repeat' (with_reducible (first
    | assumption | apply State.forAll_keeps | apply State.wr_keeps | apply State.setSkim_keeps | apply applyMemory_keeps
    | apply applyUplink_keeps | apply applyPolicy_keeps | intro _ | dsimp only | apply Keeps.frame'))

theorem applyEdges_keeps (l : Lath) (s : State) {z : State} (hk : Keeps z s) :
    Keeps z (applyEdges l s) := by
  unfold applyEdges
  repeat' (with_reducible (first | assumption | split | dsimp only | apply Keeps.frame'))

theorem resetSh_keeps (l : Lath) (s : State) {z : State} (hk : Keeps z s) :
    Keeps z (resetSh l s) := by
  unfold resetSh
  repeat' (with_reducible (first | assumption | apply State.wr_keeps | apply Keeps.foldl | intro _))

theorem applyRuntime_keeps (l : Lath) (s : State) {z : State} (hk : Keeps z s) :
    Keeps z (applyRuntime l s) := by
  unfold applyRuntime
  repeat' (with_reducible (first | assumption | apply State.wr_keeps | apply Keeps.foldl | intro _))

theorem lathGenerators_keeps (t : Nat) (s : State) {z : State} (hk : Keeps z s) :
    Keeps z (lathGenerators t s) := by
  unfold lathGenerators
  repeat' (with_reducible (first | assumption | apply State.forAll_keeps | apply State.wr_keeps | apply tgEnable_keeps | apply setStart_keeps | intro _))

theorem lathRecord_keeps (l : Lath) (s : State) {z : State} (hk : Keeps z s) :
    Keeps z (lathRecord l s) := by
  unfold lathRecord
  repeat' (with_reducible (first
    | assumption | apply State.forAll_keeps | apply State.wr_keeps | apply Keeps.ite | intro _ | dsimp only
    | apply Keeps.frame'))

theorem lathApplyDone_keeps (s : State) {z : State} (hk : Keeps z s) :
    Keeps z (lathApplyDone s) := by
  unfold lathApplyDone
  repeat' (with_reducible (first
    | assumption | apply State.forAll_keeps | apply State.wr_keeps | apply State.raise_keeps | apply skimEnd_keeps
    | apply showDtNom_keeps | apply commitDiscard_keeps | apply applyPorts_keeps | apply applyRender_keeps
    | apply applyGroup_keeps | apply applyTrackers_keeps | apply applyDevice_keeps | apply applyEdges_keeps
    | apply resetSh_keeps | apply applyRuntime_keeps | apply lathGenerators_keeps | apply lathRecord_keeps | apply Keeps.ite
    | intro _))

end Sys2Proof.Machine
end

