-- ==== Sys2Proof/Laws/KeepsBoot.lean ====
section
/-! SUPPORT. What the operations of Machine/Boot.lean keep. -/

namespace Sys2Proof.Machine

theorem setStage_keeps (v : Nat) (s : State) {z : State} (hk : Keeps z s) :
    Keeps z (setStage v s) := by
  unfold setStage
  repeat' (with_reducible (first | assumption | apply State.wr_keeps | dsimp only | apply Keeps.frame'))

theorem setStep_keeps (v : Nat) (s : State) {z : State} (hk : Keeps z s) :
    Keeps z (setStep v s) := by
  unfold setStep
  repeat' (with_reducible (first | assumption | apply State.wr_keeps))

theorem jnlOpen_keeps (s : State) {z : State} (hk : Keeps z s) :
    Keeps z (jnlOpen s) := by
  unfold jnlOpen
  repeat' (with_reducible (first
    | assumption | apply State.wr_keeps | apply State.raise_keeps | apply State.raiseIf_keeps | apply jnlStore_keeps | split
    | dsimp only | apply Keeps.frame'))

theorem State.reset_canon : State.reset.Canon := ⟨rfl, rfl, rfl, rfl, rfl, rfl, rfl, rfl⟩

theorem State.cold_keeps (s : State) (por : Bool) {z : State} (hk : Keeps z s) : Keeps z (s.cold por) := by
  have h : ∀ (b : Boot) (i : Ports) (p : Pins), Keeps z { State.reset with
      draws := s.draws, mram := s.mram, fuses := s.fuses, pending := s.pending, boot := b, io := i, pins := p } := fun b i p =>
    hk.trans ⟨rfl, Nat.le_refl _, fun c => ⟨rfl, rfl, rfl, rfl, c.mram, rfl, rfl, rfl⟩,
      fun l => ⟨l.legal, fun _ h => (nomatch h), fun _ h => (nomatch h)⟩, fun _ => Nat.le_refl _, fun _ => Nat.le_refl _,
      fun _ _ _ h => h⟩
  unfold State.cold
  cases por
  · exact State.wr_keeps _ _ _ (State.wr_keeps _ _ _ (State.wr_keeps _ _ _ (h _ _ _)))
  · exact h _ _ _

theorem primer_keeps (wake : Bool) (s : State) {z : State} (hk : Keeps z s) :
    Keeps z (primer wake s) := by
  unfold primer
  repeat' (with_reducible (first
    | assumption | apply jnlDevice_keeps | apply setStage_keeps | apply setStep_keeps | apply jnlOpen_keeps | apply Keeps.ite
    | intro _ | split | dsimp only | apply Keeps.frame'))

theorem startUp_keeps (por : Bool) (s : State) {z : State} (hk : Keeps z s) :
    Keeps z (startUp por s) := by
  unfold startUp
  repeat' (with_reducible (first | assumption | apply State.wr_keeps | apply State.cold_keeps | apply primer_keeps))

theorem porAssert_keeps (s : State) {z : State} (hk : Keeps z s) :
    Keeps z (porAssert s) := by
  unfold porAssert
  repeat' (with_reducible (first | assumption | apply State.cold_keeps | dsimp only | apply Keeps.frame'))

theorem porRelease_keeps (sel : Nat) (s : State) {z : State} (hk : Keeps z s) :
    Keeps z (porRelease sel s) := by
  unfold porRelease
  repeat' (with_reducible (first | assumption | apply startUp_keeps | dsimp only | apply Keeps.frame'))

theorem sysReset_keeps (sel : Nat) (s : State) {z : State} (hk : Keeps z s) :
    Keeps z (sysReset sel s) := by
  unfold sysReset
  repeat' (with_reducible (first | assumption | apply startUp_keeps | apply Keeps.ite | intro _ | dsimp only | apply Keeps.frame'))

theorem actReset_keeps (s : State) {z : State} (hk : Keeps z s) :
    Keeps z (actReset s) := by
  unfold actReset
  repeat' (with_reducible (first | assumption | apply sysReset_keeps))

theorem jnlDecisions_keeps (s : State) {z : State} (hk : Keeps z s) :
    Keeps z (jnlDecisions s) := by
  unfold jnlDecisions
  repeat' (with_reducible (first | assumption | dsimp only | apply Keeps.frame'))

theorem eraseKeys_keeps (s : State) {z : State} (hk : Keeps z s) : Keeps z (eraseKeys s) :=
  hk.trans ⟨rfl, Nat.le_refl _, fun c => ⟨c.regs, c.cnt, c.snap, c.snapNext, c.mram, c.dram, c.scratch, c.hostload⟩,
    fun l => ⟨l.legal, l.burning, l.rollback⟩, fun _ => Nat.le_refl _, fun _ => Nat.le_refl _,
    fun k h1 h2 _ => by
      have : ∀ k : Fin 16, 1 ≤ k.val → (0xFFFE : Nat).testBit k.val = true := by decide
      exact this ⟨k, h2⟩ h1⟩

theorem newNonce_keeps (s : State) {z : State} (hk : Keeps z s) :
    Keeps z (newNonce s) := by
  unfold newNonce
  repeat' (with_reducible (first
    | assumption | apply State.drawBytes_keeps | (refine Keeps.snd (by assumption) ?_) | split | dsimp only
    | apply Keeps.frame))

theorem coreLock_keeps (bad : Nat) (jerr : Bool) (s : State) {z : State} (hk : Keeps z s) : Keeps z (coreLock bad jerr s) := by
  rw [coreLock]
  split
  · exact hk
  · extract_lets c0 s1 s2 s3 fail s4 s5 se s6 sel src bt sc
    have h1 : Keeps z s1 := hk.frame'
    have h2 : Keeps z s2 := by
      refine setStep_keeps _ _ ?_
      split
      · exact h1
      · exact jnlDevice_keeps _ _ _ h1
    have h3 : Keeps z s3 := by
      unfold s3
      split
      · exact jnlStore_keeps _ _ (State.raise_keeps _ _ h2)
      · exact h2
    have h4 : Keeps z s4 := jnlDevice_keeps _ _ _ (jnlDecisions_keeps _ h3)
    have h5 : Keeps z s5 := by
      unfold s5
      split
      · exact eraseKeys_keeps _ h4
      · exact h4
    have h6 : Keeps z s6 := newNonce_keeps _ (State.raiseIf_keeps _ _ _ (h5.trans ⟨rfl, Nat.le_refl _,
      fun c => ⟨c.regs, c.cnt, c.snap, c.snapNext, c.mram, c.dram, c.scratch, c.hostload⟩,
      fun l => ⟨l.legal, fun _ h => (nomatch h), fun _ h => (nomatch h)⟩, fun _ => Nat.le_refl _, fun _ => Nat.le_refl _,
      fun _ _ _ h => h⟩))
    split
    · exact setStep_keeps _ _ (State.wr_keeps s6 R.BOT_STAT_SRC (sel / 3) h6).frame'
    · split
      · exact setStage_keeps _ _ (setStep_keeps _ _ (State.wr_keeps _ _ _ h6))
      · split
        · exact setStep_keeps _ _ h6.frame
        · exact setStage_keeps _ _ (setStep_keeps _ _ (State.wr_keeps _ _ _ h6))

theorem clockRetry_keeps (s : State) {z : State} (hk : Keeps z s) :
    Keeps z (clockRetry s) := by
  unfold clockRetry
  repeat' (with_reducible (first | assumption | apply jnlDevice_keeps | apply Keeps.ite | intro _ | dsimp only | apply Keeps.frame'))

theorem fwRun_keeps (c l : FwInfo) (s : State) {z : State} (hk : Keeps z s) :
    Keeps z (fwRun c l s) := by
  unfold fwRun
  repeat' (with_reducible (first | assumption | apply State.wr_keeps | apply State.raise_keeps | apply Keeps.ite | intro _ | apply Keeps.frame'))

theorem awaitLath_keeps (s : State) {z : State} (hk : Keeps z s) :
    Keeps z (awaitLath s) := by
  unfold awaitLath
  repeat' (with_reducible (first | assumption | apply setStage_keeps))

theorem memoryStart_keeps (s : State) {z : State} (hk : Keeps z s) :
    Keeps z (memoryStart s) := by
  unfold memoryStart
  repeat' (with_reducible (first
    | assumption | apply State.forAll_keeps | apply State.wr_keeps | apply jnlOutcome_keeps | apply skipUnit_keeps | intro _
    | split | dsimp only | apply Keeps.frame'))

theorem undercoat_keeps (s : State) {z : State} (hk : Keeps z s) :
    Keeps z (undercoat s) := by
  unfold undercoat
  repeat' (with_reducible (first
    | assumption | apply collect_keeps | apply setStage_keeps | apply setStep_keeps | apply memoryStart_keeps
    | apply Keeps.foldl | intro _ | dsimp only | apply Keeps.frame'))

theorem slotRun_keeps (c : Nat) (ci li : FwInfo) (s : State) {z : State} (hk : Keeps z s) :
    Keeps z (slotRun c ci li s) := by
  unfold slotRun
  repeat' (with_reducible (first | assumption | apply State.wr_keeps | apply fwRun_keeps | apply undercoat_keeps | dsimp only | apply Keeps.frame'))

theorem authEvent_keeps (st : Nat) (s : State) {z : State} (hk : Keeps z s) :
    Keeps z (authEvent st s) := by
  unfold authEvent
  repeat' (with_reducible (first | assumption | apply State.raiseIf_keeps))

theorem slotDone_keeps (fa fb : List Byte) (s : State) {z : State} (hk : Keeps z s) :
    Keeps z (slotDone fa fb s) := by
  unfold slotDone
  repeat' (with_reducible (first
    | assumption | apply State.wr_keeps | apply State.raise_keeps | apply jnlOutcome_keeps | apply setStage_keeps
    | apply setStep_keeps | apply slotRun_keeps | apply authEvent_keeps | apply Keeps.ite | intro _ | split | dsimp only
    | apply Keeps.frame'))

theorem hostBoot_keeps (s : State) {z : State} (hk : Keeps z s) : Keeps z (hostBoot s) := by
  rw [hostBoot]
  split
  · exact hk
  · extract_lets b record
    clear_value b
    have hr : ∀ oc cause t, Keeps z t → Keeps z (record oc cause t) := fun oc cause t h =>
      State.raiseIf_keeps _ _ _ (jnlAppend_keeps _ _ _ h)
    split
    · exact setStep_keeps _ _ (setStage_keeps _ _ (hr _ _ _ (State.wr_keeps _ _ _ (authEvent_keeps _ _ hk))))
    · exact slotRun_keeps _ _ _ _ (hr _ _ _ (State.wr_keeps _ _ _ (State.wr_keeps _ _ _ hk)))

theorem lathStep_keeps (s : State) {z : State} (hk : Keeps z s) : Keeps z (lathStep s) := by
  unfold lathStep
  repeat' (with_reducible (first
    | assumption | apply setStep_keeps | apply awaitLath_keeps | apply jnlOutcome_keeps | apply lathStart_keeps
    | apply State.wr_keeps | apply State.draw_keeps | apply dramWrite_keeps | apply Keeps.ite | intro _ | split | dsimp only
    | apply Keeps.frame'))

theorem memoryEnd_keeps (s : State) {z : State} (hk : Keeps z s) :
    Keeps z (memoryEnd s) := by
  unfold memoryEnd
  repeat' (with_reducible (first
    | assumption | apply State.forAll_keeps | apply chanTrained_keeps | apply jnlOutcome_keeps | apply lathStep_keeps
    | apply Keeps.ite | intro _ | dsimp only | apply Keeps.frame'))

theorem bootLath_keeps (s : State) {z : State} (hk : Keeps z s) :
    Keeps z (bootLath s) := by
  unfold bootLath
  repeat' (with_reducible (first
    | assumption | apply State.wr_keeps | apply jnlOutcome_keeps | apply setStep_keeps | apply awaitLath_keeps
    | apply Keeps.ite | intro _ | dsimp only | apply Keeps.frame'))

theorem topcoatEntry_keeps (s : State) {z : State} (hk : Keeps z s) :
    Keeps z (topcoatEntry s) := by
  unfold topcoatEntry
  repeat' (with_reducible (first
    | assumption | apply jnlDevice_keeps | apply lathGenerators_keeps | apply setStage_keeps | apply setStep_keeps
    | dsimp only | apply Keeps.frame'))

theorem bringUpEnd_keeps (s : State) {z : State} (hk : Keeps z s) :
    Keeps z (bringUpEnd s) := by
  unfold bringUpEnd
  repeat' (with_reducible (first
    | assumption | apply setStep_keeps | apply topcoatEntry_keeps | apply Keeps.ite
    | intro _))

theorem portOutcome_keeps (n : Nat) (s : State) {z : State} (hk : Keeps z s) :
    Keeps z (portOutcome n s) := by
  unfold portOutcome
  repeat' (with_reducible (first | assumption | apply jnlOutcome_keeps | apply jnlTableOnly_keeps | split))

theorem portsEnd_keeps (s : State) {z : State} (hk : Keeps z s) :
    Keeps z (portsEnd s) := by
  unfold portsEnd
  repeat' (with_reducible (first
    | assumption | apply State.forAll_keeps | apply bringUpEnd_keeps | apply portOutcome_keeps | apply Keeps.ite | intro _
    | dsimp only | apply Keeps.frame'))

theorem uplinkEnd_keeps (s : State) {z : State} (hk : Keeps z s) :
    Keeps z (uplinkEnd s) := by
  unfold uplinkEnd
  repeat' (with_reducible (first
    | assumption | apply State.forAll_keeps | apply jnlOutcome_keeps | apply bringUpEnd_keeps | apply Keeps.ite | intro _
    | dsimp only | apply Keeps.frame'))

theorem watchdogExpiry_keeps (s : State) {z : State} (hk : Keeps z s) :
    Keeps z (watchdogExpiry s) := by
  unfold watchdogExpiry
  repeat' (with_reducible (first | assumption | apply jnlAppend_keeps | apply actReset_keeps | apply Keeps.ite | intro _))

theorem jnlForget_keeps (s : State) {z : State} (hk : Keeps z s) :
    Keeps z (jnlForget s) := by
  unfold jnlForget
  repeat' (with_reducible (first | assumption | apply jnlRewrite_keeps))

theorem forgetUnit_keeps (e : Nat) (s : State) {z : State} (hk : Keeps z s) :
    Keeps z (forgetUnit e s) := by
  unfold forgetUnit
  repeat' (with_reducible (first | assumption | apply jnlRewrite_keeps))

theorem jnlRead_keeps (i : Nat) (s : State) {z : State} (hk : Keeps z s) :
    Keeps z (jnlRead i s).2 := by
  unfold jnlRead
  repeat' (with_reducible (first | assumption | split | dsimp only | apply Keeps.frame'))

end Sys2Proof.Machine
end

