-- ==== Sys2Proof/Laws/KeepsSecurity.lean ====
section
/-! SUPPORT. What the operations of Machine/Security.lean keep. -/

namespace Sys2Proof.Machine

theorem lcBurn_keeps (t : Nat) (s : State) {z : State} (ht : s.fuses.lc < t ∧ t ≤ 3) (hk : Keeps z s) : Keeps z (lcBurn t s) :=
  (State.wr_keeps s R.SEC_LC_STAT_RESULT 1 hk).trans
    ⟨rfl, Nat.le_refl _, fun c => ⟨c.regs, c.cnt, c.snap, c.snapNext, c.mram, c.dram, c.scratch, c.hostload⟩,
      fun l => ⟨l.legal, fun t' h => by cases h; exact ht, l.rollback⟩, fun _ => Nat.le_refl _, fun _ => Nat.le_refl _,
      fun _ _ _ h => h⟩

theorem lcGo_keeps (p : Path) (s : State) {z : State} (hk : Keeps z s) : Keeps z (lcGo p s) := by
  have hn : (newNonce s).fuses = s.fuses := rfl
  unfold lcGo
  dsimp only
  split
  · exact hk
  · split
    · exact State.wr_keeps _ _ _ hk
    · split
      · exact State.wr_keeps _ _ _ hk
      · rename_i h
        split
        · rename_i h0
          split
          · exact lcBurn_keeps _ _ (by omega) hk
          · exact State.wr_keeps _ _ _ hk
        · split
          · exact State.wr_keeps _ _ _ (newNonce_keeps _ hk)
          · split
            · exact State.wr_keeps _ _ _ (newNonce_keeps _ hk)
            · exact lcBurn_keeps _ _ (by rw [hn]; omega) (newNonce_keeps _ hk)

theorem lcWrite_keeps (v : Nat) (p : Path) (s : State) {z : State} (hk : Keeps z s) :
    Keeps z (lcWrite v p s) := by
  unfold lcWrite
  repeat' (with_reducible (first
    | assumption | apply State.when_keeps | apply State.wr_keeps | apply lcGo_keeps
    | intro _))

theorem lcBurnDone_keeps (s : State) {z : State} (hk : Keeps z s) : Keeps z (lcBurnDone s) := by
  refine hk.trans ?_
  unfold lcBurnDone
  split
  · exact Keeps.refl s
  · rename_i t ht
    have h1 : Keeps s (if t = 3 then jnlForget (eraseKeys s) else s) := by
      split
      · exact jnlForget_keeps _ (eraseKeys_keeps s (Keeps.refl s))
      · exact Keeps.refl s
    generalize (if t = 3 then jnlForget (eraseKeys s) else s) = s1 at h1
    exact State.raise_keeps _ _ (actReset_keeps _ ⟨h1.queue, h1.draws,
      fun c => ⟨(h1.canon c).regs, (h1.canon c).cnt, (h1.canon c).snap, (h1.canon c).snapNext, (h1.canon c).mram, (h1.canon c).dram,
        (h1.canon c).scratch, (h1.canon c).hostload⟩,
      fun l => ⟨(l.burning t ht).2, fun _ h => (nomatch h), (h1.life l).rollback⟩,
      fun l => Nat.le_of_lt (l.burning t ht).1, h1.rollback, h1.revoked⟩)

theorem keyGo_keeps (s : State) {z : State} (hk : Keeps z s) : Keeps z (keyGo s) := by
  unfold keyGo
  dsimp only
  split
  · exact State.wr_keeps _ _ _ hk
  · split
    · exact hk
    · split
      · exact State.wr_keeps _ _ _ hk
      · exact (State.wr_keeps _ R.SEC_KEY_CTRL_RESULT 0 (State.wr_keeps s R.SEC_KEY_CTRL_BUSY 1 hk)).frame

theorem keyWrite_keeps (v : Nat) (s : State) {z : State} (hk : Keeps z s) :
    Keeps z (keyWrite v s) := by
  unfold keyWrite
  repeat' (with_reducible (first | assumption | apply State.when_keeps | apply State.wr_keeps | apply keyGo_keeps | intro _))

theorem keyDone_keeps (fail : Bool) (s : State) {z : State} (hk : Keeps z s) : Keeps z (keyDone fail s) := by
  have hf : ∀ (t : State) (f : Fuses), Keeps z t → f.lc = t.fuses.lc → f.rollback = t.fuses.rollback →
      (∀ k, 1 ≤ k → k < 16 → t.fuses.revoked.testBit k = true → f.revoked.testBit k = true) → Keeps z { t with fuses := f } :=
    fun t f h h1 h2 h3 => h.trans ⟨rfl, Nat.le_refl _,
      fun c => ⟨c.regs, c.cnt, c.snap, c.snapNext, c.mram, c.dram, c.scratch, c.hostload⟩,
      fun l => ⟨h1 ▸ l.legal, fun t ht => h1 ▸ l.burning t ht, fun v hv => h2 ▸ l.rollback v hv⟩,
      fun _ => Nat.le_of_eq h1.symm, fun _ => Nat.le_of_eq h2.symm, h3⟩
  unfold keyDone
  split
  · exact hk
  · have h1 : Keeps z { s.wr R.SEC_KEY_CTRL_BUSY 0 with sec := { s.sec with keyOp := none } } :=
      (State.wr_keeps s R.SEC_KEY_CTRL_BUSY 0 hk).frame
    dsimp only
    split
    · exact State.wr_keeps _ _ _ h1
    · refine hf _ _ (State.wr_keeps _ _ _ h1) ?_ ?_ ?_
      · split <;> rfl
      · split <;> rfl
      · intro k _ _ hx
        split
        · exact hx
        · exact hx
        · exact hx
        · simp only [Nat.testBit_or, Bool.or_eq_true]
          exact Or.inl hx

theorem policyWrite_keeps (v : Nat) (s : State) {z : State} (hk : Keeps z s) : Keeps z (policyWrite v s) := by
  unfold policyWrite
  split
  · exact hk.trans ⟨rfl, Nat.le_refl _, fun c => ⟨c.regs, c.cnt, c.snap, c.snapNext, c.mram, c.dram, c.scratch, c.hostload⟩,
      fun l => ⟨l.legal, l.burning, l.rollback⟩, fun _ => Nat.le_refl _, fun _ => Nat.le_refl _, fun _ _ _ h => h⟩
  · exact hk

theorem rbGo_keeps (s : State) {z : State} (hk : Keeps z s) : Keeps z (rbGo s) := by
  unfold rbGo
  dsimp only
  split
  · exact hk
  · split
    · rename_i h
      exact hk.trans ⟨rfl, Nat.le_refl _, fun c => ⟨Regs.wf_set c.regs _ _, c.cnt, c.snap, c.snapNext, c.mram, c.dram, c.scratch,
        c.hostload⟩, fun l => ⟨l.legal, l.burning, fun v hv => by cases hv; exact h.1⟩, fun _ => Nat.le_refl _,
        fun _ => Nat.le_refl _, fun _ _ _ h => h⟩
    · exact State.wr_keeps _ _ _ hk

theorem rbWrite_keeps (v : Nat) (s : State) {z : State} (hk : Keeps z s) :
    Keeps z (rbWrite v s) := by
  unfold rbWrite
  repeat' (with_reducible (first
    | assumption | apply State.when_keeps | apply State.wr_keeps | apply rbGo_keeps
    | intro _))

theorem rbDone_keeps (s : State) {z : State} (hk : Keeps z s) : Keeps z (rbDone s) := by
  unfold rbDone
  split
  · exact hk
  · rename_i v hv
    exact hk.trans ⟨rfl, Nat.le_refl _, fun c => ⟨Regs.wf_set c.regs _ _, c.cnt, c.snap, c.snapNext, c.mram, c.dram, c.scratch,
      c.hostload⟩, fun l => ⟨l.legal, l.burning, fun _ h => (nomatch h)⟩, fun _ => Nat.le_refl _,
      fun l => Nat.le_of_lt (l.rollback v hv), fun _ _ _ h => h⟩

theorem dbgOpened_keeps (p : Path) (level : Nat) (key : Option (List Byte)) (limit : Nat) (s : State) {z : State}
    (hk : Keeps z s) : Keeps z (dbgOpened p level key limit s) := by
  unfold dbgOpened
  repeat' (with_reducible (first
    | assumption | apply State.when_keeps | apply lathFail_keeps | apply State.wr_keeps | apply State.raise_keeps | intro _ | dsimp only
    | apply Keeps.frame))

theorem dbgRefused_keeps (r : Nat) (s : State) {z : State} (hk : Keeps z s) :
    Keeps z (dbgRefused r s) := by
  unfold dbgRefused
  repeat' (with_reducible (first | assumption | apply State.wr_keeps | apply State.raise_keeps))

theorem dbgOpen_keeps (p : Path) (s : State) {z : State} (hk : Keeps z s) : Keeps z (dbgOpen p s) := by
  unfold dbgOpen
  have h1 : ∀ x, Keeps z { s.wr R.SEC_DBG_STAT_STATE 1 with sec := { s.sec with verify := some x } } := fun x =>
    (State.wr_keeps s R.SEC_DBG_STAT_STATE 1 hk).frame
  repeat' (with_reducible (first | assumption | apply dbgRefused_keeps | apply dbgOpened_keeps | apply h1 | apply Keeps.ite | intro _))

theorem dbgVerified_keeps (s : State) {z : State} (hk : Keeps z s) :
    Keeps z (dbgVerified s) := by
  unfold dbgVerified
  repeat' (with_reducible (first
    | assumption | apply State.forAll_keeps | apply State.wr_keeps | apply State.draw_keeps | apply newNonce_keeps
    | apply dbgOpened_keeps | apply dbgRefused_keeps | apply Keeps.ite | intro _ | split | dsimp only | apply Keeps.frame))

theorem dbgEnd_keeps (cause : Nat) (s : State) {z : State} (hk : Keeps z s) :
    Keeps z (dbgEnd cause s) := by
  unfold dbgEnd
  repeat' (with_reducible (first
    | assumption | apply State.wr_keeps | apply State.raise_keeps | apply Keeps.ite | intro _ | dsimp only
    | apply Keeps.frame))

theorem dbgTimeout_keeps (s : State) {z : State} (hk : Keeps z s) :
    Keeps z (dbgTimeout s) := by
  unfold dbgTimeout
  repeat' (with_reducible (first | assumption | apply dbgEnd_keeps | apply Keeps.ite | intro _))

theorem dbgWrite_keeps (v : Nat) (p : Path) (s : State) {z : State} (hk : Keeps z s) :
    Keeps z (dbgWrite v p s) := by
  unfold dbgWrite
  repeat' (with_reducible (first | assumption | apply State.when_keeps | apply State.wr_keeps | apply dbgOpen_keeps | apply dbgEnd_keeps | intro _))

theorem coreHalt_keeps (v : Nat) (s : State) {z : State} (hk : Keeps z s) :
    Keeps z (coreHalt v s) := by
  unfold coreHalt
  repeat' (with_reducible (first | assumption | apply State.wr_keeps | apply Keeps.ite | intro _))

end Sys2Proof.Machine
end

