-- ==== Sys2Proof/Laws/KeepsPower.lean ====
section
/-! SUPPORT. What the operations of Machine/Power.lean keep. -/

namespace Sys2Proof.Machine

theorem pwrEnded_keeps (s : State) {z : State} (hk : Keeps z s) :
    Keeps z (pwrEnded s) := by
  unfold pwrEnded
  repeat' (with_reducible (first | assumption | apply State.wr_keeps))

theorem pwrRefused_keeps (r : Nat) (s : State) {z : State} (hk : Keeps z s) :
    Keeps z (pwrRefused r s) := by
  unfold pwrRefused
  repeat' (with_reducible (first | assumption | apply State.wr_keeps | apply State.raise_keeps))

theorem drainStart_keeps (s : State) {z : State} (hk : Keeps z s) :
    Keeps z (drainStart s) := by
  unfold drainStart
  repeat' (with_reducible (first | assumption | apply State.forAll_keeps | apply tgDisable_keeps | intro _ | dsimp only | apply Keeps.frame'))

theorem wake_keeps (src : Nat) (s : State) {z : State} (hk : Keeps z s) :
    Keeps z (wake src s) := by
  unfold wake
  repeat' (with_reducible (first | assumption | apply State.wr_keeps | apply Keeps.ite | intro _ | dsimp only | apply Keeps.frame'))

theorem standby_keeps (t : Nat) (s : State) {z : State} (hk : Keeps z s) :
    Keeps z (standby t s) := by
  unfold standby
  repeat' (with_reducible (first
    | assumption | apply State.forAll_keeps | apply State.wr_keeps | apply upDown_keeps | apply jnlInfo_keeps
    | apply laneOff_keeps | apply collectRounds_keeps | apply State.cold_keeps | apply dbgEnd_keeps | apply wake_keeps
    | apply Keeps.foldl | apply Keeps.ite | intro _ | dsimp only | apply Keeps.frame'))

theorem enterP1_keeps (s : State) {z : State} (hk : Keeps z s) :
    Keeps z (enterP1 s) := by
  unfold enterP1
  repeat' (with_reducible (first
    | assumption | apply State.when_keeps | apply State.forAll_keeps | apply State.wr_keeps | apply stpAbortJobs_keeps
    | apply rpEndAll_keeps | apply pipeAbort_keeps | apply pwrEnded_keeps | intro _))

theorem exitP1_keeps (s : State) {z : State} (hk : Keeps z s) :
    Keeps z (exitP1 s) := by
  unfold exitP1
  repeat' (with_reducible (first
    | assumption | apply State.when_keeps | apply State.forAll_keeps | apply State.wr_keeps | apply tgEnable_keeps
    | apply setStart_keeps | apply pwrEnded_keeps | intro _ | dsimp only | apply Keeps.frame'))

theorem pwrBegin_keeps (t : Nat) (s : State) {z : State} (hk : Keeps z s) :
    Keeps z (pwrBegin t s) := by
  unfold pwrBegin
  repeat' (with_reducible (first
    | assumption | apply State.wr_keeps | apply lathFail_keeps | apply drainStart_keeps | apply Keeps.ite | intro _
    | dsimp only | apply Keeps.frame'))

theorem pwrLathEnd_keeps (s : State) {z : State} (hk : Keeps z s) :
    Keeps z (pwrLathEnd s) := by
  unfold pwrLathEnd
  repeat' (with_reducible (first | assumption | apply drainStart_keeps | apply Keeps.ite | intro _ | dsimp only | apply Keeps.frame'))

theorem pwrRequest_keeps (t : Nat) (p : Path) (s : State) {z : State} (hk : Keeps z s) :
    Keeps z (pwrRequest t p s) := by
  unfold pwrRequest
  repeat' (with_reducible (first
    | assumption | apply State.wr_keeps | apply lathFail_keeps | apply pwrRefused_keeps | apply drainStart_keeps
    | apply wake_keeps | apply standby_keeps | apply exitP1_keeps | apply pwrBegin_keeps | apply Keeps.ite | intro _ | split
    | dsimp only | apply Keeps.frame'))

theorem pwrWrite_keeps (v : Nat) (p : Path) (s : State) {z : State} (hk : Keeps z s) :
    Keeps z (pwrWrite v p s) := by
  unfold pwrWrite
  repeat' (with_reducible (first | assumption | apply State.when_keeps | apply State.wr_keeps | apply pwrRequest_keeps | intro _))

theorem drainDone_keeps (s : State) {z : State} (hk : Keeps z s) :
    Keeps z (drainDone s) := by
  unfold drainDone
  repeat' (with_reducible (first | assumption | apply standby_keeps | apply enterP1_keeps | apply exitP1_keeps | apply Keeps.ite | intro _))

theorem wakePin_keeps (s : State) {z : State} (hk : Keeps z s) :
    Keeps z (wakePin s) := by
  unfold wakePin
  repeat' (with_reducible (first | assumption | apply wake_keeps | apply exitP1_keeps | apply Keeps.ite | intro _ | dsimp only | apply Keeps.frame'))

theorem wakeTimer_keeps (s : State) {z : State} (hk : Keeps z s) :
    Keeps z (wakeTimer s) := by
  unfold wakeTimer
  repeat' (with_reducible (first | assumption | apply wake_keeps | apply Keeps.ite | intro _))

theorem railsReady_keeps (s : State) {z : State} (hk : Keeps z s) :
    Keeps z (railsReady s) := by
  unfold railsReady
  repeat' (with_reducible (first | assumption | apply State.wr_keeps | apply State.cold_keeps | apply primer_keeps | apply Keeps.ite | intro _))

theorem railsTimeout_keeps (s : State) {z : State} (hk : Keeps z s) :
    Keeps z (railsTimeout s) := by
  unfold railsTimeout
  repeat' (with_reducible (first | assumption | apply State.wr_keeps | apply Keeps.ite | intro _ | dsimp only | apply Keeps.frame'))

end Sys2Proof.Machine
end

