-- ==== Sys2Proof/Laws/KeepsAccess.lean ====
section
/-! SUPPORT. What the operations of Machine/Access.lean keep. -/

namespace Sys2Proof.Machine

theorem regWord_keeps (f : Found) (s : State) {z : State} (hk : Keeps z s) :
    Keeps z (regWord f s).2 := by
  unfold regWord
  repeat' (with_reducible (first | assumption | apply State.draw_keeps | apply jnlRead_keeps | (refine Keeps.snd (by assumption) ?_) | split))

theorem freezeAt_keeps (a : Nat) (ds : List Int) (s : State) {z : State} (hk : Keeps z s) :
    Keeps z (freezeAt a ds s) := by
  unfold freezeAt
  repeat' (with_reducible (first | assumption | apply Keeps.foldl | intro _ | split | dsimp only | apply Keeps.frame'))

theorem thawAt_keeps (a : Nat) (s : State) {z : State} (hk : Keeps z s) :
    Keeps z (thawAt a s) := by
  unfold thawAt
  repeat' (with_reducible (first | assumption | apply Keeps.foldl | intro _ | split | dsimp only | apply Keeps.frame'))

theorem regFetch_keeps (a : Nat) (f : Found) (s : State) {z : State} (hk : Keeps z s) :
    Keeps z (regFetch a f s).2 := by
  unfold regFetch
  repeat' (with_reducible (first | assumption | apply regWord_keeps | apply freezeAt_keeps | apply thawAt_keeps | apply Keeps.ite | intro _ | split))

theorem readServe_keeps (a : Nat) (p : Path) (s : State) {z : State} (hk : Keeps z s) :
    Keeps z (readServe a p s) := by
  unfold readServe
  repeat' (with_reducible (first | assumption | apply State.answer_keeps | apply hawkRhdr_keeps | apply hawkRdata_keeps | apply regFetch_keeps | split))

theorem regRead_keeps (a : Nat) (p : Path) (s : State) {z : State} (hk : Keeps z s) :
    Keeps z (regRead a p s) := by
  unfold regRead
  repeat' (with_reducible (first | assumption | apply State.answer_keeps | apply readServe_keeps | apply Keeps.ite | intro _))

theorem fieldWrite_keeps (f : Found) (v : Nat) (d : FDef) (s : State) {z : State} (hk : Keeps z s) :
    Keeps z (fieldWrite f v d s) := by
  unfold fieldWrite
  repeat' (with_reducible (first | assumption | apply State.wr_keeps | split))

theorem plainWrite_keeps (f : Found) (v : Nat) (s : State) {z : State} (hk : Keeps z s) :
    Keeps z (plainWrite f v s) := by
  unfold plainWrite
  repeat' (with_reducible (first | assumption | apply fieldWrite_keeps | apply Keeps.foldl | intro _))

theorem bufferWrite_keeps (f : Found) (v : Nat) (s : State) {z : State} (hk : Keeps z s) :
    Keeps z (bufferWrite f v s) := by
  unfold bufferWrite
  repeat' (with_reducible (first | assumption | apply State.wr_keeps | apply Keeps.foldl | intro _))

theorem snapshotAsk_keeps (s : State) {z : State} (hk : Keeps z s) :
    Keeps z (snapshotAsk s) := by
  unfold snapshotAsk
  repeat' (with_reducible (first | assumption | apply tstAccountAll_keeps | apply snapshotTake_keeps))

theorem snapshotPeriod_keeps (s : State) {z : State} (hk : Keeps z s) :
    Keeps z (snapshotPeriod s) := by
  unfold snapshotPeriod
  repeat' (with_reducible (first | assumption | apply snapshotAsk_keeps | apply Keeps.ite | intro _))

theorem commitWrite_keeps (v : Nat) (s : State) {z : State} (hk : Keeps z s) :
    Keeps z (commitWrite v s) := by
  unfold commitWrite
  repeat' (with_reducible (first | assumption | apply tstAccountAll_keeps | apply commitRequest_keeps))

theorem tgWrite_keeps (g v : Nat) (s : State) {z : State} (hk : Keeps z s) :
    Keeps z (tgWrite g v s) := by
  unfold tgWrite
  repeat' (with_reducible (first | assumption | apply tgControl_keeps | apply Keeps.ite | intro _ | dsimp only | apply Keeps.frame'))

theorem laneRetrain_keeps (n : Nat) (s : State) {z : State} (hk : Keeps z s) :
    Keeps z (laneRetrain n s) := by
  unfold laneRetrain
  repeat' (with_reducible (first | assumption | apply backToTraining_keeps | apply Keeps.ite | intro _))

theorem laneRetry_keeps (n : Nat) (s : State) {z : State} (hk : Keeps z s) :
    Keeps z (laneRetry n s) := by
  unfold laneRetry
  repeat' (with_reducible (first | assumption | apply State.forAll_keeps | apply State.wr_keeps | apply attempt_keeps | apply Keeps.ite | intro _))

theorem timePeriod_keeps (v : Nat) (s : State) {z : State} (hk : Keeps z s) :
    Keeps z (timePeriod v s) := by
  unfold timePeriod
  repeat' (with_reducible (first | assumption | apply State.wr_keeps))

theorem ptpConfig_keeps (f : Found) (v : Nat) (s : State) {z : State} (hk : Keeps z s) :
    Keeps z (ptpConfig f v s) := by
  unfold ptpConfig
  repeat' (with_reducible (first | assumption | apply servoTo_keeps | apply plainWrite_keeps | apply Keeps.ite | intro _))

theorem uplinkRestore_keeps (s : State) {z : State} (hk : Keeps z s) :
    Keeps z (uplinkRestore s) := by
  unfold uplinkRestore
  repeat' (with_reducible (first
    | assumption | apply State.forAll_keeps | apply upBring_keeps | apply Keeps.ite
    | intro _))

theorem historyWrite_keeps (f : Found) (v : Nat) (s : State) {z : State} (hk : Keeps z s) :
    Keeps z (historyWrite f v s) := by
  unfold historyWrite
  repeat' (with_reducible (first | assumption | apply State.when_keeps | apply hstEnable_keeps | apply ringReset_keeps | apply plainWrite_keeps | intro _))

theorem markWrite_keeps (v : Nat) (s : State) {z : State} (hk : Keeps z s) :
    Keeps z (markWrite v s) := by
  unfold markWrite
  repeat' (with_reducible (first
    | assumption | apply markSetNow_keeps | apply markSetTime_keeps | apply markClear_keeps | apply markSelect_keeps
    | apply markBadOp_keeps | split))

theorem tstControl_keeps (l v : Nat) (s : State) {z : State} (hk : Keeps z s) :
    Keeps z (tstControl l v s) := by
  unfold tstControl
  repeat' (with_reducible (first | assumption | apply State.when_keeps | apply tstWrite_keeps | apply tstInject_keeps | intro _))

theorem cvuAliveCfg_keeps (c v : Nat) (f : Found) (s : State) {z : State} (hk : Keeps z s) :
    Keeps z (cvuAliveCfg c v f s) := by
  unfold cvuAliveCfg
  repeat' (with_reducible (first | assumption | apply State.when_keeps | apply cvuAliveReset_keeps | apply plainWrite_keeps | intro _))

theorem ackGroup_keeps (i v : Nat) (s : State) {z : State} (hk : Keeps z s) :
    Keeps z (ackGroup i v s) := by
  unfold ackGroup
  repeat' (with_reducible (first | assumption | apply State.forAll_keeps | apply ack_keeps | intro _))

theorem snagWrite_keeps (e v : Nat) (s : State) {z : State} (hk : Keeps z s) :
    Keeps z (snagWrite e v s) := by
  unfold snagWrite
  repeat' (with_reducible (first | assumption | apply State.when_keeps | apply State.setSnag_keeps | apply ack_keeps | intro _))

theorem unitWrite_keeps (c v : Nat) (s : State) {z : State} (hk : Keeps z s) :
    Keeps z (unitWrite c v s) := by
  unfold unitWrite
  repeat' (with_reducible (first | assumption | apply State.when_keeps | apply unitTapeWrite_keeps | apply unitRelease_keeps | intro _))

theorem mailboxGo_keeps (s : State) {z : State} (hk : Keeps z s) :
    Keeps z (mailboxGo s) := by
  unfold mailboxGo
  repeat' (with_reducible (first | assumption | apply State.wr_keeps | apply Keeps.ite | intro _ | dsimp only | apply Keeps.frame'))

theorem bootWrite_keeps (v : Nat) (s : State) {z : State} (hk : Keeps z s) :
    Keeps z (bootWrite v s) := by
  unfold bootWrite
  repeat' (with_reducible (first | assumption | apply State.when_keeps | apply actReset_keeps | apply hostBoot_keeps | apply jnlForget_keeps | intro _))

theorem frontWrite_keeps (f : Found) (v : Nat) (s : State) {z : State} (hk : Keeps z s) :
    Keeps z (frontWrite f v s) := by
  unfold frontWrite
  repeat' (with_reducible (first
    | assumption | apply State.when_keeps | apply addPhase_keeps | apply swapArm_keeps | apply disarm_keeps
    | apply cmdGo_keeps | apply chalStart_keeps | apply chalKeyWord_keeps | apply chalkStep_keeps | apply tgConfig_keeps
    | apply lathControl_keeps | apply lathAddrWrite_keeps | apply plainWrite_keeps | apply snapshotAsk_keeps
    | apply commitWrite_keeps | apply tgWrite_keeps | apply laneRetrain_keeps | apply laneRetry_keeps | apply mailboxGo_keeps
    | intro _ | split))

theorem pipeWrite_keeps (f : Found) (v : Nat) (s : State) {z : State} (hk : Keeps z s) :
    Keeps z (pipeWrite f v s) := by
  unfold pipeWrite
  repeat' (with_reducible (first
    | assumption | apply State.when_keeps | apply State.wr_keeps | apply hawkWhdr_keeps | apply hawkWdata_keeps
    | apply hawkDropCur_keeps | apply hawkFlush_keeps | apply hawkEcc_keeps | apply stpGo_keeps | apply stpStop_keeps
    | apply rpGo_keeps | apply rpAbort_keeps | apply dmaStart_keeps | apply dmaAbort_keeps | apply dmaAck_keeps
    | apply dmaConfig_keeps | apply cvuInit_keeps | apply cvuCfg_keeps | apply cvuFeed_keeps | apply cvuValue_keeps
    | apply cvuAlive_keeps | apply plainWrite_keeps | apply timePeriod_keeps | apply ptpConfig_keeps | apply uplinkRestore_keeps
    | apply historyWrite_keeps | apply markWrite_keeps | apply cvuAliveCfg_keeps | apply Keeps.ite | intro _ | split))

theorem sysWrite_keeps (f : Found) (v : Nat) (p : Path) (s : State) {z : State} (hk : Keeps z s) :
    Keeps z (sysWrite f v p s) := by
  unfold sysWrite
  repeat' (with_reducible (first
    | assumption | apply State.when_keeps | apply ckptStart_keeps | apply tstUser_keeps | apply tstBroadcast_keeps
    | apply eyeGo_keeps | apply ackAll_keeps | apply sevWrite_keeps | apply forgetUnit_keeps | apply lcWrite_keeps
    | apply keyWrite_keeps | apply policyWrite_keeps | apply rbWrite_keeps | apply dbgWrite_keeps | apply coreHalt_keeps
    | apply pwrWrite_keeps | apply plainWrite_keeps | apply bufferWrite_keeps | apply tstControl_keeps | apply ackGroup_keeps
    | apply snagWrite_keeps | apply unitWrite_keeps | apply bootWrite_keeps | apply Keeps.ite | intro _ | split))

theorem regPut_keeps (f : Found) (v : Nat) (p : Path) (s : State) {z : State} (hk : Keeps z s) :
    Keeps z (regPut f v p s) := by
  unfold regPut
  repeat' (with_reducible (first
    | assumption | apply plainWrite_keeps | apply frontWrite_keeps | apply pipeWrite_keeps | apply sysWrite_keeps
    | apply Keeps.ite | intro _ | split))

theorem writeServe_keeps (a v : Nat) (p : Path) (s : State) {z : State} (hk : Keeps z s) :
    Keeps z (writeServe a v p s) := by
  unfold writeServe
  repeat' (with_reducible (first | assumption | apply tableWrite_keeps | apply regPut_keeps | split))

theorem regWrite_keeps (a v : Nat) (p : Path) (s : State) {z : State} (hk : Keeps z s) :
    Keeps z (regWrite a v p s) := by
  unfold regWrite
  repeat' (with_reducible (first | assumption | apply State.answer_keeps | apply writeServe_keeps | apply Keeps.ite | intro _))

end Sys2Proof.Machine
end

