-- ==== Sys2Proof/Laws/KeepsPaths.lean ====
section
/-! SUPPORT. What the operations of Machine/Paths.lean keep. -/

namespace Sys2Proof.Machine

theorem countAccess_keeps (s : State) {z : State} (hk : Keeps z s) :
    Keeps z (countAccess s) := by
  unfold countAccess
  repeat' (with_reducible (first | assumption | dsimp only | apply Keeps.frame))

theorem tagRefused_keeps (p : Path) (s : State) {z : State} (hk : Keeps z s) :
    Keeps z (tagRefused p s) := by
  unfold tagRefused
  repeat' (with_reducible (first | assumption | apply State.answer_keeps | apply dbgEnd_keeps))

theorem plainRead_keeps (a : Nat) (p : Path) (s : State) {z : State} (hk : Keeps z s) :
    Keeps z (plainRead a p s) := by
  unfold plainRead
  repeat' (with_reducible (first | assumption | apply regRead_keeps | apply tagRefused_keeps | apply Keeps.ite | intro _))

theorem plainPut_keeps (a v : Nat) (p : Path) (s : State) {z : State} (hk : Keeps z s) :
    Keeps z (plainPut a v p s) := by
  unfold plainPut
  repeat' (with_reducible (first
    | assumption | apply regWrite_keeps | apply tagRefused_keeps | apply Keeps.ite
    | intro _))

theorem returnTag_keeps (a : Nat) (p : Path) (k : Option (List Byte × Nat)) (s : State) {z : State} (hk : Keeps z s) :
    Keeps z (returnTag a p k s).2 := by
  unfold returnTag
  repeat' (with_reducible (first | assumption | apply State.drawBytes_keeps | split))

theorem setDbg_keeps (a : Nat) (tag : List Byte) (s : State) {z : State} (hk : Keeps z s) :
    Keeps z (setDbg a tag s) := by
  unfold setDbg
  repeat' (with_reducible (first | assumption | dsimp only | apply Keeps.frame'))

theorem giveTag_keeps (x : Path × Nat × Option (List Byte × Nat)) (s : State) {z : State} (hk : Keeps z s) :
    Keeps z (giveTag x s) := by
  unfold giveTag
  repeat' (with_reducible (first | assumption | apply returnTag_keeps | apply setDbg_keeps | apply Keeps.ite | intro _ | dsimp only | apply Keeps.frame'))

theorem taggedRead_keeps (a : Nat) (p : Path) (s : State) {z : State} (hk : Keeps z s) :
    Keeps z (taggedRead a p s) := by
  unfold taggedRead
  repeat' (with_reducible (first | assumption | apply regRead_keeps | apply countAccess_keeps | apply giveTag_keeps | dsimp only | apply Keeps.frame'))

theorem taggedWrite_keeps (a v : Nat) (tag : List Byte) (p : Path) (s : State) {z : State} (hk : Keeps z s) :
    Keeps z (taggedWrite a v tag p s) := by
  unfold taggedWrite
  repeat' (with_reducible (first
    | assumption | apply regWrite_keeps | apply countAccess_keeps | apply tagRefused_keeps | apply Keeps.ite | intro _
    | split))

theorem tapForce_keeps (e : Nat) (s : State) {z : State} (hk : Keeps z s) :
    Keeps z (tapForce e s) := by
  unfold tapForce
  repeat' (with_reducible (first | assumption | apply actReset_keeps | apply Keeps.ite | intro _ | dsimp only | apply Keeps.frame'))

theorem tapLoad_keeps (ir : Nat) (s : State) {z : State} (hk : Keeps z s) :
    Keeps z (tapLoad ir s) := by
  unfold tapLoad
  repeat' (with_reducible (first | assumption | apply tapForce_keeps))

theorem tapReset_keeps (s : State) {z : State} (hk : Keeps z s) :
    Keeps z (tapReset s) := by
  unfold tapReset
  repeat' (with_reducible (first | assumption | apply tapForce_keeps))

theorem dbgRead_keeps (a : Nat) (tag : List Byte) (s : State) {z : State} (hk : Keeps z s) :
    Keeps z (dbgRead a tag s) := by
  unfold dbgRead
  repeat' (with_reducible (first
    | assumption | apply regRead_keeps | apply tagRefused_keeps | apply setDbg_keeps | apply taggedRead_keeps
    | apply Keeps.ite | intro _ | split))

theorem dbgPut_keeps (a v : Nat) (tag : List Byte) (s : State) {z : State} (hk : Keeps z s) :
    Keeps z (dbgPut a v tag s) := by
  unfold dbgPut
  repeat' (with_reducible (first | assumption | apply State.answer_keeps | apply setDbg_keeps | apply taggedWrite_keeps | apply Keeps.ite | intro _))

theorem dbgCapture_keeps (s : State) {z : State} (hk : Keeps z s) :
    Keeps z (dbgCapture s) := by
  unfold dbgCapture
  repeat' (with_reducible (first | assumption | dsimp only | apply Keeps.frame'))

theorem smbPointer_keeps (a : Nat) (s : State) {z : State} (hk : Keeps z s) :
    Keeps z (smbPointer a s) := by
  unfold smbPointer
  repeat' (with_reducible (first | assumption | dsimp only | apply Keeps.frame'))

theorem smbRead_keeps (s : State) {z : State} (hk : Keeps z s) :
    Keeps z (smbRead s) := by
  unfold smbRead
  repeat' (with_reducible (first | assumption | apply regRead_keeps | dsimp only | apply Keeps.frame'))

theorem smbBad_keeps (s : State) {z : State} (hk : Keeps z s) :
    Keeps z (smbBad s) := by
  unfold smbBad
  repeat' (with_reducible (first | assumption | dsimp only | apply Keeps.frame'))

theorem mgmtUndone_keeps (o : MgmtOp) (st : Nat) (s : State) {z : State} (hk : Keeps z s) :
    Keeps z (mgmtUndone o st s).2 := by
  unfold mgmtUndone
  repeat' (with_reducible (first | assumption | apply State.draw_keeps | split))

theorem mgmtEntry_keeps (p : Path) (o : MgmtOp) (s : State) {z : State} (hk : Keeps z s) :
    Keeps z (mgmtEntry p o s).2.2 := by
  unfold mgmtEntry
  repeat' (with_reducible (first | assumption | apply mgmtUndone_keeps | split | dsimp only))

theorem mgmtServe_keeps (p : Path) (os : List MgmtOp) (failed : Bool) (s : State) {z : State} (hk : Keeps z s) :
    Keeps z (mgmtServe p os failed s).2.2.2 := by
  induction os generalizing failed s with
  | nil => exact hk
  | cons o t ih =>
    unfold mgmtServe
    repeat' (with_reducible (first
    | assumption | apply ih | apply mgmtUndone_keeps | apply mgmtEntry_keeps | apply regRead_keeps | apply regWrite_keeps
    | split | dsimp only))

theorem MgmtReq.run_keeps (q : MgmtReq) (s : State) {z : State} (hk : Keeps z s) :
    Keeps z (MgmtReq.run q s).2 := by
  unfold MgmtReq.run
  repeat' (with_reducible (first | assumption | apply mgmtEntry_keeps | apply mgmtServe_keeps | split))

theorem mgmtReply_keeps (q : MgmtReq) (s : State) {z : State} (hk : Keeps z s) :
    Keeps z (mgmtReply q s) := by
  unfold mgmtReply
  repeat' (with_reducible (first | assumption | apply offerWait_keeps | apply Keeps.ite | intro _ | dsimp only | apply Keeps.frame'))

theorem setReq_keeps (p : Path) (q : Option MgmtReq) (s : State) {z : State} (hk : Keeps z s) :
    Keeps z (setReq p q s) := by
  unfold setReq
  repeat' (with_reducible (first | assumption | dsimp only | apply Keeps.frame'))

theorem mgmtRun_keeps (p : Path) (k : Nat) (s : State) {z : State} (hk : Keeps z s) : Keeps z (mgmtRun p k s) := by
  induction k generalizing s with
  | zero => exact hk
  | succ k ih =>
    unfold mgmtRun
    repeat' (with_reducible (first
    | assumption | apply ih | apply MgmtReq.run_keeps | apply setReq_keeps | apply mgmtReply_keeps | apply Keeps.ite
    | intro _ | split))

theorem mgmtTake_keeps (p : Path) (x : Nat) (mac f : List Byte) (ops : List MgmtOp) (s : State) {z : State} (hk : Keeps z s) :
    Keeps z (mgmtTake p x mac f ops s) := by
  unfold mgmtTake
  repeat' (with_reducible (first | assumption | apply State.inc_keeps | apply mgmtRun_keeps | dsimp only | apply Keeps.frame'))

theorem mgmtReceived_keeps (x : Nat) (f : List Byte) (s : State) {z : State} (hk : Keeps z s) :
    Keeps z (mgmtReceived x f s) := by
  unfold mgmtReceived
  repeat' (with_reducible (first | assumption | apply State.inc_keeps | apply mgmtTake_keeps | apply Keeps.ite | intro _ | split))

theorem frameReceived_keeps (x : Nat) (f : RxFrame) (s : State) {z : State} (hk : Keeps z s) :
    Keeps z (frameReceived x f s) := by
  unfold frameReceived
  repeat' (with_reducible (first | assumption | apply State.inc_keeps | apply mgmtReceived_keeps | apply Keeps.ite | intro _ | split))

theorem mgeReceived_keeps (f : RxFrame) (s : State) {z : State} (hk : Keeps z s) :
    Keeps z (mgeReceived f s) := by
  unfold mgeReceived
  repeat' (with_reducible (first | assumption | apply State.inc_keeps | apply mgmtTake_keeps | apply Keeps.ite | intro _ | split))

theorem mgeLink_keeps (up : Bool) (s : State) {z : State} (hk : Keeps z s) :
    Keeps z (mgeLink up s) := by
  unfold mgeLink
  repeat' (with_reducible (first | assumption | apply State.wr_keeps))

theorem mailboxWrite_keeps (cmd : Nat) (args : List Nat) (s : State) {z : State} (hk : Keeps z s) :
    Keeps z (mailboxWrite cmd args s) := by
  unfold mailboxWrite
  repeat' (with_reducible (first | assumption | apply State.forAll_keeps | apply State.wr_keeps | apply mailboxGo_keeps | intro _))

theorem mailboxEnd_keeps (res : Nat) (rsp : List Nat) (s : State) {z : State} (hk : Keeps z s) :
    Keeps z (mailboxEnd res rsp s) := by
  unfold mailboxEnd
  repeat' (with_reducible (first
    | assumption | apply State.forAll_keeps | apply State.wr_keeps | apply State.draw_keeps | intro _ | split | dsimp only
    | apply Keeps.frame'))

theorem mailboxServe_keeps (cmd : Nat) (args : List Nat) (s : State) {z : State} (hk : Keeps z s) :
    Keeps z (mailboxServe cmd args s) := by
  have h1 : ∀ a bs, Keeps z { s with scratch := memWrite s.scratch a bs } := fun a bs => hk.upd rfl (Nat.le_refl _)
    (fun c => ⟨c.regs, c.cnt, c.snap, c.snapNext, c.mram, c.dram, memWrite_wf _ _ c.scratch, c.hostload⟩) rfl rfl rfl
  unfold mailboxServe
  repeat' (with_reducible (first | assumption | apply mailboxEnd_keeps | apply servoTo_keeps | apply h1 | apply Keeps.ite | intro _ | split))

theorem mailboxDone_keeps (fail : Bool) (s : State) {z : State} (hk : Keeps z s) :
    Keeps z (mailboxDone fail s) := by
  unfold mailboxDone
  repeat' (with_reducible (first | assumption | apply mailboxEnd_keeps | apply mailboxServe_keeps | apply Keeps.ite | intro _ | split))

theorem accessTimeout_keeps (p : Path) (s : State) {z : State} (hk : Keeps z s) :
    Keeps z (accessTimeout p s) := by
  unfold accessTimeout
  repeat' (with_reducible (first | assumption | apply State.answer_keeps | apply hawkForsake_keeps | split))

theorem resume_keeps (s : State) {z : State} (hk : Keeps z s) :
    Keeps z (resume s) := by
  unfold resume
  repeat' (with_reducible (first | assumption | apply giveTag_keeps | apply mgmtRun_keeps | apply Keeps.foldl | intro _))

end Sys2Proof.Machine
end

