-- ==== Sys2Proof/Laws/KeepsDmaMove.lean ====
section
/-! SUPPORT. What the operations of Machine/DmaMove.lean keep. -/

namespace Sys2Proof.Machine

theorem dmaRegRead_keeps (fix await : Bool) (n a : Nat) (acc : List Byte) (s : State) {z : State} (hk : Keeps z s) :
    Keeps z (dmaRegRead fix await n a acc s).2 := by
  induction n generalizing await a acc s with
  | zero => exact hk
  | succ n ih =>
    unfold dmaRegRead
    repeat' (with_reducible (first | assumption | apply ih | apply regRead_keeps | split | dsimp only))

theorem dmaRegWrite_keeps (fix : Bool) (ws : List Nat) (a done : Nat) (s : State) {z : State} (hk : Keeps z s) :
    Keeps z (dmaRegWrite fix ws a done s).2.2.2 := by
  induction ws generalizing a done s with
  | nil => exact hk
  | cons w t ih =>
    unfold dmaRegWrite
    repeat' (with_reducible (first | assumption | apply ih | apply regWrite_keeps | split | dsimp only))

theorem dmaWords_keeps (c : Nat) (d : DmaDesc) (n : Nat) (s : State) {z : State} (hk : Keeps z s) :
    Keeps z (dmaWords c d n s).2 := by
  unfold dmaWords
  repeat' (with_reducible (first | assumption | apply dmaRegRead_keeps))

theorem dmaGet_keeps (c : Nat) (d : DmaDesc) (err : MemErr) (s : State) {z : State} (hk : Keeps z s) :
    Keeps z (dmaGet c d err s).2 := by
  unfold dmaGet
  repeat' (with_reducible (first | assumption | apply devRead_keeps | apply dmaWords_keeps | split))

theorem dmaHold_keeps (c : Nat) (got : List Byte) (await : Bool) (s : State) {z : State} (hk : Keeps z s) :
    Keeps z (dmaHold c got await s) := by
  unfold dmaHold
  repeat' (with_reducible (first | assumption | apply State.setDmaCh_keeps))

theorem dmaSet_keeps (d : DmaDesc) (bs : List Byte) (s : State) {z : State} (hk : Keeps z s) :
    Keeps z (dmaSet d bs s).2.2.2 := by
  unfold dmaSet
  repeat' (with_reducible (first | assumption | apply devWrite_keeps | apply dmaRegWrite_keeps | split | dsimp only))

theorem dmaMoved_keeps (c n wrote : Nat) (s : State) {z : State} (hk : Keeps z s) :
    Keeps z (dmaMoved c n wrote s) := by
  unfold dmaMoved
  repeat' (with_reducible (first | assumption | apply State.inc_keeps | apply State.setDmaCh_keeps | split))

theorem dmaLanded_keeps (c n a : Nat) (e : Option Nat) (s : State) {z : State} (hk : Keeps z s) :
    Keeps z (dmaLanded c n a e s) := by
  unfold dmaLanded
  repeat' (with_reducible (first | assumption | apply dmaHalt_keeps | apply dmaMoved_keeps | split))

theorem dmaBlock_keeps (c : Nat) (d : DmaDesc) (err : MemErr) (s : State) {z : State} (hk : Keeps z s) :
    Keeps z (dmaBlock c d err s) := by
  unfold dmaBlock
  repeat' (with_reducible (first
    | assumption | apply dmaHalt_keeps | apply dmaGet_keeps | apply dmaHold_keeps | apply dmaSet_keeps
    | apply dmaLanded_keeps | split | dsimp only))

theorem dmaReadBack_keeps (c : Nat) (d : DmaDesc) (err : MemErr) (s : State) {z : State} (hk : Keeps z s) :
    Keeps z (dmaReadBack c d err s) := by
  unfold dmaReadBack
  repeat' (with_reducible (first
    | assumption | apply devRead_keeps | apply dmaHalt_keeps | apply dmaComplete_keeps | apply dmaRegRead_keeps
    | apply dmaHold_keeps | apply Keeps.ite | intro _ | split | dsimp only))

theorem dmaMove_keeps (c : Nat) (err : MemErr) (s : State) {z : State} (hk : Keeps z s) :
    Keeps z (dmaMove c err s) := by
  unfold dmaMove
  repeat' (with_reducible (first | assumption | apply dmaBlock_keeps | apply Keeps.ite | intro _ | split))

theorem dmaBack_keeps (c : Nat) (err : MemErr) (s : State) {z : State} (hk : Keeps z s) :
    Keeps z (dmaBack c err s) := by
  unfold dmaBack
  repeat' (with_reducible (first | assumption | apply dmaReadBack_keeps | apply Keeps.ite | intro _ | split))

theorem dmaNext_keeps (c : Nat) (err : MemErr) (s : State) {z : State} (hk : Keeps z s) :
    Keeps z (dmaNext c err s) := by
  unfold dmaNext
  repeat' (with_reducible (first | assumption | apply dmaFetch_keeps | apply dmaMove_keeps | apply dmaBack_keeps | apply Keeps.ite | intro _ | split))

theorem dmaFail_keeps (c : Nat) (err : MemErr) (s : State) {z : State} (hk : Keeps z s) :
    Keeps z (dmaFail c err s) := by
  unfold dmaFail
  repeat' (with_reducible (first | assumption | apply dmaNext_keeps | apply Keeps.ite | intro _))

theorem dmaReadHang_keeps (c : Nat) (d : DmaDesc) (word : Nat) (s : State) {z : State} (hk : Keeps z s) :
    Keeps z (dmaReadHang c d word s) := by
  unfold dmaReadHang
  repeat' (with_reducible (first | assumption | apply dmaHalt_keeps | apply dmaWords_keeps | apply Keeps.ite | intro _ | split | dsimp only))

theorem dmaWriteHang_keeps (c : Nat) (d : DmaDesc) (word : Nat) (s : State) {z : State} (hk : Keeps z s) :
    Keeps z (dmaWriteHang c d word s) := by
  unfold dmaWriteHang
  repeat' (with_reducible (first
    | assumption | apply State.when_keeps | apply State.draw_keeps | apply dmaHalt_keeps | apply regWrite_keeps
    | apply dmaRegWrite_keeps | apply dmaGet_keeps | apply dmaHold_keeps | apply dmaLanded_keeps | intro _ | split | dsimp only))

theorem dmaTimeout_keeps (c : Nat) (hang : DmaHang) (s : State) {z : State} (hk : Keeps z s) :
    Keeps z (dmaTimeout c hang s) := by
  unfold dmaTimeout
  repeat' (with_reducible (first
    | assumption | apply dmaHalt_keeps | apply setCur_keeps | apply dmaReadHang_keeps | apply dmaWriteHang_keeps
    | apply Keeps.ite | intro _ | split))

end Sys2Proof.Machine
end

