-- ==== Sys2Proof/Laws/KeepsCompose.lean ====
section
/-! SUPPORT. What the operations of Machine/Compose.lean keep. -/

namespace Sys2Proof.Machine

theorem lineDone_keeps (n : Nat) (s : State) {z : State} (hk : Keeps z s) :
    Keeps z (lineDone n s) := by
  unfold lineDone
  repeat' (with_reducible (first
    | assumption | apply State.forAll_keeps | apply State.setPort_keeps | apply renderLine_keeps | apply skimTap_keeps
    | apply Keeps.ite | intro _ | split))

theorem tileOut_keeps (t : Tile) (s : State) {z : State} (hk : Keeps z s) :
    Keeps z (tileOut t s) := by
  unfold tileOut
  repeat' (with_reducible (first | assumption | apply tileSubmit_keeps | apply hstTap_keeps | apply upTile_keeps | apply Keeps.ite | intro _))

theorem tilesOut_keeps (g : Nat) (s : State) {z : State} (hk : Keeps z s) :
    Keeps z (tilesOut g s) := by
  unfold tilesOut
  repeat' (with_reducible (first | assumption | apply State.setStn_keeps | apply tileOut_keeps | apply Keeps.foldl | intro _))

theorem rowEmit_keeps (g : Nat) (s : State) {z : State} (hk : Keeps z s) :
    Keeps z (rowEmit g s) := by
  unfold rowEmit
  repeat' (with_reducible (first
    | assumption | apply hstTap_keeps | apply upRow_keeps | refine Keeps.someSnd (by assumption) (seamEmit_keeps _ _ _ ?_)
    | apply skimRowEmitted_keeps | apply plumbExpire_keeps | apply groupDrained_keeps | apply tilesOut_keeps | split))

theorem rowStencil_keeps (g : Nat) (s : State) {z : State} (hk : Keeps z s) :
    Keeps z (rowStencil g s) := by
  unfold rowStencil
  repeat' (with_reducible (first | assumption | apply stencilRow_keeps | apply commitClear_keeps | apply groupDrained_keeps | apply tilesOut_keeps))

theorem recordNext_keeps (q : Nat) (s : State) {z : State} (hk : Keeps z s) :
    Keeps z (recordNext q s) := by
  unfold recordNext
  repeat' (with_reducible (first
    | assumption | apply hstTap_keeps | apply upObject_keeps | refine Keeps.someSnd (by assumption) (plumbNext_keeps _ _ ?_)
    | apply commitClear_keeps | split))

theorem copyBackEnd_keeps (e : Nat) (s : State) {z : State} (hk : Keeps z s) :
    Keeps z (copyBackEnd e s) := by
  unfold copyBackEnd
  repeat' (with_reducible (first | assumption | apply copyBackDone_keeps | apply skimSwapDone_keeps))

theorem historyAllocate_keeps (s : State) {z : State} (hk : Keeps z s) :
    Keeps z (historyAllocate s) := by
  unfold historyAllocate
  repeat' (with_reducible (first | assumption | apply hstAllocate_keeps | apply rpCovered_keeps))

theorem stippleDone_keeps (u : StpUser) (err : MemErr) (s : State) {z : State} (hk : Keeps z s) :
    Keeps z (stippleDone u err s) := by
  unfold stippleDone
  repeat' (with_reducible (first | assumption | apply stpBlockDone_keeps | apply pipeFinish_keeps | split))

theorem stippleParity_keeps (u : StpUser) (s : State) {z : State} (hk : Keeps z s) :
    Keeps z (stippleParity u s) := by
  unfold stippleParity
  repeat' (with_reducible (first | assumption | apply State.inc_keeps | apply State.raise_keeps | apply stpStop_keeps | apply pipeFinish_keeps | split))

theorem untested_keeps (l : Nat) (f : State → State) (s : State) {z : State} (hf : ∀ t, Keeps z t → Keeps z (f t))
    (hk : Keeps z s) : Keeps z (untested l f s) := by
  unfold untested
  split
  · exact hf _ hk
  · exact hk

theorem adapted_keeps (n : Nat) (eq : RxEq) (s : State) {z : State} (hk : Keeps z s) :
    Keeps z (adapted n eq s) := by
  unfold adapted
  repeat' (with_reducible (first | assumption | apply adaptationEnd_keeps | apply storeEq_keeps))

theorem windowMeasured_keeps (n bad pe height width : Nat) (eq : RxEq) (s : State) {z : State} (hk : Keeps z s) :
    Keeps z (windowMeasured n bad pe height width eq s) := by
  unfold windowMeasured
  repeat' (with_reducible (first | assumption | apply judgeWindow_keeps | apply storeEq_keeps | apply storeEye_keeps | apply Keeps.ite | intro _))

theorem settled_keeps (n : Nat) (s : State) {z : State} (hk : Keeps z s) :
    Keeps z (settled n s) := by
  unfold settled
  repeat' (with_reducible (first | assumption | apply onLane_keeps | apply Keeps.ite | intro _))

theorem burstEnd_keeps (n : Nat) (s : State) {z : State} (hk : Keeps z s) :
    Keeps z (burstEnd n s) := by
  unfold burstEnd
  repeat' (with_reducible (first | assumption | apply onLane_keeps))

theorem trigEntryDue_keeps (n : Nat) (s : State) {z : State} (hk : Keeps z s) :
    Keeps z (trigEntryDue n s) := by
  unfold trigEntryDue
  repeat' (with_reducible (first
    | assumption | apply State.atTime_keeps | apply trigExpireDue_keeps | split
    | dsimp only))

theorem chalKeyPut_keeps (n i v : Nat) (p : Path) (s : State) {z : State} (hk : Keeps z s) :
    Keeps z (chalKeyPut n i v p s) := by
  unfold chalKeyPut
  repeat' (with_reducible (first | assumption | apply chalKeyWord_keeps | apply Keeps.ite | intro _))

theorem amRegained_keeps (u : Nat) (s : State) {z : State} (hk : Keeps z s) :
    Keeps z (amRegained u s) := by
  unfold amRegained
  repeat' (with_reducible (first | assumption | apply State.wr_keeps | apply Keeps.ite | intro _))

theorem lathThen_keeps (f : State → State) (s : State) {z : State} (hf : ∀ t, Keeps z t → Keeps z (f t)) (hk : Keeps z s) :
    Keeps z (lathThen f s) :=
  pwrLathEnd_keeps _ (bootLath_keeps _ (hf _ hk))

theorem retryExpiry_keeps (n : Nat) (s : State) {z : State} (hk : Keeps z s) :
    Keeps z (retryExpiry n s) := by
  unfold retryExpiry
  repeat' (with_reducible (first | assumption | apply attempt_keeps | apply Keeps.ite | intro _))

theorem ptpReceived_keeps (x : Nat) (hdr : PtpHdr) (m : PtpMsg) (s : State) {z : State} (hk : Keeps z s) :
    Keeps z (ptpReceived x hdr m s) := by
  unfold ptpReceived
  repeat' (with_reducible (first | assumption | apply State.when_keeps | apply ptpMessage_keeps | apply backwardStep_keeps | intro _))

theorem messageSent_keeps (n : Nat) (s : State) {z : State} (hk : Keeps z s) :
    Keeps z (messageSent n s) := by
  unfold messageSent
  repeat' (with_reducible (first | assumption | apply bcSent_keeps | dsimp only | apply Keeps.frame'))

theorem waitServed_keeps (x c : Nat) (s : State) {z : State} (hk : Keeps z s) :
    Keeps z (waitServed x c s) := by
  unfold waitServed
  repeat' (with_reducible (first | assumption | apply waitAccept_keeps | apply rpPump_keeps))

theorem frameSent_keeps (x : Nat) (s : State) {z : State} (hk : Keeps z s) :
    Keeps z (frameSent x s) := by
  unfold frameSent
  repeat' (with_reducible (first | assumption | apply frameDone_keeps))

theorem idleCycle_keeps (s : State) {z : State} (hk : Keeps z s) :
    Keeps z (idleCycle s) := by
  unfold idleCycle
  repeat' (with_reducible (first | assumption | apply Keeps.ite | intro _ | apply Keeps.frame'))

theorem slewComplete_keeps (s : State) {z : State} (hk : Keeps z s) :
    Keeps z (slewComplete s) := by
  unfold slewComplete
  repeat' (with_reducible (first | assumption | apply Keeps.ite | intro _ | apply Keeps.frame'))

theorem settleRounds_keeps (k : Nat) (s : State) {z : State} (hk : Keeps z s) : Keeps z (settleRounds k s) := by
  induction k generalizing s with
  | zero => exact settleEvents_keeps _ hk
  | succ k ih =>
    unfold settleRounds
    repeat' (with_reducible (first | assumption | apply ih | apply settleEvents_keeps | apply resume_keeps | apply Keeps.ite | intro _))

theorem settle_keeps (s : State) {z : State} (hk : Keeps z s) :
    Keeps z (settle s) := by
  unfold settle
  repeat' (with_reducible (first | assumption | apply settleRounds_keeps))

end Sys2Proof.Machine
end

