-- ==== Sys2Proof/Laws/KeepsHawkMove.lean ====
section
/-! SUPPORT. What the operations of Machine/HawkMove.lean keep. -/

namespace Sys2Proof.Machine

theorem slotWrite_keeps (q k : Nat) (s : State) {z : State} (hk : Keeps z s) :
    Keeps z (slotWrite q k s) := by
  unfold slotWrite
  repeat' (with_reducible (first | assumption | apply State.drawBytes_keeps | apply dramWrite_keeps))

theorem slotRead_keeps (q k : Nat) (i : HawkItem) (s : State) {z : State} (hk : Keeps z s) :
    Keeps z (slotRead q k i s).2 := by
  unfold slotRead
  repeat' (with_reducible (first | assumption | apply State.draw_keeps | apply dramRead_keeps | (refine Keeps.trd (by assumption) ?_) | split))

theorem hawkMove_keeps (q : Nat) (s : State) {z : State} (hk : Keeps z s) :
    Keeps z (hawkMove q s) := by
  unfold hawkMove
  repeat' (with_reducible (first
    | assumption | apply State.inc_keeps | apply State.setHq_keeps | apply hawkServe_keeps | apply slotWrite_keeps
    | apply slotRead_keeps | split | dsimp only))

end Sys2Proof.Machine
end

