-- ==== Sys2Proof/Laws/KeepsExec.lean ====
section
/-! SUPPORT. Every command takes effect, and what every command and every step keeps. -/

namespace Sys2Proof.Machine

theorem act_keeps (f : State → State) (s : State) (hf : ∀ z t, Keeps z t → Keeps z (f t)) : ∃ t, act f s = .next t ∧ Keeps s t := by
  refine ⟨_, rfl, ?_⟩
  split
  · exact Keeps.refl s
  · exact settle_keeps _ (hf _ _ (Keeps.refl s))

theorem actAon_keeps (f : State → State) (s : State) (hf : ∀ z t, Keeps z t → Keeps z (f t)) :
    ∃ t, actAon f s = .next t ∧ Keeps s t := by
  refine ⟨_, rfl, ?_⟩
  split
  · exact Keeps.refl s
  · exact settle_keeps _ (hf _ _ (Keeps.refl s))

theorem execClockMonitorCheck_keeps (coreBad memBad upBad mgmtBad : Bool) (s : State) :
    ∃ t, execClockMonitorCheck coreBad memBad upBad mgmtBad s = .next t ∧ Keeps s t :=
  act_keeps _ s (fun _ _ h => clockCheck_keeps _ _ _ _ _ h)

theorem execSnapshotReq_keeps (s : State) :
    ∃ t, execSnapshotReq s = .next t ∧ Keeps s t :=
  act_keeps _ s (fun _ _ h => snapshotAsk_keeps _ h)

theorem execSnapshotPeriodExpiry_keeps (s : State) :
    ∃ t, execSnapshotPeriodExpiry s = .next t ∧ Keeps s t :=
  act_keeps _ s (fun _ _ h => by
    split
    · exact h
    · exact snapshotPeriod_keeps _ h)

theorem execSnapshotComplete_keeps (s : State) :
    ∃ t, execSnapshotComplete s = .next t ∧ Keeps s t :=
  act_keeps _ s (fun _ _ h => snapshotDone_keeps _ h)

theorem execBlockLockAcquired_keeps (n : Fin 192) (s : State) :
    ∃ t, execBlockLockAcquired n s = .next t ∧ Keeps s t :=
  act_keeps _ s (fun _ _ h => untested_keeps _ _ _ (fun _ h => lockFound_keeps _ _ h) h)

theorem execBlockLockLost_keeps (n : Sensed) (s : State) :
    ∃ t, execBlockLockLost n s = .next t ∧ Keeps s t :=
  act_keeps _ s (fun _ _ h => by
    repeat' (first | assumption | apply untested_keeps | apply lockLost_keeps | apply Keeps.ite | intro _ | split))

theorem execLockTimerExpiry_keeps (n : Sensed) (s : State) :
    ∃ t, execLockTimerExpiry n s = .next t ∧ Keeps s t :=
  act_keeps _ s (fun _ _ h => lockTimeout_keeps _ _ _ h)

theorem execTrainBudgetExpiry_keeps (n : Fin 192) (s : State) :
    ∃ t, execTrainBudgetExpiry n s = .next t ∧ Keeps s t :=
  act_keeps _ s (fun _ _ h => budgetExpiry_keeps _ _ h)

theorem execAdaptationEnd_keeps (n : Fin 192) (eq : RxEq) (s : State) :
    ∃ t, execAdaptationEnd n eq s = .next t ∧ Keeps s t :=
  act_keeps _ s (fun _ _ h => adapted_keeps _ _ _ h)

theorem execMeasureWindowEnd_keeps (n : Fin 192) (badHeaders pseudoErrors height width : Nat) (eq : RxEq) (s : State) :
    ∃ t, execMeasureWindowEnd n badHeaders pseudoErrors height width eq s = .next t ∧ Keeps s t :=
  act_keeps _ s (fun _ _ h => windowMeasured_keeps _ _ _ _ _ _ _ h)

theorem execSettleExpiry_keeps (n : Fin 192) (s : State) :
    ∃ t, execSettleExpiry n s = .next t ∧ Keeps s t :=
  act_keeps _ s (fun _ _ h => settled_keeps _ _ h)

theorem execTapreqTimeout_keeps (n : Fin 192) (s : State) :
    ∃ t, execTapreqTimeout n s = .next t ∧ Keeps s t :=
  act_keeps _ s (fun _ _ h => tapTimeout_keeps _ _ h)

theorem execLinkupTimeout_keeps (n : Fin 192) (s : State) :
    ∃ t, execLinkupTimeout n s = .next t ∧ Keeps s t :=
  act_keeps _ s (fun _ _ h => linkUpTimeout_keeps _ _ h)

theorem execPortUp_keeps (n : Fin 192) (s : State) :
    ∃ t, execPortUp n s = .next t ∧ Keeps s t :=
  act_keeps _ s (fun _ _ h => untested_keeps _ _ _ (fun _ h => laneClear_keeps _ _ h) h)

theorem execRetryTimerExpiry_keeps (n : Fin 192) (s : State) :
    ∃ t, execRetryTimerExpiry n s = .next t ∧ Keeps s t :=
  act_keeps _ s (fun _ _ h => retryExpiry_keeps _ _ h)

theorem execLaneRetrain_keeps (n : Fin 192) (s : State) :
    ∃ t, execLaneRetrain n s = .next t ∧ Keeps s t :=
  act_keeps _ s (fun _ _ h => laneRetrain_keeps _ _ h)

theorem execLaneRetry_keeps (n : Fin 192) (s : State) :
    ∃ t, execLaneRetry n s = .next t ∧ Keeps s t :=
  act_keeps _ s (fun _ _ h => laneRetry_keeps _ _ h)

theorem execRetrainBurstEnd_keeps (n : Fin 192) (s : State) :
    ∃ t, execRetrainBurstEnd n s = .next t ∧ Keeps s t :=
  act_keeps _ s (fun _ _ h => burstEnd_keeps _ _ h)

theorem execFillerReceived_keeps (n : Fin 192) (fill : Filler) (s : State) :
    ∃ t, execFillerReceived n fill s = .next t ∧ Keeps s t :=
  act_keeps _ s (fun _ _ h => by
    repeat' (first | assumption | apply untested_keeps | apply rxBlock_keeps | apply Keeps.ite | intro _ | split))

theorem execTrainReceived_keeps (n : Fin 192) (block : Block) (fill : Fin 65) (s : State) :
    ∃ t, execTrainReceived n block fill s = .next t ∧ Keeps s t :=
  act_keeps _ s (fun _ _ h => by
    repeat' (first | assumption | apply untested_keeps | apply rxBlock_keeps | apply Keeps.ite | intro _ | split))

theorem execAlignReceived_keeps (n : Fin 192) (block : Block) (missed : Bool) (skew : Nat) (s : State) :
    ∃ t, execAlignReceived n block missed skew s = .next t ∧ Keeps s t :=
  act_keeps _ s (fun _ _ h => by
    repeat' (first | assumption | apply untested_keeps | apply alignMissing_keeps | apply rxBlock_keeps | apply Keeps.ite | intro _ | split))

theorem execReservedBlockReceived_keeps (n : Fin 192) (block : Block) (s : State) :
    ∃ t, execReservedBlockReceived n block s = .next t ∧ Keeps s t :=
  act_keeps _ s (fun _ _ h => by
    repeat' (first | assumption | apply untested_keeps | apply rxBlock_keeps | apply Keeps.ite | intro _ | split))

theorem execLineHeaderReceived_keeps (n : Fin 192) (blocks : List (Fin 4 × Block)) (s : State) :
    ∃ t, execLineHeaderReceived n blocks s = .next t ∧ Keeps s t :=
  act_keeps _ s (fun _ _ h => by
    repeat' (first | assumption | apply untested_keeps | apply rxBlocks_keeps | apply Keeps.ite | intro _ | split))

theorem execLinePayloadEnd_keeps (n : Fin 192) (rest : List (Fin 4 × Block)) (last : Fin 4 × Block) (s : State) :
    ∃ t, execLinePayloadEnd n rest last s = .next t ∧ Keeps s t :=
  act_keeps _ s (fun _ _ h => by
    repeat' (first | assumption | apply untested_keeps | apply rxBlocks_keeps | apply Keeps.ite | intro _ | split))

theorem execTriggerEntryExpiry_keeps (n : Fin 192) (s : State) :
    ∃ t, execTriggerEntryExpiry n s = .next t ∧ Keeps s t :=
  act_keeps _ s (fun _ _ h => trigEntryDue_keeps _ _ h)

theorem execChalkStep_keeps (s : State) :
    ∃ t, execChalkStep s = .next t ∧ Keeps s t :=
  act_keeps _ s (fun _ _ h => chalkStep_keeps _ h)

theorem execAdjPhaseWrite_keeps (v : Word) (s : State) :
    ∃ t, execAdjPhaseWrite v s = .next t ∧ Keeps s t :=
  act_keeps _ s (fun _ _ h => addPhase_keeps _ _ h)

theorem execSlewComplete_keeps (s : State) :
    ∃ t, execSlewComplete s = .next t ∧ Keeps s t :=
  act_keeps _ s (fun _ _ h => slewComplete_keeps _ h)

theorem execTgEnable_keeps (g : Fin 24) (s : State) :
    ∃ t, execTgEnable g s = .next t ∧ Keeps s t :=
  act_keeps _ s (fun _ _ h => tgWrite_keeps _ _ _ h)

theorem execTgDisable_keeps (g : Fin 24) (s : State) :
    ∃ t, execTgDisable g s = .next t ∧ Keeps s t :=
  act_keeps _ s (fun _ _ h => tgWrite_keeps _ _ _ h)

theorem execTgConfigWrite_keeps (g : Fin 24) (off : Fin 16) (v : Word) (s : State) :
    ∃ t, execTgConfigWrite g off v s = .next t ∧ Keeps s t :=
  act_keeps _ s (fun _ _ h => tgConfig_keeps _ _ _ _ h)

theorem execTriggerSend_keeps (g : Fin 24) (s : State) :
    ∃ t, execTriggerSend g s = .next t ∧ Keeps s t :=
  act_keeps _ s (fun _ _ h => triggerSend_keeps _ _ h)

theorem execBcMessageSent_keeps (n : Fin 192) (s : State) :
    ∃ t, execBcMessageSent n s = .next t ∧ Keeps s t :=
  act_keeps _ s (fun _ _ h => messageSent_keeps _ _ h)

theorem execBadMessageReceived_keeps (n : Fin 192) (units : List Block) (s : State) :
    ∃ t, execBadMessageReceived n units s = .next t ∧ Keeps s t :=
  act_keeps _ s (fun _ _ h => by
    repeat' (first | assumption | apply untested_keeps | apply Keeps.foldl | apply rxBlock_keeps | apply Keeps.ite | intro _ | split))

theorem execSyncExchangeTimer_keeps (n : Fin 192) (s : State) :
    ∃ t, execSyncExchangeTimer n s = .next t ∧ Keeps s t :=
  act_keeps _ s (fun _ _ h => syncStart_keeps _ _ h)

theorem execSyncRspReceived_keeps (n : Fin 192) (seq : Byte) (t2 t3 : BitVec 64) (s : State) :
    ∃ t, execSyncRspReceived n seq t2 t3 s = .next t ∧ Keeps s t :=
  act_keeps _ s (fun _ _ h => by
    repeat' (first | assumption | apply msgWhole_keeps | apply syncRsp_keeps | apply Keeps.ite | intro _ | split))

theorem execSyncTimeout_keeps (n : Fin 192) (s : State) :
    ∃ t, execSyncTimeout n s = .next t ∧ Keeps s t :=
  act_keeps _ s (fun _ _ h => syncTimeout_keeps _ _ h)

theorem execHeadCmdGo_keeps (n : Fin 192) (s : State) :
    ∃ t, execHeadCmdGo n s = .next t ∧ Keeps s t :=
  act_keeps _ s (fun _ _ h => cmdGo_keeps _ _ h)

theorem execHeadRspReceived_keeps (n : Fin 192) (tag : BitVec 16) (data : List Byte) (s : State) :
    ∃ t, execHeadRspReceived n tag data s = .next t ∧ Keeps s t :=
  act_keeps _ s (fun _ _ h => by
    repeat' (first | assumption | apply msgWhole_keeps | apply headRsp_keeps | apply Keeps.ite | intro _ | split))

theorem execHeadCmdTimeout_keeps (n : Fin 192) (s : State) :
    ∃ t, execHeadCmdTimeout n s = .next t ∧ Keeps s t :=
  act_keeps _ s (fun _ _ h => cmdTimeout_keeps _ _ h)

theorem execHeadEvtReceived_keeps (n : Fin 192) (data : List Byte) (s : State) :
    ∃ t, execHeadEvtReceived n data s = .next t ∧ Keeps s t :=
  act_keeps _ s (fun _ _ h => by
    repeat' (first | assumption | apply msgWhole_keeps | apply headEvt_keeps | apply Keeps.ite | intro _ | split))

theorem execChalStart_keeps (n : Fin 192) (s : State) :
    ∃ t, execChalStart n s = .next t ∧ Keeps s t :=
  act_keeps _ s (fun _ _ h => chalStart_keeps _ _ h)

theorem execChalRspReceived_keeps (n : Fin 192) (mac : List Byte) (s : State) :
    ∃ t, execChalRspReceived n mac s = .next t ∧ Keeps s t :=
  act_keeps _ s (fun _ _ h => by
    repeat' (first | assumption | apply msgWhole_keeps | apply chalRsp_keeps | apply Keeps.ite | intro _ | split))

theorem execChalTimeout_keeps (n : Fin 192) (s : State) :
    ∃ t, execChalTimeout n s = .next t ∧ Keeps s t :=
  act_keeps _ s (fun _ _ h => chalTimeout_keeps _ _ h)

theorem execChalKeyWrite_keeps (n : Fin 192) (k : Fin 8) (v : Word) (path : Path) (s : State) :
    ∃ t, execChalKeyWrite n k v path s = .next t ∧ Keeps s t :=
  act_keeps _ s (fun _ _ h => chalKeyPut_keeps _ _ _ _ _ h)

theorem execRenderLineDone_keeps (n : Fin 192) (s : State) :
    ∃ t, execRenderLineDone n s = .next t ∧ Keeps s t :=
  act_keeps _ s (fun _ _ h => lineDone_keeps _ _ h)

theorem execBankSwapArm_keeps (n : Fin 192) (s : State) :
    ∃ t, execBankSwapArm n s = .next t ∧ Keeps s t :=
  act_keeps _ s (fun _ _ h => swapArm_keeps _ _ h)

theorem execBankValidationDone_keeps (n : Fin 192) (s : State) :
    ∃ t, execBankValidationDone n s = .next t ∧ Keeps s t :=
  act_keeps _ s (fun _ _ h => validationDone_keeps _ _ h)

theorem execBankDisarm_keeps (n : Fin 192) (s : State) :
    ∃ t, execBankDisarm n s = .next t ∧ Keeps s t :=
  act_keeps _ s (fun _ _ h => disarm_keeps _ _ h)

theorem execCopyBackDone_keeps (n : Fin 192) (s : State) :
    ∃ t, execCopyBackDone n s = .next t ∧ Keeps s t :=
  act_keeps _ s (fun _ _ h => copyBackEnd_keeps _ _ h)

theorem execTableWindowWrite_keeps (n : Fin 192) (off : Fin 65536) (v : Word) (s : State) :
    ∃ t, execTableWindowWrite n off v s = .next t ∧ Keeps s t :=
  act_keeps _ s (fun _ _ h => tableWrite_keeps _ _ _ _ h)

theorem execSkimMaskArrival_keeps (n : Fin 192) (s : State) :
    ∃ t, execSkimMaskArrival n s = .next t ∧ Keeps s t :=
  act_keeps _ s (fun _ _ h => skimMaskArrival_keeps _ _ h)

theorem execSkimMaskTimeout_keeps (n : Fin 192) (s : State) :
    ∃ t, execSkimMaskTimeout n s = .next t ∧ Keeps s t :=
  act_keeps _ s (fun _ _ h => skimMaskTimeout_keeps _ _ h)

theorem execSkimSliceEnd_keeps (n : Fin 192) (s : State) :
    ∃ t, execSkimSliceEnd n s = .next t ∧ Keeps s t :=
  act_keeps _ s (fun _ _ h => skimSliceEnd_keeps _ _ h)

theorem execSkimScheduleInstant_keeps (g : Fin 24) (s : State) :
    ∃ t, execSkimScheduleInstant g s = .next t ∧ Keeps s t :=
  act_keeps _ s (fun _ _ h => skimSchedule_keeps _ _ h)

theorem execSkimEpochBoundary_keeps (g : Fin 24) (s : State) :
    ∃ t, execSkimEpochBoundary g s = .next t ∧ Keeps s t :=
  act_keeps _ s (fun _ _ h => skimBoundary_keeps _ _ h)

theorem execCkptIntervalExpiry_keeps (s : State) :
    ∃ t, execCkptIntervalExpiry s = .next t ∧ Keeps s t :=
  act_keeps _ s (fun _ _ h => by
    split
    · exact h
    · exact ckptStart_keeps _ h)

theorem execCkptNow_keeps (s : State) :
    ∃ t, execCkptNow s = .next t ∧ Keeps s t :=
  act_keeps _ s (fun _ _ h => ckptStart_keeps _ h)

theorem execCkptComplete_keeps (fail : Bool) (s : State) :
    ∃ t, execCkptComplete fail s = .next t ∧ Keeps s t :=
  act_keeps _ s (fun _ _ h => ckptComplete_keeps _ _ h)

theorem execRowDeadline_keeps (g : Fin 24) (s : State) :
    ∃ t, execRowDeadline g s = .next t ∧ Keeps s t :=
  act_keeps _ s (fun _ _ h => seamDeadline_keeps _ _ h)

theorem execSeamRowEmit_keeps (g : Fin 24) (s : State) :
    ∃ t, execSeamRowEmit g s = .next t ∧ Keeps s t :=
  act_keeps _ s (fun _ _ h => rowEmit_keeps _ _ h)

theorem execStencilRow_keeps (g : Fin 24) (s : State) :
    ∃ t, execStencilRow g s = .next t ∧ Keeps s t :=
  act_keeps _ s (fun _ _ h => rowStencil_keeps _ _ h)

theorem execPlumbRecord_keeps (q : Fin 36) (s : State) :
    ∃ t, execPlumbRecord q s = .next t ∧ Keeps s t :=
  act_keeps _ s (fun _ _ h => recordNext_keeps _ _ h)

theorem execLathLoadGo_keeps (groups : Bool) (s : State) :
    ∃ t, execLathLoadGo groups s = .next t ∧ Keeps s t :=
  act_keeps _ s (fun _ _ h => lathThen_keeps _ _ (fun _ h => lathControl_keeps _ _ h) h)

theorem execLathFetchDone_keeps (readFail : Bool) (s : State) :
    ∃ t, execLathFetchDone readFail s = .next t ∧ Keeps s t :=
  act_keeps _ s (fun _ _ h => lathThen_keeps _ _ (fun _ h => lathFetchDone_keeps _ _ h) h)

theorem execLathVerifyDone_keeps (s : State) :
    ∃ t, execLathVerifyDone s = .next t ∧ Keeps s t :=
  act_keeps _ s (fun _ _ h => lathThen_keeps _ _ (fun _ h => lathVerifyDone_keeps _ h) h)

theorem execLathCheckDone_keeps (s : State) :
    ∃ t, execLathCheckDone s = .next t ∧ Keeps s t :=
  act_keeps _ s (fun _ _ h => lathThen_keeps _ _ (fun _ h => lathCheckDone_keeps _ h) h)

theorem execLathDrainDone_keeps (s : State) :
    ∃ t, execLathDrainDone s = .next t ∧ Keeps s t :=
  act_keeps _ s (fun _ _ h => lathThen_keeps _ _ (fun _ h => lathDrainDone_keeps _ h) h)

theorem execLathApplyDone_keeps (s : State) :
    ∃ t, execLathApplyDone s = .next t ∧ Keeps s t :=
  act_keeps _ s (fun _ _ h => lathThen_keeps _ _ (fun _ h => lathApplyDone_keeps _ h) h)

theorem execLathAddrWrite_keeps (which : Fin 3) (v : Word) (s : State) :
    ∃ t, execLathAddrWrite which v s = .next t ∧ Keeps s t :=
  act_keeps _ s (fun _ _ h => lathAddrWrite_keeps _ _ _ h)

theorem execCommitRequest_keeps (v : Word) (s : State) :
    ∃ t, execCommitRequest v s = .next t ∧ Keeps s t :=
  act_keeps _ s (fun _ _ h => commitWrite_keeps _ _ h)

theorem execUplinkTrainingDone_keeps (x : Fin 8) (s : State) :
    ∃ t, execUplinkTrainingDone x s = .next t ∧ Keeps s t :=
  act_keeps _ s (fun _ _ h => upTrained_keeps _ _ h)

theorem execUplinkAligned_keeps (x : Fin 8) (s : State) :
    ∃ t, execUplinkAligned x s = .next t ∧ Keeps s t :=
  act_keeps _ s (fun _ _ h => upAligned_keeps _ _ h)

theorem execUplinkBringupTimeout_keeps (x : Fin 8) (s : State) :
    ∃ t, execUplinkBringupTimeout x s = .next t ∧ Keeps s t :=
  act_keeps _ s (fun _ _ h => upTimeout_keeps _ _ h)

theorem execUplinkRetryExpiry_keeps (x : Fin 8) (s : State) :
    ∃ t, execUplinkRetryExpiry x s = .next t ∧ Keeps s t :=
  act_keeps _ s (fun _ _ h => upRetry_keeps _ _ h)

theorem execUplinkLaneLoss_keeps (u : Fin 8) (s : State) :
    ∃ t, execUplinkLaneLoss u s = .next t ∧ Keeps s t :=
  act_keeps _ s (fun _ _ h => untested_keeps _ _ _ (fun _ h => upLaneLoss_keeps _ _ h) h)

theorem execUplinkRestore_keeps (s : State) :
    ∃ t, execUplinkRestore s = .next t ∧ Keeps s t :=
  act_keeps _ s (fun _ _ h => uplinkRestore_keeps _ h)

theorem execFrameWaitAccept_keeps (x : Fin 8) (c : Fin 8) (s : State) :
    ∃ t, execFrameWaitAccept x c s = .next t ∧ Keeps s t :=
  act_keeps _ s (fun _ _ h => waitServed_keeps _ _ _ h)

theorem execFrameTxComplete_keeps (x : Fin 8) (s : State) :
    ∃ t, execFrameTxComplete x s = .next t ∧ Keeps s t :=
  act_keeps _ s (fun _ _ h => frameSent_keeps _ _ h)

theorem execDeadlineDrop_keeps (x : Fin 8) (c : Fin 8) (s : State) :
    ∃ t, execDeadlineDrop x c s = .next t ∧ Keeps s t :=
  act_keeps _ s (fun _ _ h => deadlineDrop_keeps _ _ _ h)

theorem execObjectFrameCloseTimeout_keeps (x : Fin 8) (c : Fin 8) (event : Bool) (s : State) :
    ∃ t, execObjectFrameCloseTimeout x c event s = .next t ∧ Keeps s t :=
  act_keeps _ s (fun _ _ h => frameTimeout_keeps _ _ _ _ h)

theorem execMgmtReqReceived_keeps (x : Fin 8) (frame : List Byte) (s : State) :
    ∃ t, execMgmtReqReceived x frame s = .next t ∧ Keeps s t :=
  act_keeps _ s (fun _ _ h => mgmtReceived_keeps _ _ _ h)

theorem execRxFrameDiscard_keeps (x : Fin 8) (frame : RxFrame) (s : State) :
    ∃ t, execRxFrameDiscard x frame s = .next t ∧ Keeps s t :=
  act_keeps _ s (fun _ _ h => frameReceived_keeps _ _ _ h)

theorem execPfcReceived_keeps (x : Fin 8) (enable : Byte) (quanta : List (BitVec 16)) (s : State) :
    ∃ t, execPfcReceived x enable quanta s = .next t ∧ Keeps s t :=
  act_keeps _ s (fun _ _ h => pfc_keeps _ _ _ _ h)

theorem execPauseFrameReceived_keeps (x : Fin 8) (quanta : BitVec 16) (s : State) :
    ∃ t, execPauseFrameReceived x quanta s = .next t ∧ Keeps s t :=
  act_keeps _ s (fun _ _ h => pauseFrame_keeps _ _ _ h)

theorem execPauseExpiry_keeps (x : Fin 8) (slot : Fin 9) (s : State) :
    ∃ t, execPauseExpiry x slot s = .next t ∧ Keeps s t :=
  act_keeps _ s (fun _ _ h => pauseEnd_keeps _ _ _ h)

theorem execPauseMaxExceeded_keeps (x : Fin 8) (slot : Fin 9) (s : State) :
    ∃ t, execPauseMaxExceeded x slot s = .next t ∧ Keeps s t :=
  act_keeps _ s (fun _ _ h => pauseLong_keeps _ _ _ h)

theorem execPtpMessageReceived_keeps (x : Fin 8) (hdr : PtpHdr) (m : PtpMsg) (s : State) :
    ∃ t, execPtpMessageReceived x hdr m s = .next t ∧ Keeps s t :=
  act_keeps _ s (fun _ _ h => ptpReceived_keeps _ _ _ _ h)

theorem execPtpHoldoverTimeout_keeps (s : State) :
    ∃ t, execPtpHoldoverTimeout s = .next t ∧ Keeps s t :=
  act_keeps _ s (fun _ _ h => ptpHoldover_keeps _ h)

theorem execTimeFrameTimer_keeps (x : Fin 8) (s : State) :
    ∃ t, execTimeFrameTimer x s = .next t ∧ Keeps s t :=
  act_keeps _ s (fun _ _ h => timeTimer_keeps _ _ h)

theorem execTimePeriodWrite_keeps (v : BitVec 16) (s : State) :
    ∃ t, execTimePeriodWrite v s = .next t ∧ Keeps s t :=
  act_keeps _ s (fun _ _ h => timePeriod_keeps _ _ h)

theorem execFecWindowEnd_keeps (u : Fin 8) (corrected uncorrectable symbols : Nat) (s : State) :
    ∃ t, execFecWindowEnd u corrected uncorrectable symbols s = .next t ∧ Keeps s t :=
  act_keeps _ s (fun _ _ h => untested_keeps _ _ _ (fun _ h => fecWindow_keeps _ _ _ _ _ h) h)

theorem execMemChannelTrained_keeps (m : Fin 8) (cause : Fin 8) (s : State) :
    ∃ t, execMemChannelTrained m cause s = .next t ∧ Keeps s t :=
  act_keeps _ s (fun _ _ h => by
    split
    · exact chanTrained_keeps _ _ _ h
    · exact h)

theorem execCeWindowEnd_keeps (m : Fin 8) (s : State) :
    ∃ t, execCeWindowEnd m s = .next t ∧ Keeps s t :=
  act_keeps _ s (fun _ _ h => ceWindow_keeps _ _ h)

theorem execPatrolScrubRead_keeps (addr : BitVec 48) (err : MemErr) (s : State) :
    ∃ t, execPatrolScrubRead addr err s = .next t ∧ Keeps s t :=
  act_keeps _ s (fun _ _ h => scrubRead_keeps _ _ _ h)

theorem execMemAlert_keeps (m : Fin 8) (s : State) :
    ∃ t, execMemAlert m s = .next t ∧ Keeps s t :=
  act_keeps _ s (fun _ _ h => memAlert_keeps _ _ h)

theorem execMemTempReport_keeps (m : Fin 8) (hot : Bool) (s : State) :
    ∃ t, execMemTempReport m hot s = .next t ∧ Keeps s t :=
  act_keeps _ s (fun _ _ h => memTemp_keeps _ _ _ h)

theorem execHistoryItem_keeps (s : State) :
    ∃ t, execHistoryItem s = .next t ∧ Keeps s t :=
  act_keeps _ s (fun _ _ h => hstArrive_keeps _ h)

theorem execHistoryAllocate_keeps (s : State) :
    ∃ t, execHistoryAllocate s = .next t ∧ Keeps s t :=
  act_keeps _ s (fun _ _ h => historyAllocate_keeps _ h)

theorem execObjectBatchTimeout_keeps (g : Fin 24) (s : State) :
    ∃ t, execObjectBatchTimeout g s = .next t ∧ Keeps s t :=
  act_keeps _ s (fun _ _ h => batchClose_keeps _ _ h)

theorem execHistoryItemDeadline_keeps (g : Fin 24) (s : State) :
    ∃ t, execHistoryItemDeadline g s = .next t ∧ Keeps s t :=
  act_keeps _ s (fun _ _ h => hstDeadline_keeps _ _ h)

theorem execRingReset_keeps (s : State) :
    ∃ t, execRingReset s = .next t ∧ Keeps s t :=
  act_keeps _ s (fun _ _ h => ringReset_keeps _ h)

theorem execHistoryEnWrite_keeps (en : Bool) (s : State) :
    ∃ t, execHistoryEnWrite en s = .next t ∧ Keeps s t :=
  act_keeps _ s (fun _ _ h => hstEnable_keeps _ _ h)

theorem execMarkSetNow_keeps (slot : Fin 8192) (s : State) :
    ∃ t, execMarkSetNow slot s = .next t ∧ Keeps s t :=
  act_keeps _ s (fun _ _ h => markSetNow_keeps _ _ h)

theorem execMarkSetTime_keeps (slot : Fin 8192) (s : State) :
    ∃ t, execMarkSetTime slot s = .next t ∧ Keeps s t :=
  act_keeps _ s (fun _ _ h => markSetTime_keeps _ _ h)

theorem execMarkClear_keeps (slot : Fin 8192) (s : State) :
    ∃ t, execMarkClear slot s = .next t ∧ Keeps s t :=
  act_keeps _ s (fun _ _ h => markClear_keeps _ _ h)

theorem execMarkSelect_keeps (slot : Fin 8192) (s : State) :
    ∃ t, execMarkSelect slot s = .next t ∧ Keeps s t :=
  act_keeps _ s (fun _ _ h => markSelect_keeps _ _ h)

theorem execMarkBadOp_keeps (op : Fin 3) (slot : Fin 8192) (s : State) :
    ∃ t, execMarkBadOp op slot s = .next t ∧ Keeps s t :=
  act_keeps _ s (fun _ _ h => markWrite_keeps _ _ h)

theorem execReplayGo_keeps (s : State) :
    ∃ t, execReplayGo s = .next t ∧ Keeps s t :=
  act_keeps _ s (fun _ _ h => rpGo_keeps _ h)

theorem execReplayAbort_keeps (s : State) :
    ∃ t, execReplayAbort s = .next t ∧ Keeps s t :=
  act_keeps _ s (fun _ _ h => rpAbort_keeps _ h)

theorem execReplayWindowStart_keeps (s : State) :
    ∃ t, execReplayWindowStart s = .next t ∧ Keeps s t :=
  act_keeps _ s (fun _ _ h => rpWindowStart_keeps _ h)

theorem execReplayMarkStart_keeps (s : State) :
    ∃ t, execReplayMarkStart s = .next t ∧ Keeps s t :=
  act_keeps _ s (fun _ _ h => rpMarkStart_keeps _ h)

theorem execReplayRecordRead_keeps (err : MemErr) (s : State) :
    ∃ t, execReplayRecordRead err s = .next t ∧ Keeps s t :=
  act_keeps _ s (fun _ _ h => rpRead_keeps _ _ h)

theorem execReplayEndTime_keeps (s : State) :
    ∃ t, execReplayEndTime s = .next t ∧ Keeps s t :=
  act_keeps _ s (fun _ _ h => rpEndTime_keeps _ h)

theorem execStpJobGo_keeps (j : Fin 4) (s : State) :
    ∃ t, execStpJobGo j s = .next t ∧ Keeps s t :=
  act_keeps _ s (fun _ _ h => stpGo_keeps _ _ h)

theorem execStpJobAbort_keeps (j : Fin 4) (s : State) :
    ∃ t, execStpJobAbort j s = .next t ∧ Keeps s t :=
  act_keeps _ s (fun _ _ h => stpStop_keeps _ _ _ h)

theorem execStpCompressJob_keeps (j : Fin 4) (s : State) :
    ∃ t, execStpCompressJob j s = .next t ∧ Keeps s t :=
  act_keeps _ s (fun _ _ h => stpStart_keeps _ _ _ h)

theorem execStpDecompressJob_keeps (j : Fin 4) (s : State) :
    ∃ t, execStpDecompressJob j s = .next t ∧ Keeps s t :=
  act_keeps _ s (fun _ _ h => stpStart_keeps _ _ _ h)

theorem execStippleBlockDone_keeps (u : StpUser) (err : MemErr) (s : State) :
    ∃ t, execStippleBlockDone u err s = .next t ∧ Keeps s t :=
  act_keeps _ s (fun _ _ h => stippleDone_keeps _ _ _ h)

theorem execStpAccessTimeout_keeps (j : Fin 4) (s : State) :
    ∃ t, execStpAccessTimeout j s = .next t ∧ Keeps s t :=
  act_keeps _ s (fun _ _ h => stpStop_keeps _ _ _ h)

theorem execStippleParityError_keeps (u : StpUser) (s : State) :
    ∃ t, execStippleParityError u s = .next t ∧ Keeps s t :=
  act_keeps _ s (fun _ _ h => stippleParity_keeps _ _ h)

theorem execDmaStart_keeps (c : Fin 32) (s : State) :
    ∃ t, execDmaStart c s = .next t ∧ Keeps s t :=
  act_keeps _ s (fun _ _ h => dmaStart_keeps _ _ h)

theorem execDmaAbort_keeps (c : Fin 32) (s : State) :
    ∃ t, execDmaAbort c s = .next t ∧ Keeps s t :=
  act_keeps _ s (fun _ _ h => dmaAbort_keeps _ _ h)

theorem execDmaAck_keeps (c : Fin 32) (s : State) :
    ∃ t, execDmaAck c s = .next t ∧ Keeps s t :=
  act_keeps _ s (fun _ _ h => dmaAck_keeps _ _ h)

theorem execDmaConfigWrite_keeps (c : Fin 32) (off : Fin 3) (v : Word) (s : State) :
    ∃ t, execDmaConfigWrite c off v s = .next t ∧ Keeps s t :=
  act_keeps _ s (fun _ _ h => dmaConfig_keeps _ _ _ _ h)

theorem execDmaDescFetched_keeps (c : Fin 32) (err : MemErr) (s : State) :
    ∃ t, execDmaDescFetched c err s = .next t ∧ Keeps s t :=
  act_keeps _ s (fun _ _ h => dmaFetch_keeps _ _ _ h)

theorem execDmaBlockMoved_keeps (c : Fin 32) (err : MemErr) (s : State) :
    ∃ t, execDmaBlockMoved c err s = .next t ∧ Keeps s t :=
  act_keeps _ s (fun _ _ h => dmaMove_keeps _ _ _ h)

theorem execDmaReadbackDone_keeps (c : Fin 32) (err : MemErr) (s : State) :
    ∃ t, execDmaReadbackDone c err s = .next t ∧ Keeps s t :=
  act_keeps _ s (fun _ _ h => dmaBack_keeps _ _ _ h)

theorem execDmaAccessFail_keeps (c : Fin 32) (err : MemErr) (s : State) :
    ∃ t, execDmaAccessFail c err s = .next t ∧ Keeps s t :=
  act_keeps _ s (fun _ _ h => dmaFail_keeps _ _ _ h)

theorem execDmaAccessTimeout_keeps (c : Fin 32) (hang : DmaHang) (s : State) :
    ∃ t, execDmaAccessTimeout c hang s = .next t ∧ Keeps s t :=
  act_keeps _ s (fun _ _ h => dmaTimeout_keeps _ _ _ h)

theorem execHawkWhdrWrite_keeps (q : Fin 64) (v : Word) (s : State) :
    ∃ t, execHawkWhdrWrite q v s = .next t ∧ Keeps s t :=
  act_keeps _ s (fun _ _ h => hawkWhdr_keeps _ _ _ h)

theorem execHawkWdataWrite_keeps (q : Fin 64) (v : Word) (s : State) :
    ∃ t, execHawkWdataWrite q v s = .next t ∧ Keeps s t :=
  act_keeps _ s (fun _ _ h => hawkWdata_keeps _ _ _ h)

theorem execHawkItemMove_keeps (q : Fin 64) (s : State) :
    ∃ t, execHawkItemMove q s = .next t ∧ Keeps s t :=
  act_keeps _ s (fun _ _ h => hawkMove_keeps _ _ h)

theorem execHawkRhdrRead_keeps (q : Fin 64) (path : Path) (s : State) :
    ∃ t, execHawkRhdrRead q path s = .next t ∧ Keeps s t :=
  act_keeps _ s (fun _ _ h => hawkRhdr_keeps _ _ _ h)

theorem execHawkRhdrStallEnd_keeps (q : Fin 64) (s : State) :
    ∃ t, execHawkRhdrStallEnd q s = .next t ∧ Keeps s t :=
  act_keeps _ s (fun _ _ h => hawkStallEnd_keeps _ _ h)

theorem execHawkRdataRead_keeps (q : Fin 64) (path : Path) (flips : List (Fin 39)) (s : State) :
    ∃ t, execHawkRdataRead q path flips s = .next t ∧ Keeps s t :=
  act_keeps _ s (fun _ _ h => hawkRdata_keeps _ _ _ _ h)

theorem execHawkDropCur_keeps (q : Fin 64) (s : State) :
    ∃ t, execHawkDropCur q s = .next t ∧ Keeps s t :=
  act_keeps _ s (fun _ _ h => hawkDropCur_keeps _ _ h)

theorem execHawkFlush_keeps (q : Fin 64) (s : State) :
    ∃ t, execHawkFlush q s = .next t ∧ Keeps s t :=
  act_keeps _ s (fun _ _ h => hawkFlush_keeps _ _ h)

theorem execHawkFlushDone_keeps (q : Fin 64) (s : State) :
    ∃ t, execHawkFlushDone q s = .next t ∧ Keeps s t :=
  act_keeps _ s (fun _ _ h => hawkFlushEnd_keeps _ _ h)

theorem execHawkFlushItemTimeout_keeps (q : Fin 64) (s : State) :
    ∃ t, execHawkFlushItemTimeout q s = .next t ∧ Keeps s t :=
  act_keeps _ s (fun _ _ h => hawkFlushTimeout_keeps _ _ h)

theorem execHawkEccWrite_keeps (q : Fin 64) (ecc : Bool) (s : State) :
    ∃ t, execHawkEccWrite q ecc s = .next t ∧ Keeps s t :=
  act_keeps _ s (fun _ _ h => hawkEcc_keeps _ _ _ h)

theorem execCvuCfgWrite_keeps (c : Fin 16) (v : Word) (s : State) :
    ∃ t, execCvuCfgWrite c v s = .next t ∧ Keeps s t :=
  act_keeps _ s (fun _ _ h => cvuCfg_keeps _ _ _ h)

theorem execCvuInit_keeps (c : Fin 16) (s : State) :
    ∃ t, execCvuInit c s = .next t ∧ Keeps s t :=
  act_keeps _ s (fun _ _ h => cvuInit_keeps _ _ h)

theorem execCvuFeed8_keeps (c : Fin 16) (v : Word) (s : State) :
    ∃ t, execCvuFeed8 c v s = .next t ∧ Keeps s t :=
  act_keeps _ s (fun _ _ h => cvuFeed_keeps _ _ _ _ h)

theorem execCvuFeed16_keeps (c : Fin 16) (v : Word) (s : State) :
    ∃ t, execCvuFeed16 c v s = .next t ∧ Keeps s t :=
  act_keeps _ s (fun _ _ h => cvuFeed_keeps _ _ _ _ h)

theorem execCvuFeed32_keeps (c : Fin 16) (v : Word) (s : State) :
    ∃ t, execCvuFeed32 c v s = .next t ∧ Keeps s t :=
  act_keeps _ s (fun _ _ h => cvuFeed_keeps _ _ _ _ h)

theorem execCvuValueWrite_keeps (c : Fin 16) (v : Word) (s : State) :
    ∃ t, execCvuValueWrite c v s = .next t ∧ Keeps s t :=
  act_keeps _ s (fun _ _ h => cvuValue_keeps _ _ _ h)

theorem execCvuAliveIn_keeps (c : Fin 16) (v : Word) (s : State) :
    ∃ t, execCvuAliveIn c v s = .next t ∧ Keeps s t :=
  act_keeps _ s (fun _ _ h => cvuAlive_keeps _ _ _ h)

theorem execCvuAliveReset_keeps (c : Fin 16) (s : State) :
    ∃ t, execCvuAliveReset c s = .next t ∧ Keeps s t :=
  act_keeps _ s (fun _ _ h => cvuAliveReset_keeps _ _ h)

theorem execFaultRaise_keeps (e : Fin 1536) (s : State) :
    ∃ t, execFaultRaise e s = .next t ∧ Keeps s t :=
  act_keeps _ s (fun _ _ h => State.raise_keeps _ _ h)

theorem execQuietPeriodExpiry_keeps (unit : Fin 65536) (scope : Bool) (s : State) :
    ∃ t, execQuietPeriodExpiry unit scope s = .next t ∧ Keeps s t :=
  act_keeps _ s (fun _ _ h => quietExpiry_keeps _ _ _ h)

theorem execFltUnitTape_keeps (unit : Fin 65536) (s : State) :
    ∃ t, execFltUnitTape unit s = .next t ∧ Keeps s t :=
  act_keeps _ s (fun _ _ h => unitTapeWrite_keeps _ _ h)

theorem execFltUnitRelease_keeps (unit : Fin 65536) (s : State) :
    ∃ t, execFltUnitRelease unit s = .next t ∧ Keeps s t :=
  act_keeps _ s (fun _ _ h => unitRelease_keeps _ _ h)

theorem execFltAck_keeps (e : Fin 1536) (s : State) :
    ∃ t, execFltAck e s = .next t ∧ Keeps s t :=
  act_keeps _ s (fun _ _ h => ack_keeps _ _ h)

theorem execFltAckAll_keeps (s : State) :
    ∃ t, execFltAckAll s = .next t ∧ Keeps s t :=
  act_keeps _ s (fun _ _ h => ackAll_keeps _ h)

theorem execFltSevWrite_keeps (k : Fin 192) (v : Word) (s : State) :
    ∃ t, execFltSevWrite k v s = .next t ∧ Keeps s t :=
  act_keeps _ s (fun _ _ h => sevWrite_keeps _ _ _ h)

theorem execUnitResetDone_keeps (unit : Fin 65536) (s : State) :
    ∃ t, execUnitResetDone unit s = .next t ∧ Keeps s t :=
  act_keeps _ s (fun _ _ h => unitResetDone_keeps _ _ h)

theorem execSuppressionWindowEnd_keeps (up down : Fin 65536) (s : State) :
    ∃ t, execSuppressionWindowEnd up down s = .next t ∧ Keeps s t :=
  act_keeps _ s (fun _ _ h => windowEnd_keeps _ _ _ h)

theorem execAliveToggle_keeps (s : State) :
    ∃ t, execAliveToggle s = .next t ∧ Keeps s t :=
  act_keeps _ s (fun _ _ h => aliveToggle_keeps _ h)

theorem execHeartbeatLoss_keeps (s : State) :
    ∃ t, execHeartbeatLoss s = .next t ∧ Keeps s t :=
  act_keeps _ s (fun _ _ h => heartbeatLoss_keeps _ h)

theorem execThermalSample_keeps (readings : List (Option (BitVec 13))) (s : State) :
    ∃ t, execThermalSample readings s = .next t ∧ Keeps s t :=
  act_keeps _ s (fun _ _ h => thermalSample_keeps _ _ h)

theorem execShedStepTimer_keeps (s : State) :
    ∃ t, execShedStepTimer s = .next t ∧ Keeps s t :=
  act_keeps _ s (fun _ _ h => shedTimer_keeps _ h)

theorem execShedHoldExpiry_keeps (s : State) :
    ∃ t, execShedHoldExpiry s = .next t ∧ Keeps s t :=
  act_keeps _ s (fun _ _ h => shedHold_keeps _ h)

theorem execThermtrip_keeps (s : State) :
    ∃ t, execThermtrip s = .next t ∧ Keeps s t :=
  actAon_keeps _ s (fun _ _ h => thermtrip_keeps _ h)

theorem execPorRelease_keeps (sel : Fin 8) (s : State) :
    ∃ t, execPorRelease sel s = .next t ∧ Keeps s t :=
  ⟨_, rfl, settle_keeps _ (porRelease_keeps _ _ (Keeps.refl s))⟩

theorem execSysReset_keeps (sel : Fin 8) (s : State) :
    ∃ t, execSysReset sel s = .next t ∧ Keeps s t :=
  actAon_keeps _ s (fun _ _ h => sysReset_keeps _ _ h)

theorem execBotRestart_keeps (s : State) :
    ∃ t, execBotRestart s = .next t ∧ Keeps s t :=
  act_keeps _ s (fun _ _ h => actReset_keeps _ h)

theorem execCorePllLock_keeps (badKeys : BitVec 16) (journalError : Bool) (s : State) :
    ∃ t, execCorePllLock badKeys journalError s = .next t ∧ Keeps s t :=
  act_keeps _ s (fun _ _ h => coreLock_keeps _ _ _ h)

theorem execClockRetryTimer_keeps (s : State) :
    ∃ t, execClockRetryTimer s = .next t ∧ Keeps s t :=
  act_keeps _ s (fun _ _ h => clockRetry_keeps _ h)

theorem execSlotVerifyDone_keeps (slotA slotB : List Byte) (s : State) :
    ∃ t, execSlotVerifyDone slotA slotB s = .next t ∧ Keeps s t :=
  act_keeps _ s (fun _ _ h => slotDone_keeps _ _ _ h)

theorem execMemoryStepEnd_keeps (s : State) :
    ∃ t, execMemoryStepEnd s = .next t ∧ Keeps s t :=
  act_keeps _ s (fun _ _ h => memoryEnd_keeps _ h)

theorem execPortsStepEnd_keeps (s : State) :
    ∃ t, execPortsStepEnd s = .next t ∧ Keeps s t :=
  act_keeps _ s (fun _ _ h => portsEnd_keeps _ h)

theorem execUplinkStepEnd_keeps (s : State) :
    ∃ t, execUplinkStepEnd s = .next t ∧ Keeps s t :=
  act_keeps _ s (fun _ _ h => uplinkEnd_keeps _ h)

theorem execUndercoatWatchdog_keeps (s : State) :
    ∃ t, execUndercoatWatchdog s = .next t ∧ Keeps s t :=
  act_keeps _ s (fun _ _ h => watchdogExpiry_keeps _ h)

theorem execHostboot_keeps (s : State) :
    ∃ t, execHostboot s = .next t ∧ Keeps s t :=
  act_keeps _ s (fun _ _ h => hostBoot_keeps _ h)

theorem execJournalForget_keeps (s : State) :
    ∃ t, execJournalForget s = .next t ∧ Keeps s t :=
  act_keeps _ s (fun _ _ h => jnlForget_keeps _ h)

theorem execForgetUnit_keeps (e : Fin 256) (s : State) :
    ∃ t, execForgetUnit e s = .next t ∧ Keeps s t :=
  act_keeps _ s (fun _ _ h => forgetUnit_keeps _ _ h)

theorem execJnlRecordRead_keeps (path : Path) (s : State) :
    ∃ t, execJnlRecordRead path s = .next t ∧ Keeps s t :=
  act_keeps _ s (fun _ _ h => regRead_keeps _ _ _ h)

theorem execLcToProvisioned_keeps (path : Path) (key : Fin 16) (s : State) :
    ∃ t, execLcToProvisioned path key s = .next t ∧ Keeps s t :=
  act_keeps _ s (fun _ _ h => lcWrite_keeps _ _ _ h)

theorem execLcToSecured_keeps (path : Path) (key : Fin 16) (s : State) :
    ∃ t, execLcToSecured path key s = .next t ∧ Keeps s t :=
  act_keeps _ s (fun _ _ h => lcWrite_keeps _ _ _ h)

theorem execLcToRma_keeps (path : Path) (key : Fin 16) (s : State) :
    ∃ t, execLcToRma path key s = .next t ∧ Keeps s t :=
  act_keeps _ s (fun _ _ h => lcWrite_keeps _ _ _ h)

theorem execLcBadTarget_keeps (path : Path) (key : Fin 16) (target : Fin 16) (s : State) :
    ∃ t, execLcBadTarget path key target s = .next t ∧ Keeps s t :=
  act_keeps _ s (fun _ _ h => lcWrite_keeps _ _ _ h)

theorem execLifecycleBurnDone_keeps (s : State) :
    ∃ t, execLifecycleBurnDone s = .next t ∧ Keeps s t :=
  act_keeps _ s (fun _ _ h => lcBurnDone_keeps _ h)

theorem execKeyProgEc_keeps (slot : Fin 16) (s : State) :
    ∃ t, execKeyProgEc slot s = .next t ∧ Keeps s t :=
  act_keeps _ s (fun _ _ h => keyWrite_keeps _ _ h)

theorem execKeyProgPq_keeps (slot : Fin 16) (s : State) :
    ∃ t, execKeyProgPq slot s = .next t ∧ Keeps s t :=
  act_keeps _ s (fun _ _ h => keyWrite_keeps _ _ h)

theorem execKeyProgAes_keeps (slot : Fin 16) (s : State) :
    ∃ t, execKeyProgAes slot s = .next t ∧ Keeps s t :=
  act_keeps _ s (fun _ _ h => keyWrite_keeps _ _ h)

theorem execKeyRevoke_keeps (slot : Fin 16) (s : State) :
    ∃ t, execKeyRevoke slot s = .next t ∧ Keeps s t :=
  act_keeps _ s (fun _ _ h => keyWrite_keeps _ _ h)

theorem execKeyOpBad_keeps (op : Fin 3) (slot : Fin 16) (s : State) :
    ∃ t, execKeyOpBad op slot s = .next t ∧ Keeps s t :=
  act_keeps _ s (fun _ _ h => keyWrite_keeps _ _ h)

theorem execKeyOpDone_keeps (fail : Bool) (s : State) :
    ∃ t, execKeyOpDone fail s = .next t ∧ Keeps s t :=
  act_keeps _ s (fun _ _ h => keyDone_keeps _ _ h)

theorem execRollbackAdvance_keeps (v : Byte) (s : State) :
    ∃ t, execRollbackAdvance v s = .next t ∧ Keeps s t :=
  act_keeps _ s (fun _ _ h => rbWrite_keeps _ _ h)

theorem execRollbackBurnDone_keeps (s : State) :
    ∃ t, execRollbackBurnDone s = .next t ∧ Keeps s t :=
  act_keeps _ s (fun _ _ h => rbDone_keeps _ h)

theorem execSecPolicyWrite_keeps (v : Word) (s : State) :
    ∃ t, execSecPolicyWrite v s = .next t ∧ Keeps s t :=
  act_keeps _ s (fun _ _ h => policyWrite_keeps _ _ h)

theorem execDebugOpen_keeps (path : Path) (level : Fin 4) (s : State) :
    ∃ t, execDebugOpen path level s = .next t ∧ Keeps s t :=
  act_keeps _ s (fun _ _ h => dbgWrite_keeps _ _ _ h)

theorem execDebugCertVerified_keeps (s : State) :
    ∃ t, execDebugCertVerified s = .next t ∧ Keeps s t :=
  act_keeps _ s (fun _ _ h => dbgVerified_keeps _ h)

theorem execDebugEnd_keeps (s : State) :
    ∃ t, execDebugEnd s = .next t ∧ Keeps s t :=
  act_keeps _ s (fun _ _ h => dbgEnd_keeps _ _ h)

theorem execDebugSessionTimeout_keeps (s : State) :
    ∃ t, execDebugSessionTimeout s = .next t ∧ Keeps s t :=
  act_keeps _ s (fun _ _ h => dbgTimeout_keeps _ h)

theorem execDebugCoreHalt_keeps (v : Fin 16) (s : State) :
    ∃ t, execDebugCoreHalt v s = .next t ∧ Keeps s t :=
  act_keeps _ s (fun _ _ h => coreHalt_keeps _ _ h)

theorem execPwrReqP0_keeps (path : Path) (s : State) :
    ∃ t, execPwrReqP0 path s = .next t ∧ Keeps s t :=
  actAon_keeps _ s (fun _ _ h => pwrWrite_keeps _ _ _ h)

theorem execPwrReqP1_keeps (path : Path) (s : State) :
    ∃ t, execPwrReqP1 path s = .next t ∧ Keeps s t :=
  actAon_keeps _ s (fun _ _ h => pwrWrite_keeps _ _ _ h)

theorem execPwrReqP2_keeps (path : Path) (s : State) :
    ∃ t, execPwrReqP2 path s = .next t ∧ Keeps s t :=
  actAon_keeps _ s (fun _ _ h => pwrWrite_keeps _ _ _ h)

theorem execPwrReqP3_keeps (path : Path) (s : State) :
    ∃ t, execPwrReqP3 path s = .next t ∧ Keeps s t :=
  actAon_keeps _ s (fun _ _ h => pwrWrite_keeps _ _ _ h)

theorem execPwrDrainDone_keeps (s : State) :
    ∃ t, execPwrDrainDone s = .next t ∧ Keeps s t :=
  act_keeps _ s (fun _ _ h => drainDone_keeps _ h)

theorem execWakePin_keeps (s : State) :
    ∃ t, execWakePin s = .next t ∧ Keeps s t :=
  actAon_keeps _ s (fun _ _ h => wakePin_keeps _ h)

theorem execWakeTimer_keeps (s : State) :
    ∃ t, execWakeTimer s = .next t ∧ Keeps s t :=
  actAon_keeps _ s (fun _ _ h => wakeTimer_keeps _ h)

theorem execRailWakeTimeout_keeps (s : State) :
    ∃ t, execRailWakeTimeout s = .next t ∧ Keeps s t :=
  actAon_keeps _ s (fun _ _ h => railsTimeout_keeps _ h)

theorem execSupplyOutOfWindow_keeps (s : State) :
    ∃ t, execSupplyOutOfWindow s = .next t ∧ Keeps s t :=
  act_keeps _ s (fun _ _ h => supplyMonitor_keeps _ _ h)

theorem execSupplyInWindow_keeps (s : State) :
    ∃ t, execSupplyInWindow s = .next t ∧ Keeps s t :=
  act_keeps _ s (fun _ _ h => supplyMonitor_keeps _ _ h)

theorem execCoreUndervoltage_keeps (s : State) :
    ∃ t, execCoreUndervoltage s = .next t ∧ Keeps s t :=
  act_keeps _ s (fun _ _ h => actReset_keeps _ h)

theorem execAonUndervoltage_keeps (s : State) :
    ∃ t, execAonUndervoltage s = .next t ∧ Keeps s t :=
  ⟨_, rfl, settle_keeps _ (startUp_keeps _ _ (Keeps.refl s))⟩

theorem execRefclkUpLoss_keeps (s : State) :
    ∃ t, execRefclkUpLoss s = .next t ∧ Keeps s t :=
  act_keeps _ s (fun _ _ h => refclkUpLoss_keeps _ h)

theorem execRefclkVslLoss_keeps (s : State) :
    ∃ t, execRefclkVslLoss s = .next t ∧ Keeps s t :=
  act_keeps _ s (fun _ _ h => refclkVslLoss_keeps _ h)

theorem execTstModeWrite_keeps (lane : Fin 200) (v : Word) (s : State) :
    ∃ t, execTstModeWrite lane v s = .next t ∧ Keeps s t :=
  act_keeps _ s (fun _ _ h => tstWrite_keeps _ _ _ h)

theorem execTstInject_keeps (lane : Fin 200) (s : State) :
    ∃ t, execTstInject lane s = .next t ∧ Keeps s t :=
  act_keeps _ s (fun _ _ h => tstInject_keeps _ _ h)

theorem execTstBcastGo_keeps (s : State) :
    ∃ t, execTstBcastGo s = .next t ∧ Keeps s t :=
  act_keeps _ s (fun _ _ h => tstBroadcast_keeps _ h)

theorem execTstCheckerLock_keeps (lane : Fin 200) (s : State) :
    ∃ t, execTstCheckerLock lane s = .next t ∧ Keeps s t :=
  act_keeps _ s (fun _ _ h => tstLock_keeps _ _ h)

theorem execTstCheckerLockLoss_keeps (lane : Fin 200) (errs : Nat) (s : State) :
    ∃ t, execTstCheckerLockLoss lane errs s = .next t ∧ Keeps s t :=
  act_keeps _ s (fun _ _ h => tstLockLoss_keeps _ _ _ h)

theorem execEyeScanGo_keeps (lane : Fin 200) (s : State) :
    ∃ t, execEyeScanGo lane s = .next t ∧ Keeps s t :=
  act_keeps _ s (fun _ _ h => eyeGo_keeps _ _ h)

theorem execEyePointDone_keeps (lane : Fin 200) (errs : Nat) (s : State) :
    ∃ t, execEyePointDone lane errs s = .next t ∧ Keeps s t :=
  act_keeps _ s (fun _ _ h => eyeEnd_keeps _ _ _ _ h)

theorem execTapInstruction_keeps (ir : Byte) (s : State) :
    ∃ t, execTapInstruction ir s = .next t ∧ Keeps s t :=
  act_keeps _ s (fun _ _ h => tapLoad_keeps _ _ h)

theorem execTapReset_keeps (s : State) :
    ∃ t, execTapReset s = .next t ∧ Keeps s t :=
  act_keeps _ s (fun _ _ h => tapReset_keeps _ h)

theorem execDbgRead_keeps (addr : Word) (tag : List Byte) (s : State) :
    ∃ t, execDbgRead addr tag s = .next t ∧ Keeps s t :=
  act_keeps _ s (fun _ _ h => dbgRead_keeps _ _ _ h)

theorem execDbgWrite_keeps (addr : Word) (data : Word) (tag : List Byte) (s : State) :
    ∃ t, execDbgWrite addr data tag s = .next t ∧ Keeps s t :=
  act_keeps _ s (fun _ _ h => dbgPut_keeps _ _ _ _ h)

theorem execDbgCapture_keeps (s : State) :
    ∃ t, execDbgCapture s = .next t ∧ Keeps s t :=
  act_keeps _ s (fun _ _ h => dbgCapture_keeps _ h)

theorem execSpiWrite_keeps (addr : Word) (data : Word) (s : State) :
    ∃ t, execSpiWrite addr data s = .next t ∧ Keeps s t :=
  actAon_keeps _ s (fun _ _ h => plainPut_keeps _ _ _ _ h)

theorem execSpiRead_keeps (addr : Word) (s : State) :
    ∃ t, execSpiRead addr s = .next t ∧ Keeps s t :=
  actAon_keeps _ s (fun _ _ h => plainRead_keeps _ _ _ h)

theorem execSpiTaggedWrite_keeps (addr : Word) (data : Word) (tag : List Byte) (s : State) :
    ∃ t, execSpiTaggedWrite addr data tag s = .next t ∧ Keeps s t :=
  actAon_keeps _ s (fun _ _ h => taggedWrite_keeps _ _ _ _ _ h)

theorem execSpiTaggedRead_keeps (addr : Word) (s : State) :
    ∃ t, execSpiTaggedRead addr s = .next t ∧ Keeps s t :=
  actAon_keeps _ s (fun _ _ h => taggedRead_keeps _ _ _ h)

theorem execSpiUnknownCmd_keeps (s : State) :
    ∃ t, execSpiUnknownCmd s = .next t ∧ Keeps s t :=
  actAon_keeps _ s (fun _ _ h => h)

theorem execMgeMgmtReq_keeps (frame : List Byte) (bad : Bool) (s : State) :
    ∃ t, execMgeMgmtReq frame bad s = .next t ∧ Keeps s t :=
  act_keeps _ s (fun _ _ h => mgeReceived_keeps _ _ h)

theorem execSmbSetPointer_keeps (addr : Word) (s : State) :
    ∃ t, execSmbSetPointer addr s = .next t ∧ Keeps s t :=
  act_keeps _ s (fun _ _ h => smbPointer_keeps _ _ h)

theorem execSmbBlockRead_keeps (s : State) :
    ∃ t, execSmbBlockRead s = .next t ∧ Keeps s t :=
  act_keeps _ s (fun _ _ h => smbRead_keeps _ h)

theorem execSmbBadCommand_keeps (s : State) :
    ∃ t, execSmbBadCommand s = .next t ∧ Keeps s t :=
  act_keeps _ s (fun _ _ h => smbBad_keeps _ h)

theorem execMbxPing_keeps (arg : Word) (s : State) :
    ∃ t, execMbxPing arg s = .next t ∧ Keeps s t :=
  act_keeps _ s (fun _ _ h => mailboxWrite_keeps _ _ _ h)

theorem execMbxFwInfo_keeps (s : State) :
    ∃ t, execMbxFwInfo s = .next t ∧ Keeps s t :=
  act_keeps _ s (fun _ _ h => mailboxWrite_keeps _ _ _ h)

theorem execMbxMramRead_keeps (offset : Word) (length : Word) (dest : Word) (s : State) :
    ∃ t, execMbxMramRead offset length dest s = .next t ∧ Keeps s t :=
  act_keeps _ s (fun _ _ h => mailboxWrite_keeps _ _ _ h)

theorem execMbxServoReset_keeps (s : State) :
    ∃ t, execMbxServoReset s = .next t ∧ Keeps s t :=
  act_keeps _ s (fun _ _ h => mailboxWrite_keeps _ _ _ h)

theorem execMbxBadCmd_keeps (cmd : BitVec 16) (s : State) :
    ∃ t, execMbxBadCmd cmd s = .next t ∧ Keeps s t :=
  act_keeps _ s (fun _ _ h => mailboxWrite_keeps _ _ _ h)

theorem execMbxDone_keeps (fail : Bool) (s : State) :
    ∃ t, execMbxDone fail s = .next t ∧ Keeps s t :=
  act_keeps _ s (fun _ _ h => mailboxDone_keeps _ _ h)

theorem execAccessTimeout_keeps (path : Path) (s : State) :
    ∃ t, execAccessTimeout path s = .next t ∧ Keeps s t :=
  act_keeps _ s (fun _ _ h => accessTimeout_keeps _ _ h)

theorem execRegisterWrite_keeps (addr : Word) (v : Word) (path : Path) (s : State) :
    ∃ t, execRegisterWrite addr v path s = .next t ∧ Keeps s t :=
  act_keeps _ s (fun _ _ h => regWrite_keeps _ _ _ _ h)

theorem execFreezingLoRead_keeps (addr : Word) (path : Path) (s : State) :
    ∃ t, execFreezingLoRead addr path s = .next t ∧ Keeps s t :=
  act_keeps _ s (fun _ _ h => regRead_keeps _ _ _ h)

theorem execFreezingHiRead_keeps (addr : Word) (path : Path) (s : State) :
    ∃ t, execFreezingHiRead addr path s = .next t ∧ Keeps s t :=
  act_keeps _ s (fun _ _ h => regRead_keeps _ _ _ h)

theorem execDualClockQueueOverflow_keeps (n : Fin 192) (s : State) :
    ∃ t, execDualClockQueueOverflow n s = .next t ∧ Keeps s t :=
  act_keeps _ s (fun _ _ h => dualOverflow_keeps _ _ h)

theorem execTriggerRelease_keeps (n : Fin 192) (s : State) :
    ∃ t, execTriggerRelease n s = .next t ∧ Keeps s t :=
  act_keeps _ s (fun _ _ h => trigRelease_keeps _ _ h)

theorem execSourceExposureTime_keeps (g : Fin 24) (m : Fin 32) (s : State) :
    ∃ t, execSourceExposureTime g m s = .next t ∧ Keeps s t :=
  act_keeps _ s (fun _ _ h => seamSource_keeps _ _ _ h)

theorem execAlignmentMarkerLockLost_keeps (u : Fin 8) (s : State) :
    ∃ t, execAlignmentMarkerLockLost u s = .next t ∧ Keeps s t :=
  act_keeps _ s (fun _ _ h => untested_keeps _ _ _ (fun _ h => amLost_keeps _ _ h) h)

theorem execAlignmentMarkerLockRegained_keeps (u : Fin 8) (s : State) :
    ∃ t, execAlignmentMarkerLockRegained u s = .next t ∧ Keeps s t :=
  act_keeps _ s (fun _ _ h => untested_keeps _ _ _ (fun _ h => amRegained_keeps _ _ h) h)

theorem execCollectorParityError_keeps (s : State) :
    ∃ t, execCollectorParityError s = .next t ∧ Keeps s t :=
  act_keeps _ s (fun _ _ h => State.raise_keeps _ _ h)

theorem execPorAsserted_keeps (s : State) :
    ∃ t, execPorAsserted s = .next t ∧ Keeps s t :=
  ⟨_, rfl, settle_keeps _ (porAssert_keeps _ (Keeps.refl s))⟩

theorem execWakeRailsReady_keeps (s : State) :
    ∃ t, execWakeRailsReady s = .next t ∧ Keeps s t :=
  actAon_keeps _ s (fun _ _ h => railsReady_keeps _ h)

theorem execMgeLinkUp_keeps (s : State) :
    ∃ t, execMgeLinkUp s = .next t ∧ Keeps s t :=
  act_keeps _ s (fun _ _ h => mgeLink_keeps _ _ h)

theorem execMgeLinkDown_keeps (s : State) :
    ∃ t, execMgeLinkDown s = .next t ∧ Keeps s t :=
  act_keeps _ s (fun _ _ h => mgeLink_keeps _ _ h)

/-- Every command takes effect, and keeps what `Keeps` says. -/
theorem exec_keeps (i : Instr) (s : State) : ∃ t, exec i s = .next t ∧ Keeps s t :=
  match i with
  | .clockMonitorCheck coreBad memBad upBad mgmtBad => execClockMonitorCheck_keeps coreBad memBad upBad mgmtBad s
  | .snapshotReq => execSnapshotReq_keeps s
  | .snapshotPeriodExpiry => execSnapshotPeriodExpiry_keeps s
  | .snapshotComplete => execSnapshotComplete_keeps s
  | .blockLockAcquired n => execBlockLockAcquired_keeps n s
  | .blockLockLost n => execBlockLockLost_keeps n s
  | .lockTimerExpiry n => execLockTimerExpiry_keeps n s
  | .trainBudgetExpiry n => execTrainBudgetExpiry_keeps n s
  | .adaptationEnd n eq => execAdaptationEnd_keeps n eq s
  | .measureWindowEnd n badHeaders pseudoErrors height width eq => execMeasureWindowEnd_keeps n badHeaders pseudoErrors height width eq s
  | .settleExpiry n => execSettleExpiry_keeps n s
  | .tapreqTimeout n => execTapreqTimeout_keeps n s
  | .linkupTimeout n => execLinkupTimeout_keeps n s
  | .portUp n => execPortUp_keeps n s
  | .retryTimerExpiry n => execRetryTimerExpiry_keeps n s
  | .laneRetrain n => execLaneRetrain_keeps n s
  | .laneRetry n => execLaneRetry_keeps n s
  | .retrainBurstEnd n => execRetrainBurstEnd_keeps n s
  | .fillerReceived n fill => execFillerReceived_keeps n fill s
  | .trainReceived n block fill => execTrainReceived_keeps n block fill s
  | .alignReceived n block parity skew => execAlignReceived_keeps n block parity skew s
  | .reservedBlockReceived n badHeader => execReservedBlockReceived_keeps n badHeader s
  | .lineHeaderReceived n header => execLineHeaderReceived_keeps n header s
  | .linePayloadEnd n rest cut => execLinePayloadEnd_keeps n rest cut s
  | .triggerEntryExpiry n => execTriggerEntryExpiry_keeps n s
  | .chalkStep => execChalkStep_keeps s
  | .adjPhaseWrite v => execAdjPhaseWrite_keeps v s
  | .slewComplete => execSlewComplete_keeps s
  | .tgEnable g => execTgEnable_keeps g s
  | .tgDisable g => execTgDisable_keeps g s
  | .tgConfigWrite g off v => execTgConfigWrite_keeps g off v s
  | .triggerSend g => execTriggerSend_keeps g s
  | .bcMessageSent n => execBcMessageSent_keeps n s
  | .badMessageReceived n units => execBadMessageReceived_keeps n units s
  | .syncExchangeTimer n => execSyncExchangeTimer_keeps n s
  | .syncRspReceived n seq t2 t3 => execSyncRspReceived_keeps n seq t2 t3 s
  | .syncTimeout n => execSyncTimeout_keeps n s
  | .headCmdGo n => execHeadCmdGo_keeps n s
  | .headRspReceived n tag data => execHeadRspReceived_keeps n tag data s
  | .headCmdTimeout n => execHeadCmdTimeout_keeps n s
  | .headEvtReceived n data => execHeadEvtReceived_keeps n data s
  | .chalStart n => execChalStart_keeps n s
  | .chalRspReceived n mac => execChalRspReceived_keeps n mac s
  | .chalTimeout n => execChalTimeout_keeps n s
  | .chalKeyWrite n k v path => execChalKeyWrite_keeps n k v path s
  | .renderLineDone n => execRenderLineDone_keeps n s
  | .bankSwapArm n => execBankSwapArm_keeps n s
  | .bankValidationDone n => execBankValidationDone_keeps n s
  | .bankDisarm n => execBankDisarm_keeps n s
  | .copyBackDone n => execCopyBackDone_keeps n s
  | .tableWindowWrite n off v => execTableWindowWrite_keeps n off v s
  | .skimMaskArrival n => execSkimMaskArrival_keeps n s
  | .skimMaskTimeout n => execSkimMaskTimeout_keeps n s
  | .skimSliceEnd n => execSkimSliceEnd_keeps n s
  | .skimScheduleInstant g => execSkimScheduleInstant_keeps g s
  | .skimEpochBoundary g => execSkimEpochBoundary_keeps g s
  | .ckptIntervalExpiry => execCkptIntervalExpiry_keeps s
  | .ckptNow => execCkptNow_keeps s
  | .ckptComplete fail => execCkptComplete_keeps fail s
  | .rowDeadline g => execRowDeadline_keeps g s
  | .seamRowEmit g => execSeamRowEmit_keeps g s
  | .stencilRow g => execStencilRow_keeps g s
  | .plumbRecord q => execPlumbRecord_keeps q s
  | .lathLoadGo groups => execLathLoadGo_keeps groups s
  | .lathFetchDone readFail => execLathFetchDone_keeps readFail s
  | .lathVerifyDone => execLathVerifyDone_keeps s
  | .lathCheckDone => execLathCheckDone_keeps s
  | .lathDrainDone => execLathDrainDone_keeps s
  | .lathApplyDone => execLathApplyDone_keeps s
  | .lathAddrWrite which v => execLathAddrWrite_keeps which v s
  | .commitRequest v => execCommitRequest_keeps v s
  | .uplinkTrainingDone x => execUplinkTrainingDone_keeps x s
  | .uplinkAligned x => execUplinkAligned_keeps x s
  | .uplinkBringupTimeout x => execUplinkBringupTimeout_keeps x s
  | .uplinkRetryExpiry x => execUplinkRetryExpiry_keeps x s
  | .uplinkLaneLoss u => execUplinkLaneLoss_keeps u s
  | .uplinkRestore => execUplinkRestore_keeps s
  | .frameWaitAccept x c => execFrameWaitAccept_keeps x c s
  | .frameTxComplete x => execFrameTxComplete_keeps x s
  | .deadlineDrop x c => execDeadlineDrop_keeps x c s
  | .objectFrameCloseTimeout x c event => execObjectFrameCloseTimeout_keeps x c event s
  | .mgmtReqReceived x frame => execMgmtReqReceived_keeps x frame s
  | .rxFrameDiscard x fxt => execRxFrameDiscard_keeps x fxt s
  | .pfcReceived x enable quanta => execPfcReceived_keeps x enable quanta s
  | .pauseFrameReceived x quanta => execPauseFrameReceived_keeps x quanta s
  | .pauseExpiry x slot => execPauseExpiry_keeps x slot s
  | .pauseMaxExceeded x slot => execPauseMaxExceeded_keeps x slot s
  | .ptpMessageReceived x domain m => execPtpMessageReceived_keeps x domain m s
  | .ptpHoldoverTimeout => execPtpHoldoverTimeout_keeps s
  | .timeFrameTimer x => execTimeFrameTimer_keeps x s
  | .timePeriodWrite v => execTimePeriodWrite_keeps v s
  | .fecWindowEnd u corrected uncorrectable symbols => execFecWindowEnd_keeps u corrected uncorrectable symbols s
  | .memChannelTrained m cause => execMemChannelTrained_keeps m cause s
  | .ceWindowEnd m => execCeWindowEnd_keeps m s
  | .patrolScrubRead addr err => execPatrolScrubRead_keeps addr err s
  | .memAlert m => execMemAlert_keeps m s
  | .memTempReport m hot => execMemTempReport_keeps m hot s
  | .historyItem => execHistoryItem_keeps s
  | .historyAllocate => execHistoryAllocate_keeps s
  | .objectBatchTimeout g => execObjectBatchTimeout_keeps g s
  | .historyItemDeadline g => execHistoryItemDeadline_keeps g s
  | .ringReset => execRingReset_keeps s
  | .historyEnWrite en => execHistoryEnWrite_keeps en s
  | .markSetNow slot => execMarkSetNow_keeps slot s
  | .markSetTime slot => execMarkSetTime_keeps slot s
  | .markClear slot => execMarkClear_keeps slot s
  | .markSelect slot => execMarkSelect_keeps slot s
  | .markBadOp op slot => execMarkBadOp_keeps op slot s
  | .replayGo => execReplayGo_keeps s
  | .replayAbort => execReplayAbort_keeps s
  | .replayWindowStart => execReplayWindowStart_keeps s
  | .replayMarkStart => execReplayMarkStart_keeps s
  | .replayRecordRead err => execReplayRecordRead_keeps err s
  | .replayEndTime => execReplayEndTime_keeps s
  | .stpJobGo j => execStpJobGo_keeps j s
  | .stpJobAbort j => execStpJobAbort_keeps j s
  | .stpCompressJob j => execStpCompressJob_keeps j s
  | .stpDecompressJob j => execStpDecompressJob_keeps j s
  | .stippleBlockDone u err => execStippleBlockDone_keeps u err s
  | .stpAccessTimeout j => execStpAccessTimeout_keeps j s
  | .stippleParityError u => execStippleParityError_keeps u s
  | .dmaStart c => execDmaStart_keeps c s
  | .dmaAbort c => execDmaAbort_keeps c s
  | .dmaAck c => execDmaAck_keeps c s
  | .dmaConfigWrite c off v => execDmaConfigWrite_keeps c off v s
  | .dmaDescFetched c err => execDmaDescFetched_keeps c err s
  | .dmaBlockMoved c err => execDmaBlockMoved_keeps c err s
  | .dmaReadbackDone c err => execDmaReadbackDone_keeps c err s
  | .dmaAccessFail c err => execDmaAccessFail_keeps c err s
  | .dmaAccessTimeout c write => execDmaAccessTimeout_keeps c write s
  | .hawkWhdrWrite q v => execHawkWhdrWrite_keeps q v s
  | .hawkWdataWrite q v => execHawkWdataWrite_keeps q v s
  | .hawkItemMove q => execHawkItemMove_keeps q s
  | .hawkRhdrRead q path => execHawkRhdrRead_keeps q path s
  | .hawkRhdrStallEnd q => execHawkRhdrStallEnd_keeps q s
  | .hawkRdataRead q path flips => execHawkRdataRead_keeps q path flips s
  | .hawkDropCur q => execHawkDropCur_keeps q s
  | .hawkFlush q => execHawkFlush_keeps q s
  | .hawkFlushDone q => execHawkFlushDone_keeps q s
  | .hawkFlushItemTimeout q => execHawkFlushItemTimeout_keeps q s
  | .hawkEccWrite q ecc => execHawkEccWrite_keeps q ecc s
  | .cvuCfgWrite c v => execCvuCfgWrite_keeps c v s
  | .cvuInit c => execCvuInit_keeps c s
  | .cvuFeed8 c v => execCvuFeed8_keeps c v s
  | .cvuFeed16 c v => execCvuFeed16_keeps c v s
  | .cvuFeed32 c v => execCvuFeed32_keeps c v s
  | .cvuValueWrite c v => execCvuValueWrite_keeps c v s
  | .cvuAliveIn c v => execCvuAliveIn_keeps c v s
  | .cvuAliveReset c => execCvuAliveReset_keeps c s
  | .faultRaise e => execFaultRaise_keeps e s
  | .quietPeriodExpiry unit scope => execQuietPeriodExpiry_keeps unit scope s
  | .fltUnitTape unit => execFltUnitTape_keeps unit s
  | .fltUnitRelease unit => execFltUnitRelease_keeps unit s
  | .fltAck e => execFltAck_keeps e s
  | .fltAckAll => execFltAckAll_keeps s
  | .fltSevWrite k v => execFltSevWrite_keeps k v s
  | .unitResetDone unit => execUnitResetDone_keeps unit s
  | .suppressionWindowEnd up down => execSuppressionWindowEnd_keeps up down s
  | .aliveToggle => execAliveToggle_keeps s
  | .heartbeatLoss => execHeartbeatLoss_keeps s
  | .thermalSample readings => execThermalSample_keeps readings s
  | .shedStepTimer => execShedStepTimer_keeps s
  | .shedHoldExpiry => execShedHoldExpiry_keeps s
  | .thermtrip => execThermtrip_keeps s
  | .porRelease sel => execPorRelease_keeps sel s
  | .sysReset sel => execSysReset_keeps sel s
  | .botRestart => execBotRestart_keeps s
  | .corePllLock badKeys journalError => execCorePllLock_keeps badKeys journalError s
  | .clockRetryTimer => execClockRetryTimer_keeps s
  | .slotVerifyDone slotA slotB => execSlotVerifyDone_keeps slotA slotB s
  | .memoryStepEnd => execMemoryStepEnd_keeps s
  | .portsStepEnd => execPortsStepEnd_keeps s
  | .uplinkStepEnd => execUplinkStepEnd_keeps s
  | .undercoatWatchdog => execUndercoatWatchdog_keeps s
  | .hostboot => execHostboot_keeps s
  | .journalForget => execJournalForget_keeps s
  | .forgetUnit e => execForgetUnit_keeps e s
  | .jnlRecordRead path => execJnlRecordRead_keeps path s
  | .lcToProvisioned path key => execLcToProvisioned_keeps path key s
  | .lcToSecured path key => execLcToSecured_keeps path key s
  | .lcToRma path key => execLcToRma_keeps path key s
  | .lcBadTarget path key target => execLcBadTarget_keeps path key target s
  | .lifecycleBurnDone => execLifecycleBurnDone_keeps s
  | .keyProgEc slot => execKeyProgEc_keeps slot s
  | .keyProgPq slot => execKeyProgPq_keeps slot s
  | .keyProgAes slot => execKeyProgAes_keeps slot s
  | .keyRevoke slot => execKeyRevoke_keeps slot s
  | .keyOpBad op slot => execKeyOpBad_keeps op slot s
  | .keyOpDone fail => execKeyOpDone_keeps fail s
  | .rollbackAdvance v => execRollbackAdvance_keeps v s
  | .rollbackBurnDone => execRollbackBurnDone_keeps s
  | .secPolicyWrite v => execSecPolicyWrite_keeps v s
  | .debugOpen path level => execDebugOpen_keeps path level s
  | .debugCertVerified => execDebugCertVerified_keeps s
  | .debugEnd => execDebugEnd_keeps s
  | .debugSessionTimeout => execDebugSessionTimeout_keeps s
  | .debugCoreHalt v => execDebugCoreHalt_keeps v s
  | .pwrReqP0 path => execPwrReqP0_keeps path s
  | .pwrReqP1 path => execPwrReqP1_keeps path s
  | .pwrReqP2 path => execPwrReqP2_keeps path s
  | .pwrReqP3 path => execPwrReqP3_keeps path s
  | .pwrDrainDone => execPwrDrainDone_keeps s
  | .wakePin => execWakePin_keeps s
  | .wakeTimer => execWakeTimer_keeps s
  | .railWakeTimeout => execRailWakeTimeout_keeps s
  | .supplyOutOfWindow => execSupplyOutOfWindow_keeps s
  | .supplyInWindow => execSupplyInWindow_keeps s
  | .coreUndervoltage => execCoreUndervoltage_keeps s
  | .aonUndervoltage => execAonUndervoltage_keeps s
  | .refclkUpLoss => execRefclkUpLoss_keeps s
  | .refclkVslLoss => execRefclkVslLoss_keeps s
  | .tstModeWrite lane v => execTstModeWrite_keeps lane v s
  | .tstInject lane => execTstInject_keeps lane s
  | .tstBcastGo => execTstBcastGo_keeps s
  | .tstCheckerLock lane => execTstCheckerLock_keeps lane s
  | .tstCheckerLockLoss lane errs => execTstCheckerLockLoss_keeps lane errs s
  | .eyeScanGo lane => execEyeScanGo_keeps lane s
  | .eyePointDone lane errs => execEyePointDone_keeps lane errs s
  | .tapInstruction ir => execTapInstruction_keeps ir s
  | .tapReset => execTapReset_keeps s
  | .dbgRead addr tag => execDbgRead_keeps addr tag s
  | .dbgWrite addr data tag => execDbgWrite_keeps addr data tag s
  | .dbgCapture => execDbgCapture_keeps s
  | .spiWrite addr data => execSpiWrite_keeps addr data s
  | .spiRead addr => execSpiRead_keeps addr s
  | .spiTaggedWrite addr data tag => execSpiTaggedWrite_keeps addr data tag s
  | .spiTaggedRead addr => execSpiTaggedRead_keeps addr s
  | .spiUnknownCmd => execSpiUnknownCmd_keeps s
  | .mgeMgmtReq frame bad => execMgeMgmtReq_keeps frame bad s
  | .smbSetPointer addr => execSmbSetPointer_keeps addr s
  | .smbBlockRead => execSmbBlockRead_keeps s
  | .smbBadCommand => execSmbBadCommand_keeps s
  | .mbxPing arg => execMbxPing_keeps arg s
  | .mbxFwInfo => execMbxFwInfo_keeps s
  | .mbxMramRead offset length dest => execMbxMramRead_keeps offset length dest s
  | .mbxServoReset => execMbxServoReset_keeps s
  | .mbxBadCmd cmd => execMbxBadCmd_keeps cmd s
  | .mbxDone fail => execMbxDone_keeps fail s
  | .accessTimeout path => execAccessTimeout_keeps path s
  | .registerWrite addr v path => execRegisterWrite_keeps addr v path s
  | .freezingLoRead addr path => execFreezingLoRead_keeps addr path s
  | .freezingHiRead addr path => execFreezingHiRead_keeps addr path s
  | .dualClockQueueOverflow n => execDualClockQueueOverflow_keeps n s
  | .triggerRelease n => execTriggerRelease_keeps n s
  | .sourceExposureTime g m => execSourceExposureTime_keeps g m s
  | .alignmentMarkerLockLost u => execAlignmentMarkerLockLost_keeps u s
  | .alignmentMarkerLockRegained u => execAlignmentMarkerLockRegained_keeps u s
  | .collectorParityError => execCollectorParityError_keeps s
  | .porAsserted => execPorAsserted_keeps s
  | .wakeRailsReady => execWakeRailsReady_keeps s
  | .mgeLinkUp => execMgeLinkUp_keeps s
  | .mgeLinkDown => execMgeLinkDown_keeps s

end Sys2Proof.Machine
end

