-- ==== Sys2Proof/Laws/State.lean ====
section
/-! SUPPORT. What each update of the state leaves in each field, and what each accessor reads after each update. -/

namespace Sys2Proof.Machine

/-! ### `State.wr` -/

@[simp] theorem State.wr_cnt (s : State) (f : Fld) (v : Nat) : (s.wr f v).cnt = s.cnt := rfl
@[simp] theorem State.wr_snap (s : State) (f : Fld) (v : Nat) : (s.wr f v).snap = s.snap := rfl
@[simp] theorem State.wr_snapNext (s : State) (f : Fld) (v : Nat) : (s.wr f v).snapNext = s.snapNext := rfl
@[simp] theorem State.wr_draws (s : State) (f : Fld) (v : Nat) : (s.wr f v).draws = s.draws := rfl
@[simp] theorem State.wr_raised (s : State) (f : Fld) (v : Nat) : (s.wr f v).raised = s.raised := rfl
@[simp] theorem State.wr_ruleTaped (s : State) (f : Fld) (v : Nat) : (s.wr f v).ruleTaped = s.ruleTaped := rfl
@[simp] theorem State.wr_chalk (s : State) (f : Fld) (v : Nat) : (s.wr f v).chalk = s.chalk := rfl
@[simp] theorem State.wr_tgs (s : State) (f : Fld) (v : Nat) : (s.wr f v).tgs = s.tgs := rfl
@[simp] theorem State.wr_lanes (s : State) (f : Fld) (v : Nat) : (s.wr f v).lanes = s.lanes := rfl
@[simp] theorem State.wr_ports (s : State) (f : Fld) (v : Nat) : (s.wr f v).ports = s.ports := rfl
@[simp] theorem State.wr_hawk (s : State) (f : Fld) (v : Nat) : (s.wr f v).hawk = s.hawk := rfl
@[simp] theorem State.wr_snags (s : State) (f : Fld) (v : Nat) : (s.wr f v).snags = s.snags := rfl
@[simp] theorem State.wr_units (s : State) (f : Fld) (v : Nat) : (s.wr f v).units = s.units := rfl
@[simp] theorem State.wr_windows (s : State) (f : Fld) (v : Nat) : (s.wr f v).windows = s.windows := rfl
@[simp] theorem State.wr_commits (s : State) (f : Fld) (v : Nat) : (s.wr f v).commits = s.commits := rfl
@[simp] theorem State.wr_seams (s : State) (f : Fld) (v : Nat) : (s.wr f v).seams = s.seams := rfl
@[simp] theorem State.wr_rnds (s : State) (f : Fld) (v : Nat) : (s.wr f v).rnds = s.rnds := rfl
@[simp] theorem State.wr_skims (s : State) (f : Fld) (v : Nat) : (s.wr f v).skims = s.skims := rfl
@[simp] theorem State.wr_skimGs (s : State) (f : Fld) (v : Nat) : (s.wr f v).skimGs = s.skimGs := rfl
@[simp] theorem State.wr_stns (s : State) (f : Fld) (v : Nat) : (s.wr f v).stns = s.stns := rfl
@[simp] theorem State.wr_plbs (s : State) (f : Fld) (v : Nat) : (s.wr f v).plbs = s.plbs := rfl
@[simp] theorem State.wr_ucls (s : State) (f : Fld) (v : Nat) : (s.wr f v).ucls = s.ucls := rfl
@[simp] theorem State.wr_subs (s : State) (f : Fld) (v : Nat) : (s.wr f v).subs = s.subs := rfl
@[simp] theorem State.wr_ptp (s : State) (f : Fld) (v : Nat) : (s.wr f v).ptp = s.ptp := rfl
@[simp] theorem State.wr_hst (s : State) (f : Fld) (v : Nat) : (s.wr f v).hst = s.hst := rfl
@[simp] theorem State.wr_replay (s : State) (f : Fld) (v : Nat) : (s.wr f v).replay = s.replay := rfl
@[simp] theorem State.wr_mem (s : State) (f : Fld) (v : Nat) : (s.wr f v).mem = s.mem := rfl
@[simp] theorem State.wr_stpPorts (s : State) (f : Fld) (v : Nat) : (s.wr f v).stpPorts = s.stpPorts := rfl
@[simp] theorem State.wr_stpPipe (s : State) (f : Fld) (v : Nat) : (s.wr f v).stpPipe = s.stpPipe := rfl
@[simp] theorem State.wr_stpTiles (s : State) (f : Fld) (v : Nat) : (s.wr f v).stpTiles = s.stpTiles := rfl
@[simp] theorem State.wr_stpTaped (s : State) (f : Fld) (v : Nat) : (s.wr f v).stpTaped = s.stpTaped := rfl
@[simp] theorem State.wr_dmaChs (s : State) (f : Fld) (v : Nat) : (s.wr f v).dmaChs = s.dmaChs := rfl
@[simp] theorem State.wr_ldr (s : State) (f : Fld) (v : Nat) : (s.wr f v).ldr = s.ldr := rfl
@[simp] theorem State.wr_mram (s : State) (f : Fld) (v : Nat) : (s.wr f v).mram = s.mram := rfl
@[simp] theorem State.wr_dram (s : State) (f : Fld) (v : Nat) : (s.wr f v).dram = s.dram := rfl
@[simp] theorem State.wr_scratch (s : State) (f : Fld) (v : Nat) : (s.wr f v).scratch = s.scratch := rfl
@[simp] theorem State.wr_hostload (s : State) (f : Fld) (v : Nat) : (s.wr f v).hostload = s.hostload := rfl
@[simp] theorem State.wr_boot (s : State) (f : Fld) (v : Nat) : (s.wr f v).boot = s.boot := rfl
@[simp] theorem State.wr_pins (s : State) (f : Fld) (v : Nat) : (s.wr f v).pins = s.pins := rfl
@[simp] theorem State.wr_therm (s : State) (f : Fld) (v : Nat) : (s.wr f v).therm = s.therm := rfl
@[simp] theorem State.wr_power (s : State) (f : Fld) (v : Nat) : (s.wr f v).power = s.power := rfl
@[simp] theorem State.wr_fuses (s : State) (f : Fld) (v : Nat) : (s.wr f v).fuses = s.fuses := rfl
@[simp] theorem State.wr_sec (s : State) (f : Fld) (v : Nat) : (s.wr f v).sec = s.sec := rfl
@[simp] theorem State.wr_fw (s : State) (f : Fld) (v : Nat) : (s.wr f v).fw = s.fw := rfl
@[simp] theorem State.wr_tst (s : State) (f : Fld) (v : Nat) : (s.wr f v).tst = s.tst := rfl
@[simp] theorem State.wr_io (s : State) (f : Fld) (v : Nat) : (s.wr f v).io = s.io := rfl
@[simp] theorem State.wr_answers (s : State) (f : Fld) (v : Nat) : (s.wr f v).answers = s.answers := rfl
@[simp] theorem State.wr_pending (s : State) (f : Fld) (v : Nat) : (s.wr f v).pending = s.pending := rfl
@[simp] theorem State.wr_ctr (s : State) (f : Fld) (v : Nat) (g : Fld) : (s.wr f v).ctr g = s.ctr g := rfl
@[simp] theorem State.wr_laneOf (s : State) (f : Fld) (v : Nat) (m : Nat) : (s.wr f v).lane m = s.lane m := rfl
@[simp] theorem State.wr_portOf (s : State) (f : Fld) (v : Nat) (m : Nat) : (s.wr f v).port m = s.port m := rfl
@[simp] theorem State.wr_tgOf (s : State) (f : Fld) (v : Nat) (m : Nat) : (s.wr f v).tg m = s.tg m := rfl
@[simp] theorem State.wr_hqOf (s : State) (f : Fld) (v : Nat) (m : Nat) : (s.wr f v).hq m = s.hq m := rfl
@[simp] theorem State.wr_snagOf (s : State) (f : Fld) (v : Nat) (m : Nat) : (s.wr f v).snag m = s.snag m := rfl
@[simp] theorem State.wr_unitOf (s : State) (f : Fld) (v : Nat) (m : Nat) : (s.wr f v).unit m = s.unit m := rfl
@[simp] theorem State.wr_seamOf (s : State) (f : Fld) (v : Nat) (m : Nat) : (s.wr f v).seam m = s.seam m := rfl
@[simp] theorem State.wr_rndOf (s : State) (f : Fld) (v : Nat) (m : Nat) : (s.wr f v).rnd m = s.rnd m := rfl
@[simp] theorem State.wr_skimOf (s : State) (f : Fld) (v : Nat) (m : Nat) : (s.wr f v).skim m = s.skim m := rfl
@[simp] theorem State.wr_skimGOf (s : State) (f : Fld) (v : Nat) (m : Nat) : (s.wr f v).skimG m = s.skimG m := rfl
@[simp] theorem State.wr_stnOf (s : State) (f : Fld) (v : Nat) (m : Nat) : (s.wr f v).stn m = s.stn m := rfl
@[simp] theorem State.wr_plbOf (s : State) (f : Fld) (v : Nat) (m : Nat) : (s.wr f v).plb m = s.plb m := rfl
@[simp] theorem State.wr_uclOf (s : State) (f : Fld) (v : Nat) (m : Nat) : (s.wr f v).ucl m = s.ucl m := rfl
@[simp] theorem State.wr_subOf (s : State) (f : Fld) (v : Nat) (m : Nat) : (s.wr f v).sub m = s.sub m := rfl
@[simp] theorem State.wr_stpPortOf (s : State) (f : Fld) (v : Nat) (m : Nat) : (s.wr f v).stpPort m = s.stpPort m := rfl
@[simp] theorem State.wr_dmaChOf (s : State) (f : Fld) (v : Nat) (m : Nat) : (s.wr f v).dmaCh m = s.dmaCh m := rfl
@[simp] theorem State.wr_tstLaneOf (s : State) (f : Fld) (v : Nat) (m : Nat) : (s.wr f v).tstLane m = s.tstLane m := rfl
@[simp] theorem State.wr_commitOf (s : State) (f : Fld) (v : Nat) (m : Nat) : (s.wr f v).commit m = s.commit m := rfl

/-! ### `State.inc` -/

@[simp] theorem State.inc_regs (s : State) (f : Fld) (k : Nat) : (s.inc f k).regs = s.regs := rfl
@[simp] theorem State.inc_snap (s : State) (f : Fld) (k : Nat) : (s.inc f k).snap = s.snap := rfl
@[simp] theorem State.inc_snapNext (s : State) (f : Fld) (k : Nat) : (s.inc f k).snapNext = s.snapNext := rfl
@[simp] theorem State.inc_draws (s : State) (f : Fld) (k : Nat) : (s.inc f k).draws = s.draws := rfl
@[simp] theorem State.inc_raised (s : State) (f : Fld) (k : Nat) : (s.inc f k).raised = s.raised := rfl
@[simp] theorem State.inc_ruleTaped (s : State) (f : Fld) (k : Nat) : (s.inc f k).ruleTaped = s.ruleTaped := rfl
@[simp] theorem State.inc_chalk (s : State) (f : Fld) (k : Nat) : (s.inc f k).chalk = s.chalk := rfl
@[simp] theorem State.inc_tgs (s : State) (f : Fld) (k : Nat) : (s.inc f k).tgs = s.tgs := rfl
@[simp] theorem State.inc_lanes (s : State) (f : Fld) (k : Nat) : (s.inc f k).lanes = s.lanes := rfl
@[simp] theorem State.inc_ports (s : State) (f : Fld) (k : Nat) : (s.inc f k).ports = s.ports := rfl
@[simp] theorem State.inc_hawk (s : State) (f : Fld) (k : Nat) : (s.inc f k).hawk = s.hawk := rfl
@[simp] theorem State.inc_snags (s : State) (f : Fld) (k : Nat) : (s.inc f k).snags = s.snags := rfl
@[simp] theorem State.inc_units (s : State) (f : Fld) (k : Nat) : (s.inc f k).units = s.units := rfl
@[simp] theorem State.inc_windows (s : State) (f : Fld) (k : Nat) : (s.inc f k).windows = s.windows := rfl
@[simp] theorem State.inc_commits (s : State) (f : Fld) (k : Nat) : (s.inc f k).commits = s.commits := rfl
@[simp] theorem State.inc_seams (s : State) (f : Fld) (k : Nat) : (s.inc f k).seams = s.seams := rfl
@[simp] theorem State.inc_rnds (s : State) (f : Fld) (k : Nat) : (s.inc f k).rnds = s.rnds := rfl
@[simp] theorem State.inc_skims (s : State) (f : Fld) (k : Nat) : (s.inc f k).skims = s.skims := rfl
@[simp] theorem State.inc_skimGs (s : State) (f : Fld) (k : Nat) : (s.inc f k).skimGs = s.skimGs := rfl
@[simp] theorem State.inc_stns (s : State) (f : Fld) (k : Nat) : (s.inc f k).stns = s.stns := rfl
@[simp] theorem State.inc_plbs (s : State) (f : Fld) (k : Nat) : (s.inc f k).plbs = s.plbs := rfl
@[simp] theorem State.inc_ucls (s : State) (f : Fld) (k : Nat) : (s.inc f k).ucls = s.ucls := rfl
@[simp] theorem State.inc_subs (s : State) (f : Fld) (k : Nat) : (s.inc f k).subs = s.subs := rfl
@[simp] theorem State.inc_ptp (s : State) (f : Fld) (k : Nat) : (s.inc f k).ptp = s.ptp := rfl
@[simp] theorem State.inc_hst (s : State) (f : Fld) (k : Nat) : (s.inc f k).hst = s.hst := rfl
@[simp] theorem State.inc_replay (s : State) (f : Fld) (k : Nat) : (s.inc f k).replay = s.replay := rfl
@[simp] theorem State.inc_mem (s : State) (f : Fld) (k : Nat) : (s.inc f k).mem = s.mem := rfl
@[simp] theorem State.inc_stpPorts (s : State) (f : Fld) (k : Nat) : (s.inc f k).stpPorts = s.stpPorts := rfl
@[simp] theorem State.inc_stpPipe (s : State) (f : Fld) (k : Nat) : (s.inc f k).stpPipe = s.stpPipe := rfl
@[simp] theorem State.inc_stpTiles (s : State) (f : Fld) (k : Nat) : (s.inc f k).stpTiles = s.stpTiles := rfl
@[simp] theorem State.inc_stpTaped (s : State) (f : Fld) (k : Nat) : (s.inc f k).stpTaped = s.stpTaped := rfl
@[simp] theorem State.inc_dmaChs (s : State) (f : Fld) (k : Nat) : (s.inc f k).dmaChs = s.dmaChs := rfl
@[simp] theorem State.inc_ldr (s : State) (f : Fld) (k : Nat) : (s.inc f k).ldr = s.ldr := rfl
@[simp] theorem State.inc_mram (s : State) (f : Fld) (k : Nat) : (s.inc f k).mram = s.mram := rfl
@[simp] theorem State.inc_dram (s : State) (f : Fld) (k : Nat) : (s.inc f k).dram = s.dram := rfl
@[simp] theorem State.inc_scratch (s : State) (f : Fld) (k : Nat) : (s.inc f k).scratch = s.scratch := rfl
@[simp] theorem State.inc_hostload (s : State) (f : Fld) (k : Nat) : (s.inc f k).hostload = s.hostload := rfl
@[simp] theorem State.inc_boot (s : State) (f : Fld) (k : Nat) : (s.inc f k).boot = s.boot := rfl
@[simp] theorem State.inc_pins (s : State) (f : Fld) (k : Nat) : (s.inc f k).pins = s.pins := rfl
@[simp] theorem State.inc_therm (s : State) (f : Fld) (k : Nat) : (s.inc f k).therm = s.therm := rfl
@[simp] theorem State.inc_power (s : State) (f : Fld) (k : Nat) : (s.inc f k).power = s.power := rfl
@[simp] theorem State.inc_fuses (s : State) (f : Fld) (k : Nat) : (s.inc f k).fuses = s.fuses := rfl
@[simp] theorem State.inc_sec (s : State) (f : Fld) (k : Nat) : (s.inc f k).sec = s.sec := rfl
@[simp] theorem State.inc_fw (s : State) (f : Fld) (k : Nat) : (s.inc f k).fw = s.fw := rfl
@[simp] theorem State.inc_tst (s : State) (f : Fld) (k : Nat) : (s.inc f k).tst = s.tst := rfl
@[simp] theorem State.inc_io (s : State) (f : Fld) (k : Nat) : (s.inc f k).io = s.io := rfl
@[simp] theorem State.inc_answers (s : State) (f : Fld) (k : Nat) : (s.inc f k).answers = s.answers := rfl
@[simp] theorem State.inc_pending (s : State) (f : Fld) (k : Nat) : (s.inc f k).pending = s.pending := rfl
@[simp] theorem State.inc_rd (s : State) (f : Fld) (k : Nat) (g : Fld) : (s.inc f k).rd g = s.rd g := rfl
@[simp] theorem State.inc_flag (s : State) (f : Fld) (k : Nat) (g : Fld) : (s.inc f k).flag g = s.flag g := rfl
@[simp] theorem State.inc_laneOf (s : State) (f : Fld) (k : Nat) (m : Nat) : (s.inc f k).lane m = s.lane m := rfl
@[simp] theorem State.inc_portOf (s : State) (f : Fld) (k : Nat) (m : Nat) : (s.inc f k).port m = s.port m := rfl
@[simp] theorem State.inc_tgOf (s : State) (f : Fld) (k : Nat) (m : Nat) : (s.inc f k).tg m = s.tg m := rfl
@[simp] theorem State.inc_hqOf (s : State) (f : Fld) (k : Nat) (m : Nat) : (s.inc f k).hq m = s.hq m := rfl
@[simp] theorem State.inc_snagOf (s : State) (f : Fld) (k : Nat) (m : Nat) : (s.inc f k).snag m = s.snag m := rfl
@[simp] theorem State.inc_unitOf (s : State) (f : Fld) (k : Nat) (m : Nat) : (s.inc f k).unit m = s.unit m := rfl
@[simp] theorem State.inc_seamOf (s : State) (f : Fld) (k : Nat) (m : Nat) : (s.inc f k).seam m = s.seam m := rfl
@[simp] theorem State.inc_rndOf (s : State) (f : Fld) (k : Nat) (m : Nat) : (s.inc f k).rnd m = s.rnd m := rfl
@[simp] theorem State.inc_skimOf (s : State) (f : Fld) (k : Nat) (m : Nat) : (s.inc f k).skim m = s.skim m := rfl
@[simp] theorem State.inc_skimGOf (s : State) (f : Fld) (k : Nat) (m : Nat) : (s.inc f k).skimG m = s.skimG m := rfl
@[simp] theorem State.inc_stnOf (s : State) (f : Fld) (k : Nat) (m : Nat) : (s.inc f k).stn m = s.stn m := rfl
@[simp] theorem State.inc_plbOf (s : State) (f : Fld) (k : Nat) (m : Nat) : (s.inc f k).plb m = s.plb m := rfl
@[simp] theorem State.inc_uclOf (s : State) (f : Fld) (k : Nat) (m : Nat) : (s.inc f k).ucl m = s.ucl m := rfl
@[simp] theorem State.inc_subOf (s : State) (f : Fld) (k : Nat) (m : Nat) : (s.inc f k).sub m = s.sub m := rfl
@[simp] theorem State.inc_stpPortOf (s : State) (f : Fld) (k : Nat) (m : Nat) : (s.inc f k).stpPort m = s.stpPort m := rfl
@[simp] theorem State.inc_dmaChOf (s : State) (f : Fld) (k : Nat) (m : Nat) : (s.inc f k).dmaCh m = s.dmaCh m := rfl
@[simp] theorem State.inc_tstLaneOf (s : State) (f : Fld) (k : Nat) (m : Nat) : (s.inc f k).tstLane m = s.tstLane m := rfl
@[simp] theorem State.inc_commitOf (s : State) (f : Fld) (k : Nat) (m : Nat) : (s.inc f k).commit m = s.commit m := rfl

/-! ### `State.inc64` -/

@[simp] theorem State.inc64_regs (s : State) (lo hi : Fld) (k : Nat) : (s.inc64 lo hi k).regs = s.regs := rfl
@[simp] theorem State.inc64_snap (s : State) (lo hi : Fld) (k : Nat) : (s.inc64 lo hi k).snap = s.snap := rfl
@[simp] theorem State.inc64_snapNext (s : State) (lo hi : Fld) (k : Nat) : (s.inc64 lo hi k).snapNext = s.snapNext := rfl
@[simp] theorem State.inc64_draws (s : State) (lo hi : Fld) (k : Nat) : (s.inc64 lo hi k).draws = s.draws := rfl
@[simp] theorem State.inc64_raised (s : State) (lo hi : Fld) (k : Nat) : (s.inc64 lo hi k).raised = s.raised := rfl
@[simp] theorem State.inc64_ruleTaped (s : State) (lo hi : Fld) (k : Nat) : (s.inc64 lo hi k).ruleTaped = s.ruleTaped := rfl
@[simp] theorem State.inc64_chalk (s : State) (lo hi : Fld) (k : Nat) : (s.inc64 lo hi k).chalk = s.chalk := rfl
@[simp] theorem State.inc64_tgs (s : State) (lo hi : Fld) (k : Nat) : (s.inc64 lo hi k).tgs = s.tgs := rfl
@[simp] theorem State.inc64_lanes (s : State) (lo hi : Fld) (k : Nat) : (s.inc64 lo hi k).lanes = s.lanes := rfl
@[simp] theorem State.inc64_ports (s : State) (lo hi : Fld) (k : Nat) : (s.inc64 lo hi k).ports = s.ports := rfl
@[simp] theorem State.inc64_hawk (s : State) (lo hi : Fld) (k : Nat) : (s.inc64 lo hi k).hawk = s.hawk := rfl
@[simp] theorem State.inc64_snags (s : State) (lo hi : Fld) (k : Nat) : (s.inc64 lo hi k).snags = s.snags := rfl
@[simp] theorem State.inc64_units (s : State) (lo hi : Fld) (k : Nat) : (s.inc64 lo hi k).units = s.units := rfl
@[simp] theorem State.inc64_windows (s : State) (lo hi : Fld) (k : Nat) : (s.inc64 lo hi k).windows = s.windows := rfl
@[simp] theorem State.inc64_commits (s : State) (lo hi : Fld) (k : Nat) : (s.inc64 lo hi k).commits = s.commits := rfl
@[simp] theorem State.inc64_seams (s : State) (lo hi : Fld) (k : Nat) : (s.inc64 lo hi k).seams = s.seams := rfl
@[simp] theorem State.inc64_rnds (s : State) (lo hi : Fld) (k : Nat) : (s.inc64 lo hi k).rnds = s.rnds := rfl
@[simp] theorem State.inc64_skims (s : State) (lo hi : Fld) (k : Nat) : (s.inc64 lo hi k).skims = s.skims := rfl
@[simp] theorem State.inc64_skimGs (s : State) (lo hi : Fld) (k : Nat) : (s.inc64 lo hi k).skimGs = s.skimGs := rfl
@[simp] theorem State.inc64_stns (s : State) (lo hi : Fld) (k : Nat) : (s.inc64 lo hi k).stns = s.stns := rfl
@[simp] theorem State.inc64_plbs (s : State) (lo hi : Fld) (k : Nat) : (s.inc64 lo hi k).plbs = s.plbs := rfl
@[simp] theorem State.inc64_ucls (s : State) (lo hi : Fld) (k : Nat) : (s.inc64 lo hi k).ucls = s.ucls := rfl
@[simp] theorem State.inc64_subs (s : State) (lo hi : Fld) (k : Nat) : (s.inc64 lo hi k).subs = s.subs := rfl
@[simp] theorem State.inc64_ptp (s : State) (lo hi : Fld) (k : Nat) : (s.inc64 lo hi k).ptp = s.ptp := rfl
@[simp] theorem State.inc64_hst (s : State) (lo hi : Fld) (k : Nat) : (s.inc64 lo hi k).hst = s.hst := rfl
@[simp] theorem State.inc64_replay (s : State) (lo hi : Fld) (k : Nat) : (s.inc64 lo hi k).replay = s.replay := rfl
@[simp] theorem State.inc64_mem (s : State) (lo hi : Fld) (k : Nat) : (s.inc64 lo hi k).mem = s.mem := rfl
@[simp] theorem State.inc64_stpPorts (s : State) (lo hi : Fld) (k : Nat) : (s.inc64 lo hi k).stpPorts = s.stpPorts := rfl
@[simp] theorem State.inc64_stpPipe (s : State) (lo hi : Fld) (k : Nat) : (s.inc64 lo hi k).stpPipe = s.stpPipe := rfl
@[simp] theorem State.inc64_stpTiles (s : State) (lo hi : Fld) (k : Nat) : (s.inc64 lo hi k).stpTiles = s.stpTiles := rfl
@[simp] theorem State.inc64_stpTaped (s : State) (lo hi : Fld) (k : Nat) : (s.inc64 lo hi k).stpTaped = s.stpTaped := rfl
@[simp] theorem State.inc64_dmaChs (s : State) (lo hi : Fld) (k : Nat) : (s.inc64 lo hi k).dmaChs = s.dmaChs := rfl
@[simp] theorem State.inc64_ldr (s : State) (lo hi : Fld) (k : Nat) : (s.inc64 lo hi k).ldr = s.ldr := rfl
@[simp] theorem State.inc64_mram (s : State) (lo hi : Fld) (k : Nat) : (s.inc64 lo hi k).mram = s.mram := rfl
@[simp] theorem State.inc64_dram (s : State) (lo hi : Fld) (k : Nat) : (s.inc64 lo hi k).dram = s.dram := rfl
@[simp] theorem State.inc64_scratch (s : State) (lo hi : Fld) (k : Nat) : (s.inc64 lo hi k).scratch = s.scratch := rfl
@[simp] theorem State.inc64_hostload (s : State) (lo hi : Fld) (k : Nat) : (s.inc64 lo hi k).hostload = s.hostload := rfl
@[simp] theorem State.inc64_boot (s : State) (lo hi : Fld) (k : Nat) : (s.inc64 lo hi k).boot = s.boot := rfl
@[simp] theorem State.inc64_pins (s : State) (lo hi : Fld) (k : Nat) : (s.inc64 lo hi k).pins = s.pins := rfl
@[simp] theorem State.inc64_therm (s : State) (lo hi : Fld) (k : Nat) : (s.inc64 lo hi k).therm = s.therm := rfl
@[simp] theorem State.inc64_power (s : State) (lo hi : Fld) (k : Nat) : (s.inc64 lo hi k).power = s.power := rfl
@[simp] theorem State.inc64_fuses (s : State) (lo hi : Fld) (k : Nat) : (s.inc64 lo hi k).fuses = s.fuses := rfl
@[simp] theorem State.inc64_sec (s : State) (lo hi : Fld) (k : Nat) : (s.inc64 lo hi k).sec = s.sec := rfl
@[simp] theorem State.inc64_fw (s : State) (lo hi : Fld) (k : Nat) : (s.inc64 lo hi k).fw = s.fw := rfl
@[simp] theorem State.inc64_tst (s : State) (lo hi : Fld) (k : Nat) : (s.inc64 lo hi k).tst = s.tst := rfl
@[simp] theorem State.inc64_io (s : State) (lo hi : Fld) (k : Nat) : (s.inc64 lo hi k).io = s.io := rfl
@[simp] theorem State.inc64_answers (s : State) (lo hi : Fld) (k : Nat) : (s.inc64 lo hi k).answers = s.answers := rfl
@[simp] theorem State.inc64_pending (s : State) (lo hi : Fld) (k : Nat) : (s.inc64 lo hi k).pending = s.pending := rfl
@[simp] theorem State.inc64_rd (s : State) (lo hi : Fld) (k : Nat) (g : Fld) : (s.inc64 lo hi k).rd g = s.rd g := rfl
@[simp] theorem State.inc64_flag (s : State) (lo hi : Fld) (k : Nat) (g : Fld) : (s.inc64 lo hi k).flag g = s.flag g := rfl
@[simp] theorem State.inc64_laneOf (s : State) (lo hi : Fld) (k : Nat) (m : Nat) : (s.inc64 lo hi k).lane m = s.lane m := rfl
@[simp] theorem State.inc64_portOf (s : State) (lo hi : Fld) (k : Nat) (m : Nat) : (s.inc64 lo hi k).port m = s.port m := rfl
@[simp] theorem State.inc64_tgOf (s : State) (lo hi : Fld) (k : Nat) (m : Nat) : (s.inc64 lo hi k).tg m = s.tg m := rfl
@[simp] theorem State.inc64_hqOf (s : State) (lo hi : Fld) (k : Nat) (m : Nat) : (s.inc64 lo hi k).hq m = s.hq m := rfl
@[simp] theorem State.inc64_snagOf (s : State) (lo hi : Fld) (k : Nat) (m : Nat) : (s.inc64 lo hi k).snag m = s.snag m := rfl
@[simp] theorem State.inc64_unitOf (s : State) (lo hi : Fld) (k : Nat) (m : Nat) : (s.inc64 lo hi k).unit m = s.unit m := rfl
@[simp] theorem State.inc64_seamOf (s : State) (lo hi : Fld) (k : Nat) (m : Nat) : (s.inc64 lo hi k).seam m = s.seam m := rfl
@[simp] theorem State.inc64_rndOf (s : State) (lo hi : Fld) (k : Nat) (m : Nat) : (s.inc64 lo hi k).rnd m = s.rnd m := rfl
@[simp] theorem State.inc64_skimOf (s : State) (lo hi : Fld) (k : Nat) (m : Nat) : (s.inc64 lo hi k).skim m = s.skim m := rfl
@[simp] theorem State.inc64_skimGOf (s : State) (lo hi : Fld) (k : Nat) (m : Nat) : (s.inc64 lo hi k).skimG m = s.skimG m := rfl
@[simp] theorem State.inc64_stnOf (s : State) (lo hi : Fld) (k : Nat) (m : Nat) : (s.inc64 lo hi k).stn m = s.stn m := rfl
@[simp] theorem State.inc64_plbOf (s : State) (lo hi : Fld) (k : Nat) (m : Nat) : (s.inc64 lo hi k).plb m = s.plb m := rfl
@[simp] theorem State.inc64_uclOf (s : State) (lo hi : Fld) (k : Nat) (m : Nat) : (s.inc64 lo hi k).ucl m = s.ucl m := rfl
@[simp] theorem State.inc64_subOf (s : State) (lo hi : Fld) (k : Nat) (m : Nat) : (s.inc64 lo hi k).sub m = s.sub m := rfl
@[simp] theorem State.inc64_stpPortOf (s : State) (lo hi : Fld) (k : Nat) (m : Nat) : (s.inc64 lo hi k).stpPort m = s.stpPort m := rfl
@[simp] theorem State.inc64_dmaChOf (s : State) (lo hi : Fld) (k : Nat) (m : Nat) : (s.inc64 lo hi k).dmaCh m = s.dmaCh m := rfl
@[simp] theorem State.inc64_tstLaneOf (s : State) (lo hi : Fld) (k : Nat) (m : Nat) : (s.inc64 lo hi k).tstLane m = s.tstLane m := rfl
@[simp] theorem State.inc64_commitOf (s : State) (lo hi : Fld) (k : Nat) (m : Nat) : (s.inc64 lo hi k).commit m = s.commit m := rfl

/-! ### `State.raise` -/

@[simp] theorem State.raise_regs (s : State) (e : Nat) : (s.raise e).regs = s.regs := rfl
@[simp] theorem State.raise_cnt (s : State) (e : Nat) : (s.raise e).cnt = s.cnt := rfl
@[simp] theorem State.raise_snap (s : State) (e : Nat) : (s.raise e).snap = s.snap := rfl
@[simp] theorem State.raise_snapNext (s : State) (e : Nat) : (s.raise e).snapNext = s.snapNext := rfl
@[simp] theorem State.raise_draws (s : State) (e : Nat) : (s.raise e).draws = s.draws := rfl
@[simp] theorem State.raise_ruleTaped (s : State) (e : Nat) : (s.raise e).ruleTaped = s.ruleTaped := rfl
@[simp] theorem State.raise_chalk (s : State) (e : Nat) : (s.raise e).chalk = s.chalk := rfl
@[simp] theorem State.raise_tgs (s : State) (e : Nat) : (s.raise e).tgs = s.tgs := rfl
@[simp] theorem State.raise_lanes (s : State) (e : Nat) : (s.raise e).lanes = s.lanes := rfl
@[simp] theorem State.raise_ports (s : State) (e : Nat) : (s.raise e).ports = s.ports := rfl
@[simp] theorem State.raise_hawk (s : State) (e : Nat) : (s.raise e).hawk = s.hawk := rfl
@[simp] theorem State.raise_snags (s : State) (e : Nat) : (s.raise e).snags = s.snags := rfl
@[simp] theorem State.raise_units (s : State) (e : Nat) : (s.raise e).units = s.units := rfl
@[simp] theorem State.raise_windows (s : State) (e : Nat) : (s.raise e).windows = s.windows := rfl
@[simp] theorem State.raise_commits (s : State) (e : Nat) : (s.raise e).commits = s.commits := rfl
@[simp] theorem State.raise_seams (s : State) (e : Nat) : (s.raise e).seams = s.seams := rfl
@[simp] theorem State.raise_rnds (s : State) (e : Nat) : (s.raise e).rnds = s.rnds := rfl
@[simp] theorem State.raise_skims (s : State) (e : Nat) : (s.raise e).skims = s.skims := rfl
@[simp] theorem State.raise_skimGs (s : State) (e : Nat) : (s.raise e).skimGs = s.skimGs := rfl
@[simp] theorem State.raise_stns (s : State) (e : Nat) : (s.raise e).stns = s.stns := rfl
@[simp] theorem State.raise_plbs (s : State) (e : Nat) : (s.raise e).plbs = s.plbs := rfl
@[simp] theorem State.raise_ucls (s : State) (e : Nat) : (s.raise e).ucls = s.ucls := rfl
@[simp] theorem State.raise_subs (s : State) (e : Nat) : (s.raise e).subs = s.subs := rfl
@[simp] theorem State.raise_ptp (s : State) (e : Nat) : (s.raise e).ptp = s.ptp := rfl
@[simp] theorem State.raise_hst (s : State) (e : Nat) : (s.raise e).hst = s.hst := rfl
@[simp] theorem State.raise_replay (s : State) (e : Nat) : (s.raise e).replay = s.replay := rfl
@[simp] theorem State.raise_mem (s : State) (e : Nat) : (s.raise e).mem = s.mem := rfl
@[simp] theorem State.raise_stpPorts (s : State) (e : Nat) : (s.raise e).stpPorts = s.stpPorts := rfl
@[simp] theorem State.raise_stpPipe (s : State) (e : Nat) : (s.raise e).stpPipe = s.stpPipe := rfl
@[simp] theorem State.raise_stpTiles (s : State) (e : Nat) : (s.raise e).stpTiles = s.stpTiles := rfl
@[simp] theorem State.raise_stpTaped (s : State) (e : Nat) : (s.raise e).stpTaped = s.stpTaped := rfl
@[simp] theorem State.raise_dmaChs (s : State) (e : Nat) : (s.raise e).dmaChs = s.dmaChs := rfl
@[simp] theorem State.raise_ldr (s : State) (e : Nat) : (s.raise e).ldr = s.ldr := rfl
@[simp] theorem State.raise_mram (s : State) (e : Nat) : (s.raise e).mram = s.mram := rfl
@[simp] theorem State.raise_dram (s : State) (e : Nat) : (s.raise e).dram = s.dram := rfl
@[simp] theorem State.raise_scratch (s : State) (e : Nat) : (s.raise e).scratch = s.scratch := rfl
@[simp] theorem State.raise_hostload (s : State) (e : Nat) : (s.raise e).hostload = s.hostload := rfl
@[simp] theorem State.raise_boot (s : State) (e : Nat) : (s.raise e).boot = s.boot := rfl
@[simp] theorem State.raise_pins (s : State) (e : Nat) : (s.raise e).pins = s.pins := rfl
@[simp] theorem State.raise_therm (s : State) (e : Nat) : (s.raise e).therm = s.therm := rfl
@[simp] theorem State.raise_power (s : State) (e : Nat) : (s.raise e).power = s.power := rfl
@[simp] theorem State.raise_fuses (s : State) (e : Nat) : (s.raise e).fuses = s.fuses := rfl
@[simp] theorem State.raise_sec (s : State) (e : Nat) : (s.raise e).sec = s.sec := rfl
@[simp] theorem State.raise_fw (s : State) (e : Nat) : (s.raise e).fw = s.fw := rfl
@[simp] theorem State.raise_tst (s : State) (e : Nat) : (s.raise e).tst = s.tst := rfl
@[simp] theorem State.raise_io (s : State) (e : Nat) : (s.raise e).io = s.io := rfl
@[simp] theorem State.raise_answers (s : State) (e : Nat) : (s.raise e).answers = s.answers := rfl
@[simp] theorem State.raise_pending (s : State) (e : Nat) : (s.raise e).pending = s.pending := rfl
@[simp] theorem State.raise_rd (s : State) (e : Nat) (g : Fld) : (s.raise e).rd g = s.rd g := rfl
@[simp] theorem State.raise_flag (s : State) (e : Nat) (g : Fld) : (s.raise e).flag g = s.flag g := rfl
@[simp] theorem State.raise_ctr (s : State) (e : Nat) (g : Fld) : (s.raise e).ctr g = s.ctr g := rfl
@[simp] theorem State.raise_laneOf (s : State) (e : Nat) (m : Nat) : (s.raise e).lane m = s.lane m := rfl
@[simp] theorem State.raise_portOf (s : State) (e : Nat) (m : Nat) : (s.raise e).port m = s.port m := rfl
@[simp] theorem State.raise_tgOf (s : State) (e : Nat) (m : Nat) : (s.raise e).tg m = s.tg m := rfl
@[simp] theorem State.raise_hqOf (s : State) (e : Nat) (m : Nat) : (s.raise e).hq m = s.hq m := rfl
@[simp] theorem State.raise_snagOf (s : State) (e : Nat) (m : Nat) : (s.raise e).snag m = s.snag m := rfl
@[simp] theorem State.raise_unitOf (s : State) (e : Nat) (m : Nat) : (s.raise e).unit m = s.unit m := rfl
@[simp] theorem State.raise_seamOf (s : State) (e : Nat) (m : Nat) : (s.raise e).seam m = s.seam m := rfl
@[simp] theorem State.raise_rndOf (s : State) (e : Nat) (m : Nat) : (s.raise e).rnd m = s.rnd m := rfl
@[simp] theorem State.raise_skimOf (s : State) (e : Nat) (m : Nat) : (s.raise e).skim m = s.skim m := rfl
@[simp] theorem State.raise_skimGOf (s : State) (e : Nat) (m : Nat) : (s.raise e).skimG m = s.skimG m := rfl
@[simp] theorem State.raise_stnOf (s : State) (e : Nat) (m : Nat) : (s.raise e).stn m = s.stn m := rfl
@[simp] theorem State.raise_plbOf (s : State) (e : Nat) (m : Nat) : (s.raise e).plb m = s.plb m := rfl
@[simp] theorem State.raise_uclOf (s : State) (e : Nat) (m : Nat) : (s.raise e).ucl m = s.ucl m := rfl
@[simp] theorem State.raise_subOf (s : State) (e : Nat) (m : Nat) : (s.raise e).sub m = s.sub m := rfl
@[simp] theorem State.raise_stpPortOf (s : State) (e : Nat) (m : Nat) : (s.raise e).stpPort m = s.stpPort m := rfl
@[simp] theorem State.raise_dmaChOf (s : State) (e : Nat) (m : Nat) : (s.raise e).dmaCh m = s.dmaCh m := rfl
@[simp] theorem State.raise_tstLaneOf (s : State) (e : Nat) (m : Nat) : (s.raise e).tstLane m = s.tstLane m := rfl
@[simp] theorem State.raise_commitOf (s : State) (e : Nat) (m : Nat) : (s.raise e).commit m = s.commit m := rfl

/-! ### `State.resetRange` -/

@[simp] theorem State.resetRange_cnt (s : State) (b : Blk) (lo hi : Nat) : (s.resetRange b lo hi).cnt = s.cnt := rfl
@[simp] theorem State.resetRange_snap (s : State) (b : Blk) (lo hi : Nat) : (s.resetRange b lo hi).snap = s.snap := rfl
@[simp] theorem State.resetRange_snapNext (s : State) (b : Blk) (lo hi : Nat) : (s.resetRange b lo hi).snapNext = s.snapNext := rfl
@[simp] theorem State.resetRange_draws (s : State) (b : Blk) (lo hi : Nat) : (s.resetRange b lo hi).draws = s.draws := rfl
@[simp] theorem State.resetRange_raised (s : State) (b : Blk) (lo hi : Nat) : (s.resetRange b lo hi).raised = s.raised := rfl
@[simp] theorem State.resetRange_ruleTaped (s : State) (b : Blk) (lo hi : Nat) : (s.resetRange b lo hi).ruleTaped = s.ruleTaped := rfl
@[simp] theorem State.resetRange_chalk (s : State) (b : Blk) (lo hi : Nat) : (s.resetRange b lo hi).chalk = s.chalk := rfl
@[simp] theorem State.resetRange_tgs (s : State) (b : Blk) (lo hi : Nat) : (s.resetRange b lo hi).tgs = s.tgs := rfl
@[simp] theorem State.resetRange_lanes (s : State) (b : Blk) (lo hi : Nat) : (s.resetRange b lo hi).lanes = s.lanes := rfl
@[simp] theorem State.resetRange_ports (s : State) (b : Blk) (lo hi : Nat) : (s.resetRange b lo hi).ports = s.ports := rfl
@[simp] theorem State.resetRange_hawk (s : State) (b : Blk) (lo hi : Nat) : (s.resetRange b lo hi).hawk = s.hawk := rfl
@[simp] theorem State.resetRange_snags (s : State) (b : Blk) (lo hi : Nat) : (s.resetRange b lo hi).snags = s.snags := rfl
@[simp] theorem State.resetRange_units (s : State) (b : Blk) (lo hi : Nat) : (s.resetRange b lo hi).units = s.units := rfl
@[simp] theorem State.resetRange_windows (s : State) (b : Blk) (lo hi : Nat) : (s.resetRange b lo hi).windows = s.windows := rfl
@[simp] theorem State.resetRange_commits (s : State) (b : Blk) (lo hi : Nat) : (s.resetRange b lo hi).commits = s.commits := rfl
@[simp] theorem State.resetRange_seams (s : State) (b : Blk) (lo hi : Nat) : (s.resetRange b lo hi).seams = s.seams := rfl
@[simp] theorem State.resetRange_rnds (s : State) (b : Blk) (lo hi : Nat) : (s.resetRange b lo hi).rnds = s.rnds := rfl
@[simp] theorem State.resetRange_skims (s : State) (b : Blk) (lo hi : Nat) : (s.resetRange b lo hi).skims = s.skims := rfl
@[simp] theorem State.resetRange_skimGs (s : State) (b : Blk) (lo hi : Nat) : (s.resetRange b lo hi).skimGs = s.skimGs := rfl
@[simp] theorem State.resetRange_stns (s : State) (b : Blk) (lo hi : Nat) : (s.resetRange b lo hi).stns = s.stns := rfl
@[simp] theorem State.resetRange_plbs (s : State) (b : Blk) (lo hi : Nat) : (s.resetRange b lo hi).plbs = s.plbs := rfl
@[simp] theorem State.resetRange_ucls (s : State) (b : Blk) (lo hi : Nat) : (s.resetRange b lo hi).ucls = s.ucls := rfl
@[simp] theorem State.resetRange_subs (s : State) (b : Blk) (lo hi : Nat) : (s.resetRange b lo hi).subs = s.subs := rfl
@[simp] theorem State.resetRange_ptp (s : State) (b : Blk) (lo hi : Nat) : (s.resetRange b lo hi).ptp = s.ptp := rfl
@[simp] theorem State.resetRange_hst (s : State) (b : Blk) (lo hi : Nat) : (s.resetRange b lo hi).hst = s.hst := rfl
@[simp] theorem State.resetRange_replay (s : State) (b : Blk) (lo hi : Nat) : (s.resetRange b lo hi).replay = s.replay := rfl
@[simp] theorem State.resetRange_mem (s : State) (b : Blk) (lo hi : Nat) : (s.resetRange b lo hi).mem = s.mem := rfl
@[simp] theorem State.resetRange_stpPorts (s : State) (b : Blk) (lo hi : Nat) : (s.resetRange b lo hi).stpPorts = s.stpPorts := rfl
@[simp] theorem State.resetRange_stpPipe (s : State) (b : Blk) (lo hi : Nat) : (s.resetRange b lo hi).stpPipe = s.stpPipe := rfl
@[simp] theorem State.resetRange_stpTiles (s : State) (b : Blk) (lo hi : Nat) : (s.resetRange b lo hi).stpTiles = s.stpTiles := rfl
@[simp] theorem State.resetRange_stpTaped (s : State) (b : Blk) (lo hi : Nat) : (s.resetRange b lo hi).stpTaped = s.stpTaped := rfl
@[simp] theorem State.resetRange_dmaChs (s : State) (b : Blk) (lo hi : Nat) : (s.resetRange b lo hi).dmaChs = s.dmaChs := rfl
@[simp] theorem State.resetRange_ldr (s : State) (b : Blk) (lo hi : Nat) : (s.resetRange b lo hi).ldr = s.ldr := rfl
@[simp] theorem State.resetRange_mram (s : State) (b : Blk) (lo hi : Nat) : (s.resetRange b lo hi).mram = s.mram := rfl
@[simp] theorem State.resetRange_dram (s : State) (b : Blk) (lo hi : Nat) : (s.resetRange b lo hi).dram = s.dram := rfl
@[simp] theorem State.resetRange_scratch (s : State) (b : Blk) (lo hi : Nat) : (s.resetRange b lo hi).scratch = s.scratch := rfl
@[simp] theorem State.resetRange_hostload (s : State) (b : Blk) (lo hi : Nat) : (s.resetRange b lo hi).hostload = s.hostload := rfl
@[simp] theorem State.resetRange_boot (s : State) (b : Blk) (lo hi : Nat) : (s.resetRange b lo hi).boot = s.boot := rfl
@[simp] theorem State.resetRange_pins (s : State) (b : Blk) (lo hi : Nat) : (s.resetRange b lo hi).pins = s.pins := rfl
@[simp] theorem State.resetRange_therm (s : State) (b : Blk) (lo hi : Nat) : (s.resetRange b lo hi).therm = s.therm := rfl
@[simp] theorem State.resetRange_power (s : State) (b : Blk) (lo hi : Nat) : (s.resetRange b lo hi).power = s.power := rfl
@[simp] theorem State.resetRange_fuses (s : State) (b : Blk) (lo hi : Nat) : (s.resetRange b lo hi).fuses = s.fuses := rfl
@[simp] theorem State.resetRange_sec (s : State) (b : Blk) (lo hi : Nat) : (s.resetRange b lo hi).sec = s.sec := rfl
@[simp] theorem State.resetRange_fw (s : State) (b : Blk) (lo hi : Nat) : (s.resetRange b lo hi).fw = s.fw := rfl
@[simp] theorem State.resetRange_tst (s : State) (b : Blk) (lo hi : Nat) : (s.resetRange b lo hi).tst = s.tst := rfl
@[simp] theorem State.resetRange_io (s : State) (b : Blk) (lo hi : Nat) : (s.resetRange b lo hi).io = s.io := rfl
@[simp] theorem State.resetRange_answers (s : State) (b : Blk) (lo hi : Nat) : (s.resetRange b lo hi).answers = s.answers := rfl
@[simp] theorem State.resetRange_pending (s : State) (b : Blk) (lo hi : Nat) : (s.resetRange b lo hi).pending = s.pending := rfl
@[simp] theorem State.resetRange_ctr (s : State) (b : Blk) (lo hi : Nat) (g : Fld) : (s.resetRange b lo hi).ctr g = s.ctr g := rfl
@[simp] theorem State.resetRange_laneOf (s : State) (b : Blk) (lo hi : Nat) (m : Nat) : (s.resetRange b lo hi).lane m = s.lane m := rfl
@[simp] theorem State.resetRange_portOf (s : State) (b : Blk) (lo hi : Nat) (m : Nat) : (s.resetRange b lo hi).port m = s.port m := rfl
@[simp] theorem State.resetRange_tgOf (s : State) (b : Blk) (lo hi : Nat) (m : Nat) : (s.resetRange b lo hi).tg m = s.tg m := rfl
@[simp] theorem State.resetRange_hqOf (s : State) (b : Blk) (lo hi : Nat) (m : Nat) : (s.resetRange b lo hi).hq m = s.hq m := rfl
@[simp] theorem State.resetRange_snagOf (s : State) (b : Blk) (lo hi : Nat) (m : Nat) : (s.resetRange b lo hi).snag m = s.snag m := rfl
@[simp] theorem State.resetRange_unitOf (s : State) (b : Blk) (lo hi : Nat) (m : Nat) : (s.resetRange b lo hi).unit m = s.unit m := rfl
@[simp] theorem State.resetRange_seamOf (s : State) (b : Blk) (lo hi : Nat) (m : Nat) : (s.resetRange b lo hi).seam m = s.seam m := rfl
@[simp] theorem State.resetRange_rndOf (s : State) (b : Blk) (lo hi : Nat) (m : Nat) : (s.resetRange b lo hi).rnd m = s.rnd m := rfl
@[simp] theorem State.resetRange_skimOf (s : State) (b : Blk) (lo hi : Nat) (m : Nat) : (s.resetRange b lo hi).skim m = s.skim m := rfl
@[simp] theorem State.resetRange_skimGOf (s : State) (b : Blk) (lo hi : Nat) (m : Nat) : (s.resetRange b lo hi).skimG m = s.skimG m := rfl
@[simp] theorem State.resetRange_stnOf (s : State) (b : Blk) (lo hi : Nat) (m : Nat) : (s.resetRange b lo hi).stn m = s.stn m := rfl
@[simp] theorem State.resetRange_plbOf (s : State) (b : Blk) (lo hi : Nat) (m : Nat) : (s.resetRange b lo hi).plb m = s.plb m := rfl
@[simp] theorem State.resetRange_uclOf (s : State) (b : Blk) (lo hi : Nat) (m : Nat) : (s.resetRange b lo hi).ucl m = s.ucl m := rfl
@[simp] theorem State.resetRange_subOf (s : State) (b : Blk) (lo hi : Nat) (m : Nat) : (s.resetRange b lo hi).sub m = s.sub m := rfl
@[simp] theorem State.resetRange_stpPortOf (s : State) (b : Blk) (lo hi : Nat) (m : Nat) : (s.resetRange b lo hi).stpPort m = s.stpPort m := rfl
@[simp] theorem State.resetRange_dmaChOf (s : State) (b : Blk) (lo hi : Nat) (m : Nat) : (s.resetRange b lo hi).dmaCh m = s.dmaCh m := rfl
@[simp] theorem State.resetRange_tstLaneOf (s : State) (b : Blk) (lo hi : Nat) (m : Nat) : (s.resetRange b lo hi).tstLane m = s.tstLane m := rfl
@[simp] theorem State.resetRange_commitOf (s : State) (b : Blk) (lo hi : Nat) (m : Nat) : (s.resetRange b lo hi).commit m = s.commit m := rfl

/-! ### `State.resetCounters` -/

@[simp] theorem State.resetCounters_regs (s : State) (b : Blk) (lo hi : Nat) : (s.resetCounters b lo hi).regs = s.regs := rfl
@[simp] theorem State.resetCounters_draws (s : State) (b : Blk) (lo hi : Nat) : (s.resetCounters b lo hi).draws = s.draws := rfl
@[simp] theorem State.resetCounters_raised (s : State) (b : Blk) (lo hi : Nat) : (s.resetCounters b lo hi).raised = s.raised := rfl
@[simp] theorem State.resetCounters_ruleTaped (s : State) (b : Blk) (lo hi : Nat) : (s.resetCounters b lo hi).ruleTaped = s.ruleTaped := rfl
@[simp] theorem State.resetCounters_chalk (s : State) (b : Blk) (lo hi : Nat) : (s.resetCounters b lo hi).chalk = s.chalk := rfl
@[simp] theorem State.resetCounters_tgs (s : State) (b : Blk) (lo hi : Nat) : (s.resetCounters b lo hi).tgs = s.tgs := rfl
@[simp] theorem State.resetCounters_lanes (s : State) (b : Blk) (lo hi : Nat) : (s.resetCounters b lo hi).lanes = s.lanes := rfl
@[simp] theorem State.resetCounters_ports (s : State) (b : Blk) (lo hi : Nat) : (s.resetCounters b lo hi).ports = s.ports := rfl
@[simp] theorem State.resetCounters_hawk (s : State) (b : Blk) (lo hi : Nat) : (s.resetCounters b lo hi).hawk = s.hawk := rfl
@[simp] theorem State.resetCounters_snags (s : State) (b : Blk) (lo hi : Nat) : (s.resetCounters b lo hi).snags = s.snags := rfl
@[simp] theorem State.resetCounters_units (s : State) (b : Blk) (lo hi : Nat) : (s.resetCounters b lo hi).units = s.units := rfl
@[simp] theorem State.resetCounters_windows (s : State) (b : Blk) (lo hi : Nat) : (s.resetCounters b lo hi).windows = s.windows := rfl
@[simp] theorem State.resetCounters_commits (s : State) (b : Blk) (lo hi : Nat) : (s.resetCounters b lo hi).commits = s.commits := rfl
@[simp] theorem State.resetCounters_seams (s : State) (b : Blk) (lo hi : Nat) : (s.resetCounters b lo hi).seams = s.seams := rfl
@[simp] theorem State.resetCounters_rnds (s : State) (b : Blk) (lo hi : Nat) : (s.resetCounters b lo hi).rnds = s.rnds := rfl
@[simp] theorem State.resetCounters_skims (s : State) (b : Blk) (lo hi : Nat) : (s.resetCounters b lo hi).skims = s.skims := rfl
@[simp] theorem State.resetCounters_skimGs (s : State) (b : Blk) (lo hi : Nat) : (s.resetCounters b lo hi).skimGs = s.skimGs := rfl
@[simp] theorem State.resetCounters_stns (s : State) (b : Blk) (lo hi : Nat) : (s.resetCounters b lo hi).stns = s.stns := rfl
@[simp] theorem State.resetCounters_plbs (s : State) (b : Blk) (lo hi : Nat) : (s.resetCounters b lo hi).plbs = s.plbs := rfl
@[simp] theorem State.resetCounters_ucls (s : State) (b : Blk) (lo hi : Nat) : (s.resetCounters b lo hi).ucls = s.ucls := rfl
@[simp] theorem State.resetCounters_subs (s : State) (b : Blk) (lo hi : Nat) : (s.resetCounters b lo hi).subs = s.subs := rfl
@[simp] theorem State.resetCounters_ptp (s : State) (b : Blk) (lo hi : Nat) : (s.resetCounters b lo hi).ptp = s.ptp := rfl
@[simp] theorem State.resetCounters_hst (s : State) (b : Blk) (lo hi : Nat) : (s.resetCounters b lo hi).hst = s.hst := rfl
@[simp] theorem State.resetCounters_replay (s : State) (b : Blk) (lo hi : Nat) : (s.resetCounters b lo hi).replay = s.replay := rfl
@[simp] theorem State.resetCounters_mem (s : State) (b : Blk) (lo hi : Nat) : (s.resetCounters b lo hi).mem = s.mem := rfl
@[simp] theorem State.resetCounters_stpPorts (s : State) (b : Blk) (lo hi : Nat) : (s.resetCounters b lo hi).stpPorts = s.stpPorts := rfl
@[simp] theorem State.resetCounters_stpPipe (s : State) (b : Blk) (lo hi : Nat) : (s.resetCounters b lo hi).stpPipe = s.stpPipe := rfl
@[simp] theorem State.resetCounters_stpTiles (s : State) (b : Blk) (lo hi : Nat) : (s.resetCounters b lo hi).stpTiles = s.stpTiles := rfl
@[simp] theorem State.resetCounters_stpTaped (s : State) (b : Blk) (lo hi : Nat) : (s.resetCounters b lo hi).stpTaped = s.stpTaped := rfl
@[simp] theorem State.resetCounters_dmaChs (s : State) (b : Blk) (lo hi : Nat) : (s.resetCounters b lo hi).dmaChs = s.dmaChs := rfl
@[simp] theorem State.resetCounters_ldr (s : State) (b : Blk) (lo hi : Nat) : (s.resetCounters b lo hi).ldr = s.ldr := rfl
@[simp] theorem State.resetCounters_mram (s : State) (b : Blk) (lo hi : Nat) : (s.resetCounters b lo hi).mram = s.mram := rfl
@[simp] theorem State.resetCounters_dram (s : State) (b : Blk) (lo hi : Nat) : (s.resetCounters b lo hi).dram = s.dram := rfl
@[simp] theorem State.resetCounters_scratch (s : State) (b : Blk) (lo hi : Nat) : (s.resetCounters b lo hi).scratch = s.scratch := rfl
@[simp] theorem State.resetCounters_hostload (s : State) (b : Blk) (lo hi : Nat) : (s.resetCounters b lo hi).hostload = s.hostload := rfl
@[simp] theorem State.resetCounters_boot (s : State) (b : Blk) (lo hi : Nat) : (s.resetCounters b lo hi).boot = s.boot := rfl
@[simp] theorem State.resetCounters_pins (s : State) (b : Blk) (lo hi : Nat) : (s.resetCounters b lo hi).pins = s.pins := rfl
@[simp] theorem State.resetCounters_therm (s : State) (b : Blk) (lo hi : Nat) : (s.resetCounters b lo hi).therm = s.therm := rfl
@[simp] theorem State.resetCounters_power (s : State) (b : Blk) (lo hi : Nat) : (s.resetCounters b lo hi).power = s.power := rfl
@[simp] theorem State.resetCounters_fuses (s : State) (b : Blk) (lo hi : Nat) : (s.resetCounters b lo hi).fuses = s.fuses := rfl
@[simp] theorem State.resetCounters_sec (s : State) (b : Blk) (lo hi : Nat) : (s.resetCounters b lo hi).sec = s.sec := rfl
@[simp] theorem State.resetCounters_fw (s : State) (b : Blk) (lo hi : Nat) : (s.resetCounters b lo hi).fw = s.fw := rfl
@[simp] theorem State.resetCounters_tst (s : State) (b : Blk) (lo hi : Nat) : (s.resetCounters b lo hi).tst = s.tst := rfl
@[simp] theorem State.resetCounters_io (s : State) (b : Blk) (lo hi : Nat) : (s.resetCounters b lo hi).io = s.io := rfl
@[simp] theorem State.resetCounters_answers (s : State) (b : Blk) (lo hi : Nat) : (s.resetCounters b lo hi).answers = s.answers := rfl
@[simp] theorem State.resetCounters_pending (s : State) (b : Blk) (lo hi : Nat) : (s.resetCounters b lo hi).pending = s.pending := rfl
@[simp] theorem State.resetCounters_rd (s : State) (b : Blk) (lo hi : Nat) (g : Fld) : (s.resetCounters b lo hi).rd g = s.rd g := rfl
@[simp] theorem State.resetCounters_flag (s : State) (b : Blk) (lo hi : Nat) (g : Fld) : (s.resetCounters b lo hi).flag g = s.flag g := rfl
@[simp] theorem State.resetCounters_laneOf (s : State) (b : Blk) (lo hi : Nat) (m : Nat) : (s.resetCounters b lo hi).lane m = s.lane m := rfl
@[simp] theorem State.resetCounters_portOf (s : State) (b : Blk) (lo hi : Nat) (m : Nat) : (s.resetCounters b lo hi).port m = s.port m := rfl
@[simp] theorem State.resetCounters_tgOf (s : State) (b : Blk) (lo hi : Nat) (m : Nat) : (s.resetCounters b lo hi).tg m = s.tg m := rfl
@[simp] theorem State.resetCounters_hqOf (s : State) (b : Blk) (lo hi : Nat) (m : Nat) : (s.resetCounters b lo hi).hq m = s.hq m := rfl
@[simp] theorem State.resetCounters_snagOf (s : State) (b : Blk) (lo hi : Nat) (m : Nat) : (s.resetCounters b lo hi).snag m = s.snag m := rfl
@[simp] theorem State.resetCounters_unitOf (s : State) (b : Blk) (lo hi : Nat) (m : Nat) : (s.resetCounters b lo hi).unit m = s.unit m := rfl
@[simp] theorem State.resetCounters_seamOf (s : State) (b : Blk) (lo hi : Nat) (m : Nat) : (s.resetCounters b lo hi).seam m = s.seam m := rfl
@[simp] theorem State.resetCounters_rndOf (s : State) (b : Blk) (lo hi : Nat) (m : Nat) : (s.resetCounters b lo hi).rnd m = s.rnd m := rfl
@[simp] theorem State.resetCounters_skimOf (s : State) (b : Blk) (lo hi : Nat) (m : Nat) : (s.resetCounters b lo hi).skim m = s.skim m := rfl
@[simp] theorem State.resetCounters_skimGOf (s : State) (b : Blk) (lo hi : Nat) (m : Nat) : (s.resetCounters b lo hi).skimG m = s.skimG m := rfl
@[simp] theorem State.resetCounters_stnOf (s : State) (b : Blk) (lo hi : Nat) (m : Nat) : (s.resetCounters b lo hi).stn m = s.stn m := rfl
@[simp] theorem State.resetCounters_plbOf (s : State) (b : Blk) (lo hi : Nat) (m : Nat) : (s.resetCounters b lo hi).plb m = s.plb m := rfl
@[simp] theorem State.resetCounters_uclOf (s : State) (b : Blk) (lo hi : Nat) (m : Nat) : (s.resetCounters b lo hi).ucl m = s.ucl m := rfl
@[simp] theorem State.resetCounters_subOf (s : State) (b : Blk) (lo hi : Nat) (m : Nat) : (s.resetCounters b lo hi).sub m = s.sub m := rfl
@[simp] theorem State.resetCounters_stpPortOf (s : State) (b : Blk) (lo hi : Nat) (m : Nat) : (s.resetCounters b lo hi).stpPort m = s.stpPort m := rfl
@[simp] theorem State.resetCounters_dmaChOf (s : State) (b : Blk) (lo hi : Nat) (m : Nat) : (s.resetCounters b lo hi).dmaCh m = s.dmaCh m := rfl
@[simp] theorem State.resetCounters_tstLaneOf (s : State) (b : Blk) (lo hi : Nat) (m : Nat) : (s.resetCounters b lo hi).tstLane m = s.tstLane m := rfl
@[simp] theorem State.resetCounters_commitOf (s : State) (b : Blk) (lo hi : Nat) (m : Nat) : (s.resetCounters b lo hi).commit m = s.commit m := rfl

/-! ### `State.answer` -/

@[simp] theorem State.answer_regs (s : State) (p : Path) (st d : Nat) : (s.answer p st d).regs = s.regs := rfl
@[simp] theorem State.answer_cnt (s : State) (p : Path) (st d : Nat) : (s.answer p st d).cnt = s.cnt := rfl
@[simp] theorem State.answer_snap (s : State) (p : Path) (st d : Nat) : (s.answer p st d).snap = s.snap := rfl
@[simp] theorem State.answer_snapNext (s : State) (p : Path) (st d : Nat) : (s.answer p st d).snapNext = s.snapNext := rfl
@[simp] theorem State.answer_draws (s : State) (p : Path) (st d : Nat) : (s.answer p st d).draws = s.draws := rfl
@[simp] theorem State.answer_raised (s : State) (p : Path) (st d : Nat) : (s.answer p st d).raised = s.raised := rfl
@[simp] theorem State.answer_ruleTaped (s : State) (p : Path) (st d : Nat) : (s.answer p st d).ruleTaped = s.ruleTaped := rfl
@[simp] theorem State.answer_chalk (s : State) (p : Path) (st d : Nat) : (s.answer p st d).chalk = s.chalk := rfl
@[simp] theorem State.answer_tgs (s : State) (p : Path) (st d : Nat) : (s.answer p st d).tgs = s.tgs := rfl
@[simp] theorem State.answer_lanes (s : State) (p : Path) (st d : Nat) : (s.answer p st d).lanes = s.lanes := rfl
@[simp] theorem State.answer_ports (s : State) (p : Path) (st d : Nat) : (s.answer p st d).ports = s.ports := rfl
@[simp] theorem State.answer_hawk (s : State) (p : Path) (st d : Nat) : (s.answer p st d).hawk = s.hawk := rfl
@[simp] theorem State.answer_snags (s : State) (p : Path) (st d : Nat) : (s.answer p st d).snags = s.snags := rfl
@[simp] theorem State.answer_units (s : State) (p : Path) (st d : Nat) : (s.answer p st d).units = s.units := rfl
@[simp] theorem State.answer_windows (s : State) (p : Path) (st d : Nat) : (s.answer p st d).windows = s.windows := rfl
@[simp] theorem State.answer_commits (s : State) (p : Path) (st d : Nat) : (s.answer p st d).commits = s.commits := rfl
@[simp] theorem State.answer_seams (s : State) (p : Path) (st d : Nat) : (s.answer p st d).seams = s.seams := rfl
@[simp] theorem State.answer_rnds (s : State) (p : Path) (st d : Nat) : (s.answer p st d).rnds = s.rnds := rfl
@[simp] theorem State.answer_skims (s : State) (p : Path) (st d : Nat) : (s.answer p st d).skims = s.skims := rfl
@[simp] theorem State.answer_skimGs (s : State) (p : Path) (st d : Nat) : (s.answer p st d).skimGs = s.skimGs := rfl
@[simp] theorem State.answer_stns (s : State) (p : Path) (st d : Nat) : (s.answer p st d).stns = s.stns := rfl
@[simp] theorem State.answer_plbs (s : State) (p : Path) (st d : Nat) : (s.answer p st d).plbs = s.plbs := rfl
@[simp] theorem State.answer_ucls (s : State) (p : Path) (st d : Nat) : (s.answer p st d).ucls = s.ucls := rfl
@[simp] theorem State.answer_subs (s : State) (p : Path) (st d : Nat) : (s.answer p st d).subs = s.subs := rfl
@[simp] theorem State.answer_ptp (s : State) (p : Path) (st d : Nat) : (s.answer p st d).ptp = s.ptp := rfl
@[simp] theorem State.answer_hst (s : State) (p : Path) (st d : Nat) : (s.answer p st d).hst = s.hst := rfl
@[simp] theorem State.answer_replay (s : State) (p : Path) (st d : Nat) : (s.answer p st d).replay = s.replay := rfl
@[simp] theorem State.answer_mem (s : State) (p : Path) (st d : Nat) : (s.answer p st d).mem = s.mem := rfl
@[simp] theorem State.answer_stpPorts (s : State) (p : Path) (st d : Nat) : (s.answer p st d).stpPorts = s.stpPorts := rfl
@[simp] theorem State.answer_stpPipe (s : State) (p : Path) (st d : Nat) : (s.answer p st d).stpPipe = s.stpPipe := rfl
@[simp] theorem State.answer_stpTiles (s : State) (p : Path) (st d : Nat) : (s.answer p st d).stpTiles = s.stpTiles := rfl
@[simp] theorem State.answer_stpTaped (s : State) (p : Path) (st d : Nat) : (s.answer p st d).stpTaped = s.stpTaped := rfl
@[simp] theorem State.answer_dmaChs (s : State) (p : Path) (st d : Nat) : (s.answer p st d).dmaChs = s.dmaChs := rfl
@[simp] theorem State.answer_ldr (s : State) (p : Path) (st d : Nat) : (s.answer p st d).ldr = s.ldr := rfl
@[simp] theorem State.answer_mram (s : State) (p : Path) (st d : Nat) : (s.answer p st d).mram = s.mram := rfl
@[simp] theorem State.answer_dram (s : State) (p : Path) (st d : Nat) : (s.answer p st d).dram = s.dram := rfl
@[simp] theorem State.answer_scratch (s : State) (p : Path) (st d : Nat) : (s.answer p st d).scratch = s.scratch := rfl
@[simp] theorem State.answer_hostload (s : State) (p : Path) (st d : Nat) : (s.answer p st d).hostload = s.hostload := rfl
@[simp] theorem State.answer_boot (s : State) (p : Path) (st d : Nat) : (s.answer p st d).boot = s.boot := rfl
@[simp] theorem State.answer_pins (s : State) (p : Path) (st d : Nat) : (s.answer p st d).pins = s.pins := rfl
@[simp] theorem State.answer_therm (s : State) (p : Path) (st d : Nat) : (s.answer p st d).therm = s.therm := rfl
@[simp] theorem State.answer_power (s : State) (p : Path) (st d : Nat) : (s.answer p st d).power = s.power := rfl
@[simp] theorem State.answer_fuses (s : State) (p : Path) (st d : Nat) : (s.answer p st d).fuses = s.fuses := rfl
@[simp] theorem State.answer_sec (s : State) (p : Path) (st d : Nat) : (s.answer p st d).sec = s.sec := rfl
@[simp] theorem State.answer_fw (s : State) (p : Path) (st d : Nat) : (s.answer p st d).fw = s.fw := rfl
@[simp] theorem State.answer_tst (s : State) (p : Path) (st d : Nat) : (s.answer p st d).tst = s.tst := rfl
@[simp] theorem State.answer_io (s : State) (p : Path) (st d : Nat) : (s.answer p st d).io = s.io := rfl
@[simp] theorem State.answer_pending (s : State) (p : Path) (st d : Nat) : (s.answer p st d).pending = s.pending := rfl
@[simp] theorem State.answer_rd (s : State) (p : Path) (st d : Nat) (g : Fld) : (s.answer p st d).rd g = s.rd g := rfl
@[simp] theorem State.answer_flag (s : State) (p : Path) (st d : Nat) (g : Fld) : (s.answer p st d).flag g = s.flag g := rfl
@[simp] theorem State.answer_ctr (s : State) (p : Path) (st d : Nat) (g : Fld) : (s.answer p st d).ctr g = s.ctr g := rfl
@[simp] theorem State.answer_laneOf (s : State) (p : Path) (st d : Nat) (m : Nat) : (s.answer p st d).lane m = s.lane m := rfl
@[simp] theorem State.answer_portOf (s : State) (p : Path) (st d : Nat) (m : Nat) : (s.answer p st d).port m = s.port m := rfl
@[simp] theorem State.answer_tgOf (s : State) (p : Path) (st d : Nat) (m : Nat) : (s.answer p st d).tg m = s.tg m := rfl
@[simp] theorem State.answer_hqOf (s : State) (p : Path) (st d : Nat) (m : Nat) : (s.answer p st d).hq m = s.hq m := rfl
@[simp] theorem State.answer_snagOf (s : State) (p : Path) (st d : Nat) (m : Nat) : (s.answer p st d).snag m = s.snag m := rfl
@[simp] theorem State.answer_unitOf (s : State) (p : Path) (st d : Nat) (m : Nat) : (s.answer p st d).unit m = s.unit m := rfl
@[simp] theorem State.answer_seamOf (s : State) (p : Path) (st d : Nat) (m : Nat) : (s.answer p st d).seam m = s.seam m := rfl
@[simp] theorem State.answer_rndOf (s : State) (p : Path) (st d : Nat) (m : Nat) : (s.answer p st d).rnd m = s.rnd m := rfl
@[simp] theorem State.answer_skimOf (s : State) (p : Path) (st d : Nat) (m : Nat) : (s.answer p st d).skim m = s.skim m := rfl
@[simp] theorem State.answer_skimGOf (s : State) (p : Path) (st d : Nat) (m : Nat) : (s.answer p st d).skimG m = s.skimG m := rfl
@[simp] theorem State.answer_stnOf (s : State) (p : Path) (st d : Nat) (m : Nat) : (s.answer p st d).stn m = s.stn m := rfl
@[simp] theorem State.answer_plbOf (s : State) (p : Path) (st d : Nat) (m : Nat) : (s.answer p st d).plb m = s.plb m := rfl
@[simp] theorem State.answer_uclOf (s : State) (p : Path) (st d : Nat) (m : Nat) : (s.answer p st d).ucl m = s.ucl m := rfl
@[simp] theorem State.answer_subOf (s : State) (p : Path) (st d : Nat) (m : Nat) : (s.answer p st d).sub m = s.sub m := rfl
@[simp] theorem State.answer_stpPortOf (s : State) (p : Path) (st d : Nat) (m : Nat) : (s.answer p st d).stpPort m = s.stpPort m := rfl
@[simp] theorem State.answer_dmaChOf (s : State) (p : Path) (st d : Nat) (m : Nat) : (s.answer p st d).dmaCh m = s.dmaCh m := rfl
@[simp] theorem State.answer_tstLaneOf (s : State) (p : Path) (st d : Nat) (m : Nat) : (s.answer p st d).tstLane m = s.tstLane m := rfl
@[simp] theorem State.answer_commitOf (s : State) (p : Path) (st d : Nat) (m : Nat) : (s.answer p st d).commit m = s.commit m := rfl

/-! ### `State.stall` -/

@[simp] theorem State.stall_regs (s : State) (p : Path) : (s.stall p).regs = s.regs := rfl
@[simp] theorem State.stall_cnt (s : State) (p : Path) : (s.stall p).cnt = s.cnt := rfl
@[simp] theorem State.stall_snap (s : State) (p : Path) : (s.stall p).snap = s.snap := rfl
@[simp] theorem State.stall_snapNext (s : State) (p : Path) : (s.stall p).snapNext = s.snapNext := rfl
@[simp] theorem State.stall_draws (s : State) (p : Path) : (s.stall p).draws = s.draws := rfl
@[simp] theorem State.stall_raised (s : State) (p : Path) : (s.stall p).raised = s.raised := rfl
@[simp] theorem State.stall_ruleTaped (s : State) (p : Path) : (s.stall p).ruleTaped = s.ruleTaped := rfl
@[simp] theorem State.stall_chalk (s : State) (p : Path) : (s.stall p).chalk = s.chalk := rfl
@[simp] theorem State.stall_tgs (s : State) (p : Path) : (s.stall p).tgs = s.tgs := rfl
@[simp] theorem State.stall_lanes (s : State) (p : Path) : (s.stall p).lanes = s.lanes := rfl
@[simp] theorem State.stall_ports (s : State) (p : Path) : (s.stall p).ports = s.ports := rfl
@[simp] theorem State.stall_hawk (s : State) (p : Path) : (s.stall p).hawk = s.hawk := rfl
@[simp] theorem State.stall_snags (s : State) (p : Path) : (s.stall p).snags = s.snags := rfl
@[simp] theorem State.stall_units (s : State) (p : Path) : (s.stall p).units = s.units := rfl
@[simp] theorem State.stall_windows (s : State) (p : Path) : (s.stall p).windows = s.windows := rfl
@[simp] theorem State.stall_commits (s : State) (p : Path) : (s.stall p).commits = s.commits := rfl
@[simp] theorem State.stall_seams (s : State) (p : Path) : (s.stall p).seams = s.seams := rfl
@[simp] theorem State.stall_rnds (s : State) (p : Path) : (s.stall p).rnds = s.rnds := rfl
@[simp] theorem State.stall_skims (s : State) (p : Path) : (s.stall p).skims = s.skims := rfl
@[simp] theorem State.stall_skimGs (s : State) (p : Path) : (s.stall p).skimGs = s.skimGs := rfl
@[simp] theorem State.stall_stns (s : State) (p : Path) : (s.stall p).stns = s.stns := rfl
@[simp] theorem State.stall_plbs (s : State) (p : Path) : (s.stall p).plbs = s.plbs := rfl
@[simp] theorem State.stall_ucls (s : State) (p : Path) : (s.stall p).ucls = s.ucls := rfl
@[simp] theorem State.stall_subs (s : State) (p : Path) : (s.stall p).subs = s.subs := rfl
@[simp] theorem State.stall_ptp (s : State) (p : Path) : (s.stall p).ptp = s.ptp := rfl
@[simp] theorem State.stall_hst (s : State) (p : Path) : (s.stall p).hst = s.hst := rfl
@[simp] theorem State.stall_replay (s : State) (p : Path) : (s.stall p).replay = s.replay := rfl
@[simp] theorem State.stall_mem (s : State) (p : Path) : (s.stall p).mem = s.mem := rfl
@[simp] theorem State.stall_stpPorts (s : State) (p : Path) : (s.stall p).stpPorts = s.stpPorts := rfl
@[simp] theorem State.stall_stpPipe (s : State) (p : Path) : (s.stall p).stpPipe = s.stpPipe := rfl
@[simp] theorem State.stall_stpTiles (s : State) (p : Path) : (s.stall p).stpTiles = s.stpTiles := rfl
@[simp] theorem State.stall_stpTaped (s : State) (p : Path) : (s.stall p).stpTaped = s.stpTaped := rfl
@[simp] theorem State.stall_dmaChs (s : State) (p : Path) : (s.stall p).dmaChs = s.dmaChs := rfl
@[simp] theorem State.stall_ldr (s : State) (p : Path) : (s.stall p).ldr = s.ldr := rfl
@[simp] theorem State.stall_mram (s : State) (p : Path) : (s.stall p).mram = s.mram := rfl
@[simp] theorem State.stall_dram (s : State) (p : Path) : (s.stall p).dram = s.dram := rfl
@[simp] theorem State.stall_scratch (s : State) (p : Path) : (s.stall p).scratch = s.scratch := rfl
@[simp] theorem State.stall_hostload (s : State) (p : Path) : (s.stall p).hostload = s.hostload := rfl
@[simp] theorem State.stall_boot (s : State) (p : Path) : (s.stall p).boot = s.boot := rfl
@[simp] theorem State.stall_pins (s : State) (p : Path) : (s.stall p).pins = s.pins := rfl
@[simp] theorem State.stall_therm (s : State) (p : Path) : (s.stall p).therm = s.therm := rfl
@[simp] theorem State.stall_power (s : State) (p : Path) : (s.stall p).power = s.power := rfl
@[simp] theorem State.stall_fuses (s : State) (p : Path) : (s.stall p).fuses = s.fuses := rfl
@[simp] theorem State.stall_sec (s : State) (p : Path) : (s.stall p).sec = s.sec := rfl
@[simp] theorem State.stall_fw (s : State) (p : Path) : (s.stall p).fw = s.fw := rfl
@[simp] theorem State.stall_tst (s : State) (p : Path) : (s.stall p).tst = s.tst := rfl
@[simp] theorem State.stall_io (s : State) (p : Path) : (s.stall p).io = s.io := rfl
@[simp] theorem State.stall_pending (s : State) (p : Path) : (s.stall p).pending = s.pending := rfl
@[simp] theorem State.stall_rd (s : State) (p : Path) (g : Fld) : (s.stall p).rd g = s.rd g := rfl
@[simp] theorem State.stall_flag (s : State) (p : Path) (g : Fld) : (s.stall p).flag g = s.flag g := rfl
@[simp] theorem State.stall_ctr (s : State) (p : Path) (g : Fld) : (s.stall p).ctr g = s.ctr g := rfl
@[simp] theorem State.stall_laneOf (s : State) (p : Path) (m : Nat) : (s.stall p).lane m = s.lane m := rfl
@[simp] theorem State.stall_portOf (s : State) (p : Path) (m : Nat) : (s.stall p).port m = s.port m := rfl
@[simp] theorem State.stall_tgOf (s : State) (p : Path) (m : Nat) : (s.stall p).tg m = s.tg m := rfl
@[simp] theorem State.stall_hqOf (s : State) (p : Path) (m : Nat) : (s.stall p).hq m = s.hq m := rfl
@[simp] theorem State.stall_snagOf (s : State) (p : Path) (m : Nat) : (s.stall p).snag m = s.snag m := rfl
@[simp] theorem State.stall_unitOf (s : State) (p : Path) (m : Nat) : (s.stall p).unit m = s.unit m := rfl
@[simp] theorem State.stall_seamOf (s : State) (p : Path) (m : Nat) : (s.stall p).seam m = s.seam m := rfl
@[simp] theorem State.stall_rndOf (s : State) (p : Path) (m : Nat) : (s.stall p).rnd m = s.rnd m := rfl
@[simp] theorem State.stall_skimOf (s : State) (p : Path) (m : Nat) : (s.stall p).skim m = s.skim m := rfl
@[simp] theorem State.stall_skimGOf (s : State) (p : Path) (m : Nat) : (s.stall p).skimG m = s.skimG m := rfl
@[simp] theorem State.stall_stnOf (s : State) (p : Path) (m : Nat) : (s.stall p).stn m = s.stn m := rfl
@[simp] theorem State.stall_plbOf (s : State) (p : Path) (m : Nat) : (s.stall p).plb m = s.plb m := rfl
@[simp] theorem State.stall_uclOf (s : State) (p : Path) (m : Nat) : (s.stall p).ucl m = s.ucl m := rfl
@[simp] theorem State.stall_subOf (s : State) (p : Path) (m : Nat) : (s.stall p).sub m = s.sub m := rfl
@[simp] theorem State.stall_stpPortOf (s : State) (p : Path) (m : Nat) : (s.stall p).stpPort m = s.stpPort m := rfl
@[simp] theorem State.stall_dmaChOf (s : State) (p : Path) (m : Nat) : (s.stall p).dmaCh m = s.dmaCh m := rfl
@[simp] theorem State.stall_tstLaneOf (s : State) (p : Path) (m : Nat) : (s.stall p).tstLane m = s.tstLane m := rfl
@[simp] theorem State.stall_commitOf (s : State) (p : Path) (m : Nat) : (s.stall p).commit m = s.commit m := rfl

/-! ### `State.setLane` -/

@[simp] theorem State.setLane_regs (s : State) (n : Nat) (x : Lane) : (s.setLane n x).regs = s.regs := rfl
@[simp] theorem State.setLane_cnt (s : State) (n : Nat) (x : Lane) : (s.setLane n x).cnt = s.cnt := rfl
@[simp] theorem State.setLane_snap (s : State) (n : Nat) (x : Lane) : (s.setLane n x).snap = s.snap := rfl
@[simp] theorem State.setLane_snapNext (s : State) (n : Nat) (x : Lane) : (s.setLane n x).snapNext = s.snapNext := rfl
@[simp] theorem State.setLane_draws (s : State) (n : Nat) (x : Lane) : (s.setLane n x).draws = s.draws := rfl
@[simp] theorem State.setLane_raised (s : State) (n : Nat) (x : Lane) : (s.setLane n x).raised = s.raised := rfl
@[simp] theorem State.setLane_ruleTaped (s : State) (n : Nat) (x : Lane) : (s.setLane n x).ruleTaped = s.ruleTaped := rfl
@[simp] theorem State.setLane_chalk (s : State) (n : Nat) (x : Lane) : (s.setLane n x).chalk = s.chalk := rfl
@[simp] theorem State.setLane_tgs (s : State) (n : Nat) (x : Lane) : (s.setLane n x).tgs = s.tgs := rfl
@[simp] theorem State.setLane_ports (s : State) (n : Nat) (x : Lane) : (s.setLane n x).ports = s.ports := rfl
@[simp] theorem State.setLane_hawk (s : State) (n : Nat) (x : Lane) : (s.setLane n x).hawk = s.hawk := rfl
@[simp] theorem State.setLane_snags (s : State) (n : Nat) (x : Lane) : (s.setLane n x).snags = s.snags := rfl
@[simp] theorem State.setLane_units (s : State) (n : Nat) (x : Lane) : (s.setLane n x).units = s.units := rfl
@[simp] theorem State.setLane_windows (s : State) (n : Nat) (x : Lane) : (s.setLane n x).windows = s.windows := rfl
@[simp] theorem State.setLane_commits (s : State) (n : Nat) (x : Lane) : (s.setLane n x).commits = s.commits := rfl
@[simp] theorem State.setLane_seams (s : State) (n : Nat) (x : Lane) : (s.setLane n x).seams = s.seams := rfl
@[simp] theorem State.setLane_rnds (s : State) (n : Nat) (x : Lane) : (s.setLane n x).rnds = s.rnds := rfl
@[simp] theorem State.setLane_skims (s : State) (n : Nat) (x : Lane) : (s.setLane n x).skims = s.skims := rfl
@[simp] theorem State.setLane_skimGs (s : State) (n : Nat) (x : Lane) : (s.setLane n x).skimGs = s.skimGs := rfl
@[simp] theorem State.setLane_stns (s : State) (n : Nat) (x : Lane) : (s.setLane n x).stns = s.stns := rfl
@[simp] theorem State.setLane_plbs (s : State) (n : Nat) (x : Lane) : (s.setLane n x).plbs = s.plbs := rfl
@[simp] theorem State.setLane_ucls (s : State) (n : Nat) (x : Lane) : (s.setLane n x).ucls = s.ucls := rfl
@[simp] theorem State.setLane_subs (s : State) (n : Nat) (x : Lane) : (s.setLane n x).subs = s.subs := rfl
@[simp] theorem State.setLane_ptp (s : State) (n : Nat) (x : Lane) : (s.setLane n x).ptp = s.ptp := rfl
@[simp] theorem State.setLane_hst (s : State) (n : Nat) (x : Lane) : (s.setLane n x).hst = s.hst := rfl
@[simp] theorem State.setLane_replay (s : State) (n : Nat) (x : Lane) : (s.setLane n x).replay = s.replay := rfl
@[simp] theorem State.setLane_mem (s : State) (n : Nat) (x : Lane) : (s.setLane n x).mem = s.mem := rfl
@[simp] theorem State.setLane_stpPorts (s : State) (n : Nat) (x : Lane) : (s.setLane n x).stpPorts = s.stpPorts := rfl
@[simp] theorem State.setLane_stpPipe (s : State) (n : Nat) (x : Lane) : (s.setLane n x).stpPipe = s.stpPipe := rfl
@[simp] theorem State.setLane_stpTiles (s : State) (n : Nat) (x : Lane) : (s.setLane n x).stpTiles = s.stpTiles := rfl
@[simp] theorem State.setLane_stpTaped (s : State) (n : Nat) (x : Lane) : (s.setLane n x).stpTaped = s.stpTaped := rfl
@[simp] theorem State.setLane_dmaChs (s : State) (n : Nat) (x : Lane) : (s.setLane n x).dmaChs = s.dmaChs := rfl
@[simp] theorem State.setLane_ldr (s : State) (n : Nat) (x : Lane) : (s.setLane n x).ldr = s.ldr := rfl
@[simp] theorem State.setLane_mram (s : State) (n : Nat) (x : Lane) : (s.setLane n x).mram = s.mram := rfl
@[simp] theorem State.setLane_dram (s : State) (n : Nat) (x : Lane) : (s.setLane n x).dram = s.dram := rfl
@[simp] theorem State.setLane_scratch (s : State) (n : Nat) (x : Lane) : (s.setLane n x).scratch = s.scratch := rfl
@[simp] theorem State.setLane_hostload (s : State) (n : Nat) (x : Lane) : (s.setLane n x).hostload = s.hostload := rfl
@[simp] theorem State.setLane_boot (s : State) (n : Nat) (x : Lane) : (s.setLane n x).boot = s.boot := rfl
@[simp] theorem State.setLane_pins (s : State) (n : Nat) (x : Lane) : (s.setLane n x).pins = s.pins := rfl
@[simp] theorem State.setLane_therm (s : State) (n : Nat) (x : Lane) : (s.setLane n x).therm = s.therm := rfl
@[simp] theorem State.setLane_power (s : State) (n : Nat) (x : Lane) : (s.setLane n x).power = s.power := rfl
@[simp] theorem State.setLane_fuses (s : State) (n : Nat) (x : Lane) : (s.setLane n x).fuses = s.fuses := rfl
@[simp] theorem State.setLane_sec (s : State) (n : Nat) (x : Lane) : (s.setLane n x).sec = s.sec := rfl
@[simp] theorem State.setLane_fw (s : State) (n : Nat) (x : Lane) : (s.setLane n x).fw = s.fw := rfl
@[simp] theorem State.setLane_tst (s : State) (n : Nat) (x : Lane) : (s.setLane n x).tst = s.tst := rfl
@[simp] theorem State.setLane_io (s : State) (n : Nat) (x : Lane) : (s.setLane n x).io = s.io := rfl
@[simp] theorem State.setLane_answers (s : State) (n : Nat) (x : Lane) : (s.setLane n x).answers = s.answers := rfl
@[simp] theorem State.setLane_pending (s : State) (n : Nat) (x : Lane) : (s.setLane n x).pending = s.pending := rfl
@[simp] theorem State.setLane_rd (s : State) (n : Nat) (x : Lane) (g : Fld) : (s.setLane n x).rd g = s.rd g := rfl
@[simp] theorem State.setLane_flag (s : State) (n : Nat) (x : Lane) (g : Fld) : (s.setLane n x).flag g = s.flag g := rfl
@[simp] theorem State.setLane_ctr (s : State) (n : Nat) (x : Lane) (g : Fld) : (s.setLane n x).ctr g = s.ctr g := rfl
@[simp] theorem State.setLane_portOf (s : State) (n : Nat) (x : Lane) (m : Nat) : (s.setLane n x).port m = s.port m := rfl
@[simp] theorem State.setLane_tgOf (s : State) (n : Nat) (x : Lane) (m : Nat) : (s.setLane n x).tg m = s.tg m := rfl
@[simp] theorem State.setLane_hqOf (s : State) (n : Nat) (x : Lane) (m : Nat) : (s.setLane n x).hq m = s.hq m := rfl
@[simp] theorem State.setLane_snagOf (s : State) (n : Nat) (x : Lane) (m : Nat) : (s.setLane n x).snag m = s.snag m := rfl
@[simp] theorem State.setLane_unitOf (s : State) (n : Nat) (x : Lane) (m : Nat) : (s.setLane n x).unit m = s.unit m := rfl
@[simp] theorem State.setLane_seamOf (s : State) (n : Nat) (x : Lane) (m : Nat) : (s.setLane n x).seam m = s.seam m := rfl
@[simp] theorem State.setLane_rndOf (s : State) (n : Nat) (x : Lane) (m : Nat) : (s.setLane n x).rnd m = s.rnd m := rfl
@[simp] theorem State.setLane_skimOf (s : State) (n : Nat) (x : Lane) (m : Nat) : (s.setLane n x).skim m = s.skim m := rfl
@[simp] theorem State.setLane_skimGOf (s : State) (n : Nat) (x : Lane) (m : Nat) : (s.setLane n x).skimG m = s.skimG m := rfl
@[simp] theorem State.setLane_stnOf (s : State) (n : Nat) (x : Lane) (m : Nat) : (s.setLane n x).stn m = s.stn m := rfl
@[simp] theorem State.setLane_plbOf (s : State) (n : Nat) (x : Lane) (m : Nat) : (s.setLane n x).plb m = s.plb m := rfl
@[simp] theorem State.setLane_uclOf (s : State) (n : Nat) (x : Lane) (m : Nat) : (s.setLane n x).ucl m = s.ucl m := rfl
@[simp] theorem State.setLane_subOf (s : State) (n : Nat) (x : Lane) (m : Nat) : (s.setLane n x).sub m = s.sub m := rfl
@[simp] theorem State.setLane_stpPortOf (s : State) (n : Nat) (x : Lane) (m : Nat) : (s.setLane n x).stpPort m = s.stpPort m := rfl
@[simp] theorem State.setLane_dmaChOf (s : State) (n : Nat) (x : Lane) (m : Nat) : (s.setLane n x).dmaCh m = s.dmaCh m := rfl
@[simp] theorem State.setLane_tstLaneOf (s : State) (n : Nat) (x : Lane) (m : Nat) : (s.setLane n x).tstLane m = s.tstLane m := rfl
@[simp] theorem State.setLane_commitOf (s : State) (n : Nat) (x : Lane) (m : Nat) : (s.setLane n x).commit m = s.commit m := rfl

/-! ### `State.setPort` -/

@[simp] theorem State.setPort_regs (s : State) (n : Nat) (x : Port) : (s.setPort n x).regs = s.regs := rfl
@[simp] theorem State.setPort_cnt (s : State) (n : Nat) (x : Port) : (s.setPort n x).cnt = s.cnt := rfl
@[simp] theorem State.setPort_snap (s : State) (n : Nat) (x : Port) : (s.setPort n x).snap = s.snap := rfl
@[simp] theorem State.setPort_snapNext (s : State) (n : Nat) (x : Port) : (s.setPort n x).snapNext = s.snapNext := rfl
@[simp] theorem State.setPort_draws (s : State) (n : Nat) (x : Port) : (s.setPort n x).draws = s.draws := rfl
@[simp] theorem State.setPort_raised (s : State) (n : Nat) (x : Port) : (s.setPort n x).raised = s.raised := rfl
@[simp] theorem State.setPort_ruleTaped (s : State) (n : Nat) (x : Port) : (s.setPort n x).ruleTaped = s.ruleTaped := rfl
@[simp] theorem State.setPort_chalk (s : State) (n : Nat) (x : Port) : (s.setPort n x).chalk = s.chalk := rfl
@[simp] theorem State.setPort_tgs (s : State) (n : Nat) (x : Port) : (s.setPort n x).tgs = s.tgs := rfl
@[simp] theorem State.setPort_lanes (s : State) (n : Nat) (x : Port) : (s.setPort n x).lanes = s.lanes := rfl
@[simp] theorem State.setPort_hawk (s : State) (n : Nat) (x : Port) : (s.setPort n x).hawk = s.hawk := rfl
@[simp] theorem State.setPort_snags (s : State) (n : Nat) (x : Port) : (s.setPort n x).snags = s.snags := rfl
@[simp] theorem State.setPort_units (s : State) (n : Nat) (x : Port) : (s.setPort n x).units = s.units := rfl
@[simp] theorem State.setPort_windows (s : State) (n : Nat) (x : Port) : (s.setPort n x).windows = s.windows := rfl
@[simp] theorem State.setPort_commits (s : State) (n : Nat) (x : Port) : (s.setPort n x).commits = s.commits := rfl
@[simp] theorem State.setPort_seams (s : State) (n : Nat) (x : Port) : (s.setPort n x).seams = s.seams := rfl
@[simp] theorem State.setPort_rnds (s : State) (n : Nat) (x : Port) : (s.setPort n x).rnds = s.rnds := rfl
@[simp] theorem State.setPort_skims (s : State) (n : Nat) (x : Port) : (s.setPort n x).skims = s.skims := rfl
@[simp] theorem State.setPort_skimGs (s : State) (n : Nat) (x : Port) : (s.setPort n x).skimGs = s.skimGs := rfl
@[simp] theorem State.setPort_stns (s : State) (n : Nat) (x : Port) : (s.setPort n x).stns = s.stns := rfl
@[simp] theorem State.setPort_plbs (s : State) (n : Nat) (x : Port) : (s.setPort n x).plbs = s.plbs := rfl
@[simp] theorem State.setPort_ucls (s : State) (n : Nat) (x : Port) : (s.setPort n x).ucls = s.ucls := rfl
@[simp] theorem State.setPort_subs (s : State) (n : Nat) (x : Port) : (s.setPort n x).subs = s.subs := rfl
@[simp] theorem State.setPort_ptp (s : State) (n : Nat) (x : Port) : (s.setPort n x).ptp = s.ptp := rfl
@[simp] theorem State.setPort_hst (s : State) (n : Nat) (x : Port) : (s.setPort n x).hst = s.hst := rfl
@[simp] theorem State.setPort_replay (s : State) (n : Nat) (x : Port) : (s.setPort n x).replay = s.replay := rfl
@[simp] theorem State.setPort_mem (s : State) (n : Nat) (x : Port) : (s.setPort n x).mem = s.mem := rfl
@[simp] theorem State.setPort_stpPorts (s : State) (n : Nat) (x : Port) : (s.setPort n x).stpPorts = s.stpPorts := rfl
@[simp] theorem State.setPort_stpPipe (s : State) (n : Nat) (x : Port) : (s.setPort n x).stpPipe = s.stpPipe := rfl
@[simp] theorem State.setPort_stpTiles (s : State) (n : Nat) (x : Port) : (s.setPort n x).stpTiles = s.stpTiles := rfl
@[simp] theorem State.setPort_stpTaped (s : State) (n : Nat) (x : Port) : (s.setPort n x).stpTaped = s.stpTaped := rfl
@[simp] theorem State.setPort_dmaChs (s : State) (n : Nat) (x : Port) : (s.setPort n x).dmaChs = s.dmaChs := rfl
@[simp] theorem State.setPort_ldr (s : State) (n : Nat) (x : Port) : (s.setPort n x).ldr = s.ldr := rfl
@[simp] theorem State.setPort_mram (s : State) (n : Nat) (x : Port) : (s.setPort n x).mram = s.mram := rfl
@[simp] theorem State.setPort_dram (s : State) (n : Nat) (x : Port) : (s.setPort n x).dram = s.dram := rfl
@[simp] theorem State.setPort_scratch (s : State) (n : Nat) (x : Port) : (s.setPort n x).scratch = s.scratch := rfl
@[simp] theorem State.setPort_hostload (s : State) (n : Nat) (x : Port) : (s.setPort n x).hostload = s.hostload := rfl
@[simp] theorem State.setPort_boot (s : State) (n : Nat) (x : Port) : (s.setPort n x).boot = s.boot := rfl
@[simp] theorem State.setPort_pins (s : State) (n : Nat) (x : Port) : (s.setPort n x).pins = s.pins := rfl
@[simp] theorem State.setPort_therm (s : State) (n : Nat) (x : Port) : (s.setPort n x).therm = s.therm := rfl
@[simp] theorem State.setPort_power (s : State) (n : Nat) (x : Port) : (s.setPort n x).power = s.power := rfl
@[simp] theorem State.setPort_fuses (s : State) (n : Nat) (x : Port) : (s.setPort n x).fuses = s.fuses := rfl
@[simp] theorem State.setPort_sec (s : State) (n : Nat) (x : Port) : (s.setPort n x).sec = s.sec := rfl
@[simp] theorem State.setPort_fw (s : State) (n : Nat) (x : Port) : (s.setPort n x).fw = s.fw := rfl
@[simp] theorem State.setPort_tst (s : State) (n : Nat) (x : Port) : (s.setPort n x).tst = s.tst := rfl
@[simp] theorem State.setPort_io (s : State) (n : Nat) (x : Port) : (s.setPort n x).io = s.io := rfl
@[simp] theorem State.setPort_answers (s : State) (n : Nat) (x : Port) : (s.setPort n x).answers = s.answers := rfl
@[simp] theorem State.setPort_pending (s : State) (n : Nat) (x : Port) : (s.setPort n x).pending = s.pending := rfl
@[simp] theorem State.setPort_rd (s : State) (n : Nat) (x : Port) (g : Fld) : (s.setPort n x).rd g = s.rd g := rfl
@[simp] theorem State.setPort_flag (s : State) (n : Nat) (x : Port) (g : Fld) : (s.setPort n x).flag g = s.flag g := rfl
@[simp] theorem State.setPort_ctr (s : State) (n : Nat) (x : Port) (g : Fld) : (s.setPort n x).ctr g = s.ctr g := rfl
@[simp] theorem State.setPort_laneOf (s : State) (n : Nat) (x : Port) (m : Nat) : (s.setPort n x).lane m = s.lane m := rfl
@[simp] theorem State.setPort_tgOf (s : State) (n : Nat) (x : Port) (m : Nat) : (s.setPort n x).tg m = s.tg m := rfl
@[simp] theorem State.setPort_hqOf (s : State) (n : Nat) (x : Port) (m : Nat) : (s.setPort n x).hq m = s.hq m := rfl
@[simp] theorem State.setPort_snagOf (s : State) (n : Nat) (x : Port) (m : Nat) : (s.setPort n x).snag m = s.snag m := rfl
@[simp] theorem State.setPort_unitOf (s : State) (n : Nat) (x : Port) (m : Nat) : (s.setPort n x).unit m = s.unit m := rfl
@[simp] theorem State.setPort_seamOf (s : State) (n : Nat) (x : Port) (m : Nat) : (s.setPort n x).seam m = s.seam m := rfl
@[simp] theorem State.setPort_rndOf (s : State) (n : Nat) (x : Port) (m : Nat) : (s.setPort n x).rnd m = s.rnd m := rfl
@[simp] theorem State.setPort_skimOf (s : State) (n : Nat) (x : Port) (m : Nat) : (s.setPort n x).skim m = s.skim m := rfl
@[simp] theorem State.setPort_skimGOf (s : State) (n : Nat) (x : Port) (m : Nat) : (s.setPort n x).skimG m = s.skimG m := rfl
@[simp] theorem State.setPort_stnOf (s : State) (n : Nat) (x : Port) (m : Nat) : (s.setPort n x).stn m = s.stn m := rfl
@[simp] theorem State.setPort_plbOf (s : State) (n : Nat) (x : Port) (m : Nat) : (s.setPort n x).plb m = s.plb m := rfl
@[simp] theorem State.setPort_uclOf (s : State) (n : Nat) (x : Port) (m : Nat) : (s.setPort n x).ucl m = s.ucl m := rfl
@[simp] theorem State.setPort_subOf (s : State) (n : Nat) (x : Port) (m : Nat) : (s.setPort n x).sub m = s.sub m := rfl
@[simp] theorem State.setPort_stpPortOf (s : State) (n : Nat) (x : Port) (m : Nat) : (s.setPort n x).stpPort m = s.stpPort m := rfl
@[simp] theorem State.setPort_dmaChOf (s : State) (n : Nat) (x : Port) (m : Nat) : (s.setPort n x).dmaCh m = s.dmaCh m := rfl
@[simp] theorem State.setPort_tstLaneOf (s : State) (n : Nat) (x : Port) (m : Nat) : (s.setPort n x).tstLane m = s.tstLane m := rfl
@[simp] theorem State.setPort_commitOf (s : State) (n : Nat) (x : Port) (m : Nat) : (s.setPort n x).commit m = s.commit m := rfl

/-! ### `State.setTg` -/

@[simp] theorem State.setTg_regs (s : State) (n : Nat) (x : Tg) : (s.setTg n x).regs = s.regs := rfl
@[simp] theorem State.setTg_cnt (s : State) (n : Nat) (x : Tg) : (s.setTg n x).cnt = s.cnt := rfl
@[simp] theorem State.setTg_snap (s : State) (n : Nat) (x : Tg) : (s.setTg n x).snap = s.snap := rfl
@[simp] theorem State.setTg_snapNext (s : State) (n : Nat) (x : Tg) : (s.setTg n x).snapNext = s.snapNext := rfl
@[simp] theorem State.setTg_draws (s : State) (n : Nat) (x : Tg) : (s.setTg n x).draws = s.draws := rfl
@[simp] theorem State.setTg_raised (s : State) (n : Nat) (x : Tg) : (s.setTg n x).raised = s.raised := rfl
@[simp] theorem State.setTg_ruleTaped (s : State) (n : Nat) (x : Tg) : (s.setTg n x).ruleTaped = s.ruleTaped := rfl
@[simp] theorem State.setTg_chalk (s : State) (n : Nat) (x : Tg) : (s.setTg n x).chalk = s.chalk := rfl
@[simp] theorem State.setTg_lanes (s : State) (n : Nat) (x : Tg) : (s.setTg n x).lanes = s.lanes := rfl
@[simp] theorem State.setTg_ports (s : State) (n : Nat) (x : Tg) : (s.setTg n x).ports = s.ports := rfl
@[simp] theorem State.setTg_hawk (s : State) (n : Nat) (x : Tg) : (s.setTg n x).hawk = s.hawk := rfl
@[simp] theorem State.setTg_snags (s : State) (n : Nat) (x : Tg) : (s.setTg n x).snags = s.snags := rfl
@[simp] theorem State.setTg_units (s : State) (n : Nat) (x : Tg) : (s.setTg n x).units = s.units := rfl
@[simp] theorem State.setTg_windows (s : State) (n : Nat) (x : Tg) : (s.setTg n x).windows = s.windows := rfl
@[simp] theorem State.setTg_commits (s : State) (n : Nat) (x : Tg) : (s.setTg n x).commits = s.commits := rfl
@[simp] theorem State.setTg_seams (s : State) (n : Nat) (x : Tg) : (s.setTg n x).seams = s.seams := rfl
@[simp] theorem State.setTg_rnds (s : State) (n : Nat) (x : Tg) : (s.setTg n x).rnds = s.rnds := rfl
@[simp] theorem State.setTg_skims (s : State) (n : Nat) (x : Tg) : (s.setTg n x).skims = s.skims := rfl
@[simp] theorem State.setTg_skimGs (s : State) (n : Nat) (x : Tg) : (s.setTg n x).skimGs = s.skimGs := rfl
@[simp] theorem State.setTg_stns (s : State) (n : Nat) (x : Tg) : (s.setTg n x).stns = s.stns := rfl
@[simp] theorem State.setTg_plbs (s : State) (n : Nat) (x : Tg) : (s.setTg n x).plbs = s.plbs := rfl
@[simp] theorem State.setTg_ucls (s : State) (n : Nat) (x : Tg) : (s.setTg n x).ucls = s.ucls := rfl
@[simp] theorem State.setTg_subs (s : State) (n : Nat) (x : Tg) : (s.setTg n x).subs = s.subs := rfl
@[simp] theorem State.setTg_ptp (s : State) (n : Nat) (x : Tg) : (s.setTg n x).ptp = s.ptp := rfl
@[simp] theorem State.setTg_hst (s : State) (n : Nat) (x : Tg) : (s.setTg n x).hst = s.hst := rfl
@[simp] theorem State.setTg_replay (s : State) (n : Nat) (x : Tg) : (s.setTg n x).replay = s.replay := rfl
@[simp] theorem State.setTg_mem (s : State) (n : Nat) (x : Tg) : (s.setTg n x).mem = s.mem := rfl
@[simp] theorem State.setTg_stpPorts (s : State) (n : Nat) (x : Tg) : (s.setTg n x).stpPorts = s.stpPorts := rfl
@[simp] theorem State.setTg_stpPipe (s : State) (n : Nat) (x : Tg) : (s.setTg n x).stpPipe = s.stpPipe := rfl
@[simp] theorem State.setTg_stpTiles (s : State) (n : Nat) (x : Tg) : (s.setTg n x).stpTiles = s.stpTiles := rfl
@[simp] theorem State.setTg_stpTaped (s : State) (n : Nat) (x : Tg) : (s.setTg n x).stpTaped = s.stpTaped := rfl
@[simp] theorem State.setTg_dmaChs (s : State) (n : Nat) (x : Tg) : (s.setTg n x).dmaChs = s.dmaChs := rfl
@[simp] theorem State.setTg_ldr (s : State) (n : Nat) (x : Tg) : (s.setTg n x).ldr = s.ldr := rfl
@[simp] theorem State.setTg_mram (s : State) (n : Nat) (x : Tg) : (s.setTg n x).mram = s.mram := rfl
@[simp] theorem State.setTg_dram (s : State) (n : Nat) (x : Tg) : (s.setTg n x).dram = s.dram := rfl
@[simp] theorem State.setTg_scratch (s : State) (n : Nat) (x : Tg) : (s.setTg n x).scratch = s.scratch := rfl
@[simp] theorem State.setTg_hostload (s : State) (n : Nat) (x : Tg) : (s.setTg n x).hostload = s.hostload := rfl
@[simp] theorem State.setTg_boot (s : State) (n : Nat) (x : Tg) : (s.setTg n x).boot = s.boot := rfl
@[simp] theorem State.setTg_pins (s : State) (n : Nat) (x : Tg) : (s.setTg n x).pins = s.pins := rfl
@[simp] theorem State.setTg_therm (s : State) (n : Nat) (x : Tg) : (s.setTg n x).therm = s.therm := rfl
@[simp] theorem State.setTg_power (s : State) (n : Nat) (x : Tg) : (s.setTg n x).power = s.power := rfl
@[simp] theorem State.setTg_fuses (s : State) (n : Nat) (x : Tg) : (s.setTg n x).fuses = s.fuses := rfl
@[simp] theorem State.setTg_sec (s : State) (n : Nat) (x : Tg) : (s.setTg n x).sec = s.sec := rfl
@[simp] theorem State.setTg_fw (s : State) (n : Nat) (x : Tg) : (s.setTg n x).fw = s.fw := rfl
@[simp] theorem State.setTg_tst (s : State) (n : Nat) (x : Tg) : (s.setTg n x).tst = s.tst := rfl
@[simp] theorem State.setTg_io (s : State) (n : Nat) (x : Tg) : (s.setTg n x).io = s.io := rfl
@[simp] theorem State.setTg_answers (s : State) (n : Nat) (x : Tg) : (s.setTg n x).answers = s.answers := rfl
@[simp] theorem State.setTg_pending (s : State) (n : Nat) (x : Tg) : (s.setTg n x).pending = s.pending := rfl
@[simp] theorem State.setTg_rd (s : State) (n : Nat) (x : Tg) (g : Fld) : (s.setTg n x).rd g = s.rd g := rfl
@[simp] theorem State.setTg_flag (s : State) (n : Nat) (x : Tg) (g : Fld) : (s.setTg n x).flag g = s.flag g := rfl
@[simp] theorem State.setTg_ctr (s : State) (n : Nat) (x : Tg) (g : Fld) : (s.setTg n x).ctr g = s.ctr g := rfl
@[simp] theorem State.setTg_laneOf (s : State) (n : Nat) (x : Tg) (m : Nat) : (s.setTg n x).lane m = s.lane m := rfl
@[simp] theorem State.setTg_portOf (s : State) (n : Nat) (x : Tg) (m : Nat) : (s.setTg n x).port m = s.port m := rfl
@[simp] theorem State.setTg_hqOf (s : State) (n : Nat) (x : Tg) (m : Nat) : (s.setTg n x).hq m = s.hq m := rfl
@[simp] theorem State.setTg_snagOf (s : State) (n : Nat) (x : Tg) (m : Nat) : (s.setTg n x).snag m = s.snag m := rfl
@[simp] theorem State.setTg_unitOf (s : State) (n : Nat) (x : Tg) (m : Nat) : (s.setTg n x).unit m = s.unit m := rfl
@[simp] theorem State.setTg_seamOf (s : State) (n : Nat) (x : Tg) (m : Nat) : (s.setTg n x).seam m = s.seam m := rfl
@[simp] theorem State.setTg_rndOf (s : State) (n : Nat) (x : Tg) (m : Nat) : (s.setTg n x).rnd m = s.rnd m := rfl
@[simp] theorem State.setTg_skimOf (s : State) (n : Nat) (x : Tg) (m : Nat) : (s.setTg n x).skim m = s.skim m := rfl
@[simp] theorem State.setTg_skimGOf (s : State) (n : Nat) (x : Tg) (m : Nat) : (s.setTg n x).skimG m = s.skimG m := rfl
@[simp] theorem State.setTg_stnOf (s : State) (n : Nat) (x : Tg) (m : Nat) : (s.setTg n x).stn m = s.stn m := rfl
@[simp] theorem State.setTg_plbOf (s : State) (n : Nat) (x : Tg) (m : Nat) : (s.setTg n x).plb m = s.plb m := rfl
@[simp] theorem State.setTg_uclOf (s : State) (n : Nat) (x : Tg) (m : Nat) : (s.setTg n x).ucl m = s.ucl m := rfl
@[simp] theorem State.setTg_subOf (s : State) (n : Nat) (x : Tg) (m : Nat) : (s.setTg n x).sub m = s.sub m := rfl
@[simp] theorem State.setTg_stpPortOf (s : State) (n : Nat) (x : Tg) (m : Nat) : (s.setTg n x).stpPort m = s.stpPort m := rfl
@[simp] theorem State.setTg_dmaChOf (s : State) (n : Nat) (x : Tg) (m : Nat) : (s.setTg n x).dmaCh m = s.dmaCh m := rfl
@[simp] theorem State.setTg_tstLaneOf (s : State) (n : Nat) (x : Tg) (m : Nat) : (s.setTg n x).tstLane m = s.tstLane m := rfl
@[simp] theorem State.setTg_commitOf (s : State) (n : Nat) (x : Tg) (m : Nat) : (s.setTg n x).commit m = s.commit m := rfl

/-! ### `State.setHq` -/

@[simp] theorem State.setHq_regs (s : State) (n : Nat) (x : HawkQ) : (s.setHq n x).regs = s.regs := rfl
@[simp] theorem State.setHq_cnt (s : State) (n : Nat) (x : HawkQ) : (s.setHq n x).cnt = s.cnt := rfl
@[simp] theorem State.setHq_snap (s : State) (n : Nat) (x : HawkQ) : (s.setHq n x).snap = s.snap := rfl
@[simp] theorem State.setHq_snapNext (s : State) (n : Nat) (x : HawkQ) : (s.setHq n x).snapNext = s.snapNext := rfl
@[simp] theorem State.setHq_draws (s : State) (n : Nat) (x : HawkQ) : (s.setHq n x).draws = s.draws := rfl
@[simp] theorem State.setHq_raised (s : State) (n : Nat) (x : HawkQ) : (s.setHq n x).raised = s.raised := rfl
@[simp] theorem State.setHq_ruleTaped (s : State) (n : Nat) (x : HawkQ) : (s.setHq n x).ruleTaped = s.ruleTaped := rfl
@[simp] theorem State.setHq_chalk (s : State) (n : Nat) (x : HawkQ) : (s.setHq n x).chalk = s.chalk := rfl
@[simp] theorem State.setHq_tgs (s : State) (n : Nat) (x : HawkQ) : (s.setHq n x).tgs = s.tgs := rfl
@[simp] theorem State.setHq_lanes (s : State) (n : Nat) (x : HawkQ) : (s.setHq n x).lanes = s.lanes := rfl
@[simp] theorem State.setHq_ports (s : State) (n : Nat) (x : HawkQ) : (s.setHq n x).ports = s.ports := rfl
@[simp] theorem State.setHq_snags (s : State) (n : Nat) (x : HawkQ) : (s.setHq n x).snags = s.snags := rfl
@[simp] theorem State.setHq_units (s : State) (n : Nat) (x : HawkQ) : (s.setHq n x).units = s.units := rfl
@[simp] theorem State.setHq_windows (s : State) (n : Nat) (x : HawkQ) : (s.setHq n x).windows = s.windows := rfl
@[simp] theorem State.setHq_commits (s : State) (n : Nat) (x : HawkQ) : (s.setHq n x).commits = s.commits := rfl
@[simp] theorem State.setHq_seams (s : State) (n : Nat) (x : HawkQ) : (s.setHq n x).seams = s.seams := rfl
@[simp] theorem State.setHq_rnds (s : State) (n : Nat) (x : HawkQ) : (s.setHq n x).rnds = s.rnds := rfl
@[simp] theorem State.setHq_skims (s : State) (n : Nat) (x : HawkQ) : (s.setHq n x).skims = s.skims := rfl
@[simp] theorem State.setHq_skimGs (s : State) (n : Nat) (x : HawkQ) : (s.setHq n x).skimGs = s.skimGs := rfl
@[simp] theorem State.setHq_stns (s : State) (n : Nat) (x : HawkQ) : (s.setHq n x).stns = s.stns := rfl
@[simp] theorem State.setHq_plbs (s : State) (n : Nat) (x : HawkQ) : (s.setHq n x).plbs = s.plbs := rfl
@[simp] theorem State.setHq_ucls (s : State) (n : Nat) (x : HawkQ) : (s.setHq n x).ucls = s.ucls := rfl
@[simp] theorem State.setHq_subs (s : State) (n : Nat) (x : HawkQ) : (s.setHq n x).subs = s.subs := rfl
@[simp] theorem State.setHq_ptp (s : State) (n : Nat) (x : HawkQ) : (s.setHq n x).ptp = s.ptp := rfl
@[simp] theorem State.setHq_hst (s : State) (n : Nat) (x : HawkQ) : (s.setHq n x).hst = s.hst := rfl
@[simp] theorem State.setHq_replay (s : State) (n : Nat) (x : HawkQ) : (s.setHq n x).replay = s.replay := rfl
@[simp] theorem State.setHq_mem (s : State) (n : Nat) (x : HawkQ) : (s.setHq n x).mem = s.mem := rfl
@[simp] theorem State.setHq_stpPorts (s : State) (n : Nat) (x : HawkQ) : (s.setHq n x).stpPorts = s.stpPorts := rfl
@[simp] theorem State.setHq_stpPipe (s : State) (n : Nat) (x : HawkQ) : (s.setHq n x).stpPipe = s.stpPipe := rfl
@[simp] theorem State.setHq_stpTiles (s : State) (n : Nat) (x : HawkQ) : (s.setHq n x).stpTiles = s.stpTiles := rfl
@[simp] theorem State.setHq_stpTaped (s : State) (n : Nat) (x : HawkQ) : (s.setHq n x).stpTaped = s.stpTaped := rfl
@[simp] theorem State.setHq_dmaChs (s : State) (n : Nat) (x : HawkQ) : (s.setHq n x).dmaChs = s.dmaChs := rfl
@[simp] theorem State.setHq_ldr (s : State) (n : Nat) (x : HawkQ) : (s.setHq n x).ldr = s.ldr := rfl
@[simp] theorem State.setHq_mram (s : State) (n : Nat) (x : HawkQ) : (s.setHq n x).mram = s.mram := rfl
@[simp] theorem State.setHq_dram (s : State) (n : Nat) (x : HawkQ) : (s.setHq n x).dram = s.dram := rfl
@[simp] theorem State.setHq_scratch (s : State) (n : Nat) (x : HawkQ) : (s.setHq n x).scratch = s.scratch := rfl
@[simp] theorem State.setHq_hostload (s : State) (n : Nat) (x : HawkQ) : (s.setHq n x).hostload = s.hostload := rfl
@[simp] theorem State.setHq_boot (s : State) (n : Nat) (x : HawkQ) : (s.setHq n x).boot = s.boot := rfl
@[simp] theorem State.setHq_pins (s : State) (n : Nat) (x : HawkQ) : (s.setHq n x).pins = s.pins := rfl
@[simp] theorem State.setHq_therm (s : State) (n : Nat) (x : HawkQ) : (s.setHq n x).therm = s.therm := rfl
@[simp] theorem State.setHq_power (s : State) (n : Nat) (x : HawkQ) : (s.setHq n x).power = s.power := rfl
@[simp] theorem State.setHq_fuses (s : State) (n : Nat) (x : HawkQ) : (s.setHq n x).fuses = s.fuses := rfl
@[simp] theorem State.setHq_sec (s : State) (n : Nat) (x : HawkQ) : (s.setHq n x).sec = s.sec := rfl
@[simp] theorem State.setHq_fw (s : State) (n : Nat) (x : HawkQ) : (s.setHq n x).fw = s.fw := rfl
@[simp] theorem State.setHq_tst (s : State) (n : Nat) (x : HawkQ) : (s.setHq n x).tst = s.tst := rfl
@[simp] theorem State.setHq_io (s : State) (n : Nat) (x : HawkQ) : (s.setHq n x).io = s.io := rfl
@[simp] theorem State.setHq_answers (s : State) (n : Nat) (x : HawkQ) : (s.setHq n x).answers = s.answers := rfl
@[simp] theorem State.setHq_pending (s : State) (n : Nat) (x : HawkQ) : (s.setHq n x).pending = s.pending := rfl
@[simp] theorem State.setHq_rd (s : State) (n : Nat) (x : HawkQ) (g : Fld) : (s.setHq n x).rd g = s.rd g := rfl
@[simp] theorem State.setHq_flag (s : State) (n : Nat) (x : HawkQ) (g : Fld) : (s.setHq n x).flag g = s.flag g := rfl
@[simp] theorem State.setHq_ctr (s : State) (n : Nat) (x : HawkQ) (g : Fld) : (s.setHq n x).ctr g = s.ctr g := rfl
@[simp] theorem State.setHq_laneOf (s : State) (n : Nat) (x : HawkQ) (m : Nat) : (s.setHq n x).lane m = s.lane m := rfl
@[simp] theorem State.setHq_portOf (s : State) (n : Nat) (x : HawkQ) (m : Nat) : (s.setHq n x).port m = s.port m := rfl
@[simp] theorem State.setHq_tgOf (s : State) (n : Nat) (x : HawkQ) (m : Nat) : (s.setHq n x).tg m = s.tg m := rfl
@[simp] theorem State.setHq_snagOf (s : State) (n : Nat) (x : HawkQ) (m : Nat) : (s.setHq n x).snag m = s.snag m := rfl
@[simp] theorem State.setHq_unitOf (s : State) (n : Nat) (x : HawkQ) (m : Nat) : (s.setHq n x).unit m = s.unit m := rfl
@[simp] theorem State.setHq_seamOf (s : State) (n : Nat) (x : HawkQ) (m : Nat) : (s.setHq n x).seam m = s.seam m := rfl
@[simp] theorem State.setHq_rndOf (s : State) (n : Nat) (x : HawkQ) (m : Nat) : (s.setHq n x).rnd m = s.rnd m := rfl
@[simp] theorem State.setHq_skimOf (s : State) (n : Nat) (x : HawkQ) (m : Nat) : (s.setHq n x).skim m = s.skim m := rfl
@[simp] theorem State.setHq_skimGOf (s : State) (n : Nat) (x : HawkQ) (m : Nat) : (s.setHq n x).skimG m = s.skimG m := rfl
@[simp] theorem State.setHq_stnOf (s : State) (n : Nat) (x : HawkQ) (m : Nat) : (s.setHq n x).stn m = s.stn m := rfl
@[simp] theorem State.setHq_plbOf (s : State) (n : Nat) (x : HawkQ) (m : Nat) : (s.setHq n x).plb m = s.plb m := rfl
@[simp] theorem State.setHq_uclOf (s : State) (n : Nat) (x : HawkQ) (m : Nat) : (s.setHq n x).ucl m = s.ucl m := rfl
@[simp] theorem State.setHq_subOf (s : State) (n : Nat) (x : HawkQ) (m : Nat) : (s.setHq n x).sub m = s.sub m := rfl
@[simp] theorem State.setHq_stpPortOf (s : State) (n : Nat) (x : HawkQ) (m : Nat) : (s.setHq n x).stpPort m = s.stpPort m := rfl
@[simp] theorem State.setHq_dmaChOf (s : State) (n : Nat) (x : HawkQ) (m : Nat) : (s.setHq n x).dmaCh m = s.dmaCh m := rfl
@[simp] theorem State.setHq_tstLaneOf (s : State) (n : Nat) (x : HawkQ) (m : Nat) : (s.setHq n x).tstLane m = s.tstLane m := rfl
@[simp] theorem State.setHq_commitOf (s : State) (n : Nat) (x : HawkQ) (m : Nat) : (s.setHq n x).commit m = s.commit m := rfl

/-! ### `State.setSnag` -/

@[simp] theorem State.setSnag_regs (s : State) (n : Nat) (x : Snag) : (s.setSnag n x).regs = s.regs := rfl
@[simp] theorem State.setSnag_cnt (s : State) (n : Nat) (x : Snag) : (s.setSnag n x).cnt = s.cnt := rfl
@[simp] theorem State.setSnag_snap (s : State) (n : Nat) (x : Snag) : (s.setSnag n x).snap = s.snap := rfl
@[simp] theorem State.setSnag_snapNext (s : State) (n : Nat) (x : Snag) : (s.setSnag n x).snapNext = s.snapNext := rfl
@[simp] theorem State.setSnag_draws (s : State) (n : Nat) (x : Snag) : (s.setSnag n x).draws = s.draws := rfl
@[simp] theorem State.setSnag_raised (s : State) (n : Nat) (x : Snag) : (s.setSnag n x).raised = s.raised := rfl
@[simp] theorem State.setSnag_ruleTaped (s : State) (n : Nat) (x : Snag) : (s.setSnag n x).ruleTaped = s.ruleTaped := rfl
@[simp] theorem State.setSnag_chalk (s : State) (n : Nat) (x : Snag) : (s.setSnag n x).chalk = s.chalk := rfl
@[simp] theorem State.setSnag_tgs (s : State) (n : Nat) (x : Snag) : (s.setSnag n x).tgs = s.tgs := rfl
@[simp] theorem State.setSnag_lanes (s : State) (n : Nat) (x : Snag) : (s.setSnag n x).lanes = s.lanes := rfl
@[simp] theorem State.setSnag_ports (s : State) (n : Nat) (x : Snag) : (s.setSnag n x).ports = s.ports := rfl
@[simp] theorem State.setSnag_hawk (s : State) (n : Nat) (x : Snag) : (s.setSnag n x).hawk = s.hawk := rfl
@[simp] theorem State.setSnag_units (s : State) (n : Nat) (x : Snag) : (s.setSnag n x).units = s.units := rfl
@[simp] theorem State.setSnag_windows (s : State) (n : Nat) (x : Snag) : (s.setSnag n x).windows = s.windows := rfl
@[simp] theorem State.setSnag_commits (s : State) (n : Nat) (x : Snag) : (s.setSnag n x).commits = s.commits := rfl
@[simp] theorem State.setSnag_seams (s : State) (n : Nat) (x : Snag) : (s.setSnag n x).seams = s.seams := rfl
@[simp] theorem State.setSnag_rnds (s : State) (n : Nat) (x : Snag) : (s.setSnag n x).rnds = s.rnds := rfl
@[simp] theorem State.setSnag_skims (s : State) (n : Nat) (x : Snag) : (s.setSnag n x).skims = s.skims := rfl
@[simp] theorem State.setSnag_skimGs (s : State) (n : Nat) (x : Snag) : (s.setSnag n x).skimGs = s.skimGs := rfl
@[simp] theorem State.setSnag_stns (s : State) (n : Nat) (x : Snag) : (s.setSnag n x).stns = s.stns := rfl
@[simp] theorem State.setSnag_plbs (s : State) (n : Nat) (x : Snag) : (s.setSnag n x).plbs = s.plbs := rfl
@[simp] theorem State.setSnag_ucls (s : State) (n : Nat) (x : Snag) : (s.setSnag n x).ucls = s.ucls := rfl
@[simp] theorem State.setSnag_subs (s : State) (n : Nat) (x : Snag) : (s.setSnag n x).subs = s.subs := rfl
@[simp] theorem State.setSnag_ptp (s : State) (n : Nat) (x : Snag) : (s.setSnag n x).ptp = s.ptp := rfl
@[simp] theorem State.setSnag_hst (s : State) (n : Nat) (x : Snag) : (s.setSnag n x).hst = s.hst := rfl
@[simp] theorem State.setSnag_replay (s : State) (n : Nat) (x : Snag) : (s.setSnag n x).replay = s.replay := rfl
@[simp] theorem State.setSnag_mem (s : State) (n : Nat) (x : Snag) : (s.setSnag n x).mem = s.mem := rfl
@[simp] theorem State.setSnag_stpPorts (s : State) (n : Nat) (x : Snag) : (s.setSnag n x).stpPorts = s.stpPorts := rfl
@[simp] theorem State.setSnag_stpPipe (s : State) (n : Nat) (x : Snag) : (s.setSnag n x).stpPipe = s.stpPipe := rfl
@[simp] theorem State.setSnag_stpTiles (s : State) (n : Nat) (x : Snag) : (s.setSnag n x).stpTiles = s.stpTiles := rfl
@[simp] theorem State.setSnag_stpTaped (s : State) (n : Nat) (x : Snag) : (s.setSnag n x).stpTaped = s.stpTaped := rfl
@[simp] theorem State.setSnag_dmaChs (s : State) (n : Nat) (x : Snag) : (s.setSnag n x).dmaChs = s.dmaChs := rfl
@[simp] theorem State.setSnag_ldr (s : State) (n : Nat) (x : Snag) : (s.setSnag n x).ldr = s.ldr := rfl
@[simp] theorem State.setSnag_mram (s : State) (n : Nat) (x : Snag) : (s.setSnag n x).mram = s.mram := rfl
@[simp] theorem State.setSnag_dram (s : State) (n : Nat) (x : Snag) : (s.setSnag n x).dram = s.dram := rfl
@[simp] theorem State.setSnag_scratch (s : State) (n : Nat) (x : Snag) : (s.setSnag n x).scratch = s.scratch := rfl
@[simp] theorem State.setSnag_hostload (s : State) (n : Nat) (x : Snag) : (s.setSnag n x).hostload = s.hostload := rfl
@[simp] theorem State.setSnag_boot (s : State) (n : Nat) (x : Snag) : (s.setSnag n x).boot = s.boot := rfl
@[simp] theorem State.setSnag_pins (s : State) (n : Nat) (x : Snag) : (s.setSnag n x).pins = s.pins := rfl
@[simp] theorem State.setSnag_therm (s : State) (n : Nat) (x : Snag) : (s.setSnag n x).therm = s.therm := rfl
@[simp] theorem State.setSnag_power (s : State) (n : Nat) (x : Snag) : (s.setSnag n x).power = s.power := rfl
@[simp] theorem State.setSnag_fuses (s : State) (n : Nat) (x : Snag) : (s.setSnag n x).fuses = s.fuses := rfl
@[simp] theorem State.setSnag_sec (s : State) (n : Nat) (x : Snag) : (s.setSnag n x).sec = s.sec := rfl
@[simp] theorem State.setSnag_fw (s : State) (n : Nat) (x : Snag) : (s.setSnag n x).fw = s.fw := rfl
@[simp] theorem State.setSnag_tst (s : State) (n : Nat) (x : Snag) : (s.setSnag n x).tst = s.tst := rfl
@[simp] theorem State.setSnag_io (s : State) (n : Nat) (x : Snag) : (s.setSnag n x).io = s.io := rfl
@[simp] theorem State.setSnag_answers (s : State) (n : Nat) (x : Snag) : (s.setSnag n x).answers = s.answers := rfl
@[simp] theorem State.setSnag_pending (s : State) (n : Nat) (x : Snag) : (s.setSnag n x).pending = s.pending := rfl
@[simp] theorem State.setSnag_rd (s : State) (n : Nat) (x : Snag) (g : Fld) : (s.setSnag n x).rd g = s.rd g := rfl
@[simp] theorem State.setSnag_flag (s : State) (n : Nat) (x : Snag) (g : Fld) : (s.setSnag n x).flag g = s.flag g := rfl
@[simp] theorem State.setSnag_ctr (s : State) (n : Nat) (x : Snag) (g : Fld) : (s.setSnag n x).ctr g = s.ctr g := rfl
@[simp] theorem State.setSnag_laneOf (s : State) (n : Nat) (x : Snag) (m : Nat) : (s.setSnag n x).lane m = s.lane m := rfl
@[simp] theorem State.setSnag_portOf (s : State) (n : Nat) (x : Snag) (m : Nat) : (s.setSnag n x).port m = s.port m := rfl
@[simp] theorem State.setSnag_tgOf (s : State) (n : Nat) (x : Snag) (m : Nat) : (s.setSnag n x).tg m = s.tg m := rfl
@[simp] theorem State.setSnag_hqOf (s : State) (n : Nat) (x : Snag) (m : Nat) : (s.setSnag n x).hq m = s.hq m := rfl
@[simp] theorem State.setSnag_unitOf (s : State) (n : Nat) (x : Snag) (m : Nat) : (s.setSnag n x).unit m = s.unit m := rfl
@[simp] theorem State.setSnag_seamOf (s : State) (n : Nat) (x : Snag) (m : Nat) : (s.setSnag n x).seam m = s.seam m := rfl
@[simp] theorem State.setSnag_rndOf (s : State) (n : Nat) (x : Snag) (m : Nat) : (s.setSnag n x).rnd m = s.rnd m := rfl
@[simp] theorem State.setSnag_skimOf (s : State) (n : Nat) (x : Snag) (m : Nat) : (s.setSnag n x).skim m = s.skim m := rfl
@[simp] theorem State.setSnag_skimGOf (s : State) (n : Nat) (x : Snag) (m : Nat) : (s.setSnag n x).skimG m = s.skimG m := rfl
@[simp] theorem State.setSnag_stnOf (s : State) (n : Nat) (x : Snag) (m : Nat) : (s.setSnag n x).stn m = s.stn m := rfl
@[simp] theorem State.setSnag_plbOf (s : State) (n : Nat) (x : Snag) (m : Nat) : (s.setSnag n x).plb m = s.plb m := rfl
@[simp] theorem State.setSnag_uclOf (s : State) (n : Nat) (x : Snag) (m : Nat) : (s.setSnag n x).ucl m = s.ucl m := rfl
@[simp] theorem State.setSnag_subOf (s : State) (n : Nat) (x : Snag) (m : Nat) : (s.setSnag n x).sub m = s.sub m := rfl
@[simp] theorem State.setSnag_stpPortOf (s : State) (n : Nat) (x : Snag) (m : Nat) : (s.setSnag n x).stpPort m = s.stpPort m := rfl
@[simp] theorem State.setSnag_dmaChOf (s : State) (n : Nat) (x : Snag) (m : Nat) : (s.setSnag n x).dmaCh m = s.dmaCh m := rfl
@[simp] theorem State.setSnag_tstLaneOf (s : State) (n : Nat) (x : Snag) (m : Nat) : (s.setSnag n x).tstLane m = s.tstLane m := rfl
@[simp] theorem State.setSnag_commitOf (s : State) (n : Nat) (x : Snag) (m : Nat) : (s.setSnag n x).commit m = s.commit m := rfl

/-! ### `State.setUnit` -/

@[simp] theorem State.setUnit_regs (s : State) (n : Nat) (x : FUnit) : (s.setUnit n x).regs = s.regs := rfl
@[simp] theorem State.setUnit_cnt (s : State) (n : Nat) (x : FUnit) : (s.setUnit n x).cnt = s.cnt := rfl
@[simp] theorem State.setUnit_snap (s : State) (n : Nat) (x : FUnit) : (s.setUnit n x).snap = s.snap := rfl
@[simp] theorem State.setUnit_snapNext (s : State) (n : Nat) (x : FUnit) : (s.setUnit n x).snapNext = s.snapNext := rfl
@[simp] theorem State.setUnit_draws (s : State) (n : Nat) (x : FUnit) : (s.setUnit n x).draws = s.draws := rfl
@[simp] theorem State.setUnit_raised (s : State) (n : Nat) (x : FUnit) : (s.setUnit n x).raised = s.raised := rfl
@[simp] theorem State.setUnit_ruleTaped (s : State) (n : Nat) (x : FUnit) : (s.setUnit n x).ruleTaped = s.ruleTaped := rfl
@[simp] theorem State.setUnit_chalk (s : State) (n : Nat) (x : FUnit) : (s.setUnit n x).chalk = s.chalk := rfl
@[simp] theorem State.setUnit_tgs (s : State) (n : Nat) (x : FUnit) : (s.setUnit n x).tgs = s.tgs := rfl
@[simp] theorem State.setUnit_lanes (s : State) (n : Nat) (x : FUnit) : (s.setUnit n x).lanes = s.lanes := rfl
@[simp] theorem State.setUnit_ports (s : State) (n : Nat) (x : FUnit) : (s.setUnit n x).ports = s.ports := rfl
@[simp] theorem State.setUnit_hawk (s : State) (n : Nat) (x : FUnit) : (s.setUnit n x).hawk = s.hawk := rfl
@[simp] theorem State.setUnit_snags (s : State) (n : Nat) (x : FUnit) : (s.setUnit n x).snags = s.snags := rfl
@[simp] theorem State.setUnit_windows (s : State) (n : Nat) (x : FUnit) : (s.setUnit n x).windows = s.windows := rfl
@[simp] theorem State.setUnit_commits (s : State) (n : Nat) (x : FUnit) : (s.setUnit n x).commits = s.commits := rfl
@[simp] theorem State.setUnit_seams (s : State) (n : Nat) (x : FUnit) : (s.setUnit n x).seams = s.seams := rfl
@[simp] theorem State.setUnit_rnds (s : State) (n : Nat) (x : FUnit) : (s.setUnit n x).rnds = s.rnds := rfl
@[simp] theorem State.setUnit_skims (s : State) (n : Nat) (x : FUnit) : (s.setUnit n x).skims = s.skims := rfl
@[simp] theorem State.setUnit_skimGs (s : State) (n : Nat) (x : FUnit) : (s.setUnit n x).skimGs = s.skimGs := rfl
@[simp] theorem State.setUnit_stns (s : State) (n : Nat) (x : FUnit) : (s.setUnit n x).stns = s.stns := rfl
@[simp] theorem State.setUnit_plbs (s : State) (n : Nat) (x : FUnit) : (s.setUnit n x).plbs = s.plbs := rfl
@[simp] theorem State.setUnit_ucls (s : State) (n : Nat) (x : FUnit) : (s.setUnit n x).ucls = s.ucls := rfl
@[simp] theorem State.setUnit_subs (s : State) (n : Nat) (x : FUnit) : (s.setUnit n x).subs = s.subs := rfl
@[simp] theorem State.setUnit_ptp (s : State) (n : Nat) (x : FUnit) : (s.setUnit n x).ptp = s.ptp := rfl
@[simp] theorem State.setUnit_hst (s : State) (n : Nat) (x : FUnit) : (s.setUnit n x).hst = s.hst := rfl
@[simp] theorem State.setUnit_replay (s : State) (n : Nat) (x : FUnit) : (s.setUnit n x).replay = s.replay := rfl
@[simp] theorem State.setUnit_mem (s : State) (n : Nat) (x : FUnit) : (s.setUnit n x).mem = s.mem := rfl
@[simp] theorem State.setUnit_stpPorts (s : State) (n : Nat) (x : FUnit) : (s.setUnit n x).stpPorts = s.stpPorts := rfl
@[simp] theorem State.setUnit_stpPipe (s : State) (n : Nat) (x : FUnit) : (s.setUnit n x).stpPipe = s.stpPipe := rfl
@[simp] theorem State.setUnit_stpTiles (s : State) (n : Nat) (x : FUnit) : (s.setUnit n x).stpTiles = s.stpTiles := rfl
@[simp] theorem State.setUnit_stpTaped (s : State) (n : Nat) (x : FUnit) : (s.setUnit n x).stpTaped = s.stpTaped := rfl
@[simp] theorem State.setUnit_dmaChs (s : State) (n : Nat) (x : FUnit) : (s.setUnit n x).dmaChs = s.dmaChs := rfl
@[simp] theorem State.setUnit_ldr (s : State) (n : Nat) (x : FUnit) : (s.setUnit n x).ldr = s.ldr := rfl
@[simp] theorem State.setUnit_mram (s : State) (n : Nat) (x : FUnit) : (s.setUnit n x).mram = s.mram := rfl
@[simp] theorem State.setUnit_dram (s : State) (n : Nat) (x : FUnit) : (s.setUnit n x).dram = s.dram := rfl
@[simp] theorem State.setUnit_scratch (s : State) (n : Nat) (x : FUnit) : (s.setUnit n x).scratch = s.scratch := rfl
@[simp] theorem State.setUnit_hostload (s : State) (n : Nat) (x : FUnit) : (s.setUnit n x).hostload = s.hostload := rfl
@[simp] theorem State.setUnit_boot (s : State) (n : Nat) (x : FUnit) : (s.setUnit n x).boot = s.boot := rfl
@[simp] theorem State.setUnit_pins (s : State) (n : Nat) (x : FUnit) : (s.setUnit n x).pins = s.pins := rfl
@[simp] theorem State.setUnit_therm (s : State) (n : Nat) (x : FUnit) : (s.setUnit n x).therm = s.therm := rfl
@[simp] theorem State.setUnit_power (s : State) (n : Nat) (x : FUnit) : (s.setUnit n x).power = s.power := rfl
@[simp] theorem State.setUnit_fuses (s : State) (n : Nat) (x : FUnit) : (s.setUnit n x).fuses = s.fuses := rfl
@[simp] theorem State.setUnit_sec (s : State) (n : Nat) (x : FUnit) : (s.setUnit n x).sec = s.sec := rfl
@[simp] theorem State.setUnit_fw (s : State) (n : Nat) (x : FUnit) : (s.setUnit n x).fw = s.fw := rfl
@[simp] theorem State.setUnit_tst (s : State) (n : Nat) (x : FUnit) : (s.setUnit n x).tst = s.tst := rfl
@[simp] theorem State.setUnit_io (s : State) (n : Nat) (x : FUnit) : (s.setUnit n x).io = s.io := rfl
@[simp] theorem State.setUnit_answers (s : State) (n : Nat) (x : FUnit) : (s.setUnit n x).answers = s.answers := rfl
@[simp] theorem State.setUnit_pending (s : State) (n : Nat) (x : FUnit) : (s.setUnit n x).pending = s.pending := rfl
@[simp] theorem State.setUnit_rd (s : State) (n : Nat) (x : FUnit) (g : Fld) : (s.setUnit n x).rd g = s.rd g := rfl
@[simp] theorem State.setUnit_flag (s : State) (n : Nat) (x : FUnit) (g : Fld) : (s.setUnit n x).flag g = s.flag g := rfl
@[simp] theorem State.setUnit_ctr (s : State) (n : Nat) (x : FUnit) (g : Fld) : (s.setUnit n x).ctr g = s.ctr g := rfl
@[simp] theorem State.setUnit_laneOf (s : State) (n : Nat) (x : FUnit) (m : Nat) : (s.setUnit n x).lane m = s.lane m := rfl
@[simp] theorem State.setUnit_portOf (s : State) (n : Nat) (x : FUnit) (m : Nat) : (s.setUnit n x).port m = s.port m := rfl
@[simp] theorem State.setUnit_tgOf (s : State) (n : Nat) (x : FUnit) (m : Nat) : (s.setUnit n x).tg m = s.tg m := rfl
@[simp] theorem State.setUnit_hqOf (s : State) (n : Nat) (x : FUnit) (m : Nat) : (s.setUnit n x).hq m = s.hq m := rfl
@[simp] theorem State.setUnit_snagOf (s : State) (n : Nat) (x : FUnit) (m : Nat) : (s.setUnit n x).snag m = s.snag m := rfl
@[simp] theorem State.setUnit_seamOf (s : State) (n : Nat) (x : FUnit) (m : Nat) : (s.setUnit n x).seam m = s.seam m := rfl
@[simp] theorem State.setUnit_rndOf (s : State) (n : Nat) (x : FUnit) (m : Nat) : (s.setUnit n x).rnd m = s.rnd m := rfl
@[simp] theorem State.setUnit_skimOf (s : State) (n : Nat) (x : FUnit) (m : Nat) : (s.setUnit n x).skim m = s.skim m := rfl
@[simp] theorem State.setUnit_skimGOf (s : State) (n : Nat) (x : FUnit) (m : Nat) : (s.setUnit n x).skimG m = s.skimG m := rfl
@[simp] theorem State.setUnit_stnOf (s : State) (n : Nat) (x : FUnit) (m : Nat) : (s.setUnit n x).stn m = s.stn m := rfl
@[simp] theorem State.setUnit_plbOf (s : State) (n : Nat) (x : FUnit) (m : Nat) : (s.setUnit n x).plb m = s.plb m := rfl
@[simp] theorem State.setUnit_uclOf (s : State) (n : Nat) (x : FUnit) (m : Nat) : (s.setUnit n x).ucl m = s.ucl m := rfl
@[simp] theorem State.setUnit_subOf (s : State) (n : Nat) (x : FUnit) (m : Nat) : (s.setUnit n x).sub m = s.sub m := rfl
@[simp] theorem State.setUnit_stpPortOf (s : State) (n : Nat) (x : FUnit) (m : Nat) : (s.setUnit n x).stpPort m = s.stpPort m := rfl
@[simp] theorem State.setUnit_dmaChOf (s : State) (n : Nat) (x : FUnit) (m : Nat) : (s.setUnit n x).dmaCh m = s.dmaCh m := rfl
@[simp] theorem State.setUnit_tstLaneOf (s : State) (n : Nat) (x : FUnit) (m : Nat) : (s.setUnit n x).tstLane m = s.tstLane m := rfl
@[simp] theorem State.setUnit_commitOf (s : State) (n : Nat) (x : FUnit) (m : Nat) : (s.setUnit n x).commit m = s.commit m := rfl

/-! ### `State.setSeam` -/

@[simp] theorem State.setSeam_regs (s : State) (n : Nat) (x : Seam) : (s.setSeam n x).regs = s.regs := rfl
@[simp] theorem State.setSeam_cnt (s : State) (n : Nat) (x : Seam) : (s.setSeam n x).cnt = s.cnt := rfl
@[simp] theorem State.setSeam_snap (s : State) (n : Nat) (x : Seam) : (s.setSeam n x).snap = s.snap := rfl
@[simp] theorem State.setSeam_snapNext (s : State) (n : Nat) (x : Seam) : (s.setSeam n x).snapNext = s.snapNext := rfl
@[simp] theorem State.setSeam_draws (s : State) (n : Nat) (x : Seam) : (s.setSeam n x).draws = s.draws := rfl
@[simp] theorem State.setSeam_raised (s : State) (n : Nat) (x : Seam) : (s.setSeam n x).raised = s.raised := rfl
@[simp] theorem State.setSeam_ruleTaped (s : State) (n : Nat) (x : Seam) : (s.setSeam n x).ruleTaped = s.ruleTaped := rfl
@[simp] theorem State.setSeam_chalk (s : State) (n : Nat) (x : Seam) : (s.setSeam n x).chalk = s.chalk := rfl
@[simp] theorem State.setSeam_tgs (s : State) (n : Nat) (x : Seam) : (s.setSeam n x).tgs = s.tgs := rfl
@[simp] theorem State.setSeam_lanes (s : State) (n : Nat) (x : Seam) : (s.setSeam n x).lanes = s.lanes := rfl
@[simp] theorem State.setSeam_ports (s : State) (n : Nat) (x : Seam) : (s.setSeam n x).ports = s.ports := rfl
@[simp] theorem State.setSeam_hawk (s : State) (n : Nat) (x : Seam) : (s.setSeam n x).hawk = s.hawk := rfl
@[simp] theorem State.setSeam_snags (s : State) (n : Nat) (x : Seam) : (s.setSeam n x).snags = s.snags := rfl
@[simp] theorem State.setSeam_units (s : State) (n : Nat) (x : Seam) : (s.setSeam n x).units = s.units := rfl
@[simp] theorem State.setSeam_windows (s : State) (n : Nat) (x : Seam) : (s.setSeam n x).windows = s.windows := rfl
@[simp] theorem State.setSeam_commits (s : State) (n : Nat) (x : Seam) : (s.setSeam n x).commits = s.commits := rfl
@[simp] theorem State.setSeam_rnds (s : State) (n : Nat) (x : Seam) : (s.setSeam n x).rnds = s.rnds := rfl
@[simp] theorem State.setSeam_skims (s : State) (n : Nat) (x : Seam) : (s.setSeam n x).skims = s.skims := rfl
@[simp] theorem State.setSeam_skimGs (s : State) (n : Nat) (x : Seam) : (s.setSeam n x).skimGs = s.skimGs := rfl
@[simp] theorem State.setSeam_stns (s : State) (n : Nat) (x : Seam) : (s.setSeam n x).stns = s.stns := rfl
@[simp] theorem State.setSeam_plbs (s : State) (n : Nat) (x : Seam) : (s.setSeam n x).plbs = s.plbs := rfl
@[simp] theorem State.setSeam_ucls (s : State) (n : Nat) (x : Seam) : (s.setSeam n x).ucls = s.ucls := rfl
@[simp] theorem State.setSeam_subs (s : State) (n : Nat) (x : Seam) : (s.setSeam n x).subs = s.subs := rfl
@[simp] theorem State.setSeam_ptp (s : State) (n : Nat) (x : Seam) : (s.setSeam n x).ptp = s.ptp := rfl
@[simp] theorem State.setSeam_hst (s : State) (n : Nat) (x : Seam) : (s.setSeam n x).hst = s.hst := rfl
@[simp] theorem State.setSeam_replay (s : State) (n : Nat) (x : Seam) : (s.setSeam n x).replay = s.replay := rfl
@[simp] theorem State.setSeam_mem (s : State) (n : Nat) (x : Seam) : (s.setSeam n x).mem = s.mem := rfl
@[simp] theorem State.setSeam_stpPorts (s : State) (n : Nat) (x : Seam) : (s.setSeam n x).stpPorts = s.stpPorts := rfl
@[simp] theorem State.setSeam_stpPipe (s : State) (n : Nat) (x : Seam) : (s.setSeam n x).stpPipe = s.stpPipe := rfl
@[simp] theorem State.setSeam_stpTiles (s : State) (n : Nat) (x : Seam) : (s.setSeam n x).stpTiles = s.stpTiles := rfl
@[simp] theorem State.setSeam_stpTaped (s : State) (n : Nat) (x : Seam) : (s.setSeam n x).stpTaped = s.stpTaped := rfl
@[simp] theorem State.setSeam_dmaChs (s : State) (n : Nat) (x : Seam) : (s.setSeam n x).dmaChs = s.dmaChs := rfl
@[simp] theorem State.setSeam_ldr (s : State) (n : Nat) (x : Seam) : (s.setSeam n x).ldr = s.ldr := rfl
@[simp] theorem State.setSeam_mram (s : State) (n : Nat) (x : Seam) : (s.setSeam n x).mram = s.mram := rfl
@[simp] theorem State.setSeam_dram (s : State) (n : Nat) (x : Seam) : (s.setSeam n x).dram = s.dram := rfl
@[simp] theorem State.setSeam_scratch (s : State) (n : Nat) (x : Seam) : (s.setSeam n x).scratch = s.scratch := rfl
@[simp] theorem State.setSeam_hostload (s : State) (n : Nat) (x : Seam) : (s.setSeam n x).hostload = s.hostload := rfl
@[simp] theorem State.setSeam_boot (s : State) (n : Nat) (x : Seam) : (s.setSeam n x).boot = s.boot := rfl
@[simp] theorem State.setSeam_pins (s : State) (n : Nat) (x : Seam) : (s.setSeam n x).pins = s.pins := rfl
@[simp] theorem State.setSeam_therm (s : State) (n : Nat) (x : Seam) : (s.setSeam n x).therm = s.therm := rfl
@[simp] theorem State.setSeam_power (s : State) (n : Nat) (x : Seam) : (s.setSeam n x).power = s.power := rfl
@[simp] theorem State.setSeam_fuses (s : State) (n : Nat) (x : Seam) : (s.setSeam n x).fuses = s.fuses := rfl
@[simp] theorem State.setSeam_sec (s : State) (n : Nat) (x : Seam) : (s.setSeam n x).sec = s.sec := rfl
@[simp] theorem State.setSeam_fw (s : State) (n : Nat) (x : Seam) : (s.setSeam n x).fw = s.fw := rfl
@[simp] theorem State.setSeam_tst (s : State) (n : Nat) (x : Seam) : (s.setSeam n x).tst = s.tst := rfl
@[simp] theorem State.setSeam_io (s : State) (n : Nat) (x : Seam) : (s.setSeam n x).io = s.io := rfl
@[simp] theorem State.setSeam_answers (s : State) (n : Nat) (x : Seam) : (s.setSeam n x).answers = s.answers := rfl
@[simp] theorem State.setSeam_pending (s : State) (n : Nat) (x : Seam) : (s.setSeam n x).pending = s.pending := rfl
@[simp] theorem State.setSeam_rd (s : State) (n : Nat) (x : Seam) (g : Fld) : (s.setSeam n x).rd g = s.rd g := rfl
@[simp] theorem State.setSeam_flag (s : State) (n : Nat) (x : Seam) (g : Fld) : (s.setSeam n x).flag g = s.flag g := rfl
@[simp] theorem State.setSeam_ctr (s : State) (n : Nat) (x : Seam) (g : Fld) : (s.setSeam n x).ctr g = s.ctr g := rfl
@[simp] theorem State.setSeam_laneOf (s : State) (n : Nat) (x : Seam) (m : Nat) : (s.setSeam n x).lane m = s.lane m := rfl
@[simp] theorem State.setSeam_portOf (s : State) (n : Nat) (x : Seam) (m : Nat) : (s.setSeam n x).port m = s.port m := rfl
@[simp] theorem State.setSeam_tgOf (s : State) (n : Nat) (x : Seam) (m : Nat) : (s.setSeam n x).tg m = s.tg m := rfl
@[simp] theorem State.setSeam_hqOf (s : State) (n : Nat) (x : Seam) (m : Nat) : (s.setSeam n x).hq m = s.hq m := rfl
@[simp] theorem State.setSeam_snagOf (s : State) (n : Nat) (x : Seam) (m : Nat) : (s.setSeam n x).snag m = s.snag m := rfl
@[simp] theorem State.setSeam_unitOf (s : State) (n : Nat) (x : Seam) (m : Nat) : (s.setSeam n x).unit m = s.unit m := rfl
@[simp] theorem State.setSeam_rndOf (s : State) (n : Nat) (x : Seam) (m : Nat) : (s.setSeam n x).rnd m = s.rnd m := rfl
@[simp] theorem State.setSeam_skimOf (s : State) (n : Nat) (x : Seam) (m : Nat) : (s.setSeam n x).skim m = s.skim m := rfl
@[simp] theorem State.setSeam_skimGOf (s : State) (n : Nat) (x : Seam) (m : Nat) : (s.setSeam n x).skimG m = s.skimG m := rfl
@[simp] theorem State.setSeam_stnOf (s : State) (n : Nat) (x : Seam) (m : Nat) : (s.setSeam n x).stn m = s.stn m := rfl
@[simp] theorem State.setSeam_plbOf (s : State) (n : Nat) (x : Seam) (m : Nat) : (s.setSeam n x).plb m = s.plb m := rfl
@[simp] theorem State.setSeam_uclOf (s : State) (n : Nat) (x : Seam) (m : Nat) : (s.setSeam n x).ucl m = s.ucl m := rfl
@[simp] theorem State.setSeam_subOf (s : State) (n : Nat) (x : Seam) (m : Nat) : (s.setSeam n x).sub m = s.sub m := rfl
@[simp] theorem State.setSeam_stpPortOf (s : State) (n : Nat) (x : Seam) (m : Nat) : (s.setSeam n x).stpPort m = s.stpPort m := rfl
@[simp] theorem State.setSeam_dmaChOf (s : State) (n : Nat) (x : Seam) (m : Nat) : (s.setSeam n x).dmaCh m = s.dmaCh m := rfl
@[simp] theorem State.setSeam_tstLaneOf (s : State) (n : Nat) (x : Seam) (m : Nat) : (s.setSeam n x).tstLane m = s.tstLane m := rfl
@[simp] theorem State.setSeam_commitOf (s : State) (n : Nat) (x : Seam) (m : Nat) : (s.setSeam n x).commit m = s.commit m := rfl

/-! ### `State.setRnd` -/

@[simp] theorem State.setRnd_regs (s : State) (n : Nat) (x : Rnd) : (s.setRnd n x).regs = s.regs := rfl
@[simp] theorem State.setRnd_cnt (s : State) (n : Nat) (x : Rnd) : (s.setRnd n x).cnt = s.cnt := rfl
@[simp] theorem State.setRnd_snap (s : State) (n : Nat) (x : Rnd) : (s.setRnd n x).snap = s.snap := rfl
@[simp] theorem State.setRnd_snapNext (s : State) (n : Nat) (x : Rnd) : (s.setRnd n x).snapNext = s.snapNext := rfl
@[simp] theorem State.setRnd_draws (s : State) (n : Nat) (x : Rnd) : (s.setRnd n x).draws = s.draws := rfl
@[simp] theorem State.setRnd_raised (s : State) (n : Nat) (x : Rnd) : (s.setRnd n x).raised = s.raised := rfl
@[simp] theorem State.setRnd_ruleTaped (s : State) (n : Nat) (x : Rnd) : (s.setRnd n x).ruleTaped = s.ruleTaped := rfl
@[simp] theorem State.setRnd_chalk (s : State) (n : Nat) (x : Rnd) : (s.setRnd n x).chalk = s.chalk := rfl
@[simp] theorem State.setRnd_tgs (s : State) (n : Nat) (x : Rnd) : (s.setRnd n x).tgs = s.tgs := rfl
@[simp] theorem State.setRnd_lanes (s : State) (n : Nat) (x : Rnd) : (s.setRnd n x).lanes = s.lanes := rfl
@[simp] theorem State.setRnd_ports (s : State) (n : Nat) (x : Rnd) : (s.setRnd n x).ports = s.ports := rfl
@[simp] theorem State.setRnd_hawk (s : State) (n : Nat) (x : Rnd) : (s.setRnd n x).hawk = s.hawk := rfl
@[simp] theorem State.setRnd_snags (s : State) (n : Nat) (x : Rnd) : (s.setRnd n x).snags = s.snags := rfl
@[simp] theorem State.setRnd_units (s : State) (n : Nat) (x : Rnd) : (s.setRnd n x).units = s.units := rfl
@[simp] theorem State.setRnd_windows (s : State) (n : Nat) (x : Rnd) : (s.setRnd n x).windows = s.windows := rfl
@[simp] theorem State.setRnd_commits (s : State) (n : Nat) (x : Rnd) : (s.setRnd n x).commits = s.commits := rfl
@[simp] theorem State.setRnd_seams (s : State) (n : Nat) (x : Rnd) : (s.setRnd n x).seams = s.seams := rfl
@[simp] theorem State.setRnd_skims (s : State) (n : Nat) (x : Rnd) : (s.setRnd n x).skims = s.skims := rfl
@[simp] theorem State.setRnd_skimGs (s : State) (n : Nat) (x : Rnd) : (s.setRnd n x).skimGs = s.skimGs := rfl
@[simp] theorem State.setRnd_stns (s : State) (n : Nat) (x : Rnd) : (s.setRnd n x).stns = s.stns := rfl
@[simp] theorem State.setRnd_plbs (s : State) (n : Nat) (x : Rnd) : (s.setRnd n x).plbs = s.plbs := rfl
@[simp] theorem State.setRnd_ucls (s : State) (n : Nat) (x : Rnd) : (s.setRnd n x).ucls = s.ucls := rfl
@[simp] theorem State.setRnd_subs (s : State) (n : Nat) (x : Rnd) : (s.setRnd n x).subs = s.subs := rfl
@[simp] theorem State.setRnd_ptp (s : State) (n : Nat) (x : Rnd) : (s.setRnd n x).ptp = s.ptp := rfl
@[simp] theorem State.setRnd_hst (s : State) (n : Nat) (x : Rnd) : (s.setRnd n x).hst = s.hst := rfl
@[simp] theorem State.setRnd_replay (s : State) (n : Nat) (x : Rnd) : (s.setRnd n x).replay = s.replay := rfl
@[simp] theorem State.setRnd_mem (s : State) (n : Nat) (x : Rnd) : (s.setRnd n x).mem = s.mem := rfl
@[simp] theorem State.setRnd_stpPorts (s : State) (n : Nat) (x : Rnd) : (s.setRnd n x).stpPorts = s.stpPorts := rfl
@[simp] theorem State.setRnd_stpPipe (s : State) (n : Nat) (x : Rnd) : (s.setRnd n x).stpPipe = s.stpPipe := rfl
@[simp] theorem State.setRnd_stpTiles (s : State) (n : Nat) (x : Rnd) : (s.setRnd n x).stpTiles = s.stpTiles := rfl
@[simp] theorem State.setRnd_stpTaped (s : State) (n : Nat) (x : Rnd) : (s.setRnd n x).stpTaped = s.stpTaped := rfl
@[simp] theorem State.setRnd_dmaChs (s : State) (n : Nat) (x : Rnd) : (s.setRnd n x).dmaChs = s.dmaChs := rfl
@[simp] theorem State.setRnd_ldr (s : State) (n : Nat) (x : Rnd) : (s.setRnd n x).ldr = s.ldr := rfl
@[simp] theorem State.setRnd_mram (s : State) (n : Nat) (x : Rnd) : (s.setRnd n x).mram = s.mram := rfl
@[simp] theorem State.setRnd_dram (s : State) (n : Nat) (x : Rnd) : (s.setRnd n x).dram = s.dram := rfl
@[simp] theorem State.setRnd_scratch (s : State) (n : Nat) (x : Rnd) : (s.setRnd n x).scratch = s.scratch := rfl
@[simp] theorem State.setRnd_hostload (s : State) (n : Nat) (x : Rnd) : (s.setRnd n x).hostload = s.hostload := rfl
@[simp] theorem State.setRnd_boot (s : State) (n : Nat) (x : Rnd) : (s.setRnd n x).boot = s.boot := rfl
@[simp] theorem State.setRnd_pins (s : State) (n : Nat) (x : Rnd) : (s.setRnd n x).pins = s.pins := rfl
@[simp] theorem State.setRnd_therm (s : State) (n : Nat) (x : Rnd) : (s.setRnd n x).therm = s.therm := rfl
@[simp] theorem State.setRnd_power (s : State) (n : Nat) (x : Rnd) : (s.setRnd n x).power = s.power := rfl
@[simp] theorem State.setRnd_fuses (s : State) (n : Nat) (x : Rnd) : (s.setRnd n x).fuses = s.fuses := rfl
@[simp] theorem State.setRnd_sec (s : State) (n : Nat) (x : Rnd) : (s.setRnd n x).sec = s.sec := rfl
@[simp] theorem State.setRnd_fw (s : State) (n : Nat) (x : Rnd) : (s.setRnd n x).fw = s.fw := rfl
@[simp] theorem State.setRnd_tst (s : State) (n : Nat) (x : Rnd) : (s.setRnd n x).tst = s.tst := rfl
@[simp] theorem State.setRnd_io (s : State) (n : Nat) (x : Rnd) : (s.setRnd n x).io = s.io := rfl
@[simp] theorem State.setRnd_answers (s : State) (n : Nat) (x : Rnd) : (s.setRnd n x).answers = s.answers := rfl
@[simp] theorem State.setRnd_pending (s : State) (n : Nat) (x : Rnd) : (s.setRnd n x).pending = s.pending := rfl
@[simp] theorem State.setRnd_rd (s : State) (n : Nat) (x : Rnd) (g : Fld) : (s.setRnd n x).rd g = s.rd g := rfl
@[simp] theorem State.setRnd_flag (s : State) (n : Nat) (x : Rnd) (g : Fld) : (s.setRnd n x).flag g = s.flag g := rfl
@[simp] theorem State.setRnd_ctr (s : State) (n : Nat) (x : Rnd) (g : Fld) : (s.setRnd n x).ctr g = s.ctr g := rfl
@[simp] theorem State.setRnd_laneOf (s : State) (n : Nat) (x : Rnd) (m : Nat) : (s.setRnd n x).lane m = s.lane m := rfl
@[simp] theorem State.setRnd_portOf (s : State) (n : Nat) (x : Rnd) (m : Nat) : (s.setRnd n x).port m = s.port m := rfl
@[simp] theorem State.setRnd_tgOf (s : State) (n : Nat) (x : Rnd) (m : Nat) : (s.setRnd n x).tg m = s.tg m := rfl
@[simp] theorem State.setRnd_hqOf (s : State) (n : Nat) (x : Rnd) (m : Nat) : (s.setRnd n x).hq m = s.hq m := rfl
@[simp] theorem State.setRnd_snagOf (s : State) (n : Nat) (x : Rnd) (m : Nat) : (s.setRnd n x).snag m = s.snag m := rfl
@[simp] theorem State.setRnd_unitOf (s : State) (n : Nat) (x : Rnd) (m : Nat) : (s.setRnd n x).unit m = s.unit m := rfl
@[simp] theorem State.setRnd_seamOf (s : State) (n : Nat) (x : Rnd) (m : Nat) : (s.setRnd n x).seam m = s.seam m := rfl
@[simp] theorem State.setRnd_skimOf (s : State) (n : Nat) (x : Rnd) (m : Nat) : (s.setRnd n x).skim m = s.skim m := rfl
@[simp] theorem State.setRnd_skimGOf (s : State) (n : Nat) (x : Rnd) (m : Nat) : (s.setRnd n x).skimG m = s.skimG m := rfl
@[simp] theorem State.setRnd_stnOf (s : State) (n : Nat) (x : Rnd) (m : Nat) : (s.setRnd n x).stn m = s.stn m := rfl
@[simp] theorem State.setRnd_plbOf (s : State) (n : Nat) (x : Rnd) (m : Nat) : (s.setRnd n x).plb m = s.plb m := rfl
@[simp] theorem State.setRnd_uclOf (s : State) (n : Nat) (x : Rnd) (m : Nat) : (s.setRnd n x).ucl m = s.ucl m := rfl
@[simp] theorem State.setRnd_subOf (s : State) (n : Nat) (x : Rnd) (m : Nat) : (s.setRnd n x).sub m = s.sub m := rfl
@[simp] theorem State.setRnd_stpPortOf (s : State) (n : Nat) (x : Rnd) (m : Nat) : (s.setRnd n x).stpPort m = s.stpPort m := rfl
@[simp] theorem State.setRnd_dmaChOf (s : State) (n : Nat) (x : Rnd) (m : Nat) : (s.setRnd n x).dmaCh m = s.dmaCh m := rfl
@[simp] theorem State.setRnd_tstLaneOf (s : State) (n : Nat) (x : Rnd) (m : Nat) : (s.setRnd n x).tstLane m = s.tstLane m := rfl
@[simp] theorem State.setRnd_commitOf (s : State) (n : Nat) (x : Rnd) (m : Nat) : (s.setRnd n x).commit m = s.commit m := rfl

/-! ### `State.setSkim` -/

@[simp] theorem State.setSkim_regs (s : State) (n : Nat) (x : SkimPort) : (s.setSkim n x).regs = s.regs := rfl
@[simp] theorem State.setSkim_cnt (s : State) (n : Nat) (x : SkimPort) : (s.setSkim n x).cnt = s.cnt := rfl
@[simp] theorem State.setSkim_snap (s : State) (n : Nat) (x : SkimPort) : (s.setSkim n x).snap = s.snap := rfl
@[simp] theorem State.setSkim_snapNext (s : State) (n : Nat) (x : SkimPort) : (s.setSkim n x).snapNext = s.snapNext := rfl
@[simp] theorem State.setSkim_draws (s : State) (n : Nat) (x : SkimPort) : (s.setSkim n x).draws = s.draws := rfl
@[simp] theorem State.setSkim_raised (s : State) (n : Nat) (x : SkimPort) : (s.setSkim n x).raised = s.raised := rfl
@[simp] theorem State.setSkim_ruleTaped (s : State) (n : Nat) (x : SkimPort) : (s.setSkim n x).ruleTaped = s.ruleTaped := rfl
@[simp] theorem State.setSkim_chalk (s : State) (n : Nat) (x : SkimPort) : (s.setSkim n x).chalk = s.chalk := rfl
@[simp] theorem State.setSkim_tgs (s : State) (n : Nat) (x : SkimPort) : (s.setSkim n x).tgs = s.tgs := rfl
@[simp] theorem State.setSkim_lanes (s : State) (n : Nat) (x : SkimPort) : (s.setSkim n x).lanes = s.lanes := rfl
@[simp] theorem State.setSkim_ports (s : State) (n : Nat) (x : SkimPort) : (s.setSkim n x).ports = s.ports := rfl
@[simp] theorem State.setSkim_hawk (s : State) (n : Nat) (x : SkimPort) : (s.setSkim n x).hawk = s.hawk := rfl
@[simp] theorem State.setSkim_snags (s : State) (n : Nat) (x : SkimPort) : (s.setSkim n x).snags = s.snags := rfl
@[simp] theorem State.setSkim_units (s : State) (n : Nat) (x : SkimPort) : (s.setSkim n x).units = s.units := rfl
@[simp] theorem State.setSkim_windows (s : State) (n : Nat) (x : SkimPort) : (s.setSkim n x).windows = s.windows := rfl
@[simp] theorem State.setSkim_commits (s : State) (n : Nat) (x : SkimPort) : (s.setSkim n x).commits = s.commits := rfl
@[simp] theorem State.setSkim_seams (s : State) (n : Nat) (x : SkimPort) : (s.setSkim n x).seams = s.seams := rfl
@[simp] theorem State.setSkim_rnds (s : State) (n : Nat) (x : SkimPort) : (s.setSkim n x).rnds = s.rnds := rfl
@[simp] theorem State.setSkim_skimGs (s : State) (n : Nat) (x : SkimPort) : (s.setSkim n x).skimGs = s.skimGs := rfl
@[simp] theorem State.setSkim_stns (s : State) (n : Nat) (x : SkimPort) : (s.setSkim n x).stns = s.stns := rfl
@[simp] theorem State.setSkim_plbs (s : State) (n : Nat) (x : SkimPort) : (s.setSkim n x).plbs = s.plbs := rfl
@[simp] theorem State.setSkim_ucls (s : State) (n : Nat) (x : SkimPort) : (s.setSkim n x).ucls = s.ucls := rfl
@[simp] theorem State.setSkim_subs (s : State) (n : Nat) (x : SkimPort) : (s.setSkim n x).subs = s.subs := rfl
@[simp] theorem State.setSkim_ptp (s : State) (n : Nat) (x : SkimPort) : (s.setSkim n x).ptp = s.ptp := rfl
@[simp] theorem State.setSkim_hst (s : State) (n : Nat) (x : SkimPort) : (s.setSkim n x).hst = s.hst := rfl
@[simp] theorem State.setSkim_replay (s : State) (n : Nat) (x : SkimPort) : (s.setSkim n x).replay = s.replay := rfl
@[simp] theorem State.setSkim_mem (s : State) (n : Nat) (x : SkimPort) : (s.setSkim n x).mem = s.mem := rfl
@[simp] theorem State.setSkim_stpPorts (s : State) (n : Nat) (x : SkimPort) : (s.setSkim n x).stpPorts = s.stpPorts := rfl
@[simp] theorem State.setSkim_stpPipe (s : State) (n : Nat) (x : SkimPort) : (s.setSkim n x).stpPipe = s.stpPipe := rfl
@[simp] theorem State.setSkim_stpTiles (s : State) (n : Nat) (x : SkimPort) : (s.setSkim n x).stpTiles = s.stpTiles := rfl
@[simp] theorem State.setSkim_stpTaped (s : State) (n : Nat) (x : SkimPort) : (s.setSkim n x).stpTaped = s.stpTaped := rfl
@[simp] theorem State.setSkim_dmaChs (s : State) (n : Nat) (x : SkimPort) : (s.setSkim n x).dmaChs = s.dmaChs := rfl
@[simp] theorem State.setSkim_ldr (s : State) (n : Nat) (x : SkimPort) : (s.setSkim n x).ldr = s.ldr := rfl
@[simp] theorem State.setSkim_mram (s : State) (n : Nat) (x : SkimPort) : (s.setSkim n x).mram = s.mram := rfl
@[simp] theorem State.setSkim_dram (s : State) (n : Nat) (x : SkimPort) : (s.setSkim n x).dram = s.dram := rfl
@[simp] theorem State.setSkim_scratch (s : State) (n : Nat) (x : SkimPort) : (s.setSkim n x).scratch = s.scratch := rfl
@[simp] theorem State.setSkim_hostload (s : State) (n : Nat) (x : SkimPort) : (s.setSkim n x).hostload = s.hostload := rfl
@[simp] theorem State.setSkim_boot (s : State) (n : Nat) (x : SkimPort) : (s.setSkim n x).boot = s.boot := rfl
@[simp] theorem State.setSkim_pins (s : State) (n : Nat) (x : SkimPort) : (s.setSkim n x).pins = s.pins := rfl
@[simp] theorem State.setSkim_therm (s : State) (n : Nat) (x : SkimPort) : (s.setSkim n x).therm = s.therm := rfl
@[simp] theorem State.setSkim_power (s : State) (n : Nat) (x : SkimPort) : (s.setSkim n x).power = s.power := rfl
@[simp] theorem State.setSkim_fuses (s : State) (n : Nat) (x : SkimPort) : (s.setSkim n x).fuses = s.fuses := rfl
@[simp] theorem State.setSkim_sec (s : State) (n : Nat) (x : SkimPort) : (s.setSkim n x).sec = s.sec := rfl
@[simp] theorem State.setSkim_fw (s : State) (n : Nat) (x : SkimPort) : (s.setSkim n x).fw = s.fw := rfl
@[simp] theorem State.setSkim_tst (s : State) (n : Nat) (x : SkimPort) : (s.setSkim n x).tst = s.tst := rfl
@[simp] theorem State.setSkim_io (s : State) (n : Nat) (x : SkimPort) : (s.setSkim n x).io = s.io := rfl
@[simp] theorem State.setSkim_answers (s : State) (n : Nat) (x : SkimPort) : (s.setSkim n x).answers = s.answers := rfl
@[simp] theorem State.setSkim_pending (s : State) (n : Nat) (x : SkimPort) : (s.setSkim n x).pending = s.pending := rfl
@[simp] theorem State.setSkim_rd (s : State) (n : Nat) (x : SkimPort) (g : Fld) : (s.setSkim n x).rd g = s.rd g := rfl
@[simp] theorem State.setSkim_flag (s : State) (n : Nat) (x : SkimPort) (g : Fld) : (s.setSkim n x).flag g = s.flag g := rfl
@[simp] theorem State.setSkim_ctr (s : State) (n : Nat) (x : SkimPort) (g : Fld) : (s.setSkim n x).ctr g = s.ctr g := rfl
@[simp] theorem State.setSkim_laneOf (s : State) (n : Nat) (x : SkimPort) (m : Nat) : (s.setSkim n x).lane m = s.lane m := rfl
@[simp] theorem State.setSkim_portOf (s : State) (n : Nat) (x : SkimPort) (m : Nat) : (s.setSkim n x).port m = s.port m := rfl
@[simp] theorem State.setSkim_tgOf (s : State) (n : Nat) (x : SkimPort) (m : Nat) : (s.setSkim n x).tg m = s.tg m := rfl
@[simp] theorem State.setSkim_hqOf (s : State) (n : Nat) (x : SkimPort) (m : Nat) : (s.setSkim n x).hq m = s.hq m := rfl
@[simp] theorem State.setSkim_snagOf (s : State) (n : Nat) (x : SkimPort) (m : Nat) : (s.setSkim n x).snag m = s.snag m := rfl
@[simp] theorem State.setSkim_unitOf (s : State) (n : Nat) (x : SkimPort) (m : Nat) : (s.setSkim n x).unit m = s.unit m := rfl
@[simp] theorem State.setSkim_seamOf (s : State) (n : Nat) (x : SkimPort) (m : Nat) : (s.setSkim n x).seam m = s.seam m := rfl
@[simp] theorem State.setSkim_rndOf (s : State) (n : Nat) (x : SkimPort) (m : Nat) : (s.setSkim n x).rnd m = s.rnd m := rfl
@[simp] theorem State.setSkim_skimGOf (s : State) (n : Nat) (x : SkimPort) (m : Nat) : (s.setSkim n x).skimG m = s.skimG m := rfl
@[simp] theorem State.setSkim_stnOf (s : State) (n : Nat) (x : SkimPort) (m : Nat) : (s.setSkim n x).stn m = s.stn m := rfl
@[simp] theorem State.setSkim_plbOf (s : State) (n : Nat) (x : SkimPort) (m : Nat) : (s.setSkim n x).plb m = s.plb m := rfl
@[simp] theorem State.setSkim_uclOf (s : State) (n : Nat) (x : SkimPort) (m : Nat) : (s.setSkim n x).ucl m = s.ucl m := rfl
@[simp] theorem State.setSkim_subOf (s : State) (n : Nat) (x : SkimPort) (m : Nat) : (s.setSkim n x).sub m = s.sub m := rfl
@[simp] theorem State.setSkim_stpPortOf (s : State) (n : Nat) (x : SkimPort) (m : Nat) : (s.setSkim n x).stpPort m = s.stpPort m := rfl
@[simp] theorem State.setSkim_dmaChOf (s : State) (n : Nat) (x : SkimPort) (m : Nat) : (s.setSkim n x).dmaCh m = s.dmaCh m := rfl
@[simp] theorem State.setSkim_tstLaneOf (s : State) (n : Nat) (x : SkimPort) (m : Nat) : (s.setSkim n x).tstLane m = s.tstLane m := rfl
@[simp] theorem State.setSkim_commitOf (s : State) (n : Nat) (x : SkimPort) (m : Nat) : (s.setSkim n x).commit m = s.commit m := rfl

/-! ### `State.setSkimG` -/

@[simp] theorem State.setSkimG_regs (s : State) (n : Nat) (x : SkimGrp) : (s.setSkimG n x).regs = s.regs := rfl
@[simp] theorem State.setSkimG_cnt (s : State) (n : Nat) (x : SkimGrp) : (s.setSkimG n x).cnt = s.cnt := rfl
@[simp] theorem State.setSkimG_snap (s : State) (n : Nat) (x : SkimGrp) : (s.setSkimG n x).snap = s.snap := rfl
@[simp] theorem State.setSkimG_snapNext (s : State) (n : Nat) (x : SkimGrp) : (s.setSkimG n x).snapNext = s.snapNext := rfl
@[simp] theorem State.setSkimG_draws (s : State) (n : Nat) (x : SkimGrp) : (s.setSkimG n x).draws = s.draws := rfl
@[simp] theorem State.setSkimG_raised (s : State) (n : Nat) (x : SkimGrp) : (s.setSkimG n x).raised = s.raised := rfl
@[simp] theorem State.setSkimG_ruleTaped (s : State) (n : Nat) (x : SkimGrp) : (s.setSkimG n x).ruleTaped = s.ruleTaped := rfl
@[simp] theorem State.setSkimG_chalk (s : State) (n : Nat) (x : SkimGrp) : (s.setSkimG n x).chalk = s.chalk := rfl
@[simp] theorem State.setSkimG_tgs (s : State) (n : Nat) (x : SkimGrp) : (s.setSkimG n x).tgs = s.tgs := rfl
@[simp] theorem State.setSkimG_lanes (s : State) (n : Nat) (x : SkimGrp) : (s.setSkimG n x).lanes = s.lanes := rfl
@[simp] theorem State.setSkimG_ports (s : State) (n : Nat) (x : SkimGrp) : (s.setSkimG n x).ports = s.ports := rfl
@[simp] theorem State.setSkimG_hawk (s : State) (n : Nat) (x : SkimGrp) : (s.setSkimG n x).hawk = s.hawk := rfl
@[simp] theorem State.setSkimG_snags (s : State) (n : Nat) (x : SkimGrp) : (s.setSkimG n x).snags = s.snags := rfl
@[simp] theorem State.setSkimG_units (s : State) (n : Nat) (x : SkimGrp) : (s.setSkimG n x).units = s.units := rfl
@[simp] theorem State.setSkimG_windows (s : State) (n : Nat) (x : SkimGrp) : (s.setSkimG n x).windows = s.windows := rfl
@[simp] theorem State.setSkimG_commits (s : State) (n : Nat) (x : SkimGrp) : (s.setSkimG n x).commits = s.commits := rfl
@[simp] theorem State.setSkimG_seams (s : State) (n : Nat) (x : SkimGrp) : (s.setSkimG n x).seams = s.seams := rfl
@[simp] theorem State.setSkimG_rnds (s : State) (n : Nat) (x : SkimGrp) : (s.setSkimG n x).rnds = s.rnds := rfl
@[simp] theorem State.setSkimG_skims (s : State) (n : Nat) (x : SkimGrp) : (s.setSkimG n x).skims = s.skims := rfl
@[simp] theorem State.setSkimG_stns (s : State) (n : Nat) (x : SkimGrp) : (s.setSkimG n x).stns = s.stns := rfl
@[simp] theorem State.setSkimG_plbs (s : State) (n : Nat) (x : SkimGrp) : (s.setSkimG n x).plbs = s.plbs := rfl
@[simp] theorem State.setSkimG_ucls (s : State) (n : Nat) (x : SkimGrp) : (s.setSkimG n x).ucls = s.ucls := rfl
@[simp] theorem State.setSkimG_subs (s : State) (n : Nat) (x : SkimGrp) : (s.setSkimG n x).subs = s.subs := rfl
@[simp] theorem State.setSkimG_ptp (s : State) (n : Nat) (x : SkimGrp) : (s.setSkimG n x).ptp = s.ptp := rfl
@[simp] theorem State.setSkimG_hst (s : State) (n : Nat) (x : SkimGrp) : (s.setSkimG n x).hst = s.hst := rfl
@[simp] theorem State.setSkimG_replay (s : State) (n : Nat) (x : SkimGrp) : (s.setSkimG n x).replay = s.replay := rfl
@[simp] theorem State.setSkimG_mem (s : State) (n : Nat) (x : SkimGrp) : (s.setSkimG n x).mem = s.mem := rfl
@[simp] theorem State.setSkimG_stpPorts (s : State) (n : Nat) (x : SkimGrp) : (s.setSkimG n x).stpPorts = s.stpPorts := rfl
@[simp] theorem State.setSkimG_stpPipe (s : State) (n : Nat) (x : SkimGrp) : (s.setSkimG n x).stpPipe = s.stpPipe := rfl
@[simp] theorem State.setSkimG_stpTiles (s : State) (n : Nat) (x : SkimGrp) : (s.setSkimG n x).stpTiles = s.stpTiles := rfl
@[simp] theorem State.setSkimG_stpTaped (s : State) (n : Nat) (x : SkimGrp) : (s.setSkimG n x).stpTaped = s.stpTaped := rfl
@[simp] theorem State.setSkimG_dmaChs (s : State) (n : Nat) (x : SkimGrp) : (s.setSkimG n x).dmaChs = s.dmaChs := rfl
@[simp] theorem State.setSkimG_ldr (s : State) (n : Nat) (x : SkimGrp) : (s.setSkimG n x).ldr = s.ldr := rfl
@[simp] theorem State.setSkimG_mram (s : State) (n : Nat) (x : SkimGrp) : (s.setSkimG n x).mram = s.mram := rfl
@[simp] theorem State.setSkimG_dram (s : State) (n : Nat) (x : SkimGrp) : (s.setSkimG n x).dram = s.dram := rfl
@[simp] theorem State.setSkimG_scratch (s : State) (n : Nat) (x : SkimGrp) : (s.setSkimG n x).scratch = s.scratch := rfl
@[simp] theorem State.setSkimG_hostload (s : State) (n : Nat) (x : SkimGrp) : (s.setSkimG n x).hostload = s.hostload := rfl
@[simp] theorem State.setSkimG_boot (s : State) (n : Nat) (x : SkimGrp) : (s.setSkimG n x).boot = s.boot := rfl
@[simp] theorem State.setSkimG_pins (s : State) (n : Nat) (x : SkimGrp) : (s.setSkimG n x).pins = s.pins := rfl
@[simp] theorem State.setSkimG_therm (s : State) (n : Nat) (x : SkimGrp) : (s.setSkimG n x).therm = s.therm := rfl
@[simp] theorem State.setSkimG_power (s : State) (n : Nat) (x : SkimGrp) : (s.setSkimG n x).power = s.power := rfl
@[simp] theorem State.setSkimG_fuses (s : State) (n : Nat) (x : SkimGrp) : (s.setSkimG n x).fuses = s.fuses := rfl
@[simp] theorem State.setSkimG_sec (s : State) (n : Nat) (x : SkimGrp) : (s.setSkimG n x).sec = s.sec := rfl
@[simp] theorem State.setSkimG_fw (s : State) (n : Nat) (x : SkimGrp) : (s.setSkimG n x).fw = s.fw := rfl
@[simp] theorem State.setSkimG_tst (s : State) (n : Nat) (x : SkimGrp) : (s.setSkimG n x).tst = s.tst := rfl
@[simp] theorem State.setSkimG_io (s : State) (n : Nat) (x : SkimGrp) : (s.setSkimG n x).io = s.io := rfl
@[simp] theorem State.setSkimG_answers (s : State) (n : Nat) (x : SkimGrp) : (s.setSkimG n x).answers = s.answers := rfl
@[simp] theorem State.setSkimG_pending (s : State) (n : Nat) (x : SkimGrp) : (s.setSkimG n x).pending = s.pending := rfl
@[simp] theorem State.setSkimG_rd (s : State) (n : Nat) (x : SkimGrp) (g : Fld) : (s.setSkimG n x).rd g = s.rd g := rfl
@[simp] theorem State.setSkimG_flag (s : State) (n : Nat) (x : SkimGrp) (g : Fld) : (s.setSkimG n x).flag g = s.flag g := rfl
@[simp] theorem State.setSkimG_ctr (s : State) (n : Nat) (x : SkimGrp) (g : Fld) : (s.setSkimG n x).ctr g = s.ctr g := rfl
@[simp] theorem State.setSkimG_laneOf (s : State) (n : Nat) (x : SkimGrp) (m : Nat) : (s.setSkimG n x).lane m = s.lane m := rfl
@[simp] theorem State.setSkimG_portOf (s : State) (n : Nat) (x : SkimGrp) (m : Nat) : (s.setSkimG n x).port m = s.port m := rfl
@[simp] theorem State.setSkimG_tgOf (s : State) (n : Nat) (x : SkimGrp) (m : Nat) : (s.setSkimG n x).tg m = s.tg m := rfl
@[simp] theorem State.setSkimG_hqOf (s : State) (n : Nat) (x : SkimGrp) (m : Nat) : (s.setSkimG n x).hq m = s.hq m := rfl
@[simp] theorem State.setSkimG_snagOf (s : State) (n : Nat) (x : SkimGrp) (m : Nat) : (s.setSkimG n x).snag m = s.snag m := rfl
@[simp] theorem State.setSkimG_unitOf (s : State) (n : Nat) (x : SkimGrp) (m : Nat) : (s.setSkimG n x).unit m = s.unit m := rfl
@[simp] theorem State.setSkimG_seamOf (s : State) (n : Nat) (x : SkimGrp) (m : Nat) : (s.setSkimG n x).seam m = s.seam m := rfl
@[simp] theorem State.setSkimG_rndOf (s : State) (n : Nat) (x : SkimGrp) (m : Nat) : (s.setSkimG n x).rnd m = s.rnd m := rfl
@[simp] theorem State.setSkimG_skimOf (s : State) (n : Nat) (x : SkimGrp) (m : Nat) : (s.setSkimG n x).skim m = s.skim m := rfl
@[simp] theorem State.setSkimG_stnOf (s : State) (n : Nat) (x : SkimGrp) (m : Nat) : (s.setSkimG n x).stn m = s.stn m := rfl
@[simp] theorem State.setSkimG_plbOf (s : State) (n : Nat) (x : SkimGrp) (m : Nat) : (s.setSkimG n x).plb m = s.plb m := rfl
@[simp] theorem State.setSkimG_uclOf (s : State) (n : Nat) (x : SkimGrp) (m : Nat) : (s.setSkimG n x).ucl m = s.ucl m := rfl
@[simp] theorem State.setSkimG_subOf (s : State) (n : Nat) (x : SkimGrp) (m : Nat) : (s.setSkimG n x).sub m = s.sub m := rfl
@[simp] theorem State.setSkimG_stpPortOf (s : State) (n : Nat) (x : SkimGrp) (m : Nat) : (s.setSkimG n x).stpPort m = s.stpPort m := rfl
@[simp] theorem State.setSkimG_dmaChOf (s : State) (n : Nat) (x : SkimGrp) (m : Nat) : (s.setSkimG n x).dmaCh m = s.dmaCh m := rfl
@[simp] theorem State.setSkimG_tstLaneOf (s : State) (n : Nat) (x : SkimGrp) (m : Nat) : (s.setSkimG n x).tstLane m = s.tstLane m := rfl
@[simp] theorem State.setSkimG_commitOf (s : State) (n : Nat) (x : SkimGrp) (m : Nat) : (s.setSkimG n x).commit m = s.commit m := rfl

/-! ### `State.setStn` -/

@[simp] theorem State.setStn_regs (s : State) (n : Nat) (x : Stn) : (s.setStn n x).regs = s.regs := rfl
@[simp] theorem State.setStn_cnt (s : State) (n : Nat) (x : Stn) : (s.setStn n x).cnt = s.cnt := rfl
@[simp] theorem State.setStn_snap (s : State) (n : Nat) (x : Stn) : (s.setStn n x).snap = s.snap := rfl
@[simp] theorem State.setStn_snapNext (s : State) (n : Nat) (x : Stn) : (s.setStn n x).snapNext = s.snapNext := rfl
@[simp] theorem State.setStn_draws (s : State) (n : Nat) (x : Stn) : (s.setStn n x).draws = s.draws := rfl
@[simp] theorem State.setStn_raised (s : State) (n : Nat) (x : Stn) : (s.setStn n x).raised = s.raised := rfl
@[simp] theorem State.setStn_ruleTaped (s : State) (n : Nat) (x : Stn) : (s.setStn n x).ruleTaped = s.ruleTaped := rfl
@[simp] theorem State.setStn_chalk (s : State) (n : Nat) (x : Stn) : (s.setStn n x).chalk = s.chalk := rfl
@[simp] theorem State.setStn_tgs (s : State) (n : Nat) (x : Stn) : (s.setStn n x).tgs = s.tgs := rfl
@[simp] theorem State.setStn_lanes (s : State) (n : Nat) (x : Stn) : (s.setStn n x).lanes = s.lanes := rfl
@[simp] theorem State.setStn_ports (s : State) (n : Nat) (x : Stn) : (s.setStn n x).ports = s.ports := rfl
@[simp] theorem State.setStn_hawk (s : State) (n : Nat) (x : Stn) : (s.setStn n x).hawk = s.hawk := rfl
@[simp] theorem State.setStn_snags (s : State) (n : Nat) (x : Stn) : (s.setStn n x).snags = s.snags := rfl
@[simp] theorem State.setStn_units (s : State) (n : Nat) (x : Stn) : (s.setStn n x).units = s.units := rfl
@[simp] theorem State.setStn_windows (s : State) (n : Nat) (x : Stn) : (s.setStn n x).windows = s.windows := rfl
@[simp] theorem State.setStn_commits (s : State) (n : Nat) (x : Stn) : (s.setStn n x).commits = s.commits := rfl
@[simp] theorem State.setStn_seams (s : State) (n : Nat) (x : Stn) : (s.setStn n x).seams = s.seams := rfl
@[simp] theorem State.setStn_rnds (s : State) (n : Nat) (x : Stn) : (s.setStn n x).rnds = s.rnds := rfl
@[simp] theorem State.setStn_skims (s : State) (n : Nat) (x : Stn) : (s.setStn n x).skims = s.skims := rfl
@[simp] theorem State.setStn_skimGs (s : State) (n : Nat) (x : Stn) : (s.setStn n x).skimGs = s.skimGs := rfl
@[simp] theorem State.setStn_plbs (s : State) (n : Nat) (x : Stn) : (s.setStn n x).plbs = s.plbs := rfl
@[simp] theorem State.setStn_ucls (s : State) (n : Nat) (x : Stn) : (s.setStn n x).ucls = s.ucls := rfl
@[simp] theorem State.setStn_subs (s : State) (n : Nat) (x : Stn) : (s.setStn n x).subs = s.subs := rfl
@[simp] theorem State.setStn_ptp (s : State) (n : Nat) (x : Stn) : (s.setStn n x).ptp = s.ptp := rfl
@[simp] theorem State.setStn_hst (s : State) (n : Nat) (x : Stn) : (s.setStn n x).hst = s.hst := rfl
@[simp] theorem State.setStn_replay (s : State) (n : Nat) (x : Stn) : (s.setStn n x).replay = s.replay := rfl
@[simp] theorem State.setStn_mem (s : State) (n : Nat) (x : Stn) : (s.setStn n x).mem = s.mem := rfl
@[simp] theorem State.setStn_stpPorts (s : State) (n : Nat) (x : Stn) : (s.setStn n x).stpPorts = s.stpPorts := rfl
@[simp] theorem State.setStn_stpPipe (s : State) (n : Nat) (x : Stn) : (s.setStn n x).stpPipe = s.stpPipe := rfl
@[simp] theorem State.setStn_stpTiles (s : State) (n : Nat) (x : Stn) : (s.setStn n x).stpTiles = s.stpTiles := rfl
@[simp] theorem State.setStn_stpTaped (s : State) (n : Nat) (x : Stn) : (s.setStn n x).stpTaped = s.stpTaped := rfl
@[simp] theorem State.setStn_dmaChs (s : State) (n : Nat) (x : Stn) : (s.setStn n x).dmaChs = s.dmaChs := rfl
@[simp] theorem State.setStn_ldr (s : State) (n : Nat) (x : Stn) : (s.setStn n x).ldr = s.ldr := rfl
@[simp] theorem State.setStn_mram (s : State) (n : Nat) (x : Stn) : (s.setStn n x).mram = s.mram := rfl
@[simp] theorem State.setStn_dram (s : State) (n : Nat) (x : Stn) : (s.setStn n x).dram = s.dram := rfl
@[simp] theorem State.setStn_scratch (s : State) (n : Nat) (x : Stn) : (s.setStn n x).scratch = s.scratch := rfl
@[simp] theorem State.setStn_hostload (s : State) (n : Nat) (x : Stn) : (s.setStn n x).hostload = s.hostload := rfl
@[simp] theorem State.setStn_boot (s : State) (n : Nat) (x : Stn) : (s.setStn n x).boot = s.boot := rfl
@[simp] theorem State.setStn_pins (s : State) (n : Nat) (x : Stn) : (s.setStn n x).pins = s.pins := rfl
@[simp] theorem State.setStn_therm (s : State) (n : Nat) (x : Stn) : (s.setStn n x).therm = s.therm := rfl
@[simp] theorem State.setStn_power (s : State) (n : Nat) (x : Stn) : (s.setStn n x).power = s.power := rfl
@[simp] theorem State.setStn_fuses (s : State) (n : Nat) (x : Stn) : (s.setStn n x).fuses = s.fuses := rfl
@[simp] theorem State.setStn_sec (s : State) (n : Nat) (x : Stn) : (s.setStn n x).sec = s.sec := rfl
@[simp] theorem State.setStn_fw (s : State) (n : Nat) (x : Stn) : (s.setStn n x).fw = s.fw := rfl
@[simp] theorem State.setStn_tst (s : State) (n : Nat) (x : Stn) : (s.setStn n x).tst = s.tst := rfl
@[simp] theorem State.setStn_io (s : State) (n : Nat) (x : Stn) : (s.setStn n x).io = s.io := rfl
@[simp] theorem State.setStn_answers (s : State) (n : Nat) (x : Stn) : (s.setStn n x).answers = s.answers := rfl
@[simp] theorem State.setStn_pending (s : State) (n : Nat) (x : Stn) : (s.setStn n x).pending = s.pending := rfl
@[simp] theorem State.setStn_rd (s : State) (n : Nat) (x : Stn) (g : Fld) : (s.setStn n x).rd g = s.rd g := rfl
@[simp] theorem State.setStn_flag (s : State) (n : Nat) (x : Stn) (g : Fld) : (s.setStn n x).flag g = s.flag g := rfl
@[simp] theorem State.setStn_ctr (s : State) (n : Nat) (x : Stn) (g : Fld) : (s.setStn n x).ctr g = s.ctr g := rfl
@[simp] theorem State.setStn_laneOf (s : State) (n : Nat) (x : Stn) (m : Nat) : (s.setStn n x).lane m = s.lane m := rfl
@[simp] theorem State.setStn_portOf (s : State) (n : Nat) (x : Stn) (m : Nat) : (s.setStn n x).port m = s.port m := rfl
@[simp] theorem State.setStn_tgOf (s : State) (n : Nat) (x : Stn) (m : Nat) : (s.setStn n x).tg m = s.tg m := rfl
@[simp] theorem State.setStn_hqOf (s : State) (n : Nat) (x : Stn) (m : Nat) : (s.setStn n x).hq m = s.hq m := rfl
@[simp] theorem State.setStn_snagOf (s : State) (n : Nat) (x : Stn) (m : Nat) : (s.setStn n x).snag m = s.snag m := rfl
@[simp] theorem State.setStn_unitOf (s : State) (n : Nat) (x : Stn) (m : Nat) : (s.setStn n x).unit m = s.unit m := rfl
@[simp] theorem State.setStn_seamOf (s : State) (n : Nat) (x : Stn) (m : Nat) : (s.setStn n x).seam m = s.seam m := rfl
@[simp] theorem State.setStn_rndOf (s : State) (n : Nat) (x : Stn) (m : Nat) : (s.setStn n x).rnd m = s.rnd m := rfl
@[simp] theorem State.setStn_skimOf (s : State) (n : Nat) (x : Stn) (m : Nat) : (s.setStn n x).skim m = s.skim m := rfl
@[simp] theorem State.setStn_skimGOf (s : State) (n : Nat) (x : Stn) (m : Nat) : (s.setStn n x).skimG m = s.skimG m := rfl
@[simp] theorem State.setStn_plbOf (s : State) (n : Nat) (x : Stn) (m : Nat) : (s.setStn n x).plb m = s.plb m := rfl
@[simp] theorem State.setStn_uclOf (s : State) (n : Nat) (x : Stn) (m : Nat) : (s.setStn n x).ucl m = s.ucl m := rfl
@[simp] theorem State.setStn_subOf (s : State) (n : Nat) (x : Stn) (m : Nat) : (s.setStn n x).sub m = s.sub m := rfl
@[simp] theorem State.setStn_stpPortOf (s : State) (n : Nat) (x : Stn) (m : Nat) : (s.setStn n x).stpPort m = s.stpPort m := rfl
@[simp] theorem State.setStn_dmaChOf (s : State) (n : Nat) (x : Stn) (m : Nat) : (s.setStn n x).dmaCh m = s.dmaCh m := rfl
@[simp] theorem State.setStn_tstLaneOf (s : State) (n : Nat) (x : Stn) (m : Nat) : (s.setStn n x).tstLane m = s.tstLane m := rfl
@[simp] theorem State.setStn_commitOf (s : State) (n : Nat) (x : Stn) (m : Nat) : (s.setStn n x).commit m = s.commit m := rfl

/-! ### `State.setPlb` -/

@[simp] theorem State.setPlb_regs (s : State) (n : Nat) (x : Plb) : (s.setPlb n x).regs = s.regs := rfl
@[simp] theorem State.setPlb_cnt (s : State) (n : Nat) (x : Plb) : (s.setPlb n x).cnt = s.cnt := rfl
@[simp] theorem State.setPlb_snap (s : State) (n : Nat) (x : Plb) : (s.setPlb n x).snap = s.snap := rfl
@[simp] theorem State.setPlb_snapNext (s : State) (n : Nat) (x : Plb) : (s.setPlb n x).snapNext = s.snapNext := rfl
@[simp] theorem State.setPlb_draws (s : State) (n : Nat) (x : Plb) : (s.setPlb n x).draws = s.draws := rfl
@[simp] theorem State.setPlb_raised (s : State) (n : Nat) (x : Plb) : (s.setPlb n x).raised = s.raised := rfl
@[simp] theorem State.setPlb_ruleTaped (s : State) (n : Nat) (x : Plb) : (s.setPlb n x).ruleTaped = s.ruleTaped := rfl
@[simp] theorem State.setPlb_chalk (s : State) (n : Nat) (x : Plb) : (s.setPlb n x).chalk = s.chalk := rfl
@[simp] theorem State.setPlb_tgs (s : State) (n : Nat) (x : Plb) : (s.setPlb n x).tgs = s.tgs := rfl
@[simp] theorem State.setPlb_lanes (s : State) (n : Nat) (x : Plb) : (s.setPlb n x).lanes = s.lanes := rfl
@[simp] theorem State.setPlb_ports (s : State) (n : Nat) (x : Plb) : (s.setPlb n x).ports = s.ports := rfl
@[simp] theorem State.setPlb_hawk (s : State) (n : Nat) (x : Plb) : (s.setPlb n x).hawk = s.hawk := rfl
@[simp] theorem State.setPlb_snags (s : State) (n : Nat) (x : Plb) : (s.setPlb n x).snags = s.snags := rfl
@[simp] theorem State.setPlb_units (s : State) (n : Nat) (x : Plb) : (s.setPlb n x).units = s.units := rfl
@[simp] theorem State.setPlb_windows (s : State) (n : Nat) (x : Plb) : (s.setPlb n x).windows = s.windows := rfl
@[simp] theorem State.setPlb_commits (s : State) (n : Nat) (x : Plb) : (s.setPlb n x).commits = s.commits := rfl
@[simp] theorem State.setPlb_seams (s : State) (n : Nat) (x : Plb) : (s.setPlb n x).seams = s.seams := rfl
@[simp] theorem State.setPlb_rnds (s : State) (n : Nat) (x : Plb) : (s.setPlb n x).rnds = s.rnds := rfl
@[simp] theorem State.setPlb_skims (s : State) (n : Nat) (x : Plb) : (s.setPlb n x).skims = s.skims := rfl
@[simp] theorem State.setPlb_skimGs (s : State) (n : Nat) (x : Plb) : (s.setPlb n x).skimGs = s.skimGs := rfl
@[simp] theorem State.setPlb_stns (s : State) (n : Nat) (x : Plb) : (s.setPlb n x).stns = s.stns := rfl
@[simp] theorem State.setPlb_ucls (s : State) (n : Nat) (x : Plb) : (s.setPlb n x).ucls = s.ucls := rfl
@[simp] theorem State.setPlb_subs (s : State) (n : Nat) (x : Plb) : (s.setPlb n x).subs = s.subs := rfl
@[simp] theorem State.setPlb_ptp (s : State) (n : Nat) (x : Plb) : (s.setPlb n x).ptp = s.ptp := rfl
@[simp] theorem State.setPlb_hst (s : State) (n : Nat) (x : Plb) : (s.setPlb n x).hst = s.hst := rfl
@[simp] theorem State.setPlb_replay (s : State) (n : Nat) (x : Plb) : (s.setPlb n x).replay = s.replay := rfl
@[simp] theorem State.setPlb_mem (s : State) (n : Nat) (x : Plb) : (s.setPlb n x).mem = s.mem := rfl
@[simp] theorem State.setPlb_stpPorts (s : State) (n : Nat) (x : Plb) : (s.setPlb n x).stpPorts = s.stpPorts := rfl
@[simp] theorem State.setPlb_stpPipe (s : State) (n : Nat) (x : Plb) : (s.setPlb n x).stpPipe = s.stpPipe := rfl
@[simp] theorem State.setPlb_stpTiles (s : State) (n : Nat) (x : Plb) : (s.setPlb n x).stpTiles = s.stpTiles := rfl
@[simp] theorem State.setPlb_stpTaped (s : State) (n : Nat) (x : Plb) : (s.setPlb n x).stpTaped = s.stpTaped := rfl
@[simp] theorem State.setPlb_dmaChs (s : State) (n : Nat) (x : Plb) : (s.setPlb n x).dmaChs = s.dmaChs := rfl
@[simp] theorem State.setPlb_ldr (s : State) (n : Nat) (x : Plb) : (s.setPlb n x).ldr = s.ldr := rfl
@[simp] theorem State.setPlb_mram (s : State) (n : Nat) (x : Plb) : (s.setPlb n x).mram = s.mram := rfl
@[simp] theorem State.setPlb_dram (s : State) (n : Nat) (x : Plb) : (s.setPlb n x).dram = s.dram := rfl
@[simp] theorem State.setPlb_scratch (s : State) (n : Nat) (x : Plb) : (s.setPlb n x).scratch = s.scratch := rfl
@[simp] theorem State.setPlb_hostload (s : State) (n : Nat) (x : Plb) : (s.setPlb n x).hostload = s.hostload := rfl
@[simp] theorem State.setPlb_boot (s : State) (n : Nat) (x : Plb) : (s.setPlb n x).boot = s.boot := rfl
@[simp] theorem State.setPlb_pins (s : State) (n : Nat) (x : Plb) : (s.setPlb n x).pins = s.pins := rfl
@[simp] theorem State.setPlb_therm (s : State) (n : Nat) (x : Plb) : (s.setPlb n x).therm = s.therm := rfl
@[simp] theorem State.setPlb_power (s : State) (n : Nat) (x : Plb) : (s.setPlb n x).power = s.power := rfl
@[simp] theorem State.setPlb_fuses (s : State) (n : Nat) (x : Plb) : (s.setPlb n x).fuses = s.fuses := rfl
@[simp] theorem State.setPlb_sec (s : State) (n : Nat) (x : Plb) : (s.setPlb n x).sec = s.sec := rfl
@[simp] theorem State.setPlb_fw (s : State) (n : Nat) (x : Plb) : (s.setPlb n x).fw = s.fw := rfl
@[simp] theorem State.setPlb_tst (s : State) (n : Nat) (x : Plb) : (s.setPlb n x).tst = s.tst := rfl
@[simp] theorem State.setPlb_io (s : State) (n : Nat) (x : Plb) : (s.setPlb n x).io = s.io := rfl
@[simp] theorem State.setPlb_answers (s : State) (n : Nat) (x : Plb) : (s.setPlb n x).answers = s.answers := rfl
@[simp] theorem State.setPlb_pending (s : State) (n : Nat) (x : Plb) : (s.setPlb n x).pending = s.pending := rfl
@[simp] theorem State.setPlb_rd (s : State) (n : Nat) (x : Plb) (g : Fld) : (s.setPlb n x).rd g = s.rd g := rfl
@[simp] theorem State.setPlb_flag (s : State) (n : Nat) (x : Plb) (g : Fld) : (s.setPlb n x).flag g = s.flag g := rfl
@[simp] theorem State.setPlb_ctr (s : State) (n : Nat) (x : Plb) (g : Fld) : (s.setPlb n x).ctr g = s.ctr g := rfl
@[simp] theorem State.setPlb_laneOf (s : State) (n : Nat) (x : Plb) (m : Nat) : (s.setPlb n x).lane m = s.lane m := rfl
@[simp] theorem State.setPlb_portOf (s : State) (n : Nat) (x : Plb) (m : Nat) : (s.setPlb n x).port m = s.port m := rfl
@[simp] theorem State.setPlb_tgOf (s : State) (n : Nat) (x : Plb) (m : Nat) : (s.setPlb n x).tg m = s.tg m := rfl
@[simp] theorem State.setPlb_hqOf (s : State) (n : Nat) (x : Plb) (m : Nat) : (s.setPlb n x).hq m = s.hq m := rfl
@[simp] theorem State.setPlb_snagOf (s : State) (n : Nat) (x : Plb) (m : Nat) : (s.setPlb n x).snag m = s.snag m := rfl
@[simp] theorem State.setPlb_unitOf (s : State) (n : Nat) (x : Plb) (m : Nat) : (s.setPlb n x).unit m = s.unit m := rfl
@[simp] theorem State.setPlb_seamOf (s : State) (n : Nat) (x : Plb) (m : Nat) : (s.setPlb n x).seam m = s.seam m := rfl
@[simp] theorem State.setPlb_rndOf (s : State) (n : Nat) (x : Plb) (m : Nat) : (s.setPlb n x).rnd m = s.rnd m := rfl
@[simp] theorem State.setPlb_skimOf (s : State) (n : Nat) (x : Plb) (m : Nat) : (s.setPlb n x).skim m = s.skim m := rfl
@[simp] theorem State.setPlb_skimGOf (s : State) (n : Nat) (x : Plb) (m : Nat) : (s.setPlb n x).skimG m = s.skimG m := rfl
@[simp] theorem State.setPlb_stnOf (s : State) (n : Nat) (x : Plb) (m : Nat) : (s.setPlb n x).stn m = s.stn m := rfl
@[simp] theorem State.setPlb_uclOf (s : State) (n : Nat) (x : Plb) (m : Nat) : (s.setPlb n x).ucl m = s.ucl m := rfl
@[simp] theorem State.setPlb_subOf (s : State) (n : Nat) (x : Plb) (m : Nat) : (s.setPlb n x).sub m = s.sub m := rfl
@[simp] theorem State.setPlb_stpPortOf (s : State) (n : Nat) (x : Plb) (m : Nat) : (s.setPlb n x).stpPort m = s.stpPort m := rfl
@[simp] theorem State.setPlb_dmaChOf (s : State) (n : Nat) (x : Plb) (m : Nat) : (s.setPlb n x).dmaCh m = s.dmaCh m := rfl
@[simp] theorem State.setPlb_tstLaneOf (s : State) (n : Nat) (x : Plb) (m : Nat) : (s.setPlb n x).tstLane m = s.tstLane m := rfl
@[simp] theorem State.setPlb_commitOf (s : State) (n : Nat) (x : Plb) (m : Nat) : (s.setPlb n x).commit m = s.commit m := rfl

/-! ### `State.setUcl` -/

@[simp] theorem State.setUcl_regs (s : State) (n : Nat) (x : UClass) : (s.setUcl n x).regs = s.regs := rfl
@[simp] theorem State.setUcl_cnt (s : State) (n : Nat) (x : UClass) : (s.setUcl n x).cnt = s.cnt := rfl
@[simp] theorem State.setUcl_snap (s : State) (n : Nat) (x : UClass) : (s.setUcl n x).snap = s.snap := rfl
@[simp] theorem State.setUcl_snapNext (s : State) (n : Nat) (x : UClass) : (s.setUcl n x).snapNext = s.snapNext := rfl
@[simp] theorem State.setUcl_draws (s : State) (n : Nat) (x : UClass) : (s.setUcl n x).draws = s.draws := rfl
@[simp] theorem State.setUcl_raised (s : State) (n : Nat) (x : UClass) : (s.setUcl n x).raised = s.raised := rfl
@[simp] theorem State.setUcl_ruleTaped (s : State) (n : Nat) (x : UClass) : (s.setUcl n x).ruleTaped = s.ruleTaped := rfl
@[simp] theorem State.setUcl_chalk (s : State) (n : Nat) (x : UClass) : (s.setUcl n x).chalk = s.chalk := rfl
@[simp] theorem State.setUcl_tgs (s : State) (n : Nat) (x : UClass) : (s.setUcl n x).tgs = s.tgs := rfl
@[simp] theorem State.setUcl_lanes (s : State) (n : Nat) (x : UClass) : (s.setUcl n x).lanes = s.lanes := rfl
@[simp] theorem State.setUcl_ports (s : State) (n : Nat) (x : UClass) : (s.setUcl n x).ports = s.ports := rfl
@[simp] theorem State.setUcl_hawk (s : State) (n : Nat) (x : UClass) : (s.setUcl n x).hawk = s.hawk := rfl
@[simp] theorem State.setUcl_snags (s : State) (n : Nat) (x : UClass) : (s.setUcl n x).snags = s.snags := rfl
@[simp] theorem State.setUcl_units (s : State) (n : Nat) (x : UClass) : (s.setUcl n x).units = s.units := rfl
@[simp] theorem State.setUcl_windows (s : State) (n : Nat) (x : UClass) : (s.setUcl n x).windows = s.windows := rfl
@[simp] theorem State.setUcl_commits (s : State) (n : Nat) (x : UClass) : (s.setUcl n x).commits = s.commits := rfl
@[simp] theorem State.setUcl_seams (s : State) (n : Nat) (x : UClass) : (s.setUcl n x).seams = s.seams := rfl
@[simp] theorem State.setUcl_rnds (s : State) (n : Nat) (x : UClass) : (s.setUcl n x).rnds = s.rnds := rfl
@[simp] theorem State.setUcl_skims (s : State) (n : Nat) (x : UClass) : (s.setUcl n x).skims = s.skims := rfl
@[simp] theorem State.setUcl_skimGs (s : State) (n : Nat) (x : UClass) : (s.setUcl n x).skimGs = s.skimGs := rfl
@[simp] theorem State.setUcl_stns (s : State) (n : Nat) (x : UClass) : (s.setUcl n x).stns = s.stns := rfl
@[simp] theorem State.setUcl_plbs (s : State) (n : Nat) (x : UClass) : (s.setUcl n x).plbs = s.plbs := rfl
@[simp] theorem State.setUcl_subs (s : State) (n : Nat) (x : UClass) : (s.setUcl n x).subs = s.subs := rfl
@[simp] theorem State.setUcl_ptp (s : State) (n : Nat) (x : UClass) : (s.setUcl n x).ptp = s.ptp := rfl
@[simp] theorem State.setUcl_hst (s : State) (n : Nat) (x : UClass) : (s.setUcl n x).hst = s.hst := rfl
@[simp] theorem State.setUcl_replay (s : State) (n : Nat) (x : UClass) : (s.setUcl n x).replay = s.replay := rfl
@[simp] theorem State.setUcl_mem (s : State) (n : Nat) (x : UClass) : (s.setUcl n x).mem = s.mem := rfl
@[simp] theorem State.setUcl_stpPorts (s : State) (n : Nat) (x : UClass) : (s.setUcl n x).stpPorts = s.stpPorts := rfl
@[simp] theorem State.setUcl_stpPipe (s : State) (n : Nat) (x : UClass) : (s.setUcl n x).stpPipe = s.stpPipe := rfl
@[simp] theorem State.setUcl_stpTiles (s : State) (n : Nat) (x : UClass) : (s.setUcl n x).stpTiles = s.stpTiles := rfl
@[simp] theorem State.setUcl_stpTaped (s : State) (n : Nat) (x : UClass) : (s.setUcl n x).stpTaped = s.stpTaped := rfl
@[simp] theorem State.setUcl_dmaChs (s : State) (n : Nat) (x : UClass) : (s.setUcl n x).dmaChs = s.dmaChs := rfl
@[simp] theorem State.setUcl_ldr (s : State) (n : Nat) (x : UClass) : (s.setUcl n x).ldr = s.ldr := rfl
@[simp] theorem State.setUcl_mram (s : State) (n : Nat) (x : UClass) : (s.setUcl n x).mram = s.mram := rfl
@[simp] theorem State.setUcl_dram (s : State) (n : Nat) (x : UClass) : (s.setUcl n x).dram = s.dram := rfl
@[simp] theorem State.setUcl_scratch (s : State) (n : Nat) (x : UClass) : (s.setUcl n x).scratch = s.scratch := rfl
@[simp] theorem State.setUcl_hostload (s : State) (n : Nat) (x : UClass) : (s.setUcl n x).hostload = s.hostload := rfl
@[simp] theorem State.setUcl_boot (s : State) (n : Nat) (x : UClass) : (s.setUcl n x).boot = s.boot := rfl
@[simp] theorem State.setUcl_pins (s : State) (n : Nat) (x : UClass) : (s.setUcl n x).pins = s.pins := rfl
@[simp] theorem State.setUcl_therm (s : State) (n : Nat) (x : UClass) : (s.setUcl n x).therm = s.therm := rfl
@[simp] theorem State.setUcl_power (s : State) (n : Nat) (x : UClass) : (s.setUcl n x).power = s.power := rfl
@[simp] theorem State.setUcl_fuses (s : State) (n : Nat) (x : UClass) : (s.setUcl n x).fuses = s.fuses := rfl
@[simp] theorem State.setUcl_sec (s : State) (n : Nat) (x : UClass) : (s.setUcl n x).sec = s.sec := rfl
@[simp] theorem State.setUcl_fw (s : State) (n : Nat) (x : UClass) : (s.setUcl n x).fw = s.fw := rfl
@[simp] theorem State.setUcl_tst (s : State) (n : Nat) (x : UClass) : (s.setUcl n x).tst = s.tst := rfl
@[simp] theorem State.setUcl_io (s : State) (n : Nat) (x : UClass) : (s.setUcl n x).io = s.io := rfl
@[simp] theorem State.setUcl_answers (s : State) (n : Nat) (x : UClass) : (s.setUcl n x).answers = s.answers := rfl
@[simp] theorem State.setUcl_pending (s : State) (n : Nat) (x : UClass) : (s.setUcl n x).pending = s.pending := rfl
@[simp] theorem State.setUcl_rd (s : State) (n : Nat) (x : UClass) (g : Fld) : (s.setUcl n x).rd g = s.rd g := rfl
@[simp] theorem State.setUcl_flag (s : State) (n : Nat) (x : UClass) (g : Fld) : (s.setUcl n x).flag g = s.flag g := rfl
@[simp] theorem State.setUcl_ctr (s : State) (n : Nat) (x : UClass) (g : Fld) : (s.setUcl n x).ctr g = s.ctr g := rfl
@[simp] theorem State.setUcl_laneOf (s : State) (n : Nat) (x : UClass) (m : Nat) : (s.setUcl n x).lane m = s.lane m := rfl
@[simp] theorem State.setUcl_portOf (s : State) (n : Nat) (x : UClass) (m : Nat) : (s.setUcl n x).port m = s.port m := rfl
@[simp] theorem State.setUcl_tgOf (s : State) (n : Nat) (x : UClass) (m : Nat) : (s.setUcl n x).tg m = s.tg m := rfl
@[simp] theorem State.setUcl_hqOf (s : State) (n : Nat) (x : UClass) (m : Nat) : (s.setUcl n x).hq m = s.hq m := rfl
@[simp] theorem State.setUcl_snagOf (s : State) (n : Nat) (x : UClass) (m : Nat) : (s.setUcl n x).snag m = s.snag m := rfl
@[simp] theorem State.setUcl_unitOf (s : State) (n : Nat) (x : UClass) (m : Nat) : (s.setUcl n x).unit m = s.unit m := rfl
@[simp] theorem State.setUcl_seamOf (s : State) (n : Nat) (x : UClass) (m : Nat) : (s.setUcl n x).seam m = s.seam m := rfl
@[simp] theorem State.setUcl_rndOf (s : State) (n : Nat) (x : UClass) (m : Nat) : (s.setUcl n x).rnd m = s.rnd m := rfl
@[simp] theorem State.setUcl_skimOf (s : State) (n : Nat) (x : UClass) (m : Nat) : (s.setUcl n x).skim m = s.skim m := rfl
@[simp] theorem State.setUcl_skimGOf (s : State) (n : Nat) (x : UClass) (m : Nat) : (s.setUcl n x).skimG m = s.skimG m := rfl
@[simp] theorem State.setUcl_stnOf (s : State) (n : Nat) (x : UClass) (m : Nat) : (s.setUcl n x).stn m = s.stn m := rfl
@[simp] theorem State.setUcl_plbOf (s : State) (n : Nat) (x : UClass) (m : Nat) : (s.setUcl n x).plb m = s.plb m := rfl
@[simp] theorem State.setUcl_subOf (s : State) (n : Nat) (x : UClass) (m : Nat) : (s.setUcl n x).sub m = s.sub m := rfl
@[simp] theorem State.setUcl_stpPortOf (s : State) (n : Nat) (x : UClass) (m : Nat) : (s.setUcl n x).stpPort m = s.stpPort m := rfl
@[simp] theorem State.setUcl_dmaChOf (s : State) (n : Nat) (x : UClass) (m : Nat) : (s.setUcl n x).dmaCh m = s.dmaCh m := rfl
@[simp] theorem State.setUcl_tstLaneOf (s : State) (n : Nat) (x : UClass) (m : Nat) : (s.setUcl n x).tstLane m = s.tstLane m := rfl
@[simp] theorem State.setUcl_commitOf (s : State) (n : Nat) (x : UClass) (m : Nat) : (s.setUcl n x).commit m = s.commit m := rfl

/-! ### `State.setSub` -/

@[simp] theorem State.setSub_regs (s : State) (n : Nat) (x : SubPort) : (s.setSub n x).regs = s.regs := rfl
@[simp] theorem State.setSub_cnt (s : State) (n : Nat) (x : SubPort) : (s.setSub n x).cnt = s.cnt := rfl
@[simp] theorem State.setSub_snap (s : State) (n : Nat) (x : SubPort) : (s.setSub n x).snap = s.snap := rfl
@[simp] theorem State.setSub_snapNext (s : State) (n : Nat) (x : SubPort) : (s.setSub n x).snapNext = s.snapNext := rfl
@[simp] theorem State.setSub_draws (s : State) (n : Nat) (x : SubPort) : (s.setSub n x).draws = s.draws := rfl
@[simp] theorem State.setSub_raised (s : State) (n : Nat) (x : SubPort) : (s.setSub n x).raised = s.raised := rfl
@[simp] theorem State.setSub_ruleTaped (s : State) (n : Nat) (x : SubPort) : (s.setSub n x).ruleTaped = s.ruleTaped := rfl
@[simp] theorem State.setSub_chalk (s : State) (n : Nat) (x : SubPort) : (s.setSub n x).chalk = s.chalk := rfl
@[simp] theorem State.setSub_tgs (s : State) (n : Nat) (x : SubPort) : (s.setSub n x).tgs = s.tgs := rfl
@[simp] theorem State.setSub_lanes (s : State) (n : Nat) (x : SubPort) : (s.setSub n x).lanes = s.lanes := rfl
@[simp] theorem State.setSub_ports (s : State) (n : Nat) (x : SubPort) : (s.setSub n x).ports = s.ports := rfl
@[simp] theorem State.setSub_hawk (s : State) (n : Nat) (x : SubPort) : (s.setSub n x).hawk = s.hawk := rfl
@[simp] theorem State.setSub_snags (s : State) (n : Nat) (x : SubPort) : (s.setSub n x).snags = s.snags := rfl
@[simp] theorem State.setSub_units (s : State) (n : Nat) (x : SubPort) : (s.setSub n x).units = s.units := rfl
@[simp] theorem State.setSub_windows (s : State) (n : Nat) (x : SubPort) : (s.setSub n x).windows = s.windows := rfl
@[simp] theorem State.setSub_commits (s : State) (n : Nat) (x : SubPort) : (s.setSub n x).commits = s.commits := rfl
@[simp] theorem State.setSub_seams (s : State) (n : Nat) (x : SubPort) : (s.setSub n x).seams = s.seams := rfl
@[simp] theorem State.setSub_rnds (s : State) (n : Nat) (x : SubPort) : (s.setSub n x).rnds = s.rnds := rfl
@[simp] theorem State.setSub_skims (s : State) (n : Nat) (x : SubPort) : (s.setSub n x).skims = s.skims := rfl
@[simp] theorem State.setSub_skimGs (s : State) (n : Nat) (x : SubPort) : (s.setSub n x).skimGs = s.skimGs := rfl
@[simp] theorem State.setSub_stns (s : State) (n : Nat) (x : SubPort) : (s.setSub n x).stns = s.stns := rfl
@[simp] theorem State.setSub_plbs (s : State) (n : Nat) (x : SubPort) : (s.setSub n x).plbs = s.plbs := rfl
@[simp] theorem State.setSub_ucls (s : State) (n : Nat) (x : SubPort) : (s.setSub n x).ucls = s.ucls := rfl
@[simp] theorem State.setSub_ptp (s : State) (n : Nat) (x : SubPort) : (s.setSub n x).ptp = s.ptp := rfl
@[simp] theorem State.setSub_hst (s : State) (n : Nat) (x : SubPort) : (s.setSub n x).hst = s.hst := rfl
@[simp] theorem State.setSub_replay (s : State) (n : Nat) (x : SubPort) : (s.setSub n x).replay = s.replay := rfl
@[simp] theorem State.setSub_mem (s : State) (n : Nat) (x : SubPort) : (s.setSub n x).mem = s.mem := rfl
@[simp] theorem State.setSub_stpPorts (s : State) (n : Nat) (x : SubPort) : (s.setSub n x).stpPorts = s.stpPorts := rfl
@[simp] theorem State.setSub_stpPipe (s : State) (n : Nat) (x : SubPort) : (s.setSub n x).stpPipe = s.stpPipe := rfl
@[simp] theorem State.setSub_stpTiles (s : State) (n : Nat) (x : SubPort) : (s.setSub n x).stpTiles = s.stpTiles := rfl
@[simp] theorem State.setSub_stpTaped (s : State) (n : Nat) (x : SubPort) : (s.setSub n x).stpTaped = s.stpTaped := rfl
@[simp] theorem State.setSub_dmaChs (s : State) (n : Nat) (x : SubPort) : (s.setSub n x).dmaChs = s.dmaChs := rfl
@[simp] theorem State.setSub_ldr (s : State) (n : Nat) (x : SubPort) : (s.setSub n x).ldr = s.ldr := rfl
@[simp] theorem State.setSub_mram (s : State) (n : Nat) (x : SubPort) : (s.setSub n x).mram = s.mram := rfl
@[simp] theorem State.setSub_dram (s : State) (n : Nat) (x : SubPort) : (s.setSub n x).dram = s.dram := rfl
@[simp] theorem State.setSub_scratch (s : State) (n : Nat) (x : SubPort) : (s.setSub n x).scratch = s.scratch := rfl
@[simp] theorem State.setSub_hostload (s : State) (n : Nat) (x : SubPort) : (s.setSub n x).hostload = s.hostload := rfl
@[simp] theorem State.setSub_boot (s : State) (n : Nat) (x : SubPort) : (s.setSub n x).boot = s.boot := rfl
@[simp] theorem State.setSub_pins (s : State) (n : Nat) (x : SubPort) : (s.setSub n x).pins = s.pins := rfl
@[simp] theorem State.setSub_therm (s : State) (n : Nat) (x : SubPort) : (s.setSub n x).therm = s.therm := rfl
@[simp] theorem State.setSub_power (s : State) (n : Nat) (x : SubPort) : (s.setSub n x).power = s.power := rfl
@[simp] theorem State.setSub_fuses (s : State) (n : Nat) (x : SubPort) : (s.setSub n x).fuses = s.fuses := rfl
@[simp] theorem State.setSub_sec (s : State) (n : Nat) (x : SubPort) : (s.setSub n x).sec = s.sec := rfl
@[simp] theorem State.setSub_fw (s : State) (n : Nat) (x : SubPort) : (s.setSub n x).fw = s.fw := rfl
@[simp] theorem State.setSub_tst (s : State) (n : Nat) (x : SubPort) : (s.setSub n x).tst = s.tst := rfl
@[simp] theorem State.setSub_io (s : State) (n : Nat) (x : SubPort) : (s.setSub n x).io = s.io := rfl
@[simp] theorem State.setSub_answers (s : State) (n : Nat) (x : SubPort) : (s.setSub n x).answers = s.answers := rfl
@[simp] theorem State.setSub_pending (s : State) (n : Nat) (x : SubPort) : (s.setSub n x).pending = s.pending := rfl
@[simp] theorem State.setSub_rd (s : State) (n : Nat) (x : SubPort) (g : Fld) : (s.setSub n x).rd g = s.rd g := rfl
@[simp] theorem State.setSub_flag (s : State) (n : Nat) (x : SubPort) (g : Fld) : (s.setSub n x).flag g = s.flag g := rfl
@[simp] theorem State.setSub_ctr (s : State) (n : Nat) (x : SubPort) (g : Fld) : (s.setSub n x).ctr g = s.ctr g := rfl
@[simp] theorem State.setSub_laneOf (s : State) (n : Nat) (x : SubPort) (m : Nat) : (s.setSub n x).lane m = s.lane m := rfl
@[simp] theorem State.setSub_portOf (s : State) (n : Nat) (x : SubPort) (m : Nat) : (s.setSub n x).port m = s.port m := rfl
@[simp] theorem State.setSub_tgOf (s : State) (n : Nat) (x : SubPort) (m : Nat) : (s.setSub n x).tg m = s.tg m := rfl
@[simp] theorem State.setSub_hqOf (s : State) (n : Nat) (x : SubPort) (m : Nat) : (s.setSub n x).hq m = s.hq m := rfl
@[simp] theorem State.setSub_snagOf (s : State) (n : Nat) (x : SubPort) (m : Nat) : (s.setSub n x).snag m = s.snag m := rfl
@[simp] theorem State.setSub_unitOf (s : State) (n : Nat) (x : SubPort) (m : Nat) : (s.setSub n x).unit m = s.unit m := rfl
@[simp] theorem State.setSub_seamOf (s : State) (n : Nat) (x : SubPort) (m : Nat) : (s.setSub n x).seam m = s.seam m := rfl
@[simp] theorem State.setSub_rndOf (s : State) (n : Nat) (x : SubPort) (m : Nat) : (s.setSub n x).rnd m = s.rnd m := rfl
@[simp] theorem State.setSub_skimOf (s : State) (n : Nat) (x : SubPort) (m : Nat) : (s.setSub n x).skim m = s.skim m := rfl
@[simp] theorem State.setSub_skimGOf (s : State) (n : Nat) (x : SubPort) (m : Nat) : (s.setSub n x).skimG m = s.skimG m := rfl
@[simp] theorem State.setSub_stnOf (s : State) (n : Nat) (x : SubPort) (m : Nat) : (s.setSub n x).stn m = s.stn m := rfl
@[simp] theorem State.setSub_plbOf (s : State) (n : Nat) (x : SubPort) (m : Nat) : (s.setSub n x).plb m = s.plb m := rfl
@[simp] theorem State.setSub_uclOf (s : State) (n : Nat) (x : SubPort) (m : Nat) : (s.setSub n x).ucl m = s.ucl m := rfl
@[simp] theorem State.setSub_stpPortOf (s : State) (n : Nat) (x : SubPort) (m : Nat) : (s.setSub n x).stpPort m = s.stpPort m := rfl
@[simp] theorem State.setSub_dmaChOf (s : State) (n : Nat) (x : SubPort) (m : Nat) : (s.setSub n x).dmaCh m = s.dmaCh m := rfl
@[simp] theorem State.setSub_tstLaneOf (s : State) (n : Nat) (x : SubPort) (m : Nat) : (s.setSub n x).tstLane m = s.tstLane m := rfl
@[simp] theorem State.setSub_commitOf (s : State) (n : Nat) (x : SubPort) (m : Nat) : (s.setSub n x).commit m = s.commit m := rfl

/-! ### `State.setStpPort` -/

@[simp] theorem State.setStpPort_regs (s : State) (n : Nat) (x : StpPort) : (s.setStpPort n x).regs = s.regs := rfl
@[simp] theorem State.setStpPort_cnt (s : State) (n : Nat) (x : StpPort) : (s.setStpPort n x).cnt = s.cnt := rfl
@[simp] theorem State.setStpPort_snap (s : State) (n : Nat) (x : StpPort) : (s.setStpPort n x).snap = s.snap := rfl
@[simp] theorem State.setStpPort_snapNext (s : State) (n : Nat) (x : StpPort) : (s.setStpPort n x).snapNext = s.snapNext := rfl
@[simp] theorem State.setStpPort_draws (s : State) (n : Nat) (x : StpPort) : (s.setStpPort n x).draws = s.draws := rfl
@[simp] theorem State.setStpPort_raised (s : State) (n : Nat) (x : StpPort) : (s.setStpPort n x).raised = s.raised := rfl
@[simp] theorem State.setStpPort_ruleTaped (s : State) (n : Nat) (x : StpPort) : (s.setStpPort n x).ruleTaped = s.ruleTaped := rfl
@[simp] theorem State.setStpPort_chalk (s : State) (n : Nat) (x : StpPort) : (s.setStpPort n x).chalk = s.chalk := rfl
@[simp] theorem State.setStpPort_tgs (s : State) (n : Nat) (x : StpPort) : (s.setStpPort n x).tgs = s.tgs := rfl
@[simp] theorem State.setStpPort_lanes (s : State) (n : Nat) (x : StpPort) : (s.setStpPort n x).lanes = s.lanes := rfl
@[simp] theorem State.setStpPort_ports (s : State) (n : Nat) (x : StpPort) : (s.setStpPort n x).ports = s.ports := rfl
@[simp] theorem State.setStpPort_hawk (s : State) (n : Nat) (x : StpPort) : (s.setStpPort n x).hawk = s.hawk := rfl
@[simp] theorem State.setStpPort_snags (s : State) (n : Nat) (x : StpPort) : (s.setStpPort n x).snags = s.snags := rfl
@[simp] theorem State.setStpPort_units (s : State) (n : Nat) (x : StpPort) : (s.setStpPort n x).units = s.units := rfl
@[simp] theorem State.setStpPort_windows (s : State) (n : Nat) (x : StpPort) : (s.setStpPort n x).windows = s.windows := rfl
@[simp] theorem State.setStpPort_commits (s : State) (n : Nat) (x : StpPort) : (s.setStpPort n x).commits = s.commits := rfl
@[simp] theorem State.setStpPort_seams (s : State) (n : Nat) (x : StpPort) : (s.setStpPort n x).seams = s.seams := rfl
@[simp] theorem State.setStpPort_rnds (s : State) (n : Nat) (x : StpPort) : (s.setStpPort n x).rnds = s.rnds := rfl
@[simp] theorem State.setStpPort_skims (s : State) (n : Nat) (x : StpPort) : (s.setStpPort n x).skims = s.skims := rfl
@[simp] theorem State.setStpPort_skimGs (s : State) (n : Nat) (x : StpPort) : (s.setStpPort n x).skimGs = s.skimGs := rfl
@[simp] theorem State.setStpPort_stns (s : State) (n : Nat) (x : StpPort) : (s.setStpPort n x).stns = s.stns := rfl
@[simp] theorem State.setStpPort_plbs (s : State) (n : Nat) (x : StpPort) : (s.setStpPort n x).plbs = s.plbs := rfl
@[simp] theorem State.setStpPort_ucls (s : State) (n : Nat) (x : StpPort) : (s.setStpPort n x).ucls = s.ucls := rfl
@[simp] theorem State.setStpPort_subs (s : State) (n : Nat) (x : StpPort) : (s.setStpPort n x).subs = s.subs := rfl
@[simp] theorem State.setStpPort_ptp (s : State) (n : Nat) (x : StpPort) : (s.setStpPort n x).ptp = s.ptp := rfl
@[simp] theorem State.setStpPort_hst (s : State) (n : Nat) (x : StpPort) : (s.setStpPort n x).hst = s.hst := rfl
@[simp] theorem State.setStpPort_replay (s : State) (n : Nat) (x : StpPort) : (s.setStpPort n x).replay = s.replay := rfl
@[simp] theorem State.setStpPort_mem (s : State) (n : Nat) (x : StpPort) : (s.setStpPort n x).mem = s.mem := rfl
@[simp] theorem State.setStpPort_stpPipe (s : State) (n : Nat) (x : StpPort) : (s.setStpPort n x).stpPipe = s.stpPipe := rfl
@[simp] theorem State.setStpPort_stpTiles (s : State) (n : Nat) (x : StpPort) : (s.setStpPort n x).stpTiles = s.stpTiles := rfl
@[simp] theorem State.setStpPort_stpTaped (s : State) (n : Nat) (x : StpPort) : (s.setStpPort n x).stpTaped = s.stpTaped := rfl
@[simp] theorem State.setStpPort_dmaChs (s : State) (n : Nat) (x : StpPort) : (s.setStpPort n x).dmaChs = s.dmaChs := rfl
@[simp] theorem State.setStpPort_ldr (s : State) (n : Nat) (x : StpPort) : (s.setStpPort n x).ldr = s.ldr := rfl
@[simp] theorem State.setStpPort_mram (s : State) (n : Nat) (x : StpPort) : (s.setStpPort n x).mram = s.mram := rfl
@[simp] theorem State.setStpPort_dram (s : State) (n : Nat) (x : StpPort) : (s.setStpPort n x).dram = s.dram := rfl
@[simp] theorem State.setStpPort_scratch (s : State) (n : Nat) (x : StpPort) : (s.setStpPort n x).scratch = s.scratch := rfl
@[simp] theorem State.setStpPort_hostload (s : State) (n : Nat) (x : StpPort) : (s.setStpPort n x).hostload = s.hostload := rfl
@[simp] theorem State.setStpPort_boot (s : State) (n : Nat) (x : StpPort) : (s.setStpPort n x).boot = s.boot := rfl
@[simp] theorem State.setStpPort_pins (s : State) (n : Nat) (x : StpPort) : (s.setStpPort n x).pins = s.pins := rfl
@[simp] theorem State.setStpPort_therm (s : State) (n : Nat) (x : StpPort) : (s.setStpPort n x).therm = s.therm := rfl
@[simp] theorem State.setStpPort_power (s : State) (n : Nat) (x : StpPort) : (s.setStpPort n x).power = s.power := rfl
@[simp] theorem State.setStpPort_fuses (s : State) (n : Nat) (x : StpPort) : (s.setStpPort n x).fuses = s.fuses := rfl
@[simp] theorem State.setStpPort_sec (s : State) (n : Nat) (x : StpPort) : (s.setStpPort n x).sec = s.sec := rfl
@[simp] theorem State.setStpPort_fw (s : State) (n : Nat) (x : StpPort) : (s.setStpPort n x).fw = s.fw := rfl
@[simp] theorem State.setStpPort_tst (s : State) (n : Nat) (x : StpPort) : (s.setStpPort n x).tst = s.tst := rfl
@[simp] theorem State.setStpPort_io (s : State) (n : Nat) (x : StpPort) : (s.setStpPort n x).io = s.io := rfl
@[simp] theorem State.setStpPort_answers (s : State) (n : Nat) (x : StpPort) : (s.setStpPort n x).answers = s.answers := rfl
@[simp] theorem State.setStpPort_pending (s : State) (n : Nat) (x : StpPort) : (s.setStpPort n x).pending = s.pending := rfl
@[simp] theorem State.setStpPort_rd (s : State) (n : Nat) (x : StpPort) (g : Fld) : (s.setStpPort n x).rd g = s.rd g := rfl
@[simp] theorem State.setStpPort_flag (s : State) (n : Nat) (x : StpPort) (g : Fld) : (s.setStpPort n x).flag g = s.flag g := rfl
@[simp] theorem State.setStpPort_ctr (s : State) (n : Nat) (x : StpPort) (g : Fld) : (s.setStpPort n x).ctr g = s.ctr g := rfl
@[simp] theorem State.setStpPort_laneOf (s : State) (n : Nat) (x : StpPort) (m : Nat) : (s.setStpPort n x).lane m = s.lane m := rfl
@[simp] theorem State.setStpPort_portOf (s : State) (n : Nat) (x : StpPort) (m : Nat) : (s.setStpPort n x).port m = s.port m := rfl
@[simp] theorem State.setStpPort_tgOf (s : State) (n : Nat) (x : StpPort) (m : Nat) : (s.setStpPort n x).tg m = s.tg m := rfl
@[simp] theorem State.setStpPort_hqOf (s : State) (n : Nat) (x : StpPort) (m : Nat) : (s.setStpPort n x).hq m = s.hq m := rfl
@[simp] theorem State.setStpPort_snagOf (s : State) (n : Nat) (x : StpPort) (m : Nat) : (s.setStpPort n x).snag m = s.snag m := rfl
@[simp] theorem State.setStpPort_unitOf (s : State) (n : Nat) (x : StpPort) (m : Nat) : (s.setStpPort n x).unit m = s.unit m := rfl
@[simp] theorem State.setStpPort_seamOf (s : State) (n : Nat) (x : StpPort) (m : Nat) : (s.setStpPort n x).seam m = s.seam m := rfl
@[simp] theorem State.setStpPort_rndOf (s : State) (n : Nat) (x : StpPort) (m : Nat) : (s.setStpPort n x).rnd m = s.rnd m := rfl
@[simp] theorem State.setStpPort_skimOf (s : State) (n : Nat) (x : StpPort) (m : Nat) : (s.setStpPort n x).skim m = s.skim m := rfl
@[simp] theorem State.setStpPort_skimGOf (s : State) (n : Nat) (x : StpPort) (m : Nat) : (s.setStpPort n x).skimG m = s.skimG m := rfl
@[simp] theorem State.setStpPort_stnOf (s : State) (n : Nat) (x : StpPort) (m : Nat) : (s.setStpPort n x).stn m = s.stn m := rfl
@[simp] theorem State.setStpPort_plbOf (s : State) (n : Nat) (x : StpPort) (m : Nat) : (s.setStpPort n x).plb m = s.plb m := rfl
@[simp] theorem State.setStpPort_uclOf (s : State) (n : Nat) (x : StpPort) (m : Nat) : (s.setStpPort n x).ucl m = s.ucl m := rfl
@[simp] theorem State.setStpPort_subOf (s : State) (n : Nat) (x : StpPort) (m : Nat) : (s.setStpPort n x).sub m = s.sub m := rfl
@[simp] theorem State.setStpPort_dmaChOf (s : State) (n : Nat) (x : StpPort) (m : Nat) : (s.setStpPort n x).dmaCh m = s.dmaCh m := rfl
@[simp] theorem State.setStpPort_tstLaneOf (s : State) (n : Nat) (x : StpPort) (m : Nat) : (s.setStpPort n x).tstLane m = s.tstLane m := rfl
@[simp] theorem State.setStpPort_commitOf (s : State) (n : Nat) (x : StpPort) (m : Nat) : (s.setStpPort n x).commit m = s.commit m := rfl

/-! ### `State.setDmaCh` -/

@[simp] theorem State.setDmaCh_regs (s : State) (n : Nat) (x : DmaCh) : (s.setDmaCh n x).regs = s.regs := rfl
@[simp] theorem State.setDmaCh_cnt (s : State) (n : Nat) (x : DmaCh) : (s.setDmaCh n x).cnt = s.cnt := rfl
@[simp] theorem State.setDmaCh_snap (s : State) (n : Nat) (x : DmaCh) : (s.setDmaCh n x).snap = s.snap := rfl
@[simp] theorem State.setDmaCh_snapNext (s : State) (n : Nat) (x : DmaCh) : (s.setDmaCh n x).snapNext = s.snapNext := rfl
@[simp] theorem State.setDmaCh_draws (s : State) (n : Nat) (x : DmaCh) : (s.setDmaCh n x).draws = s.draws := rfl
@[simp] theorem State.setDmaCh_raised (s : State) (n : Nat) (x : DmaCh) : (s.setDmaCh n x).raised = s.raised := rfl
@[simp] theorem State.setDmaCh_ruleTaped (s : State) (n : Nat) (x : DmaCh) : (s.setDmaCh n x).ruleTaped = s.ruleTaped := rfl
@[simp] theorem State.setDmaCh_chalk (s : State) (n : Nat) (x : DmaCh) : (s.setDmaCh n x).chalk = s.chalk := rfl
@[simp] theorem State.setDmaCh_tgs (s : State) (n : Nat) (x : DmaCh) : (s.setDmaCh n x).tgs = s.tgs := rfl
@[simp] theorem State.setDmaCh_lanes (s : State) (n : Nat) (x : DmaCh) : (s.setDmaCh n x).lanes = s.lanes := rfl
@[simp] theorem State.setDmaCh_ports (s : State) (n : Nat) (x : DmaCh) : (s.setDmaCh n x).ports = s.ports := rfl
@[simp] theorem State.setDmaCh_hawk (s : State) (n : Nat) (x : DmaCh) : (s.setDmaCh n x).hawk = s.hawk := rfl
@[simp] theorem State.setDmaCh_snags (s : State) (n : Nat) (x : DmaCh) : (s.setDmaCh n x).snags = s.snags := rfl
@[simp] theorem State.setDmaCh_units (s : State) (n : Nat) (x : DmaCh) : (s.setDmaCh n x).units = s.units := rfl
@[simp] theorem State.setDmaCh_windows (s : State) (n : Nat) (x : DmaCh) : (s.setDmaCh n x).windows = s.windows := rfl
@[simp] theorem State.setDmaCh_commits (s : State) (n : Nat) (x : DmaCh) : (s.setDmaCh n x).commits = s.commits := rfl
@[simp] theorem State.setDmaCh_seams (s : State) (n : Nat) (x : DmaCh) : (s.setDmaCh n x).seams = s.seams := rfl
@[simp] theorem State.setDmaCh_rnds (s : State) (n : Nat) (x : DmaCh) : (s.setDmaCh n x).rnds = s.rnds := rfl
@[simp] theorem State.setDmaCh_skims (s : State) (n : Nat) (x : DmaCh) : (s.setDmaCh n x).skims = s.skims := rfl
@[simp] theorem State.setDmaCh_skimGs (s : State) (n : Nat) (x : DmaCh) : (s.setDmaCh n x).skimGs = s.skimGs := rfl
@[simp] theorem State.setDmaCh_stns (s : State) (n : Nat) (x : DmaCh) : (s.setDmaCh n x).stns = s.stns := rfl
@[simp] theorem State.setDmaCh_plbs (s : State) (n : Nat) (x : DmaCh) : (s.setDmaCh n x).plbs = s.plbs := rfl
@[simp] theorem State.setDmaCh_ucls (s : State) (n : Nat) (x : DmaCh) : (s.setDmaCh n x).ucls = s.ucls := rfl
@[simp] theorem State.setDmaCh_subs (s : State) (n : Nat) (x : DmaCh) : (s.setDmaCh n x).subs = s.subs := rfl
@[simp] theorem State.setDmaCh_ptp (s : State) (n : Nat) (x : DmaCh) : (s.setDmaCh n x).ptp = s.ptp := rfl
@[simp] theorem State.setDmaCh_hst (s : State) (n : Nat) (x : DmaCh) : (s.setDmaCh n x).hst = s.hst := rfl
@[simp] theorem State.setDmaCh_replay (s : State) (n : Nat) (x : DmaCh) : (s.setDmaCh n x).replay = s.replay := rfl
@[simp] theorem State.setDmaCh_mem (s : State) (n : Nat) (x : DmaCh) : (s.setDmaCh n x).mem = s.mem := rfl
@[simp] theorem State.setDmaCh_stpPorts (s : State) (n : Nat) (x : DmaCh) : (s.setDmaCh n x).stpPorts = s.stpPorts := rfl
@[simp] theorem State.setDmaCh_stpPipe (s : State) (n : Nat) (x : DmaCh) : (s.setDmaCh n x).stpPipe = s.stpPipe := rfl
@[simp] theorem State.setDmaCh_stpTiles (s : State) (n : Nat) (x : DmaCh) : (s.setDmaCh n x).stpTiles = s.stpTiles := rfl
@[simp] theorem State.setDmaCh_stpTaped (s : State) (n : Nat) (x : DmaCh) : (s.setDmaCh n x).stpTaped = s.stpTaped := rfl
@[simp] theorem State.setDmaCh_ldr (s : State) (n : Nat) (x : DmaCh) : (s.setDmaCh n x).ldr = s.ldr := rfl
@[simp] theorem State.setDmaCh_mram (s : State) (n : Nat) (x : DmaCh) : (s.setDmaCh n x).mram = s.mram := rfl
@[simp] theorem State.setDmaCh_dram (s : State) (n : Nat) (x : DmaCh) : (s.setDmaCh n x).dram = s.dram := rfl
@[simp] theorem State.setDmaCh_scratch (s : State) (n : Nat) (x : DmaCh) : (s.setDmaCh n x).scratch = s.scratch := rfl
@[simp] theorem State.setDmaCh_hostload (s : State) (n : Nat) (x : DmaCh) : (s.setDmaCh n x).hostload = s.hostload := rfl
@[simp] theorem State.setDmaCh_boot (s : State) (n : Nat) (x : DmaCh) : (s.setDmaCh n x).boot = s.boot := rfl
@[simp] theorem State.setDmaCh_pins (s : State) (n : Nat) (x : DmaCh) : (s.setDmaCh n x).pins = s.pins := rfl
@[simp] theorem State.setDmaCh_therm (s : State) (n : Nat) (x : DmaCh) : (s.setDmaCh n x).therm = s.therm := rfl
@[simp] theorem State.setDmaCh_power (s : State) (n : Nat) (x : DmaCh) : (s.setDmaCh n x).power = s.power := rfl
@[simp] theorem State.setDmaCh_fuses (s : State) (n : Nat) (x : DmaCh) : (s.setDmaCh n x).fuses = s.fuses := rfl
@[simp] theorem State.setDmaCh_sec (s : State) (n : Nat) (x : DmaCh) : (s.setDmaCh n x).sec = s.sec := rfl
@[simp] theorem State.setDmaCh_fw (s : State) (n : Nat) (x : DmaCh) : (s.setDmaCh n x).fw = s.fw := rfl
@[simp] theorem State.setDmaCh_tst (s : State) (n : Nat) (x : DmaCh) : (s.setDmaCh n x).tst = s.tst := rfl
@[simp] theorem State.setDmaCh_io (s : State) (n : Nat) (x : DmaCh) : (s.setDmaCh n x).io = s.io := rfl
@[simp] theorem State.setDmaCh_answers (s : State) (n : Nat) (x : DmaCh) : (s.setDmaCh n x).answers = s.answers := rfl
@[simp] theorem State.setDmaCh_pending (s : State) (n : Nat) (x : DmaCh) : (s.setDmaCh n x).pending = s.pending := rfl
@[simp] theorem State.setDmaCh_rd (s : State) (n : Nat) (x : DmaCh) (g : Fld) : (s.setDmaCh n x).rd g = s.rd g := rfl
@[simp] theorem State.setDmaCh_flag (s : State) (n : Nat) (x : DmaCh) (g : Fld) : (s.setDmaCh n x).flag g = s.flag g := rfl
@[simp] theorem State.setDmaCh_ctr (s : State) (n : Nat) (x : DmaCh) (g : Fld) : (s.setDmaCh n x).ctr g = s.ctr g := rfl
@[simp] theorem State.setDmaCh_laneOf (s : State) (n : Nat) (x : DmaCh) (m : Nat) : (s.setDmaCh n x).lane m = s.lane m := rfl
@[simp] theorem State.setDmaCh_portOf (s : State) (n : Nat) (x : DmaCh) (m : Nat) : (s.setDmaCh n x).port m = s.port m := rfl
@[simp] theorem State.setDmaCh_tgOf (s : State) (n : Nat) (x : DmaCh) (m : Nat) : (s.setDmaCh n x).tg m = s.tg m := rfl
@[simp] theorem State.setDmaCh_hqOf (s : State) (n : Nat) (x : DmaCh) (m : Nat) : (s.setDmaCh n x).hq m = s.hq m := rfl
@[simp] theorem State.setDmaCh_snagOf (s : State) (n : Nat) (x : DmaCh) (m : Nat) : (s.setDmaCh n x).snag m = s.snag m := rfl
@[simp] theorem State.setDmaCh_unitOf (s : State) (n : Nat) (x : DmaCh) (m : Nat) : (s.setDmaCh n x).unit m = s.unit m := rfl
@[simp] theorem State.setDmaCh_seamOf (s : State) (n : Nat) (x : DmaCh) (m : Nat) : (s.setDmaCh n x).seam m = s.seam m := rfl
@[simp] theorem State.setDmaCh_rndOf (s : State) (n : Nat) (x : DmaCh) (m : Nat) : (s.setDmaCh n x).rnd m = s.rnd m := rfl
@[simp] theorem State.setDmaCh_skimOf (s : State) (n : Nat) (x : DmaCh) (m : Nat) : (s.setDmaCh n x).skim m = s.skim m := rfl
@[simp] theorem State.setDmaCh_skimGOf (s : State) (n : Nat) (x : DmaCh) (m : Nat) : (s.setDmaCh n x).skimG m = s.skimG m := rfl
@[simp] theorem State.setDmaCh_stnOf (s : State) (n : Nat) (x : DmaCh) (m : Nat) : (s.setDmaCh n x).stn m = s.stn m := rfl
@[simp] theorem State.setDmaCh_plbOf (s : State) (n : Nat) (x : DmaCh) (m : Nat) : (s.setDmaCh n x).plb m = s.plb m := rfl
@[simp] theorem State.setDmaCh_uclOf (s : State) (n : Nat) (x : DmaCh) (m : Nat) : (s.setDmaCh n x).ucl m = s.ucl m := rfl
@[simp] theorem State.setDmaCh_subOf (s : State) (n : Nat) (x : DmaCh) (m : Nat) : (s.setDmaCh n x).sub m = s.sub m := rfl
@[simp] theorem State.setDmaCh_stpPortOf (s : State) (n : Nat) (x : DmaCh) (m : Nat) : (s.setDmaCh n x).stpPort m = s.stpPort m := rfl
@[simp] theorem State.setDmaCh_tstLaneOf (s : State) (n : Nat) (x : DmaCh) (m : Nat) : (s.setDmaCh n x).tstLane m = s.tstLane m := rfl
@[simp] theorem State.setDmaCh_commitOf (s : State) (n : Nat) (x : DmaCh) (m : Nat) : (s.setDmaCh n x).commit m = s.commit m := rfl

/-! ### `State.setTst` -/

@[simp] theorem State.setTst_regs (s : State) (n : Nat) (x : TstLane) : (s.setTst n x).regs = s.regs := rfl
@[simp] theorem State.setTst_cnt (s : State) (n : Nat) (x : TstLane) : (s.setTst n x).cnt = s.cnt := rfl
@[simp] theorem State.setTst_snap (s : State) (n : Nat) (x : TstLane) : (s.setTst n x).snap = s.snap := rfl
@[simp] theorem State.setTst_snapNext (s : State) (n : Nat) (x : TstLane) : (s.setTst n x).snapNext = s.snapNext := rfl
@[simp] theorem State.setTst_draws (s : State) (n : Nat) (x : TstLane) : (s.setTst n x).draws = s.draws := rfl
@[simp] theorem State.setTst_raised (s : State) (n : Nat) (x : TstLane) : (s.setTst n x).raised = s.raised := rfl
@[simp] theorem State.setTst_ruleTaped (s : State) (n : Nat) (x : TstLane) : (s.setTst n x).ruleTaped = s.ruleTaped := rfl
@[simp] theorem State.setTst_chalk (s : State) (n : Nat) (x : TstLane) : (s.setTst n x).chalk = s.chalk := rfl
@[simp] theorem State.setTst_tgs (s : State) (n : Nat) (x : TstLane) : (s.setTst n x).tgs = s.tgs := rfl
@[simp] theorem State.setTst_lanes (s : State) (n : Nat) (x : TstLane) : (s.setTst n x).lanes = s.lanes := rfl
@[simp] theorem State.setTst_ports (s : State) (n : Nat) (x : TstLane) : (s.setTst n x).ports = s.ports := rfl
@[simp] theorem State.setTst_hawk (s : State) (n : Nat) (x : TstLane) : (s.setTst n x).hawk = s.hawk := rfl
@[simp] theorem State.setTst_snags (s : State) (n : Nat) (x : TstLane) : (s.setTst n x).snags = s.snags := rfl
@[simp] theorem State.setTst_units (s : State) (n : Nat) (x : TstLane) : (s.setTst n x).units = s.units := rfl
@[simp] theorem State.setTst_windows (s : State) (n : Nat) (x : TstLane) : (s.setTst n x).windows = s.windows := rfl
@[simp] theorem State.setTst_commits (s : State) (n : Nat) (x : TstLane) : (s.setTst n x).commits = s.commits := rfl
@[simp] theorem State.setTst_seams (s : State) (n : Nat) (x : TstLane) : (s.setTst n x).seams = s.seams := rfl
@[simp] theorem State.setTst_rnds (s : State) (n : Nat) (x : TstLane) : (s.setTst n x).rnds = s.rnds := rfl
@[simp] theorem State.setTst_skims (s : State) (n : Nat) (x : TstLane) : (s.setTst n x).skims = s.skims := rfl
@[simp] theorem State.setTst_skimGs (s : State) (n : Nat) (x : TstLane) : (s.setTst n x).skimGs = s.skimGs := rfl
@[simp] theorem State.setTst_stns (s : State) (n : Nat) (x : TstLane) : (s.setTst n x).stns = s.stns := rfl
@[simp] theorem State.setTst_plbs (s : State) (n : Nat) (x : TstLane) : (s.setTst n x).plbs = s.plbs := rfl
@[simp] theorem State.setTst_ucls (s : State) (n : Nat) (x : TstLane) : (s.setTst n x).ucls = s.ucls := rfl
@[simp] theorem State.setTst_subs (s : State) (n : Nat) (x : TstLane) : (s.setTst n x).subs = s.subs := rfl
@[simp] theorem State.setTst_ptp (s : State) (n : Nat) (x : TstLane) : (s.setTst n x).ptp = s.ptp := rfl
@[simp] theorem State.setTst_hst (s : State) (n : Nat) (x : TstLane) : (s.setTst n x).hst = s.hst := rfl
@[simp] theorem State.setTst_replay (s : State) (n : Nat) (x : TstLane) : (s.setTst n x).replay = s.replay := rfl
@[simp] theorem State.setTst_mem (s : State) (n : Nat) (x : TstLane) : (s.setTst n x).mem = s.mem := rfl
@[simp] theorem State.setTst_stpPorts (s : State) (n : Nat) (x : TstLane) : (s.setTst n x).stpPorts = s.stpPorts := rfl
@[simp] theorem State.setTst_stpPipe (s : State) (n : Nat) (x : TstLane) : (s.setTst n x).stpPipe = s.stpPipe := rfl
@[simp] theorem State.setTst_stpTiles (s : State) (n : Nat) (x : TstLane) : (s.setTst n x).stpTiles = s.stpTiles := rfl
@[simp] theorem State.setTst_stpTaped (s : State) (n : Nat) (x : TstLane) : (s.setTst n x).stpTaped = s.stpTaped := rfl
@[simp] theorem State.setTst_dmaChs (s : State) (n : Nat) (x : TstLane) : (s.setTst n x).dmaChs = s.dmaChs := rfl
@[simp] theorem State.setTst_ldr (s : State) (n : Nat) (x : TstLane) : (s.setTst n x).ldr = s.ldr := rfl
@[simp] theorem State.setTst_mram (s : State) (n : Nat) (x : TstLane) : (s.setTst n x).mram = s.mram := rfl
@[simp] theorem State.setTst_dram (s : State) (n : Nat) (x : TstLane) : (s.setTst n x).dram = s.dram := rfl
@[simp] theorem State.setTst_scratch (s : State) (n : Nat) (x : TstLane) : (s.setTst n x).scratch = s.scratch := rfl
@[simp] theorem State.setTst_hostload (s : State) (n : Nat) (x : TstLane) : (s.setTst n x).hostload = s.hostload := rfl
@[simp] theorem State.setTst_boot (s : State) (n : Nat) (x : TstLane) : (s.setTst n x).boot = s.boot := rfl
@[simp] theorem State.setTst_pins (s : State) (n : Nat) (x : TstLane) : (s.setTst n x).pins = s.pins := rfl
@[simp] theorem State.setTst_therm (s : State) (n : Nat) (x : TstLane) : (s.setTst n x).therm = s.therm := rfl
@[simp] theorem State.setTst_power (s : State) (n : Nat) (x : TstLane) : (s.setTst n x).power = s.power := rfl
@[simp] theorem State.setTst_fuses (s : State) (n : Nat) (x : TstLane) : (s.setTst n x).fuses = s.fuses := rfl
@[simp] theorem State.setTst_sec (s : State) (n : Nat) (x : TstLane) : (s.setTst n x).sec = s.sec := rfl
@[simp] theorem State.setTst_fw (s : State) (n : Nat) (x : TstLane) : (s.setTst n x).fw = s.fw := rfl
@[simp] theorem State.setTst_io (s : State) (n : Nat) (x : TstLane) : (s.setTst n x).io = s.io := rfl
@[simp] theorem State.setTst_answers (s : State) (n : Nat) (x : TstLane) : (s.setTst n x).answers = s.answers := rfl
@[simp] theorem State.setTst_pending (s : State) (n : Nat) (x : TstLane) : (s.setTst n x).pending = s.pending := rfl
@[simp] theorem State.setTst_rd (s : State) (n : Nat) (x : TstLane) (g : Fld) : (s.setTst n x).rd g = s.rd g := rfl
@[simp] theorem State.setTst_flag (s : State) (n : Nat) (x : TstLane) (g : Fld) : (s.setTst n x).flag g = s.flag g := rfl
@[simp] theorem State.setTst_ctr (s : State) (n : Nat) (x : TstLane) (g : Fld) : (s.setTst n x).ctr g = s.ctr g := rfl
@[simp] theorem State.setTst_laneOf (s : State) (n : Nat) (x : TstLane) (m : Nat) : (s.setTst n x).lane m = s.lane m := rfl
@[simp] theorem State.setTst_portOf (s : State) (n : Nat) (x : TstLane) (m : Nat) : (s.setTst n x).port m = s.port m := rfl
@[simp] theorem State.setTst_tgOf (s : State) (n : Nat) (x : TstLane) (m : Nat) : (s.setTst n x).tg m = s.tg m := rfl
@[simp] theorem State.setTst_hqOf (s : State) (n : Nat) (x : TstLane) (m : Nat) : (s.setTst n x).hq m = s.hq m := rfl
@[simp] theorem State.setTst_snagOf (s : State) (n : Nat) (x : TstLane) (m : Nat) : (s.setTst n x).snag m = s.snag m := rfl
@[simp] theorem State.setTst_unitOf (s : State) (n : Nat) (x : TstLane) (m : Nat) : (s.setTst n x).unit m = s.unit m := rfl
@[simp] theorem State.setTst_seamOf (s : State) (n : Nat) (x : TstLane) (m : Nat) : (s.setTst n x).seam m = s.seam m := rfl
@[simp] theorem State.setTst_rndOf (s : State) (n : Nat) (x : TstLane) (m : Nat) : (s.setTst n x).rnd m = s.rnd m := rfl
@[simp] theorem State.setTst_skimOf (s : State) (n : Nat) (x : TstLane) (m : Nat) : (s.setTst n x).skim m = s.skim m := rfl
@[simp] theorem State.setTst_skimGOf (s : State) (n : Nat) (x : TstLane) (m : Nat) : (s.setTst n x).skimG m = s.skimG m := rfl
@[simp] theorem State.setTst_stnOf (s : State) (n : Nat) (x : TstLane) (m : Nat) : (s.setTst n x).stn m = s.stn m := rfl
@[simp] theorem State.setTst_plbOf (s : State) (n : Nat) (x : TstLane) (m : Nat) : (s.setTst n x).plb m = s.plb m := rfl
@[simp] theorem State.setTst_uclOf (s : State) (n : Nat) (x : TstLane) (m : Nat) : (s.setTst n x).ucl m = s.ucl m := rfl
@[simp] theorem State.setTst_subOf (s : State) (n : Nat) (x : TstLane) (m : Nat) : (s.setTst n x).sub m = s.sub m := rfl
@[simp] theorem State.setTst_stpPortOf (s : State) (n : Nat) (x : TstLane) (m : Nat) : (s.setTst n x).stpPort m = s.stpPort m := rfl
@[simp] theorem State.setTst_dmaChOf (s : State) (n : Nat) (x : TstLane) (m : Nat) : (s.setTst n x).dmaCh m = s.dmaCh m := rfl
@[simp] theorem State.setTst_commitOf (s : State) (n : Nat) (x : TstLane) (m : Nat) : (s.setTst n x).commit m = s.commit m := rfl

/-! ### `State.setCommit` -/

@[simp] theorem State.setCommit_regs (s : State) (n : Nat) (x : Option PendSet) : (s.setCommit n x).regs = s.regs := rfl
@[simp] theorem State.setCommit_cnt (s : State) (n : Nat) (x : Option PendSet) : (s.setCommit n x).cnt = s.cnt := rfl
@[simp] theorem State.setCommit_snap (s : State) (n : Nat) (x : Option PendSet) : (s.setCommit n x).snap = s.snap := rfl
@[simp] theorem State.setCommit_snapNext (s : State) (n : Nat) (x : Option PendSet) : (s.setCommit n x).snapNext = s.snapNext := rfl
@[simp] theorem State.setCommit_draws (s : State) (n : Nat) (x : Option PendSet) : (s.setCommit n x).draws = s.draws := rfl
@[simp] theorem State.setCommit_raised (s : State) (n : Nat) (x : Option PendSet) : (s.setCommit n x).raised = s.raised := rfl
@[simp] theorem State.setCommit_ruleTaped (s : State) (n : Nat) (x : Option PendSet) : (s.setCommit n x).ruleTaped = s.ruleTaped := rfl
@[simp] theorem State.setCommit_chalk (s : State) (n : Nat) (x : Option PendSet) : (s.setCommit n x).chalk = s.chalk := rfl
@[simp] theorem State.setCommit_tgs (s : State) (n : Nat) (x : Option PendSet) : (s.setCommit n x).tgs = s.tgs := rfl
@[simp] theorem State.setCommit_lanes (s : State) (n : Nat) (x : Option PendSet) : (s.setCommit n x).lanes = s.lanes := rfl
@[simp] theorem State.setCommit_ports (s : State) (n : Nat) (x : Option PendSet) : (s.setCommit n x).ports = s.ports := rfl
@[simp] theorem State.setCommit_hawk (s : State) (n : Nat) (x : Option PendSet) : (s.setCommit n x).hawk = s.hawk := rfl
@[simp] theorem State.setCommit_snags (s : State) (n : Nat) (x : Option PendSet) : (s.setCommit n x).snags = s.snags := rfl
@[simp] theorem State.setCommit_units (s : State) (n : Nat) (x : Option PendSet) : (s.setCommit n x).units = s.units := rfl
@[simp] theorem State.setCommit_windows (s : State) (n : Nat) (x : Option PendSet) : (s.setCommit n x).windows = s.windows := rfl
@[simp] theorem State.setCommit_seams (s : State) (n : Nat) (x : Option PendSet) : (s.setCommit n x).seams = s.seams := rfl
@[simp] theorem State.setCommit_rnds (s : State) (n : Nat) (x : Option PendSet) : (s.setCommit n x).rnds = s.rnds := rfl
@[simp] theorem State.setCommit_skims (s : State) (n : Nat) (x : Option PendSet) : (s.setCommit n x).skims = s.skims := rfl
@[simp] theorem State.setCommit_skimGs (s : State) (n : Nat) (x : Option PendSet) : (s.setCommit n x).skimGs = s.skimGs := rfl
@[simp] theorem State.setCommit_stns (s : State) (n : Nat) (x : Option PendSet) : (s.setCommit n x).stns = s.stns := rfl
@[simp] theorem State.setCommit_plbs (s : State) (n : Nat) (x : Option PendSet) : (s.setCommit n x).plbs = s.plbs := rfl
@[simp] theorem State.setCommit_ucls (s : State) (n : Nat) (x : Option PendSet) : (s.setCommit n x).ucls = s.ucls := rfl
@[simp] theorem State.setCommit_subs (s : State) (n : Nat) (x : Option PendSet) : (s.setCommit n x).subs = s.subs := rfl
@[simp] theorem State.setCommit_ptp (s : State) (n : Nat) (x : Option PendSet) : (s.setCommit n x).ptp = s.ptp := rfl
@[simp] theorem State.setCommit_hst (s : State) (n : Nat) (x : Option PendSet) : (s.setCommit n x).hst = s.hst := rfl
@[simp] theorem State.setCommit_replay (s : State) (n : Nat) (x : Option PendSet) : (s.setCommit n x).replay = s.replay := rfl
@[simp] theorem State.setCommit_mem (s : State) (n : Nat) (x : Option PendSet) : (s.setCommit n x).mem = s.mem := rfl
@[simp] theorem State.setCommit_stpPorts (s : State) (n : Nat) (x : Option PendSet) : (s.setCommit n x).stpPorts = s.stpPorts := rfl
@[simp] theorem State.setCommit_stpPipe (s : State) (n : Nat) (x : Option PendSet) : (s.setCommit n x).stpPipe = s.stpPipe := rfl
@[simp] theorem State.setCommit_stpTiles (s : State) (n : Nat) (x : Option PendSet) : (s.setCommit n x).stpTiles = s.stpTiles := rfl
@[simp] theorem State.setCommit_stpTaped (s : State) (n : Nat) (x : Option PendSet) : (s.setCommit n x).stpTaped = s.stpTaped := rfl
@[simp] theorem State.setCommit_dmaChs (s : State) (n : Nat) (x : Option PendSet) : (s.setCommit n x).dmaChs = s.dmaChs := rfl
@[simp] theorem State.setCommit_ldr (s : State) (n : Nat) (x : Option PendSet) : (s.setCommit n x).ldr = s.ldr := rfl
@[simp] theorem State.setCommit_mram (s : State) (n : Nat) (x : Option PendSet) : (s.setCommit n x).mram = s.mram := rfl
@[simp] theorem State.setCommit_dram (s : State) (n : Nat) (x : Option PendSet) : (s.setCommit n x).dram = s.dram := rfl
@[simp] theorem State.setCommit_scratch (s : State) (n : Nat) (x : Option PendSet) : (s.setCommit n x).scratch = s.scratch := rfl
@[simp] theorem State.setCommit_hostload (s : State) (n : Nat) (x : Option PendSet) : (s.setCommit n x).hostload = s.hostload := rfl
@[simp] theorem State.setCommit_boot (s : State) (n : Nat) (x : Option PendSet) : (s.setCommit n x).boot = s.boot := rfl
@[simp] theorem State.setCommit_pins (s : State) (n : Nat) (x : Option PendSet) : (s.setCommit n x).pins = s.pins := rfl
@[simp] theorem State.setCommit_therm (s : State) (n : Nat) (x : Option PendSet) : (s.setCommit n x).therm = s.therm := rfl
@[simp] theorem State.setCommit_power (s : State) (n : Nat) (x : Option PendSet) : (s.setCommit n x).power = s.power := rfl
@[simp] theorem State.setCommit_fuses (s : State) (n : Nat) (x : Option PendSet) : (s.setCommit n x).fuses = s.fuses := rfl
@[simp] theorem State.setCommit_sec (s : State) (n : Nat) (x : Option PendSet) : (s.setCommit n x).sec = s.sec := rfl
@[simp] theorem State.setCommit_fw (s : State) (n : Nat) (x : Option PendSet) : (s.setCommit n x).fw = s.fw := rfl
@[simp] theorem State.setCommit_tst (s : State) (n : Nat) (x : Option PendSet) : (s.setCommit n x).tst = s.tst := rfl
@[simp] theorem State.setCommit_io (s : State) (n : Nat) (x : Option PendSet) : (s.setCommit n x).io = s.io := rfl
@[simp] theorem State.setCommit_answers (s : State) (n : Nat) (x : Option PendSet) : (s.setCommit n x).answers = s.answers := rfl
@[simp] theorem State.setCommit_pending (s : State) (n : Nat) (x : Option PendSet) : (s.setCommit n x).pending = s.pending := rfl
@[simp] theorem State.setCommit_rd (s : State) (n : Nat) (x : Option PendSet) (g : Fld) : (s.setCommit n x).rd g = s.rd g := rfl
@[simp] theorem State.setCommit_flag (s : State) (n : Nat) (x : Option PendSet) (g : Fld) : (s.setCommit n x).flag g = s.flag g := rfl
@[simp] theorem State.setCommit_ctr (s : State) (n : Nat) (x : Option PendSet) (g : Fld) : (s.setCommit n x).ctr g = s.ctr g := rfl
@[simp] theorem State.setCommit_laneOf (s : State) (n : Nat) (x : Option PendSet) (m : Nat) : (s.setCommit n x).lane m = s.lane m := rfl
@[simp] theorem State.setCommit_portOf (s : State) (n : Nat) (x : Option PendSet) (m : Nat) : (s.setCommit n x).port m = s.port m := rfl
@[simp] theorem State.setCommit_tgOf (s : State) (n : Nat) (x : Option PendSet) (m : Nat) : (s.setCommit n x).tg m = s.tg m := rfl
@[simp] theorem State.setCommit_hqOf (s : State) (n : Nat) (x : Option PendSet) (m : Nat) : (s.setCommit n x).hq m = s.hq m := rfl
@[simp] theorem State.setCommit_snagOf (s : State) (n : Nat) (x : Option PendSet) (m : Nat) : (s.setCommit n x).snag m = s.snag m := rfl
@[simp] theorem State.setCommit_unitOf (s : State) (n : Nat) (x : Option PendSet) (m : Nat) : (s.setCommit n x).unit m = s.unit m := rfl
@[simp] theorem State.setCommit_seamOf (s : State) (n : Nat) (x : Option PendSet) (m : Nat) : (s.setCommit n x).seam m = s.seam m := rfl
@[simp] theorem State.setCommit_rndOf (s : State) (n : Nat) (x : Option PendSet) (m : Nat) : (s.setCommit n x).rnd m = s.rnd m := rfl
@[simp] theorem State.setCommit_skimOf (s : State) (n : Nat) (x : Option PendSet) (m : Nat) : (s.setCommit n x).skim m = s.skim m := rfl
@[simp] theorem State.setCommit_skimGOf (s : State) (n : Nat) (x : Option PendSet) (m : Nat) : (s.setCommit n x).skimG m = s.skimG m := rfl
@[simp] theorem State.setCommit_stnOf (s : State) (n : Nat) (x : Option PendSet) (m : Nat) : (s.setCommit n x).stn m = s.stn m := rfl
@[simp] theorem State.setCommit_plbOf (s : State) (n : Nat) (x : Option PendSet) (m : Nat) : (s.setCommit n x).plb m = s.plb m := rfl
@[simp] theorem State.setCommit_uclOf (s : State) (n : Nat) (x : Option PendSet) (m : Nat) : (s.setCommit n x).ucl m = s.ucl m := rfl
@[simp] theorem State.setCommit_subOf (s : State) (n : Nat) (x : Option PendSet) (m : Nat) : (s.setCommit n x).sub m = s.sub m := rfl
@[simp] theorem State.setCommit_stpPortOf (s : State) (n : Nat) (x : Option PendSet) (m : Nat) : (s.setCommit n x).stpPort m = s.stpPort m := rfl
@[simp] theorem State.setCommit_dmaChOf (s : State) (n : Nat) (x : Option PendSet) (m : Nat) : (s.setCommit n x).dmaCh m = s.dmaCh m := rfl
@[simp] theorem State.setCommit_tstLaneOf (s : State) (n : Nat) (x : Option PendSet) (m : Nat) : (s.setCommit n x).tstLane m = s.tstLane m := rfl

/-! ### Reads after writes -/

@[simp] theorem State.rd_wr_same (s : State) (f : Fld) (v : Nat) : (s.wr f v).rd f = v % 2 ^ f.w := Regs.get_set_same s.regs f v

theorem State.rd_wr_other (s : State) {f g : Fld} (v : Nat) (h : g.blk ≠ f.blk ∨ g.key ≠ f.key) : (s.wr f v).rd g = s.rd g :=
  Regs.get_set_other s.regs v h

@[simp] theorem State.ctr_inc_same (s : State) (f : Fld) (k : Nat) : (s.inc f k).ctr f = (s.ctr f + k) % 2 ^ f.w :=
  Regs.get_set_same s.cnt f _

theorem State.ctr_inc_other (s : State) {f g : Fld} (k : Nat) (h : g.blk ≠ f.blk ∨ g.key ≠ f.key) : (s.inc f k).ctr g = s.ctr g :=
  Regs.get_set_other s.cnt _ h

@[simp] theorem State.raise_raised (s : State) (e : Nat) : (s.raise e).raised = s.raised ++ [e] := rfl

@[simp] theorem State.lane_set_same (s : State) (n : Nat) (x : Lane) : (s.setLane n x).lane n = x := Tab.get_set_same
theorem State.lane_set_other (s : State) {n m : Nat} (x : Lane) (h : m ≠ n) : (s.setLane n x).lane m = s.lane m := Tab.get_set_other h
@[simp] theorem State.port_set_same (s : State) (n : Nat) (x : Port) : (s.setPort n x).port n = x := Tab.get_set_same
theorem State.port_set_other (s : State) {n m : Nat} (x : Port) (h : m ≠ n) : (s.setPort n x).port m = s.port m := Tab.get_set_other h
@[simp] theorem State.tg_set_same (s : State) (n : Nat) (x : Tg) : (s.setTg n x).tg n = x := Tab.get_set_same
theorem State.tg_set_other (s : State) {n m : Nat} (x : Tg) (h : m ≠ n) : (s.setTg n x).tg m = s.tg m := Tab.get_set_other h
@[simp] theorem State.hq_set_same (s : State) (n : Nat) (x : HawkQ) : (s.setHq n x).hq n = x := Tab.get_set_same
theorem State.hq_set_other (s : State) {n m : Nat} (x : HawkQ) (h : m ≠ n) : (s.setHq n x).hq m = s.hq m := Tab.get_set_other h
@[simp] theorem State.snag_set_same (s : State) (n : Nat) (x : Snag) : (s.setSnag n x).snag n = x := Tab.get_set_same
theorem State.snag_set_other (s : State) {n m : Nat} (x : Snag) (h : m ≠ n) : (s.setSnag n x).snag m = s.snag m := Tab.get_set_other h
@[simp] theorem State.unit_set_same (s : State) (n : Nat) (x : FUnit) : (s.setUnit n x).unit n = x := Tab.get_set_same
theorem State.unit_set_other (s : State) {n m : Nat} (x : FUnit) (h : m ≠ n) : (s.setUnit n x).unit m = s.unit m := Tab.get_set_other h
@[simp] theorem State.seam_set_same (s : State) (n : Nat) (x : Seam) : (s.setSeam n x).seam n = x := Tab.get_set_same
theorem State.seam_set_other (s : State) {n m : Nat} (x : Seam) (h : m ≠ n) : (s.setSeam n x).seam m = s.seam m := Tab.get_set_other h
@[simp] theorem State.rnd_set_same (s : State) (n : Nat) (x : Rnd) : (s.setRnd n x).rnd n = x := Tab.get_set_same
theorem State.rnd_set_other (s : State) {n m : Nat} (x : Rnd) (h : m ≠ n) : (s.setRnd n x).rnd m = s.rnd m := Tab.get_set_other h
@[simp] theorem State.skim_set_same (s : State) (n : Nat) (x : SkimPort) : (s.setSkim n x).skim n = x := Tab.get_set_same
theorem State.skim_set_other (s : State) {n m : Nat} (x : SkimPort) (h : m ≠ n) : (s.setSkim n x).skim m = s.skim m := Tab.get_set_other h
@[simp] theorem State.skimG_set_same (s : State) (n : Nat) (x : SkimGrp) : (s.setSkimG n x).skimG n = x := Tab.get_set_same
theorem State.skimG_set_other (s : State) {n m : Nat} (x : SkimGrp) (h : m ≠ n) : (s.setSkimG n x).skimG m = s.skimG m := Tab.get_set_other h
@[simp] theorem State.stn_set_same (s : State) (n : Nat) (x : Stn) : (s.setStn n x).stn n = x := Tab.get_set_same
theorem State.stn_set_other (s : State) {n m : Nat} (x : Stn) (h : m ≠ n) : (s.setStn n x).stn m = s.stn m := Tab.get_set_other h
@[simp] theorem State.plb_set_same (s : State) (n : Nat) (x : Plb) : (s.setPlb n x).plb n = x := Tab.get_set_same
theorem State.plb_set_other (s : State) {n m : Nat} (x : Plb) (h : m ≠ n) : (s.setPlb n x).plb m = s.plb m := Tab.get_set_other h
@[simp] theorem State.ucl_set_same (s : State) (n : Nat) (x : UClass) : (s.setUcl n x).ucl n = x := Tab.get_set_same
theorem State.ucl_set_other (s : State) {n m : Nat} (x : UClass) (h : m ≠ n) : (s.setUcl n x).ucl m = s.ucl m := Tab.get_set_other h
@[simp] theorem State.sub_set_same (s : State) (n : Nat) (x : SubPort) : (s.setSub n x).sub n = x := Tab.get_set_same
theorem State.sub_set_other (s : State) {n m : Nat} (x : SubPort) (h : m ≠ n) : (s.setSub n x).sub m = s.sub m := Tab.get_set_other h
@[simp] theorem State.stpPort_set_same (s : State) (n : Nat) (x : StpPort) : (s.setStpPort n x).stpPort n = x := Tab.get_set_same
theorem State.stpPort_set_other (s : State) {n m : Nat} (x : StpPort) (h : m ≠ n) : (s.setStpPort n x).stpPort m = s.stpPort m := Tab.get_set_other h
@[simp] theorem State.dmaCh_set_same (s : State) (n : Nat) (x : DmaCh) : (s.setDmaCh n x).dmaCh n = x := Tab.get_set_same
theorem State.dmaCh_set_other (s : State) {n m : Nat} (x : DmaCh) (h : m ≠ n) : (s.setDmaCh n x).dmaCh m = s.dmaCh m := Tab.get_set_other h
@[simp] theorem State.tstLane_set_same (s : State) (n : Nat) (x : TstLane) : (s.setTst n x).tstLane n = x := Tab.get_set_same
theorem State.tstLane_set_other (s : State) {n m : Nat} (x : TstLane) (h : m ≠ n) : (s.setTst n x).tstLane m = s.tstLane m := Tab.get_set_other h
@[simp] theorem State.commit_set_same (s : State) (n : Nat) (x : Option PendSet) : (s.setCommit n x).commit n = x := Tab.get_set_same
theorem State.commit_set_other (s : State) {n m : Nat} (x : Option PendSet) (h : m ≠ n) : (s.setCommit n x).commit m = s.commit m := Tab.get_set_other h

end Sys2Proof.Machine
end

