-- ==== Sys2Proof/Machine/Balls.lean ====
section
/-! DEFINITION. The ball assignment of the package (R16, R580 to R585): which signal or supply lies at each ball. It is a table of the
device; no command changes it, and `step` does not read it. -/

namespace Sys2Proof.Machine

/-- A signal of a memory subchannel (R583). -/
inductive MemBall where
  | dq (i : Nat) | cb (i : Nat) | dqs (k : Nat) (neg : Bool) | ca (i : Nat) | cs (i : Nat) | ck (neg : Bool) | alert | reset
  deriving DecidableEq, Repr

/-- What a ball carries: a supply, ground or a signal of the fixed region by its name; a sensor lane; an uplink lane; a memory
channel's signal in subchannel A or B. -/
inductive Ball where
  | named (name : String)
  | vsl (tx : Bool) (n : Nat) (neg : Bool)
  | up (tx : Bool) (u : Nat) (neg : Bool)
  | mem (m : Nat) (b : Bool) (s : MemBall)
  deriving DecidableEq, Repr

def Ball.vss : Ball := .named "VSS"

/-- The letters of a tier of rows (R16). -/
def rowLetters : List String := ["A", "B", "C", "D", "E", "F", "G", "H", "J", "K", "L", "M", "N", "P", "T", "U", "V", "W", "Y"]

/-- The letters of row `r`, 1 to 59 (R16). -/
def rowName (r : Nat) : String := ["", "A", "B", "C"].getD ((r - 1) / 19) "" ++ rowLetters.getD ((r - 1) % 19) ""

/-- The fixed region, row by row (R585). -/
def fixedRows : List (List String) :=
  [["VSS", "REFCLK_SYS_P", "REFCLK_SYS_N", "VSS", "VDD_AON"],
   ["VSS", "VSS", "VSS", "VSS", "VDD_AON"],
   ["VSS", "REFCLK_VSL_P", "REFCLK_VSL_N", "VSS", "VDD_AONIO"],
   ["VSS", "VSS", "VSS", "VSS", "VDD_AONIO"],
   ["VSS", "REFCLK_UP_P", "REFCLK_UP_N", "VSS", "VDD_IO"],
   ["VSS", "VSS", "VSS", "VSS", "VDD_IO"],
   ["MGE_TXP", "MGE_TXN", "VSS", "MGE_RXP", "MGE_RXN"],
   ["VSS", "VSS", "VSS", "VSS", "VSS"],
   ["AON_XIN", "AON_XOUT", "VSS", "VDD_AON", "VDD_AON"],
   ["POR_N", "SYS_RST_N", "WAKE_N", "RAIL_EN", "THERMTRIP_N"],
   ["BOOT_SEL[0]", "BOOT_SEL[1]", "BOOT_SEL[2]", "ALIVE", "VSS"],
   ["IRQ_N[0]", "IRQ_N[1]", "IRQ_N[2]", "IRQ_N[3]", "VDD_AONIO"],
   ["MGMT_SPI_CS_N", "MGMT_SPI_SCLK", "VSS", "MGMT_SPI_IO[0]", "MGMT_SPI_IO[1]"],
   ["MGMT_SPI_IO[2]", "MGMT_SPI_IO[3]", "VSS", "VDD_AONIO", "VSS"],
   ["BOOT_SPI_CS_N", "BOOT_SPI_SCLK", "VSS", "BOOT_SPI_DQS", "VDD_IO"],
   ["BOOT_SPI_DQ[0]", "BOOT_SPI_DQ[1]", "BOOT_SPI_DQ[2]", "BOOT_SPI_DQ[3]", "VSS"],
   ["BOOT_SPI_DQ[4]", "BOOT_SPI_DQ[5]", "BOOT_SPI_DQ[6]", "BOOT_SPI_DQ[7]", "VSS"],
   ["SMB_SCL", "SMB_SDA", "VSS", "VDD_IO", "VSS"],
   ["TCK", "TMS", "TDI", "TDO", "TRST_N"],
   ["VSS", "VSS", "VSS", "VSS", "VSS"],
   ["VDD_CORE_SNS", "VSS_CORE_SNS", "VSS", "CAL_EXT", "MEM_CAL"]]

def fixedBall (r c : Nat) : Ball := .named ((fixedRows.getD (r - 1) []).getD (c - 1) "VSS")

/-- The sensor region (R581). -/
def sensorBall (r c : Nat) : Ball :=
  let n := 16 * (3 * ((r - 1) / 6) + (c - 6) / 16) + (c - 6) % 16
  match (r - 1) % 6 with
  | 1 => .vsl false n false
  | 2 => .vsl false n true
  | 4 => .vsl true n false
  | 5 => .vsl true n true
  | _ => .vss

/-- The uplink region (R582). -/
def uplinkBall (r c : Nat) : Ball :=
  let u := (r - 1) / 3
  match (r - 1) % 3 with
  | 0 => match c with
    | 55 => .up true u false
    | 56 => .up true u true
    | 58 => .up false u false
    | 59 => .up false u true
    | _ => .vss
  | 1 => .vss
  | _ => .named (if c ≤ 56 then "VDDA_UP" else "VDDH_UP")

/-- The power region (R584). -/
def powerBall (r c : Nat) : Ball :=
  if r ≤ 26 ∧ c % 2 = 1 then .named "VDDA_VSL"
  else if r = 27 ∧ c % 2 = 1 then .named "VDDH_VSL"
  else if 28 ≤ r ∧ r ≤ 34 ∧ (r + c) % 2 = 0 then .named "VDD_CORE"
  else .vss

/-- Bit `i` of the byte lanes of a subchannel: lane 4 carries the check bits (R583). -/
def memBit (i : Nat) : MemBall := if i < 32 then .dq i else .cb (i - 32)

/-- Control ball `q` of a subchannel; 19 is ground (R583). -/
def memControl (b : Bool) (q : Nat) : Option MemBall :=
  if q < 14 then some (.ca q)
  else match q with
    | 14 => some (.cs 0)
    | 15 => some (.cs 1)
    | 16 => some (.ck false)
    | 17 => some (.ck true)
    | 18 => some (if b then .reset else .alert)
    | _ => none

/-- The memory region (R583). -/
def memoryBall (r c : Nat) : Ball :=
  let m := (c - 2) / 14 + if r < 48 then 4 else 0
  let dr := (r - 36) % 12
  let dc := (c - 2) % 14
  let b := decide (7 ≤ dc)
  let x := dc % 7
  if dr = 10 then .named "VDDQ_MEM"
  else if dr = 11 then .vss
  else if 5 ≤ x then match memControl b (2 * dr + (x - 5)) with
    | some s => .mem m b s
    | none => .vss
  else if dr % 2 = 0 then .mem m b (memBit (8 * (dr / 2) + x))
  else if x < 3 then .mem m b (memBit (8 * (dr / 2) + 5 + x))
  else .mem m b (.dqs (dr / 2) (x == 4))

/-- The ball at row `r` and column `c`, 1 to 59 each (R580). -/
def ballAt (r c : Nat) : Option Ball :=
  if r = 0 ∨ 59 < r ∨ c = 0 ∨ 59 < c then none
  else some (
    if r ≤ 24 then (if c ≤ 5 then fixedBall r c else if c ≤ 53 then sensorBall r c else uplinkBall r c)
    else if r ≤ 35 then powerBall r c
    else if c = 1 then .named (if r % 2 = 0 then "VDDA_MEM" else "VSS")
    else if 58 ≤ c then .vss
    else memoryBall r c)

/-- Balls without a boundary cell (R546): the TAP, THERMTRIP_N, calibration, and the supplies with their sense balls. -/
def unscanned : List String :=
  ["TCK", "TMS", "TDI", "TDO", "TRST_N", "THERMTRIP_N", "CAL_EXT", "MEM_CAL", "VSS", "VDD_AON", "VDD_AONIO", "VDD_IO", "VDD_CORE",
   "VDDA_UP", "VDDH_UP", "VDDA_VSL", "VDDH_VSL", "VDDQ_MEM", "VDDA_MEM", "VDD_CORE_SNS", "VSS_CORE_SNS"]

/-- A ball is covered by the boundary register (R546). -/
def Ball.scanned : Ball → Bool
  | .named n => !unscanned.contains n
  | _ => true

/-- A ball is AC-coupled, and covered under IEEE 1149.6; the others under 1149.1 (R546). -/
def Ball.acCoupled : Ball → Bool
  | .vsl .. | .up .. => true
  | _ => false

/-- The balls of the boundary register, by row and then by column, from A1 (R546). -/
def boundaryBalls : List (Nat × Nat) :=
  (List.range 59).flatMap (fun r =>
    ((List.range 59).filter (fun c => (ballAt (r + 1) (c + 1)).any Ball.scanned)).map (fun c => (r + 1, c + 1)))

end Sys2Proof.Machine
end

