-- ==== Sys2Proof/Tests/Slice0.lean ====
section
/-! SUPPORT. Tests: the well-formedness checks, a witness of the hypotheses of each statement, and worked examples of the spec. -/

namespace Sys2Proof.Machine

set_option Elab.async false

/-! ### Helpers -/

/-- The state that an outcome answers, `d` without one. -/
def after (o : Host.Outcome State Fault Refusal) (d : State) : State := match o with | .next t => t | _ => d

/-- CRC-32C with the register evaluated byte by byte. -/
def crcStrict : List Byte → Nat → Nat
  | [], c => c
  | b :: t, c =>
    match iter (crcShr 0x82F63B78) 8 (c ^^^ b.toNat) with
    | 0 => crcStrict t 0
    | n + 1 => crcStrict t (n + 1)

/-- `crc32c` in that form. -/
def crc32cStrict (bs : List Byte) : Nat := crcStrict bs 0xFFFFFFFF ^^^ 0xFFFFFFFF

/-- A result is `.ok e` where its optional form is `some e`. -/
theorem except_ok {ε α : Type} {x : Except ε α} {e : α} (h : x.toOption = some e) : x = .ok e := by
  cases x with
  | error _ => simp [Except.toOption] at h
  | ok _ => simpa [Except.toOption] using h

/-- The state after reset with the fields of `l` written. -/
def w (l : List (Fld × Nat)) : State := l.foldl (fun s x => s.wr x.1 x.2) State.reset

/-- Lane `n` in state `st` with hidden state `l`. -/
def wLane (n st : Nat) (l : Lane) : State := (w [(R.VSP_LANE_STAT_STATE n, st)]).setLane n l

/-- Ports 4 and 5 as a gang of two lanes in state `st`. -/
def wGang (st : Nat) : State :=
  w [(R.VSP_LANE_STAT_GANG 4, 1), (R.VSP_LANE_STAT_GANG 5, 1), (R.VSP_LANE_STAT_LANE 5, 1), (R.VSP_LANE_STAT_STATE 4, st),
     (R.VSP_LANE_STAT_STATE 5, st), (R.VSP_LANE_STAT_ALIGNED 4, 1)]

/-- Port `n` in UP with hidden state `p`. -/
def wPort (n : Nat) (p : Port) : State := (w [(R.VSP_LANE_STAT_STATE n, 3)]).setPort n p

/-- Hawk queue `q` in state `h`. -/
def wHq (q : Nat) (h : HawkQ) : State := State.reset.setHq q h

/-- A unit in state `u`. -/
def wUnit (c : Nat) (u : FUnit) : State := State.reset.setUnit c u

/-- DMA channel `c` in RUN with hidden state `d`. -/
def wDma (c : Nat) (d : DmaCh) : State := (w [(R.DMA_CH_STAT_STATE c, 1)]).setDmaCh c d

/-- A line header of port `n` with the given line, exposure time, pixels and length. -/
def hdr0 (line exp pixels len : Nat) : List Byte :=
  [1#8, 1#8, 0#8, 0#8, 0#8, 0#8, 0#8, 0#8] ++ beBytes 4 line ++ beBytes 8 exp ++ beBytes 2 pixels ++ [1#8, 0#8] ++ beBytes 3 len ++ [0#8, 0#8, 0#8]

def hdrC (h : List Byte) : List Byte := h ++ beBytes 2 (crc16 h)


/-- A history item of group 23. -/
def wItem : HstItem := ⟨0, 23, 0, 5, 7, 1, 1, 0, 0, 0, 1, 4, 1, 1, 3, [1#8, 2#8], false, 0, none⟩

/-- The history in state `st` with hidden state `h`. -/
def wHst (st : Nat) (h : Hst) : State := { w [(R.HST_STAT_STATE, st), (R.HST_RING_SIZE, 16)] with hst := h }

/-- A replay request of a window, to memory. -/
def wReq : RpReq := ⟨0, 5, 1, 1, 9, 0, 100, 50, false, 0, 0⟩

/-- A replay that runs. -/
def wRun : RpRun := ⟨{ wReq with toMem := true }, 0, false, false, false, [], 0, 0, none⟩

/-- Job port 3 with hidden state `p`. -/
def wStp (p : StpPort) : State := State.reset.setStpPort 3 p

/-- An encode job over SCRATCH. -/
def wJob (op : Nat) : StpJob := ⟨op, false, 0, 5, 9, true, 1, 32, scratchBase, scratchBase + 4096, 32, 1024⟩

/-- A unit taped off on its own. -/
def wTaped : Taping := ⟨5, 2, false⟩

/-- An fxt frame with one operation that reads address 1. -/
def wMgmt : List Byte :=
  let f : List Byte := [0x10#8, 0x10#8, 0#8, 0#8] ++ beBytes 4 9 ++ [0#8, 0#8, 0#8, 16#8] ++ zeros 20 ++
    [0#8, 1#8, 0#8, 0#8, 1#8, 0#8, 0#8, 0#8] ++ beBytes 4 1 ++ beBytes 4 0
  f ++ beBytes 4 (crc32c f)

/-- The management Ethernet port in use. -/
def wMge : State := w [(R.GLB_MGE_CTRL_EN, 1), (R.GLB_MGE_CTRL_LINK, 1)]

/-- A step of start-up. -/
def wBoot (stage step : Nat) (b : Boot) : State := { w [(R.BOT_STAT_STAGE, stage), (R.BOT_STAT_STEP, step)] with boot := b }

/-- The power state and a transition. -/
def wPwr (st tr : Nat) : State := w [(R.BOT_STAT_STAGE, 5), (R.THM_PWR_STAT_STATE, st), (R.THM_PWR_STAT_TRANS, tr)]

/-- Security state `x` over fuses `f`. -/
def wSec (f : Fuses) (x : Sec) : State := { State.reset with fuses := f, sec := x }

/-- Port 7 as the only member of group 23, with `l` written. -/
def wMemb (l : List (Fld × Nat)) : State := w ([(R.VSP_PORT_CFG_GROUP 7, 23), (R.SEM_CFG_NMEMB 23, 1), (R.SEM_MEMB_PORT_PORT 23 0, 7)] ++ l)

/-- A bank with a valid header and no region. -/
def wBank : List Host.Cell := [(0, 0x52#8), (1, 0x4E#8), (2, 1#8)]

/-- A row in Seam, of one member that is still awaited. -/
def wRow : SeamRow := ⟨7, 107, 50, 60, none, [⟨none, none⟩], none, none, false⟩

/-- A row that Seam has emitted. -/
def wOut : RowData := ⟨7, 107, 50, 60, 55, 1, 1, 0, 0, 0, 1, 1, 0, [[9]], [true]⟩

/-- Group 23 in run with hidden Seam state `x`. -/
def wSeam (x : Seam) : State := (wMemb [(R.CHK_TG_CTRL_EN 23, 1)]).setSeam 23 x

/-- An object record of group `g`. -/
def wRec (g : Nat) : ObjRec := ⟨g, 9, 12, 3, zeros 256⟩

/-- Accumulators of an object of one run. -/
def wAcc : Acc8 := ⟨1, 1, 101, 101, 5, 5, 0, 3, 3, 1, 4, 3, 1, [(1, 2), (0, 0), (0, 0), (0, 0)], List.replicate 16 0, 0⟩

/-- Such an object, ended. -/
def wEnded : Ended :=
  ⟨wAcc, ⟨1, 64, 1, [0], 0, 0, 0, false, false, 0, 0⟩, 0, ⟨1, ⟨1, 64, 1, [0], 0, 0, 0, false, false, 0, 0⟩, some wAcc, none, 0, 0, 0, false⟩, false, false⟩

/-- The header of an image with five sections. -/
def wLathHdr : List Byte := zeros 12 ++ leBytes 2 5 ++ zeros 242

/-- The section table entry of section type `t` at `off` with data `d`. -/
def wSect (t off : Nat) (d : List Byte) : List Byte := leBytes 2 t ++ leBytes 2 0 ++ leBytes 4 off ++ leBytes 4 d.length ++ leBytes 4 (crc32cStrict d)

/-- The body of a full image with the five sections that R279 asks for and no group. -/
def wLathBody : List Byte :=
  let m := [0#8, 0#8, 8#8] ++ zeros 77
  let u := [0#8, 0xFF#8, 1#8] ++ zeros 29
  let o := (List.range 192).map byte
  wSect 0x10 0x180 m ++ wSect 0x11 0x200 u ++ wSect 0x12 0x240 (zeros 4) ++ wSect 0x13 0x280 o ++ wSect 0x14 0x340 (zeros 4) ++ zeros 48 ++
    m ++ zeros 48 ++ u ++ zeros 32 ++ zeros 64 ++ o ++ zeros 64

/-- The Lath loader in state `st` with hidden state `l`. -/
def wLdr (st : Nat) (l : Ldr) : State := { w [(R.BOT_STAT_STAGE, 5), (R.GLB_LATH_STAT_STATE, st)] with ldr := l }

/-- Sub-port 7 up at 25 Gbit/s, its class 3 taking every type with half of its rate, with `l` written. -/
def wUp (l : List (Fld × Nat)) : State :=
  w ([(R.UPL_SP_STAT_STATE 7, 3), (R.UPL_SP_STAT_RATE 7, 1), (R.UPL_CLASS_KINDS (cix 7 3), 127), (R.UPL_CLASS_SHARE_LIVE_SHARE_LIVE (cix 7 3), 512)] ++ l)

/-- An encapsulation over L2. -/
def wEncap : Encap := ⟨0, false, 0, 0, 0x88B5, zeros 6, zeros 6, 0, 0, [], [], 0⟩

/-- A frame of class 3. -/
def wFrame (d : Option Nat) : Frame := ⟨wEncap, 1, zeros 32, zeros 4, d, 3⟩

/-- The uplink PTP clock in use on sub-port 7 in domain 9. -/
def wPtp (p : Ptp) : State :=
  { w [(R.UPL_PTP_CFG_EN, 1), (R.UPL_PTP_CFG_SUBPORT, 7), (R.UPL_PTP_CFG_DOMAIN, 9), (R.UPL_PTP_CFG_DISCIPLINE, 0)] with ptp := p }

/-- Port 2 in UP with lock and the trigger of line 9 outstanding. -/
def wP1 : State :=
  (w [(R.VSP_LANE_STAT_STATE 2, 3), (R.VSP_LANE_STAT_BLOCK_LOCK 2, 1), (R.VSP_STREAM_PIXELS 2 0, 4), (R.VSP_STREAM_BANDS 2 0, 1),
    (R.VSP_PORT_CFG_GROUP 2, 255), (R.VSP_STREAM_FORMAT 2 0, 0)]).setPort 2 { Port.init with trigs := [⟨7, 9, 1000, 2000, 0, false⟩] }

/-- A packet of four payload bytes whose header has been accepted. -/
def wPkt : Pkt := ⟨hdrC (hdr0 9 1000 4 4), 7, 1000, true, false, 0, []⟩

/-- Port 2 in UP with lock and a packet in progress. -/
def wP2 (k : Pkt) : State := (wPort 2 { Port.init with pkt := some k }).wr (R.VSP_LANE_STAT_BLOCK_LOCK 2) 1

/-- A descriptor of two blocks over SCRATCH. -/
def wDesc : DmaDesc := ⟨scratchBase, scratchBase + 128, 128, true, false, false, false, 0, 64, 0, false⟩

/-- A frame over L2 to FXT_SMAC with payload `f`. -/
def wRx (f : List Byte) : RxFrame := ⟨zeros 6 ++ zeros 6 ++ [0x88#8, 0xB5#8] ++ f, false⟩

/-- A received MAC control frame. -/
def wRxControl : RxFrame := ⟨[0x01#8, 0x80#8, 0xC2#8, 0#8, 0#8, 1#8] ++ zeros 6 ++ [0x88#8, 0x08#8] ++ zeros 46, false⟩

/-- A replay request while the newest index line is an uncorrectable line. -/
def wRp11 : State :=
  { wHst 2 { Hst.init with nidx := 1 } with
      replay := { Replay.init with queue := [wReq] }, mem := { Dram.init with gib := 16, chans := [0], present := true, bad := [0] } }

/-- A run of zero bytes is 0. -/
theorem leNat_zeros : ∀ l : List Byte, (∀ b ∈ l, b = 0) → leNat l = 0
  | [], _ => rfl
  | b :: t, h => by
    have h1 := leNat_zeros t (fun x hx => h x (List.mem_cons_of_mem _ hx))
    have h2 := h b List.mem_cons_self
    simp only [leNat, List.foldr_cons] at h1 ⊢
    rw [h1, h2]; rfl

/-- An empty HOSTLOAD window holds no directory. -/
theorem slotCheck_empty (s : State) : s.slotCheck (memRead [] 0 2097152) 2097152 = .error (1, 0, 0) := by
  have h : leAt (memRead [] 0 2097152) 0 4 = 0 := leNat_zeros _ (fun b hb => by
    obtain ⟨_, _, rfl⟩ := List.mem_map.mp (List.mem_of_mem_drop (List.mem_of_mem_take hb)); rfl)
  simp [State.slotCheck, dirValid, h]

/-- A tag of 17 bytes is no access tag. -/
theorem tag17_ne (key : List Byte) (ctr op a d : Nat) : zeros 17 ≠ accessTag key ctr op a d := fun h => by
  have h1 := congrArg List.length h
  simp [accessTag, zeros] at h1
  omega

theorem crcStrict_eq : ∀ (bs : List Byte) (c : Nat),
    crcStrict bs c = bs.foldl (fun c b => iter (crcShr 0x82F63B78) 8 (c ^^^ b.toNat)) c
  | [], _ => rfl
  | b :: t, c => by
    rw [crcStrict, List.foldl_cons]
    split <;> rename_i h <;> rw [h] <;> exact crcStrict_eq t _

theorem crc32c_strict : crc32c = crc32cStrict := by
  funext bs
  rw [crc32c, crc32cStrict, crcStrict_eq]

theorem lathError_none : (wLdr 3 { Ldr.init with image := wLathHdr, body := wLathBody }).lathError
    (wLdr 3 { Ldr.init with image := wLathHdr, body := wLathBody }).ldr.image
    (wLdr 3 { Ldr.init with image := wLathHdr, body := wLathBody }).lath = none := by
  have h : ∀ l, Lath.secBad l = fun x => _ := fun l => funext fun x => by rw [Lath.secBad.eq_1, crc32c_strict]
  unfold State.lathError
  simp only [h]
  decide +kernel

/-! ### Witnesses of hypotheses -/

/-- States and operands that meet the hypotheses of `Obligations.EveryCommandCompletes`, clause by clause. -/
theorem witness_EveryCommandCompletes :
    (∃ (s : State), s.pending = []) ∧
    (∃ (s : State), s.asleep = true) ∧
    (∃ (s : State), s.asleep = false) :=
  ⟨⟨State.reset, by decide +kernel⟩,
   ⟨{ State.reset with power := { Power.init with off := true } }, by decide +kernel⟩,
   ⟨{ State.reset with chalk := { Chalk.init with run := true } }, by decide +kernel⟩⟩

/-- States and operands that meet the hypotheses of `Obligations.StepKeepsSound`, clause by clause. -/
theorem witness_StepKeepsSound :
    (∃ (s : State) (t : State), s.Sound ∧ step s = Host.Outcome.next t) :=
  ⟨State.reset, idleCycle State.reset, ⟨⟨⟨by decide, by decide, by decide, by decide, by decide, by decide, by decide, by decide⟩, ⟨by decide, nofun, nofun⟩⟩, rfl⟩⟩

/-- States and operands that meet the hypotheses of `Obligations.FusesNeverGoBack`, clause by clause. -/
theorem witness_FusesNeverGoBack :
    (∃ (s : State) (t : State) (k : Nat), s.Lifecycle ∧ step s = Host.Outcome.next t ∧ 1 ≤ k ∧ k < 16 ∧ s.fuses.revoked.testBit k = true) :=
  ⟨{ State.reset with fuses := { Fuses.blank with revoked := 2 } }, idleCycle { State.reset with fuses := { Fuses.blank with revoked := 2 } }, 1, ⟨⟨by decide, nofun, nofun⟩, rfl, by decide +kernel, by decide +kernel, by decide +kernel⟩⟩

/-- States and operands that meet the hypotheses of `Obligations.ResetState`, clause by clause. -/
theorem witness_ResetState :
    (∃ (g : Nat), g < 24) ∧
    (∃ (n : Nat), n < 192) ∧
    (∃ (c : Nat), c < 16) ∧
    (∃ (f : Fld), f.rst = 0) :=
  ⟨⟨23, by decide +kernel⟩,
   ⟨191, by decide +kernel⟩,
   ⟨15, by decide +kernel⟩,
   ⟨R.GLB_COMMIT_STAT_RESULT, by decide +kernel⟩⟩

/-- States and operands that meet the hypotheses of `Obligations.AsleepBlockIsStill`, clause by clause. -/
theorem witness_AsleepBlockIsStill :
    (∃ (c : Instr) (s : State), s.asleep = true ∧ c.alwaysOn = false) :=
  ⟨.fltAckAll, { State.reset with power := { Power.init with off := true } }, by decide +kernel⟩

/-- States and operands that meet the hypotheses of `Obligations.MemoryReadsBack`, clause by clause. -/
theorem witness_MemoryReadsBack :
    (∃ (m : List Host.Cell) (a : Nat) (bs : List Byte) (k : Nat), Memory.wf m = true ∧ (k < a ∨ a + bs.length ≤ k)) ∧
    (∃ (m : List Host.Cell) (n : List Host.Cell), Memory.wf m = true ∧ Memory.wf n = true ∧ (∀ (k : Nat), memRead m k 1 = memRead n k 1)) :=
  ⟨⟨[(3, 7#8)], 3, [1#8, 0#8], 5, by decide +kernel⟩,
   ⟨[(3, 7#8)], [(3, 7#8)], ⟨by decide +kernel, by decide +kernel, fun _ => rfl⟩⟩⟩

/-- States and operands that meet the hypotheses of `Obligations.CalmStateStays`, clause by clause. -/
theorem witness_CalmStateStays :
    (∃ (s : State), s.raised = [] ∧ s.ruleTaped = [] ∧ (∀ (x : Nat × TstLane), x ∈ s.tst → x.snd.eye = false) ∧ s.answered = false) :=
  ⟨State.reset, by decide +kernel⟩

/-- States and operands that meet the hypotheses of `Obligations.SnapshotCommands`, clause by clause. -/
theorem witness_SnapshotCommands :
    (∃ (s : State), s.asleep = false ∧ s.rd R.GLB_SNAP_CTRL_PERIOD ≠ 0 ∧ s.flag R.GLB_SNAP_CTRL_HOLD = false) ∧
    (∃ (s : State), s.asleep = false ∧ s.flag R.GLB_SNAP_CTRL_HOLD = true) ∧
    (∃ (s : State), s.asleep = false ∧ s.rd R.GLB_SNAP_CTRL_PERIOD = 0) ∧
    (∃ (s : State), s.asleep = false ∧ s.flag R.GLB_SNAPSHOT_BUSY = true) ∧
    (∃ (s : State), s.asleep = false ∧ s.flag R.GLB_SNAPSHOT_BUSY = false) ∧
    (∃ (s : State), s.asleep = false) ∧
    (∃ (s : State), s.asleep = false ∧ (∀ (e : Nat), e ∈ [1520, 1521, 1522, 1523] → (s.snag e).live = false) ∧ s.boot.early = []) :=
  ⟨⟨w [(R.GLB_SNAP_CTRL_PERIOD, 1)], by decide +kernel⟩,
   ⟨w [(R.GLB_SNAP_CTRL_HOLD, 1)], by decide +kernel⟩,
   ⟨w [], by decide +kernel⟩,
   ⟨w [(R.GLB_SNAPSHOT_BUSY, 1), (R.GLB_SNAPSHOT_SEQ, 255)], by decide +kernel⟩,
   ⟨w [], by decide +kernel⟩,
   ⟨w [(R.BOT_STAT_STAGE, 5)], by decide +kernel⟩,
   ⟨w [(R.BOT_STAT_STAGE, 3)], by decide +kernel⟩⟩

/-- States and operands that meet the hypotheses of `Obligations.ChalkTimeCommands`, clause by clause. -/
theorem witness_ChalkTimeCommands :
    (∃ (s : State), s.asleep = false ∧ s.anyTg = true) ∧
    (∃ (s : State), s.asleep = false ∧ s.anyTg = false) ∧
    (∃ (s : State), s.asleep = false) ∧
    (∃ (s : State), s.asleep = false ∧ s.chalk.run = true) ∧
    (∃ (s : State), s.asleep = false ∧ s.chalk.run = false) :=
  ⟨⟨w [(R.CHK_TG_CTRL_EN 23, 1)], by decide +kernel⟩,
   ⟨{ w [(R.CHK_SET_LO, 5), (R.BOT_STAT_STAGE, 5)] with chalk := { Chalk.init with time := 2 ^ 40, phase := 7 } }, by decide +kernel⟩,
   ⟨w [], by decide +kernel⟩,
   ⟨{ State.reset with chalk := ⟨2 ^ 50, 2 ^ 20, true, 9⟩ }, by decide +kernel⟩,
   ⟨w [], by decide +kernel⟩⟩

/-- States and operands that meet the hypotheses of `Obligations.TriggerGeneratorCommands`, clause by clause. -/
theorem witness_TriggerGeneratorCommands :
    (∃ (s : State) (g : Fin 24), s.asleep = false ∧ s.inP1 = false ∧ s.tgEn g.val = false ∧ s.devFault = false) ∧
    (∃ (s : State) (g : Fin 24), s.asleep = false ∧ s.inP1 = false ∧ (s.tgEn g.val = true ∨ s.devFault = true)) ∧
    (∃ (s : State) (g : Fin 24), s.asleep = false ∧ s.inP1 = false ∧ s.tgEn g.val = true) ∧
    (∃ (s : State), s.asleep = false ∧ s.inP1 = true) ∧
    (∃ (s : State) (g : Fin 24) (off : Fin 16), s.asleep = false ∧ s.tgEn g.val = true ∧ 1 ≤ off.val ∧ off.val ≤ 6) ∧
    (∃ (s : State) (g : Fin 24), s.asleep = false ∧ s.tgEn g.val = false) :=
  ⟨⟨w [(R.CHK_TG_START_LO 23, 1000)], 23, by decide +kernel⟩,
   ⟨w [(R.CHK_TG_CTRL_EN 0, 1)], 0, by decide +kernel⟩,
   ⟨w [(R.CHK_TG_CTRL_EN 0, 1)], 0, by decide +kernel⟩,
   ⟨w [(R.THM_PWR_STAT_STATE, 1)], by decide +kernel⟩,
   ⟨w [(R.CHK_TG_CTRL_EN 0, 1)], 0, 1, by decide +kernel⟩,
   ⟨w [], 23, by decide +kernel⟩⟩

/-- States and operands that meet the hypotheses of `Obligations.LaneLockCommands`, clause by clause. -/
theorem witness_LaneLockCommands :
    (∃ (s : State) (n : Fin 192), s.asleep = false ∧ s.tstMode n.val = 0 ∧ s.laneState n.val = 1) ∧
    (∃ (s : State) (n : Fin 192), s.asleep = false ∧ s.tstMode n.val = 0 ∧ s.laneState n.val ≠ 0 ∧ s.laneState n.val ≠ 1) ∧
    (∃ (s : State) (n : Fin 192), s.asleep = false ∧ s.tstMode n.val = 0 ∧ s.laneState n.val = 0) ∧
    (∃ (s : State) (n : Fin 192), s.asleep = false ∧ s.tstMode n.val = 0 ∧ (s.laneState n.val = 0 ∨ s.flag (R.VSP_LANE_STAT_BLOCK_LOCK n.val) = false)) ∧
    (∃ (s : State) (n : Fin 192), s.asleep = false ∧ s.tstMode n.val = 0 ∧ s.laneState n.val ≠ 0 ∧ s.flag (R.VSP_LANE_STAT_BLOCK_LOCK n.val) = true ∧ s.laneState n.val ≠ 2 ∧ s.laneState n.val ≠ 3) ∧
    (∃ (s : State) (n : Fin 192), s.asleep = false ∧ s.tstMode n.val = 0 ∧ s.laneState n.val ≠ 0 ∧ s.flag (R.VSP_LANE_STAT_BLOCK_LOCK n.val) = true ∧ s.laneState n.val = 2) ∧
    (∃ (s : State) (n : Fin 192), s.asleep = false ∧ s.tstMode n.val = 0 ∧ s.laneState n.val ≠ 0 ∧ s.flag (R.VSP_LANE_STAT_BLOCK_LOCK n.val) = true ∧ s.laneState n.val = 3 ∧ s.inGang n.val = false) ∧
    (∃ (s : State) (n : Fin 192), s.asleep = false ∧ s.tstMode n.val = 0 ∧ s.laneState n.val ≠ 0 ∧ s.flag (R.VSP_LANE_STAT_BLOCK_LOCK n.val) = true ∧ s.laneState n.val = 3 ∧ s.inGang n.val = true) ∧
    (∃ (s : State) (n : Fin 192), s.asleep = false ∧ s.tstMode n.val = 0 ∧ (∃ i, i ∈ s.chan n.val ∧ s.laneState i = 1 ∧ (s.lane i).lockTimer = true)) ∧
    (∃ (s : State) (n : Fin 192), s.asleep = false ∧ s.tstMode n.val = 0 ∧ (∀ (i : Nat), i ∈ s.chan n.val → s.laneState i = 1 → (s.lane i).lockTimer = false)) ∧
    (∃ (s : State) (n : Fin 192), s.asleep = false ∧ s.tstMode n.val = 0 ∧ (∃ i, i ∈ s.chan n.val ∧ (s.lane i).trainAt.isSome = true ∧ (s.laneState i = 1 ∨ s.laneState i = 2))) ∧
    (∃ (s : State) (n : Fin 192), s.asleep = false ∧ s.tstMode n.val = 0 ∧ (∀ (i : Nat), i ∈ s.chan n.val → (s.lane i).trainAt = none)) :=
  ⟨⟨w [(R.VSP_LANE_STAT_STATE 191, 1)], 191, by decide +kernel⟩,
   ⟨w [(R.VSP_LANE_STAT_STATE 191, 4)], 191, by decide +kernel⟩,
   ⟨w [], 0, by decide +kernel⟩,
   ⟨w [(R.VSP_LANE_STAT_STATE 191, 1)], 191, by decide +kernel⟩,
   ⟨w [(R.VSP_LANE_STAT_STATE 191, 7), (R.VSP_LANE_STAT_BLOCK_LOCK 191, 1)], 191, by decide +kernel⟩,
   ⟨w [(R.VSP_LANE_STAT_STATE 0, 2), (R.VSP_LANE_STAT_BLOCK_LOCK 0, 1)], 0, by decide +kernel⟩,
   ⟨w [(R.VSP_LANE_STAT_STATE 191, 3), (R.VSP_LANE_STAT_BLOCK_LOCK 191, 1)], 191, by decide +kernel⟩,
   ⟨(wGang 3).wr (R.VSP_LANE_STAT_BLOCK_LOCK 5) 1, 5, by decide +kernel⟩,
   ⟨wLane 191 1 { Lane.init with lockTimer := true }, 191, by decide +kernel⟩,
   ⟨w [(R.VSP_LANE_STAT_STATE 0, 1)], 0, by decide +kernel⟩,
   ⟨wLane 191 2 { Lane.init with trainAt := some 0 }, 191, by decide +kernel⟩,
   ⟨w [], 0, by decide +kernel⟩⟩

/-- States and operands that meet the hypotheses of `Obligations.LaneTrainingCommands`, clause by clause. -/
theorem witness_LaneTrainingCommands :
    (∃ (s : State) (n : Fin 192), s.asleep = false ∧ s.laneState n.val = 2 ∧ (s.lane n.val).phase = LanePhase.adapting) ∧
    (∃ (s : State) (n : Fin 192), s.asleep = false ∧ s.laneState n.val = 2 ∧ (s.lane n.val).phase = LanePhase.settling) ∧
    (∃ (s : State) (n : Fin 192), s.asleep = false ∧ (s.lane n.val).phase ≠ LanePhase.settling) ∧
    (∃ (s : State) (n : Fin 192), s.asleep = false ∧ (s.laneState n.val ≠ 2 ∨ (s.lane n.val).phase ≠ LanePhase.measuring)) ∧
    (∃ (s : State) (n : Fin 192), s.asleep = false ∧ s.laneState n.val = 2 ∧ (s.lane n.val).phase = LanePhase.measuring) ∧
    (∃ (s : State) (n : Fin 192) (pe : Nat), s.asleep = false ∧ s.laneState n.val = 2 ∧ (s.lane n.val).phase = LanePhase.measuring ∧ s.chan n.val = [n.val] ∧ pe ≤ (s.lane n.val).peMax) ∧
    (∃ (s : State) (n : Fin 192), s.asleep = false ∧ s.laneState n.val = 2 ∧ (s.lane n.val).waiting = true ∧ (s.lane n.val).timeouts < 2) ∧
    (∃ (s : State) (n : Fin 192), s.asleep = false ∧ s.laneState n.val = 2 ∧ (s.lane n.val).waiting = true ∧ 2 ≤ (s.lane n.val).timeouts) ∧
    (∃ (s : State) (n : Fin 192), s.asleep = false ∧ s.tstMode n.val = 0 ∧ s.laneState n.val = 2 ∧ (s.lane n.val).linkUp = true ∧ s.chan n.val = [n.val] ∧ s.inGang n.val = false) ∧
    (∃ (s : State) (n : Fin 192), s.asleep = false ∧ s.tstMode n.val = 0 ∧ (s.lane n.val).linkUp = false) :=
  ⟨⟨wLane 191 2 { Lane.init with phase := .adapting }, 191, by decide +kernel⟩,
   ⟨wLane 191 2 { Lane.init with phase := .settling }, 191, by decide +kernel⟩,
   ⟨wLane 191 2 { Lane.init with phase := .measuring }, 191, by decide +kernel⟩,
   ⟨w [], 0, by decide +kernel⟩,
   ⟨wLane 0 2 { Lane.init with phase := .measuring }, 0, by decide +kernel⟩,
   ⟨wLane 0 2 { Lane.init with phase := .measuring }, 0, 16, by decide +kernel⟩,
   ⟨wLane 0 2 { Lane.init with waiting := true, timeouts := 1 }, 0, by decide +kernel⟩,
   ⟨wLane 0 2 { Lane.init with waiting := true, timeouts := 2 }, 0, by decide +kernel⟩,
   ⟨wLane 0 2 { Lane.init with linkUp := true }, 0, by decide +kernel⟩,
   ⟨w [], 0, by decide +kernel⟩⟩

/-- States and operands that meet the hypotheses of `Obligations.LaneAttemptsAndRetries`, clause by clause. -/
theorem witness_LaneAttemptsAndRetries :
    (∃ (s : State) (n : Fin 192), s.asleep = false ∧ (s.laneState (s.base n.val) = 4 ∨ s.laneState (s.base n.val) = 5)) ∧
    (∃ (s : State) (n : Fin 192), s.asleep = false ∧ s.laneState (s.base n.val) = 6 ∧ (s.lane (s.base n.val)).lossTaped = true ∧ s.byScope (s.base n.val) = false ∧ (s.unit (s.base n.val)).shed = false ∧ s.portUntested n.val = true) ∧
    (∃ (s : State) (n : Fin 192), s.asleep = false ∧ s.laneState (s.base n.val) = 6 ∧ (s.lane (s.base n.val)).lossTaped = false) ∧
    (∃ (s : State) (n : Fin 192), s.asleep = false ∧ s.laneState (s.base n.val) < 4) ∧
    (∃ (s : State) (n : Fin 192), s.asleep = false ∧ (s.laneState n.val = 4 ∨ s.laneState n.val = 5)) ∧
    (∃ (s : State) (n : Fin 192), s.asleep = false ∧ s.laneState n.val ≠ 4 ∧ s.laneState n.val ≠ 5) ∧
    (∃ (s : State) (n : Fin 192), s.asleep = false ∧ s.laneState n.val = 3) ∧
    (∃ (s : State) (n : Fin 192), s.asleep = false ∧ s.laneState n.val ≠ 3) ∧
    (∃ (s : State) (n : Nat) (cause : Nat), s.chan n = [n] ∧ s.base n = n ∧ cause < 8) :=
  ⟨⟨w [(R.VSP_LANE_STAT_STATE 191, 5)], 191, by decide +kernel⟩,
   ⟨wLane 191 6 { Lane.init with lossTaped := true }, 191, by decide +kernel⟩,
   ⟨w [(R.VSP_LANE_STAT_STATE 191, 6)], 191, by decide +kernel⟩,
   ⟨w [(R.VSP_LANE_STAT_STATE 191, 3)], 191, by decide +kernel⟩,
   ⟨w [(R.VSP_LANE_STAT_STATE 191, 4), (R.VSP_LANE_STAT_RETRY_K 191, 9)], 191, by decide +kernel⟩,
   ⟨w [], 191, by decide +kernel⟩,
   ⟨w [(R.VSP_LANE_STAT_STATE 191, 3)], 191, by decide +kernel⟩,
   ⟨w [], 191, by decide +kernel⟩,
   ⟨w [(R.VSP_LANE_STAT_RETRY_K 191, 9)], 191, 7, by decide +kernel⟩⟩

/-- States and operands that meet the hypotheses of `Obligations.BlockCommands`, clause by clause. -/
theorem witness_BlockCommands :
    (∃ (s : State) (n : Fin 192), s.asleep = false ∧ s.tstMode n.val = 0 ∧ s.laneState n.val = 0) ∧
    (∃ (s : State) (n : Fin 192), s.asleep = false ∧ s.tstMode n.val = 0 ∧ s.laneState n.val ≠ 0 ∧ s.flag (R.VSP_LANE_STAT_BLOCK_LOCK n.val) = false) ∧
    (∃ (s : State) (n : Fin 192) (u : Block), s.asleep = false ∧ s.tstMode n.val = 0 ∧ s.laneState n.val ≠ 0 ∧ s.flag (R.VSP_LANE_STAT_BLOCK_LOCK n.val) = true ∧ blockKind u = BlockKind.filler) ∧
    (∃ (s : State) (n : Fin 192) (u : Block), s.asleep = false ∧ s.tstMode n.val = 0 ∧ s.laneState n.val ≠ 0 ∧ s.flag (R.VSP_LANE_STAT_BLOCK_LOCK n.val) = true ∧ blockKind u = BlockKind.train ∧ s.laneState n.val ≠ 2 ∧ s.laneState n.val ≠ 3 ∧ bits (beAt (blockBytes u) 1 1) 7 6 = 1 ∧ (s.lane n.val).capsPage = some (slice (blockBytes u) 3 5)) ∧
    (∃ (s : State) (n : Fin 192) (u : Block), s.asleep = false ∧ s.tstMode n.val = 0 ∧ s.laneState n.val ≠ 0 ∧ s.flag (R.VSP_LANE_STAT_BLOCK_LOCK n.val) = true ∧ (blockKind u = BlockKind.reserved ∨ blockKind u = BlockKind.invalid)) ∧
    (∃ (s : State) (n : Fin 192) (u : Block), s.asleep = false ∧ s.tstMode n.val = 0 ∧ s.laneState n.val ≠ 0 ∧ s.flag (R.VSP_LANE_STAT_BLOCK_LOCK n.val) = true ∧ blockKind u = BlockKind.align ∧ s.inGang n.val = false) ∧
    (∃ (s : State) (n : Fin 192) (u : Block) (skew : Nat) (m : Nat), s.asleep = false ∧ s.tstMode n.val = 0 ∧ s.laneState n.val ≠ 0 ∧ s.flag (R.VSP_LANE_STAT_BLOCK_LOCK n.val) = true ∧ blockKind u = BlockKind.align ∧ s.inGang n.val = true ∧ s.flag (R.VSP_LANE_STAT_ALIGNED (s.base n.val)) = true ∧ beAt (blockBytes u) 6 1 = (s.lane n.val).bip.toNat ∧ s.alignMarker n.val (blockBytes u) skew = some m ∧ m = ((s.lane n.val).marker.getD 0 + 1) % 2 ^ 32) :=
  ⟨⟨w [], 191, by decide +kernel⟩,
   ⟨w [(R.VSP_LANE_STAT_STATE 191, 1)], 191, by decide +kernel⟩,
   ⟨w [(R.VSP_LANE_STAT_STATE 191, 3), (R.VSP_LANE_STAT_BLOCK_LOCK 191, 1)], 191, controlBlock [0x1E], by decide +kernel⟩,
   ⟨(wLane 191 1 { Lane.init with capsPage := some [1#8, 2#8, 3#8, 4#8, 5#8] }).wr (R.VSP_LANE_STAT_BLOCK_LOCK 191) 1, 191, controlBlock [0x4B#8, 0x40#8, 0#8, 1#8, 2#8, 3#8, 4#8, 5#8], by decide +kernel⟩,
   ⟨w [(R.VSP_LANE_STAT_STATE 191, 3), (R.VSP_LANE_STAT_BLOCK_LOCK 191, 1)], 191, controlBlock [0x99], by decide +kernel⟩,
   ⟨w [(R.VSP_LANE_STAT_STATE 191, 3), (R.VSP_LANE_STAT_BLOCK_LOCK 191, 1)], 191, controlBlock [0x55], by decide +kernel⟩,
   ⟨(wGang 3).wr (R.VSP_LANE_STAT_BLOCK_LOCK 5) 1, 5, controlBlock [0x55#8, 0x50#8, 0#8, 0#8, 0#8, 1#8, 0#8, 0#8], 64, 1, by decide +kernel⟩⟩

/-- States and operands that meet the hypotheses of `Obligations.LinePacketCommands`, clause by clause. -/
theorem witness_LinePacketCommands :
    (∃ (s : State) (n : Fin 192) (h : List Byte), s.asleep = false ∧ s.tstMode n.val = 0 ∧ s.laneState n.val = 3 ∧ s.flag (R.VSP_LANE_STAT_BLOCK_LOCK n.val) = true ∧ s.inGang n.val = false ∧ h.length = 32) ∧
    (∃ (s : State) (n : Fin 192) (bs : List Byte) (k : Pkt) (w : Fin 4 × Block), s.asleep = false ∧ s.tstMode n.val = 0 ∧ s.laneState n.val = 3 ∧ s.flag (R.VSP_LANE_STAT_BLOCK_LOCK n.val) = true ∧ s.inGang n.val = false ∧ bs.length = 8 ∧ (s.port n.val).head = none ∧ (s.port n.val).pkt = some k ∧ (s.lane n.val).wire [dataBlock bs] = [w] ∧ k.accepted = true ∧ hdrLength k.header + 4 ≤ (k.rest ++ bs).length) ∧
    (∃ (s : State) (n : Fin 192) (bs : List Byte) (k : Pkt) (w : Fin 4 × Block), s.asleep = false ∧ s.tstMode n.val = 0 ∧ s.laneState n.val = 3 ∧ s.flag (R.VSP_LANE_STAT_BLOCK_LOCK n.val) = true ∧ s.inGang n.val = false ∧ bs.length = 8 ∧ (s.port n.val).head = none ∧ (s.port n.val).pkt = some k ∧ (s.lane n.val).wire [dataBlock bs] = [w] ∧ k.accepted = true ∧ (k.rest ++ bs).length < hdrLength k.header + 4) ∧
    (∃ (s : State) (n : Fin 192) (bs : List Byte) (k : Pkt) (w : Fin 4 × Block), s.asleep = false ∧ s.tstMode n.val = 0 ∧ s.laneState n.val = 3 ∧ s.flag (R.VSP_LANE_STAT_BLOCK_LOCK n.val) = true ∧ s.inGang n.val = false ∧ bs.length = 8 ∧ (s.port n.val).head = none ∧ (s.port n.val).pkt = some k ∧ (s.lane n.val).wire [dataBlock bs] = [w] ∧ k.accepted = false) ∧
    (∃ (s : State) (n : Fin 192), s.asleep = false ∧ s.tstMode n.val = 0 ∧ s.laneState n.val = 3 ∧ s.flag (R.VSP_LANE_STAT_BLOCK_LOCK n.val) = true ∧ s.inGang n.val = false) ∧
    (∃ (s : State) (n : Fin 192) (h : List Byte), s.asleep = false ∧ (∀ (e : TrigEnt), e ∈ (s.port n.val).trigs → e.expired = true ∨ s.now < e.deadline) ∧ crc16 (slice h 0 30) ≠ beAt h 30 2) ∧
    (∃ (s : State) (n : Fin 192) (h : List Byte) (e : TrigEnt), s.asleep = false ∧ (∀ (e : TrigEnt), e ∈ (s.port n.val).trigs → e.expired = true ∨ s.now < e.deadline) ∧ s.headerCheck1 n.val h = none ∧ s.headerCheck2 n.val h = Except.ok e ∧ Tab.get none (s.port n.val).lastLine (hdrStream h) = none ∧ s.groupOf n.val = none) ∧
    (∃ (s : State) (k : Pkt), s.asleep = false ∧ k.bad = false ∧ crc32c (slice k.rest 0 (hdrLength k.header)) = beAt k.rest (hdrLength k.header) 4) ∧
    (∃ (s : State) (k : Pkt), s.asleep = false ∧ (k.bad = true ∨ crc32c (slice k.rest 0 (hdrLength k.header)) ≠ beAt k.rest (hdrLength k.header) 4)) ∧
    (∃ (s : State) (n : Fin 192) (e : TrigEnt), s.asleep = false ∧ (s.port n.val).trigs = [e] ∧ e.expired = false) ∧
    (∃ (s : State) (n : Fin 192), s.asleep = false ∧ (s.port n.val).trigs = []) ∧
    (∃ (s : State) (n : Fin 192) (e : TrigEnt) (rest : List TrigEnt), s.asleep = false ∧ (s.port n.val).heldTrigs = e :: rest ∧ (s.futureTrigs n.val).length < 16) ∧
    (∃ (s : State) (n : Fin 192) (e : TrigEnt) (rest : List TrigEnt), s.asleep = false ∧ (s.port n.val).heldTrigs = e :: rest ∧ 16 ≤ (s.futureTrigs n.val).length) ∧
    (∃ (s : State) (n : Fin 192), s.asleep = false ∧ (s.port n.val).heldTrigs = []) :=
  ⟨⟨(wPort 2 Port.init).wr (R.VSP_LANE_STAT_BLOCK_LOCK 2) 1, 2, zeros 31 ++ [1#8], by decide +kernel⟩,
   ⟨wP2 { wPkt with rest := [1#8, 2#8] }, 2, [3#8, 4#8] ++ beBytes 4 (crc32c [1#8, 2#8, 3#8, 4#8]) ++ [0, 0], { wPkt with rest := [1#8, 2#8] }, (0, onWire 0 (dataBlock ([3#8, 4#8] ++ beBytes 4 (crc32c [1#8, 2#8, 3#8, 4#8])))), by decide +kernel⟩,
   ⟨wP2 { wPkt with header := hdrC (hdr0 9 1000 4 8) }, 2, zeros 8, { wPkt with header := hdrC (hdr0 9 1000 4 8) }, (0, onWire 0 (dataBlock [])), by decide +kernel⟩,
   ⟨wP2 { wPkt with accepted := false }, 2, zeros 8, { wPkt with accepted := false }, (0, onWire 0 (dataBlock [])), by decide +kernel⟩,
   ⟨wP2 wPkt, 2, by decide +kernel⟩,
   ⟨w [], 191, zeros 31 ++ [1#8], by decide +kernel⟩,
   ⟨wP1, 2, hdrC (hdr0 9 1000 4 4), ⟨7, 9, 1000, 2000, 0, false⟩, ⟨by decide +kernel, by decide +kernel, by decide +kernel, except_ok (by decide +kernel), by decide +kernel, by decide +kernel⟩⟩,
   ⟨wPort 2 Port.init, { wPkt with rest := [1#8, 2#8, 3#8, 4#8] ++ beBytes 4 (crc32c [1#8, 2#8, 3#8, 4#8]) }, by decide +kernel⟩,
   ⟨wPort 2 Port.init, { wPkt with rest := zeros 8, bad := true }, by decide +kernel⟩,
   ⟨wPort 2 { Port.init with trigs := [⟨7, 9, 1000, 2000, 0, false⟩] }, 2, ⟨7, 9, 1000, 2000, 0, false⟩, by decide +kernel⟩,
   ⟨wPort 2 Port.init, 2, by decide +kernel⟩,
   ⟨wPort 2 { Port.init with heldTrigs := [⟨7, 9, 1000, 2000, 0, false⟩] }, 2, ⟨7, 9, 1000, 2000, 0, false⟩, [], by decide +kernel⟩,
   ⟨wPort 2 { Port.init with trigs := List.replicate 16 ⟨7, 9, 1000, 2000, 0, false⟩, heldTrigs := [⟨8, 10, 1500, 2500, 0, false⟩] }, 2, ⟨8, 10, 1500, 2500, 0, false⟩, [], by decide +kernel⟩,
   ⟨wPort 2 Port.init, 2, by decide +kernel⟩⟩

/-- States and operands that meet the hypotheses of `Obligations.BackChannelCommands`, clause by clause. -/
theorem witness_BackChannelCommands :
    (∃ (s : State) (n : Fin 192) (m : Msg), s.asleep = false ∧ (s.port n.val).txCur = some m ∧ (s.port n.val).txQueue = []) ∧
    (∃ (s : State) (n : Fin 192) (u : List Byte), s.asleep = false ∧ u.length = 7 ∧ s.tstMode n.val = 0 ∧ s.laneState n.val = 3 ∧ s.base n.val = n.val ∧ s.flag (R.VSP_LANE_STAT_BLOCK_LOCK n.val) = true ∧ (s.port n.val).rxMsg = none ∧ (beAt u 0 1).testBit 7 = false) ∧
    (∃ (s : State) (n : Fin 192), s.asleep = false ∧ s.base n.val = n.val ∧ s.laneState n.val = 3 ∧ (s.port n.val).syncOut = none ∧ (s.port n.val).txCur = none ∧ (s.port n.val).txQueue = []) ∧
    (∃ (s : State) (n : Fin 192), s.asleep = false ∧ s.msgPort n.val = false) ∧
    (∃ (s : State) (n : Fin 192) (seq : Byte) (t1 : Nat), s.asleep = false ∧ s.msgPort n.val = true ∧ (s.port n.val).syncOut = some (BitVec.toNat seq, t1) ∧ s.now ≤ t1 + 100000) ∧
    (∃ (s : State) (n : Fin 192) (seq : Byte), s.asleep = false ∧ s.msgPort n.val = true ∧ Option.map (fun x ↦ x.fst) (s.port n.val).syncOut ≠ some (BitVec.toNat seq)) ∧
    (∃ (s : State) (n : Fin 192), s.asleep = false ∧ (s.port n.val).syncOut.isSome = true ∧ (s.port n.val).tmoRun = 7) ∧
    (∃ (s : State) (n : Fin 192), s.asleep = false ∧ (s.port n.val).syncOut.isSome = true ∧ (s.port n.val).tmoRun ≠ 7) :=
  ⟨⟨wPort 191 { Port.init with txCur := some (.trigger 1 2), txSeq := 63 }, 191, .trigger 1 2, by decide +kernel⟩,
   ⟨(wPort 191 Port.init).wr (R.VSP_LANE_STAT_BLOCK_LOCK 191) 1, 191, [0x7F#8, 0#8, 0#8, 0#8, 0#8, 0#8, 0#8], by decide +kernel⟩,
   ⟨wPort 191 { Port.init with syncNext := 255 }, 191, by decide +kernel⟩,
   ⟨w [], 191, by decide +kernel⟩,
   ⟨(wPort 191 { Port.init with syncOut := some (3, 0) }).wr (R.VSP_LANE_STAT_BLOCK_LOCK 191) 1, 191, 3, 0, by decide +kernel⟩,
   ⟨(wPort 191 { Port.init with syncOut := none }).wr (R.VSP_LANE_STAT_BLOCK_LOCK 191) 1, 191, 3, by decide +kernel⟩,
   ⟨wPort 191 { Port.init with syncOut := some (3, 0), tmoRun := 7 }, 191, by decide +kernel⟩,
   ⟨wPort 191 { Port.init with syncOut := some (3, 0), tmoRun := 6 }, 191, by decide +kernel⟩⟩

/-- States and operands that meet the hypotheses of `Obligations.HeadCommandCommands`, clause by clause. -/
theorem witness_HeadCommandCommands :
    (∃ (s : State) (n : Fin 192), s.asleep = false ∧ s.base n.val = n.val ∧ s.flag (R.VSP_CMD_STAT_BUSY n.val) = false ∧ s.rd (R.VSP_CMD_CTRL_LEN n.val) ≤ 248 ∧ s.laneState n.val = 3) ∧
    (∃ (s : State) (n : Fin 192), s.asleep = false ∧ s.base n.val ≠ n.val) ∧
    (∃ (s : State) (n : Fin 192), s.asleep = false ∧ s.base n.val = n.val ∧ (s.flag (R.VSP_CMD_STAT_BUSY n.val) = true ∨ 248 < s.rd (R.VSP_CMD_CTRL_LEN n.val) ∨ s.laneState n.val ≠ 3)) ∧
    (∃ (s : State) (n : Fin 192) (tag : BitVec 16) (data : List Byte), s.asleep = false ∧ s.msgPort n.val = true ∧ s.flag (R.VSP_CMD_STAT_BUSY n.val) = true ∧ (s.port n.val).cmdTag = tag.toNat ∧ data.length ≤ 248) ∧
    (∃ (s : State) (n : Fin 192) (tag : BitVec 16) (data : List Byte), s.asleep = false ∧ s.msgPort n.val = true ∧ (s.flag (R.VSP_CMD_STAT_BUSY n.val) = false ∨ (s.port n.val).cmdTag ≠ tag.toNat ∨ 248 < data.length)) ∧
    (∃ (s : State) (n : Fin 192) (data : List Byte), s.asleep = false ∧ s.msgPort n.val = true ∧ data.length ≠ 0 ∧ data.length ≤ 248) ∧
    (∃ (s : State) (n : Fin 192) (data : List Byte), s.asleep = false ∧ s.msgPort n.val = true ∧ (data.length = 0 ∨ 248 < data.length)) ∧
    (∃ (s : State) (n : Fin 192), s.asleep = false ∧ s.msgPort n.val = false) :=
  ⟨⟨w [(R.VSP_LANE_STAT_STATE 191, 3), (R.VSP_CMD_CTRL_LEN 191, 248), (R.VSP_CMD_CTRL_TAG 191, 7)], 191, by decide +kernel⟩,
   ⟨wGang 3, 5, by decide +kernel⟩,
   ⟨w [(R.VSP_CMD_CTRL_LEN 191, 249), (R.VSP_LANE_STAT_STATE 191, 3)], 191, by decide +kernel⟩,
   ⟨((wPort 191 { Port.init with cmdTag := 5 }).wr (R.VSP_CMD_STAT_BUSY 191) 1).wr (R.VSP_LANE_STAT_BLOCK_LOCK 191) 1, 191, 5, [1#8, 2#8], by decide +kernel⟩,
   ⟨(wPort 191 Port.init).wr (R.VSP_LANE_STAT_BLOCK_LOCK 191) 1, 191, 5, [], by decide +kernel⟩,
   ⟨w [(R.VSP_LANE_STAT_STATE 191, 3), (R.VSP_LANE_STAT_BLOCK_LOCK 191, 1), (R.VSP_CMD_CFG_EVT_EN 191, 1), (R.VSP_CMD_CFG_HQ 191, 63)], 191, [1#8, 2#8, 3#8, 4#8, 5#8], by decide +kernel⟩,
   ⟨w [(R.VSP_LANE_STAT_STATE 191, 3), (R.VSP_LANE_STAT_BLOCK_LOCK 191, 1)], 191, [], by decide +kernel⟩,
   ⟨w [], 191, by decide +kernel⟩⟩

/-- States and operands that meet the hypotheses of `Obligations.ChallengeCommands`, clause by clause. -/
theorem witness_ChallengeCommands :
    (∃ (s : State) (n : Fin 192), s.asleep = false ∧ (s.base n.val ≠ n.val ∨ s.rd (R.VSP_CHAL_STAT_RESULT n.val) = 1)) ∧
    (∃ (s : State) (n : Fin 192), s.asleep = false ∧ s.base n.val = n.val ∧ s.rd (R.VSP_CHAL_STAT_RESULT n.val) ≠ 1 ∧ s.flag (R.VSP_HEAD_CAPS_CHAL n.val) = false) ∧
    (∃ (s : State) (n : Fin 192), s.asleep = false ∧ s.base n.val = n.val ∧ s.rd (R.VSP_CHAL_STAT_RESULT n.val) ≠ 1 ∧ s.flag (R.VSP_HEAD_CAPS_CHAL n.val) = true ∧ s.flag (R.VSP_CHAL_STAT_KEY_SET n.val) = false) ∧
    (∃ (s : State) (n : Fin 192), s.asleep = false ∧ s.base n.val = n.val ∧ s.rd (R.VSP_CHAL_STAT_RESULT n.val) ≠ 1 ∧ s.flag (R.VSP_HEAD_CAPS_CHAL n.val) = true ∧ s.flag (R.VSP_CHAL_STAT_KEY_SET n.val) = true) ∧
    (∃ (s : State) (n : Fin 192), s.asleep = false ∧ s.msgPort n.val = false) ∧
    (∃ (s : State) (n : Fin 192) (mac : List Byte), s.asleep = false ∧ s.msgPort n.val = true ∧ mac.length ≠ 32) ∧
    (∃ (s : State) (n : Fin 192) (mac : List Byte), s.asleep = false ∧ s.msgPort n.val = true ∧ mac.length = 32 ∧ s.rd (R.VSP_CHAL_STAT_RESULT n.val) = 1) ∧
    (∃ (s : State) (n : Fin 192) (mac : List Byte), s.asleep = false ∧ s.msgPort n.val = true ∧ mac.length = 32 ∧ s.rd (R.VSP_CHAL_STAT_RESULT n.val) ≠ 1) ∧
    (∃ (s : State), s.asleep = false) :=
  ⟨⟨w [(R.VSP_CHAL_STAT_RESULT 191, 1)], 191, by decide +kernel⟩,
   ⟨w [], 191, by decide +kernel⟩,
   ⟨w [(R.VSP_HEAD_CAPS_CHAL 191, 1)], 191, by decide +kernel⟩,
   ⟨w [(R.VSP_HEAD_CAPS_CHAL 191, 1), (R.VSP_CHAL_STAT_KEY_SET 191, 1)], 191, by decide +kernel⟩,
   ⟨w [], 191, by decide +kernel⟩,
   ⟨w [(R.VSP_LANE_STAT_STATE 191, 3), (R.VSP_LANE_STAT_BLOCK_LOCK 191, 1)], 191, [], by decide +kernel⟩,
   ⟨w [(R.VSP_LANE_STAT_STATE 191, 3), (R.VSP_LANE_STAT_BLOCK_LOCK 191, 1), (R.VSP_CHAL_STAT_RESULT 191, 1)], 191, zeros 32, by decide +kernel⟩,
   ⟨w [(R.VSP_LANE_STAT_STATE 191, 3), (R.VSP_LANE_STAT_BLOCK_LOCK 191, 1)], 191, zeros 32, by decide +kernel⟩,
   ⟨w [], by decide +kernel⟩⟩

/-- States and operands that meet the hypotheses of `Obligations.HawkWriteCommands`, clause by clause. -/
theorem witness_HawkWriteCommands :
    (∃ (s : State) (q : Fin 64) (v : Word), s.asleep = false ∧ (s.hq q.val).asm = none ∧ (s.hq q.val).taped = false ∧ 1 ≤ bits (BitVec.toNat v) 6 0 ∧ bits (BitVec.toNat v) 6 0 ≤ 64 ∧ (s.hq q.val).tail.length < 16) ∧
    (∃ (s : State) (q : Fin 64) (v : Word), s.asleep = false ∧ (s.hq q.val).asm = none ∧ (s.hq q.val).taped = false ∧ (bits (BitVec.toNat v) 6 0 = 0 ∨ 64 < bits (BitVec.toNat v) 6 0)) ∧
    (∃ (s : State) (q : Fin 64) (v : Word), s.asleep = false ∧ (s.hq q.val).asm = none ∧ ((s.hq q.val).taped = true ∨ 1 ≤ bits (BitVec.toNat v) 6 0 ∧ bits (BitVec.toNat v) 6 0 ≤ 64 ∧ 16 ≤ (s.hq q.val).tail.length)) ∧
    (∃ (s : State) (q : Fin 64), s.asleep = false ∧ (s.hq q.val).ignore ≠ 0) ∧
    (∃ (s : State) (q : Fin 64), s.asleep = false ∧ (s.hq q.val).ignore = 0 ∧ (s.hq q.val).asm = none) ∧
    (∃ (s : State) (q : Fin 64) (a : HawkOpen), s.asleep = false ∧ (s.hq q.val).ignore = 0 ∧ (s.hq q.val).asm = some a ∧ a.words.length + 1 < a.len) ∧
    (∃ (s : State) (q : Fin 64) (a : HawkOpen), s.asleep = false ∧ (s.hq q.val).ignore = 0 ∧ (s.hq q.val).asm = some a ∧ a.words.length + 1 = a.len ∧ a.flushed = false ∧ (s.hq q.val).flushing = false ∧ (s.hq q.val).stalled = []) ∧
    (∃ (s : State) (q : Fin 64) (a : HawkOpen), s.asleep = false ∧ (s.hq q.val).ignore = 0 ∧ (s.hq q.val).asm = some a ∧ a.len ≤ a.words.length + 1) ∧
    (∃ (s : State) (q : Fin 64), s.asleep = false ∧ (s.hq q.val).flushing = true ∧ (∀ (a : HawkOpen), a ∈ (s.hq q.val).asm → a.flushed = false)) ∧
    (∃ (s : State) (q : Fin 64), s.asleep = false ∧ ((s.hq q.val).flushing = false ∨ ∃ a, (s.hq q.val).asm = some a ∧ a.flushed = true)) ∧
    (∃ (s : State) (q : Fin 64) (a : HawkOpen), s.asleep = false ∧ (s.hq q.val).asm = some a ∧ a.flushed = true) ∧
    (∃ (s : State), s.asleep = false) :=
  ⟨⟨w [], 63, 0x740, by decide +kernel⟩,
   ⟨w [], 63, 0x741, by decide +kernel⟩,
   ⟨wHq 63 { HawkQ.init with taped := true }, 63, 5, by decide +kernel⟩,
   ⟨wHq 63 { HawkQ.init with ignore := 2 }, 63, by decide +kernel⟩,
   ⟨w [], 63, by decide +kernel⟩,
   ⟨wHq 63 { HawkQ.init with asm := some ⟨1, 2, [], false⟩ }, 63, ⟨1, 2, [], false⟩, by decide +kernel⟩,
   ⟨(wHq 63 { HawkQ.init with asm := some ⟨1, 2, [4], false⟩ }).wr (R.HWK_Q_CFG_LEVEL 63) 1, 63, ⟨1, 2, [4], false⟩, by decide +kernel⟩,
   ⟨wHq 63 { HawkQ.init with asm := some ⟨1, 2, [4], false⟩, stalled := [(.mge, 9)] }, 63, ⟨1, 2, [4], false⟩, by decide +kernel⟩,
   ⟨wHq 63 { HawkQ.init with flushing := true, flushIds := [3], tail := [⟨3, 1, [1], false, 0⟩, ⟨4, 1, [1], false, 0⟩] }, 63, by decide +kernel⟩,
   ⟨w [], 63, by decide +kernel⟩,
   ⟨wHq 63 { HawkQ.init with asm := some ⟨1, 2, [4], true⟩ }, 63, ⟨1, 2, [4], true⟩, by decide +kernel⟩,
   ⟨w [], by decide +kernel⟩⟩

/-- States and operands that meet the hypotheses of `Obligations.HawkReadCommands`, clause by clause. -/
theorem witness_HawkReadCommands :
    (∃ (s : State) (q : Fin 64), s.asleep = false ∧ (s.hq q.val).taped = true) ∧
    (∃ (s : State) (q : Fin 64) (i : HawkItem), s.asleep = false ∧ (s.hq q.val).taped = false ∧ (s.hq q.val).cur = none ∧ firstItem (s.hq q.val).visible = some i) ∧
    (∃ (s : State) (q : Fin 64), s.asleep = false ∧ (s.hq q.val).taped = false ∧ (s.hq q.val).cur = none ∧ (s.hq q.val).visible = []) ∧
    (∃ (s : State) (q : Fin 64) (p : Path) (b : Nat), s.asleep = false ∧ minBy (fun x ↦ x.snd) (s.hq q.val).stalled = some (p, b)) ∧
    (∃ (s : State) (q : Fin 64), s.asleep = false ∧ (s.hq q.val).stalled = []) ∧
    (∃ (s : State) (q : Fin 64), s.asleep = false ∧ (s.hq q.val).cur = none) ∧
    (∃ (s : State) (q : Fin 64) (id : Nat) (k : Nat) (it : HawkItem), s.asleep = false ∧ (s.hq q.val).cur = some (id, k) ∧ List.find? (fun i ↦ i.id == id) (s.hq q.val).items = some it ∧ it.poison = false ∧ it.bad.testBit k = false ∧ k + 1 < it.words.length) ∧
    (∃ (s : State) (q : Fin 64) (id : Nat) (k : Nat) (it : HawkItem), s.asleep = false ∧ (s.hq q.val).cur = some (id, k) ∧ List.find? (fun i ↦ i.id == id) (s.hq q.val).items = some it ∧ it.poison = false ∧ it.bad.testBit k = false ∧ k + 1 = it.words.length) ∧
    (∃ (s : State) (q : Fin 64) (id : Nat) (k : Nat) (it : HawkItem), s.asleep = false ∧ (s.hq q.val).cur = some (id, k) ∧ List.find? (fun i ↦ i.id == id) (s.hq q.val).items = some it ∧ (it.poison = true ∨ it.bad.testBit k = true)) ∧
    (∃ (s : State) (q : Fin 64) (id : Nat) (k : Nat) (it : HawkItem), s.asleep = false ∧ (s.hq q.val).taped = false ∧ (s.hq q.val).cur = some (id, k) ∧ List.find? (fun i ↦ i.id == id) (s.hq q.val).items = some it) ∧
    (∃ (s : State) (q : Fin 64) (id : Nat) (k : Nat), s.asleep = false ∧ (s.hq q.val).cur = some (id, k)) ∧
    (∃ (s : State) (q : Fin 64) (i : HawkItem) (m : Option Nat), s.asleep = false ∧ (s.hq q.val).move = some (i, m)) ∧
    (∃ (s : State) (q : Fin 64), s.asleep = false ∧ (s.hq q.val).move = none) :=
  ⟨⟨wHq 63 { HawkQ.init with taped := true }, 63, by decide +kernel⟩,
   ⟨wHq 63 { HawkQ.init with head := [⟨3, 1, [1], true, 0⟩] }, 63, ⟨3, 1, [1], true, 0⟩, by decide +kernel⟩,
   ⟨w [], 63, by decide +kernel⟩,
   ⟨wHq 63 { HawkQ.init with stalled := [(.spi, 9), (.mge, 7)] }, 63, .mge, 7, by decide +kernel⟩,
   ⟨w [], 63, by decide +kernel⟩,
   ⟨w [], 63, by decide +kernel⟩,
   ⟨wHq 63 { HawkQ.init with head := [⟨3, 1, [8, 9], false, 0⟩], cur := some (3, 0) }, 63, 3, 0, ⟨3, 1, [8, 9], false, 0⟩, by decide +kernel⟩,
   ⟨wHq 63 { HawkQ.init with head := [⟨3, 1, [8, 9], false, 0⟩], cur := some (3, 1) }, 63, 3, 1, ⟨3, 1, [8, 9], false, 0⟩, by decide +kernel⟩,
   ⟨wHq 63 { HawkQ.init with head := [⟨3, 1, [8, 9], false, 2⟩], cur := some (3, 1) }, 63, 3, 1, ⟨3, 1, [8, 9], false, 2⟩, by decide +kernel⟩,
   ⟨wHq 63 { HawkQ.init with head := [⟨3, 1, [8, 9], true, 0⟩], cur := some (3, 1) }, 63, 3, 1, ⟨3, 1, [8, 9], true, 0⟩, by decide +kernel⟩,
   ⟨wHq 63 { HawkQ.init with head := [⟨3, 1, [8, 9], false, 0⟩], cur := some (3, 1) }, 63, 3, 1, by decide +kernel⟩,
   ⟨wHq 63 { HawkQ.init with tail := [⟨3, 1, [1], false, 0⟩] }, 63, ⟨3, 1, [1], false, 0⟩, none, by decide +kernel⟩,
   ⟨w [], 63, by decide +kernel⟩⟩

/-- States and operands that meet the hypotheses of `Obligations.HawkItemRules`, clause by clause. -/
theorem witness_HawkItemRules :
    (∃ (h : HawkQ) (i : HawkItem) (m : Option Nat), (List.map (fun x ↦ x.id) h.items).Nodup ∧ h.move = some (i, m) ∧ m = none) ∧
    (∃ (h : HawkQ) (i : HawkItem) (m : Option Nat) (k : Nat) (x : Nat × HawkItem), (List.map (fun x ↦ x.id) h.items).Nodup ∧ h.move = some (i, m) ∧ m = some k ∧ x ∈ h.middle) ∧
    (∃ (i : Nat) (j : Nat), i < 39 ∧ j < 39 ∧ i ≠ j) ∧
    (∃ (i : Nat), i < 33) :=
  ⟨⟨{ HawkQ.init with tail := [⟨3, 1, [1], false, 0⟩] }, ⟨3, 1, [1], false, 0⟩, none, by decide +kernel⟩,
   ⟨{ HawkQ.init with tail := (List.range 4).map (fun i => ⟨i, 1, [1], false, 0⟩), head := (List.range 16).map (fun i => ⟨i + 10, 1, [1], false, 0⟩), middle := [(0, ⟨40, 1, [1], false, 0⟩)], size := 8192 }, ⟨25, 1, [1], false, 0⟩, some 1, 1, (0, ⟨40, 1, [1], false, 0⟩), by decide +kernel⟩,
   ⟨0, 38, by decide +kernel⟩,
   ⟨32, by decide +kernel⟩⟩

/-- States and operands that meet the hypotheses of `Obligations.CvuCommands`, clause by clause. -/
theorem witness_CvuCommands :
    (∃ (s : State) (c : Fin 16) (v : Word), s.asleep = false ∧ s.unitTaped (40960 + c.val) = false ∧ 5 ≤ bits (BitVec.toNat v) 31 29) ∧
    (∃ (s : State) (c : Fin 16) (v : Word), s.asleep = false ∧ s.unitTaped (40960 + c.val) = false ∧ bits (BitVec.toNat v) 31 29 < 5) ∧
    (∃ (s : State) (c : Fin 16), s.asleep = false ∧ s.unitTaped (40960 + c.val) = false ∧ s.flag (R.CVU_CFG_BSWAP c.val) = false) ∧
    (∃ (s : State) (c : Fin 16), s.asleep = false ∧ s.unitTaped (40960 + c.val) = false ∧ s.flag (R.CVU_CFG_BSWAP c.val) = true) ∧
    (∃ (s : State) (c : Fin 16), s.asleep = false ∧ s.unitTaped (40960 + c.val) = true) :=
  ⟨⟨w [], 15, 0xA0000000, by decide +kernel⟩,
   ⟨w [(R.CVU_CFG_ALG 15, 1)], 15, 0x980F0000, by decide +kernel⟩,
   ⟨w [], 15, by decide +kernel⟩,
   ⟨w [(R.CVU_CFG_BSWAP 15, 1)], 15, by decide +kernel⟩,
   ⟨wUnit 0xA00F { FUnit.init with own := some ⟨0, 2, false⟩ }, 15, by decide +kernel⟩⟩

/-- States and operands that meet the hypotheses of `Obligations.CvuAliveCommands`, clause by clause. -/
theorem witness_CvuAliveCommands :
    (∃ (s : State) (c : Fin 16), s.asleep = false ∧ s.unitTaped (40960 + c.val) = false ∧ s.rd (R.CVU_ALIVE_CFG_WIDTH c.val) ≤ 2) ∧
    (∃ (s : State) (c : Fin 16), s.asleep = false ∧ s.unitTaped (40960 + c.val) = false ∧ s.rd (R.CVU_ALIVE_STAT_VERDICT c.val) = 0) ∧
    (∃ (s : State) (c : Fin 16) (v : Word), s.asleep = false ∧ s.unitTaped (40960 + c.val) = false ∧ s.rd (R.CVU_ALIVE_STAT_VERDICT c.val) ≠ 0 ∧ BitVec.toNat v % 2 ^ s.aliveWidth c.val = (s.rd (R.CVU_ALIVE_LAST c.val) + 1) % 2 ^ s.aliveWidth c.val) ∧
    (∃ (s : State) (c : Fin 16) (v : Word) (d : Nat), s.asleep = false ∧ s.unitTaped (40960 + c.val) = false ∧ s.rd (R.CVU_ALIVE_STAT_VERDICT c.val) ≠ 0 ∧ (d = 0 ∨ 2 ^ s.aliveWidth c.val / 2 ≤ d) ∧ d < 2 ^ s.aliveWidth c.val ∧ BitVec.toNat v % 2 ^ s.aliveWidth c.val = (s.rd (R.CVU_ALIVE_LAST c.val) + d) % 2 ^ s.aliveWidth c.val) ∧
    (∃ (s : State) (c : Fin 16) (v : Word) (d : Nat), s.asleep = false ∧ s.unitTaped (40960 + c.val) = false ∧ s.rd (R.CVU_ALIVE_STAT_VERDICT c.val) ≠ 0 ∧ 2 ≤ d ∧ d < 2 ^ s.aliveWidth c.val / 2 ∧ BitVec.toNat v % 2 ^ s.aliveWidth c.val = (s.rd (R.CVU_ALIVE_LAST c.val) + d) % 2 ^ s.aliveWidth c.val) :=
  ⟨⟨w [(R.CVU_ALIVE_CFG_WIDTH 15, 2)], 15, by decide +kernel⟩,
   ⟨w [], 15, by decide +kernel⟩,
   ⟨w [(R.CVU_ALIVE_STAT_VERDICT 15, 1), (R.CVU_ALIVE_LAST 15, 255)], 15, 0x100, by decide +kernel⟩,
   ⟨w [(R.CVU_ALIVE_STAT_VERDICT 15, 1), (R.CVU_ALIVE_LAST 15, 255), (R.CVU_ALIVE_CFG_EV_EN 15, 1)], 15, 0x7F, 128, by decide +kernel⟩,
   ⟨w [(R.CVU_ALIVE_STAT_VERDICT 15, 1), (R.CVU_ALIVE_LAST 15, 255)], 15, 0x7E, 127, by decide +kernel⟩⟩

/-- States and operands that meet the hypotheses of `Obligations.DmaControlAndEnds`, clause by clause. -/
theorem witness_DmaControlAndEnds :
    (∃ (s : State) (c : Fin 32), s.asleep = false ∧ s.rd (R.DMA_CH_STAT_STATE c.val) = 0 ∧ (s.dmaCh c.val).taped = false) ∧
    (∃ (s : State) (c : Fin 32), s.asleep = false ∧ (s.rd (R.DMA_CH_STAT_STATE c.val) ≠ 0 ∨ (s.dmaCh c.val).taped = true)) ∧
    (∃ (s : State) (c : Fin 32), s.asleep = false ∧ s.rd (R.DMA_CH_STAT_STATE c.val) = 1) ∧
    (∃ (s : State) (c : Fin 32), s.asleep = false ∧ s.rd (R.DMA_CH_STAT_STATE c.val) ≠ 1) ∧
    (∃ (err : Nat) (dir : Nat) (a : Nat), err < 16 ∧ dir < 8 ∧ a < 2 ^ 48) ∧
    (∃ (done : Bool), done = true) ∧
    (∃ (s : State) (c : Fin 32), s.rd (R.DMA_CH_HOP_COUNT_N c.val) ≠ max 1 (s.rd (R.DMA_CH_HOP_LIMIT_N c.val))) :=
  ⟨⟨w [(R.DMA_CH_NEXT_LO 31, 64), (R.DMA_CH_STAT_ERR 31, 3)], 31, by decide +kernel⟩,
   ⟨w [(R.DMA_CH_STAT_STATE 31, 2)], 31, by decide +kernel⟩,
   ⟨w [(R.DMA_CH_STAT_STATE 31, 1)], 31, by decide +kernel⟩,
   ⟨w [], 31, by decide +kernel⟩,
   ⟨15, 7, 0xFFFFFFFFFFFF, by decide +kernel⟩,
   ⟨true, by decide +kernel⟩,
   ⟨w [(R.DMA_CH_STAT_STATE 31, 1)], 31, by decide +kernel⟩⟩

/-- States and operands that meet the hypotheses of `Obligations.DmaTransferCommands`, clause by clause. -/
theorem witness_DmaTransferCommands :
    (∃ (s : State) (c : Fin 32) (cls : MemCls), s.asleep = false ∧ s.rd (R.DMA_CH_STAT_STATE c.val) = 1 ∧ (s.dmaCh c.val).desc = none ∧ (s.dmaCh c.val).next % 32 = 0 ∧ s.memCls (s.dmaCh c.val).next 32 = some cls ∧ cls ≠ MemCls.register ∧ cls = MemCls.scratch) ∧
    (∃ (s : State) (c : Fin 32), s.asleep = false ∧ s.rd (R.DMA_CH_STAT_STATE c.val) = 1 ∧ (s.dmaCh c.val).desc = none ∧ ((s.dmaCh c.val).next % 32 ≠ 0 ∨ s.memCls (s.dmaCh c.val).next 32 = none ∨ s.memCls (s.dmaCh c.val).next 32 = some MemCls.register)) ∧
    (∃ (s : State) (c : Fin 32) (d : DmaDesc), s.asleep = false ∧ s.rd (R.DMA_CH_STAT_STATE c.val) = 1 ∧ (s.dmaCh c.val).desc = some d ∧ d.moved < d.count ∧ s.dmaHeld c.val d = false ∧ d.srcFix = false ∧ d.dstFix = false ∧ d.down = false ∧ s.memCls d.src 1 = some MemCls.scratch ∧ s.memCls d.dst 1 = some MemCls.scratch ∧ s.memCls (d.src + d.moved) 64 = some MemCls.scratch ∧ s.memCls (d.dst + d.moved) 64 = some MemCls.scratch) ∧
    (∃ (s : State) (c : Fin 32) (err : MemErr) (d : DmaDesc), s.asleep = false ∧ s.rd (R.DMA_CH_STAT_STATE c.val) = 1 ∧ (s.dmaCh c.val).desc = some d ∧ d.moved < d.count ∧ s.dmaHeld c.val d = false ∧ s.memCls d.src 1 ≠ some MemCls.register ∧ (devRead 3 (s.dmaSrc d) 64 err s).snd.fst = true) ∧
    (∃ (s : State) (c : Fin 32) (d : DmaDesc), s.asleep = false ∧ s.rd (R.DMA_CH_STAT_STATE c.val) = 1 ∧ (s.dmaCh c.val).desc = some d ∧ d.count ≤ d.moved ∧ s.dmaHeld c.val d = false ∧ s.memCls d.dst 1 = some MemCls.scratch ∧ s.memCls d.wrote 64 = some MemCls.scratch) ∧
    (∃ (s : State) (c : Fin 32), s.asleep = false ∧ s.rd (R.DMA_CH_STAT_STATE c.val) = 1 ∧ (s.dmaCh c.val).desc = none) ∧
    (∃ (s : State) (c : Fin 32) (d : DmaDesc), s.asleep = false ∧ s.rd (R.DMA_CH_STAT_STATE c.val) = 1 ∧ (s.dmaCh c.val).desc = some d ∧ s.memCls d.src 1 ≠ some MemCls.register) ∧
    (∃ (s : State) (c : Fin 32) (d : DmaDesc), s.asleep = false ∧ s.rd (R.DMA_CH_STAT_STATE c.val) = 1 ∧ (s.dmaCh c.val).desc = some d ∧ s.memCls d.src 1 = some MemCls.scratch ∧ s.memCls d.dst 1 = some MemCls.scratch ∧ s.memCls (s.dmaSrc d) 64 = some MemCls.scratch) ∧
    (∃ (s : State) (c : Fin 32), s.asleep = false ∧ s.rd (R.DMA_CH_STAT_STATE c.val) ≠ 1) :=
  ⟨⟨wDma 31 { DmaCh.init with next := scratchBase }, 31, .scratch, by decide +kernel⟩,
   ⟨wDma 31 { DmaCh.init with next := scratchBase + 4 }, 31, by decide +kernel⟩,
   ⟨wDma 31 { DmaCh.init with desc := some wDesc }, 31, wDesc, by decide +kernel⟩,
   ⟨{ wDma 31 { DmaCh.init with desc := some { wDesc with src := 0 } } with mem := { Dram.init with gib := 16, chans := [0], present := true } }, 31, .uncorrectable, { wDesc with src := 0 }, by decide +kernel⟩,
   ⟨wDma 31 { DmaCh.init with desc := some { wDesc with moved := 128, wrote := scratchBase + 192 } }, 31, { wDesc with moved := 128, wrote := scratchBase + 192 }, by decide +kernel⟩,
   ⟨wDma 31 { DmaCh.init with next := 64 }, 31, by decide +kernel⟩,
   ⟨wDma 31 { DmaCh.init with desc := some wDesc }, 31, wDesc, by decide +kernel⟩,
   ⟨wDma 31 { DmaCh.init with desc := some wDesc }, 31, wDesc, by decide +kernel⟩,
   ⟨w [], 31, by decide +kernel⟩⟩

/-- States and operands that meet the hypotheses of `Obligations.MemoryChannelCommands`, clause by clause. -/
theorem witness_MemoryChannelCommands :
    (∃ (s : State) (m : Fin 8) (cause : Fin 8), s.asleep = false ∧ s.rd (R.MEM_CH_STAT_STATE m.val) = 1 ∧ cause ≠ 0) ∧
    (∃ (s : State) (m : Fin 8), s.asleep = false ∧ s.rd (R.MEM_CH_STAT_STATE m.val) ≠ 1) ∧
    (∃ (s : State) (a : BitVec 48), s.asleep = false ∧ (s.flag R.MEM_SCRUB_CFG_EN = false ∨ s.dramEnd ≤ a.toNat / 64 * 64 ∨ s.hole (a.toNat / 64 * 64) = true)) ∧
    (∃ (s : State) (a : BitVec 48), s.asleep = false ∧ s.flag R.MEM_SCRUB_CFG_EN = true ∧ a.toNat / 64 * 64 < s.dramEnd ∧ s.hole (a.toNat / 64 * 64) = false ∧ s.mem.bad.contains (a.toNat / 64 * 64) = false) :=
  ⟨⟨w [(R.MEM_CH_STAT_STATE 7, 1)], 7, 7, by decide +kernel⟩,
   ⟨w [], 7, by decide +kernel⟩,
   ⟨w [], 64, by decide +kernel⟩,
   ⟨{ w [(R.MEM_SCRUB_CFG_EN, 1), (R.MEM_CFG_GIB, 1)] with mem := { Dram.init with chans := [0, 3], gib := 1 } }, 0x3FFFFFFF, by decide +kernel⟩⟩

/-- States and operands that meet the hypotheses of `Obligations.HistoryWriterCommands`, clause by clause. -/
theorem witness_HistoryWriterCommands :
    (∃ (s : State) (i : HstItem) (t : List HstItem), s.asleep = false ∧ s.hst.taps = i :: t ∧ i.kind ≠ 2 ∧ s.hstRunning = true ∧ s.staged i.group < 2 ∧ i.code = false) ∧
    (∃ (s : State) (i : HstItem) (t : List HstItem), s.asleep = false ∧ s.hst.items = i :: t ∧ s.hstRunning = false ∧ s.replay.run = none) ∧
    (∃ (s : State) (i : HstItem) (t : List HstItem), s.asleep = false ∧ s.hst.items = i :: t ∧ s.hstRunning = true ∧ s.now - i.time ≤ 1000000 * max 1 s.hst.lag ∧ i.code = false ∧ i.block = none ∧ i.data.length ≤ 65536 ∧ s.placeAt (128 * ceilDiv (128 + i.data.length) 128) = some s.hst.head ∧ s.replay.run = none) ∧
    (∃ (s : State) (g : Fin 24), s.asleep = false ∧ Tab.get [] s.hst.batch g.val = []) ∧
    (∃ (s : State) (g : Fin 24) (r : List Byte) (rs : List (List Byte)), s.asleep = false ∧ Tab.get [] s.hst.batch g.val = r :: rs) ∧
    (∃ (s : State) (g : Fin 24) (i : HstItem), s.asleep = false ∧ List.find? (fun i ↦ i.group == g.val) s.hst.items = some i) ∧
    (∃ (s : State), s.asleep = false ∧ s.hst.items = [] ∧ s.hst.taps = []) ∧
    (∃ (s : State), s.asleep = false) ∧
    (∃ (s : State), s.asleep = false ∧ s.replay.run = none ∧ s.replay.queue = [] ∧ s.replay.closing = []) :=
  ⟨⟨wHst 2 { Hst.init with taps := [wItem] }, wItem, [], by decide +kernel⟩,
   ⟨wHst 3 { Hst.init with items := [wItem] }, wItem, [], by decide +kernel⟩,
   ⟨wHst 2 { Hst.init with items := [wItem] }, wItem, [], by decide +kernel⟩,
   ⟨w [], 23, by decide +kernel⟩,
   ⟨wHst 2 { Hst.init with batch := [(23, [[1#8], [2#8]])] }, 23, [1#8], [[2#8]], by decide +kernel⟩,
   ⟨wHst 2 { Hst.init with items := [wItem] }, 23, wItem, by decide +kernel⟩,
   ⟨w [], by decide +kernel⟩,
   ⟨w [(R.MEM_CFG_MASK, 1), (R.HST_RING_SIZE, 16)], by decide +kernel⟩,
   ⟨wHst 2 { Hst.init with head := 128 }, by decide +kernel⟩⟩

/-- States and operands that meet the hypotheses of `Obligations.MarkCommands`, clause by clause. -/
theorem witness_MarkCommands :
    (∃ (s : State) (i : Fin 8192), s.asleep = false ∧ 4160 ≤ i.val) ∧
    (∃ (s : State) (i : Fin 8192), s.asleep = false ∧ i.val < 4160 ∧ s.rd R.HST_STAT_STATE ≤ 1) ∧
    (∃ (s : State) (i : Fin 8192), s.asleep = false ∧ i.val < 4160 ∧ 2 ≤ s.rd R.HST_STAT_STATE ∧ (s.mark i.val).state ≠ 0 ∧ (s.mark i.val).state ≠ 3) ∧
    (∃ (s : State) (i : Fin 8192), s.asleep = false ∧ i.val < 4160 ∧ 2 ≤ s.rd R.HST_STAT_STATE ∧ ((s.mark i.val).state = 0 ∨ (s.mark i.val).state = 3)) ∧
    (∃ (s : State), s.asleep = false) ∧
    (∃ (s : State) (r : Nat), s.asleep = false ∧ r < 16) :=
  ⟨⟨wHst 2 Hst.init, 4160, by decide +kernel⟩,
   ⟨w [], 4159, by decide +kernel⟩,
   ⟨wHst 2 { Hst.init with marks := [(4159, { Mark.free with state := 1 })] }, 4159, by decide +kernel⟩,
   ⟨wHst 2 Hst.init, 4159, by decide +kernel⟩,
   ⟨w [], by decide +kernel⟩,
   ⟨w [], 15, by decide +kernel⟩⟩

/-- States and operands that meet the hypotheses of `Obligations.ReplayCommands`, clause by clause. -/
theorem witness_ReplayCommands :
    (∃ (s : State), s.asleep = false ∧ (4 ≤ s.replay.held ∨ s.replay.taped = true)) ∧
    (∃ (s : State), s.asleep = false ∧ s.replay.held < 4 ∧ s.replay.taped = false) ∧
    (∃ (s : State) (r : RpRun) (rest : List RpRun), s.asleep = false ∧ s.replay.closing = r :: rest) ∧
    (∃ (s : State) (r : RpRun), s.asleep = false ∧ s.replay.run = some r ∧ r.req.toMem = true ∧ s.replay.closing = []) ∧
    (∃ (s : State), s.asleep = false ∧ s.replay.queue = []) ∧
    (∃ (s : State) (q : RpReq) (rest : List RpReq), s.asleep = false ∧ s.replay.run = none ∧ s.replay.closing = [] ∧ s.replay.queue = q :: rest ∧ s.inP1 = false ∧ s.devFault = false ∧ s.rpRefusal q = none ∧ q.mode = 0 ∧ (indexSearch q.start (min (rpTake q q.begin s).hst.nidx ((rpTake q q.begin s).indexSize / 16)) ((rpTake q q.begin s).hst.nidx - 1) (rpTake q q.begin s)).snd.fst = false) ∧
    (∃ (s : State) (q : RpReq) (rest : List RpReq), s.asleep = false ∧ s.replay.run = none ∧ s.replay.closing = [] ∧ s.replay.queue = q :: rest ∧ s.inP1 = false ∧ s.devFault = false ∧ s.rpRefusal q = none ∧ q.mode = 0 ∧ (indexSearch q.start (min (rpTake q q.begin s).hst.nidx ((rpTake q q.begin s).indexSize / 16)) ((rpTake q q.begin s).hst.nidx - 1) (rpTake q q.begin s)).snd.fst = true) ∧
    (∃ (s : State) (q : RpReq) (rest : List RpReq), s.asleep = false ∧ s.replay.run = none ∧ s.replay.closing = [] ∧ s.replay.queue = q :: rest ∧ s.inP1 = false ∧ s.devFault = false ∧ q.mode = 1 ∧ s.rpRefusal { mode := q.mode, mark := q.mark, kinds := q.kinds, groups := q.groups, id := q.id, start := (s.mark q.mark).time, stop := (s.mark q.mark).time + q.len, len := q.len, toMem := q.toMem, dest := q.dest, dlen := q.dlen } = none) ∧
    (∃ (s : State), s.asleep = false ∧ s.replay.run = none ∧ s.replay.closing = []) ∧
    (∃ (s : State) (r : RpRun), s.asleep = false ∧ s.replay.run = some r ∧ r.req.toMem = true ∧ s.replay.closing = [] ∧ r.pos = s.hst.head ∧ r.force = false ∧ s.now < s.rpStop r) ∧
    (∃ (s : State) (r : RpRun) (x : HstRec), s.asleep = false ∧ s.replay.run = some r ∧ r.req.toMem = true ∧ s.replay.closing = [] ∧ (r.pos ≠ s.hst.head ∨ r.force = true) ∧ s.recAt r.pos = some x) ∧
    (∃ (s : State) (r : RpRun) (x : HstRec), s.asleep = false ∧ (rpPump s).replay.run = some r ∧ (r.req.toMem = true ∨ r.out.length < (rpPump s).rpChunk) ∧ (r.pos ≠ (rpPump s).hst.head ∨ r.force = true) ∧ (rpPump s).recAt r.pos = some x) ∧
    (∃ (s : State) (r : RpRun), s.asleep = false ∧ s.replay.run = some r ∧ r.pos = s.hst.head ∧ r.force = false ∧ s.rpStop r ≤ s.now) :=
  ⟨⟨{ w [] with replay := { Replay.init with queue := [wReq, wReq, wReq, wReq] } }, by decide +kernel⟩,
   ⟨{ w [] with replay := { Replay.init with queue := [wReq, wReq, wReq] } }, by decide +kernel⟩,
   ⟨{ w [] with replay := { Replay.init with closing := [wRun] } }, wRun, [], by decide +kernel⟩,
   ⟨{ w [] with replay := { Replay.init with run := some wRun } }, wRun, by decide +kernel⟩,
   ⟨w [], by decide +kernel⟩,
   ⟨{ wHst 2 Hst.init with replay := { Replay.init with queue := [wReq] } }, wReq, [], by decide +kernel⟩,
   ⟨wRp11, wReq, [], by decide +kernel⟩,
   ⟨{ wHst 2 { Hst.init with marks := [(5, ⟨2, none, 0, 30, 40, 0, 0, none⟩)] } with replay := { Replay.init with queue := [{ wReq with mode := 1 }] } }, { wReq with mode := 1 }, [], by decide +kernel⟩,
   ⟨w [], by decide +kernel⟩,
   ⟨{ w [] with replay := { Replay.init with run := some wRun } }, wRun, by decide +kernel⟩,
   ⟨{ wHst 2 { Hst.init with recs := [⟨0, 3, 2, 0, 128, false⟩], head := 128 } with replay := { Replay.init with run := some wRun } }, wRun, ⟨0, 3, 2, 0, 128, false⟩, by decide +kernel⟩,
   ⟨{ wHst 2 { Hst.init with recs := [⟨0, 3, 2, 0, 128, false⟩], head := 128 } with replay := { Replay.init with run := some wRun } }, wRun, ⟨0, 3, 2, 0, 128, false⟩, by decide +kernel⟩,
   ⟨{ w [] with replay := { Replay.init with run := some wRun }, chalk := { Chalk.init with time := 2 ^ 60 } }, wRun, by decide +kernel⟩⟩

/-- States and operands that meet the hypotheses of `Obligations.StippleJobs`, clause by clause. -/
theorem witness_StippleJobs :
    (∃ (s : State) (j : Fin 4), s.asleep = false ∧ ((s.stpPort j.val).queue.length ≥ 4 ∨ s.inP1 = true ∨ s.stpTaped = true)) ∧
    (∃ (s : State) (j : Fin 4), s.asleep = false ∧ (s.stpPort j.val).queue.length < 4 ∧ s.inP1 = false ∧ s.stpTaped = false) ∧
    (∃ (s : State), s.asleep = false ∧ s.stpPipe = []) ∧
    (∃ (s : State) (j : Fin 4) (q : StpJob) (rest : List StpJob), s.asleep = false ∧ (s.stpPort j.val).queue = q :: rest ∧ (s.stpPort j.val).run = false ∧ s.stpRefusal q = none ∧ q.op ≠ 1) ∧
    (∃ (s : State) (j : Fin 4) (q : StpJob) (rest : List StpJob), s.asleep = false ∧ (s.stpPort j.val).queue = q :: rest ∧ (s.stpPort j.val).run = false ∧ s.stpRefusal q = none ∧ q.op = 1) ∧
    (∃ (s : State) (j : Fin 4) (q : StpJob) (rest : List StpJob) (st : Nat), s.asleep = false ∧ (s.stpPort j.val).queue = q :: rest ∧ (s.stpPort j.val).run = false ∧ s.stpRefusal q = some st ∧ q.op ≠ 1) ∧
    (∃ (s : State) (j : Fin 4) (q : StpJob) (rest : List StpJob) (st : Nat), s.asleep = false ∧ (s.stpPort j.val).queue = q :: rest ∧ (s.stpPort j.val).run = false ∧ s.stpRefusal q = some st ∧ q.op = 1) ∧
    (∃ (s : State) (j : Fin 4), s.asleep = false ∧ (s.stpPort j.val).queue = []) ∧
    (∃ (s : State) (j : Fin 4), s.asleep = false ∧ (s.stpPort j.val).run = false) ∧
    (∃ (s : State) (j : Fin 4) (q : StpJob) (rest : List StpJob) (blk : List Byte) (raws : List Nat), s.asleep = false ∧ (s.stpPort j.val).queue = q :: rest ∧ (s.stpPort j.val).run = true ∧ q.op = 0 ∧ s.memCls q.src q.inLen = some MemCls.scratch ∧ s.memCls q.dst blk.length = some MemCls.scratch ∧ stippleBlock q.s8 q.w q.npl (memRead s.scratch (q.src % 524288) q.inLen) = (blk, raws) ∧ encodeStatus q.inLen blk.length q.dstLen = 0) ∧
    (∃ (s : State) (j : Fin 4) (q : StpJob) (rest : List StpJob) (st : Nat) (made : Nat), (s.stpPort j.val).queue = q :: rest ∧ q.note = false ∧ (st = 0 ∨ 2 ≤ st ∧ st < 8 ∧ st ≠ 4 ∨ st = 14) ∧ made < 2 ^ 32 ∧ q.tag < 2 ^ 16) :=
  ⟨⟨wStp { StpPort.init with queue := [wJob 0, wJob 0, wJob 0, wJob 0] }, 3, by decide +kernel⟩,
   ⟨wStp { StpPort.init with queue := [wJob 0, wJob 0, wJob 0] }, 3, by decide +kernel⟩,
   ⟨w [], by decide +kernel⟩,
   ⟨wStp { StpPort.init with queue := [wJob 0] }, 3, wJob 0, [], by decide +kernel⟩,
   ⟨wStp { StpPort.init with queue := [wJob 1] }, 3, wJob 1, [], by decide +kernel⟩,
   ⟨wStp { StpPort.init with queue := [wJob 2] }, 3, wJob 2, [], 14, by decide +kernel⟩,
   ⟨wStp { StpPort.init with queue := [{ wJob 1 with inLen := 0 }] }, 3, { wJob 1 with inLen := 0 }, [], 2, by decide +kernel⟩,
   ⟨w [], 3, by decide +kernel⟩,
   ⟨w [], 3, by decide +kernel⟩,
   ⟨wStp { StpPort.init with queue := [wJob 0], run := true }, 3, wJob 0, [], (stippleBlock true 32 1 (zeros 32)).1, (stippleBlock true 32 1 (zeros 32)).2, by decide +kernel⟩,
   ⟨wStp { StpPort.init with queue := [wJob 0], run := true }, 3, wJob 0, [], 14, 0xFFFFFFFF, by decide +kernel⟩⟩

/-- States and operands that meet the hypotheses of `Obligations.CollectorOccurrence`, clause by clause. -/
theorem witness_CollectorOccurrence :
    (∃ (s : State) (e : Fin 1536), s.asleep = false ∧ s.raised = [] ∧ s.ruleTaped = [] ∧ s.tst = [] ∧ s.answered = false ∧ s.rd R.THM_PWR_STAT_STATE < 2 ∧ 3 ≤ s.stage ∧ s.stage < 6 ∧ evReserved e.val = false ∧ s.muted e.val = false ∧ s.suppressed e.val = false ∧ (s.snag e.val).live = false ∧ (s.snag e.val).latched = false ∧ s.evSev e.val ≤ 1 ∧ s.flag R.FLT_NOTIFY_HAWK_EN = false ∧ s.evSev e.val < s.rd R.FLT_NOTIFY_FWD_SEV) ∧
    (∃ (s : State) (e : Nat), (s.snag e).latched = false) ∧
    (∃ (s : State) (e : Nat), (s.snag e).latched = true ∧ s.evSev e ≠ 0 ∧ s.flag (fltNoesc e) = false) ∧
    (∃ (s : State) (e : Nat), s.evSev e = 0) ∧
    (∃ (s : State) (e : Nat), s.flag (fltNoesc e) = true ∧ e ≠ 1505) :=
  ⟨⟨w [(R.BOT_STAT_STAGE, 5), (R.FLT_NOTIFY_HAWK_EN, 0), (R.FLT_NOTIFY_FWD_SEV, 3)], 1151, by decide +kernel⟩,
   ⟨w [], 1151, by decide +kernel⟩,
   ⟨{ w [] with snags := [(1151, { Snag.init with latched := true })] }, 1151, by decide +kernel⟩,
   ⟨w [(fltSev 1151, 0)], 1151, by decide +kernel⟩,
   ⟨w [(fltNoesc 1151, 1)], 1151, by decide +kernel⟩⟩

/-- States and operands that meet the hypotheses of `Obligations.CollectorCommands`, clause by clause. -/
theorem witness_CollectorCommands :
    (∃ (s : State), s.asleep = false) ∧
    (∃ (s : State) (c : Fin 65536), s.asleep = false ∧ s.unitUsed c.val = false) ∧
    (∃ (s : State) (c : Fin 65536), s.asleep = false ∧ s.unitUsed c.val = true ∧ c.val / 4096 ≠ 1 ∧ s.unitTaped c.val = false) ∧
    (∃ (s : State) (c : Fin 65536), s.asleep = false ∧ s.unitUsed c.val = true ∧ c.val / 4096 = 1) ∧
    (∃ (s : State) (c : Fin 65536), s.asleep = false ∧ s.unitUsed c.val = true ∧ c.val / 4096 ≠ 1 ∧ s.unitTaped c.val = true) ∧
    (∃ (s : State) (c : Fin 65536) (x : Taping), s.asleep = false ∧ s.unitUsed c.val = true ∧ (s.unit c.val).shed = false ∧ (s.unit c.val).permanent = false ∧ (s.unit c.val).own = some x ∧ (s.unit c.val).anchored = none) ∧
    (∃ (s : State) (c : Fin 65536), s.asleep = false ∧ ((s.unit c.val).shed = true ∨ (s.unit c.val).permanent = true)) :=
  ⟨⟨{ w [] with snags := [(1151, { Snag.init with latched := true })] }, by decide +kernel⟩,
   ⟨w [], 0, by decide +kernel⟩,
   ⟨w [], 0xA00F, by decide +kernel⟩,
   ⟨w [(R.VSP_LANE_STAT_STATE 5, 3)], 0x1000, by decide +kernel⟩,
   ⟨wUnit 0xA00F { FUnit.init with own := some wTaped }, 0xA00F, by decide +kernel⟩,
   ⟨wUnit 0xA00F { FUnit.init with own := some wTaped }, 0xA00F, wTaped, by decide +kernel⟩,
   ⟨wUnit 0xA00F { FUnit.init with shed := true }, 0xA00F, by decide +kernel⟩⟩

/-- States and operands that meet the hypotheses of `Obligations.RecoveryAndTaping`, clause by clause. -/
theorem witness_RecoveryAndTaping :
    (∃ (s : State) (c : Fin 65536), s.asleep = false ∧ (s.unit c.val).own = none) ∧
    (∃ (s : State) (c : Fin 65536), s.asleep = false ∧ (s.unit c.val).anchored = none) ∧
    (∃ (s : State) (c : Fin 65536) (x : Taping), s.asleep = false ∧ (s.unit c.val).own = some x ∧ (x.held = true ∨ (s.unit c.val).permanent = true)) ∧
    (∃ (s : State) (c : Fin 65536) (x : Taping), s.asleep = false ∧ (s.unit c.val).own = some x ∧ x.held = false ∧ (s.unit c.val).permanent = false) ∧
    (∃ (s : State) (c : Fin 65536) (x : Taping) (ms : List Nat), s.asleep = false ∧ (s.unit c.val).anchored = some (x, ms)) ∧
    (∃ (s : State) (c : Fin 65536) (d : Fin 65536), s.asleep = false ∧ s.windows.contains (c.val, d.val, true) = false) ∧
    (∃ (s : State) (c : Fin 65536) (d : Fin 65536), s.asleep = false ∧ s.windows.contains (c.val, d.val, true) = true ∧ (∀ (x : Nat × Snag), x ∈ s.snags → x.snd.inWindow = false)) ∧
    (∃ (s : State) (c : Nat) (ev : Nat) (lvl : Nat) (d : Nat), c / 4096 = 10 ∧ ev ≠ 2047 ∧ s.flag R.FLT_NOTIFY_HAWK_EN = false ∧ min 4 lvl < s.rd R.FLT_NOTIFY_FWD_SEV ∧ d ∈ List.map (fun x ↦ x.snd.fst) (List.filter (fun x ↦ x.fst == c) s.ldr.edges)) :=
  ⟨⟨w [], 0xA00F, by decide +kernel⟩,
   ⟨w [], 0xA00F, by decide +kernel⟩,
   ⟨wUnit 0xA00F { FUnit.init with own := some { wTaped with held := true } }, 0xA00F, { wTaped with held := true }, by decide +kernel⟩,
   ⟨wUnit 0xA00F { FUnit.init with own := some wTaped }, 0xA00F, wTaped, by decide +kernel⟩,
   ⟨wUnit 0xA00F { FUnit.init with anchored := some (wTaped, [0xA00F, 0xA00E]) }, 0xA00F, wTaped, [0xA00F, 0xA00E], by decide +kernel⟩,
   ⟨w [], 0xA00F, 0xA00E, by decide +kernel⟩,
   ⟨{ w [] with windows := [(0xA00F, 0xA00E, true)] }, 0xA00F, 0xA00E, by decide +kernel⟩,
   ⟨{ w [(R.FLT_NOTIFY_HAWK_EN, 0), (R.FLT_NOTIFY_FWD_SEV, 3)] with ldr := { Ldr.init with edges := [(0xA00F, 0xA00E, 0)] } }, 0xA00F, 5, 2, 0xA00E, by decide +kernel⟩⟩

/-- States and operands that meet the hypotheses of `Obligations.ThermalSupplyAliveCommands`, clause by clause. -/
theorem witness_ThermalSupplyAliveCommands :
    (∃ (s : State) (readings : List (Option (BitVec 13))) (x : Int), s.asleep = false ∧ 3 ≤ s.stage ∧ s.stage < 6 ∧ hottest (List.map (fun i ↦ (List.map (fun x ↦ Option.map (fun x ↦ x.toNat) x) readings)[i]?.getD none) (List.range 16)) = some x ∧ x < 2080) ∧
    (∃ (s : State), s.asleep = false ∧ s.therm.active = true) ∧
    (∃ (s : State), s.asleep = false ∧ s.therm.active = false ∧ s.therm.returning = true) ∧
    (∃ (s : State) (x : Int) (n : Nat), s.asleep = false ∧ s.therm.active = false ∧ s.therm.returning = false ∧ n ∈ s.therm.shed ∧ s.therm.hot = some x) ∧
    (∃ (s : State), s.power.off = false ∧ s.pins.porLow = false ∧ s.pins.tripped = false) ∧
    (∃ (s : State), s.power.off = false ∧ s.pins.porLow = false ∧ s.pins.tripped = true) ∧
    (∃ (s : State), s.asleep = false ∧ s.rd R.THM_PWR_STAT_STATE < 2 ∧ (s.snag 1512).live = false ∧ s.boot.early = []) ∧
    (∃ (s : State), s.asleep = false ∧ s.devFault = true) ∧
    (∃ (s : State), s.asleep = false ∧ s.pins.runs = true ∧ s.pins.hbLost = false) ∧
    (∃ (s : State), s.asleep = false ∧ (s.pins.runs = false ∨ s.pins.hbLost = true)) :=
  ⟨⟨w [(R.BOT_STAT_STAGE, 5)], [none, some 2079#13], 2079, by decide +kernel⟩,
   ⟨{ w [] with therm := { Thermal.init with active := true } }, by decide +kernel⟩,
   ⟨{ w [] with therm := { Thermal.init with returning := true, shed := [191, 7] } }, by decide +kernel⟩,
   ⟨{ w [] with therm := { Thermal.init with hot := some 0, shed := [191, 7] } }, 0, 7, by decide +kernel⟩,
   ⟨w [], by decide +kernel⟩,
   ⟨{ w [] with pins := { Pins.init with tripped := true } }, by decide +kernel⟩,
   ⟨w [(R.THM_PWR_STAT_STATE, 1)], by decide +kernel⟩,
   ⟨w [(R.FLT_SUMMARY_DEVFAULT, 1)], by decide +kernel⟩,
   ⟨{ w [] with pins := { Pins.init with runs := true } }, by decide +kernel⟩,
   ⟨{ w [] with pins := { Pins.init with runs := true, hbLost := true } }, by decide +kernel⟩⟩

/-- States and operands that meet the hypotheses of `Obligations.ResetCommands`, clause by clause. -/
theorem witness_ResetCommands :
    (∃ (s : State), s.power.off = false ∧ s.pins.porLow = false ∧ s.pins.tripped = false) ∧
    (∃ (s : State), s.power.off = false ∧ s.pins.porLow = false ∧ s.pins.tripped = true) ∧
    (∃ (s : State), s.power.off = true) ∧
    (∃ (s : State) (sel : Fin 8), s.asleep = false ∧ s.boot.selPins = sel.val) :=
  ⟨⟨w [], by decide +kernel⟩,
   ⟨{ w [] with pins := { Pins.init with tripped := true } }, by decide +kernel⟩,
   ⟨{ w [] with power := { Power.init with off := true } }, by decide +kernel⟩,
   ⟨wBoot 5 0 { Boot.init with selPins := 7 }, 7, by decide +kernel⟩⟩

/-- States and operands that meet the hypotheses of `Obligations.PrimerCommands`, clause by clause. -/
theorem witness_PrimerCommands :
    (∃ (s : State), s.asleep = false ∧ s.stage = 1 ∧ s.rd R.BOT_STAT_STEP = 2) ∧
    (∃ (s : State), s.asleep = false ∧ (s.stage ≠ 1 ∨ s.rd R.BOT_STAT_STEP ≠ 2)) ∧
    (∃ (s : State), s.asleep = false ∧ s.stage = 1 ∧ s.rd R.BOT_STAT_STEP = 2 ∧ s.boot.clockFail = false) ∧
    (∃ (s : State), s.asleep = false ∧ s.boot.clockFail = true) ∧
    (∃ (s : State), s.asleep = false ∧ s.stage = 1 ∧ s.rd R.BOT_STAT_STEP = 4 ∧ s.rd R.BOT_STRAP_SEL ≤ 3) ∧
    (∃ (s : State), s.asleep = false ∧ (s.stage ≠ 1 ∨ s.rd R.BOT_STAT_STEP ≠ 4)) ∧
    (∃ (s : State) (a : List Byte) (b : List Byte) (c : Nat) (d : Nat) (l : List Nat) (e : Nat × Nat × Nat), s.asleep = false ∧ s.stage = 1 ∧ s.rd R.BOT_STAT_STEP = 4 ∧ s.rd R.BOT_STRAP_SEL ≤ 2 ∧ s.boot.pref ≠ 2 ∧ s.boot.candidates = c :: d :: l ∧ s.slotCheck (if c = 0 then a else b) 67108864 = Except.error e) ∧
    (∃ (s : State) (a : List Byte) (b : List Byte) (c : Nat) (e : Nat × Nat × Nat), s.asleep = false ∧ s.stage = 1 ∧ s.rd R.BOT_STAT_STEP = 4 ∧ s.rd R.BOT_STRAP_SEL ≤ 2 ∧ s.boot.pref ≠ 2 ∧ s.boot.candidates = [c] ∧ s.slotCheck (if c = 0 then a else b) 67108864 = Except.error e) ∧
    (∃ (s : State) (c : Nat) (l : List Nat), s.asleep = false ∧ s.stage = 1 ∧ s.rd R.BOT_STAT_STEP = 4 ∧ s.rd R.BOT_STRAP_SEL ≤ 2 ∧ s.boot.pref ≠ 2 ∧ s.boot.candidates = c :: l ∧ s.boot.early = [] ∧ (∀ (m : Nat), m < 8 → s.decision (192 + m) ≠ 2)) :=
  ⟨⟨wBoot 1 2 Boot.init, by decide +kernel⟩,
   ⟨w [], by decide +kernel⟩,
   ⟨wBoot 1 2 Boot.init, by decide +kernel⟩,
   ⟨wBoot 1 2 { Boot.init with clockFail := true }, by decide +kernel⟩,
   ⟨wBoot 1 4 { Boot.init with candidates := [1] }, by decide +kernel⟩,
   ⟨w [], by decide +kernel⟩,
   ⟨wBoot 1 4 { Boot.init with candidates := [1, 0] }, [], [], 1, 0, [], (1, 0, 0), ⟨by decide +kernel, by decide +kernel, by decide +kernel, by decide +kernel, by decide +kernel, by decide +kernel, rfl⟩⟩,
   ⟨wBoot 1 4 { Boot.init with candidates := [1] }, [], [], 1, (1, 0, 0), ⟨by decide +kernel, by decide +kernel, by decide +kernel, by decide +kernel, by decide +kernel, by decide +kernel, rfl⟩⟩,
   ⟨wBoot 1 4 { Boot.init with candidates := [1, 0] }, 1, [0], by decide +kernel⟩⟩

/-- States and operands that meet the hypotheses of `Obligations.UndercoatCommands`, clause by clause. -/
theorem witness_UndercoatCommands :
    (∃ (s : State), s.asleep = false ∧ s.stage = 3 ∧ s.rd R.BOT_STAT_STEP = 16) ∧
    (∃ (s : State), s.asleep = false ∧ s.stage ≠ 3) ∧
    (∃ (s : State), s.asleep = false ∧ s.bringUp = true ∧ s.boot.portsDone = false ∧ s.boot.uplinkDone = false) ∧
    (∃ (s : State), s.asleep = false ∧ s.bringUp = true ∧ s.boot.portsDone = true ∧ s.boot.uplinkDone = false) ∧
    (∃ (s : State), s.asleep = false ∧ s.bringUp = true ∧ s.boot.portsDone = false ∧ s.boot.uplinkDone = true) ∧
    (∃ (s : State), s.asleep = false ∧ s.boot.watchdog = true ∧ s.stage = 3 ∧ s.pins.tripped = false) ∧
    (∃ (s : State), s.asleep = false ∧ s.stage ≠ 2 ∧ s.stage ≠ 6) ∧
    (∃ (s : State) (e : Nat × Nat × Nat), s.asleep = false ∧ (s.stage = 2 ∨ s.stage = 6) ∧ s.slotCheck (memRead s.hostload 0 2097152) 2097152 = Except.error e) ∧
    (∃ (s : State), s.asleep = false ∧ (s.stage = 2 ∨ s.stage = 6) ∧ s.boot.early = [] ∧ (∀ (m : Nat), m < 8 → s.decision (192 + m) ≠ 2)) :=
  ⟨⟨wBoot 3 16 { Boot.init with training := [7] }, by decide +kernel⟩,
   ⟨w [], by decide +kernel⟩,
   ⟨wBoot 3 0x12 Boot.init, by decide +kernel⟩,
   ⟨wBoot 3 0x13 { Boot.init with portsDone := true }, by decide +kernel⟩,
   ⟨wBoot 3 0x13 { Boot.init with uplinkDone := true }, by decide +kernel⟩,
   ⟨wBoot 3 0x13 { Boot.init with watchdog := true }, by decide +kernel⟩,
   ⟨w [], by decide +kernel⟩,
   ⟨wBoot 2 0 Boot.init, (1, 0, 0), ⟨by decide +kernel, by decide +kernel, slotCheck_empty _⟩⟩,
   ⟨wBoot 2 0 Boot.init, by decide +kernel⟩⟩

/-- States and operands that meet the hypotheses of `Obligations.JournalCommands`, clause by clause. -/
theorem witness_JournalCommands :
    (∃ (s : State), s.asleep = false ∧ s.boot.copy ≤ 1) ∧
    (∃ (s : State) (p : Path), s.asleep = false ∧ s.boot.copy ≤ 1 ∧ s.accessStatus p false 125829184 = 0 ∧ s.io.frozen = []) ∧
    (∃ (s : State) (p : Path), s.asleep = false ∧ s.boot.copy ≤ 1 ∧ s.accessStatus p false 125829184 ≠ 0) :=
  ⟨⟨w [], by decide +kernel⟩,
   ⟨w [(R.BOT_STAT_STAGE, 5)], .spi, by decide +kernel⟩,
   ⟨w [(R.BOT_STAT_STAGE, 5), (R.THM_PWR_STAT_STATE, 1)], .smbus, by decide +kernel⟩⟩

/-- States and operands that meet the hypotheses of `Obligations.LifecycleCommands`, clause by clause. -/
theorem witness_LifecycleCommands :
    (∃ (s : State) (p : Path), s.asleep = false ∧ s.sec.burning = none ∧ p ≠ Path.spi) ∧
    (∃ (s : State) (tgt : Fin 16), s.asleep = false ∧ s.sec.burning = none ∧ s.rd R.THM_PWR_STAT_STATE = 0 ∧ (tgt.val ≤ s.fuses.lc ∨ 3 < tgt.val)) ∧
    (∃ (s : State), s.asleep = false ∧ s.sec.burning = none ∧ s.rd R.THM_PWR_STAT_STATE = 0 ∧ s.fuses.lc = 0 ∧ (∃ k, k < 8 ∧ 1 ≤ k ∧ s.keyPresent k = true)) ∧
    (∃ (s : State), s.asleep = false ∧ s.sec.burning = none ∧ s.rd R.THM_PWR_STAT_STATE = 0 ∧ s.fuses.lc = 0 ∧ (∀ (k : Nat), k < 8 → 1 ≤ k → s.keyPresent k = false)) ∧
    (∃ (s : State), s.asleep = false ∧ s.sec.burning = none ∧ s.rd R.THM_PWR_STAT_STATE = 0 ∧ s.fuses.lc = 1 ∧ (2 ≤ bits s.fuses.policy 27 26 ∨ s.keyPresent (bits s.fuses.policy 2 0) = true)) ∧
    (∃ (s : State), s.asleep = false ∧ s.sec.burning = none ∧ s.rd R.THM_PWR_STAT_STATE = 0 ∧ (s.fuses.lc = 1 ∨ s.fuses.lc = 2)) ∧
    (∃ (s : State) (t : Nat), s.asleep = false ∧ s.sec.burning = some t ∧ s.pins.tripped = false) :=
  ⟨⟨w [], .smbus, by decide +kernel⟩,
   ⟨w [], 0, by decide +kernel⟩,
   ⟨wSec { Fuses.blank with ec := [(7, [1#8])] } Sec.init, by decide +kernel⟩,
   ⟨w [], by decide +kernel⟩,
   ⟨wSec Fuses.sample Sec.init, by decide +kernel⟩,
   ⟨wSec Fuses.sample Sec.init, by decide +kernel⟩,
   ⟨wSec Fuses.sample { Sec.init with burning := some 2 }, 2, by decide +kernel⟩⟩

/-- States and operands that meet the hypotheses of `Obligations.KeyCommands`, clause by clause. -/
theorem witness_KeyCommands :
    (∃ (s : State), s.asleep = false ∧ s.flag R.SEC_KEY_CTRL_BUSY = true) ∧
    (∃ (s : State) (k : Fin 16), s.asleep = false ∧ s.flag R.SEC_KEY_CTRL_BUSY = false ∧ 1 ≤ k.val ∧ k.val ≤ 7 ∧ s.fuses.lc ≤ 1 ∧ Tab.get [] s.fuses.ec k.val = [] ∧ Tab.get [] s.fuses.aes k.val = [] ∧ s.fuses.revoked.testBit k.val = false) ∧
    (∃ (s : State) (k : Fin 16), s.asleep = false ∧ s.flag R.SEC_KEY_CTRL_BUSY = false ∧ 1 ≤ k.val ∧ k.val ≤ 7 ∧ s.fuses.lc ≤ 1 ∧ Tab.get [] s.fuses.ec k.val ≠ [] ∧ Tab.get [] s.fuses.pq k.val = []) ∧
    (∃ (s : State) (k : Fin 16), s.asleep = false ∧ s.flag R.SEC_KEY_CTRL_BUSY = false ∧ 8 ≤ k.val ∧ s.fuses.lc ≤ 1 ∧ Tab.get [] s.fuses.ec k.val = [] ∧ Tab.get [] s.fuses.aes k.val = [] ∧ s.fuses.revoked.testBit k.val = false) ∧
    (∃ (s : State) (k : Fin 16), s.asleep = false ∧ s.flag R.SEC_KEY_CTRL_BUSY = false ∧ 1 ≤ k.val ∧ (s.fuses.lc = 1 ∨ s.fuses.lc = 2)) ∧
    (∃ (s : State) (k : Fin 16), s.asleep = false ∧ s.flag R.SEC_KEY_CTRL_BUSY = false ∧ k.val = 0) ∧
    (∃ (s : State) (k : Fin 16), s.asleep = false ∧ s.flag R.SEC_KEY_CTRL_BUSY = false ∧ 8 ≤ k.val ∧ 2 ≤ s.fuses.lc) ∧
    (∃ (s : State), s.asleep = false ∧ s.flag R.SEC_KEY_CTRL_BUSY = false) ∧
    (∃ (s : State) (k : Fin 16) (op : Nat) (b : List Byte), s.asleep = false ∧ s.sec.keyOp = some (op, k.val, b)) ∧
    (∃ (s : State) (x : Nat × Nat × List Byte), s.asleep = false ∧ s.sec.keyOp = some x) ∧
    (∃ (s : State) (v : Byte), s.asleep = false ∧ s.sec.rbBurn = none ∧ s.fuses.rollback < BitVec.toNat v ∧ BitVec.toNat v ≤ s.fw.ctlVer ∧ BitVec.toNat v ≤ s.fw.laneVer ∧ s.ldr.inForce = true ∧ BitVec.toNat v ≤ s.ldr.version) ∧
    (∃ (s : State) (v : Byte), s.asleep = false ∧ s.sec.rbBurn = none ∧ (BitVec.toNat v ≤ s.fuses.rollback ∨ s.fw.ctlVer < BitVec.toNat v ∨ s.fw.laneVer < BitVec.toNat v)) ∧
    (∃ (s : State) (v : Nat), s.asleep = false ∧ s.sec.rbBurn = some v) ∧
    (∃ (s : State), s.asleep = false ∧ s.dbgLevel < 4) ∧
    (∃ (s : State) (b : List Byte), s.asleep = false ∧ imgVersion b < s.fuses.rollback) ∧
    (∃ (s : State) (v : Byte), s.asleep = false ∧ s.sec.rbBurn = none ∧ (s.ldr.inForce = false ∨ s.ldr.version < BitVec.toNat v)) ∧
    (∃ (s : State), s.asleep = false) :=
  ⟨⟨w [(R.SEC_KEY_CTRL_BUSY, 1)], by decide +kernel⟩,
   ⟨w [], 7, by decide +kernel⟩,
   ⟨wSec { Fuses.blank with ec := [(7, [1#8])] } Sec.init, 7, by decide +kernel⟩,
   ⟨w [], 8, by decide +kernel⟩,
   ⟨wSec Fuses.sample Sec.init, 15, by decide +kernel⟩,
   ⟨w [], 0, by decide +kernel⟩,
   ⟨wSec { Fuses.blank with lc := 2 } Sec.init, 8, by decide +kernel⟩,
   ⟨w [], by decide +kernel⟩,
   ⟨wSec Fuses.blank { Sec.init with keyOp := some (1, 7, [1#8]) }, 7, 1, [1#8], by decide +kernel⟩,
   ⟨wSec Fuses.blank { Sec.init with keyOp := some (1, 7, [1#8]) }, (1, 7, [1#8]), by decide +kernel⟩,
   ⟨{ w [] with fw := ⟨1, 9, 9⟩, ldr := { Ldr.init with inForce := true, version := 9 } }, 9, by decide +kernel⟩,
   ⟨w [], 0, by decide +kernel⟩,
   ⟨wSec Fuses.blank { Sec.init with rbBurn := some 9 }, 9, by decide +kernel⟩,
   ⟨w [], by decide +kernel⟩,
   ⟨wSec { Fuses.blank with rollback := 9 } Sec.init, [], by decide +kernel⟩,
   ⟨w [], 9, by decide +kernel⟩,
   ⟨w [], by decide +kernel⟩⟩

/-- States and operands that meet the hypotheses of `Obligations.DebugCommands`, clause by clause. -/
theorem witness_DebugCommands :
    (∃ (s : State) (p : Path), s.asleep = false ∧ p ≠ Path.spi ∧ p ≠ Path.debug) ∧
    (∃ (s : State) (p : Path) (l : Fin 4), s.asleep = false ∧ (p = Path.spi ∨ p = Path.debug) ∧ s.dbgRule l.val = 2) ∧
    (∃ (s : State) (p : Path) (l : Fin 4), s.asleep = false ∧ (p = Path.spi ∨ p = Path.debug) ∧ s.dbgRule l.val ≠ 2 ∧ s.sec.session.isSome = true) ∧
    (∃ (s : State) (p : Path) (l : Fin 4), s.asleep = false ∧ (p = Path.spi ∨ p = Path.debug) ∧ s.dbgRule l.val = 0 ∧ s.sec.session = none ∧ s.sec.verify = none ∧ s.rd R.THM_PWR_STAT_STATE < 2) ∧
    (∃ (s : State) (p : Path) (l : Fin 4), s.asleep = false ∧ (p = Path.spi ∨ p = Path.debug) ∧ s.dbgRule l.val = 1 ∧ s.sec.session = none ∧ s.sec.verify = none ∧ s.rd R.THM_PWR_STAT_STATE < 2) ∧
    (∃ (s : State) (p : Path) (l : Fin 4) (c : List Byte), s.asleep = false ∧ s.sec.verify = some (p, l.val, c)) ∧
    (∃ (s : State) (x : Session), s.asleep = false ∧ s.sec.session = some x ∧ x.limit = 0) ∧
    (∃ (s : State) (x : Session), s.asleep = false ∧ s.sec.session = some x ∧ x.limit ≠ 0) ∧
    (∃ (s : State), s.asleep = false) :=
  ⟨⟨w [], .dma, by decide +kernel⟩,
   ⟨w [], .debug, 3, by decide +kernel⟩,
   ⟨wSec Fuses.sample { Sec.init with session := some ⟨.spi, 1, none, 0, 0⟩ }, .spi, 2, by decide +kernel⟩,
   ⟨wSec Fuses.sample Sec.init, .spi, 2, by decide +kernel⟩,
   ⟨wSec { Fuses.blank with lc := 3 } Sec.init, .debug, 2, by decide +kernel⟩,
   ⟨wSec { Fuses.blank with lc := 3 } { Sec.init with verify := some (.debug, 2, [1#8]) }, .debug, 2, [1#8], by decide +kernel⟩,
   ⟨wSec Fuses.sample { Sec.init with session := some ⟨.spi, 1, none, 0, 0⟩ }, ⟨.spi, 1, none, 0, 0⟩, by decide +kernel⟩,
   ⟨wSec Fuses.sample { Sec.init with session := some ⟨.spi, 1, none, 0, 60⟩ }, ⟨.spi, 1, none, 0, 60⟩, by decide +kernel⟩,
   ⟨wSec Fuses.sample { Sec.init with session := some ⟨.spi, 2, none, 0, 0⟩ }, by decide +kernel⟩⟩

/-- States and operands that meet the hypotheses of `Obligations.PowerCommands`, clause by clause. -/
theorem witness_PowerCommands :
    (∃ (s : State), s.power.off = false ∧ s.pins.porLow = false ∧ s.pwrState < 2 ∧ s.boot.d3 = false ∧ s.stage ≠ 5) ∧
    (∃ (s : State), s.power.off = false ∧ s.pins.porLow = false ∧ s.pwrState = 0 ∧ s.pwrTrans = 0 ∧ s.boot.d3 = false ∧ s.stage = 5 ∧ s.halted = true) ∧
    (∃ (s : State), s.power.off = false ∧ s.pins.porLow = false ∧ s.pwrState = 0 ∧ s.pwrTrans = 2 ∧ s.boot.d3 = false ∧ s.stage = 5) ∧
    (∃ (s : State), s.power.off = false ∧ s.pins.porLow = false ∧ s.pwrState = 0 ∧ s.pwrTrans = 0 ∧ s.boot.d3 = false ∧ s.stage = 5 ∧ s.halted = false ∧ s.lathBusy = false ∧ (∀ (g : Nat), g < 24 → s.tgEn g = true → (s.seam g).rows ≠ [])) ∧
    (∃ (s : State), s.power.off = false ∧ s.pins.porLow = false ∧ s.asleep = false ∧ s.pipeEmpty = false) ∧
    (∃ (s : State), s.power.off = false ∧ s.pins.porLow = false ∧ s.pwrState = 0 ∧ s.pwrTrans = 1 ∧ s.ldr.pwrWait = none ∧ s.pipeEmpty = true ∧ s.power.held = false) ∧
    (∃ (s : State), s.power.off = false ∧ s.pins.porLow = false ∧ s.pwrState = 0 ∧ s.pwrTrans = 2 ∧ s.ldr.pwrWait = none ∧ s.pipeEmpty = true ∧ s.power.held = true) ∧
    (∃ (s : State), s.power.off = false ∧ s.pins.porLow = false ∧ s.pwrState = 0 ∧ (s.pwrTrans = 2 ∨ s.pwrTrans = 3) ∧ s.ldr.pwrWait = none ∧ s.pipeEmpty = true ∧ s.power.held = false) ∧
    (∃ (s : State), s.power.off = false ∧ s.pins.porLow = false ∧ s.pwrState = 1 ∧ s.pwrTrans = 0 ∧ s.boot.d3 = false ∧ s.stage = 5) ∧
    (∃ (s : State) (p : Path), s.power.off = false ∧ s.pins.porLow = false ∧ s.pwrState = 2 ∧ s.pwrTrans = 0 ∧ p ≠ Path.spi) ∧
    (∃ (s : State), s.power.off = false ∧ s.pins.porLow = false ∧ s.flag R.THM_WAKE_CFG_PIN_EN = false) ∧
    (∃ (s : State), s.power.off = false ∧ s.pins.porLow = false ∧ s.flag R.THM_WAKE_CFG_TIMER_EN = false) ∧
    (∃ (s : State), s.power.off = false ∧ s.pins.porLow = false ∧ s.flag R.THM_WAKE_CFG_PIN_EN = true ∧ s.pwrState = 0 ∧ (s.pwrTrans = 1 ∨ s.pwrTrans = 2)) ∧
    (∃ (s : State), s.power.off = false ∧ s.pins.porLow = false ∧ s.flag R.THM_WAKE_CFG_PIN_EN = true ∧ s.pwrState = 2 ∧ s.pwrTrans = 0) ∧
    (∃ (s : State), s.power.off = false ∧ s.pins.porLow = false ∧ s.flag R.THM_WAKE_CFG_TIMER_EN = true ∧ s.pwrState = 2 ∧ s.pwrTrans = 0) ∧
    (∃ (s : State), s.power.off = false ∧ s.pins.porLow = false ∧ s.pwrState = 2 ∧ s.power.rails = true ∧ s.pins.tripped = false) ∧
    (∃ (s : State), s.power.off = false ∧ s.pins.porLow = false ∧ s.power.rails = false) :=
  ⟨⟨wPwr 1 0 |>.wr R.BOT_STAT_STAGE 6, by decide +kernel⟩,
   ⟨(wPwr 0 0).wr R.SEC_DBG_CORE_HALTED 1, by decide +kernel⟩,
   ⟨wPwr 0 2, by decide +kernel⟩,
   ⟨(((wPwr 0 0).wr (R.CHK_TG_CTRL_EN 23) 1).setSeam 23 { Seam.init with rows := [⟨1, 1, 0, 0, none, [], none, none, true⟩] }), by decide +kernel⟩,
   ⟨((wPwr 0 1).wr (R.CHK_TG_CTRL_EN 23) 1), by decide +kernel⟩,
   ⟨(wPwr 0 1).wr (R.MEM_CH_STAT_STATE 7) 2, by decide +kernel⟩,
   ⟨{ wPwr 0 2 with power := { Power.init with held := true } }, by decide +kernel⟩,
   ⟨wPwr 0 2, by decide +kernel⟩,
   ⟨wPwr 1 0, by decide +kernel⟩,
   ⟨wPwr 2 0, .smbus, by decide +kernel⟩,
   ⟨(wPwr 2 0).wr R.THM_WAKE_CFG_PIN_EN 0, by decide +kernel⟩,
   ⟨wPwr 2 0, by decide +kernel⟩,
   ⟨wPwr 0 2 |>.wr R.THM_WAKE_CFG_PIN_EN 1, by decide +kernel⟩,
   ⟨(wPwr 2 0).wr R.THM_WAKE_CFG_PIN_EN 1, by decide +kernel⟩,
   ⟨(wPwr 2 0).wr R.THM_WAKE_CFG_TIMER_EN 1, by decide +kernel⟩,
   ⟨{ wPwr 2 4 with power := { Power.init with rails := true } }, by decide +kernel⟩,
   ⟨w [], by decide +kernel⟩⟩

/-- States and operands that meet the hypotheses of `Obligations.RegisterAccess`, clause by clause. -/
theorem witness_RegisterAccess :
    (∃ (s : State), s.asleep = false ∧ s.stage ≠ 6 ∧ s.sessKey Path.spi = none ∧ s.io.frozen = []) ∧
    (∃ (s : State), s.asleep = false ∧ s.stage ≠ 6 ∧ s.sessKey Path.spi = none ∧ s.io.frozen = [] ∧ s.flag R.GLB_SNAPSHOT_BUSY = false) ∧
    (∃ (s : State) (a : Word) (p : Path), s.asleep = false ∧ s.stage ≠ 6 ∧ s.sessKey Path.spi = none ∧ s.io.frozen = [] ∧ s.accessStatus p true (BitVec.toNat a) ≠ 0) ∧
    (∃ (s : State) (a : Word) (p : Path), s.asleep = false ∧ s.stage ≠ 6 ∧ s.sessKey Path.spi = none ∧ s.io.frozen = [] ∧ s.accessStatus p false (BitVec.toNat a) ≠ 0) :=
  ⟨⟨w [], by decide +kernel⟩,
   ⟨w [], by decide +kernel⟩,
   ⟨w [], 1, .spi, by decide +kernel⟩,
   ⟨w [], 1, .smbus, by decide +kernel⟩⟩

/-- States and operands that meet the hypotheses of `Obligations.AccessReach`, clause by clause. -/
theorem witness_AccessReach :
    (∃ (a : Nat), a % 4 ≠ 0) ∧
    (∃ (a : Nat), a % 4 = 0 ∧ decodeAddr a = Target.none) ∧
    (∃ (s : State) (a : Nat), a % 4 = 0 ∧ decodeAddr a ≠ Target.none ∧ s.stage = 6 ∧ winOf a = some Blk.vsp) ∧
    (∃ (s : State) (p : Path) (k : Nat), k < 192 ∧ s.asleep = false ∧ s.stage ≠ 6 ∧ (p = Path.dma ∨ p = Path.smbus ∨ p = Path.debug)) ∧
    (∃ (s : State) (p : Path), s.asleep = false ∧ (p = Path.mge ∨ p = Path.fxt) ∧ s.fuses.lc = 2) ∧
    (∃ (s : State) (p : Path), s.asleep = false ∧ p ≠ Path.spi ∧ p ≠ Path.mailbox) ∧
    (∃ (s : State) (a : Nat), s.asleep = false ∧ s.stage ≠ 6 ∧ a % 4 = 0 ∧ decodeAddr a ≠ Target.none) ∧
    (∃ (s : State) (p : Path), s.asleep = false ∧ s.stage ≠ 6 ∧ s.sec.session = none ∧ s.boot.d3 = false ∧ (p = Path.spi ∨ p = Path.mge ∨ p = Path.dma)) :=
  ⟨⟨3, by decide +kernel⟩,
   ⟨0xFFFFFFFC, by decide +kernel⟩,
   ⟨w [(R.BOT_STAT_STAGE, 6)], 0x1000000, by decide +kernel⟩,
   ⟨w [], .smbus, 191, by decide +kernel⟩,
   ⟨wSec { Fuses.blank with lc := 2 } Sec.init, .fxt, by decide +kernel⟩,
   ⟨w [], .fxt, by decide +kernel⟩,
   ⟨w [], 0x20, by decide +kernel⟩,
   ⟨w [], .mge, by decide +kernel⟩⟩

/-- States and operands that meet the hypotheses of `Obligations.SpiCommands`, clause by clause. -/
theorem witness_SpiCommands :
    (∃ (s : State) (a : Word), s.power.off = false ∧ s.pins.porLow = false ∧ s.sessKey Path.spi = none ∧ s.accessStatus Path.spi false (BitVec.toNat a) ≠ 0) ∧
    (∃ (s : State) (x : Session), s.power.off = false ∧ s.pins.porLow = false ∧ s.sec.session = some x ∧ x.path = Path.spi ∧ x.key.isSome = true) ∧
    (∃ (s : State) (a : Word) (d : Word) (tag : List Byte) (x : Session) (key : List Byte), s.power.off = false ∧ s.pins.porLow = false ∧ s.sec.session = some x ∧ x.path = Path.spi ∧ x.key = some key ∧ tag ≠ accessTag key x.ctr 2 (BitVec.toNat a) (BitVec.toNat d)) ∧
    (∃ (s : State) (a : Word) (d : Word) (tag : List Byte) (x : Session) (key : List Byte), s.power.off = false ∧ s.pins.porLow = false ∧ s.sec.session = some x ∧ x.path = Path.spi ∧ x.key = some key ∧ tag = accessTag key x.ctr 2 (BitVec.toNat a) (BitVec.toNat d)) ∧
    (∃ (s : State) (a : Word) (x : Session) (key : List Byte), s.power.off = false ∧ s.pins.porLow = false ∧ s.sec.session = some x ∧ x.path = Path.spi ∧ x.key = some key ∧ s.accessStatus Path.spi false (BitVec.toNat a) = 1) :=
  ⟨⟨w [], 1, by decide +kernel⟩,
   ⟨wSec Fuses.sample { Sec.init with session := some ⟨.spi, 1, some [1#8], 0, 0⟩ }, ⟨.spi, 1, some [1#8], 0, 0⟩, by decide +kernel⟩,
   ⟨wSec Fuses.sample { Sec.init with session := some ⟨.spi, 1, some [1#8], 0, 0⟩ }, 0, 1, zeros 17, ⟨.spi, 1, some [1#8], 0, 0⟩, [1#8], ⟨by decide +kernel, by decide +kernel, by decide +kernel, by decide +kernel, by decide +kernel, tag17_ne _ _ _ _ _⟩⟩,
   ⟨wSec Fuses.sample { Sec.init with session := some ⟨.spi, 1, some [1#8], 0, 0⟩ }, 0x20, 1, accessTag [1#8] 0 2 0x20 1, ⟨.spi, 1, some [1#8], 0, 0⟩, [1#8], ⟨by decide +kernel, by decide +kernel, by decide +kernel, by decide +kernel, by decide +kernel, rfl⟩⟩,
   ⟨wSec Fuses.sample { Sec.init with session := some ⟨.spi, 1, some [1#8], 0, 0⟩ }, 0xFFFFFFFC, ⟨.spi, 1, some [1#8], 0, 0⟩, [1#8], by decide +kernel⟩⟩

/-- States and operands that meet the hypotheses of `Obligations.PathCommands`, clause by clause. -/
theorem witness_PathCommands :
    (∃ (s : State) (f : List Byte) (b : Bool), s.asleep = false ∧ (s.flag R.GLB_MGE_CTRL_EN = false ∨ s.flag R.GLB_MGE_CTRL_LINK = false ∨ b = true ∨ beAt f 0 6 ≠ 2 ^ 32 * s.rd R.GLB_MGE_MAC_HI_MAC + s.rd R.GLB_MGE_MAC_LO)) ∧
    (∃ (s : State) (f : List Byte) (b : Bool) (src : List Byte) (q : List Byte), s.asleep = false ∧ s.mgeFxt { bytes := f, bad := b } = some (src, q) ∧ mgmtFrame q = none) ∧
    (∃ (s : State) (f : List Byte) (b : Bool) (src : List Byte) (q : List Byte) (d : Nat), s.asleep = false ∧ s.mgeFxt { bytes := f, bad := b } = some (src, q) ∧ mgmtFrame q = some [{ op := 1, addr := 1, data := d }] ∧ s.io.reqs = []) ∧
    (∃ (s : State) (f : List Byte) (b : Bool) (src : List Byte) (q : List Byte) (ops : List MgmtOp), s.asleep = false ∧ s.mgeFxt { bytes := f, bad := b } = some (src, q) ∧ mgmtFrame q = some ops) ∧
    (∃ (s : State), s.asleep = false) ∧
    (∃ (s : State), s.asleep = false ∧ s.io.smbPtr % 4 ≠ 0) ∧
    (∃ (s : State), s.asleep = false ∧ s.io.smbPtr = 0 ∧ s.io.frozen = []) ∧
    (∃ (s : State), s.asleep = false ∧ s.flag R.GLB_MBX_STAT_BUSY = true) ∧
    (∃ (s : State), s.asleep = false ∧ s.flag R.GLB_MBX_STAT_BUSY = false) ∧
    (∃ (s : State) (v : Nat) (l : List Nat), s.asleep = false ∧ s.io.mailbox = some (1, v :: l) ∧ s.halted = false) ∧
    (∃ (s : State) (a : Nat) (n : Nat) (d : Nat) (l : List Nat), s.asleep = false ∧ s.io.mailbox = some (3, a :: n :: d :: l) ∧ s.halted = false ∧ mramReadBad a n d = false) ∧
    (∃ (s : State) (a : Nat) (n : Nat) (d : Nat) (l : List Nat), s.asleep = false ∧ s.io.mailbox = some (3, a :: n :: d :: l) ∧ s.halted = false ∧ a % 64 ≠ 0) ∧
    (∃ (s : State) (m : Nat × List Nat), s.asleep = false ∧ s.io.mailbox = some m ∧ 4 < m.fst ∧ s.halted = false) ∧
    (∃ (s : State), s.asleep = false ∧ (s.halted = true ∨ s.io.mailbox = none)) ∧
    (∃ (s : State) (p : Path), s.asleep = false ∧ (s.answerOf p).isSome = true) ∧
    (∃ (s : State), s.asleep = false ∧ s.io.smbPtr % 4 = 0) ∧
    (∃ (s : State) (p : Path), s.asleep = false ∧ s.answerOf p = none ∧ p ≠ Path.debug ∧ p ≠ Path.dma) ∧
    (∃ (s : State) (f : List Byte), s.asleep = false ∧ s.flag R.GLB_MGE_CTRL_EN = true ∧ s.flag R.GLB_MGE_CTRL_LINK = true ∧ beAt f 0 6 = 2 ^ 32 * s.rd R.GLB_MGE_MAC_HI_MAC + s.rd R.GLB_MGE_MAC_LO ∧ beAt f 12 2 = s.rd R.GLB_MGE_CTRL_ETHERTYPE ∧ beAt f 12 2 ≠ 33024 ∧ mgmtFrame (List.take (36 + beAt (List.drop 14 f) 10 2) (List.drop 14 f)) = none ∧ fxtType (List.take (36 + beAt (List.drop 14 f) 10 2) (List.drop 14 f)) = 16) :=
  ⟨⟨w [(R.GLB_MGE_CTRL_EN, 0)], (wRx wMgmt).bytes, false, by decide +kernel⟩,
   ⟨wMge, (wRx [0x10#8, 0x10#8]).bytes, false, zeros 6, [0x10#8, 0x10#8], by decide +kernel⟩,
   ⟨wMge, (wRx wMgmt).bytes, false, zeros 6, wMgmt, 0, by decide +kernel⟩,
   ⟨wMge, (wRx wMgmt).bytes, false, zeros 6, wMgmt, [⟨1, 1, 0⟩], by decide +kernel⟩,
   ⟨w [], by decide +kernel⟩,
   ⟨{ w [] with io := { Ports.init with smbPtr := 3 } }, by decide +kernel⟩,
   ⟨{ w [] with io := { Ports.init with smbNack := true } }, by decide +kernel⟩,
   ⟨w [(R.GLB_MBX_STAT_BUSY, 1)], by decide +kernel⟩,
   ⟨w [], by decide +kernel⟩,
   ⟨{ w [(R.GLB_MBX_STAT_BUSY, 1)] with io := { Ports.init with mailbox := some (1, [7, 0, 0, 0])} }, 7, [0, 0, 0], by decide +kernel⟩,
   ⟨{ w [(R.GLB_MBX_STAT_BUSY, 1)] with io := { Ports.init with mailbox := some (3, [64, 128, 64, 0])}, mram := [(64, 9)] }, 64, 128, 64, [0], by decide +kernel⟩,
   ⟨{ w [(R.GLB_MBX_STAT_BUSY, 1)] with io := { Ports.init with mailbox := some (3, [63, 128, 64, 0])} }, 63, 128, 64, [0], by decide +kernel⟩,
   ⟨{ w [(R.GLB_MBX_STAT_BUSY, 1)] with io := { Ports.init with mailbox := some (5, [])} }, (5, []), by decide +kernel⟩,
   ⟨w [(R.SEC_DBG_CORE_HALTED, 1)], by decide +kernel⟩,
   ⟨w [], .mge, by decide +kernel⟩,
   ⟨{ w [] with io := { Ports.init with smbPtr := 4 } }, by decide +kernel⟩,
   ⟨{ w [] with answers := [(pathIx .spi, none)] }, .spi, by decide +kernel⟩,
   ⟨wMge, (wRx [0x10#8, 0x10#8]).bytes, by decide +kernel⟩⟩

/-- States and operands that meet the hypotheses of `Obligations.TapCommands`, clause by clause. -/
theorem witness_TapCommands :
    (∃ (s : State), s.asleep = false ∧ (s.io.dbg.ir < 3 ∨ 7 < s.io.dbg.ir)) ∧
    (∃ (s : State), s.asleep = false ∧ 3 ≤ s.io.dbg.ir ∧ s.io.dbg.ir ≤ 7 ∧ s.pins.tripped = false) ∧
    (∃ (s : State), s.asleep = false ∧ s.dbgReady = false) ∧
    (∃ (s : State), s.asleep = false ∧ s.dbgReady = true ∧ s.sessKey Path.debug = none) ∧
    (∃ (s : State) (a : Word) (tag : List Byte) (x : Session) (key : List Byte), s.asleep = false ∧ s.dbgReady = true ∧ s.sec.session = some x ∧ x.path = Path.debug ∧ x.key = some key ∧ tag ≠ accessTag key x.ctr 1 (BitVec.toNat a) 0) ∧
    (∃ (s : State) (st : Nat) (v : Nat), s.asleep = false ∧ s.answerOf Path.debug = some (st, v)) ∧
    (∃ (s : State), s.asleep = false ∧ s.answerOf Path.debug = none) :=
  ⟨⟨w [], by decide +kernel⟩,
   ⟨{ w [] with io := { Ports.init with dbg := { DebugPort.init with ir := 7 } } }, by decide +kernel⟩,
   ⟨w [], by decide +kernel⟩,
   ⟨{ w [] with io := { Ports.init with dbg := { DebugPort.init with ir := 0x20 } } }, by decide +kernel⟩,
   ⟨{ wSec Fuses.sample { Sec.init with session := some ⟨.debug, 1, some [1#8], 0, 0⟩ } with io := { Ports.init with dbg := { DebugPort.init with ir := 0x20 } } }, 0, zeros 17, ⟨.debug, 1, some [1#8], 0, 0⟩, [1#8], ⟨by decide +kernel, by decide +kernel, by decide +kernel, by decide +kernel, by decide +kernel, tag17_ne _ _ _ _ _⟩⟩,
   ⟨w [], 0, 0, by decide +kernel⟩,
   ⟨{ w [] with answers := [(pathIx .debug, none)] }, by decide +kernel⟩⟩

/-- States and operands that meet the hypotheses of `Obligations.TestLaneCommands`, clause by clause. -/
theorem witness_TestLaneCommands :
    (∃ (s : State) (l : Fin 200), s.asleep = false ∧ l.val < 192) ∧
    (∃ (s : State), s.asleep = false) ∧
    (∃ (s : State) (l : Fin 200) (v : Word), s.asleep = false ∧ (tstModeOk l.val (bits (BitVec.toNat v) 31 29) = false ∨ bits (BitVec.toNat v) 31 29 ≠ 0 ∧ s.tstEligible l.val = false)) ∧
    (∃ (s : State) (l : Fin 200) (v : Word), s.asleep = false ∧ tstModeOk l.val (bits (BitVec.toNat v) 31 29) = true ∧ bits (BitVec.toNat v) 31 29 ≠ 0 ∧ s.tstEligible l.val = true ∧ s.tstMode l.val = 0) ∧
    (∃ (s : State) (l : Fin 200) (v : Word), s.asleep = false ∧ bits (BitVec.toNat v) 31 29 = 0 ∧ s.tstMode l.val ≠ 0 ∧ s.laneState (s.base l.val) ≠ 6) ∧
    (∃ (s : State) (l : Fin 200), s.asleep = false ∧ tstGen l.val (s.tstMode l.val) = false) ∧
    (∃ (s : State) (l : Fin 200), s.asleep = false ∧ tstGen l.val (s.tstMode l.val) = true ∧ s.tstMode l.val ≠ 4) ∧
    (∃ (s : State) (l : Fin 200), s.asleep = false ∧ s.tstMode l.val = 4 ∧ s.flag (R.TST_LANE_STAT_LOCK l.val) = true ∧ (s.tstLane l.val).flips.contains (s.injectAt l.val) = false) ∧
    (∃ (s : State) (l : Fin 200), s.asleep = false ∧ tstCheck l.val (s.tstMode l.val) = true ∧ s.flag (R.TST_LANE_STAT_LOCK l.val) = false) ∧
    (∃ (s : State) (l : Fin 200), s.asleep = false ∧ s.flag (R.TST_LANE_STAT_LOCK l.val) = false) ∧
    (∃ (s : State) (l : Fin 200), s.asleep = false ∧ s.flag (R.TST_LANE_STAT_LOCK l.val) = true) ∧
    (∃ (s : State) (l : Fin 200), s.asleep = false ∧ (s.rxDown l.val = true ∨ (s.tstLane l.val).eye = true)) ∧
    (∃ (s : State) (l : Fin 200), s.asleep = false ∧ s.rxDown l.val = false ∧ (s.tstLane l.val).eye = false) ∧
    (∃ (s : State) (l : Fin 200), s.asleep = false ∧ (s.tstLane l.val).eye = true) ∧
    (∃ (s : State) (l : Fin 200), s.asleep = false ∧ (s.tstLane l.val).eye = false) ∧
    (∃ (s : State), s.asleep = false ∧ (∀ (j : Nat), j < 7 → s.rd (R.TST_BCAST_MASK j) = 0)) ∧
    (∃ (s : State) (l : Fin 200) (v : Nat), s.asleep = false ∧ (∀ (j : Nat), j < 7 → s.rd (R.TST_BCAST_MASK j) = if j = l.val / 32 then 2 ^ (l.val % 32) else 0) ∧ 2 ^ 29 * s.rd R.TST_BCAST_CTRL_MODE + 2 ^ 26 * s.rd R.TST_BCAST_CTRL_PAT + 2 ^ 25 * s.rd R.TST_BCAST_CTRL_INV + 2 ^ 22 * s.rd R.TST_BCAST_CTRL_RATE + s.rd R.TST_BCAST_CTRL_PLEN_M1 = v) ∧
    (∃ (s : State) (l : Fin 200), s.asleep = false ∧ s.flag (R.TST_LANE_CTRL_INV l.val) = false ∧ s.rd (R.TST_LANE_CTRL_PAT l.val) ≠ 5) ∧
    (∃ (s : State) (l : Fin 200), s.asleep = false ∧ s.rd (R.TST_LANE_CTRL_PAT l.val) = 5) :=
  ⟨⟨w [], 191, by decide +kernel⟩,
   ⟨w [], by decide +kernel⟩,
   ⟨w [], 191, 0xA0000000, by decide +kernel⟩,
   ⟨w [(R.VSP_LANE_STAT_STATE 191, 7)], 191, 0x80000000, by decide +kernel⟩,
   ⟨w [(R.TST_LANE_CTRL_MODE 191, 4)], 191, 0x1FFFFFFF, by decide +kernel⟩,
   ⟨w [(R.TST_LANE_CTRL_MODE 191, 1)], 191, by decide +kernel⟩,
   ⟨w [(R.TST_LANE_CTRL_MODE 191, 3)], 191, by decide +kernel⟩,
   ⟨w [(R.TST_LANE_CTRL_MODE 191, 4), (R.TST_LANE_STAT_LOCK 191, 1)], 191, by decide +kernel⟩,
   ⟨w [(R.TST_LANE_CTRL_MODE 199, 5)], 199, by decide +kernel⟩,
   ⟨w [], 199, by decide +kernel⟩,
   ⟨w [(R.TST_LANE_CTRL_MODE 191, 3), (R.TST_LANE_STAT_LOCK 191, 1)], 191, by decide +kernel⟩,
   ⟨w [], 191, by decide +kernel⟩,
   ⟨w [(R.VSP_LANE_STAT_STATE 191, 3)], 191, by decide +kernel⟩,
   ⟨{ w [] with tst := [(191, { TstLane.init with eye := true })] }, 191, by decide +kernel⟩,
   ⟨w [], 191, by decide +kernel⟩,
   ⟨w [], by decide +kernel⟩,
   ⟨w [(R.TST_BCAST_MASK 5, 2 ^ 31), (R.TST_BCAST_CTRL_MODE, 3), (R.TST_BCAST_CTRL_PLEN_M1, 63)], 191, 2 ^ 29 * 3 + 63, by decide +kernel⟩,
   ⟨w [(R.TST_LANE_CTRL_PAT 199, 7)], 199, by decide +kernel⟩,
   ⟨w [(R.TST_LANE_CTRL_PAT 191, 5)], 191, by decide +kernel⟩⟩

/-- States and operands that meet the hypotheses of `Obligations.PixelArithmetic`, clause by clause. -/
theorem witness_PixelArithmetic :
    (∃ (m : MembGeom) (a : Nat) (b : Nat) (c : Nat) (x : Nat) (y : Nat) (z : Nat), m.mode = 0 ∧ a ≤ c ∧ c ≤ b ∧ overlapValue m a b c (some x) (some y) = some z) ∧
    (∃ (g : Nat), 1 ≤ g ∧ g ≤ 65535) :=
  ⟨⟨⟨0, 9, 0, 0, 0, true, 5⟩, 2, 5, 5, 100, 9, (overlapValue ⟨0, 9, 0, 0, 0, true, 5⟩ 2 5 5 (some 100) (some 9)).getD 0, by decide +kernel⟩,
   ⟨1, by decide +kernel⟩⟩

/-- States and operands that meet the hypotheses of `Obligations.BankCommands`, clause by clause. -/
theorem witness_BankCommands :
    (∃ (s : State) (n : Fin 192), s.asleep = false ∧ (s.port n.val).lines = []) ∧
    (∃ (s : State) (n : Fin 192) (l : RawLine) (rest : List RawLine), s.asleep = false ∧ (s.port n.val).lines = l :: rest) ∧
    (∃ (s : State) (n : Fin 192), s.asleep = false ∧ s.shadowLocked n.val = true) ∧
    (∃ (s : State) (n : Fin 192), s.asleep = false ∧ s.flag (R.RND_BANK_STAT_VALIDATING n.val) = false) ∧
    (∃ (s : State) (n : Fin 192), s.asleep = false ∧ s.flag (R.RND_BANK_STAT_VALIDATING n.val) = true ∧ bankError (s.shadowBank n.val) (s.shape n.val) = 0 ∧ (s.rnd n.val).cancel = false ∧ (s.rnd n.val).want = none ∧ s.flag (R.RND_STAT_SKIM_OWNS n.val) = false) ∧
    (∃ (s : State) (n : Fin 192), s.asleep = false ∧ s.flag (R.RND_BANK_STAT_VALIDATING n.val) = true ∧ (bankError (s.shadowBank n.val) (s.shape n.val) ≠ 0 ∨ (s.rnd n.val).cancel = true ∨ s.flag (R.RND_STAT_SKIM_OWNS n.val) = true)) ∧
    (∃ (s : State) (n : Fin 192), s.asleep = false ∧ s.flag (R.RND_BANK_STAT_COPYING n.val) = true ∧ (∀ (g i : Nat), s.memberOfEngine n.val = some (g, i) → (s.skimG g).stopAt = none)) ∧
    (∃ (s : State) (n : Fin 192), s.asleep = false ∧ s.flag (R.RND_BANK_STAT_COPYING n.val) = false ∧ s.memberOfEngine n.val = none) ∧
    (∃ (s : State) (n : Fin 192) (off : Fin 65536), s.asleep = false ∧ (32768 ≤ off.val ∨ s.shadowLocked n.val = true)) ∧
    (∃ (s : State) (n : Fin 192) (off : Fin 65536), s.asleep = false ∧ off.val < 32768 ∧ s.shadowLocked n.val = false ∧ (s.shape n.val).lb ≤ 4 * off.val) ∧
    (∃ (s : State) (n : Fin 192) (off : Fin 65536), s.asleep = false ∧ off.val < 32768 ∧ s.shadowLocked n.val = false ∧ 4 * off.val < (s.shape n.val).lb) :=
  ⟨⟨w [], 191, by decide +kernel⟩,
   ⟨wPort 191 { Port.init with lines := [⟨7, 107, 50, 50, 2, 1, 0, zeros 4, 0, true⟩] }, 191, ⟨7, 107, 50, 50, 2, 1, 0, zeros 4, 0, true⟩, [], by decide +kernel⟩,
   ⟨w [(R.RND_BANK_STAT_ARMED 191, 1)], 191, by decide +kernel⟩,
   ⟨w [], 191, by decide +kernel⟩,
   ⟨(w [(R.RND_BANK_STAT_VALIDATING 191, 1)]).setRnd 191 { Rnd.init with bank1 := wBank }, 191, by decide +kernel⟩,
   ⟨w [(R.RND_BANK_STAT_VALIDATING 191, 1)], 191, by decide +kernel⟩,
   ⟨(w [(R.RND_BANK_STAT_COPYING 191, 1), (R.RND_BANK_STAT_SCHEDULED 191, 1)]).setRnd 191 { Rnd.init with bank0 := wBank, swap := some ⟨7, 0, true, false⟩ }, 191, ⟨by decide +kernel, by decide +kernel, fun g i h => by rw [show State.memberOfEngine _ _ = none by decide +kernel] at h; cases h⟩⟩,
   ⟨w [], 191, by decide +kernel⟩,
   ⟨w [], 191, 32768, by decide +kernel⟩,
   ⟨w [(R.RND_OUT_CFG_ALIGN_KIB 191, 96)], 191, 32767, by decide +kernel⟩,
   ⟨w [(R.RND_OUT_CFG_ALIGN_KIB 191, 0)], 191, 32767, by decide +kernel⟩⟩

/-- States and operands that meet the hypotheses of `Obligations.SkimCommands`, clause by clause. -/
theorem witness_SkimCommands :
    (∃ (s : State) (n : Fin 192), s.asleep = false ∧ (s.skim n.val).hold = none) ∧
    (∃ (s : State) (n : Fin 192) (h : SkimHold), s.asleep = false ∧ (s.skim n.val).hold = some h ∧ h.mask.isSome = true ∧ s.memberOfEngine n.val ≠ none) ∧
    (∃ (s : State) (n : Fin 192) (h : SkimHold), s.asleep = false ∧ (s.skim n.val).hold = some h ∧ h.mask = none) ∧
    (∃ (s : State) (n : Fin 192), s.asleep = false ∧ (s.memberOfEngine n.val = none ∨ s.halted = true)) ∧
    (∃ (s : State) (n : Fin 192) (g : Nat) (i : Nat), s.asleep = false ∧ s.memberOfEngine n.val = some (g, i) ∧ s.halted = false ∧ (s.skimG g).r0.isSome = true ∧ (s.skim n.val).slice < s.sliceCount n.val ∧ Option.any (fun x ↦ x.slice == (s.skim n.val).slice) (s.skim n.val).hold = false) ∧
    (∃ (s : State) (g : Fin 24), s.asleep = false ∧ (s.skimG g.val).r0 = none) ∧
    (∃ (s : State) (g : Fin 24), s.asleep = false ∧ (s.skimG g.val).r0.isSome = true ∧ (s.skimG g.val).due = false) ∧
    (∃ (s : State) (g : Fin 24), s.asleep = false ∧ (s.skimG g.val).r0.isSome = true ∧ (s.skimG g.val).due = true) :=
  ⟨⟨w [], 191, by decide +kernel⟩,
   ⟨(wMemb [(R.RND_SKIM_STAT_HELD 7, 1)]).setSkim 7 { SkimPort.init with hold := some ⟨0, 0, [], some []⟩ }, 7, ⟨0, 0, [], some []⟩, by decide +kernel⟩,
   ⟨(w [(R.RND_SKIM_STAT_HELD 191, 1)]).setSkim 191 { SkimPort.init with hold := some ⟨0, 0, [], none⟩ }, 191, ⟨0, 0, [], none⟩, by decide +kernel⟩,
   ⟨w [], 191, by decide +kernel⟩,
   ⟨(wMemb [(R.RND_IN_WINDOW_COUNT 7, 4096)]).setSkimG 23 { SkimGrp.init with r0 := some 0 }, 7, 23, 0, by decide +kernel⟩,
   ⟨w [], 23, by decide +kernel⟩,
   ⟨(wMemb []).setSkimG 23 { SkimGrp.init with r0 := some 0 }, 23, by decide +kernel⟩,
   ⟨(wMemb [(R.SEM_SKIM_EPOCH 23, 0xFFFFFFFF)]).setSkimG 23 { SkimGrp.init with r0 := some 0, due := true, started := true }, 23, by decide +kernel⟩⟩

/-- States and operands that meet the hypotheses of `Obligations.CheckpointCommands`, clause by clause. -/
theorem witness_CheckpointCommands :
    (∃ (s : State), s.asleep = false ∧ s.flag R.BOT_CKPT_STAT_BUSY = false) ∧
    (∃ (s : State), s.asleep = false ∧ s.rd R.BOT_CKPT_CTRL_INTERVAL = 0) ∧
    (∃ (s : State), s.asleep = false ∧ s.rd R.BOT_CKPT_CTRL_INTERVAL ≠ 0) ∧
    (∃ (s : State), s.asleep = false ∧ (s.flag R.BOT_CKPT_STAT_BUSY = false ∨ s.halted = true)) ∧
    (∃ (s : State), s.asleep = false ∧ s.halted = false ∧ s.flag R.BOT_CKPT_STAT_BUSY = true ∧ s.rd R.BOT_CKPT_AREA_SIZE = 0) ∧
    (∃ (s : State) (i : Nat), s.asleep = false ∧ s.halted = false ∧ s.flag R.BOT_CKPT_STAT_BUSY = true ∧ s.rd R.BOT_CKPT_AREA_SIZE ≠ 0 ∧ s.rd R.BOT_CKPT_AREA_SIZE < 2 ^ 16 ∧ 64 + (List.map s.ckptRecord s.ckptPorts).flatten.length ≤ (s.ckptSlot 0).snd ∧ s.ckptNewest = some i) :=
  ⟨⟨w [], by decide +kernel⟩,
   ⟨w [(R.BOT_CKPT_CTRL_INTERVAL, 0)], by decide +kernel⟩,
   ⟨w [(R.BOT_CKPT_CTRL_INTERVAL, 1)], by decide +kernel⟩,
   ⟨w [], by decide +kernel⟩,
   ⟨w [(R.BOT_CKPT_STAT_BUSY, 1)], by decide +kernel⟩,
   ⟨(after (exec (.ckptComplete false) (w [(R.BOT_CKPT_STAT_BUSY, 1), (R.BOT_CKPT_AREA_SIZE, 1), (R.BOT_CKPT_AREA_BASE, 4)])) State.reset).wr R.BOT_CKPT_STAT_BUSY 1, 0, by decide +kernel⟩⟩

/-- States and operands that meet the hypotheses of `Obligations.RowCommands`, clause by clause. -/
theorem witness_RowCommands :
    (∃ (s : State) (g : Fin 24), s.asleep = false ∧ (∀ (r : SeamRow), r ∈ (s.seam g.val).rows → r.ready.isSome = true)) ∧
    (∃ (s : State) (g : Fin 24) (l : List SeamRow) (rest : List SeamRow) (r : SeamRow), s.asleep = false ∧ (s.seam g.val).rows = l ++ r :: rest ∧ r.ready = none ∧ (∀ (x : SeamRow), x ∈ l → x.ready.isSome = true) ∧ (∀ (x : SeamRow), x ∈ l ++ rest → x.n ≠ r.n)) ∧
    (∃ (s : State) (g : Fin 24) (m : Fin 32), s.asleep = false ∧ (∀ (r : SeamRow), r ∈ (s.seam g.val).rows → ∀ (x : SeamMember), r.members[m.val]? = some x → x.cause.isSome = true)) ∧
    (∃ (s : State) (g : Fin 24) (m : Fin 32) (r : SeamRow) (x : SeamMember), s.asleep = false ∧ (s.seam g.val).rows = [r] ∧ r.members[m.val]? = some x ∧ x.cause = none ∧ s.portUp (s.membPort g.val m.val) = false ∧ s.sourceTime g.val r.n m.val ≤ s.now.cast) ∧
    (∃ (s : State) (g : Fin 24) (m : Fin 32), s.asleep = false ∧ s.portUp (s.membPort g.val m.val) = true) ∧
    (∃ (s : State) (g : Fin 24), s.asleep = false ∧ (s.seam g.val).rows = []) ∧
    (∃ (s : State) (g : Fin 24) (r : SeamRow) (rest : List SeamRow), s.asleep = false ∧ (s.seam g.val).rows = r :: rest ∧ r.ready = none) ∧
    (∃ (s : State) (g : Fin 24) (r : SeamRow) (rest : List SeamRow), s.asleep = false ∧ (s.seam g.val).rows = r :: rest ∧ r.ready.isSome = true) ∧
    (∃ (s : State) (g : Fin 24), s.asleep = false ∧ (s.seam g.val).out = [] ∧ s.tgEn g.val = true ∧ s.commit g.val = none ∧ (s.stn g.val).tiles = []) ∧
    (∃ (s : State) (g : Fin 24) (d : RowData) (rest : List RowData), s.asleep = false ∧ (s.seam g.val).out = d :: rest ∧ (s.stn g.val).taped = true ∧ s.tgEn g.val = true ∧ s.commit g.val = none ∧ (s.stn g.val).tiles = []) ∧
    (∃ (s : State) (g : Fin 24) (d : RowData) (rest : List RowData), s.asleep = false ∧ (s.seam g.val).out = d :: rest ∧ (s.stn g.val).taped = false ∧ s.tgEn g.val = true) ∧
    (∃ (s : State) (q : Fin 36), s.asleep = false ∧ (s.plb q.val).queue = []) ∧
    (∃ (s : State) (q : Fin 36) (r : ObjRec) (rest : List ObjRec), s.asleep = false ∧ 12 ≤ q.val ∧ (s.plb q.val).queue = r :: rest ∧ s.commit r.group = none) ∧
    (∃ (s : State) (q : Fin 36) (r : ObjRec) (rest : List ObjRec), s.asleep = false ∧ q.val < 12 ∧ (s.plb q.val).queue = r :: rest ∧ s.commit r.group = none ∧ s.commit (s.plbUpper q.val) = none ∧ (s.plb q.val).taped = false ∧ r.group = s.plbUpper q.val ∧ s.linkOf q.val = none ∧ (s.plb q.val).store.length < 4096) :=
  ⟨⟨w [], 23, by decide +kernel⟩,
   ⟨wSeam { Seam.init with rows := [wRow] }, 23, [], [], wRow, by decide +kernel⟩,
   ⟨w [], 23, 31, by decide +kernel⟩,
   ⟨{ wSeam { Seam.init with rows := [wRow] } with chalk := { Chalk.init with time := 2 ^ 100, run := true } }, 23, 0, wRow, ⟨none, none⟩, by decide +kernel⟩,
   ⟨(wMemb [(R.VSP_LANE_STAT_STATE 7, 3)]), 23, 0, by decide +kernel⟩,
   ⟨w [], 23, by decide +kernel⟩,
   ⟨wSeam { Seam.init with rows := [wRow] }, 23, wRow, [], by decide +kernel⟩,
   ⟨wSeam { Seam.init with rows := [{ wRow with ready := some true, readyAt := some 5 }] }, 23, { wRow with ready := some true, readyAt := some 5 }, [], by decide +kernel⟩,
   ⟨wSeam Seam.init, 23, by decide +kernel⟩,
   ⟨(wSeam { Seam.init with out := [wOut] }).setStn 23 { Stn.init with taped := true }, 23, wOut, [], by decide +kernel⟩,
   ⟨wSeam { Seam.init with out := [wOut] }, 23, wOut, [], by decide +kernel⟩,
   ⟨w [], 35, by decide +kernel⟩,
   ⟨(w []).setPlb 35 { Plb.init with queue := [wRec 23] }, 35, wRec 23, [], by decide +kernel⟩,
   ⟨(w [(R.PLB_CFG_UPPER 11, 23)]).setPlb 11 { Plb.init with queue := [wRec 23] }, 11, wRec 23, [], by decide +kernel⟩⟩

/-- States and operands that meet the hypotheses of `Obligations.StencilMasksAndRecords`, clause by clause. -/
theorem witness_StencilMasksAndRecords :
    (∃ (up : List Bool) (mid : List Bool) (dn : List Bool) (valid : List Bool) (c : Nat), maskAt (morphRow false up mid dn valid) c.cast = true) ∧
    (∃ (mid : List Bool) (valid : List Bool) (c : Nat), maskAt mid c.cast = true ∧ maskAt valid c.cast = true) ∧
    (∃ (m : List Bool) (r : Nat × Nat), r ∈ runsOf m 0 none) ∧
    (∃ (e : Ended), e.acc.sums.length = 4 ∧ e.acc.hist.length = 16) ∧
    (∃ (r : ObjRec), r.data.length = 256) :=
  ⟨⟨[true, true, true], [true, true, true], [true, true, true], [true, true, true], 1, by decide +kernel⟩,
   ⟨[false, true], [true, true], 1, by decide +kernel⟩,
   ⟨[false, true, true, false], (1, 2), by decide +kernel⟩,
   ⟨wEnded, by decide +kernel⟩,
   ⟨wRec 23, by decide +kernel⟩⟩

/-- States and operands that meet the hypotheses of `Obligations.LathCommands`, clause by clause. -/
theorem witness_LathCommands :
    (∃ (s : State), s.asleep = false ∧ s.lathState = 1) ∧
    (∃ (s : State), s.asleep = false ∧ s.lathState = 2) ∧
    (∃ (s : State), s.asleep = false ∧ s.lathState = 3) ∧
    (∃ (s : State), s.asleep = false ∧ s.lathState = 4) ∧
    (∃ (s : State), s.asleep = false ∧ s.stage = 5 ∧ s.ldr.pwrWait = none ∧ s.lathBusy = false ∧ s.rd R.THM_PWR_STAT_STATE = 0 ∧ s.rd R.THM_PWR_STAT_TRANS = 0) ∧
    (∃ (s : State), s.asleep = false ∧ s.stage = 5 ∧ s.ldr.pwrWait = none ∧ (s.lathBusy = true ∨ s.rd R.THM_PWR_STAT_STATE ≠ 0 ∨ s.rd R.THM_PWR_STAT_TRANS ≠ 0)) ∧
    (∃ (s : State) (b : List Byte), s.asleep = false ∧ s.stage = 5 ∧ s.ldr.pwrWait = none ∧ s.lathState = 1 ∧ s.lathAddr % 64 = 0 ∧ s.lathLen % 64 = 0 ∧ 0 < s.lathLen ∧ s.lathLen ≤ 33554432 ∧ s.lathImage.fst = b) ∧
    (∃ (s : State), s.asleep = false ∧ s.stage = 5 ∧ s.ldr.pwrWait = none ∧ s.lathState ≠ 1) ∧
    (∃ (s : State) (e : Nat), s.asleep = false ∧ s.stage = 5 ∧ s.ldr.pwrWait = none ∧ s.lathState = 2 ∧ s.imgVerify s.ldr.image s.ldr.image.length 1213481292 (s.rd R.GLB_LATH_CTRL_KIND) true = Except.error e) ∧
    (∃ (s : State), s.asleep = false ∧ s.stage = 5 ∧ s.ldr.pwrWait = none ∧ s.lathState ≠ 2) ∧
    (∃ (s : State) (st : Nat) (sec : Nat), s.asleep = false ∧ s.stage = 5 ∧ s.ldr.pwrWait = none ∧ s.lathState = 3 ∧ s.lathError s.ldr.image s.lath = some (st, sec) ∧ st ≠ 15) ∧
    (∃ (s : State), s.asleep = false ∧ s.stage = 5 ∧ s.ldr.pwrWait = none ∧ s.lathState = 3 ∧ s.lathError s.ldr.image s.lath = none ∧ (∀ (g : Nat), s.tgEn g = false)) ∧
    (∃ (s : State), s.asleep = false ∧ s.stage = 5 ∧ s.ldr.pwrWait = none ∧ s.lathState ≠ 3) ∧
    (∃ (s : State), s.asleep = false ∧ s.stage = 5 ∧ s.ldr.pwrWait = none ∧ s.lathState = 4 ∧ s.lath.affected.all s.drained = false) ∧
    (∃ (s : State), s.asleep = false ∧ s.stage = 5 ∧ s.ldr.pwrWait = none ∧ s.lathState = 4 ∧ s.lath.affected.all s.drained = true) ∧
    (∃ (s : State), s.asleep = false ∧ s.stage = 5 ∧ s.ldr.pwrWait = none ∧ s.lathState ≠ 4) ∧
    (∃ (s : State), s.asleep = false ∧ s.stage = 5 ∧ s.ldr.pwrWait = none ∧ s.lathState ≠ 5) ∧
    (∃ (s : State), s.asleep = false ∧ s.stage = 5 ∧ s.ldr.pwrWait = none ∧ s.lathState = 5) ∧
    (∃ (s : State), s.asleep = false ∧ s.stage = 5 ∧ s.ldr.pwrWait = none ∧ s.lathState = 1) :=
  ⟨⟨wLdr 1 Ldr.init, by decide +kernel⟩,
   ⟨wLdr 2 Ldr.init, by decide +kernel⟩,
   ⟨wLdr 3 Ldr.init, by decide +kernel⟩,
   ⟨wLdr 4 Ldr.init, by decide +kernel⟩,
   ⟨w [(R.BOT_STAT_STAGE, 5)], by decide +kernel⟩,
   ⟨wLdr 1 Ldr.init, by decide +kernel⟩,
   ⟨((wLdr 1 Ldr.init).wr R.GLB_LATH_ADDR_LO (scratchBase % 2 ^ 32)).wr R.GLB_LATH_ADDR_HI_ADDR (scratchBase / 2 ^ 32) |>.wr R.GLB_LATH_LEN 64, zeros 64, by decide +kernel⟩,
   ⟨w [(R.BOT_STAT_STAGE, 5)], by decide +kernel⟩,
   ⟨wLdr 2 Ldr.init, 3, ⟨by decide +kernel, by decide +kernel, by decide +kernel, by decide +kernel, rfl⟩⟩,
   ⟨w [(R.BOT_STAT_STAGE, 5)], by decide +kernel⟩,
   ⟨wLdr 3 Ldr.init, 12, 0xFFFF, by decide +kernel⟩,
   ⟨wLdr 3 { Ldr.init with image := wLathHdr, body := wLathBody }, ⟨by decide +kernel, by decide +kernel, by decide +kernel, by decide +kernel, lathError_none, fun _ => by with_unfolding_all rfl⟩⟩,
   ⟨w [(R.BOT_STAT_STAGE, 5)], by decide +kernel⟩,
   ⟨(wLdr 4 Ldr.init).wr (R.CHK_TG_CTRL_EN 23) 1, by decide +kernel⟩,
   ⟨(((wLdr 4 Ldr.init).wr (R.PLB_CFG_EN 11) 1).wr (R.PLB_CFG_UPPER 11) 23).setPlb 11 { Plb.init with store := [⟨0, 0, 0, 0, 0, 0, 0⟩] }, by decide +kernel⟩,
   ⟨w [(R.BOT_STAT_STAGE, 5)], by decide +kernel⟩,
   ⟨w [(R.BOT_STAT_STAGE, 5)], by decide +kernel⟩,
   ⟨wLdr 5 { Ldr.init with image := wLathHdr, body := wLathBody }, by decide +kernel⟩,
   ⟨wLdr 1 Ldr.init, by decide +kernel⟩⟩

/-- States and operands that meet the hypotheses of `Obligations.CommitCommands`, clause by clause. -/
theorem witness_CommitCommands :
    (∃ (s : State) (v : Word), s.asleep = false ∧ s.tst = [] ∧ s.flag R.GLB_SNAP_CTRL_ON_COMMIT = false ∧ bits (BitVec.toNat v) 23 0 = 0 ∧ (BitVec.toNat v).testBit 24 = false) ∧
    (∃ (s : State) (v : Word) (r : Nat), s.asleep = false ∧ s.tst = [] ∧ s.flag R.GLB_SNAP_CTRL_ON_COMMIT = false ∧ (bits (BitVec.toNat v) 23 0 ≠ 0 ∨ (BitVec.toNat v).testBit 24 = true) ∧ s.commitRefusal (s.usedGroups (bits (BitVec.toNat v) 23 0)) ((BitVec.toNat v).testBit 24) s.inP1 = some r) ∧
    (∃ (s : State), s.asleep = false ∧ s.tst = [] ∧ s.flag R.GLB_SNAP_CTRL_ON_COMMIT = false ∧ s.inP1 = true) ∧
    (∃ (s : State) (v : Word), s.asleep = false ∧ s.tst = [] ∧ s.flag R.GLB_SNAP_CTRL_ON_COMMIT = false ∧ s.inP1 = false ∧ s.usedGroups (bits (BitVec.toNat v) 23 0) = [] ∧ (BitVec.toNat v).testBit 24 = false) ∧
    (∃ (s : State) (v : Word) (g : Nat), s.asleep = false ∧ s.tst = [] ∧ s.flag R.GLB_SNAP_CTRL_ON_COMMIT = false ∧ s.inP1 = false ∧ g ∈ s.usedGroups (bits (BitVec.toNat v) 23 0) ∧ s.reloading g = true) ∧
    (∃ (s : State) (v : Word) (g : Nat), s.asleep = false ∧ s.tst = [] ∧ s.flag R.GLB_SNAP_CTRL_ON_COMMIT = false ∧ s.inP1 = false ∧ g ∈ s.usedGroups (bits (BitVec.toNat v) 23 0) ∧ (∀ (k : Nat), k ∈ s.usedGroups (bits (BitVec.toNat v) 23 0) → s.reloading k = false) ∧ (s.commit g).isSome = true) ∧
    (∃ (s : State) (v : Word), s.asleep = false ∧ s.tst = [] ∧ s.flag R.GLB_SNAP_CTRL_ON_COMMIT = false ∧ s.usedGroups (bits (BitVec.toNat v) 23 0) = [] ∧ (BitVec.toNat v).testBit 24 = true ∧ s.inP1 = false) ∧
    (∃ (s : State) (v : Word), s.asleep = false ∧ s.tst = [] ∧ s.flag R.GLB_SNAP_CTRL_ON_COMMIT = false ∧ s.commitRefusal (s.usedGroups (bits (BitVec.toNat v) 23 0)) ((BitVec.toNat v).testBit 24) s.inP1 = none ∧ (bits (BitVec.toNat v) 23 0 ≠ 0 ∨ (BitVec.toNat v).testBit 24 = true)) ∧
    (∃ (s : State) (v : Word) (g : Nat), s.asleep = false ∧ s.tst = [] ∧ s.flag R.GLB_SNAP_CTRL_ON_COMMIT = false ∧ s.usedGroups (bits (BitVec.toNat v) 23 0) = [g] ∧ (BitVec.toNat v).testBit 24 = false ∧ s.inP1 = false ∧ s.reloading g = false ∧ s.commit g = none ∧ s.tgEn g = true) :=
  ⟨⟨w [], 0xFE000000, by decide +kernel⟩,
   ⟨w [], 0x00800000, 4, by decide +kernel⟩,
   ⟨w [(R.THM_PWR_STAT_STATE, 1)], by decide +kernel⟩,
   ⟨w [], 0x00800000, by decide +kernel⟩,
   ⟨wMemb [(R.GLB_LATH_STAT_STATE, 5)], 0x01FFFFFF, 23, by decide +kernel⟩,
   ⟨(wMemb []).setCommit 23 (some ⟨0, 0, false, false, false, none, [], [], []⟩), 0x01FFFFFF, 23, by decide +kernel⟩,
   ⟨w [], 0x01000000, by decide +kernel⟩,
   ⟨wMemb [(R.STN_FG_THR_THR 23, 77)], 0x00FFFFFF, by decide +kernel⟩,
   ⟨wMemb [(R.CHK_TG_CTRL_EN 23, 1), (R.STN_FG_THR_THR 23, 77)], 0x00FFFFFF, 23, by decide +kernel⟩⟩

/-- States and operands that meet the hypotheses of `Obligations.SubPortCommands`, clause by clause. -/
theorem witness_SubPortCommands :
    (∃ (s : State) (x : Fin 8), s.asleep = false ∧ s.subState x.val = 1) ∧
    (∃ (s : State) (x : Fin 8), s.asleep = false ∧ s.subState x.val = 2) ∧
    (∃ (s : State) (x : Fin 8), s.asleep = false ∧ (s.subState x.val = 1 ∨ s.subState x.val = 2)) ∧
    (∃ (s : State) (x : Fin 8), s.asleep = false ∧ s.subState x.val ≠ 1 ∧ s.subState x.val ≠ 2) ∧
    (∃ (s : State) (x : Fin 8), s.asleep = false ∧ (s.subState x.val ≠ 4 ∨ s.division x.val (s.flag (R.UPL_SP_STAT_FALLBACK x.val)) = none)) ∧
    (∃ (s : State) (x : Fin 8) (ls : List Nat), s.asleep = false ∧ s.subState x.val = 4 ∧ s.division x.val (s.flag (R.UPL_SP_STAT_FALLBACK x.val)) = some ls) ∧
    (∃ (s : State) (u : Fin 8), s.asleep = false ∧ (s.tstMode (192 + u.val) ≠ 0 ∨ s.flag (R.UPL_LANE_STAT_IN_USE u.val) = false ∨ s.flag (R.UPL_LANE_STAT_AM_LOCK u.val) = true)) ∧
    (∃ (s : State) (u : Fin 8), s.asleep = false ∧ s.tstMode (192 + u.val) = 0 ∧ s.flag (R.UPL_LANE_STAT_IN_USE u.val) = true ∧ s.flag (R.UPL_LANE_STAT_AM_LOCK u.val) = false ∧ s.subState (s.rd (R.UPL_LANE_STAT_SUBPORT u.val)) = 3) ∧
    (∃ (s : State), s.asleep = false ∧ (∀ (k : Nat), s.flag (R.UPL_SP_STAT_FALLBACK k) = false)) ∧
    (∃ (s : State), s.asleep = false ∧ s.nsub = 1 ∧ s.flag (R.UPL_SP_STAT_FALLBACK 0) = true ∧ (∀ (u : Nat), u ∈ s.subLanes 0 → s.laneTaped u = false ∧ s.tstMode (192 + u) = 0)) ∧
    (∃ (s : State) (u : Fin 8), s.asleep = false ∧ s.tstMode (192 + u.val) = 0) ∧
    (∃ (s : State) (u : Fin 8), s.asleep = false ∧ s.tstMode (192 + u.val) = 0 ∧ s.flag (R.UPL_LANE_STAT_IN_USE u.val) = true ∧ s.laneTaped u.val = false ∧ s.subState (s.rd (R.UPL_LANE_STAT_SUBPORT u.val)) = 3) ∧
    (∃ (s : State) (u : Fin 8), s.asleep = false ∧ s.flag (R.UPL_LANE_STAT_IN_USE u.val) = false) :=
  ⟨⟨w [(R.UPL_SP_STAT_STATE 7, 1)], 7, by decide +kernel⟩,
   ⟨w [(R.UPL_SP_STAT_STATE 0, 2), (R.UPL_SP_STAT_LANES 0, 255)], 0, by decide +kernel⟩,
   ⟨w [(R.UPL_SP_STAT_STATE 7, 2)], 7, by decide +kernel⟩,
   ⟨w [], 7, by decide +kernel⟩,
   ⟨w [], 7, by decide +kernel⟩,
   ⟨w [(R.UPL_SP_STAT_STATE 0, 4)], 0, (w [(R.UPL_SP_STAT_STATE 0, 4)]).subLanes 0, by decide +kernel⟩,
   ⟨w [], 7, by decide +kernel⟩,
   ⟨w [(R.UPL_LANE_STAT_IN_USE 7, 1), (R.UPL_SP_STAT_STATE 0, 3)], 7, by decide +kernel⟩,
   ⟨w [], ⟨by decide +kernel, fun _ => by with_unfolding_all rfl⟩⟩,
   ⟨w [(R.UPL_CFG_NCLASS, 1), (R.UPL_SP_STAT_FALLBACK 0, 1)], by decide +kernel⟩,
   ⟨w [(R.UPL_LANE_CFG_DEG_THR, 3)], 7, by decide +kernel⟩,
   ⟨w [(R.UPL_LANE_STAT_IN_USE 7, 1), (R.UPL_SP_STAT_STATE 0, 3)], 7, by decide +kernel⟩,
   ⟨w [], 7, by decide +kernel⟩⟩

/-- States and operands that meet the hypotheses of `Obligations.FrameCommands`, clause by clause. -/
theorem witness_FrameCommands :
    (∃ (s : State) (x : Fin 8), s.asleep = false ∧ s.subState x.val ≠ 3 ∧ (s.sub x.val).cur = none) ∧
    (∃ (s : State) (x : Fin 8) (f : Frame) (done : Nat), s.asleep = false ∧ (s.sub x.val).cur = some (f, done)) ∧
    (∃ (s : State) (x : Fin 8) (c : Fin 8), s.asleep = false ∧ (s.ucl (cix x.val c.val)).queue = []) ∧
    (∃ (s : State) (x : Fin 8) (c : Fin 8) (f : Frame) (rest : List Frame), s.asleep = false ∧ (s.ucl (cix x.val c.val)).queue = f :: rest ∧ f.deadline = none) ∧
    (∃ (s : State) (x : Fin 8) (c : Fin 8) (f : Frame) (rest : List Frame) (d : Nat), s.asleep = false ∧ (s.ucl (cix x.val c.val)).queue = f :: rest ∧ f.deadline = some d ∧ 0 < s.subRate x.val ∧ s.chalk.run = true) ∧
    (∃ (s : State) (x : Fin 8) (c : Fin 8) (f : Frame) (rest : List Frame) (d : Nat), s.asleep = false ∧ (s.ucl (cix x.val c.val)).queue = f :: rest ∧ f.deadline = some d ∧ s.subRate x.val = 0) ∧
    (∃ (s : State) (x : Fin 8) (c : Fin 8), s.asleep = false ∧ (s.ucl (cix x.val c.val)).objs = none) ∧
    (∃ (s : State) (x : Fin 8) (c : Fin 8), s.asleep = false ∧ (s.ucl (cix x.val c.val)).evts = none) ∧
    (∃ (s : State) (x : Fin 8) (c : Fin 8) (o : OpenFrame), s.asleep = false ∧ (s.ucl (cix x.val c.val)).objs = some o) ∧
    (∃ (s : State) (x : Fin 8) (c : Fin 8) (o : OpenFrame), s.asleep = false ∧ (s.ucl (cix x.val c.val)).evts = some o) ∧
    (∃ (s : State) (x : Fin 8), s.asleep = false ∧ s.subState x.val ≠ 3) ∧
    (∃ (s : State) (r : RxFrame), s.asleep = false ∧ (r.bad = true ∨ 9216 < r.bytes.length + 4)) ∧
    (∃ (s : State) (x : Fin 8) (r : RxFrame), s.asleep = false ∧ s.subState x.val = 3 ∧ s.rxKind x.val r = RxKind.other) ∧
    (∃ (s : State) (x : Fin 8) (r : RxFrame) (f : List Byte), s.asleep = false ∧ s.subState x.val = 3 ∧ s.rxKind x.val r = RxKind.fxt f ∧ fxtType f ≠ 16) ∧
    (∃ (s : State) (x : Fin 8) (r : RxFrame) (f : List Byte), s.asleep = false ∧ s.subState x.val = 3 ∧ s.rxKind x.val r = RxKind.fxt f ∧ fxtType f = 16) ∧
    (∃ (s : State) (x : Fin 8) (r : RxFrame), s.asleep = false ∧ s.rxKind x.val r = RxKind.control) ∧
    (∃ (s : State) (x : Fin 8) (f : List Byte), s.asleep = false ∧ s.subState x.val = 3 ∧ (mgmtFrame f = none ∨ s.flag R.FXT_CFG_MGMT_EN = false ∨ s.matchOn x.val 17 255 = none)) ∧
    (∃ (s : State) (x : Fin 8) (f : List Byte) (ops : List MgmtOp), s.asleep = false ∧ s.subState x.val = 3 ∧ mgmtFrame f = some ops ∧ s.flag R.FXT_CFG_MGMT_EN = true ∧ (s.matchOn x.val 17 255).isSome = true ∧ 4 ≤ s.mgmtHeld) ∧
    (∃ (s : State) (x : Fin 8) (f : List Byte) (d : Nat), s.asleep = false ∧ s.subState x.val = 3 ∧ mgmtFrame f = some [{ op := 1, addr := 1, data := d }] ∧ s.flag R.FXT_CFG_MGMT_EN = true ∧ (s.matchOn x.val 17 255).isSome = true ∧ s.mgmtHeld < 4 ∧ s.io.reqs = []) ∧
    (∃ (s : State) (x : Fin 8) (f : List Byte) (ops : List MgmtOp), s.asleep = false ∧ s.subState x.val = 3 ∧ mgmtFrame f = some ops ∧ s.flag R.FXT_CFG_MGMT_EN = true ∧ (s.matchOn x.val 17 255).isSome = true ∧ s.mgmtHeld < 4) ∧
    (∃ (s : State) (x : Fin 8) (c : Fin 8), s.asleep = false ∧ s.replay.closing = [] ∧ s.replay.run = none ∧ (s.ucl (cix x.val c.val)).wait = []) ∧
    (∃ (s : State) (x : Fin 8) (c : Fin 8) (r : Encap × FrameReq) (rest : List (Encap × FrameReq)), s.asleep = false ∧ s.replay.closing = [] ∧ s.replay.run = none ∧ (s.ucl (cix x.val c.val)).wait = r :: rest ∧ s.classRoom x.val (cix x.val c.val) r.snd.type (36 + r.snd.payload.length) = true) :=
  ⟨⟨w [], 7, by decide +kernel⟩,
   ⟨(wUp []).setSub 7 { SubPort.init with cur := some (wFrame none, 5) }, 7, wFrame none, 5, by decide +kernel⟩,
   ⟨w [], 7, 7, by decide +kernel⟩,
   ⟨(wUp []).setUcl (cix 7 3) { UClass.init with queue := [wFrame none] }, 7, 3, wFrame none, [], by decide +kernel⟩,
   ⟨{ (wUp []).setUcl (cix 7 3) { UClass.init with queue := [wFrame (some 9)] } with chalk := { Chalk.init with run := true } }, 7, 3, wFrame (some 9), [], 9, by decide +kernel⟩,
   ⟨{ (w [(R.UPL_CLASS_KINDS (cix 7 3), 127)]).setUcl (cix 7 3) { UClass.init with queue := [wFrame (some 9)] } with chalk := { Chalk.init with run := true, time := 2 ^ 40 } }, 7, 3, wFrame (some 9), [], 9, by decide +kernel⟩,
   ⟨w [], 7, 7, by decide +kernel⟩,
   ⟨w [], 7, 7, by decide +kernel⟩,
   ⟨(wUp []).setUcl (cix 7 3) { UClass.init with objs := some ⟨5, 6, [zeros 256], 4⟩ }, 7, 3, ⟨5, 6, [zeros 256], 4⟩, by decide +kernel⟩,
   ⟨(wUp []).setUcl (cix 7 3) { UClass.init with evts := some ⟨0, 6, [zeros 16], 4⟩ }, 7, 3, ⟨0, 6, [zeros 16], 4⟩, by decide +kernel⟩,
   ⟨w [], 7, by decide +kernel⟩,
   ⟨wUp [], ⟨[], true⟩, by decide +kernel⟩,
   ⟨wUp [], 7, ⟨[], true⟩, by decide +kernel⟩,
   ⟨wUp [], 7, wRx ([0x10#8, 0x11#8] ++ zeros 34), [0x10#8, 0x11#8] ++ zeros 34, by decide +kernel⟩,
   ⟨wUp [(R.FXT_CFG_MGMT_EN, 1)], 7, wRx wMgmt, wMgmt, by decide +kernel⟩,
   ⟨wUp [], 7, wRxControl, by decide +kernel⟩,
   ⟨wUp [], 7, [], by decide +kernel⟩,
   ⟨(wUp [(R.FXT_CFG_MGMT_EN, 1)]).setUcl (cix 7 3) { UClass.init with wait := [(wEncap, ⟨0x11, 0, 0, 0, []⟩), (wEncap, ⟨0x11, 0, 0, 0, []⟩), (wEncap, ⟨0x11, 0, 0, 0, []⟩), (wEncap, ⟨0x11, 0, 0, 0, []⟩)] }, 7, wMgmt, [⟨1, 1, 0⟩], by decide +kernel⟩,
   ⟨wUp [(R.FXT_CFG_MGMT_EN, 1)], 7, wMgmt, 0, by decide +kernel⟩,
   ⟨wUp [(R.FXT_CFG_MGMT_EN, 1)], 7, wMgmt, [⟨1, 1, 0⟩], by decide +kernel⟩,
   ⟨w [], 7, 7, by decide +kernel⟩,
   ⟨(wUp []).setUcl (cix 7 3) { UClass.init with wait := [(wEncap, ⟨0x11, 0, 0, 0, zeros 4⟩)] }, 7, 3, (wEncap, ⟨0x11, 0, 0, 0, zeros 4⟩), [], by decide +kernel⟩⟩

/-- States and operands that meet the hypotheses of `Obligations.FlowAndTimeCommands`, clause by clause. -/
theorem witness_FlowAndTimeCommands :
    (∃ (s : State) (e : Byte) (q : List (BitVec 16)) (k : Nat), s.asleep = false ∧ k < 8 ∧ q.length = 8 ∧ (BitVec.toNat e).testBit k = true) ∧
    (∃ (s : State), s.asleep = false ∧ s.flag R.UPL_CTRL_PAUSE_EN = false) ∧
    (∃ (s : State), s.asleep = false ∧ s.flag R.UPL_CTRL_PAUSE_EN = true) ∧
    (∃ (s : State) (x : Fin 8) (k : Fin 9), s.asleep = false ∧ (s.rd R.UPL_FLOW_PAUSE_MAX = 0 ∨ ∀ (q : Nat), q ∈ (s.sub x.val).slot k.val → (s.sub x.val).noted.contains q = true)) ∧
    (∃ (s : State) (x : Fin 8) (k : Fin 9) (q : Nat) (c : Nat), s.asleep = false ∧ s.rd R.UPL_FLOW_PAUSE_MAX ≠ 0 ∧ q ∈ (s.sub x.val).slot k.val ∧ (s.sub x.val).noted.contains q = false ∧ c ∈ s.classes x.val ∧ s.rd (R.UPL_CLASS_CTRL_LIVE_PCP (cix x.val c)) = q) ∧
    (∃ (s : State) (x : Fin 8) (h : PtpHdr), s.asleep = false ∧ (s.flag R.UPL_PTP_CFG_EN = false ∨ x.val ≠ s.rd R.UPL_PTP_CFG_SUBPORT ∨ BitVec.toNat h.domain ≠ s.rd R.UPL_PTP_CFG_DOMAIN ∨ h.via.val ≠ s.ptpVia)) ∧
    (∃ (s : State) (x : Fin 8) (h : PtpHdr), s.asleep = false ∧ s.ptpTaken x.val h = true) ∧
    (∃ (s : State) (h : PtpHdr), s.asleep = false ∧ s.ptp.master ≠ some h.source.toNat) ∧
    (∃ (s : State) (x : Fin 8) (h : PtpHdr) (q : BitVec 16) (t2 : Nat) (c : Int), s.asleep = false ∧ s.ptpTaken x.val h = true ∧ s.ptp.master = some h.source.toNat ∧ s.ptp.sync = some (q.toNat, t2, c)) ∧
    (∃ (s : State) (x : Fin 8) (h : PtpHdr) (q : BitVec 16) (t1 : Int) (t2 : Int) (d : DelayReq), s.asleep = false ∧ s.ptpTaken x.val h = true ∧ s.ptp.master = some h.source.toNat ∧ s.ptp.pair = some (t1, t2) ∧ s.ptp.dreq = some d ∧ d.seq = q.toNat ∧ s.flag R.UPL_PTP_CFG_DISCIPLINE = false) ∧
    (∃ (s : State), s.asleep = false ∧ (s.rd R.UPL_PTP_STAT_SERVO = 1 ∨ s.rd R.UPL_PTP_STAT_SERVO = 2)) ∧
    (∃ (s : State), s.asleep = false ∧ s.rd R.UPL_PTP_STAT_SERVO ≠ 1 ∧ s.rd R.UPL_PTP_STAT_SERVO ≠ 2) ∧
    (∃ (s : State) (x : Fin 8), s.asleep = false ∧ (s.rd R.FXT_TIME_CFG_PERIOD = 0 ∨ s.subState x.val ≠ 3)) ∧
    (∃ (s : State) (x : Fin 8) (c : Nat), s.asleep = false ∧ s.rd R.FXT_TIME_CFG_PERIOD ≠ 0 ∧ s.subState x.val = 3 ∧ List.filter (s.matchesClass x.val 32 255) (s.classes x.val) = [c] ∧ s.classRoom x.val (cix x.val c) 32 68 = true) ∧
    (∃ (s : State), s.asleep = false) :=
  ⟨⟨w [], 0x81, [0, 1, 2, 3, 4, 5, 6, 0xFFFF], 7, by decide +kernel⟩,
   ⟨w [(R.UPL_CTRL_PAUSE_EN, 0)], by decide +kernel⟩,
   ⟨w [(R.UPL_CTRL_PAUSE_EN, 1)], by decide +kernel⟩,
   ⟨w [], 7, 8, by decide +kernel⟩,
   ⟨(wUp [(R.UPL_FLOW_PAUSE_MAX, 5), (R.UPL_CLASS_CTRL_LIVE_PCP (cix 7 3), 6)]).setSub 7 { SubPort.init with paused := [6], byPause := [6] }, 7, 8, 6, 3, by decide +kernel⟩,
   ⟨w [], 7, ⟨9, 0, 5⟩, by decide +kernel⟩,
   ⟨wPtp Ptp.init, 7, ⟨9, 0, 5⟩, by decide +kernel⟩,
   ⟨wPtp Ptp.init, ⟨9, 0, 5⟩, by decide +kernel⟩,
   ⟨wPtp { Ptp.init with master := some 5, sync := some (4, 8, 2) }, 7, ⟨9, 0, 5⟩, 4, 8, 2, by decide +kernel⟩,
   ⟨wPtp { Ptp.init with master := some 5, pair := some (10, 20), dreq := some ⟨0, 7, 9, 5, 30⟩ }, 7, ⟨9, 0, 5⟩, 5, 10, 20, ⟨0, 7, 9, 5, 30⟩, by decide +kernel⟩,
   ⟨w [(R.UPL_PTP_STAT_SERVO, 2)], by decide +kernel⟩,
   ⟨w [], by decide +kernel⟩,
   ⟨w [], 7, by decide +kernel⟩,
   ⟨wUp [(R.FXT_TIME_CFG_PERIOD, 1)], 7, 3, by decide +kernel⟩,
   ⟨w [], by decide +kernel⟩⟩

/-! ### Well-formedness: each check refuses a term -/

theorem test_wf_window : WellFormed (.measureWindowEnd 0 (2 ^ 18 + 1) 0 0 0 ⟨0, 0, 0, 0, 0, 0⟩) = false := by decide
theorem test_wf_stripe : WellFormed (.lineHeaderReceived 0 []) = false := by decide
theorem test_wf_units : WellFormed (.badMessageReceived 0 []) = false := by decide
theorem test_wf_end (n : Nat) (h : 2 ^ 16 < n) (b : Fin 4 × Block) : WellFormed (.linePayloadEnd 0 (List.replicate n b) b) = false := by
  have h1 : ¬ n + 1 ≤ 2 ^ 16 := by omega
  exact decide_eq_false fun e => h1 (by have := e.2; simp only [List.length_append, List.length_replicate, List.length_singleton] at this; exact this)
theorem test_wf_head_rsp : WellFormed (.headRspReceived 0 0 (zeros 254)) = false := by decide +kernel
theorem test_wf_head_evt : WellFormed (.headEvtReceived 0 (zeros 256)) = false := by decide +kernel
theorem test_wf_chal_rsp : WellFormed (.chalRspReceived 0 (zeros 256)) = false := by decide +kernel
theorem test_wf_pfc : WellFormed (.pfcReceived 0 0 (List.replicate 7 0)) = false := by decide
theorem test_wf_thermal : WellFormed (.thermalSample (List.replicate 15 none)) = false := by decide
theorem test_wf_dbg_read : WellFormed (.dbgRead 0 (zeros 15)) = false := by decide
theorem test_wf_dbg_write : WellFormed (.dbgWrite 0 0 (zeros 17)) = false := by decide
theorem test_wf_spi_tagged : WellFormed (.spiTaggedWrite 0 0 (zeros 15)) = false := by decide
theorem test_wf_lock_loss : WellFormed (.tstCheckerLockLoss 0 31) = false := by decide
theorem test_wf_mge : WellFormed (.mgeMgmtReq (zeros 13) false) = false := by decide
theorem test_wf_slots (n : Nat) (h : 2 ^ 26 < n) : WellFormed (.slotVerifyDone (List.replicate n 0) []) = false := by
  have h1 : ¬ n ≤ 2 ^ 26 := Nat.not_le.mpr h
  simp only [WellFormed, List.length_replicate, h1, false_and, decide_false]
theorem test_wf_accepts : WellFormed (.spiTaggedWrite 0 0 (zeros 16)) = true := by decide

/-! ### Worked examples of the spec -/

/-- R537: x^7 + x^6 + 1 from the all-ones state. -/
theorem test_prbs7 : (List.range 14).map (fun k => (prbsState 7 6 k).testBit 6) =
    [true, true, true, true, true, true, true, false, false, false, false, false, false, true] := by decide +kernel

/-- The nine bytes of the check values of R447. -/
def nine : List Byte := [0x31#8, 0x32#8, 0x33#8, 0x34#8, 0x35#8, 0x36#8, 0x37#8, 0x38#8, 0x39#8]

/-- R447: check value of CRC-32C. -/
theorem test_crc32c : crc32c nine = 0xE3069283 := by decide +kernel

/-- R447: check value of CRC-16/CCITT-FALSE. -/
theorem test_crc16 : crc16 nine = 0x29B1 := by decide +kernel

/-- R447: check values of the other fixed algorithms, eight bytes in the register and the ninth in one command. -/
theorem test_cvu_crc32 : ((after (exec (.cvuFeed8 0 0x39) (((w [(R.CVU_CFG_ALG 0, 1)]).wr (R.CVU_VALUE 0) 0xFFFFFFFF) |> cvuFeed 0 4 0x34333231 |>
    cvuFeed 0 4 0x38373635)) State.reset).cvuResult 0) = 0xCBF43926 := by decide +kernel

theorem test_cvu_crc8 : ((after (exec (.cvuFeed8 0 0x39) (((w [(R.CVU_CFG_ALG 0, 3)]).wr (R.CVU_VALUE 0) 0xFF) |> cvuFeed 0 4 0x34333231 |>
    cvuFeed 0 4 0x38373635)) State.reset).cvuResult 0) = 0xDF := by decide +kernel

/-- R98: with PERIOD_INT 16,666 and PERIOD_FRAC 0xAAAB, the third trigger is sent 50,000 ns after START. -/
theorem test_trigger_time : (w [(R.CHK_TG_PERIOD_INT_INT 0, 16666), (R.CHK_TG_PERIOD_FRAC_FRAC 0, 0xAAAB)]).tgTime 0 3 = 50000 := by
  decide +kernel

/-- R127: T1 = 1,000,000, T2 = 1,000,070, T3 = 1,000,470, T4 = 1,000,500. -/
theorem test_sync : syncOffset 1000000 1000070 1000470 1000500 0 = 20 ∧ syncDelay 1000000 1000070 1000470 1000500 = 50 := by decide

/-- R133: the 12-bit sample 0x5A3 unpacks to 0x5A30. -/
theorem test_unpack : unpack [0x5A#8, 0x30#8, 0x00#8] 12 0 = 23088 := by decide +kernel

/-- R137: step 4 of the sample. -/
theorem test_gain : gainStep 0x4A31 19808 = (22962, 0) := by decide

/-- R144: x = 2 of the segment lands at 15.5 pixels, and the weights there. -/
theorem test_remap_pos : sourcePos ⟨0, 0x3200, 0x180000, 0, 0⟩ 2 = 15872 := by decide
theorem test_remap_weights : cubicWeights 512 = [-2 ^ 27, 9 * 2 ^ 27, 9 * 2 ^ 27, -2 ^ 27] := by decide

/-- R144: the weighted sum of samples 1,000, 2,000, 3,000 and 5,000. -/
theorem test_remap_sample : (remapSample 14 [1000, 2000, 3000, 5000] 15872).1 = 2438 := by decide +kernel

/-- R177, R178: the slice of 1,730 samples with sum 69,788,200 moves the gain from 18,993 to 18,975. -/
theorem test_gain_move : gainTarget 18993 69788200 1730 40000 = some 18833 ∧ gainMove 18993 18833 1730 12 10 = (18975, true) := by
  decide +kernel

/-- R215: column 120 of the 240 columns of an overlap. -/
theorem test_crossfade : overlapValue ⟨0, 5219, 0, 0, 0, true, 0⟩ 4980 5219 5100 (some 22962) (some 23100) = some 23031 := by decide +kernel

/-- No command has bits in the opcode table, so no word spells one. -/
theorem test_decode_none : Sys2Proof.decodeTableWord 32 0 = none := by decide

/-- R16: row letters. -/
theorem test_rows : [20, 35, 36, 48, 59].map rowName = ["AA", "AU", "AV", "BK", "CB"] := by decide +kernel

/-- R581 to R583: the balls of the manual's examples. -/
theorem test_balls : ballAt 2 43 = some (.vsl false 37 false) ∧ ballAt 6 43 = some (.vsl true 37 true) ∧
    ballAt 20 53 = some (.vsl false 191 false) ∧ ballAt 24 53 = some (.vsl true 191 true) ∧ ballAt 22 55 = some (.up true 7 false) ∧
    ballAt 22 59 = some (.up false 7 true) ∧ ballAt 44 28 = some (.mem 5 true (.ck false)) := by decide +kernel

end Sys2Proof.Machine
end

section
/-! PROOF. Blocks received on a lane (O15). A block that arrives writes the lane twice or more: the descrambler moves on, then the
block's kind acts. In a canonical lane table the last of these writes stands and the clauses of `Obligations.BlockCommands` hold
(`blockClauses_of_canonical`). The obligation also speaks of tables that list a lane twice, where a write of the reset value drops
both entries and a later write restores one: there it fails. -/

namespace Sys2Proof.Machine

/-! ### Two writes to one key of a table -/

theorem Tab.erase_of_above {α : Type} {a : Nat} : ∀ {t : Tab α}, t.above a = true → t.erase a = t
  | [], _ => rfl
  | (k, v) :: t, h => by
    simp only [Tab.above, Bool.and_eq_true, decide_eq_true_eq] at h
    rw [Tab.erase, if_neg (by omega), Tab.erase_of_above h.2]

theorem Tab.insert_of_above {α : Type} {a : Nat} (w : α) : ∀ {t : Tab α}, t.above a = true → t.insert a w = (a, w) :: t
  | [], _ => rfl
  | (k, v) :: t, h => by
    simp only [Tab.above, Bool.and_eq_true, decide_eq_true_eq] at h
    rw [Tab.insert, if_pos h.1]

theorem Tab.erase_erase {α : Type} (a : Nat) : ∀ t : Tab α, (t.erase a).erase a = t.erase a
  | [] => rfl
  | (k, v) :: t => by
    by_cases hk : k = a <;> simp [Tab.erase, hk, Tab.erase_erase a t]

theorem Tab.erase_insert {α : Type} (a : Nat) (v : α) : ∀ t : Tab α, (t.insert a v).erase a = t.erase a
  | [] => by simp [Tab.insert, Tab.erase]
  | (k, x) :: t => by
    rcases Nat.lt_trichotomy a k with hk | rfl | hk
    · simp [Tab.insert, Tab.erase, hk]
    · simp [Tab.insert, Tab.erase]
    · have h1 : ¬ a < k := by omega
      have h2 : a ≠ k := by omega
      simp [Tab.insert, Tab.erase, h1, h2, Tab.erase_insert a v t]

theorem Tab.insert_insert {α : Type} (a : Nat) (v w : α) : ∀ t : Tab α, (t.insert a v).insert a w = t.insert a w
  | [] => by simp [Tab.insert]
  | (k, x) :: t => by
    rcases Nat.lt_trichotomy a k with hk | rfl | hk
    · simp [Tab.insert, hk]
    · simp [Tab.insert]
    · have h1 : ¬ a < k := by omega
      have h2 : a ≠ k := by omega
      simp [Tab.insert, h1, h2, Tab.insert_insert a v w t]

/-- In a canonical table an entry that is erased and listed again stands where it stood. -/
theorem Tab.insert_erase {α : Type} [DecidableEq α] {d : α} (a : Nat) (w : α) :
    ∀ {t : Tab α}, t.wf d = true → (t.erase a).insert a w = t.insert a w
  | [], _ => rfl
  | (k, x) :: t, h => by
    simp only [Tab.wf, Bool.and_eq_true, decide_eq_true_eq] at h
    obtain ⟨⟨habove, -⟩, hwf⟩ := h
    rcases Nat.lt_trichotomy a k with hk | rfl | hk
    · rw [Tab.erase, if_neg (by omega), Tab.erase_of_above (Tab.above_mono (Nat.le_of_lt hk) habove)]
    · rw [Tab.erase, if_pos rfl, Tab.erase_of_above habove, Tab.insert_of_above w habove]
      simp [Tab.insert]
    · have h1 : ¬ a < k := by omega
      have h2 : a ≠ k := by omega
      simp [Tab.erase, Tab.insert, h1, h2, Ne.symm h2, Tab.insert_erase a w hwf]

/-- Of two writes to one key of a canonical table the later one stands. -/
theorem Tab.set_set {α : Type} [DecidableEq α] {d : α} {t : Tab α} (h : t.wf d = true) (a : Nat) (v w : α) :
    (t.set d a v).set d a w = t.set d a w := by
  by_cases hv : v = d <;> by_cases hw : w = d <;>
    simp only [Tab.set, hv, hw, if_true, if_false, Tab.erase_erase, Tab.erase_insert, Tab.insert_insert, Tab.insert_erase a w h]

/-! ### Canonical lane tables -/

/-- The lane table is canonical at reset; with `setLane_lanes_wf`, in every state that the block reaches: nothing else writes it. -/
theorem reset_lanes_wf : State.reset.lanes.wf Lane.init = true := rfl

theorem setLane_lanes_wf {s : State} (hc : s.lanes.wf Lane.init = true) (n : Nat) (x : Lane) :
    (s.setLane n x).lanes.wf Lane.init = true := Tab.wf_set hc

theorem setLane_setLane {s : State} (hc : s.lanes.wf Lane.init = true) (n : Nat) (x y : Lane) :
    (s.setLane n x).setLane n y = s.setLane n y := by
  simp only [State.setLane, Tab.set_set hc]

/-! ### What arrives on a lane -/

theorem act_untested {s : State} {n : Nat} (ha : s.asleep = false) (ht : s.tstMode n = 0) (f : State → State) :
    act (untested n f) s = .next (settle (f s)) := by
  simp [act, untested, ha, ht]

/-- Lane `l` after block `u` of a scrambler in step: its descrambler has moved on (R46). -/
def Lane.heard (l : Lane) (u : Block) : Lane := { l with rxScr := scrNext (blockPayload (onWire l.rxScr u)) }

/-- Lane `l` after a block with bytes `bs` that its BIP8 counts (R69). -/
def Lane.counted (l : Lane) (bs : List Byte) : Lane := { l with bip := l.bip ^^^ bip8 bs }

theorem rxBlock_off {s : State} {n : Nat} (h0 : s.laneState n = 0) (w : Block) (fill skew : Nat) : rxBlock n w fill skew s = s :=
  if_pos h0

theorem rxBlock_unlocked {s : State} {n : Nat} (h0 : s.laneState n ≠ 0) (hl : s.flag (R.VSP_LANE_STAT_BLOCK_LOCK n) = false)
    (u : Block) (fill skew : Nat) :
    rxBlock n (onWire (s.lane n).rxScr u) fill skew s = s.setLane n ((s.lane n).heard u) := by
  simp [rxBlock, h0, hl, onLane, Lane.heard]

theorem rxBlock_locked {s : State} {n : Nat} (h0 : s.laneState n ≠ 0) (hl : s.flag (R.VSP_LANE_STAT_BLOCK_LOCK n) = true)
    (u : Block) (fill skew : Nat) :
    rxBlock n (onWire (s.lane n).rxScr u) fill skew s = laneBlock n u fill skew (s.setLane n ((s.lane n).heard u)) := by
  simp [rxBlock, h0, hl, onLane, Lane.heard, descramble_onWire]

section
variable {u : Block} (n fill skew : Nat) (s : State)

theorem laneBlock_filler (hk : blockKind u = .filler) : laneBlock n u fill skew s = fillerBlock n fill s := by
  simp [laneBlock, bipTake, hk]

theorem laneBlock_train (hk : blockKind u = .train) : laneBlock n u fill skew s = trainBlock n (blockBytes u) fill s := by
  simp [laneBlock, bipTake, hk]

theorem laneBlock_align (hk : blockKind u = .align) : laneBlock n u fill skew s = alignBlock n (blockBytes u) skew s := by
  simp [laneBlock, bipTake, hk]

theorem laneBlock_reserved (hk : blockKind u = .reserved ∨ blockKind u = .invalid) :
    laneBlock n u fill skew s =
      reservedBlock n (blockKind u = .invalid) (s.setLane n ((s.lane n).counted (blockBytes u))) := by
  rcases hk with hk | hk <;> simp [laneBlock, bipTake, hk, onLane, Lane.counted]

end

/-! ### The state of a lane after writes to other registers -/

theorem wr_laneState (s : State) {f : Fld} {n : Nat} (v : Nat) (h : (R.VSP_LANE_STAT_STATE n).key ≠ f.key) :
    (s.wr f v).laneState n = s.laneState n := State.rd_wr_other s v (.inr h)

theorem raise_laneState (s : State) (e n : Nat) : (s.raise e).laneState n = s.laneState n := rfl

theorem dropLine_laneState (n m : Nat) (d : Drop) (stream line : Nat) (s : State) :
    (dropLine m d stream line s).laneState n = s.laneState n := by
  have hw (t : State) (a b c : Nat) : (((t.wr (R.VSP_LAST_DROP_CAUSE m) a).wr (R.VSP_LAST_DROP_STREAM m) b).wr
      (R.VSP_LAST_DROP_LINE m) c).laneState n = t.laneState n := by
    simp (disch := simp only [R.VSP_LANE_STAT_STATE, R.VSP_LAST_DROP_CAUSE, R.VSP_LAST_DROP_STREAM, R.VSP_LAST_DROP_LINE, Fld.at]; omega)
      only [wr_laneState]
  unfold dropLine
  split
  · exact (raise_laneState ..).trans (hw ..)
  · exact hw ..

theorem lineToRender_laneState (n m : Nat) (k : Pkt) (payload : List Byte) (good : Bool) (s : State) :
    (lineToRender m k payload good s).laneState n = s.laneState n := by
  unfold lineToRender
  dsimp only
  split <;> rfl

theorem packetCut_laneState (n m : Nat) (s : State) : (packetCut m s).laneState n = s.laneState n := by
  unfold packetCut
  split
  · exact dropLine_laneState ..
  · dsimp only
    split
    · exact (lineToRender_laneState ..).trans (dropLine_laneState ..)
    · rfl
  · rfl

/-! ### FILLER, and the queue that overflows -/

theorem wrongBlock_setLane {s : State} (hc : s.lanes.wf Lane.init = true) (n : Nat) (l : Lane) :
    wrongBlock n (s.setLane n l) = s.setLane n { l with burst := l.burst || (s.laneState n == 2 && !l.linkUp) } := by
  have hs : (s.setLane n l).laneState n = s.laneState n := rfl
  cases hb : (s.laneState n == 2 && !l.linkUp) <;>
    simp [wrongBlock, State.when, onLane, hs, hb, setLane_setLane hc]

theorem bufferError_eq (n : Nat) (s : State) :
    bufferError n s = ((packetCut (s.base n) ((s.setLane n { s.lane n with fill := 32 }).inc (R.VSP_EB_ERR n))).raiseIf
      (s.laneState n != 7) (6 * n)) := by
  simp only [bufferError, laneEvent, packetCut_laneState]
  rfl

theorem elastic_setLane {s : State} (hc : s.lanes.wf Lane.init = true) (n : Nat) (fill : Fin 65) (l : Lane) :
    elastic n fill (s.setLane n l) =
      if fill.val = 0 ∨ fill.val = 64 then
        ((packetCut (s.base n) ((s.setLane n { l with fill := 32 }).inc (R.VSP_EB_ERR n))).raiseIf (s.laneState n != 7) (6 * n))
      else if 40 < fill.val then (s.setLane n { l with fill := fill - 1 }).inc (R.VSP_FILL_DEL n)
      else if fill.val < 24 then (s.setLane n { l with fill := fill + 1 }).inc (R.VSP_FILL_INS n)
      else s.setLane n { l with fill := fill } := by
  have h64 : 64 ≤ fill.val ↔ fill.val = 64 := by omega
  have hb : (s.setLane n l).base n = s.base n := rfl
  have hs : (s.setLane n l).laneState n = s.laneState n := rfl
  simp only [elastic, bufferError_eq, onLane, State.lane_set_same, setLane_setLane hc, h64, hb, hs]

theorem dualOverflow_off {n : Nat} {s : State} (h0 : s.laneState n = 0) : dualOverflow n s = s := if_pos h0

theorem dualOverflow_eq {n : Nat} {s : State} (h0 : s.laneState n ≠ 0) :
    dualOverflow n s = (packetCut (s.base n) s).raiseIf (s.laneState n != 7) (6 * n) := by
  simp only [dualOverflow, if_neg h0, laneEvent, packetCut_laneState]
  rfl

/-! ### CAPS -/

theorem slice_slice (bs : List Byte) (i j k m : Nat) (h : j + k ≤ m) : slice (slice bs i m) j k = slice bs (i + j) k := by
  simp only [slice, List.drop_take, List.drop_drop, List.take_take]
  rw [Nat.min_eq_left (by omega)]

theorem beAt_slice (bs : List Byte) {i j k m : Nat} (h : j + k ≤ m) : beAt (slice bs i m) j k = beAt bs (i + j) k := by
  simp only [beAt, slice_slice bs i j k m h]

theorem beAt_one_lt (bs : List Byte) (i : Nat) : beAt bs i 1 < 2 ^ 8 := by
  unfold beAt slice
  match bs.drop i with
  | [] => simp [beNat]
  | b :: t => simpa [beNat] using b.isLt

theorem latchCaps_laneState (n m : Nat) (page : List Byte) (s : State) : (latchCaps m page s).laneState n = s.laneState n := by
  simp (disch := simp only [R.VSP_LANE_STAT_STATE, R.VSP_HEAD_CAPS_CHAL, R.VSP_HEAD_CAPS_RATES, R.VSP_HEAD_CAPS_FORMATS,
    R.VSP_HEAD_CAPS_STREAMS, R.VSP_HEAD_CAPS_MAX_LINE, Fld.at]; omega) only [latchCaps, wr_laneState]

theorem latchCaps_maxLine (n : Nat) (bs : List Byte) (s : State) :
    (latchCaps n (slice bs 3 5) s).rd (R.VSP_HEAD_CAPS_MAX_LINE n) = beAt bs 6 1 := by
  rw [latchCaps, State.rd_wr_same, beAt_slice bs (by omega)]
  exact Nat.mod_eq_of_lt (beAt_one_lt bs 6)

theorem latchCaps_streams (n : Nat) (bs : List Byte) (s : State) :
    (latchCaps n (slice bs 3 5) s).rd (R.VSP_HEAD_CAPS_STREAMS n) = bits (beAt bs 5 1) 3 0 := by
  have hkey : (R.VSP_HEAD_CAPS_STREAMS n).key ≠ (R.VSP_HEAD_CAPS_MAX_LINE n).key := by
    simp only [R.VSP_HEAD_CAPS_STREAMS, R.VSP_HEAD_CAPS_MAX_LINE, Fld.at]
    omega
  rw [latchCaps, State.rd_wr_other _ _ (.inr hkey), State.rd_wr_same, beAt_slice bs (by omega)]
  exact Nat.mod_mod _ _

/-- The second CAPS page in succession with equal content is latched (R50). -/
theorem trainPage_caps {n : Nat} {bs : List Byte} {s : State} (hp : bits (beAt bs 1 1) 7 6 = 1)
    (hq : (s.lane n).capsPage = some (slice bs 3 5)) :
    trainPage n bs s = latchCaps n (slice bs 3 5) (s.setLane n (s.lane n)) := by
  have e : ({ s.lane n with capsPage := some (slice bs 3 5) } : Lane) = s.lane n := by rw [← hq]
  simp only [trainPage, hp, hq, if_true, e]

theorem trainEcho_not_training {n : Nat} {bs : List Byte} {s : State} (h2 : s.laneState n ≠ 2) : trainEcho n bs s = s := by
  simp [trainEcho, h2]

/-- Outside TRAINING and UP the second of two equal CAPS pages is latched and raises nothing (R50, R77). -/
theorem trainBlock_caps {n : Nat} {bs : List Byte} {s : State} (fill : Nat) (h2 : s.laneState n ≠ 2) (h3 : s.laneState n ≠ 3)
    (hp : bits (beAt bs 1 1) 7 6 = 1) (hq : (s.lane n).capsPage = some (slice bs 3 5)) :
    (trainBlock n bs fill s).laneState n = s.laneState n ∧
      (trainBlock n bs fill s).rd (R.VSP_HEAD_CAPS_MAX_LINE n) = beAt bs 6 1 ∧
      (trainBlock n bs fill s).rd (R.VSP_HEAD_CAPS_STREAMS n) = bits (beAt bs 5 1) 3 0 ∧
      (trainBlock n bs fill s).raised = s.raised := by
  generalize hs3 : (onLane n (fun l => { l with clear64 := false }) s).wr (R.VSP_LANE_STAT_HEAD_BCL n) (bits (beAt bs 2 1) 3 3) = s3
  have hstate : s3.laneState n = s.laneState n := by
    rw [← hs3, wr_laneState _ _ (by simp only [R.VSP_LANE_STAT_STATE, R.VSP_LANE_STAT_HEAD_BCL, Fld.at]; omega)]
    rfl
  have hraised : s3.raised = s.raised := by rw [← hs3]; rfl
  have hpage : (s3.lane n).capsPage = some (slice bs 3 5) := by simpa [← hs3, onLane] using hq
  have hout : (latchCaps n (slice bs 3 5) (s3.setLane n (s3.lane n))).laneState n = s.laneState n :=
    (latchCaps_laneState ..).trans hstate
  have ht : trainBlock n bs fill s = latchCaps n (slice bs 3 5) (s3.setLane n (s3.lane n)) := by
    simp only [trainBlock, if_neg h2, if_neg h3, hs3]
    rw [trainPage_caps hp hpage, trainEcho_not_training (hout ▸ h2)]
  rw [ht]
  exact ⟨hout, latchCaps_maxLine .., latchCaps_streams .., hraised⟩

/-! ### ALIGN -/

theorem alignBlock_single {n : Nat} {s : State} (h : s.inGang n = false) (bs : List Byte) (skew : Nat) : alignBlock n bs skew s = s := by
  simp [alignBlock, h]

theorem alignMissing_single {n : Nat} {s : State} (h : s.inGang n = false) : alignMissing n s = s := by
  simp [alignMissing, h]

@[simp] theorem setLane_alignMarker (s : State) (i n : Nat) (l : Lane) (bs : List Byte) (skew : Nat) :
    (s.setLane i l).alignMarker n bs skew = s.alignMarker n bs skew := rfl

@[simp] theorem inc_alignMarker (s : State) (f : Fld) (k n : Nat) (bs : List Byte) (skew : Nat) :
    (s.inc f k).alignMarker n bs skew = s.alignMarker n bs skew := rfl

theorem alignBlock_setLane {n : Nat} {s : State} (hc : s.lanes.wf Lane.init = true) (h : s.inGang n = true) (l : Lane)
    (bs : List Byte) (skew : Nat) :
    alignBlock n bs skew (s.setLane n l) = alignAt n (s.alignMarker n bs skew)
      ((if beAt bs 6 1 = l.bip.toNat then s else s.inc (R.VSP_BIP_ERR n)).setLane n { l with bip := 0 }) := by
  have hg : (s.setLane n l).inGang n = true := h
  have hinc : (s.setLane n l).inc (R.VSP_BIP_ERR n) = (s.inc (R.VSP_BIP_ERR n)).setLane n l := rfl
  by_cases hb : beAt bs 6 1 = l.bip.toNat
  · simp [alignBlock, hg, hb, State.when, onLane, setLane_setLane hc]
  · simp [alignBlock, hg, hb, State.when, onLane, hinc, setLane_setLane (s := s.inc _) hc]

/-- An aligned gang's lane takes the marker that it expects (R70). -/
theorem alignAt_in_step {n v : Nat} {s : State} (hc : s.lanes.wf Lane.init = true) (l : Lane)
    (ha : s.flag (R.VSP_LANE_STAT_ALIGNED (s.base n)) = true) (hv : v = (l.marker.getD 0 + 1) % 2 ^ 32) :
    alignAt n (some v) (s.setLane n l) = s.setLane n { l with marker := some v, alignBad := 0 } := by
  have hf : (s.setLane n l).flag (R.VSP_LANE_STAT_ALIGNED ((s.setLane n l).base n)) = true := ha
  simp only [alignAt, hf, if_true, alignHold, State.lane_set_same, ← hv, setLane_setLane hc]

/-! ### The commands on a lane that is awake and not under test -/

section
variable {s : State} {n : Fin 192} (ha : s.asleep = false) (ht : s.tstMode n = 0)
include ha ht

theorem exec_fillerReceived (w : Block) (fill : Fin 65) :
    exec (.fillerReceived n ⟨w, fill⟩) s = .next (settle (rxBlock n w fill 0 s)) := act_untested ha ht _

theorem exec_trainReceived (w : Block) (fill : Fin 65) :
    exec (.trainReceived n w fill) s = .next (settle (rxBlock n w fill 0 s)) := act_untested ha ht _

theorem exec_reservedBlockReceived (w : Block) :
    exec (.reservedBlockReceived n w) s = .next (settle (rxBlock n w (s.lane n).fill 0 s)) := act_untested ha ht _

theorem exec_alignReceived (w : Block) (skew : Nat) :
    exec (.alignReceived n w false skew) s = .next (settle (rxBlock n w (s.lane n).fill skew s)) := act_untested ha ht _

theorem exec_alignReceived_missed (w : Block) (skew : Nat) :
    exec (.alignReceived n w true skew) s = .next (settle (alignMissing n s)) := act_untested ha ht _

end

theorem exec_dualClockQueueOverflow {s : State} (ha : s.asleep = false) (n : Fin 192) :
    exec (.dualClockQueueOverflow n) s = .next (settle (dualOverflow n s)) := by
  simp only [exec, execDualClockQueueOverflow, act, ha, Bool.false_eq_true, if_false]

/-! ### The statement on canonical lane tables -/

/-- What `Obligations.BlockCommands` says of one state and one block sent (`blockCommands_iff`). -/
def BlockClauses (s : State) (n : Fin 192) (u : Block) (fill : Fin 65) : Prop :=
    let w := onWire (s.lane n).rxScr u
    let l := { s.lane n with rxScr := scrNext (blockPayload w) }
    (s.laneState n = 0 → exec (.fillerReceived n ⟨w, fill⟩) s = .next (settle s) ∧ exec (.trainReceived n w fill) s = .next (settle s) ∧
      exec (.reservedBlockReceived n w) s = .next (settle s) ∧ (∀ skew, exec (.alignReceived n w false skew) s = .next (settle s)) ∧
      exec (.dualClockQueueOverflow n) s = .next (settle s)) ∧
    (s.laneState n ≠ 0 →
    (s.flag (R.VSP_LANE_STAT_BLOCK_LOCK n) = false →
      exec (.fillerReceived n ⟨w, fill⟩) s = .next (settle (s.setLane n l)) ∧
      exec (.trainReceived n w fill) s = .next (settle (s.setLane n l)) ∧
      exec (.reservedBlockReceived n w) s = .next (settle (s.setLane n l)) ∧
      ∀ skew, exec (.alignReceived n w false skew) s = .next (settle (s.setLane n l))) ∧
    (s.flag (R.VSP_LANE_STAT_BLOCK_LOCK n) = true → blockKind u = .filler → exec (.fillerReceived n ⟨w, fill⟩) s = .next (settle (
      let l1 := { l with burst := l.burst || (s.laneState n == 2 && !l.linkUp) }
      if fill.val = 0 ∨ fill.val = 64 then
        ((packetCut (s.base n) ((s.setLane n { l1 with fill := 32 }).inc (R.VSP_EB_ERR n))).raiseIf (s.laneState n != 7) (6 * n))
      else if 40 < fill.val then (s.setLane n { l1 with fill := fill - 1 }).inc (R.VSP_FILL_DEL n)
      else if fill.val < 24 then (s.setLane n { l1 with fill := fill + 1 }).inc (R.VSP_FILL_INS n)
      else s.setLane n { l1 with fill := fill }))) ∧
    (s.flag (R.VSP_LANE_STAT_BLOCK_LOCK n) = true → blockKind u = .train →
      exec (.trainReceived n w fill) s = .next (settle (trainBlock n (blockBytes u) fill (s.setLane n l)))) ∧
    (s.flag (R.VSP_LANE_STAT_BLOCK_LOCK n) = true → blockKind u = .train → s.laneState n ≠ 2 → s.laneState n ≠ 3 →
      bits (beAt (blockBytes u) 1 1) 7 6 = 1 → (s.lane n).capsPage = some (slice (blockBytes u) 3 5) →
      ∃ t, exec (.trainReceived n w fill) s = .next (settle t) ∧ t.laneState n = s.laneState n ∧
        t.rd (R.VSP_HEAD_CAPS_MAX_LINE n) = beAt (blockBytes u) 6 1 ∧
        t.rd (R.VSP_HEAD_CAPS_STREAMS n) = bits (beAt (blockBytes u) 5 1) 3 0 ∧ t.raised = s.raised) ∧
    (s.flag (R.VSP_LANE_STAT_BLOCK_LOCK n) = true → (blockKind u = .reserved ∨ blockKind u = .invalid) →
      let s1 := s.setLane n { l with bip := l.bip ^^^ bip8 (blockBytes u) }
      exec (.reservedBlockReceived n w) s = .next (settle (packetBad (s.base n)
        ((if blockKind u = .invalid then s1.inc (R.VSP_SYNC_ERR n) else s1).inc (R.VSP_BLK_ERR n))))) ∧
    (∀ skew, s.flag (R.VSP_LANE_STAT_BLOCK_LOCK n) = true → blockKind u = .align →
      (s.inGang n = false → exec (.alignReceived n w false skew) s = .next (settle (s.setLane n l)) ∧
        exec (.alignReceived n w true skew) s = .next (settle s)) ∧
      (s.inGang n = true → exec (.alignReceived n w false skew) s = .next (settle (alignAt n (s.alignMarker n (blockBytes u) skew)
        ((if beAt (blockBytes u) 6 1 = l.bip.toNat then s else s.inc (R.VSP_BIP_ERR n)).setLane n { l with bip := 0 })))) ∧
      (∀ m, s.inGang n = true → s.flag (R.VSP_LANE_STAT_ALIGNED (s.base n)) = true → beAt (blockBytes u) 6 1 = l.bip.toNat →
        s.alignMarker n (blockBytes u) skew = some m → m = ((s.lane n).marker.getD 0 + 1) % 2 ^ 32 →
        exec (.alignReceived n w false skew) s = .next (settle (s.setLane n { l with bip := 0, marker := some m, alignBad := 0 })))) ∧
    exec (.dualClockQueueOverflow n) s = .next (settle ((packetCut (s.base n) s).raiseIf (s.laneState n != 7) (6 * n))))

theorem blockCommands_iff : Obligations.BlockCommands ↔
    ∀ (s : State) (n : Fin 192) (u : Block) (fill : Fin 65), s.asleep = false → s.tstMode n = 0 → BlockClauses s n u fill := Iff.rfl

/-- Every clause holds where the lane table is canonical, as it is in every state that the block reaches. -/
theorem blockClauses_of_canonical {s : State} {n : Fin 192} (u : Block) (fill : Fin 65) (ha : s.asleep = false) (ht : s.tstMode n = 0)
    (hc : s.lanes.wf Lane.init = true) : BlockClauses s n u fill := by
  simp only [BlockClauses, exec_fillerReceived ha ht, exec_trainReceived ha ht, exec_reservedBlockReceived ha ht,
    exec_alignReceived ha ht, exec_alignReceived_missed ha ht, exec_dualClockQueueOverflow ha]
  refine ⟨fun h0 => ?off, fun h0 => ⟨fun hl => ?unlocked, fun hl hk => ?filler, fun hl hk => ?train, fun hl hk h2 h3 hp hq => ?caps,
    fun hl hk => ?reserved, fun skew hl hk => ?align, ?overflow⟩⟩
  case off => simp only [rxBlock_off h0, dualOverflow_off h0, implies_true, and_self]
  case unlocked => simp only [rxBlock_unlocked h0 hl, Lane.heard, implies_true, and_self]
  case filler =>
    rw [rxBlock_locked h0 hl, laneBlock_filler _ _ _ _ hk, fillerBlock, wrongBlock_setLane hc, elastic_setLane hc]
    rfl
  case train =>
    rw [rxBlock_locked h0 hl, laneBlock_train _ _ _ _ hk]
    rfl
  case caps =>
    rw [rxBlock_locked h0 hl, laneBlock_train _ _ _ _ hk]
    have hpage : ((s.setLane n ((s.lane n).heard u)).lane n).capsPage = some (slice (blockBytes u) 3 5) := by
      rw [State.lane_set_same]
      exact hq
    exact ⟨_, rfl, trainBlock_caps (s := s.setLane n _) fill h2 h3 hp hpage⟩
  case reserved =>
    rw [rxBlock_locked h0 hl, laneBlock_reserved _ _ _ _ hk, State.lane_set_same, setLane_setLane hc]
    rcases hk with hk | hk <;> simp [reservedBlock, State.when, hk] <;> rfl
  case align =>
    rw [rxBlock_locked h0 hl, laneBlock_align _ _ _ _ hk]
    refine ⟨fun hg => ⟨?single, ?missed⟩, fun hg => ?gang, fun m hg hal hb hm hv => ?inStep⟩
    case single =>
      rw [alignBlock_single (s := s.setLane n _) hg]
      rfl
    case missed => rw [alignMissing_single hg]
    case gang =>
      rw [alignBlock_setLane hc hg]
      rfl
    case inStep =>
      have hb' : beAt (blockBytes u) 6 1 = ((s.lane n).heard u).bip.toNat := hb
      rw [alignBlock_setLane hc hg, if_pos hb', hm, alignAt_in_step hc { (s.lane n).heard u with bip := 0 } hal hv]
      rfl
  case overflow => rw [dualOverflow_eq h0]

/-! ### The counterexample -/

/-- A lane at reset but for its descrambler. It takes `twiceFiller` as a payload of zeros, and then holds the reset value. -/
def twiceEntry : Lane := { Lane.init with rxScr := 0x1E#58 <<< 31 }

/-- The FILLER block that this descrambler makes of a payload of zeros (R46, R47). -/
def twiceFiller : Block := controlBlock [0x1E, 0x00, 0x03, 0xC0]

/-- Lane 0 in UP with block lock, listed twice in the lane table. -/
def twiceListed : State :=
  ({ State.reset with lanes := [(0, twiceEntry), (0, twiceEntry)] }.wr (R.VSP_LANE_STAT_STATE 0) 3).wr
    (R.VSP_LANE_STAT_BLOCK_LOCK 0) 1

/-- Refutes O15 by the FILLER clause at fill 30, on a state whose lane table lists lane 0 twice, which no run of the block reaches.
Moving the descrambler on writes the reset value and so drops both entries; the fill then lists the lane once. The clause asks for
one write, which leaves the second entry. `blockClauses_of_canonical` is the statement with the hypothesis that it lacks. -/
theorem not_blockCommands : ¬ Obligations.BlockCommands := by
  intro h
  have hawake : twiceListed.asleep = false := by decide +kernel
  have huntested : twiceListed.tstMode 0 = 0 := by decide +kernel
  have hup : twiceListed.laneState 0 ≠ 0 := by decide +kernel
  have hlock : twiceListed.flag (R.VSP_LANE_STAT_BLOCK_LOCK 0) = true := by decide +kernel
  have hkind : blockKind twiceFiller = .filler := by decide +kernel
  obtain ⟨-, hon⟩ := blockCommands_iff.mp h twiceListed 0 twiceFiller 30 hawake huntested
  obtain ⟨-, hfiller, -⟩ := hon hup
  have hexec := exec_fillerReceived (n := 0) hawake huntested (onWire (twiceListed.lane 0).rxScr twiceFiller) 30
  have hsame := Host.Outcome.next.inj (hexec.symm.trans (hfiller hlock hkind))
  have hlength := congrArg (fun t : State => t.lanes.length) hsame
  exact absurd hlength (by decide +kernel)

end Sys2Proof.Machine
end

section
/-! PROOF. Chalk time's commands (O10): a step by CHK_SET, a phase write and the end of a slew (R94, R95). Each command is one update of
`Chalk`, and a backward step in Topcoat acts on the ring and the queues besides. -/

namespace Sys2Proof.Machine

/-! ### Signed words -/

/-- The model's two's-complement reading is that of bit vectors, at every width (R13). -/
theorem toSigned_toNat {w : Nat} (v : BitVec w) : toSigned w v.toNat = v.toInt := by
  rw [toSigned, Nat.mod_eq_of_lt v.isLt, BitVec.toInt_eq_toNat_cond]
  cases w with
  | zero => simp [BitVec.eq_nil v]
  | succ k =>
    have half : v.toNat < 2 ^ k ↔ 2 * v.toNat < 2 ^ (k + 1) := by omega
    simp only [Nat.add_sub_cancel, half]

/-! ### A step of Chalk time -/

/-- The time that a step of Chalk time loads, in ns (R95). -/
def State.stepTime (s : State) : Nat := 2 ^ 32 * s.rd R.CHK_SET_HI + s.rd R.CHK_SET_LO

theorem chalkStep_refused {s : State} (h : s.anyTg = true) : chalkStep s = s.wr R.CHK_STAT_STEP_REFUSED 1 := if_pos h

theorem chalkStep_loads {s : State} (h : s.anyTg = false) :
    chalkStep s = ({ s with chalk := s.chalk.load s.stepTime } : State).when (decide (s.stepTime < s.now)) backwardStep :=
  if_neg (by simp [h])

theorem when_backwardStep (s : State) (c : Prop) [Decidable c] :
    s.when (decide c) backwardStep = if c ∧ s.topcoat = true then discardDeadlines (ringReset s) else s := by
  by_cases hc : c <;> simp [State.when, backwardStep, hc]

/-! ### The end of a slew -/

theorem slewComplete_running {s : State} (h : s.chalk.run = true) :
    slewComplete s = { s with chalk := s.chalk.slewOut s.freqAdj s.slewStep } := if_pos h

theorem slewComplete_stopped {s : State} (h : s.chalk.run = false) : slewComplete s = s := by simp [slewComplete, h]

section
variable (c : Chalk) (adj : Int) (step : Nat)

@[simp] theorem Chalk.slewOut_phase : (c.slewOut adj step).phase = 0 := rfl

@[simp] theorem Chalk.slewOut_run : (c.slewOut adj step).run = c.run := rfl

theorem Chalk.le_slewOut_cycles : c.cycles ≤ (c.slewOut adj step).cycles := Nat.le_add_right ..

end

/-! ### The commands on a block that is awake -/

section
variable {s : State} (ha : s.asleep = false)
include ha

theorem act_awake (f : State → State) : act f s = .next (settle (f s)) := by
  simp only [act, ha, Bool.false_eq_true, if_false]

theorem exec_chalkStep : exec .chalkStep s = .next (settle (chalkStep s)) := act_awake ha _

theorem exec_adjPhaseWrite (v : Word) : exec (.adjPhaseWrite v) s = .next (settle (addPhase v.toInt s)) := by
  rw [← toSigned_toNat]
  exact act_awake ha _

theorem exec_slewComplete : exec .slewComplete s = .next (settle (slewComplete s)) := act_awake ha _

end

/-- Settles O10: `chalkStep` refuses or loads by `anyTg`, `addPhase` reads the word as signed, and `Chalk.slewOut` leaves no phase. -/
theorem chalkTimeCommands : Obligations.ChalkTimeCommands := by
  intro s ha
  refine ⟨fun htg => ?refused, fun htg => ?loads, fun v => ?phase, fun hrun => ?slewed, fun hrun => ?stopped⟩
  case refused => rw [exec_chalkStep ha, chalkStep_refused htg]
  case loads =>
    rw [exec_chalkStep ha, chalkStep_loads htg, when_backwardStep]
    rfl
  case phase => exact exec_adjPhaseWrite ha v
  case slewed =>
    refine ⟨s.chalk.slewOut s.freqAdj s.slewStep, ?_, Chalk.slewOut_phase .., (Chalk.slewOut_run ..).trans hrun, Chalk.le_slewOut_cycles ..⟩
    rw [exec_slewComplete ha, slewComplete_running hrun]
  case stopped => rw [exec_slewComplete ha, slewComplete_stopped hrun]

end Sys2Proof.Machine
end

section
/-! PROOF. Hawk queues (O20, O21). Each operation of a queue has one equation per case of R430 to R440; the clauses of the statements are
uses of them. -/

namespace Sys2Proof.Machine

theorem act_of_eq {f : State → State} {s t : State} (ha : s.asleep = false) (h : f s = t) : act f s = .next (settle t) := by
  rw [act_awake ha, h]

/-! ### Flushing a queue -/

/-- Queue `h` once its flush set is discarded (R439). -/
def HawkQ.discarded (h : HawkQ) : HawkQ :=
  { h with head := h.head.filter (fun i => !h.flushed i), tail := h.tail.filter (fun i => !h.flushed i),
           middle := h.middle.filter (fun m => !h.flushed m.2), flushIds := [], flushing := false }

theorem HawkQ.discarded_items (h : HawkQ) : h.discarded.items = h.items.filter (fun i => !h.flushed i) := by
  simp only [HawkQ.items, HawkQ.discarded, List.filter_append, List.filter_map]
  rfl

section
variable {s : State} {q : Nat}

theorem hawkFlushEnd_discards (hf : (s.hq q).flushing = true) (ho : ∀ a ∈ (s.hq q).asm, a.flushed = false) :
    hawkFlushEnd q s =
      (s.setHq q (s.hq q).discarded).inc (R.HWK_Q_FLUSHED q) ((s.hq q).items.filter (s.hq q).flushed).length := by
  have hopen : (s.hq q).asm.any (·.flushed) = false := by
    cases hasm : (s.hq q).asm with
    | none => rfl
    | some a => exact ho a hasm
  simp only [hawkFlushEnd, hf, hopen, Bool.not_false, Bool.and_self, if_true]
  rfl

theorem hawkFlushEnd_waits (h : (s.hq q).flushing = false ∨ ∃ a, (s.hq q).asm = some a ∧ a.flushed = true) :
    hawkFlushEnd q s = s := by
  rcases h with hf | ⟨a, hasm, hfl⟩
  · simp [hawkFlushEnd, hf]
  · simp [hawkFlushEnd, hasm, hfl]

theorem hawkFlushEnd_asm : ((hawkFlushEnd q s).hq q).asm = (s.hq q).asm := by
  unfold hawkFlushEnd
  dsimp only
  split <;> simp

theorem hawkFlushEnd_asleep : (hawkFlushEnd q s).asleep = s.asleep := by
  unfold hawkFlushEnd
  dsimp only
  split <;> rfl

theorem hawkFlushTimeout_discards {a : HawkOpen} (hasm : (s.hq q).asm = some a) (hfl : a.flushed = true) :
    hawkFlushTimeout q s =
      (s.setHq q { s.hq q with asm := none, ignore := a.len - a.words.length }).wr (R.HWK_Q_STAT_ITEM_ERR q) 1 := by
  simp [hawkFlushTimeout, hasm, hfl]

theorem hawkFlushTimeout_of_none_flushed (ho : ∀ a ∈ (s.hq q).asm, a.flushed = false) : hawkFlushTimeout q s = s := by
  cases hasm : (s.hq q).asm with
  | none => simp [hawkFlushTimeout, hasm]
  | some a => simp [hawkFlushTimeout, hasm, ho a hasm]

end

/-! ### Writing an item -/

theorem HawkQ.full_of_no_open {h : HawkQ} (hasm : h.asm = none) : h.full = decide (16 ≤ h.tail.length) := by
  simp [HawkQ.full, HawkQ.tailUsed, hasm, b2n]

section
variable {s : State} {q v : Nat}

/-- A header while no item is open (R432, R440). -/
theorem hawkWhdr_of_no_open (hasm : (s.hq q).asm = none) :
    hawkWhdr q v s =
      if (s.hq q).taped = true then hawkOverrun q (s.setHq q { s.hq q with ignore := bits v 6 0 })
      else if bits v 6 0 = 0 ∨ 64 < bits v 6 0 then (s.setHq q { s.hq q with ignore := 0 }).wr (R.HWK_Q_STAT_ITEM_ERR q) 1
      else if 16 ≤ (s.hq q).tail.length then hawkOverrun q (s.setHq q { s.hq q with ignore := bits v 6 0 })
      else s.setHq q { s.hq q with asm := some ⟨bits v 10 8, bits v 6 0, [], false⟩, ignore := 0 } := by
  simp [hawkWhdr, hasm, HawkQ.full_of_no_open]

theorem hawkWhdr_overruns (hasm : (s.hq q).asm = none)
    (h : (s.hq q).taped = true ∨ (1 ≤ bits v 6 0 ∧ bits v 6 0 ≤ 64 ∧ 16 ≤ (s.hq q).tail.length)) :
    hawkWhdr q v s = hawkOverrun q (s.setHq q { s.hq q with ignore := bits v 6 0 }) := by
  rw [hawkWhdr_of_no_open hasm]
  by_cases ht : (s.hq q).taped = true
  · rw [if_pos ht]
  · obtain ⟨h1, h64, hfull⟩ := h.resolve_left ht
    rw [if_neg ht, if_neg (by omega), if_pos hfull]

/-- A header while an item is open is the header after that item has been discarded (R432). -/
theorem hawkWhdr_of_open {a : HawkOpen} (hasm : (s.hq q).asm = some a) :
    hawkWhdr q v s =
      hawkWhdr q v (hawkFlushEnd q ((s.setHq q { s.hq q with asm := none }).wr (R.HWK_Q_STAT_ITEM_ERR q) 1)) := by
  have hclosed : ((hawkFlushEnd q ((s.setHq q { s.hq q with asm := none }).wr (R.HWK_Q_STAT_ITEM_ERR q) 1)).hq q).asm = none := by
    rw [hawkFlushEnd_asm, State.wr_hqOf, State.hq_set_same]
  simp [hawkWhdr, hasm, hclosed]

theorem hawkWdata_ignores (hi : (s.hq q).ignore ≠ 0) :
    hawkWdata q v s = s.setHq q { s.hq q with ignore := (s.hq q).ignore - 1 } := if_pos hi

theorem hawkWdata_of_no_open (hi : (s.hq q).ignore = 0) (hasm : (s.hq q).asm = none) :
    hawkWdata q v s = s.wr (R.HWK_Q_STAT_ITEM_ERR q) 1 := by
  simp [hawkWdata, hi, hasm]

/-- A word of an open item (R432): it is added, or completes the item. -/
theorem hawkWdata_of_open {a : HawkOpen} (hi : (s.hq q).ignore = 0) (hasm : (s.hq q).asm = some a) (hv : v < 2 ^ 32) :
    hawkWdata q v s =
      if a.words.length + 1 < a.len then s.setHq q { s.hq q with asm := some { a with words := a.words ++ [v] } }
      else hawkFlushEnd q (hawkAccept q a.prio (a.words ++ [v]) a.flushed (s.setHq q { s.hq q with asm := none })) := by
  have hword : v % 2 ^ 32 = v := Nat.mod_eq_of_lt hv
  simp only [hawkWdata, hi, hasm, hword, ne_eq, not_true_eq_false, if_false, List.length_append, List.length_singleton]

theorem hawkServe_of_none_stalled (h : (s.hq q).stalled = []) : hawkServe q s = s := by
  simp [hawkServe, h]

/-- With no read waiting, an item accepted outside the flush set enters the tail, is counted and raises nothing (R432). -/
theorem hawkAccept_of_none_stalled (prio : Nat) (words : List Nat) (h : (s.hq q).stalled = []) :
    (hawkAccept q prio words false s).hq q =
        { s.hq q with tail := (s.hq q).tail ++ [⟨(s.hq q).nextId, prio, words, false, 0⟩], nextId := (s.hq q).nextId + 1 } ∧
      (hawkAccept q prio words false s).cnt = (s.inc (R.HWK_Q_IN q)).cnt ∧
      (hawkAccept q prio words false s).raised = s.raised := by
  simp only [hawkAccept, Bool.false_eq_true, if_false]
  split <;> rw [hawkServe_of_none_stalled (by simpa using h)] <;> exact ⟨by simp, rfl, rfl⟩

/-- The last word of an item, with no flush in progress and no read waiting (R432). -/
theorem hawkWdata_completes {a : HawkOpen} (hi : (s.hq q).ignore = 0) (hasm : (s.hq q).asm = some a) (hv : v < 2 ^ 32)
    (hlen : a.words.length + 1 = a.len) (hfl : a.flushed = false) (hf : (s.hq q).flushing = false) (hst : (s.hq q).stalled = []) :
    (hawkWdata q v s).hq q = { s.hq q with
        asm := none, nextId := (s.hq q).nextId + 1,
        tail := (s.hq q).tail ++ [⟨(s.hq q).nextId, a.prio, a.words ++ [v], false, 0⟩] } ∧
      (hawkWdata q v s).cnt = (s.inc (R.HWK_Q_IN q)).cnt ∧ (hawkWdata q v s).raised = s.raised := by
  obtain ⟨hq, hcnt, hraised⟩ := hawkAccept_of_none_stalled (s := s.setHq q { s.hq q with asm := none }) (q := q) a.prio (a.words ++ [v])
    (by simpa using hst)
  rw [hawkWdata_of_open hi hasm hv, if_neg (by omega), hfl, hawkFlushEnd_waits (.inl (by simpa [hq] using hf))]
  exact ⟨by simpa using hq, hcnt, hraised⟩

/-- A write of ECC takes effect in an empty queue only (R438). -/
theorem hawkEcc_eq (ecc : Bool) :
    hawkEcc q ecc s =
      if (s.hq q).items = [] ∧ (s.hq q).asm = none ∧ (s.hq q).flushing = false then
        s.wr (R.HWK_Q_CFG_ECC q) (if ecc then 1 else 0)
      else s.wr (R.HWK_Q_STAT_CFG_ERR q) 1 := by
  simp [hawkEcc, b2n, and_assoc]

end

/-- Settles O20: a header by `hawkWhdr_of_no_open` and `hawkWhdr_of_open`, a word by `hawkWdata_of_open`, a flush by the two cases of
`hawkFlushEnd`. -/
theorem hawkWriteCommands : Obligations.HawkWriteCommands := by
  intro s q ha
  refine ⟨fun v hasm ht h1 h64 hroom => act_of_eq ha ?opens, fun v hasm ht hlen => act_of_eq ha ?badLength,
    fun v hasm h => act_of_eq ha (hawkWhdr_overruns hasm h), fun v a hasm => ?reopens,
    fun v hi => act_of_eq ha (hawkWdata_ignores hi), fun v hi hasm => act_of_eq ha (hawkWdata_of_no_open hi hasm),
    fun v a hi hasm hlen => act_of_eq ha ?word, fun v a hi hasm hlen hfl hf hst => ⟨_, act_awake ha _, ?completes⟩,
    fun v a hi hasm hlen => act_of_eq ha ?last, act_awake ha _, fun hf ho => ⟨_, act_of_eq ha (hawkFlushEnd_discards hf ho), ?flushed⟩,
    fun h => act_of_eq ha (hawkFlushEnd_waits h), fun a hasm hfl => act_of_eq ha (hawkFlushTimeout_discards hasm hfl),
    fun ho => act_of_eq ha (hawkFlushTimeout_of_none_flushed ho), fun ecc => act_of_eq ha (hawkEcc_eq ecc)⟩
  case opens => rw [hawkWhdr_of_no_open hasm, if_neg (by simp [ht]), if_neg (by omega), if_neg (by omega)]
  case badLength => rw [hawkWhdr_of_no_open hasm, if_neg (by simp [ht]), if_pos hlen]
  case reopens =>
    have hawake := (hawkFlushEnd_asleep (q := q) (s := (s.setHq q { s.hq q with asm := none }).wr (R.HWK_Q_STAT_ITEM_ERR q) 1)).trans ha
    exact (act_of_eq ha (hawkWhdr_of_open hasm)).trans (act_awake hawake (hawkWhdr q v.toNat)).symm
  case word => rw [hawkWdata_of_open hi hasm v.isLt, if_pos hlen]
  case completes => exact hawkWdata_completes hi hasm v.isLt hlen hfl hf hst
  case last => rw [hawkWdata_of_open hi hasm v.isLt, if_neg (by omega)]
  case flushed =>
    rw [State.inc_hqOf, State.hq_set_same]
    exact ⟨rfl, rfl, HawkQ.discarded_items _, rfl, rfl⟩

/-! ### Reading an item -/

/-- The RHDR word of an item (R446). -/
theorem rhdrWord_item (i : HawkItem) :
    rhdrWord 0 (some i) = (if i.poison = true ∨ i.bad ≠ 0 then 0x08000000 else 0) + i.prio * 2 ^ 8 + i.words.length := by
  by_cases h : i.poison = true ∨ i.bad ≠ 0 <;> simp [rhdrWord, b2n, h]

section
variable {s : State} {q : Nat} (p : Path)

theorem hawkRhdr_taped (ht : (s.hq q).taped = true) : hawkRhdr q p s = s.answer p 0 0x20000000 := if_pos ht

theorem hawkRhdr_again {id k : Nat} {it : HawkItem} (ht : (s.hq q).taped = false) (hc : (s.hq q).cur = some (id, k))
    (hit : (s.hq q).items.find? (fun i => i.id == id) = some it) : hawkRhdr q p s = s.answer p 0 (rhdrWord 0 (some it)) := by
  simp [hawkRhdr, ht, hc, hit]

theorem hawkRhdr_first {i : HawkItem} (ht : (s.hq q).taped = false) (hc : (s.hq q).cur = none)
    (hi : firstItem (s.hq q).visible = some i) :
    hawkRhdr q p s = (s.setHq q { s.hq q with cur := some (i.id, 0) }).answer p 0 (rhdrWord 0 (some i)) := by
  simp [hawkRhdr, ht, hc, hi]

theorem hawkRhdr_empty (ht : (s.hq q).taped = false) (hc : (s.hq q).cur = none) (hv : (s.hq q).visible = []) :
    hawkRhdr q p s =
      if s.rd R.HWK_CFG_RD_TMO = 0 then s.answer p 0 0x10000000
      else (s.setHq q { s.hq q with stalled := (s.hq q).stalled.filter (·.1 != p) ++ [(p, s.stallBound p)] }).stall p := by
  simp [hawkRhdr, ht, hc, hv, firstItem, rhdrWord]

theorem hawkStallEnd_answers {b : Nat} (h : minBy (·.2) (s.hq q).stalled = some (p, b)) :
    hawkStallEnd q s = (s.setHq q { s.hq q with stalled := (s.hq q).stalled.filter (·.1 != p) }).answer p 0 0x10000000 := by
  simp [hawkStallEnd, h, rhdrWord]

theorem hawkStallEnd_of_none_stalled (h : (s.hq q).stalled = []) : hawkStallEnd q s = s := by
  simp [hawkStallEnd, h, minBy]

theorem hawkRdata_of_none (flips : List Nat) (hc : (s.hq q).cur = none) :
    hawkRdata q p flips s = (s.wr (R.HWK_Q_STAT_RD_ERR q) 1).answer p 0 0 := by
  simp [hawkRdata, hc]

theorem hawkDropCur_drops {id k : Nat} (hc : (s.hq q).cur = some (id, k)) :
    hawkDropCur q s = s.setHq q { (s.hq q).drop id with cur := none } := by
  simp [hawkDropCur, hc]

theorem hawkDropCur_of_none (hc : (s.hq q).cur = none) : hawkDropCur q s = s := by
  simp [hawkDropCur, hc]

end

/-! ### Reading a word -/

theorem protectedWord_intact (ecc : Bool) (v : Nat) : protectedWord ecc v [] = (v, false, false) := by
  cases ecc <;> rfl

@[simp] theorem State.answerOf_answer (s : State) (p : Path) (st d : Nat) : (s.answer p st d).answerOf p = some (st, d) :=
  Tab.get_set_same

section
variable (s : State) (b : Bool) (f : Fld) (k : Nat)

@[simp] theorem State.rd_when_inc (g : Fld) : (s.when b (·.inc f k)).rd g = s.rd g := by cases b <;> rfl

@[simp] theorem State.raised_when_inc : (s.when b (·.inc f k)).raised = s.raised := by cases b <;> rfl

theorem State.ctr_when_inc_other {g : Fld} (h : g.key ≠ f.key) : (s.when b (·.inc f k)).ctr g = s.ctr g := by
  cases b with
  | false => rfl
  | true => exact State.ctr_inc_other s k (.inr h)

end

section
variable {s : State} {q id k : Nat} {it : HawkItem} (p : Path) (hc : (s.hq q).cur = some (id, k))
  (hit : (s.hq q).items.find? (fun i => i.id == id) = some it)
include hc hit

/-- A word read with no stored bit flipped, of an item not known to be bad there (R434, R437). -/
theorem hawkRdata_intact (hp : it.poison = false) (hb : it.bad.testBit k = false) :
    hawkRdata q p [] s =
      if it.words.length ≤ k + 1 then
        (((s.setHq q { (s.hq q).drop id with cur := none }).wr (R.HWK_Q_RSTAT_PWORD q) 0).inc (R.HWK_Q_OUT q)).answer p 0
          ((it.words[k]?).getD 0)
      else ((s.setHq q { s.hq q with cur := some (id, k + 1) }).wr (R.HWK_Q_RSTAT_PWORD q) 0).answer p 0 ((it.words[k]?).getD 0) := by
  by_cases hl : it.words.length ≤ k + 1 <;>
    simp [hawkRdata, hc, hit, protectedWord_intact, hp, hb, hl, State.when, State.raiseIf, b2n]

/-- A word of an item known to be bad there is delivered poisoned, counted, and raises the queue's event (R437, R438, R441). -/
theorem hawkRdata_poisoned (flips : List Nat) (h : it.poison = true ∨ it.bad.testBit k = true) :
    ∃ (h' : HawkQ) (last fixed ecc : Bool) (w : Nat), hawkRdata q p flips s =
      (((((((s.setHq q h').wr (R.HWK_Q_RSTAT_PWORD q) 1).when last (·.inc (R.HWK_Q_OUT q))).when fixed
        (·.inc (R.HWK_Q_CE q))).when ecc (·.inc (R.HWK_Q_UE q))).inc (R.HWK_Q_POISONED q)).raise (1400 + q)).answer p 0 w := by
  rcases hword : protectedWord (s.flag (R.HWK_Q_CFG_ECC q)) ((it.words[k]?).getD 0) flips with ⟨w, badW, fixed⟩
  have hpois : (badW || it.poison || it.bad.testBit k) = true := by simpa [or_assoc] using .inr h
  simp only [hawkRdata, hc, hit, hword, hpois, Bool.and_true, State.raiseIf, if_true]
  exact ⟨_, _, _, _, _, rfl⟩

theorem hawkRdata_poisoned_effects (flips : List Nat) (h : it.poison = true ∨ it.bad.testBit k = true) :
    (hawkRdata q p flips s).rd (R.HWK_Q_RSTAT_PWORD q) = 1 ∧
      (hawkRdata q p flips s).ctr (R.HWK_Q_POISONED q) = (s.ctr (R.HWK_Q_POISONED q) + 1) % 2 ^ 32 ∧
      (hawkRdata q p flips s).raised = s.raised ++ [1400 + q] := by
  obtain ⟨h', last, fixed, ecc, w, heq⟩ := hawkRdata_poisoned p hc hit flips h
  rw [heq]
  refine ⟨by simp [R.HWK_Q_RSTAT_PWORD, Fld.at], ?counted, by simp⟩
  have hout : (R.HWK_Q_POISONED q).key ≠ (R.HWK_Q_OUT q).key := by simp only [R.HWK_Q_POISONED, R.HWK_Q_OUT, Fld.at]; omega
  have hce : (R.HWK_Q_POISONED q).key ≠ (R.HWK_Q_CE q).key := by simp only [R.HWK_Q_POISONED, R.HWK_Q_CE, Fld.at]; omega
  have hue : (R.HWK_Q_POISONED q).key ≠ (R.HWK_Q_UE q).key := by simp only [R.HWK_Q_POISONED, R.HWK_Q_UE, Fld.at]; omega
  simp only [State.answer_ctr, State.raise_ctr, State.ctr_inc_same, State.ctr_when_inc_other _ _ _ _ hout,
    State.ctr_when_inc_other _ _ _ _ hce, State.ctr_when_inc_other _ _ _ _ hue, State.wr_ctr, State.setHq_ctr]
  rfl

end

/-! ### A move inside a queue -/

section
variable {s : State} {q : Nat} {i : HawkItem}

theorem hawkMove_of_none (h : (s.hq q).move = none) : hawkMove q s = s := by
  simp [hawkMove, h]

theorem hawkMove_toMiddle {k : Nat} (h : (s.hq q).move = some (i, some k)) :
    hawkMove q s = hawkServe q (slotWrite q k ((s.setHq q ((s.hq q).toMiddle k i)).inc (R.HWK_Q_SPILLED q))) := by
  simp [hawkMove, h]

theorem hawkMove_toHead_of_slot {k : Nat} (h : (s.hq q).move = some (i, none)) (hk : (s.hq q).slotOf i = some k) :
    hawkMove q s = hawkServe q ((slotRead q k i s).2.setHq q ((s.hq q).toHead (slotRead q k i s).1)) := by
  simp [hawkMove, h, hk]

theorem hawkMove_toHead_of_tail (h : (s.hq q).move = some (i, none)) (hk : (s.hq q).slotOf i = none) :
    hawkMove q s = hawkServe q (s.setHq q ((s.hq q).toHead i)) := by
  simp [hawkMove, h, hk]

end

/-- Settles O21: a header by the cases of `hawkRhdr`, a word by `hawkRdata_intact` or `hawkRdata_poisoned_effects`, a move by where the
item lies and where it goes. -/
theorem hawkReadCommands : Obligations.HawkReadCommands := by
  intro s q ha
  refine ⟨fun p ht => act_of_eq ha (hawkRhdr_taped p ht), fun p i ht hc hi => act_of_eq ha ?first,
    fun p ht hc hv => act_of_eq ha (hawkRhdr_empty p ht hc hv), fun p b h => act_of_eq ha (hawkStallEnd_answers p h),
    fun h => act_of_eq ha (hawkStallEnd_of_none_stalled h), fun p flips hc => act_of_eq ha (hawkRdata_of_none p _ hc),
    fun p id k it hc hit hp hb hk => ⟨_, act_of_eq ha (hawkRdata_intact p hc hit hp hb), ?word⟩,
    fun p id k it hc hit hp hb hk => ⟨_, act_of_eq ha (hawkRdata_intact p hc hit hp hb), ?lastWord⟩,
    fun p id k it flips hc hit h => ⟨_, act_awake ha _, hawkRdata_poisoned_effects p hc hit _ h⟩,
    fun p id k it ht hc hit => act_of_eq ha ?again, fun id k hc => act_of_eq ha (hawkDropCur_drops hc),
    fun hc => act_of_eq ha (hawkDropCur_of_none hc), fun i m hm => act_of_eq ha ?move, fun hm => act_of_eq ha (hawkMove_of_none hm)⟩
  case first => rw [hawkRhdr_first p ht hc hi, rhdrWord_item]
  case again => rw [hawkRhdr_again p ht hc hit, rhdrWord_item]
  case word =>
    rw [if_neg (by omega)]
    exact ⟨by simp, by simp, by simp, rfl, rfl⟩
  case lastWord =>
    rw [if_pos (by omega)]
    exact ⟨by simp, by simp, rfl, rfl⟩
  case move =>
    cases m with
    | some k => exact hawkMove_toMiddle hm
    | none =>
      cases hk : (s.hq q).slotOf i with
      | some k => exact hawkMove_toHead_of_slot hm hk
      | none => exact hawkMove_toHead_of_tail hm hk

end Sys2Proof.Machine
end

section
/-! PROOF. The alive counters of the check-value units (O24): one equation over the distance d of R450 judges every value after the
first. -/

namespace Sys2Proof.Machine

/-- The distance of R450, from LAST `l` to a value `x` that is `d` ahead of it modulo `m`. -/
theorem ahead_mod {m x l d : Nat} (hd : d < m) (hx : x = (l + d) % m) : (x + m - l % m) % m = d := by
  have hl : l % m < m := Nat.mod_lt l (by omega)
  rw [hx, ← Nat.mod_add_mod]
  by_cases hwrap : l % m + d < m
  · rw [Nat.mod_eq_of_lt hwrap, show l % m + d + m - l % m = d + m by omega, Nat.add_mod_right, Nat.mod_eq_of_lt hd]
  · have hsum : (l % m + d) % m = l % m + d - m := by rw [Nat.mod_eq_sub_mod (by omega), Nat.mod_eq_of_lt (by omega)]
    rw [hsum, show l % m + d - m + m - l % m = d by omega, Nat.mod_eq_of_lt hd]

theorem State.flag_wr_other (s : State) {f g : Fld} (x : Nat) (h : g.key ≠ f.key) : (s.wr f x).flag g = s.flag g :=
  congrArg (· != 0) (State.rd_wr_other s x (.inr h))

/-- How far value `v` is ahead of LAST: d of R450. -/
def State.aliveAhead (s : State) (c v : Nat) : Nat :=
  (v % 2 ^ s.aliveWidth c + 2 ^ s.aliveWidth c - s.rd (R.CVU_ALIVE_LAST c) % 2 ^ s.aliveWidth c) % 2 ^ s.aliveWidth c

theorem evDefault_cvu (c : Fin 16) : evDefault (1472 + c) = 0 := by
  revert c
  decide

section
variable {s : State} {c v : Nat}

theorem aliveWidth_of_width (h : s.rd (R.CVU_ALIVE_CFG_WIDTH c) ≤ 2) :
    s.aliveWidth c = 2 ^ (3 + s.rd (R.CVU_ALIVE_CFG_WIDTH c)) := by
  unfold State.aliveWidth
  generalize s.rd (R.CVU_ALIVE_CFG_WIDTH c) = width at h
  obtain rfl | rfl | rfl : width = 0 ∨ width = 1 ∨ width = 2 := by omega
  all_goals rfl

theorem le_aliveWidth : 8 ≤ s.aliveWidth c := by
  unfold State.aliveWidth
  split <;> omega

theorem aliveWidth_half : 2 ^ (s.aliveWidth c - 1) = 2 ^ s.aliveWidth c / 2 :=
  (Nat.pow_div (by have := le_aliveWidth (s := s) (c := c); omega) (by decide)).symm

theorem two_le_aliveWidth_half : 2 ≤ 2 ^ s.aliveWidth c / 2 := by
  rw [← aliveWidth_half]
  exact Nat.le_self_pow (by have := le_aliveWidth (s := s) (c := c); omega) 2

section
variable (ht : s.unitTaped (0xA000 + c) = false)
include ht

theorem cvuAliveReset_in_service :
    cvuAliveReset c s = (s.wr (R.CVU_ALIVE_STAT_VERDICT c) 0).wr (R.CVU_ALIVE_LAST c) 0 := if_neg (by simp [State.cvuTaped, ht])

theorem cvuAlive_starts (hv : s.rd (R.CVU_ALIVE_STAT_VERDICT c) = 0) :
    cvuAlive c v s = (s.wr (R.CVU_ALIVE_STAT_VERDICT c) 1).wr (R.CVU_ALIVE_LAST c) (v % 2 ^ s.aliveWidth c) := by
  simp [cvuAlive, State.cvuTaped, ht, hv]

/-- A value after the first is judged by how far it is ahead of LAST (R450). -/
theorem cvuAlive_judges (hv : s.rd (R.CVU_ALIVE_STAT_VERDICT c) ≠ 0) :
    cvuAlive c v s =
      if s.aliveAhead c v = 1 then
        ((s.wr (R.CVU_ALIVE_STAT_VERDICT c) 2).wr (R.CVU_ALIVE_LAST c) (v % 2 ^ s.aliveWidth c)).inc (R.CVU_ALIVE_OK c)
      else if s.aliveAhead c v = 0 ∨ 2 ^ s.aliveWidth c / 2 ≤ s.aliveAhead c v then
        ((s.wr (R.CVU_ALIVE_STAT_VERDICT c) 3).inc (R.CVU_ALIVE_REPEAT c)).raiseIf (s.flag (R.CVU_ALIVE_CFG_EV_EN c)) (1472 + c)
      else (((s.wr (R.CVU_ALIVE_STAT_VERDICT c) 4).wr (R.CVU_ALIVE_LAST c) (v % 2 ^ s.aliveWidth c)).inc (R.CVU_ALIVE_MISSING c)
        (s.aliveAhead c v - 1)).raiseIf (s.flag (R.CVU_ALIVE_CFG_EV_EN c)) (1472 + c) := by
  have hverdict : (R.CVU_ALIVE_CFG_EV_EN c).key ≠ (R.CVU_ALIVE_STAT_VERDICT c).key := by
    simp only [R.CVU_ALIVE_CFG_EV_EN, R.CVU_ALIVE_STAT_VERDICT, Fld.at]
    omega
  have hlast : (R.CVU_ALIVE_CFG_EV_EN c).key ≠ (R.CVU_ALIVE_LAST c).key := by
    simp only [R.CVU_ALIVE_CFG_EV_EN, R.CVU_ALIVE_LAST, Fld.at]
    omega
  simp only [cvuAlive, State.cvuTaped, ht, if_neg hv, Bool.false_eq_true, if_false, aliveWidth_half, State.inc_flag,
    State.flag_wr_other _ _ hverdict, State.flag_wr_other _ _ hlast]
  rfl

end
end

/-- Settles O24: `ahead_mod` gives the d of R450 from the value that comes, and `cvuAlive_judges` what d does. -/
theorem cvuAliveCommands : Obligations.CvuAliveCommands := by
  intro s c v ha ht
  have hhalf : 2 ≤ 2 ^ s.aliveWidth c / 2 := two_le_aliveWidth_half
  have hahead {d : Nat} (hd : d < 2 ^ s.aliveWidth c)
      (hx : v.toNat % 2 ^ s.aliveWidth c = (s.rd (R.CVU_ALIVE_LAST c) + d) % 2 ^ s.aliveWidth c) : s.aliveAhead c v.toNat = d :=
    ahead_mod hd hx
  refine ⟨aliveWidth_of_width, evDefault_cvu c, act_of_eq ha (cvuAliveReset_in_service ht),
    fun hv => act_of_eq ha (cvuAlive_starts ht hv), fun hv hx => act_of_eq ha ?ok,
    fun d hv hd hm hx => act_of_eq ha ?behind, fun d hv h2 hd hx => act_of_eq ha ?ahead⟩
  case ok => rw [cvuAlive_judges ht hv, if_pos (hahead (by omega) hx)]
  case behind => rw [cvuAlive_judges ht hv, hahead hm hx, if_neg (by omega), if_pos hd]
  case ahead => rw [cvuAlive_judges ht hv, hahead (by omega) hx, if_neg (by omega), if_neg (by omega)]

end Sys2Proof.Machine
end

section
/-! PROOF. Key store, anti-rollback counter and policy (O41). A key command is a write of SEC_KEY_CTRL with GO. It leaves OP and SLOT
written (`State.keyCtl`); what follows turns on BUSY and on `State.keyRefusal` alone (R502, R523). A request for the counter turns on
`State.mayAdvance` in the same way (R504, R524). -/

namespace Sys2Proof.Machine

theorem secBytes_wr (s : State) {f : Fld} (v : Nat) {off : Nat} (h : f.key < 32 * off) (n : Nat) :
    (s.wr f v).secBytes off n = s.secBytes off n := by
  have hword (i : Nat) : (s.wr f v).rd (.at .sec (off + 4 * i) 0 32 0) = s.rd (.at .sec (off + 4 * i) 0 32 0) :=
    State.rd_wr_other s v (.inr (by simp only [Fld.at]; omega))
  simp only [State.secBytes, hword]

/-! ### A write of SEC_KEY_CTRL -/

theorem keyStat_busy (s : State) (b r : Nat) :
    ((s.wr R.SEC_KEY_CTRL_BUSY b).wr R.SEC_KEY_CTRL_RESULT r).rd R.SEC_KEY_CTRL_BUSY = b % 2 ^ 1 :=
  (State.rd_wr_other _ r (.inr (by decide))).trans (State.rd_wr_same ..)

theorem keyStat_result (s : State) (b r : Nat) :
    ((s.wr R.SEC_KEY_CTRL_BUSY b).wr R.SEC_KEY_CTRL_RESULT r).rd R.SEC_KEY_CTRL_RESULT = r % 2 ^ 4 :=
  State.rd_wr_same ..

/-- The state once OP and SLOT of SEC_KEY_CTRL hold `op` and `k`. -/
def State.keyCtl (s : State) (op k : Nat) : State := (s.wr R.SEC_KEY_CTRL_OP op).wr R.SEC_KEY_CTRL_SLOT k

section
variable {s : State} {op : Nat} {k : Fin 16}

theorem keyCtl_op (hop : op < 8) : (s.keyCtl op k).rd R.SEC_KEY_CTRL_OP = op := by
  rw [State.keyCtl, State.rd_wr_other _ _ (.inr (by decide)), State.rd_wr_same]
  exact Nat.mod_eq_of_lt hop

theorem keyCtl_slot : (s.keyCtl op k).rd R.SEC_KEY_CTRL_SLOT = k := by
  rw [State.keyCtl, State.rd_wr_same]
  exact Nat.mod_eq_of_lt k.isLt

theorem keyCtl_busy : (s.keyCtl op k).flag R.SEC_KEY_CTRL_BUSY = s.flag R.SEC_KEY_CTRL_BUSY := by
  rw [State.keyCtl, State.flag_wr_other _ _ (by decide), State.flag_wr_other _ _ (by decide)]

theorem keyCtl_secBytes (n : Nat) : (s.keyCtl op k).secBytes 0x1000 n = s.secBytes 0x1000 n := by
  rw [State.keyCtl, secBytes_wr _ _ (by decide), secBytes_wr _ _ (by decide)]

@[simp] theorem keyCtl_sec : (s.keyCtl op k).sec = s.sec := rfl

@[simp] theorem keyCtl_fuses : (s.keyCtl op k).fuses = s.fuses := rfl

@[simp] theorem keyCtl_raised : (s.keyCtl op k).raised = s.raised := rfl

theorem keyCtl_keyRefusal : (s.keyCtl op k).keyRefusal op k = s.keyRefusal op k := rfl

theorem keyWrite_go (hop : op < 8) : keyWrite (2 ^ 31 + 2 ^ 28 * op + k) s = keyGo (s.keyCtl op k) := by
  have hopField : bits (2 ^ 31 + 2 ^ 28 * op + k) 30 28 = op := by
    simp only [bits]
    omega
  have hslotField : bits (2 ^ 31 + 2 ^ 28 * op + k) 3 0 = k := by
    simp only [bits]
    omega
  have hgo : (2 ^ 31 + 2 ^ 28 * op + k.val).testBit 31 = true := by
    rw [Nat.testBit_eq_decide_div_mod_eq, decide_eq_true_eq]
    omega
  rw [keyWrite, hopField, hslotField, hgo]
  rfl

variable (op k)

theorem keyWrite_busy (hop : op < 8) (hb : s.flag R.SEC_KEY_CTRL_BUSY = true) :
    keyWrite (2 ^ 31 + 2 ^ 28 * op + k) s = (s.keyCtl op k).wr R.SEC_KEY_CTRL_RESULT 5 := by
  rw [keyWrite_go hop]
  exact if_pos (keyCtl_busy.trans hb)

theorem keyWrite_refused {r : Nat} (h0 : op ≠ 0) (hop : op < 8) (hb : s.flag R.SEC_KEY_CTRL_BUSY = false)
    (hr : s.keyRefusal op k = some r) :
    keyWrite (2 ^ 31 + 2 ^ 28 * op + k) s = (s.keyCtl op k).wr R.SEC_KEY_CTRL_RESULT r := by
  rw [keyWrite_go hop]
  simp [keyGo, keyCtl_busy, hb, keyCtl_op hop, h0, keyCtl_slot, keyCtl_keyRefusal, hr]

theorem keyWrite_starts (h0 : op ≠ 0) (hop : op < 8) (hb : s.flag R.SEC_KEY_CTRL_BUSY = false) (hr : s.keyRefusal op k = none) :
    keyWrite (2 ^ 31 + 2 ^ 28 * op + k) s =
      { ((s.keyCtl op k).wr R.SEC_KEY_CTRL_BUSY 1).wr R.SEC_KEY_CTRL_RESULT 0 with
        sec := { s.sec with keyOp := some (op, k.val, s.secBytes 0x1000 (keyLen op)) } } := by
  rw [keyWrite_go hop]
  simp [keyGo, keyCtl_busy, hb, keyCtl_op hop, h0, keyCtl_slot, keyCtl_keyRefusal, hr, keyCtl_secBytes]

/-- `t` is `s` with operation `op` under way on slot `k`, on the first `n` bytes of the key buffer. -/
def State.KeyUnderWay (s t : State) (op k n : Nat) : Prop :=
  t.rd R.SEC_KEY_CTRL_BUSY = 1 ∧ t.rd R.SEC_KEY_CTRL_RESULT = 0 ∧
    t.sec.keyOp = some (op, k, s.secBytes 0x1000 n) ∧ t.fuses = s.fuses ∧ t.raised = s.raised

theorem keyWrite_under_way (ha : s.asleep = false) (h0 : op ≠ 0) (hop : op < 8) (hb : s.flag R.SEC_KEY_CTRL_BUSY = false)
    (hr : s.keyRefusal op k = none) :
    ∃ t, act (keyWrite (2 ^ 31 + 2 ^ 28 * op + k)) s = .next (settle t) ∧ s.KeyUnderWay t op k (keyLen op) := by
  refine ⟨_, act_of_eq ha (keyWrite_starts op k h0 hop hb hr), keyStat_busy (s.keyCtl op k) 1 0, keyStat_result (s.keyCtl op k) 1 0,
    rfl, ?fuses, ?raised⟩
  case fuses => simp
  case raised => simp

end

/-! ### Which operations are refused -/

section
variable {s : State} {op k : Nat}

theorem keyRefusal_bad_op (h5 : 5 ≤ op) : s.keyRefusal op k = some 6 := if_pos h5

theorem keyRefusal_bad_slot (h5 : op < 5) (hslot : keySlotOk op k = false) : s.keyRefusal op k = some 2 := by
  simp [State.keyRefusal, Nat.not_le.mpr h5, hslot]

theorem keyRefusal_not_allowed (h4 : op < 4) (hslot : keySlotOk op k = true) (hlc : 2 ≤ s.fuses.lc) :
    s.keyRefusal op k = some 3 := by
  simp [State.keyRefusal, show ¬ 5 ≤ op by omega, show op ≠ 4 by omega, hslot, hlc]

/-- PROG_EC and PROG_AES run on an unused slot (R502). -/
theorem keyRefusal_unused (hop : op = 1 ∨ op = 3) (hslot : keySlotOk op k = true) (hlc : s.fuses.lc ≤ 1)
    (hec : s.fuses.ec.get [] k = []) (haes : s.fuses.aes.get [] k = []) (hrev : s.fuses.revoked.testBit k = false) :
    s.keyRefusal op k = none := by
  simp [State.keyRefusal, show ¬ 5 ≤ op by omega, show op ≠ 4 by omega, show op ≠ 2 by omega, show ¬ 2 ≤ s.fuses.lc by omega,
    hslot, hec, haes, hrev]

/-- PROG_PQ runs on a slot with an ECDSA key and no ML-DSA key (R502). -/
theorem keyRefusal_prog_pq (hslot : keySlotOk 2 k = true) (hlc : s.fuses.lc ≤ 1) (hec : s.fuses.ec.get [] k ≠ [])
    (hpq : s.fuses.pq.get [] k = []) : s.keyRefusal 2 k = none := by
  simp [State.keyRefusal, show ¬ 2 ≤ s.fuses.lc by omega, hslot, hec, hpq]

theorem keyRefusal_revoke (hslot : keySlotOk 4 k = true) (hlc : s.fuses.lc = 1 ∨ s.fuses.lc = 2) : s.keyRefusal 4 k = none := by
  simp [State.keyRefusal, hslot, hlc]

end

/-! ### The end of a key operation -/

/-- The fuses once operation `op` has ended on slot `k` with the key buffer's bytes `key` (R502). -/
def Fuses.keyed (f : Fuses) (op k : Nat) (key : List Byte) : Fuses :=
  match op with
  | 1 => { f with ec := f.ec.set [] k key }
  | 2 => { f with pq := f.pq.set [] k key }
  | 3 => { f with aes := f.aes.set [] k key }
  | _ => { f with revoked := f.revoked ||| 2 ^ k }

section
variable {s : State} {op k : Nat} {key : List Byte} (h : s.sec.keyOp = some (op, k, key))
include h

theorem keyDone_burned :
    keyDone false s = { (s.wr R.SEC_KEY_CTRL_BUSY 0).wr R.SEC_KEY_CTRL_RESULT 1 with
      sec := { s.sec with keyOp := none }, fuses := s.fuses.keyed op k key } := by
  rw [keyDone, h]
  rfl

theorem keyDone_failed :
    keyDone true s = { (s.wr R.SEC_KEY_CTRL_BUSY 0).wr R.SEC_KEY_CTRL_RESULT 7 with sec := { s.sec with keyOp := none } } := by
  rw [keyDone, h]
  rfl

end

/-! ### The anti-rollback counter -/

/-- The counter may go to `v`: forward, and no further than the firmware and the image in force (R504). -/
def State.mayAdvance (s : State) (v : Nat) : Prop :=
  s.fuses.rollback < v ∧ v ≤ s.fw.ctlVer ∧ v ≤ s.fw.laneVer ∧ s.ldr.inForce = true ∧ v ≤ s.ldr.version

section
variable {s : State} (v : Byte)

theorem rbWrite_go : rbWrite (256 + v.toNat) s = rbGo (s.wr R.SEC_RB_CTRL_NEW v.toNat) := by
  have hv := v.isLt
  have hnew : bits (256 + v.toNat) 7 0 = v.toNat := by
    simp only [bits]
    omega
  have hgo : (256 + v.toNat).testBit 8 = true := by
    rw [Nat.testBit_eq_decide_div_mod_eq, decide_eq_true_eq]
    omega
  rw [rbWrite, hnew, hgo]
  rfl

theorem rd_rbNew : (s.wr R.SEC_RB_CTRL_NEW v.toNat).rd R.SEC_RB_CTRL_NEW = v.toNat :=
  (State.rd_wr_same ..).trans (Nat.mod_eq_of_lt v.isLt)

variable (hb : s.sec.rbBurn = none)
include hb

theorem rbWrite_starts (h : s.mayAdvance v.toNat) :
    rbWrite (256 + v.toNat) s =
      { (s.wr R.SEC_RB_CTRL_NEW v.toNat).wr R.SEC_RB_CTRL_RESULT 3 with sec := { s.sec with rbBurn := some v.toNat } } := by
  rw [rbWrite_go, rbGo, rd_rbNew]
  exact (if_neg (by simp [hb])).trans (if_pos h)

theorem rbWrite_refused (h : ¬ s.mayAdvance v.toNat) :
    rbWrite (256 + v.toNat) s = (s.wr R.SEC_RB_CTRL_NEW v.toNat).wr R.SEC_RB_CTRL_RESULT 2 := by
  rw [rbWrite_go, rbGo, rd_rbNew]
  exact (if_neg (by simp [hb])).trans (if_neg h)

end

theorem rbDone_burned {s : State} {v : Nat} (h : s.sec.rbBurn = some v) :
    rbDone s = { s.wr R.SEC_RB_CTRL_RESULT 1 with
      sec := { s.sec with rbBurn := none }, fuses := { s.fuses with rollback := v } } := by
  rw [rbDone, h]

/-- SEC_LC_STAT shows the counter above the bits of the session's level and of DEVSAMPLE (R520). -/
theorem lcWord_rollback {s : State} (h : s.dbgLevel < 4) : s.lcWord / 2 ^ 16 % 2 ^ 8 = s.fuses.rollback % 2 ^ 8 := by
  have hdev : b2n s.fuses.dev ≤ 1 := by
    unfold b2n
    split <;> omega
  unfold State.lcWord
  omega

theorem ite_error_ne_ok {α : Type} {c : Prop} [Decidable c] {e : Nat} {r : Except Nat α} {x : α} (h : r ≠ .ok x) :
    (if c then .error e else r) ≠ .ok x := by
  split
  · nofun
  · exact h

/-- The checks of R290 before ROLLBACK answer nothing but errors, and ROLLBACK refuses a SEC_VERSION below the counter (R504). -/
theorem imgVerify_below_rollback {s : State} {b : List Byte} (h : imgVersion b < s.fuses.rollback) (len magic kind : Nat) (lath : Bool)
    (x : List Byte) : s.imgVerify b len magic kind lath ≠ .ok x := by
  unfold State.imgVerify
  iterate 6 apply ite_error_ne_ok
  rw [if_pos h]
  nofun

/-- Settles O41: a key command starts or is refused by `State.keyRefusal` (in the order of log 53) and ends by `Fuses.keyed`; the counter
moves by `State.mayAdvance`. -/
theorem keyCommands : Obligations.KeyCommands := by
  intro s k ha put go
  refine ⟨fun hb => act_of_eq ha (keyWrite_busy 4 k (by decide) hb), fun hb h1 h7 hlc hec haes hrev => ?progEc,
    fun hb h1 h7 hlc hec hpq => ?progPq, fun hb h8 hlc hec haes hrev => ?progAes, fun hb h1 hlc => ?revoke,
    fun hb h0 => ?slotZero, fun hb h8 hlc => ?aesSecured, fun op hb => ?badOp, fun op b h => ?burned, fun ⟨_, _, _⟩ h => ?failed,
    fun v hb hnew hctl hlane hforce hver => ?advance, fun v hb hbad => ?behind, fun v h => act_of_eq ha (rbDone_burned h),
    lcWord_rollback, fun b magic kind lath x h => imgVerify_below_rollback h _ _ _ _ x, fun v hb hbad => ?beyond, fun v => act_awake ha _⟩
  case progEc =>
    exact keyWrite_under_way 1 k ha (by decide) (by decide) hb
      (keyRefusal_unused (.inl rfl) (by simp [keySlotOk, h1, h7]) hlc hec haes hrev)
  case progPq =>
    exact keyWrite_under_way 2 k ha (by decide) (by decide) hb
      (keyRefusal_prog_pq (by simp [keySlotOk, h1, h7]) hlc hec hpq)
  case progAes =>
    exact keyWrite_under_way 3 k ha (by decide) (by decide) hb
      (keyRefusal_unused (.inr rfl) (by simp [keySlotOk, h8]) hlc hec haes hrev)
  case revoke => exact keyWrite_under_way 4 k ha (by decide) (by decide) hb (keyRefusal_revoke (by simp [keySlotOk, h1]) hlc)
  case slotZero =>
    exact act_of_eq ha (keyWrite_refused 1 k (by decide) (by decide) hb
      (keyRefusal_bad_slot (by decide) (by simp [keySlotOk, h0])))
  case aesSecured =>
    exact act_of_eq ha (keyWrite_refused 3 k (by decide) (by decide) hb
      (keyRefusal_not_allowed (by decide) (by simp [keySlotOk, h8]) hlc))
  case badOp => exact act_of_eq ha (keyWrite_refused (5 + op) k (by omega) (by omega) hb (keyRefusal_bad_op (by omega)))
  case burned =>
    refine ⟨_, act_of_eq ha (keyDone_burned h), keyStat_busy s 0 1, keyStat_result s 0 1, rfl, ?_, ?_, ?_, ?_⟩
    all_goals
      rintro rfl
      rfl
  case failed =>
    exact ⟨_, act_of_eq ha (keyDone_failed h), keyStat_result s 0 7, keyStat_busy s 0 7, rfl⟩
  case advance =>
    exact ⟨_, act_of_eq ha (rbWrite_starts v hb ⟨hnew, hctl, hlane, hforce, hver⟩), rfl,
      State.rd_wr_same (s.wr R.SEC_RB_CTRL_NEW v.toNat) R.SEC_RB_CTRL_RESULT 3, rfl⟩
  case behind =>
    refine act_of_eq ha (rbWrite_refused v hb ?_)
    rintro ⟨hnew, hctl, hlane, -, -⟩
    omega
  case beyond =>
    refine act_of_eq ha (rbWrite_refused v hb ?_)
    rintro ⟨-, -, -, hforce, hver⟩
    rcases hbad with hnone | hlow
    · simp [hnone] at hforce
    · omega

end Sys2Proof.Machine
end

section
/-! PROOF. Lanes under test (O49). A restart leaves every register but LOCK (`tstRestart_rd`), so what a write of MODE shows is what it puts
in (`State.putTest`). The register of a pattern generator is a window on the bits that it emits (`prbsState_testBit_add`), which makes
the polynomial a recurrence on the pattern (R537). -/

namespace Sys2Proof.Machine

theorem State.rd_wr_key (s : State) {f g : Fld} (x : Nat) (h : g.key ≠ f.key) : (s.wr f x).rd g = s.rd g := State.rd_wr_other s x (.inr h)

/-! ### Halves of a 64-bit counter -/

section
variable (s : State) {lo hi g : Fld} (k : Nat)

theorem State.ctr_inc64_lo (h : lo.key ≠ hi.key) (hw : lo.w = 32) : (s.inc64 lo hi k).ctr lo = (s.ctr lo + k) % 2 ^ 32 := by
  have hlow : (s.inc64 lo hi k).ctr lo = (2 ^ 32 * s.ctr hi + s.ctr lo + k) % 2 ^ lo.w :=
    (Regs.get_set_other _ _ (.inr h)).trans (Regs.get_set_same ..)
  rw [hlow, hw, Nat.add_assoc, Nat.mul_add_mod]

theorem State.ctr_inc64_other (hlo : g.key ≠ lo.key) (hhi : g.key ≠ hi.key) : (s.inc64 lo hi k).ctr g = s.ctr g :=
  (Regs.get_set_other _ _ (.inr hhi)).trans (Regs.get_set_other _ _ (.inr hlo))

end

/-! ### Which lanes are eligible (R533) -/

section
variable (s : State)

theorem tstEligible_sensor {l : Nat} (h : l < 192) :
    s.tstEligible l = true ↔ (s.laneState l = 0 ∨ s.laneState l = 6 ∨ s.laneState l = 7) := by
  simp [State.tstEligible, h, or_assoc]

theorem tstEligible_uplink (u : Nat) :
    s.tstEligible (192 + u) = true ↔ (s.flag (R.UPL_LANE_STAT_IN_USE u) = false ∨ s.flag (R.UPL_LANE_STAT_TAPED u) = true) := by
  have hu : ¬ 192 + u < 192 := by omega
  rw [State.tstEligible, if_neg hu, Nat.add_sub_cancel_left, Bool.or_eq_true, Bool.not_eq_true']

end

theorem tstModeOk_off (l : Nat) : tstModeOk l 0 = true := by
  simp [tstModeOk]

/-! ### The account of compared bits (R540) -/

section
variable {s : State} {l : Nat}

/-- An account changes no register and raises nothing. -/
theorem tstCount_frame (l : Nat) (errs : Option Nat) (s : State) :
    (tstCount l errs s).regs = s.regs ∧ (tstCount l errs s).raised = s.raised := by
  unfold tstCount
  split
  · exact ⟨rfl, rfl⟩
  · cases errs with
    | some e => simp
    | none =>
      dsimp only
      split <;> simp [State.draw]

theorem tstCount_unlocked (h : (s.tstLane l).lockAt = none) (errs : Option Nat) : tstCount l errs s = s := by
  simp only [tstCount, h]

theorem tstCount_told {c : Nat} (h : (s.tstLane l).lockAt = some c) (e : Nat) :
    tstCount l (some e) s =
      ((s.setTst l { s.tstLane l with counted := s.tstBits l (s.chalk.cycles - c) }).inc64 (R.TST_BITS_LO l) (R.TST_BITS_HI l)
        (s.tstBits l (s.chalk.cycles - c) - (s.tstLane l).counted)).inc64 (R.TST_ERR_LO l) (R.TST_ERR_HI l) e := by
  simp only [tstCount, h]

/-- The errors that an account is told of are added to TST_ERR. -/
theorem tstCount_told_err (h : (s.tstLane l).lockAt.isSome = true) (e : Nat) :
    (tstCount l (some e) s).ctr (R.TST_ERR_LO l) = (s.ctr (R.TST_ERR_LO l) + e) % 2 ^ 32 := by
  obtain ⟨c, hc⟩ := Option.isSome_iff_exists.mp h
  rw [tstCount_told hc, State.ctr_inc64_lo _ _ (by simp only [R.TST_ERR_LO, R.TST_ERR_HI, Fld.at]; omega) rfl,
    State.ctr_inc64_other _ _ (by simp only [R.TST_ERR_LO, R.TST_BITS_LO, Fld.at]; omega)
      (by simp only [R.TST_ERR_LO, R.TST_BITS_HI, Fld.at]; omega), State.setTst_ctr]

theorem tstCount_told_lockLoss (l e : Nat) (s : State) :
    (tstCount l (some e) s).ctr (R.TST_LOCK_LOSS l) = s.ctr (R.TST_LOCK_LOSS l) := by
  cases hc : (s.tstLane l).lockAt with
  | none => rw [tstCount_unlocked hc]
  | some c =>
    rw [tstCount_told hc, State.ctr_inc64_other _ _ (by simp only [R.TST_LOCK_LOSS, R.TST_ERR_LO, Fld.at]; omega)
        (by simp only [R.TST_LOCK_LOSS, R.TST_ERR_HI, Fld.at]; omega),
      State.ctr_inc64_other _ _ (by simp only [R.TST_LOCK_LOSS, R.TST_BITS_LO, Fld.at]; omega)
        (by simp only [R.TST_LOCK_LOSS, R.TST_BITS_HI, Fld.at]; omega), State.setTst_ctr]

theorem tstCount_told_genAt (l e : Nat) (s : State) : ((tstCount l (some e) s).tstLane l).genAt = (s.tstLane l).genAt := by
  cases hc : (s.tstLane l).lockAt with
  | none => rw [tstCount_unlocked hc]
  | some c => simp [tstCount_told hc]

end

/-! ### Restarts (R537, R538) -/

section
variable (l : Nat) (s : State)

theorem tstRestart_rd {g : Fld} (h : g.blk ≠ .tst ∨ g.key ≠ (R.TST_LANE_STAT_LOCK l).key) : (tstRestart l s).rd g = s.rd g :=
  (State.rd_wr_other _ 0 h).trans (congrArg (Regs.get · g) (tstCount_frame l none s).1)

@[simp] theorem tstRestart_lock : (tstRestart l s).rd (R.TST_LANE_STAT_LOCK l) = 0 := State.rd_wr_same ..

@[simp] theorem tstRestart_lockAt : ((tstRestart l s).tstLane l).lockAt = none := by
  simp [tstRestart]

@[simp] theorem tstRestart_raised : (tstRestart l s).raised = s.raised := (tstCount_frame l none s).2

end

/-! ### A write of MODE (R533, R536, R537) -/

/-- The state once TST_LANE_CTRL of lane `l` holds the word `v`. -/
def State.putTest (s : State) (l v : Nat) : State :=
  ((((s.wr (R.TST_LANE_CTRL_MODE l) (bits v 31 29)).wr (R.TST_LANE_CTRL_PAT l) (bits v 28 26)).wr
    (R.TST_LANE_CTRL_INV l) (bits v 25 25)).wr (R.TST_LANE_CTRL_RATE l) (bits v 23 22)).wr (R.TST_LANE_CTRL_PLEN_M1 l) (bits v 6 0)

theorem bits_lt (x hi lo : Nat) : bits x hi lo < 2 ^ (hi - lo + 1) := Nat.mod_lt _ (Nat.two_pow_pos _)

section
variable (s : State) (l v : Nat)

/-- What the fields of TST_LANE_CTRL read once a word stands there. -/
theorem putTest_ctrl :
    (s.putTest l v).tstMode l = bits v 31 29 ∧ (s.putTest l v).rd (R.TST_LANE_CTRL_PAT l) = bits v 28 26 ∧
      (s.putTest l v).rd (R.TST_LANE_CTRL_RATE l) = bits v 23 22 ∧ (s.putTest l v).rd (R.TST_LANE_CTRL_PLEN_M1 l) = bits v 6 0 := by
  have hmode : bits v 31 29 % 2 ^ 3 = bits v 31 29 := Nat.mod_eq_of_lt (bits_lt ..)
  have hpat : bits v 28 26 % 2 ^ 3 = bits v 28 26 := Nat.mod_eq_of_lt (bits_lt ..)
  have hrate : bits v 23 22 % 2 ^ 2 = bits v 23 22 := Nat.mod_eq_of_lt (bits_lt ..)
  have hplen : bits v 6 0 % 2 ^ 7 = bits v 6 0 := Nat.mod_eq_of_lt (bits_lt ..)
  simp (disch := simp only [R.TST_LANE_CTRL_MODE, R.TST_LANE_CTRL_PAT, R.TST_LANE_CTRL_INV, R.TST_LANE_CTRL_RATE,
    R.TST_LANE_CTRL_PLEN_M1, Fld.at]; omega) only [State.putTest, State.tstMode, State.rd_wr_same, State.rd_wr_key]
  exact ⟨hmode, hpat, hrate, hplen⟩

theorem putTest_lock : (s.putTest l v).rd (R.TST_LANE_STAT_LOCK l) = s.rd (R.TST_LANE_STAT_LOCK l) := by
  simp (disch := simp only [R.TST_LANE_CTRL_MODE, R.TST_LANE_CTRL_PAT, R.TST_LANE_CTRL_INV, R.TST_LANE_CTRL_RATE,
    R.TST_LANE_CTRL_PLEN_M1, R.TST_LANE_STAT_LOCK, Fld.at]; omega) only [State.putTest, State.rd_wr_key]

/-- Test registers are no registers of another block. -/
theorem putTest_rd_of_blk {g : Fld} (h : g.blk ≠ .tst) : (s.putTest l v).rd g = s.rd g := by
  have hother (f : Fld) (t : State) (x : Nat) (hf : f.blk = .tst) : (t.wr f x).rd g = t.rd g := State.rd_wr_other t x (.inl (hf ▸ h))
  rw [State.putTest, hother _ _ _ rfl, hother _ _ _ rfl, hother _ _ _ rfl, hother _ _ _ rfl, hother _ _ _ rfl]

@[simp] theorem putTest_tstLane (n : Nat) : (s.putTest l v).tstLane n = s.tstLane n := by
  simp [State.putTest]

@[simp] theorem putTest_raised : (s.putTest l v).raised = s.raised := by
  simp [State.putTest]

end

section
variable {s : State} {l v : Nat}

theorem tstWrite_refused (h : tstModeOk l (bits v 31 29) = false ∨ (bits v 31 29 ≠ 0 ∧ s.tstEligible l = false)) :
    tstWrite l v s = s.wr (R.TST_LANE_STAT_REFUSED l) 1 :=
  if_pos (by simpa using h)

/-- A lane in OFF takes its mode after a restart. -/
theorem tstWrite_activates (hok : tstModeOk l (bits v 31 29) = true) (hm : bits v 31 29 ≠ 0) (he : s.tstEligible l = true)
    (hoff : s.tstMode l = 0) :
    tstWrite l v s = (((tstRestart l s).putTest l v).wr (R.TST_LANE_STAT_ACTIVE l) 1).wr (R.TST_LANE_STAT_ENDED l) 0 := by
  simp [tstWrite, hok, hm, he, hoff, State.putTest]

theorem tstWrite_off (hm : bits v 31 29 = 0) (hon : s.tstMode l ≠ 0) :
    tstWrite l v s = tstOff l (((tstRestart l s).putTest l v).wr (R.TST_LANE_CTRL_MODE l) (s.tstMode l)) := by
  simp [tstWrite, hm, hon, tstModeOk_off, State.putTest]

/-- Where the port is not TAPED, OFF is a restart and the end of the mode (R536). -/
theorem tstOff_of_not_taped (h : s.laneState (s.base l) ≠ 6) :
    tstOff l s = ((tstRestart l s).wr (R.TST_LANE_CTRL_MODE l) 0).wr (R.TST_LANE_STAT_ACTIVE l) 0 := by
  have hkeeps (g : Fld) (hg : g.blk = .vsp) :
      (((tstRestart l s).wr (R.TST_LANE_CTRL_MODE l) 0).wr (R.TST_LANE_STAT_ACTIVE l) 0).rd g = s.rd g := by
    have hblk : g.blk ≠ .tst := by simp [hg]
    rw [State.rd_wr_other _ _ (.inl hblk), State.rd_wr_other _ _ (.inl hblk), tstRestart_rd _ _ (.inl hblk)]
  refine if_neg fun hcond => h ?_
  obtain ⟨-, hstate, -⟩ := hcond
  rwa [State.laneState, State.base, hkeeps _ rfl, hkeeps _ rfl] at hstate

end

/-- `t` shows lane `l` active since a restart, with the mode and pattern of the word `v` (R533, R537). -/
def State.ActiveWith (t : State) (l v : Nat) : Prop :=
  t.tstMode l = bits v 31 29 ∧ t.rd (R.TST_LANE_CTRL_PAT l) = bits v 28 26 ∧ t.rd (R.TST_LANE_CTRL_RATE l) = bits v 23 22 ∧
    t.rd (R.TST_LANE_CTRL_PLEN_M1 l) = bits v 6 0 ∧ t.rd (R.TST_LANE_STAT_ACTIVE l) = 1 ∧ t.rd (R.TST_LANE_STAT_LOCK l) = 0 ∧
    t.rd (R.TST_LANE_STAT_ENDED l) = 0 ∧ (t.tstLane l).lockAt = none

section
variable (s : State) (l v : Nat)

theorem tstActivated_activeWith :
    ((((tstRestart l s).putTest l v).wr (R.TST_LANE_STAT_ACTIVE l) 1).wr (R.TST_LANE_STAT_ENDED l) 0).ActiveWith l v := by
  obtain ⟨hmode, hpat, hrate, hplen⟩ := putTest_ctrl (tstRestart l s) l v
  rw [State.tstMode] at hmode
  simp (disch := simp only [R.TST_LANE_CTRL_MODE, R.TST_LANE_CTRL_PAT, R.TST_LANE_CTRL_RATE, R.TST_LANE_CTRL_PLEN_M1,
    R.TST_LANE_STAT_LOCK, R.TST_LANE_STAT_ACTIVE, R.TST_LANE_STAT_ENDED, Fld.at]; omega) only [State.ActiveWith, State.tstMode,
    State.rd_wr_same, State.rd_wr_key, hmode, hpat, hrate, hplen, putTest_lock, tstRestart_lock, State.wr_tstLaneOf, putTest_tstLane,
    tstRestart_lockAt, true_and, and_true]
  exact ⟨rfl, rfl⟩

end

section
variable {s : State} {l v : Nat}

/-- An active lane whose port is not TAPED goes to OFF. -/
theorem tstWrite_ends (hm : bits v 31 29 = 0) (hon : s.tstMode l ≠ 0) (h6 : s.laneState (s.base l) ≠ 6) :
    (tstWrite l v s).tstMode l = 0 ∧ (tstWrite l v s).rd (R.TST_LANE_STAT_ACTIVE l) = 0 ∧
      (tstWrite l v s).rd (R.TST_LANE_STAT_LOCK l) = 0 ∧ ((tstWrite l v s).tstLane l).lockAt = none ∧
      (tstWrite l v s).raised = s.raised := by
  have hkeeps (g : Fld) (hg : g.blk = .vsp) :
      (((tstRestart l s).putTest l v).wr (R.TST_LANE_CTRL_MODE l) (s.tstMode l)).rd g = s.rd g := by
    have hblk : g.blk ≠ .tst := by simp [hg]
    rw [State.rd_wr_other _ _ (.inl hblk), putTest_rd_of_blk _ _ _ hblk, tstRestart_rd _ _ (.inl hblk)]
  rw [tstWrite_off hm hon, tstOff_of_not_taped (by rwa [State.laneState, State.base, hkeeps _ rfl, hkeeps _ rfl])]
  simp (disch := simp only [R.TST_LANE_CTRL_MODE, R.TST_LANE_STAT_LOCK, R.TST_LANE_STAT_ACTIVE, Fld.at]; omega) [State.tstMode,
    State.rd_wr_key]

end

/-! ### INJECT (R539) -/

section
variable {s : State} {l : Nat}

theorem tstInject_no_generator (h : tstGen l (s.tstMode l) = false) : tstInject l s = s := if_pos (by simp [h])

theorem tstInject_generator (h : tstGen l (s.tstMode l) = true) (h4 : s.tstMode l ≠ 4) :
    tstInject l s = if (s.tstLane l).flips.contains (s.injectAt l) then s
      else s.setTst l { s.tstLane l with flips := (s.tstLane l).flips ++ [s.injectAt l] } := by
  simp [tstInject, h, h4]

/-- On a looped-back lane a locked checker counts the error at once. -/
theorem tstInject_looped (h4 : s.tstMode l = 4) (hlock : s.flag (R.TST_LANE_STAT_LOCK l) = true)
    (hnew : (s.tstLane l).flips.contains (s.injectAt l) = false) :
    tstInject l s = (s.setTst l { s.tstLane l with flips := (s.tstLane l).flips ++ [s.injectAt l] }).inc64
      (R.TST_ERR_LO l) (R.TST_ERR_HI l) 1 := by
  have hgen : tstGen l 4 = true := by simp [tstGen]
  simp only [tstInject, h4, hgen, hlock, hnew]
  rfl

theorem patBit_congr {t : State} (h : t.regs = s.regs) (l k : Nat) : t.patBit l k = s.patBit l k := by
  rw [show t.patBit l k = { s with regs := t.regs }.patBit l k from rfl, h]

/-- On a looped-back lane INJECT inverts the next bit, which the checker counts once, and no other bit. -/
theorem tstInject_looped_effects (h4 : s.tstMode l = 4) (hlock : s.flag (R.TST_LANE_STAT_LOCK l) = true)
    (hnew : (s.tstLane l).flips.contains (s.injectAt l) = false) :
    (tstInject l s).ctr (R.TST_ERR_LO l) = (s.ctr (R.TST_ERR_LO l) + 1) % 2 ^ 32 ∧
      (tstInject l s).genBit l (s.injectAt l) = !s.genBit l (s.injectAt l) ∧
      (∀ k, k ≠ s.injectAt l → (tstInject l s).genBit l k = s.genBit l k) ∧ (tstInject l s).regs = s.regs := by
  rw [tstInject_looped h4 hlock hnew]
  have hgen (k : Nat) : ((s.setTst l { s.tstLane l with flips := (s.tstLane l).flips ++ [s.injectAt l] }).inc64
      (R.TST_ERR_LO l) (R.TST_ERR_HI l) 1).genBit l k = (s.patBit l k != ((s.tstLane l).flips.contains k || k == s.injectAt l)) := by
    rw [State.genBit, patBit_congr (State.inc64_regs ..), patBit_congr (State.setTst_regs ..), State.inc64_tstLaneOf,
      State.tstLane_set_same, List.contains_append, List.contains_cons, List.contains_nil, Bool.or_false]
  refine ⟨?counted, ?inverted, fun k hk => ?others, ?regs⟩
  case counted => rw [State.ctr_inc64_lo _ _ (by simp only [R.TST_ERR_LO, R.TST_ERR_HI, Fld.at]; omega) rfl, State.setTst_ctr]
  case inverted => rw [hgen, State.genBit, hnew, Bool.false_or, beq_self_eq_true, Bool.bne_true, Bool.bne_false]
  case others => rw [hgen, State.genBit, beq_false_of_ne hk, Bool.or_false]
  case regs => rw [State.inc64_regs, State.setTst_regs]

end

/-! ### Checkers (R538, R540) -/

section
variable {s : State} {l : Nat}

theorem tstLock_locked (h : s.flag (R.TST_LANE_STAT_LOCK l) = true) : tstLock l s = s := if_pos (.inr h)

theorem tstLock_seeds (hc : tstCheck l (s.tstMode l) = true) (h : s.flag (R.TST_LANE_STAT_LOCK l) = false) :
    tstLock l s =
      (s.setTst l { s.tstLane l with lockAt := some s.chalk.cycles, counted := 0 }).wr (R.TST_LANE_STAT_LOCK l) 1 :=
  if_neg (by simp [hc, h])

variable (e : Nat)

theorem tstLockLoss_unlocked (h : s.flag (R.TST_LANE_STAT_LOCK l) = false) : tstLockLoss l e s = s := if_pos (by simp [h])

theorem tstLockLoss_locked (h : s.flag (R.TST_LANE_STAT_LOCK l) = true) :
    tstLockLoss l e s =
      (((tstCount l (some e) s).setTst l { (tstCount l (some e) s).tstLane l with lockAt := none, counted := 0 }).wr
        (R.TST_LANE_STAT_LOCK l) 0).inc (R.TST_LOCK_LOSS l) :=
  if_neg (by simp [h])

/-- A loss of lock is counted, and so are the errors up to it; the generator runs on. -/
theorem tstLockLoss_effects (h : s.flag (R.TST_LANE_STAT_LOCK l) = true) :
    (tstLockLoss l e s).rd (R.TST_LANE_STAT_LOCK l) = 0 ∧ ((tstLockLoss l e s).tstLane l).lockAt = none ∧
      (tstLockLoss l e s).ctr (R.TST_LOCK_LOSS l) = (s.ctr (R.TST_LOCK_LOSS l) + 1) % 2 ^ 32 ∧
      ((s.tstLane l).lockAt.isSome = true → (tstLockLoss l e s).ctr (R.TST_ERR_LO l) = (s.ctr (R.TST_ERR_LO l) + e) % 2 ^ 32) ∧
      ((tstLockLoss l e s).tstLane l).genAt = (s.tstLane l).genAt := by
  rw [tstLockLoss_locked e h]
  refine ⟨?lock, ?lockAt, ?loss, fun hat => ?err, ?genAt⟩
  case lock => rw [State.inc_rd, State.rd_wr_same, Nat.zero_mod]
  case lockAt => simp
  case loss => rw [State.ctr_inc_same, State.wr_ctr, State.setTst_ctr, tstCount_told_lockLoss]; rfl
  case err =>
    rw [State.ctr_inc_other _ _ (.inr (by simp only [R.TST_ERR_LO, R.TST_LOCK_LOSS, Fld.at]; omega)), State.wr_ctr, State.setTst_ctr,
      tstCount_told_err hat]
  case genAt => simp [tstCount_told_genAt]

end

/-! ### Eye scans (R541, R542) -/

section
variable {s : State} {l : Nat}

theorem eyeGo_refused (h : s.rxDown l = true ∨ (s.tstLane l).eye = true) : eyeGo l s = s.wr (R.TST_EYE_STAT_REFUSED l) 1 := if_pos h

theorem eyeGo_starts (hrx : s.rxDown l = false) (heye : (s.tstLane l).eye = false) :
    eyeGo l s = (s.setTst l { s.tstLane l with eye := true }).wr (R.TST_EYE_STAT_BUSY l) 1 :=
  if_neg (by simp [hrx, heye])

variable (e : Nat)

theorem eyeEnd_done (h : (s.tstLane l).eye = true) :
    eyeEnd l e false s = (((s.setTst l { s.tstLane l with eye := false }).wr (R.TST_EYE_STAT_BUSY l) 0).wr
      (R.TST_EYE_STAT_DONE l) 1).wr (R.TST_EYE_ERR l) (min e (2 ^ 32 - 1)) := by
  simp only [eyeEnd, h, satN]
  rfl

theorem eyeEnd_idle (h : (s.tstLane l).eye = false) : eyeEnd l e false s = s := if_pos (by simp [h])

end

/-! ### Broadcast (R543) -/

/-- The word that a broadcast copies to TST_LANE_CTRL. -/
def State.bcastWord (s : State) : Nat :=
  2 ^ 29 * s.rd R.TST_BCAST_CTRL_MODE + 2 ^ 26 * s.rd R.TST_BCAST_CTRL_PAT + 2 ^ 25 * s.rd R.TST_BCAST_CTRL_INV +
    2 ^ 22 * s.rd R.TST_BCAST_CTRL_RATE + s.rd R.TST_BCAST_CTRL_PLEN_M1

/-- The lanes that TST_BCAST_MASK selects. -/
def State.bcastLanes (s : State) : List Nat :=
  (List.range 200).filter (fun l => (s.rd (R.TST_BCAST_MASK (l / 32))).testBit (l % 32))

section
variable {s : State}

theorem tstBroadcast_eq : tstBroadcast s = s.forAll s.bcastLanes (fun l => tstWrite l s.bcastWord) := rfl

theorem bcastLanes_none (h : ∀ j, j < 7 → s.rd (R.TST_BCAST_MASK j) = 0) : s.bcastLanes = [] := by
  refine List.filter_eq_nil_iff.mpr fun l hl => ?_
  have hj : l / 32 < 7 := by have := List.mem_range.mp hl; omega
  simp [h _ hj]

theorem bcastLanes_one {l : Nat} (hl : l < 200)
    (h : ∀ j, j < 7 → s.rd (R.TST_BCAST_MASK j) = if j = l / 32 then 2 ^ (l % 32) else 0) : s.bcastLanes = [l] := by
  have hbit : ∀ i ∈ List.range 200, (s.rd (R.TST_BCAST_MASK (i / 32))).testBit (i % 32) = (i == l) := by
    intro i hi
    have hj : i / 32 < 7 := by have := List.mem_range.mp hi; omega
    rw [h _ hj, Bool.eq_iff_iff, beq_iff_eq]
    split
    · rw [Nat.testBit_two_pow, decide_eq_true_eq]
      omega
    · rw [Nat.zero_testBit]
      simp only [Bool.false_eq_true, false_iff]
      omega
  rw [State.bcastLanes, List.filter_congr hbit, List.filter_beq, List.count_range, if_pos hl]
  rfl

end

/-! ### Patterns (R537) -/

section
variable {n m : Nat}

/-- The bit that enters the register. -/
theorem prbsState_succ_zero (hn : 0 < n) (k : Nat) :
    (prbsState n m (k + 1)).testBit 0 = ((prbsState n m k).testBit (n - 1) != (prbsState n m k).testBit (m - 1)) := by
  rw [prbsState, Nat.testBit_mod_two_pow, decide_eq_true hn, Bool.true_and, Nat.testBit_zero]
  cases (prbsState n m k).testBit (n - 1) != (prbsState n m k).testBit (m - 1) <;> simp [b2n]

theorem prbsState_succ_succ {i : Nat} (hi : i + 1 < n) (k : Nat) :
    (prbsState n m (k + 1)).testBit (i + 1) = (prbsState n m k).testBit i := by
  have hhalf (r : Nat) (b : Bool) : (2 * r + b2n b) / 2 = r := by
    have hb : b2n b < 2 := by cases b <;> decide
    omega
  rw [prbsState, Nat.testBit_mod_two_pow, decide_eq_true hi, Bool.true_and, Nat.testBit_succ, hhalf]

/-- Each step shifts the register by one place. -/
theorem prbsState_testBit_add (k : Nat) {i : Nat} : ∀ j, i + j < n →
    (prbsState n m (k + j)).testBit (i + j) = (prbsState n m k).testBit i
  | 0, _ => rfl
  | j + 1, h => (prbsState_succ_succ h (k + j)).trans (prbsState_testBit_add k j (by omega))

/-- The bits emitted obey the polynomial x^n + x^m + 1. -/
theorem prbsState_recurrence (hm : 0 < m) (hmn : m ≤ n) (k : Nat) :
    (prbsState n m (k + n)).testBit (n - 1) =
      ((prbsState n m k).testBit (n - 1) != (prbsState n m (k + n - m)).testBit (n - 1)) := by
  have hyoungest : (prbsState n m (k + n)).testBit (n - 1) = (prbsState n m (k + 1)).testBit 0 := by
    have := prbsState_testBit_add (n := n) (m := m) (k + 1) (i := 0) (n - 1) (by omega)
    rwa [show k + 1 + (n - 1) = k + n by omega, Nat.zero_add] at this
  have hmiddle : (prbsState n m (k + n - m)).testBit (n - 1) = (prbsState n m k).testBit (m - 1) := by
    have := prbsState_testBit_add (n := n) (m := m) k (i := m - 1) (n - m) (by omega)
    rwa [show k + (n - m) = k + n - m by omega, show m - 1 + (n - m) = n - 1 by omega] at this
  rw [hyoungest, hmiddle, prbsState_succ_zero (by omega)]

end

theorem prbsTerms_bounds : ∀ p : Nat, 0 < (prbsTerms p).2 ∧ (prbsTerms p).2 ≤ (prbsTerms p).1
  | 0 | 1 | 2 | 3 => by decide
  | _ + 4 => by simp [prbsTerms]

section
variable {s : State} {l : Nat}

theorem patBit_prbs (hinv : s.flag (R.TST_LANE_CTRL_INV l) = false) (hp : s.rd (R.TST_LANE_CTRL_PAT l) ≠ 5) (k : Nat) :
    s.patBit l k = (prbsState (prbsTerms (s.rd (R.TST_LANE_CTRL_PAT l))).1 (prbsTerms (s.rd (R.TST_LANE_CTRL_PAT l))).2 k).testBit
      ((prbsTerms (s.rd (R.TST_LANE_CTRL_PAT l))).1 - 1) := by
  simp [State.patBit, hinv, hp]

theorem patBit_user_periodic (hp : s.rd (R.TST_LANE_CTRL_PAT l) = 5) (k : Nat) :
    s.patBit l (k + s.rd (R.TST_LANE_CTRL_PLEN_M1 l) + 1) = s.patBit l k := by
  simp [State.patBit, hp, Nat.add_assoc]

end

/-- Settles O49: a write of MODE by the cases of `tstWrite`, INJECT by those of `tstInject`, checkers and eye scans by theirs; the
polynomial of a pattern by `prbsState_recurrence`. -/
theorem testLaneCommands : Obligations.TestLaneCommands := by
  intro s l ha
  refine ⟨tstEligible_sensor s, fun u => tstEligible_uplink s u, fun v h => act_of_eq ha (tstWrite_refused h), ?activates, ?off,
    fun h => act_of_eq ha (tstInject_no_generator h), fun h h4 => act_of_eq ha (tstInject_generator h h4), ?looped,
    fun h => act_of_eq ha (tstLock_locked h), fun hc h => act_of_eq ha (tstLock_seeds hc h),
    fun e h => act_of_eq ha (tstLockLoss_unlocked e h), fun e h => ⟨_, act_awake ha _, tstLockLoss_effects e h⟩,
    fun h => act_of_eq ha (eyeGo_refused h), fun hrx heye => act_of_eq ha (eyeGo_starts hrx heye),
    fun e h => act_of_eq ha (eyeEnd_done e h), fun e h => act_of_eq ha (eyeEnd_idle e h), ?bcastNone, ?bcastOne, ?prbs,
    fun k hp => patBit_user_periodic hp k⟩
  case activates =>
    intro v hok hm he hoff
    obtain ⟨hmode, hpat, hrate, hplen, hactive, hlock, hended, hat⟩ := tstActivated_activeWith s l v.toNat
    exact ⟨_, act_of_eq ha (tstWrite_activates hok hm he hoff), hmode, hpat, hrate, hplen, hactive, hlock, hended, hat, by simp⟩
  case off => exact fun v hm hon h6 => ⟨_, act_awake ha _, tstWrite_ends hm hon h6⟩
  case looped => exact fun h4 hlock hnew => ⟨_, act_awake ha _, tstInject_looped_effects h4 hlock hnew⟩
  case bcastNone =>
    intro h
    exact act_of_eq ha (by rw [tstBroadcast_eq, bcastLanes_none h]; rfl)
  case bcastOne =>
    rintro _ h rfl
    exact act_of_eq ha (by rw [tstBroadcast_eq, bcastLanes_one l.isLt h]; rfl)
  case prbs =>
    intro k hinv hp
    obtain ⟨hm, hmn⟩ := prbsTerms_bounds (s.rd (R.TST_LANE_CTRL_PAT l))
    simp only [patBit_prbs hinv hp]
    exact prbsState_recurrence hm hmn k

end Sys2Proof.Machine
end

section
/-! PROOF. What every command and every step keeps (O1 to O4, O6): the consequences of `exec_keeps`. -/

namespace Sys2Proof.Machine

/-- Settles O1: it is how `step` reads the queue. -/
theorem stepRunsFrontCommand : Obligations.StepRunsFrontCommand := fun _ _ _ => rfl

/-! ### The idle cycle -/

theorem step_of_empty {s : State} (h : s.pending = []) : step s = .next (idleCycle s) := by
  simp only [step, h]

theorem idleCycle_asleep {s : State} (h : s.asleep = true) : idleCycle s = s := if_pos h

theorem idleCycle_awake {s : State} (h : s.asleep = false) :
    idleCycle s = { s with chalk := s.chalk.tick s.freqAdj s.slewStep } := if_neg (by simp [h])

theorem Chalk.tick_running {c : Chalk} (h : c.run = true) (adj : Int) (step : Nat) : (c.tick adj step).cycles = c.cycles + 1 := by
  simp only [Chalk.tick, h, if_true]

theorem Chalk.tick_stopped {c : Chalk} (h : c.run = false) (adj : Int) (step : Nat) : c.tick adj step = c :=
  if_neg (by simp [h])

/-- Settles O2: a command by `exec_keeps`, an empty queue by the cases of `idleCycle`. -/
theorem everyCommandCompletes : Obligations.EveryCommandCompletes := by
  refine ⟨fun c s => ?command, fun s => step_of_empty, fun s => idleCycle_asleep, fun s ha => ?cycle⟩
  case command =>
    obtain ⟨t, hexec, hkeeps⟩ := exec_keeps c s
    exact ⟨t, hexec, hkeeps.queue, hkeeps.draws⟩
  case cycle => exact ⟨_, idleCycle_awake ha, fun hrun => Chalk.tick_running hrun .., fun hrun => Chalk.tick_stopped hrun ..⟩

/-! ### Invariants of a step -/

/-- Taking the front command off the queue leaves everything else. -/
theorem State.Sound.dequeue {s : State} (h : s.Sound) (rest : List Instr) : ({ s with pending := rest } : State).Sound :=
  ⟨⟨h.canon.regs, h.canon.cnt, h.canon.snap, h.canon.snapNext, h.canon.mram, h.canon.dram, h.canon.scratch, h.canon.hostload⟩,
    ⟨h.lifecycle.legal, h.lifecycle.burning, h.lifecycle.rollback⟩⟩

/-- A step is one command, or one idle cycle: either way it keeps what `Keeps` says of the state with the front command taken. -/
theorem step_keeps {s t : State} (h : step s = .next t) : ∃ rest, Keeps { s with pending := rest } t := by
  rcases hq : s.pending with _ | ⟨c, rest⟩
  · refine ⟨[], ?_⟩
    rw [step_of_empty hq] at h
    have hs : ({ s with pending := [] } : State) = s := by rw [← hq]
    rw [hs, ← Host.Outcome.next.inj h]
    exact idleCycle_keeps s (Keeps.refl s)
  · obtain ⟨u, hexec, hkeeps⟩ := exec_keeps c { s with pending := rest }
    simp only [step, hq, hexec, Host.Outcome.next.injEq] at h
    exact ⟨rest, h ▸ hkeeps⟩

/-- Settles O3: every step carries the canonical form and the lifecycle on. -/
theorem stepKeepsSound : Obligations.StepKeepsSound := by
  intro s t hs hstep
  obtain ⟨rest, hkeeps⟩ := step_keeps hstep
  have hfront := hs.dequeue rest
  exact ⟨hkeeps.canon hfront.canon, hkeeps.life hfront.lifecycle⟩

/-- Settles O4: every step carries the fuses on. -/
theorem fusesNeverGoBack : Obligations.FusesNeverGoBack := by
  intro s t hs hstep
  obtain ⟨rest, hkeeps⟩ := step_keeps hstep
  have hfront : ({ s with pending := rest } : State).Lifecycle := ⟨hs.legal, hs.burning, hs.rollback⟩
  exact ⟨hkeeps.lc hfront, hkeeps.rollback hfront, hkeeps.life hfront, hkeeps.revoked⟩

/-! ### A block that sleeps -/

theorem act_asleep {s : State} (ha : s.asleep = true) (f : State → State) : act f s = .next s := by
  simp only [act, ha, if_true]

/-- Settles O6: every command outside the always-on island acts through `act`. -/
theorem asleepBlockIsStill : Obligations.AsleepBlockIsStill := by
  intro c s ha hc
  cases c <;> first | exact absurd hc.symm Bool.false_ne_true | (delta exec; exact act_asleep ha _)

end Sys2Proof.Machine
end

section
/-! PROOF. Reads after writes of other registers, the state after reset (O5), memories (O7) and a calm state (O8). -/

namespace Sys2Proof.Machine

/-! ### Reads after writes -/

theorem State.rd_wr_blk (s : State) {f g : Fld} (x : Nat) (h : g.blk ≠ f.blk) : (s.wr f x).rd g = s.rd g :=
  State.rd_wr_other s x (.inl h)

theorem State.rd_wr_lt (s : State) {f : Fld} {x : Nat} (h : x < 2 ^ f.w) : (s.wr f x).rd f = x :=
  (State.rd_wr_same s f x).trans (Nat.mod_eq_of_lt h)

theorem State.flag_eq (s : State) (f : Fld) : s.flag f = (s.rd f != 0) := rfl

theorem State.ctr_inc_key (s : State) {f g : Fld} (k : Nat) (h : g.key ≠ f.key) : (s.inc f k).ctr g = s.ctr g :=
  State.ctr_inc_other s k (.inr h)

/-! ### The state after reset -/

theorem rd_reset (f : Fld) : State.reset.rd f = f.rst := Regs.get_reset f

theorem ctr_reset (f : Fld) : State.reset.ctr f = f.rst := Regs.get_reset f

theorem reset_sound : State.reset.Sound where
  canon := ⟨rfl, rfl, rfl, rfl, rfl, rfl, rfl, rfl⟩
  lifecycle := ⟨Nat.zero_le 3, nofun, nofun⟩

theorem reset_tgEn (g : Nat) : State.reset.tgEn g = false := by
  rw [State.tgEn, State.flag_eq, rd_reset]
  rfl

/-- Settles O5: a field reads its reset value, and every other table is empty. -/
theorem resetState : Obligations.ResetState :=
  ⟨reset_sound, rfl, rfl, rfl, rd_reset _, rd_reset _, rd_reset _, rd_reset _, rfl,
    fun g _ => ⟨rd_reset _, rd_reset _, reset_tgEn g⟩, fun _ _ => ⟨rd_reset _, rd_reset _⟩, fun _ _ => rd_reset _, fun _ => rfl,
    fun _ => rfl, rd_reset, fun f h => (ctr_reset f).trans h⟩

/-! ### Memories -/

theorem memRead_one (m : List Host.Cell) (k : Nat) : memRead m k 1 = [Tab.get 0 m k] := rfl

theorem memRead_memWrite (m : List Host.Cell) (a : Nat) (bs : List Byte) : memRead (memWrite m a bs) a bs.length = bs := by
  refine List.ext_getElem (by simp [memRead]) fun i _ hi => ?_
  simpa [memRead] using memWrite_same a bs hi

theorem memRead_memWrite_other (m : List Host.Cell) (a : Nat) (bs : List Byte) {k : Nat} (h : k < a ∨ a + bs.length ≤ k) :
    memRead (memWrite m a bs) k 1 = memRead m k 1 := by
  rw [memRead_one, memRead_one, memWrite_other a bs h]

theorem Tab.get_head {α : Type} (d : α) (k : Nat) (v : α) (t : Tab α) : Tab.get d ((k, v) :: t) k = v := if_pos rfl

theorem Tab.get_tail {α : Type} (d : α) {k x : Nat} (v : α) (t : Tab α) (h : k ≠ x) : Tab.get d ((k, v) :: t) x = Tab.get d t x :=
  if_neg h

/-- Canonical tables that read alike are equal. -/
theorem Tab.ext_of_wf {α : Type} [DecidableEq α] {d : α} : ∀ {t u : Tab α}, t.wf d = true → u.wf d = true →
    (∀ k, t.get d k = u.get d k) → t = u
  | [], [], _, _, _ => rfl
  | [], (k, v) :: u, _, hu, h => by
    simp only [Tab.wf, Bool.and_eq_true, decide_eq_true_eq] at hu
    exact absurd ((h k).trans (Tab.get_head d k v u)).symm hu.1.2
  | (k, v) :: t, [], ht, _, h => by
    simp only [Tab.wf, Bool.and_eq_true, decide_eq_true_eq] at ht
    exact absurd ((Tab.get_head d k v t).symm.trans (h k)) ht.1.2
  | (k, v) :: t, (j, w) :: u, ht, hu, h => by
    simp only [Tab.wf, Bool.and_eq_true, decide_eq_true_eq] at ht hu
    obtain ⟨⟨htabove, hv⟩, htwf⟩ := ht
    obtain ⟨⟨huabove, hw⟩, huwf⟩ := hu
    have hkj : k = j := by
      rcases Nat.lt_trichotomy k j with hlt | heq | hgt
      · have := h k
        rw [Tab.get_head, Tab.get_tail d w u (Nat.ne_of_gt hlt), Tab.get_of_above (Nat.le_of_lt hlt) huabove] at this
        exact absurd this hv
      · exact heq
      · have := h j
        rw [Tab.get_head, Tab.get_tail d v t (Nat.ne_of_gt hgt), Tab.get_of_above (Nat.le_of_lt hgt) htabove] at this
        exact absurd this.symm hw
    subst hkj
    have hvw : v = w := by simpa only [Tab.get_head] using h k
    have htail : t = u := Tab.ext_of_wf htwf huwf fun x => by
      by_cases hx : k = x
      · subst hx
        rw [Tab.get_of_above (Nat.le_refl k) htabove, Tab.get_of_above (Nat.le_refl k) huabove]
      · simpa only [Tab.get_tail _ _ _ hx] using h x
    rw [hvw, htail]

/-- Settles O7: the laws of `memWrite`, and `Tab.ext_of_wf`. -/
theorem memoryReadsBack : Obligations.MemoryReadsBack :=
  ⟨fun m a bs hm => ⟨memRead_memWrite m a bs, memWrite_wf a bs hm, fun _ h => memRead_memWrite_other m a bs h⟩,
    fun _ _ hm hn h => Tab.ext_of_wf hm hn fun k => by simpa only [memRead_one, List.cons.injEq, and_true] using h k⟩

/-! ### A calm state -/

theorem eyeSweep_of_no_eye {s : State} (h : ∀ x ∈ s.tst, x.2.eye = false) : eyeSweep s = s := by
  have hnone : s.tst.filter (·.2.eye) = [] := List.filter_eq_nil_iff.mpr fun x hx => by simp [h x hx]
  rw [eyeSweep, hnone]
  rfl

theorem settleEvents_of_calm {s : State} (hr : s.raised = []) (ht : s.ruleTaped = []) (he : ∀ x ∈ s.tst, x.2.eye = false) :
    settleEvents s = s := by
  rw [settleEvents, eyeSweep_of_no_eye he]
  exact if_pos ⟨hr, ht⟩

/-- Settles O8: no point is swept, no round collects, nothing resumes. -/
theorem calmStateStays : Obligations.CalmStateStays := by
  intro s hr ht he ha
  simp only [settle, settleRounds, settleEvents_of_calm hr ht he, ha, Bool.false_eq_true, if_false]

end Sys2Proof.Machine
end

section
/-! PROOF. Items of a Hawk queue (O22): a move takes one item out of where it is and puts it in elsewhere, so the items are a
permutation of what they were; a stored word is judged by the number of stored bits that are flipped. -/

namespace Sys2Proof.Machine

/-! ### The choice of a move -/

theorem firstItem_mem : ∀ {l : List HawkItem} {i : HawkItem}, firstItem l = some i → i ∈ l
  | [], _, h => nomatch h
  | x :: t, i, h => by
    rw [firstItem] at h
    split at h
    · simp_all
    · rename_i y hy
      have hmem := firstItem_mem hy
      split at h <;> simp_all

theorem lastItem_mem : ∀ {l : List HawkItem} {i : HawkItem}, lastItem l = some i → i ∈ l
  | [], _, h => nomatch h
  | x :: t, i, h => by
    rw [lastItem] at h
    split at h
    · simp_all
    · rename_i y hy
      have hmem := lastItem_mem hy
      split at h <;> simp_all

/-- A free slot is a slot, and holds no item (R430). -/
theorem freeSlot_spec {h : HawkQ} {k : Nat} (hk : h.freeSlot = some k) : k < h.slots ∧ ∀ x ∈ h.middle, x.1 ≠ k := by
  have hrange := List.mem_of_find?_eq_some hk
  have hfree := List.find?_some hk
  simp only [Bool.not_eq_true', List.any_eq_false, beq_iff_eq] at hfree
  exact ⟨List.mem_range.mp hrange, hfree⟩

/-- What a move can be: into a head with a free entry from the middle or the tail, or from the head or the tail into a free slot of the
middle (R430, R431). -/
theorem move_cases {h : HawkQ} {i : HawkItem} {m : Option Nat} (hm : h.move = some (i, m)) :
    (m = none ∧ h.head.length < 16 ∧ (i ∈ h.tail ∨ i ∈ h.middle.map (·.2))) ∨
      (∃ k, m = some k ∧ h.freeSlot = some k ∧ (i ∈ h.head ∨ i ∈ h.tail)) := by
  unfold HawkQ.move at hm
  dsimp only at hm
  split at hm
  next hroom =>
    split at hm
    next j hj =>
      obtain ⟨rfl, rfl⟩ : j = i ∧ none = m := by simpa using hm
      have hmem := firstItem_mem hj
      simp only [List.mem_append, List.mem_filter] at hmem
      exact .inl ⟨rfl, hroom, hmem.elim (fun h => .inr h.1) (fun h => .inl h.1.1)⟩
    next =>
      split at hm
      next j _ k htl hk =>
        obtain ⟨rfl, rfl⟩ : j = i ∧ some k = m := by simpa using hm
        have hmem : j ∈ h.tail.filter (fun i => !h.flushed i) := htl ▸ List.mem_cons_self
        exact .inr ⟨k, rfl, hk, .inr ((List.mem_filter.mp hmem).1)⟩
      next => exact nomatch hm
  next =>
    have htail {k : Nat} (hk : h.freeSlot = some k) (hm : (h.tail.filter (fun i => !h.flushed i)).head?.map (·, some k) = some (i, m)) :
        ∃ k, m = some k ∧ h.freeSlot = some k ∧ (i ∈ h.head ∨ i ∈ h.tail) := by
      obtain ⟨j, hj, heq⟩ := Option.map_eq_some_iff.mp hm
      obtain ⟨rfl, rfl⟩ : j = i ∧ some k = m := by simpa using heq
      exact ⟨k, rfl, hk, .inr (List.mem_filter.mp (List.mem_of_mem_head? hj)).1⟩
    split at hm
    next l _ k hl _ hk =>
      split at hm
      next =>
        obtain ⟨rfl, rfl⟩ : l = i ∧ some k = m := by simpa using hm
        exact .inr ⟨k, rfl, hk, .inl (List.mem_filter.mp (lastItem_mem hl)).1⟩
      next => exact .inr (htail hk hm)
    next hk _ => exact .inr (htail hk hm)
    next => exact nomatch hm

/-! ### What a move does to the items -/

/-- Taking out an item whose number no other has, and putting it in front, permutes a list. -/
theorem perm_cons_filter_id : ∀ {l : List HawkItem} {i : HawkItem}, (l.map (·.id)).Nodup → i ∈ l →
    (i :: l.filter (·.id != i.id)).Perm l
  | x :: t, i, hnd, hi => by
    simp only [List.map_cons, List.nodup_cons, List.mem_map, not_exists, not_and] at hnd
    obtain ⟨hx, hnd⟩ := hnd
    rcases List.mem_cons.mp hi with rfl | hit
    · have hkeep : t.filter (·.id != i.id) = t := List.filter_eq_self.mpr fun y hy => by simpa using hx y hy
      simp [hkeep]
    · have hne : (x.id != i.id) = true := by simpa using fun h => hx i hit h.symm
      rw [List.filter_cons_of_pos (by simpa using hne)]
      exact (List.Perm.swap x i _).trans ((perm_cons_filter_id hnd hit).cons x)

/-- An item outside a part of the queue has another number than each item of that part. -/
theorem filter_id_self {a b : List HawkItem} {i : HawkItem} (hd : ((a ++ b).map (·.id)).Nodup) (hi : i ∈ b) :
    a.filter (·.id != i.id) = a := by
  rw [List.map_append, List.nodup_append] at hd
  obtain ⟨-, -, hdis⟩ := hd
  exact List.filter_eq_self.mpr fun x hx => by
    simpa using hdis x.id (List.mem_map_of_mem hx) i.id (List.mem_map_of_mem hi)

theorem map_filter_middle (l : List (Nat × HawkItem)) (id : Nat) :
    (l.filter (·.2.id != id)).map (·.2) = (l.map (·.2)).filter (·.id != id) := by
  rw [List.filter_map]
  rfl

section
variable {h : HawkQ} {i : HawkItem} (hnd : (h.items.map (·.id)).Nodup)
include hnd

theorem toHead_perm (hi : i ∈ h.tail ∨ i ∈ h.middle.map (·.2)) : (h.toHead i).items.Perm h.items := by
  have hmem : i ∈ h.tail ++ h.middle.map (·.2) := List.mem_append.mpr hi
  have hhead : h.head.filter (·.id != i.id) = h.head :=
    filter_id_self (b := h.tail ++ h.middle.map (·.2)) (by simpa [HawkQ.items] using hnd) hmem
  have hall : (i :: h.items.filter (·.id != i.id)).Perm h.items :=
    perm_cons_filter_id hnd (by rw [HawkQ.items, List.append_assoc]; exact List.mem_append_right _ hmem)
  refine List.Perm.trans ?_ hall
  simp only [HawkQ.items, HawkQ.toHead, HawkQ.drop, map_filter_middle, List.filter_append, hhead, List.append_assoc]
  exact List.perm_middle

theorem toMiddle_perm (k : Nat) (hi : i ∈ h.head ∨ i ∈ h.tail) : (h.toMiddle k i).items.Perm h.items := by
  have hmem : i ∈ h.head ++ h.tail := List.mem_append.mpr hi
  have hmid : (h.middle.map (·.2)).filter (·.id != i.id) = h.middle.map (·.2) :=
    filter_id_self (b := h.head ++ h.tail) ((List.perm_append_comm.map _).nodup_iff.mp (by simpa [HawkQ.items] using hnd)) hmem
  have hall : (i :: h.items.filter (·.id != i.id)).Perm h.items :=
    perm_cons_filter_id hnd (List.mem_append_left _ hmem)
  refine List.Perm.trans ?_ hall
  simp only [HawkQ.items, HawkQ.toMiddle, HawkQ.drop, List.filter_append, hmid, List.map_cons]
  exact List.perm_middle

end

/-! ### Stored words (R437, R438) -/

theorem protectedWord_ecc_one (v i : Nat) : protectedWord true v [i] = (v, false, decide (i < 39)) := by
  by_cases hi : i < 39 <;> simp [protectedWord, hi]

theorem protectedWord_ecc_two (v : Nat) {i j : Nat} (hi : i < 39) (hj : j < 39) :
    (protectedWord true v [i, j]).2 = (true, false) := by
  simp [protectedWord, hi, hj]

theorem protectedWord_parity_one (v : Nat) {i : Nat} (hi : i < 33) : (protectedWord false v [i]).2 = (true, false) := by
  simp [protectedWord, hi]

/-- Settles O22: the kinds of move by `move_cases`, each a permutation by `toHead_perm` or `toMiddle_perm`. -/
theorem hawkItemRules : Obligations.HawkItemRules := by
  refine ⟨fun h i m hnd hm => ?moves, protectedWord_ecc_one, fun v i j hi hj _ => protectedWord_ecc_two v hi hj,
    fun v i hi => protectedWord_parity_one v hi, protectedWord_intact⟩
  case moves =>
    rcases move_cases hm with ⟨rfl, hroom, hi⟩ | ⟨k, rfl, hk, hi⟩
    · refine ⟨?_, fun _ => ⟨toHead_perm hnd hi, hroom⟩, nofun, fun k => ⟨rfl, rfl, rfl⟩, rfl, rfl, rfl⟩
      rw [HawkQ.items, List.append_assoc]
      exact List.mem_append_right _ (List.mem_append.mpr hi)
    · refine ⟨List.mem_append_left _ (List.mem_append.mpr hi), nofun, ?_, fun k => ⟨rfl, rfl, rfl⟩, rfl, rfl, rfl⟩
      intro _ heq
      obtain rfl := Option.some.inj heq
      exact ⟨toMiddle_perm hnd k hi, freeSlot_spec hk⟩

end Sys2Proof.Machine
end

section
/-! PROOF. What the collector does with an occurrence (O32). An occurrence at S0 or S1 with no entry to send writes its snag and counts;
it raises nothing, so one round of the collector ends the command. -/

namespace Sys2Proof.Machine

/-! ### Severity and level (R460, R475) -/

section
variable (s : State) (e : Nat)

theorem evSev_le : s.evSev e ≤ 4 := by
  unfold State.evSev
  split <;> omega

theorem evLvl_of_clear (h : (s.snag e).latched = false) : s.evLvl e = s.evSev e := by
  simp [State.evLvl, h]

theorem evLvl_of_latched (h : (s.snag e).latched = true) (h0 : s.evSev e ≠ 0) (hn : s.flag (fltNoesc e) = false) :
    s.evLvl e = min ((s.snag e).level + 1) 4 := by
  simp [State.evLvl, h, h0, hn]

theorem evLvl_of_s0 (h : s.evSev e = 0) : s.evLvl e = 0 := by
  simp [State.evLvl, h]

theorem evLvl_of_noesc (h : s.flag (fltNoesc e) = true) (he : e ≠ 1505) : s.evLvl e = s.evSev e := by
  simp [State.evLvl, h, he]

end

/-! ### Entries and actions -/

/-- No entry is sent where no Hawk item is asked for and the level is below FWD_SEV (R467). -/
theorem faultNote_silent {s : State} {lvl ev : Nat} (hev : ev ≠ 0x7FF) (hh : s.flag R.FLT_NOTIFY_HAWK_EN = false)
    (hf : min 4 lvl < s.rd R.FLT_NOTIFY_FWD_SEV) (kind time : Nat) : faultNote kind lvl ev time s = s := by
  simp [faultNote, hev, hh, hawkNote, Nat.not_le.mpr hf]

/-- Nothing is done at S0 and S1 (R459). -/
theorem faultAct_recorded {acted : Nat} (h : acted ≤ 1) (e : Nat) (s : State) : faultAct e acted s = s := by
  match acted, h with
  | 0, _ | 1, _ => cases s.evUnit e <;> rfl

/-- The snag `x` after an occurrence at level `lvl` (R458), where ALIVE stops at `stop`. -/
def Snag.occurred (x : Snag) (lvl time stop : Nat) : Snag :=
  { x with latched := true, level := lvl, time := time, inWindow := false, stops := x.stops || decide (stop ≤ lvl) }

/-- An occurrence at S0 or S1 of an event whose snag is clear, with no entry to send. -/
theorem occur_recorded {s : State} {e : Nat} (he : e ≠ 0x7FF) (hl : (s.snag e).latched = false) (h1 : s.evSev e ≤ 1)
    (hh : s.flag R.FLT_NOTIFY_HAWK_EN = false) (hf : s.evSev e < s.rd R.FLT_NOTIFY_FWD_SEV) (time : Nat) :
    occur e time id s = (s.setSnag e ((s.snag e).occurred (s.evSev e) time s.stopSev)).inc R.FLT_RAISED := by
  have hlow : ¬ (s.evSev e = 2 ∨ s.evSev e = 3) := by omega
  have hsilent (t : State) (hr : t.regs = s.regs) : faultNote 0 (s.evSev e) e time t = t := by
    refine faultNote_silent he ?_ ?_ 0 time
    · rwa [State.flag, hr]
    · rw [State.rd, hr]
      exact Nat.lt_of_le_of_lt (Nat.min_le_right ..) hf
  simp only [occur, evLvl_of_clear s e hl, hlow, and_false, if_false, Nat.lt_irrefl, decide_false, b2n, Bool.false_eq_true, State.when,
    id, hl, faultAct_recorded h1]
  exact hsilent _ rfl

/-! ### A raise -/

/-- The collector takes one raise of an event that is neither suppressed nor live. -/
theorem collect_recorded {s : State} {e : Nat} (he : e < 1536) (hres : evReserved e = false) (hm : s.muted e = false)
    (hsup : s.suppressed e = false) (hlive : (s.snag e).live = false) (hl : (s.snag e).latched = false) (h1 : s.evSev e ≤ 1)
    (hh : s.flag R.FLT_NOTIFY_HAWK_EN = false) (hf : s.evSev e < s.rd R.FLT_NOTIFY_FWD_SEV) (time : Nat) :
    let x := { s.snag e with count := ((s.snag e).count + 1) % 2 ^ 32, live := evLevel e }
    collect e time [] s = ((s.setSnag e x).setSnag e (x.occurred (s.evSev e) time s.stopSev)).inc R.FLT_RAISED := by
  intro x
  have hx : ((s.setSnag e x).snag e) = x := State.snag_set_same s e x
  have hocc := occur_recorded (s := s.setSnag e x) (e := e) (by omega) (by rw [hx]; exact hl) h1 hh hf time
  rw [hx] at hocc
  have hsup' : (s.setSnag e x).suppressed e = false := hsup
  have hsup'' : s.suppressed e = false := hsup
  simp only [collect, hres, hm, hlive, Bool.and_false, Bool.false_eq_true, if_false, hsup'', List.filter_nil, List.foldl_nil,
    Bool.false_or]
  exact hocc

/-- One round ends the command where the collector raises nothing and no answer is awaited. -/
theorem settle_one_round {s : State} (he : ∀ x ∈ s.tst, x.2.eye = false) (hne : s.raised ≠ []) (hr : (collectAll s).raised = [])
    (ht : (collectAll s).ruleTaped = []) (ha : (collectAll s).answered = false) : settle s = collectAll s := by
  have hfirst : ¬ (s.raised = [] ∧ s.ruleTaped = []) := fun h => hne h.1
  have hevents : settleEvents s = collectAll s := by
    rw [settleEvents, eyeSweep_of_no_eye he, collectRounds, if_neg hfirst, collectRounds, if_pos ⟨hr, ht⟩]
  simp only [settle, settleRounds, hevents, ha, Bool.false_eq_true, if_false]

theorem collectAll_one {s : State} {e : Nat} (hr : s.raised = []) (ht : s.ruleTaped = []) (hp : s.rd R.THM_PWR_STAT_STATE < 2)
    (h3 : 3 ≤ s.stage) (h6 : s.stage < 6) : collectAll (s.raise e) = collect e s.now [] s := by
  have hs : ({ s.raise e with raised := [], ruleTaped := [] } : State) = s := by rw [← hr, ← ht]; rfl
  have hpower : ¬ 2 ≤ (s.raise e).rd R.THM_PWR_STAT_STATE := by simpa using hp
  have hstage : ¬ ((s.raise e).stage < 3 ∨ 6 ≤ (s.raise e).stage) := by
    rw [show (s.raise e).stage = s.stage from rfl]
    omega
  have hsort : sortNat (s.raise e).raised = [e] := by rw [State.raise_raised, hr]; rfl
  simp only [collectAll, hpower, hstage, if_false, hsort, hs, List.foldl_cons, List.foldl_nil]
  rw [show (s.raise e).ruleTaped = [] from ht]
  rfl

theorem exec_faultRaise {s : State} (ha : s.asleep = false) (e : Fin 1536) : exec (.faultRaise e) s = .next (settle (s.raise e)) :=
  act_awake ha (·.raise e)

/-- Settles O32: the raise by `collect_recorded`, the levels by the cases of `evLvl`. -/
theorem collectorOccurrence : Obligations.CollectorOccurrence := by
  refine ⟨?occurrence, fun s e => ⟨evLvl_of_clear s e, evLvl_of_latched s e, evLvl_of_s0 s e, evSev_le s e, rfl, evLvl_of_noesc s e⟩⟩
  case occurrence =>
    intro s e ha hr ht htst hans hp h3 h6 hres hm hsup hlive hl h1 hh hf
    have hcoll := (collectAll_one (e := e) hr ht hp h3 h6).trans
      (collect_recorded e.isLt hres hm hsup hlive hl h1 hh hf s.now)
    refine ⟨_, exec_faultRaise ha e, ?_⟩
    rw [settle_one_round (s := s.raise e) (by simp [htst]) (by simp) (by rw [hcoll]; simpa using hr) (by rw [hcoll]; simpa using ht)
      (by rw [hcoll]; exact hans), hcoll]
    refine ⟨by simp [Snag.occurred], fun k hk => ?_, rfl, rfl, rfl, by simpa using hr, rfl, rfl, rfl⟩
    simp [State.snag_set_other _ _ hk]

end Sys2Proof.Machine
end

section
/-! PROOF. Byte strings, and parts of what a memory holds: the facts that the boot journal (O39) and the object records (O55) rest on. -/

namespace Sys2Proof.Machine

/-! ### Numbers and bytes (R14) -/

@[simp] theorem leBytes_length : ∀ n x : Nat, (leBytes n x).length = n
  | 0, _ => rfl
  | n + 1, x => congrArg (· + 1) (leBytes_length n (x / 256))

@[simp] theorem zeros_length (n : Nat) : (zeros n).length = n := List.length_replicate

theorem leNat_cons (b : Byte) (bs : List Byte) : leNat (b :: bs) = b.toNat + 256 * leNat bs := rfl

/-- A number read back from its bytes. -/
theorem leNat_leBytes : ∀ n x : Nat, leNat (leBytes n x) = x % 256 ^ n
  | 0, x => by simp [leBytes, leNat, Nat.mod_one]
  | n + 1, x => by
    rw [leBytes, leNat_cons, leNat_leBytes n, byte, BitVec.toNat_ofNat, show 256 ^ (n + 1) = 256 * 256 ^ n from Nat.pow_succ', Nat.mod_mul]

theorem leNat_replicate_zero : ∀ n : Nat, leNat (List.replicate n 0) = 0
  | 0 => rfl
  | n + 1 => by
    rw [List.replicate_succ, leNat_cons, leNat_replicate_zero n]
    rfl

/-! ### Parts of a string -/

section
variable (a b c : List Byte) {off n : Nat}

theorem slice_append_left (h : off + n ≤ a.length) : slice (a ++ b) off n = slice a off n := by
  rw [slice, slice, List.drop_append_of_le_length (by omega), List.take_append_of_le_length (by rw [List.length_drop]; omega)]

theorem slice_append_right (h : a.length ≤ off) : slice (a ++ b) off n = slice b (off - a.length) n := by
  rw [slice, slice, List.drop_append, List.drop_eq_nil_of_le h, List.nil_append]

/-- The middle part of three. -/
theorem slice_append_mid (ha : a.length = off) (hb : b.length = n) : slice (a ++ b ++ c) off n = b := by
  subst ha hb
  rw [List.append_assoc, slice_append_right _ _ (Nat.le_refl _), Nat.sub_self, slice, List.drop_zero, List.take_left]

theorem slice_all (h : a.length = n) : slice a 0 n = a := by
  rw [slice, List.drop_zero, List.take_of_length_le (Nat.le_of_eq h)]

theorem slice_length (h : off + n ≤ a.length) : (slice a off n).length = n := by
  rw [slice, List.length_take, List.length_drop]
  omega

end

/-! ### Parts of a memory -/

section
variable (m : List Host.Cell) (a : Nat)

@[simp] theorem memRead_length (n : Nat) : (memRead m a n).length = n := by simp [memRead]

theorem memRead_getElem (n : Nat) {i : Nat} (h : i < (memRead m a n).length) : (memRead m a n)[i] = Tab.get 0 m (a + i) := by
  simp [memRead]

theorem slice_memRead {off k n : Nat} (h : off + k ≤ n) : slice (memRead m a n) off k = memRead m (a + off) k := by
  refine List.ext_getElem (by rw [slice_length _ (by simpa using h), memRead_length]) fun i h1 h2 => ?_
  simp only [slice, List.getElem_take, List.getElem_drop, memRead_getElem, Nat.add_assoc]

/-- What a memory holds inside bytes just written. -/
theorem memRead_memWrite_within (bs : List Byte) {off n : Nat} (h : off + n ≤ bs.length) :
    memRead (memWrite m a bs) (a + off) n = slice bs off n := by
  rw [← slice_memRead _ a h, memRead_memWrite]

/-- What a memory holds apart from bytes just written. -/
theorem memRead_memWrite_apart (bs : List Byte) {k n : Nat} (h : k + n ≤ a ∨ a + bs.length ≤ k) :
    memRead (memWrite m a bs) k n = memRead m k n := by
  refine List.ext_getElem (by simp) fun i h1 h2 => ?_
  rw [memRead_getElem, memRead_getElem, memWrite_other a bs]
  rw [memRead_length] at h1
  omega

end

/-! ### CRC-32C fits 32 bits (R88) -/

theorem crcShr_lt {c : Nat} (h : c < 2 ^ 32) : crcShr 0x82F63B78 c < 2 ^ 32 := by
  unfold crcShr
  split
  · exact Nat.xor_lt_two_pow (by omega) (by decide)
  · omega

theorem iter_lt {f : Nat → Nat} {b : Nat} (hf : ∀ c, c < b → f c < b) : ∀ (n c : Nat), c < b → iter f n c < b
  | 0, _, h => h
  | n + 1, c, h => iter_lt hf n (f c) (hf c h)

theorem crc32c_lt (bs : List Byte) : crc32c bs < 2 ^ 32 := by
  have hfold : ∀ (bs : List Byte) (c : Nat), c < 2 ^ 32 →
      bs.foldl (fun c b => iter (crcShr 0x82F63B78) 8 (c ^^^ b.toNat)) c < 2 ^ 32 := by
    intro bs
    induction bs with
    | nil => exact fun c h => h
    | cons b t ih =>
      intro c h
      have hb : b.toNat < 2 ^ 32 := by have := b.isLt; omega
      exact ih _ (iter_lt (fun _ => crcShr_lt) 8 _ (Nat.xor_lt_two_pow h hb))
  exact Nat.xor_lt_two_pow (hfold bs _ (by decide)) (by decide)

end Sys2Proof.Machine
end

section
/-! PROOF. The boot journal (O39): both copies hold the bytes of `State.jnlBytes`, whose header passes the check of R487. -/

namespace Sys2Proof.Machine

/-! ### The bytes of a copy -/

/-- The header of a journal copy before its TCRC (R487). -/
def State.jnlHeader (s : State) : List Byte :=
  leBytes 4 0x4C4E524A ++ leBytes 4 (s.rd R.BOT_SEQ) ++ [byte s.boot.lastSlot, byte s.boot.lastStage] ++
    leBytes 2 (s.rd R.BOT_JNL_NEXT_N) ++ zeros 16

section
variable (s : State) (es : List Byte)

theorem jnlHeader_length : s.jnlHeader.length = 0x1C := by simp [State.jnlHeader]

theorem jnlBytes_eq : s.jnlBytes es = s.jnlHeader ++ leBytes 4 (crc32c (s.jnlHeader ++ es)) ++ es := rfl

theorem jnlBytes_length (h : es.length = 1024) : (s.jnlBytes es).length = 1056 := by
  simp [jnlBytes_eq, jnlHeader_length, h]

theorem jnlBytes_magic : leAt (s.jnlBytes es) 0 4 = 0x4C4E524A := by
  rw [leAt, jnlBytes_eq, List.append_assoc, slice_append_left _ _ (by rw [jnlHeader_length]; decide), State.jnlHeader]
  simp only [List.append_assoc]
  rw [slice_append_left _ _ (by simp [leBytes_length]), slice_all _ (leBytes_length _ _)]
  exact (leNat_leBytes _ _).trans (by decide)

theorem jnlBytes_header : slice (s.jnlBytes es) 0 0x1C = s.jnlHeader := by
  rw [jnlBytes_eq, List.append_assoc, slice_append_left _ _ (by simp [jnlHeader_length]), slice_all _ (jnlHeader_length s)]

theorem jnlBytes_tcrc : leAt (s.jnlBytes es) 0x1C 4 = crc32c (s.jnlHeader ++ es) := by
  rw [leAt, jnlBytes_eq, slice_append_mid _ _ _ (jnlHeader_length s) (leBytes_length _ _), leNat_leBytes]
  exact Nat.mod_eq_of_lt (crc32c_lt _)

/-- Entries, or parts of them, lie from offset 0x20 on. -/
theorem slice_jnlBytes (off n : Nat) : slice (s.jnlBytes es) (0x20 + off) n = slice es off n := by
  have hlen : (s.jnlHeader ++ leBytes 4 (crc32c (s.jnlHeader ++ es))).length = 0x20 := by simp [jnlHeader_length]
  rw [jnlBytes_eq, slice_append_right _ _ (by omega), hlen, Nat.add_sub_cancel_left]

/-- What is written as a copy passes the check of a copy (R487). -/
theorem jnlValid_jnlBytes (h : es.length = 1024) : jnlValid (s.jnlBytes es) = true := by
  have hes : slice (s.jnlBytes es) 0x20 1024 = es := (slice_jnlBytes s es 0 1024).trans (slice_all es h)
  simp [jnlValid, jnlBytes_magic, jnlBytes_tcrc, jnlBytes_header, hes]

end

/-! ### Both copies rewritten (R492) -/

section
variable (es : List Byte) (s : State)

@[simp] theorem jnlRewrite_regs : (jnlRewrite es s).regs = s.regs := rfl

@[simp] theorem jnlRewrite_fuses : (jnlRewrite es s).fuses = s.fuses := rfl

@[simp] theorem jnlRewrite_raised : (jnlRewrite es s).raised = s.raised := rfl

end

section
variable {s : State} (hc : s.boot.copy ≤ 1) (es : List Byte) (h : es.length = 1024)
include hc

theorem jnlRewrite_boot : (jnlRewrite es s).boot = s.boot := by
  have hcopy : 1 - (1 - s.boot.copy) = s.boot.copy := by omega
  simp only [jnlRewrite, jnlStore, hcopy]

theorem jnlRewrite_mram : (jnlRewrite es s).mram =
    memWrite (memWrite s.mram (jnlCopyAddr (1 - s.boot.copy)) (s.jnlBytes es)) (jnlCopyAddr s.boot.copy) (s.jnlBytes es) := by
  have hcopy : 1 - (1 - s.boot.copy) = s.boot.copy := by omega
  simp only [jnlRewrite, jnlStore, hcopy]
  rfl

include h

/-- The two copies lie apart, and each holds what was written. -/
theorem jnlRewrite_copy {c : Nat} (hlt : c ≤ 1) : (jnlRewrite es s).jnlCopy c = s.jnlBytes es := by
  have hlen := jnlBytes_length s es h
  rw [State.jnlCopy, jnlRewrite_mram hc]
  by_cases hcc : c = s.boot.copy
  · subst hcc
    exact hlen ▸ memRead_memWrite _ _ _
  · have hother : c = 1 - s.boot.copy := by omega
    rw [memRead_memWrite_apart _ _ _ (by rw [hlen]; simp only [jnlCopyAddr]; omega), hother]
    exact hlen ▸ memRead_memWrite _ _ _

/-- ENTRY_k is in what was written. -/
theorem jnlRewrite_entry {k : Nat} (hk : k < 256) : (jnlRewrite es s).jnlEntry k = leNat (slice es (4 * k) 4) := by
  have hlen := jnlBytes_length s es h
  rw [State.jnlEntry, jnlRewrite_boot hc, jnlRewrite_mram hc, Nat.add_assoc, memRead_memWrite_within _ _ _ (by omega), slice_jnlBytes]

/-- Above both copies MRAM is as it was. -/
theorem jnlRewrite_above {a : Nat} (ha : 0x1420 ≤ a) : Tab.get 0 (jnlRewrite es s).mram a = Tab.get 0 s.mram a := by
  have hlen := jnlBytes_length s es h
  have habove (c : Nat) (hc : c ≤ 1) : jnlCopyAddr c + (s.jnlBytes es).length ≤ a := by
    rw [hlen, jnlCopyAddr]
    omega
  rw [jnlRewrite_mram hc, memWrite_other _ _ (.inr (habove _ hc)), memWrite_other _ _ (.inr (habove _ (by omega)))]

end

/-- ENTRY_k of the copy in force is part of its entries. -/
theorem jnlEntry_eq (s : State) {k : Nat} (hk : k < 256) : s.jnlEntry k = leNat (slice s.jnlEntries (4 * k) 4) := by
  rw [State.jnlEntries, slice_memRead _ _ (by omega), State.jnlEntry]

/-! ### Forgetting -/

/-- The entries `es` with ENTRY_e 0. -/
def jnlCleared (es : List Byte) (e : Nat) : List Byte := es.take (4 * e) ++ zeros 4 ++ es.drop (4 * e + 4)

section
variable {es : List Byte} (h : es.length = 1024) {e : Nat} (he : e < 256)
include h he

theorem jnlCleared_length : (jnlCleared es e).length = 1024 := by
  simp [jnlCleared, h]
  omega

theorem slice_jnlCleared (k : Nat) :
    slice (jnlCleared es e) (4 * k) 4 = if k = e then zeros 4 else slice es (4 * k) 4 := by
  have htake : (es.take (4 * e)).length = 4 * e := by
    rw [List.length_take]
    omega
  rcases Nat.lt_trichotomy k e with hlt | rfl | hgt
  · rw [if_neg (by omega), jnlCleared, List.append_assoc, slice_append_left _ _ (by omega)]
    simp only [slice, List.drop_take, List.take_take]
    rw [Nat.min_eq_left (by omega)]
  · rw [if_pos rfl, jnlCleared, slice_append_mid _ _ _ htake (zeros_length 4)]
  · have hfront : (es.take (4 * e) ++ zeros 4).length = 4 * e + 4 := by simp [htake]
    rw [if_neg (by omega), jnlCleared, slice_append_right _ _ (by omega), hfront, slice, List.drop_drop, slice]
    rw [show 4 * e + 4 + (4 * k - (4 * e + 4)) = 4 * k by omega]

end

/-! ### The latched record (R496) -/

/-- The register at BOT_JNL_REC0. -/
def jnlRec0 : Found := ⟨⟨.BOT_JNL_REC, 0x40, [(0x4, 8)], 0, [⟨0, 32, .ro, 0⟩]⟩, .bot, 0x40, [0]⟩

theorem findReg_jnlRec0 : findReg .bot 0x40 = some jnlRec0 := by decide +kernel

/-- With no register frozen, a read of REC0 answers and latches the record at IDX. -/
theorem readServe_jnlRec0 {s : State} (h : s.io.frozen = []) (p : Path) :
    readServe 0x7800040 p s =
      { s with boot := { s.boot with recLatch := some (s.jnlRec (s.rd R.BOT_JNL_IDX_N)) } }.answer p 0
        (leAt (s.jnlRec (s.rd R.BOT_JNL_IDX_N)) 0 4) := by
  have hdec : decodeAddr 0x7800040 = .reg .bot 0x40 := by decide
  simp only [readServe, hdec, findReg_jnlRec0]
  simp only [jnlRec0, regFetch, h, Tab.get, regWord, State.hidden, freezes, freezeAt, jnlRead, Found.i]
  rfl

section
variable {s : State} (ha : s.asleep = false)
include ha

theorem exec_journalForget : exec .journalForget s = .next (settle (jnlRewrite (zeros 1024) s)) := act_awake ha _

theorem exec_forgetUnit (e : Fin 256) : exec (.forgetUnit e) s = .next (settle (jnlRewrite (jnlCleared s.jnlEntries e) s)) :=
  act_awake ha (forgetUnit e)

theorem exec_jnlRecordRead (p : Path) : exec (.jnlRecordRead p) s = .next (settle (regRead 0x7800040 p s)) := act_awake ha _

end

/-- Settles O39: both copies are rewritten (`jnlRewrite_copy`), with entries of 0 or with one of them cleared. -/
theorem journalCommands : Obligations.JournalCommands := by
  intro s ha hc
  refine ⟨⟨_, exec_journalForget ha, ?forget⟩, fun e => ⟨_, exec_forgetUnit ha e, ?unit⟩, fun p h0 hf => ?read, fun p h0 => ?refused⟩
  case forget =>
    have hz : (zeros 1024).length = 1024 := zeros_length _
    refine ⟨?_, ?_, fun e he => ?_, jnlRewrite_regs .., jnlRewrite_fuses .., jnlRewrite_raised .., fun a => jnlRewrite_above hc _ hz⟩
    · rw [jnlRewrite_copy hc _ hz (Nat.zero_le 1)]
      exact jnlValid_jnlBytes s _ hz
    · rw [jnlRewrite_copy hc _ hz (Nat.le_refl 1)]
      exact jnlValid_jnlBytes s _ hz
    · rw [jnlRewrite_entry hc _ hz he, slice, zeros, List.drop_replicate, List.take_replicate, leNat_replicate_zero]
  case unit =>
    have hes : s.jnlEntries.length = 1024 := memRead_length ..
    have hlen := jnlCleared_length hes e.isLt
    refine ⟨fun k hk => ?_, jnlRewrite_regs .., jnlRewrite_raised .., fun a => jnlRewrite_above hc _ hlen⟩
    rw [jnlRewrite_entry hc _ hlen hk, slice_jnlCleared hes e.isLt, jnlEntry_eq s hk]
    split <;> rfl
  case read =>
    rw [exec_jnlRecordRead ha, regRead, if_neg (by simpa using h0), readServe_jnlRec0 hf]
  case refused => rw [exec_jnlRecordRead ha, regRead, if_pos h0]

end Sys2Proof.Machine
end

section
/-! PROOF. The arithmetic of Render, Seam and Skim (O50). -/

namespace Sys2Proof.Machine

/-! ### Limits -/

theorem clampI_eq {lo hi : Int} (h : lo ≤ hi) (x : Int) : clampI lo hi x = max lo (min hi x) := by
  unfold clampI
  split
  · omega
  · split <;> omega

theorem clampI_bounds {lo hi : Int} (h : lo ≤ hi) (x : Int) : lo ≤ clampI lo hi x ∧ clampI lo hi x ≤ hi := by
  rw [clampI_eq h]
  omega

theorem b2n_eq_one {b : Bool} : b2n b = 1 ↔ b = true := by cases b <;> decide

theorem b2n_eq_zero {b : Bool} : b2n b = 0 ↔ b = false := by cases b <;> decide

/-! ### Render (R136, R137, R144) -/

theorem darkStep_spec (d x : Nat) (delta : Int) :
    (darkStep d delta x).1 = x - (max 0 (min 65535 ((d : Int) + delta))).toNat ∧
      ((darkStep d delta x).2 = 1 ↔ x < (max 0 (min 65535 ((d : Int) + delta))).toNat) := by
  rw [darkStep, clampI_eq (by decide)]
  exact ⟨rfl, b2n_eq_one.trans decide_eq_true_iff⟩

/-- The weights of every phase sum to 2^31: their powers of the phase cancel. -/
theorem cubicWeights_sum (f : Nat) : (cubicWeights f).sum = 2 ^ 31 := by
  simp only [cubicWeights, List.sum_cons, List.sum_nil]
  grind

theorem clampOut_spec (v : Int) : (clampOut v).1 ≤ 65535 ∧ ((clampOut v).2 = 0 ↔ 0 ≤ v ∧ v ≤ 65535) := by
  have hb := clampI_bounds (lo := 0) (hi := 65535) (by decide) v
  refine ⟨?_, b2n_eq_zero.trans (decide_eq_false_iff_not.trans ?_)⟩
  · rw [clampOut]
    omega
  · omega

/-! ### Seam (R215) -/

/-- Inside the overlap the right member's weight is at most 1. -/
theorem crossWeight_le {k n : Nat} (h : k < n) : crossWeight k n ≤ 2 ^ 16 := by
  rw [crossWeight]
  refine Nat.div_le_of_le_mul ?_
  exact Nat.mul_le_mul_right _ (by omega)

/-- A weighted mean, rounded to nearest, lies between its two values. -/
theorem crossfade_between {w x y : Nat} (hw : w ≤ 2 ^ 16) :
    min x y ≤ ((2 ^ 16 - w) * x + w * y + 2 ^ 15) / 2 ^ 16 ∧ ((2 ^ 16 - w) * x + w * y + 2 ^ 15) / 2 ^ 16 ≤ max x y := by
  have hlow : 2 ^ 16 * min x y ≤ (2 ^ 16 - w) * x + w * y :=
    calc 2 ^ 16 * min x y = (2 ^ 16 - w) * min x y + w * min x y := by rw [← Nat.add_mul, Nat.sub_add_cancel hw]
      _ ≤ (2 ^ 16 - w) * x + w * y :=
        Nat.add_le_add (Nat.mul_le_mul_left _ (Nat.min_le_left ..)) (Nat.mul_le_mul_left _ (Nat.min_le_right ..))
  have hhigh : (2 ^ 16 - w) * x + w * y ≤ 2 ^ 16 * max x y :=
    calc (2 ^ 16 - w) * x + w * y ≤ (2 ^ 16 - w) * max x y + w * max x y :=
        Nat.add_le_add (Nat.mul_le_mul_left _ (Nat.le_max_left ..)) (Nat.mul_le_mul_left _ (Nat.le_max_right ..))
      _ = 2 ^ 16 * max x y := by rw [← Nat.add_mul, Nat.sub_add_cancel hw]
  omega

theorem overlapValue_between {m : MembGeom} {a b c x y z : Nat} (hm : m.mode = 0) (hac : a ≤ c) (hcb : c ≤ b)
    (hz : overlapValue m a b c (some x) (some y) = some z) : min x y ≤ z ∧ z ≤ max x y := by
  rw [overlapValue, hm] at hz
  obtain rfl := Option.some.inj hz
  exact crossfade_between (crossWeight_le (by omega))

/-! ### Skim (R178) -/

/-- A gain in range moves by at most the clamp, and stays in range. -/
theorem gainMove_bounds {g : Nat} (h1 : 1 ≤ g) (hg : g ≤ 65535) (gt n k : Nat) :
    1 ≤ (gainMove g gt n k 10).1 ∧ (gainMove g gt n k 10).1 ≤ 65535 ∧
      (gainMove g gt n k 10).1 ≤ g + max 1 (g / 1024) ∧ g ≤ (gainMove g gt n k 10).1 + max 1 (g / 1024) := by
  simp only [gainMove]
  generalize floorDiv _ _ = d
  have hc := clampI_bounds (lo := -((max 1 (g / 2 ^ 10) : Nat) : Int)) (hi := (max 1 (g / 2 ^ 10) : Nat)) (by omega) d
  generalize clampI _ _ d = c at hc ⊢
  rw [clampI_eq (by decide)]
  omega

/-- Settles O50. -/
theorem pixelArithmetic : Obligations.PixelArithmetic :=
  ⟨darkStep_spec, fun _ _ => rfl, by decide, by decide, cubicWeights_sum, clampOut_spec,
    fun _ _ _ _ _ _ _ => overlapValue_between, fun _ gt n k h1 hg => gainMove_bounds h1 hg gt n k⟩

end Sys2Proof.Machine
end

section
/-! PROOF. Morphology, runs and object records (O55). -/

namespace Sys2Proof.Machine

/-! ### Masks (R231) -/

theorem maskAt_natCast (m : List Bool) (c : Nat) : maskAt m c = m.getD c false := by
  simp [maskAt]

/-- Column `c` of a row that an operator has gone over: a valid pixel, and some or every pixel around it. -/
theorem maskAt_morphRow (dilate : Bool) (up mid dn valid : List Bool) (c : Nat) :
    maskAt (morphRow dilate up mid dn valid) c =
      (maskAt valid c &&
        (let hood := [up, mid, dn].map (fun m => [maskAt m ((c : Int) - 1), maskAt m c, maskAt m (c + 1)])
         if dilate then hood.any (·.any id) else hood.all (·.all id))) := by
  rw [maskAt_natCast, maskAt_natCast valid, morphRow]
  simp only [List.getD_eq_getElem?_getD, List.getElem?_map, List.getElem?_zipIdx, Nat.zero_add]
  cases valid[c]? <;> rfl

theorem erode_subset (up mid dn valid : List Bool) (c : Nat) (h : maskAt (morphRow false up mid dn valid) c = true) :
    maskAt mid c = true ∧ maskAt valid c = true := by
  rw [maskAt_morphRow] at h
  simp only [Bool.and_eq_true, List.map_cons, List.map_nil, List.all_cons, List.all_nil, Bool.false_eq_true, if_false, id] at h
  exact ⟨h.2.2.1.2.1, h.1⟩

theorem subset_dilate (up mid dn valid : List Bool) (c : Nat) (hm : maskAt mid c = true) (hv : maskAt valid c = true) :
    maskAt (morphRow true up mid dn valid) c = true := by
  rw [maskAt_morphRow]
  simp [hm, hv]

/-! ### Runs (R234) -/

/-- The columns of the runs found from column `c` on: the foreground columns from there on, and those of the run already open. -/
theorem mem_runsOf (k : Nat) : ∀ (t : List Bool) (c : Nat) (st : Option Nat), (∀ a, st = some a → a < c) →
    ((∃ r ∈ runsOf t c st, r.1 ≤ k ∧ k ≤ r.2) ↔ (c ≤ k ∧ t.getD (k - c) false = true) ∨ ∃ a, st = some a ∧ a ≤ k ∧ k < c)
  | [], c, none, _ => by simp [runsOf]
  | [], c, some a, h => by
    have := h a rfl
    simp only [runsOf, List.mem_singleton, exists_eq_left, List.getD_nil, Bool.false_eq_true, and_false, false_or, Option.some.injEq,
      exists_eq_left']
    omega
  | true :: t, c, st, h => by
    have hopen : ∀ a, some (st.getD c) = some a → a < c + 1 := by
      intro a ha
      cases st with
      | none => simp at ha; omega
      | some b => have := h b rfl; simp at ha; omega
    rw [runsOf, mem_runsOf k t (c + 1) _ hopen]
    rcases Nat.lt_trichotomy k c with hk | rfl | hk
    · have h1 : ¬ c + 1 ≤ k := by omega
      have h2 : ¬ c ≤ k := by omega
      cases st with
      | none => simp; omega
      | some b => simp [h1, h2, hk, Nat.lt_succ_of_lt hk]
    · cases st with
      | none => simp
      | some b => have := h b rfl; simp; omega
    · have h1 : k - c = k - (c + 1) + 1 := by omega
      have h2 : c ≤ k := by omega
      have h3 : c + 1 ≤ k := hk
      simp [h1, h2, h3, Nat.not_lt.mpr h2, Nat.not_lt.mpr h3]
  | false :: t, c, none, h => by
    rw [runsOf, mem_runsOf k t (c + 1) none nofun]
    rcases Nat.lt_or_ge c k with hk | hk
    · have h1 : k - c = k - (c + 1) + 1 := by omega
      have h2 : c ≤ k := by omega
      have h3 : c + 1 ≤ k := hk
      simp [h1, h2, h3]
    · have h1 : k - c = 0 := by omega
      have h3 : ¬ c + 1 ≤ k := by omega
      simp [h1, h3]
  | false :: t, c, some a, h => by
    have ha := h a rfl
    simp only [runsOf, List.mem_cons, exists_eq_or_imp, mem_runsOf k t (c + 1) none nofun]
    rcases Nat.lt_or_ge c k with hk | hk
    · have h1 : k - c = k - (c + 1) + 1 := by omega
      have h2 : c ≤ k := by omega
      have h3 : c + 1 ≤ k := hk
      have h4 : ¬ k ≤ c - 1 := by omega
      simp [h1, h2, h3, h4, Nat.not_lt.mpr h2]
    · have h1 : k - c = 0 := by omega
      have h3 : ¬ c + 1 ≤ k := by omega
      simp [h1, h3]
      omega

/-- Column `c` of a run that is open is foreground of the row `f` from its first column on, and background just before it. -/
def RunOpen (f : Nat → Bool) (c : Nat) : Option Nat → Prop
  | none => c = 0 ∨ f (c - 1) = false
  | some a => a < c ∧ (a = 0 ∨ f (a - 1) = false)

/-- Every run found is maximal: background, or the row's edge, lies at both its ends. -/
theorem runsOf_maximal (f : Nat → Bool) : ∀ (t : List Bool) (c : Nat) (st : Option Nat), (∀ i, t.getD i false = f (c + i)) →
    RunOpen f c st → ∀ r ∈ runsOf t c st, r.1 ≤ r.2 ∧ (r.1 = 0 ∨ f (r.1 - 1) = false) ∧ f (r.2 + 1) = false
  | [], c, none, _, _ => by simp [runsOf]
  | [], c, some a, hf, ⟨hac, ha⟩ => by
    have hc : f c = false := (hf 0).symm
    have : c - 1 + 1 = c := by omega
    simp only [runsOf, List.mem_singleton, forall_eq]
    exact ⟨by omega, ha, by rwa [this]⟩
  | x :: t, c, st, hf, hst => by
    have hx : x = f c := hf 0
    have htail : ∀ i, t.getD i false = f (c + 1 + i) := fun i => by simpa [Nat.add_assoc, Nat.add_comm 1] using hf (i + 1)
    match x, st, hst with
    | true, none, hst => exact runsOf_maximal f t (c + 1) (some c) htail ⟨Nat.lt_succ_self c, hst⟩
    | true, some a, ⟨hac, ha⟩ => exact runsOf_maximal f t (c + 1) (some a) htail ⟨Nat.lt_succ_of_lt hac, ha⟩
    | false, none, _ => exact runsOf_maximal f t (c + 1) none htail (.inr hx.symm)
    | false, some a, ⟨hac, ha⟩ =>
      have : c - 1 + 1 = c := by omega
      simp only [runsOf, List.mem_cons, forall_eq_or_imp]
      exact ⟨⟨by omega, ha, by rw [this]; exact hx.symm⟩, runsOf_maximal f t (c + 1) none htail (.inr hx.symm)⟩

theorem maskAt_iff_run (m : List Bool) (c : Nat) : maskAt m c = true ↔ ∃ r ∈ runsOf m 0 none, r.1 ≤ c ∧ c ≤ r.2 := by
  rw [mem_runsOf c m 0 none nofun, maskAt_natCast]
  simp

theorem run_maximal (m : List Bool) (r : Nat × Nat) (hr : r ∈ runsOf m 0 none) :
    r.1 ≤ r.2 ∧ maskAt m ((r.1 : Int) - 1) = false ∧ maskAt m (r.2 + 1) = false := by
  obtain ⟨hle, hleft, hright⟩ := runsOf_maximal (fun c => m.getD c false) m 0 none (fun i => by rw [Nat.zero_add]) (.inl rfl) r hr
  refine ⟨hle, ?_, (maskAt_natCast m (r.2 + 1)).trans hright⟩
  by_cases h0 : r.1 = 0
  · simp [h0, maskAt]
  · have hcast : ((r.1 : Int) - 1) = ((r.1 - 1 : Nat) : Int) := by omega
    rw [hcast, maskAt_natCast]
    exact hleft.resolve_left h0

/-! ### The record that Stencil fills (R242, R244) -/

theorem flatten_map_length {α : Type} {f : α → List Byte} {n : Nat} (hf : ∀ x, (f x).length = n) (l : List α) :
    ((l.map f).flatten).length = n * l.length := by
  induction l with
  | nil => rfl
  | cons x l ih => rw [List.map_cons, List.flatten_cons, List.length_append, hf, ih, List.length_cons, Nat.mul_succ, Nat.add_comm]

/-- The part of a string that stands at its front. -/
theorem slice_append_front {a b : List Byte} {n : Nat} (h : a.length = n) : slice (a ++ b) 0 n = a := by
  rw [slice_append_left _ _ (by omega), slice_all _ h]

section
variable (e : Ended) (g id excess : Nat) (hs : e.acc.sums.length = 4) (hh : e.acc.hist.length = 16)
include hs hh

theorem record_length : (e.record g id excess).length = 256 := by
  have hsums := flatten_map_length (f := fun q : Nat × Nat => leBytes 8 q.1 ++ leBytes 8 q.2) (n := 16) (by simp) e.acc.sums
  have hhist := flatten_map_length (f := leBytes 4) (leBytes_length 4) e.acc.hist
  unfold Ended.record
  simp only [List.length_append, leBytes_length, zeros_length, hsums, hhist, hs, hh, List.length_cons, List.length_nil]

/-- The fields of the record that R244 fixes. -/
theorem record_fields : leAt (e.record g id excess) 0 1 = 1 ∧ leAt (e.record g id excess) 8 8 = id % 2 ^ 64 ∧
    leAt (e.record g id excess) 0xC0 1 = 0 ∧ leAt (e.record g id excess) 0xCC 1 = 0xFF ∧
    leAt (e.record g id excess) 0x30 4 = e.acc.area % 2 ^ 32 ∧ leAt (e.record g id excess) 0xF0 8 = e.prev % 2 ^ 64 := by
  have hsums := flatten_map_length (f := fun q : Nat × Nat => leBytes 8 q.1 ++ leBytes 8 q.2) (n := 16) (by simp) e.acc.sums
  have hhist := flatten_map_length (f := leBytes 4) (leBytes_length 4) e.acc.hist
  rw [hs] at hsums
  rw [hh] at hhist
  unfold Ended.record
  refine ⟨?_, ?_, ?_, ?_, ?_, ?_⟩
  all_goals
    simp (disch := simp only [List.length_cons, List.length_nil, leBytes_length, zeros_length, hsums, hhist, Nat.reduceAdd, Nat.reduceMul,
      Nat.reduceLeDiff]) only [leAt, List.append_assoc, slice_append_right, slice_append_front, List.length_cons, List.length_nil,
      leBytes_length, zeros_length, hsums, hhist, Nat.reduceAdd, Nat.reduceMul, Nat.reduceSub, leNat_leBytes] <;> rfl

end

/-! ### The fields that Plumb fills (R255 to R260) -/

/-- The record `b` differs from the record `a` in Plumb's own fields alone, those from 0xC0 to 0xEF (R244). -/
def PlumbOnly (a b : List Byte) : Prop := b.length = a.length ∧ b.take 0xC0 = a.take 0xC0 ∧ b.drop 0xF0 = a.drop 0xF0

theorem PlumbOnly.refl (a : List Byte) : PlumbOnly a a := ⟨rfl, rfl, rfl⟩

/-- A patch inside Plumb's fields. -/
theorem PlumbOnly.patched {a b : List Byte} (h : PlumbOnly a b) (ha : a.length = 256) {off : Nat} (bs : List Byte) (hlo : 0xC0 ≤ off)
    (hhi : off + bs.length ≤ 0xF0) : PlumbOnly a (patch b off bs) := by
  obtain ⟨hlen, htake, hdrop⟩ := h
  have hfront : (b.take off).length = off := by rw [List.length_take]; omega
  have hleft : (b.take off ++ bs).length = off + bs.length := by rw [List.length_append, hfront]
  refine ⟨?_, ?_, ?_⟩
  · simp only [patch, List.length_append, hfront, List.length_drop]
    omega
  · rw [patch, List.append_assoc, List.take_append_of_le_length (by omega), List.take_take, Nat.min_eq_left hlo, htake]
  · rw [patch, List.drop_append, List.drop_eq_nil_of_le (by omega), List.nil_append, hleft, List.drop_drop, ← hdrop]
    congr 1
    omega

section
variable {a b : List Byte} (h : PlumbOnly a b) (ha : a.length = 256)
include h ha

theorem PlumbOnly.predicted (vz vx tEj xEj : Int) : PlumbOnly a (predict b vz vx tEj xEj) := by
  refine ((h.patched ha _ ?_ ?_).patched ha _ ?_ ?_).patched ha _ ?_ ?_ <;> simp

/-- The fields that every tracked record has: its own state first, and its tracker. -/
theorem PlumbOnly.tracked (head : List Byte) (t : Nat) (hh : head.length ≤ 3) :
    PlumbOnly a (patch (patch b 0xC0 head) 0xCC [byte t]) :=
  (h.patched ha head (Nat.le_refl _) (by omega)).patched ha [byte t] (by decide) (by simp)

end

section
variable (t : Nat) (r : ObjRec) (tc : Nat) (x : Int) (s : State) (h : r.data.length = 256)
include h

theorem plumbPending_only : PlumbOnly r.data (plumbPending t r tc x s).1 := by
  unfold plumbPending
  dsimp only
  exact ((PlumbOnly.refl _).tracked h [1] t (by simp)).predicted h _ _ _ _

theorem plumbUnmatched_only : PlumbOnly r.data (plumbUnmatched t r tc x s).1 := by
  unfold plumbUnmatched
  dsimp only
  exact ((PlumbOnly.refl _).tracked h [3] t (by simp)).predicted h _ _ _ _

theorem plumbMatched_only (c : Nat) (e : Assoc) (ambig : Bool) : PlumbOnly r.data (plumbMatched t r tc x c e ambig s).1 := by
  unfold plumbMatched
  dsimp only
  exact ((((PlumbOnly.refl _).tracked h _ t (by simp)).patched h _ (by simp) (by simp)).patched h _ (by simp) (by simp)).predicted h _ _ _ _

theorem plumbLower_only : PlumbOnly r.data (plumbLower t r tc x s).1 := by
  unfold plumbLower
  dsimp only
  split
  · exact plumbUnmatched_only t r tc x _ h
  · exact plumbMatched_only t r tc x _ h ..

end

theorem plumbLink_only {a rec : List Byte} (h : PlumbOnly a rec) (ha : a.length = 256) (t : Nat) (lower : Bool) (n tc : Nat) (x : Int)
    (s : State) : PlumbOnly a (plumbLink t lower n rec tc x s).1 := by
  unfold plumbLink
  dsimp only
  split
  · exact h
  · split
    · exact h
    · split
      · refine ((h.patched ha _ ?_ ?_).patched ha _ ?_ ?_).patched ha _ ?_ ?_ <;> simp
      · exact h.patched ha _ (by simp) (by simp)

/-- What a tracker makes of a record: Plumb's fields, then the link's (R252, R260). -/
theorem plumbTrack_only (s : State) (t : Nat) (r : ObjRec) (h : r.data.length = 256) : PlumbOnly r.data (plumbTrack t r s).1 := by
  unfold plumbTrack
  dsimp only
  generalize (if (r.group != s.plbUpper t) = true then s else plumbSwitch t r.last s) = s0
  split
  · exact PlumbOnly.refl _
  · refine plumbLink_only ?_ h ..
    split
    · exact plumbLower_only _ _ _ _ _ h
    · exact plumbPending_only _ _ _ _ _ h

/-- Settles O55. -/
theorem stencilMasksAndRecords : Obligations.StencilMasksAndRecords :=
  ⟨⟨erode_subset, subset_dilate, maskAt_iff_run, run_maximal⟩,
    fun e g id excess hs hh => ⟨record_length e g id excess hs hh, record_fields e g id excess hs hh⟩,
    fun s t r h => (plumbTrack_only s t r h).imp_left (·.trans h)⟩

end Sys2Proof.Machine
end

section
/-! PROOF. Snapshots and the frequency monitor (O9). -/

namespace Sys2Proof.Machine

/-! ### Snapshots (R39, R40) -/

section
variable {s : State} (ha : s.asleep = false)
include ha

theorem exec_snapshotReq : exec .snapshotReq s = .next (settle (snapshotAsk s)) := act_awake ha _

theorem exec_snapshotPeriodExpiry :
    exec .snapshotPeriodExpiry s = .next (settle (if s.rd R.GLB_SNAP_CTRL_PERIOD = 0 then s else snapshotPeriod s)) :=
  act_awake ha (fun s => if s.rd R.GLB_SNAP_CTRL_PERIOD = 0 then s else snapshotPeriod s)

theorem exec_snapshotComplete : exec .snapshotComplete s = .next (settle (snapshotDone s)) := act_awake ha _

theorem exec_clockMonitorCheck (core mem up mgmt : Bool) :
    exec (.clockMonitorCheck core mem up mgmt) s = .next (settle (clockCheck core mem up mgmt s)) := act_awake ha _

end

section
variable {s : State}

theorem snapshotPeriod_held (h : s.flag R.GLB_SNAP_CTRL_HOLD = true) : snapshotPeriod s = s := by
  simp [snapshotPeriod, h]

theorem snapshotPeriod_asks (h : s.flag R.GLB_SNAP_CTRL_HOLD = false) : snapshotPeriod s = snapshotAsk s := by
  simp [snapshotPeriod, h]

theorem snapshotDone_idle (h : s.flag R.GLB_SNAPSHOT_BUSY = false) : snapshotDone s = s := by
  simp [snapshotDone, h]

theorem snapshotDone_busy (h : s.flag R.GLB_SNAPSHOT_BUSY = true) :
    snapshotDone s = (((({ s with snap := s.snapNext } : State).wr R.GLB_SNAPSHOT_BUSY 0).wr R.GLB_SNAPSHOT_SEQ
      (s.rd R.GLB_SNAPSHOT_SEQ + 1)).wr R.GLB_SNAPSHOT_VALID 1).wr R.GLB_IRQ_STAT_SNAP 1 := if_pos h

/-- The end of a snapshot: its copies are readable, counters run on. -/
theorem snapshotDone_effects (h : s.flag R.GLB_SNAPSHOT_BUSY = true) :
    (snapshotDone s).snap = s.snapNext ∧ (snapshotDone s).cnt = s.cnt ∧ (snapshotDone s).rd R.GLB_SNAPSHOT_BUSY = 0 ∧
      (snapshotDone s).rd R.GLB_SNAPSHOT_VALID = 1 ∧ (snapshotDone s).rd R.GLB_IRQ_STAT_SNAP = 1 ∧
      (snapshotDone s).rd R.GLB_SNAPSHOT_SEQ = (s.rd R.GLB_SNAPSHOT_SEQ + 1) % 2 ^ 8 := by
  rw [snapshotDone_busy h]
  simp (disch := decide) only [State.rd_wr_key, State.rd_wr_same]
  exact ⟨rfl, rfl, rfl, rfl, rfl, rfl⟩

end

/-! ### Level conditions (R457) -/

/-- A condition whose source is not live rises. -/
theorem judge_rises {s : State} {e : Nat} (hl : (s.snag e).live = false) (he : s.boot.early = []) : judge e true s = s.raise e := by
  simp [judge, hl, he]

/-- A condition that is live, or that waits for the collector, does not rise again. -/
theorem judge_present (s : State) (e : Nat) :
    judge e true s = if (s.snag e).live || s.boot.early.any (·.1 == e) then s else s.raise e := rfl

theorem clockCheck_all_bad {s : State} (hl : ∀ e ∈ [1520, 1521, 1522, 1523], (s.snag e).live = false) (he : s.boot.early = []) :
    clockCheck true true true true s = (((s.raise 1520).raise 1521).raise 1522).raise 1523 := by
  have h (e : Nat) (hm : e ∈ [1520, 1521, 1522, 1523]) (t : State) (ht : t.snags = s.snags) (hb : t.boot = s.boot) :
      judge e true t = t.raise e := by
    refine judge_rises ?_ (hb ▸ he)
    rw [State.snag, ht]
    exact hl e hm
  rw [clockCheck, h 1520 (by simp) s rfl rfl, h 1521 (by simp) (s.raise 1520) rfl rfl,
    h 1522 (by simp) ((s.raise 1520).raise 1521) rfl rfl, h 1523 (by simp) (((s.raise 1520).raise 1521).raise 1522) rfl rfl]

/-- Settles O9. -/
theorem snapshotCommands : Obligations.SnapshotCommands := by
  intro s ha
  simp only [exec_snapshotReq ha, exec_snapshotPeriodExpiry ha, exec_snapshotComplete ha, exec_clockMonitorCheck ha]
  refine ⟨rfl, fun hp hh => ⟨_, ?period, rfl⟩, fun hh => ?held, fun hp => by rw [if_pos hp], fun hb => ⟨_, rfl, snapshotDone_effects hb⟩,
    fun hb => by rw [snapshotDone_idle hb], fun _ _ _ _ => rfl, fun hl he => by rw [clockCheck_all_bad hl he]⟩
  case period => rw [if_neg hp, snapshotPeriod_asks hh]
  case held => rw [snapshotPeriod_held hh, ite_self]

end Sys2Proof.Machine
end

section
/-! PROOF. Messages of the back channel: relayed head commands (O18) and the identity challenge (O19). -/

namespace Sys2Proof.Machine

/-! ### Sending and receiving a message -/

section
variable (n : Nat) (m : Msg) (s : State)

@[simp] theorem bcPick_regs : (bcPick n s).regs = s.regs := by unfold bcPick; dsimp only; split <;> rfl
@[simp] theorem bcPick_cnt : (bcPick n s).cnt = s.cnt := by unfold bcPick; dsimp only; split <;> rfl
@[simp] theorem bcPick_raised : (bcPick n s).raised = s.raised := by unfold bcPick; dsimp only; split <;> rfl
@[simp] theorem bcPick_draws : (bcPick n s).draws = s.draws := by unfold bcPick; dsimp only; split <;> rfl

theorem bcPick_port : ((bcPick n s).port n).cmdTag = (s.port n).cmdTag ∧ ((bcPick n s).port n).nonce = (s.port n).nonce := by
  unfold bcPick
  dsimp only
  split
  · split <;> simp
  · exact ⟨rfl, rfl⟩

@[simp] theorem bcSend_regs : (bcSend n m s).regs = s.regs := bcPick_regs ..
@[simp] theorem bcSend_cnt : (bcSend n m s).cnt = s.cnt := bcPick_cnt ..
@[simp] theorem bcSend_raised : (bcSend n m s).raised = s.raised := bcPick_raised ..
@[simp] theorem bcSend_draws : (bcSend n m s).draws = s.draws := bcPick_draws ..

@[simp] theorem bcSend_cmdTag : ((bcSend n m s).port n).cmdTag = (s.port n).cmdTag := by
  rw [bcSend, (bcPick_port n _).1, State.port_set_same]

@[simp] theorem bcSend_nonce : ((bcSend n m s).port n).nonce = (s.port n).nonce := by
  rw [bcSend, (bcPick_port n _).2, State.port_set_same]

@[simp] theorem bcSend_rd (f : Fld) : (bcSend n m s).rd f = s.rd f := by rw [State.rd, State.rd, bcSend_regs]

variable (len : Nat)

@[simp] theorem msgBegin_rd (f : Fld) : (msgBegin n len s).rd f = s.rd f := by simp [msgBegin]

@[simp] theorem msgBegin_flag (f : Fld) : (msgBegin n len s).flag f = s.flag f := by rw [State.flag_eq, State.flag_eq, msgBegin_rd]

@[simp] theorem State.when_inc_portOf (b : Bool) (f : Fld) (k i : Nat) : (s.when b (·.inc f k)).port i = s.port i := by cases b <;> rfl

theorem msgBegin_port :
    (msgBegin n len s).port n = { s.port n with rxMsg := none, rxSeq := ((s.port n).rxSeq + msgUnits len) % 64 } := by
  simp [msgBegin]

theorem msgWhole_taken {n : Nat} {s : State} (h : s.msgPort n = true) (f : State → State) : msgWhole n len f s = f (msgBegin n len s) :=
  if_pos h

theorem msgWhole_discarded {n : Nat} {s : State} (h : s.msgPort n = false) (f : State → State) : msgWhole n len f s = s := by
  simp [msgWhole, h]

end

/-! ### Posting to a Hawk queue leaves the registers of other blocks -/

@[simp] theorem hawkAnswer_rd (q v : Nat) (s : State) (g : Fld) : (hawkAnswer q v s).rd g = s.rd g := by
  have fold (l : List (Path × Nat)) : ∀ t : State, (l.foldl (fun t p => t.answer p.1 0 v) t).rd g = t.rd g := by
    induction l with
    | nil => exact fun _ => rfl
    | cons p l ih => exact fun t => ih _
  exact fold _ _

@[simp] theorem hawkServe_rd (q : Nat) (s : State) (g : Fld) : (hawkServe q s).rd g = s.rd g := by
  unfold hawkServe
  dsimp only
  split
  · exact hawkAnswer_rd q _ _ g
  · rfl

section
variable {g : Fld} (h : g.blk ≠ .hwk)
include h

theorem hawkAccept_rd (q prio : Nat) (words : List Nat) (flushed : Bool) (s : State) :
    (hawkAccept q prio words flushed s).rd g = s.rd g := by
  unfold hawkAccept
  dsimp only
  rw [hawkServe_rd]
  refine (apply_ite (State.rd · g) _ _ _).trans ?_
  rw [State.rd_wr_blk _ _ h]
  exact ite_self _

theorem hawkOverrun_rd (q : Nat) (s : State) : (hawkOverrun q s).rd g = s.rd g := by
  unfold hawkOverrun State.raiseIf
  dsimp only
  split <;> exact State.rd_wr_blk _ _ h

theorem hawkPost_rd (q prio : Nat) (words : List Nat) (s : State) : (hawkPost q prio words s).2.rd g = s.rd g := by
  unfold hawkPost
  dsimp only
  split
  · exact hawkOverrun_rd h q s
  · exact hawkAccept_rd h q prio words false s

theorem hawkNote_rd (en : Bool) (q prio : Nat) (words : List Nat) (lost : Fld) (s : State) :
    (hawkNote en q prio words lost s).rd g = s.rd g := by
  unfold hawkNote
  split
  · split
    · next e => exact (congrArg (·.2.rd g) e).symm.trans (hawkPost_rd h q prio words s)
    · next e => exact (congrArg (·.2.rd g) e).symm.trans (hawkPost_rd h q prio words s)
  · rfl

end

/-! ### Relayed head commands (R106, R107) -/

section
variable {s : State} {n : Nat}

theorem cmdGo_sends (hb : s.base n = n) (hbusy : s.flag (R.VSP_CMD_STAT_BUSY n) = false) (hlen : s.rd (R.VSP_CMD_CTRL_LEN n) ≤ 248)
    (hup : s.laneState n = 3) :
    cmdGo n s = bcSend n (.headCmd (s.rd (R.VSP_CMD_CTRL_TAG n)) (s.cmdBytes n (s.rd (R.VSP_CMD_CTRL_LEN n))))
      (((s.wr (R.VSP_CMD_STAT_STATUS n) 1).wr (R.VSP_CMD_STAT_BUSY n) 1).setPort n
        { s.port n with cmdTag := s.rd (R.VSP_CMD_CTRL_TAG n) }) := by
  simp [cmdGo, hb, hbusy, hup, Nat.not_lt.mpr hlen]

theorem cmdGo_of_other_lane (hb : s.base n ≠ n) : cmdGo n s = s := if_pos hb

theorem cmdGo_refused (hb : s.base n = n)
    (h : s.flag (R.VSP_CMD_STAT_BUSY n) = true ∨ 248 < s.rd (R.VSP_CMD_CTRL_LEN n) ∨ s.laneState n ≠ 3) :
    cmdGo n s = s.wr (R.VSP_CMD_STAT_REFUSED n) 1 := by
  rw [cmdGo, if_neg (fun hn => hn hb), if_pos h]

theorem cmdEnd_rd {g : Fld} (h : g.blk ≠ .hwk) (st : Nat) (data : List Byte) :
    (cmdEnd n st data s).rd g = ((s.wr (R.VSP_CMD_STAT_STATUS n) st).wr (R.VSP_CMD_STAT_BUSY n) 0).rd g :=
  hawkNote_rd h ..

theorem cmdTimeout_ends (hbusy : s.flag (R.VSP_CMD_STAT_BUSY n) = true) : cmdTimeout n s = cmdEnd n 3 [] s := by
  simp [cmdTimeout, State.when, hbusy]

theorem cmdTimeout_idle (hbusy : s.flag (R.VSP_CMD_STAT_BUSY n) = false) : cmdTimeout n s = s := by
  simp [cmdTimeout, State.when, hbusy]

theorem headRsp_answers {tag : Nat} {data : List Byte} (hbusy : s.flag (R.VSP_CMD_STAT_BUSY n) = true) (htag : (s.port n).cmdTag = tag)
    (hlen : data.length ≤ 248) :
    headRsp n tag data s = cmdEnd n 2 data ((rspStore n data s).wr (R.VSP_CMD_STAT_RSP_LEN n) data.length) :=
  if_pos ⟨hbusy, htag, hlen⟩

theorem headRsp_unexpected {tag : Nat} {data : List Byte}
    (h : s.flag (R.VSP_CMD_STAT_BUSY n) = false ∨ (s.port n).cmdTag ≠ tag ∨ 248 < data.length) :
    headRsp n tag data s = s.inc (R.VSP_MSG_ERR n) := by
  refine if_neg fun ⟨hbusy, htag, hlen⟩ => ?_
  rcases h with h | h | h
  · rw [hbusy] at h; contradiction
  · exact h htag
  · omega

theorem headEvt_posts {data : List Byte} (h0 : data.length ≠ 0) (h : data.length ≤ 248) :
    headEvt n data s = headNote (s.flag (R.VSP_CMD_CFG_EVT_EN n)) n (headItem 1 0 n 0 data) s := if_neg (by omega)

theorem headEvt_unsound {data : List Byte} (h : data.length = 0 ∨ 248 < data.length) : headEvt n data s = s.inc (R.VSP_MSG_ERR n) :=
  if_pos h

theorem headNote_eq (en : Bool) (words : List Nat) (s : State) :
    headNote en n words s = if en then hawkNote true (s.rd (R.VSP_CMD_CFG_HQ n)) (s.rd (R.VSP_CMD_CFG_PRIO n)) words (R.VSP_EVT_DROP n) s
      else s := by
  cases en <;> rfl

theorem cmdEnd_eq (st : Nat) (data : List Byte) :
    cmdEnd n st data s =
      let t := (s.wr (R.VSP_CMD_STAT_STATUS n) st).wr (R.VSP_CMD_STAT_BUSY n) 0
      if s.flag (R.VSP_CMD_CFG_RSP_EN n) then hawkNote true (s.rd (R.VSP_CMD_CFG_HQ n)) (s.rd (R.VSP_CMD_CFG_PRIO n))
        (headItem 2 (st - 2) n (s.port n).cmdTag data) (R.VSP_EVT_DROP n) t
      else t := by
  rw [cmdEnd, headNote_eq]
  simp (disch := (with_unfolding_all (show 32 * _ + _ ≠ 32 * _ + _); omega)) [State.rd_wr_key]

theorem rspStore_rd {g : Fld} (hne : ∀ i, g.key ≠ (R.VSP_RSP_BUF n i).key) (data : List Byte) (s : State) :
    (rspStore n data s).rd g = s.rd g := by
  have fold (l : List (Nat × Nat)) : ∀ t : State, (l.foldl (fun t w => t.wr (R.VSP_RSP_BUF n w.2) w.1) t).rd g = t.rd g := by
    induction l with
    | nil => exact fun _ => rfl
    | cons w l ih => exact fun t => (ih _).trans (State.rd_wr_key _ _ (hne _))
  exact fold _ _

end

/-- The response ends the command: BUSY and STATUS show it. -/
theorem headRsp_done {n tag : Nat} {data : List Byte} {s : State} (hbusy : s.flag (R.VSP_CMD_STAT_BUSY n) = true)
    (htag : (s.port n).cmdTag = tag) (hlen : data.length ≤ 248) :
    (headRsp n tag data s).rd (R.VSP_CMD_STAT_BUSY n) = 0 ∧ (headRsp n tag data s).rd (R.VSP_CMD_STAT_STATUS n) = 2 ∧
      (headRsp n tag data s).rd (R.VSP_CMD_STAT_RSP_LEN n) = data.length := by
  rw [headRsp_answers hbusy htag hlen, cmdEnd_rd (by nofun), cmdEnd_rd (by nofun), cmdEnd_rd (by nofun)]
  simp (disch := (with_unfolding_all (show 32 * _ + _ ≠ 32 * _ + _); omega)) only [State.rd_wr_key, State.rd_wr_same]
  exact ⟨rfl, rfl, Nat.mod_eq_of_lt (show data.length < 2 ^ 8 by omega)⟩

/-- Settles O18. -/
theorem headCommandCommands : Obligations.HeadCommandCommands := by
  intro s n ha
  refine ⟨fun hb hbusy hlen hup => ⟨_, act_of_eq ha (cmdGo_sends hb hbusy hlen hup), ?sent⟩,
    fun hb => act_of_eq ha (cmdGo_of_other_lane hb), fun hb h => act_of_eq ha (cmdGo_refused hb h),
    fun tag data hp hbusy htag hlen => ⟨_, act_of_eq ha (msgWhole_taken _ hp _), headRsp_done ?_ ?_ hlen⟩,
    fun tag data hp h => act_of_eq ha ((msgWhole_taken _ hp _).trans (headRsp_unexpected ?_)),
    fun hbusy => act_of_eq ha ((cmdTimeout_ends hbusy).trans (cmdEnd_eq ..)), fun hbusy => act_of_eq ha (cmdTimeout_idle hbusy),
    fun data hp h0 h => act_of_eq ha ((msgWhole_taken _ hp _).trans ((headEvt_posts h0 h).trans ?posted)),
    fun data hp h => act_of_eq ha ((msgWhole_taken _ hp _).trans (headEvt_unsound h)),
    fun hp => ⟨fun data => act_of_eq ha (msgWhole_discarded _ hp _), fun tag data => act_of_eq ha (msgWhole_discarded _ hp _)⟩⟩
  case sent =>
    have key : (R.VSP_CMD_STAT_STATUS n).key ≠ (R.VSP_CMD_STAT_BUSY n).key := by
      show (32 * _ + _ : Nat) ≠ 32 * _ + _; omega
    refine ⟨?_, ?_, ?_, bcSend_cnt .., bcSend_raised ..⟩
    · rw [bcSend_rd, State.setPort_rd, State.rd_wr_same]; rfl
    · rw [bcSend_rd, State.setPort_rd, State.rd_wr_key _ _ key]; exact State.rd_wr_same ..
    · rw [bcSend_cmdTag, State.port_set_same]
  case posted => rw [headNote_eq, msgBegin_rd, msgBegin_rd, msgBegin_flag]; rfl
  · rwa [msgBegin_flag]
  · rwa [msgBegin_port]
  · rwa [msgBegin_flag, msgBegin_port]

/-! ### The identity challenge (R108, R109) -/

/-- Drawing bytes consumes free values and changes nothing else. -/
theorem State.drawBytes_state (n : Nat) : ∀ s : State, (s.drawBytes n).2 = { s with draws := s.draws + n } := by
  induction n with
  | zero => exact fun _ => rfl
  | succ n ih =>
    intro s
    refine (ih _).trans ?_
    show ({ s with draws := s.draws + 1 + n } : State) = _
    rw [Nat.add_right_comm, Nat.add_assoc]

@[simp] theorem State.drawBytes_length (n : Nat) : ∀ s : State, (s.drawBytes n).1.length = n := by
  induction n with
  | zero => exact fun _ => rfl
  | succ n ih => exact fun s => congrArg (· + 1) (ih _)

section
variable {s : State} {n : Nat}

theorem chalStart_ignored (h : s.base n ≠ n ∨ s.rd (R.VSP_CHAL_STAT_RESULT n) = 1) : chalStart n s = s := if_pos h

section
variable (hb : s.base n = n) (hr : s.rd (R.VSP_CHAL_STAT_RESULT n) ≠ 1)
include hb hr

theorem chalStart_incapable (hc : s.flag (R.VSP_HEAD_CAPS_CHAL n) = false) :
    chalStart n s = s.wr (R.VSP_CHAL_STAT_RESULT n) 5 := by simp [chalStart, hb, hr, hc]

theorem chalStart_keyless (hc : s.flag (R.VSP_HEAD_CAPS_CHAL n) = true) (hk : s.flag (R.VSP_CHAL_STAT_KEY_SET n) = false) :
    chalStart n s = s.wr (R.VSP_CHAL_STAT_RESULT n) 6 := by simp [chalStart, hb, hr, hc, hk]

/-- A challenge that starts is PENDING with a fresh nonce. -/
theorem chalStart_pending (hc : s.flag (R.VSP_HEAD_CAPS_CHAL n) = true) (hk : s.flag (R.VSP_CHAL_STAT_KEY_SET n) = true) :
    (chalStart n s).rd (R.VSP_CHAL_STAT_RESULT n) = 1 ∧ ((chalStart n s).port n).nonce.length = 32 ∧
      (chalStart n s).draws = s.draws + 32 ∧ (chalStart n s).cnt = s.cnt ∧ (chalStart n s).raised = s.raised := by
  have hdraws : (s.drawBytes 32).2.draws = s.draws + 32 := by rw [State.drawBytes_state]
  have hcnt : (s.drawBytes 32).2.cnt = s.cnt := by rw [State.drawBytes_state]
  have hraised : (s.drawBytes 32).2.raised = s.raised := by rw [State.drawBytes_state]
  have e : chalStart n s =
      let u := ((s.drawBytes 32).2.wr (R.VSP_CHAL_STAT_RESULT n) 1).setPort n
        { (s.drawBytes 32).2.port n with nonce := (s.drawBytes 32).1 }
      u.when (u.laneState n == 3) (bcSend n (.chalReq (s.drawBytes 32).1)) := by
    simp [chalStart, hb, hr, hc, hk]
  rw [e]
  dsimp only
  unfold State.when
  split
  · refine ⟨?_, ?_, ?_, ?_, ?_⟩
    · rw [bcSend_rd, State.setPort_rd, State.rd_wr_same]; rfl
    · rw [bcSend_nonce, State.port_set_same, State.drawBytes_length]
    · rw [bcSend_draws]; exact hdraws
    · rw [bcSend_cnt]; exact hcnt
    · rw [bcSend_raised]; exact hraised
  · refine ⟨?_, ?_, hdraws, hcnt, hraised⟩
    · rw [State.setPort_rd, State.rd_wr_same]; rfl
    · rw [State.port_set_same, State.drawBytes_length]

end

theorem chalRsp_unsound {mac : List Byte} (h : mac.length ≠ 32) : chalRsp n mac s = s.inc (R.VSP_MSG_ERR n) := if_pos h

theorem chalRsp_unexpected {mac : List Byte} (h : mac.length = 32) (hr : s.rd (R.VSP_CHAL_STAT_RESULT n) ≠ 1) : chalRsp n mac s = s := by
  simp [chalRsp, h, hr]

theorem chalRsp_judged {mac : List Byte} (h : mac.length = 32) (hr : s.rd (R.VSP_CHAL_STAT_RESULT n) = 1) :
    chalRsp n mac s = if mac = s.chalMac n then s.wr (R.VSP_CHAL_STAT_RESULT n) 2
      else (s.wr (R.VSP_CHAL_STAT_RESULT n) 3).raise (portEv n 3) := by
  simp [chalRsp, h, hr]

theorem msgBegin_chalMac (len : Nat) : (msgBegin n len s).chalMac n =
    Config.hmacSha256 (s.port n).key ((s.port n).nonce ++ beBytes 4 (s.rd (R.VSP_HEAD_ID_HEAD_ID n)) ++ [byte n]) := by
  rw [State.chalMac, msgBegin_rd, msgBegin_port]

end

/-- Settles O19. -/
theorem challengeCommands : Obligations.ChallengeCommands := by
  intro s n ha
  refine ⟨fun h => act_of_eq ha (chalStart_ignored h), fun hb hr hc => act_of_eq ha (chalStart_incapable hb hr hc),
    fun hb hr hc hk => act_of_eq ha (chalStart_keyless hb hr hc hk),
    fun hb hr hc hk => ⟨_, act_awake ha _, chalStart_pending hb hr hc hk⟩, fun mac hp => act_of_eq ha (msgWhole_discarded _ hp _),
    fun mac hp h => act_of_eq ha ((msgWhole_taken _ hp _).trans (chalRsp_unsound h)),
    fun mac hp h hr => act_of_eq ha ((msgWhole_taken _ hp _).trans ?judged),
    fun mac hp h hr => act_of_eq ha ((msgWhole_taken _ hp _).trans ((chalRsp_unexpected h ?_).trans (by rw [h]))),
    act_awake ha _, fun k v p => act_awake ha _⟩
  case judged => rw [h, chalRsp_judged h (by rwa [msgBegin_rd]), msgBegin_chalMac]; rfl
  · rwa [msgBegin_rd]

end Sys2Proof.Machine
end

section
/-! PROOF. Trigger generators (O11). -/

namespace Sys2Proof.Machine

/-! ### What every step of a fold keeps, the fold keeps -/

theorem State.forAll_induct {P : State → Prop} {f : Nat → State → State} (hf : ∀ i t, P t → P (f i t)) :
    ∀ (l : List Nat) (s : State), P s → P (s.forAll l f)
  | [], _, h => h
  | i :: l, _, h => State.forAll_induct hf l _ (hf i _ h)

/-! ### Generator `g` runs, its next trigger being the first of the run -/

/-- Generator `g` is enabled, trigger `n` is its next and the first of its run, and the next row carries FIRST. -/
structure TgStarted (g n : Nat) (t : State) : Prop where
  en : t.tgEn g = true
  next : (t.tg g).next = n
  first : (t.tg g).first = n
  row : (t.seam g).first = true

section
variable {g n : Nat} {t : State}

theorem TgStarted.wr (h : TgStarted g n t) {f : Fld} (hf : f.blk ≠ .chk) (v : Nat) : TgStarted g n (t.wr f v) where
  en := (congrArg (· != 0) (State.rd_wr_blk t v (Ne.symm hf))).trans h.en
  next := h.next
  first := h.first
  row := h.row

theorem TgStarted.setSkim (h : TgStarted g n t) (e : Nat) (x : SkimPort) : TgStarted g n (t.setSkim e x) := ⟨h.en, h.next, h.first, h.row⟩

theorem TgStarted.setSkimG (h : TgStarted g n t) (k : Nat) (x : SkimGrp) : TgStarted g n (t.setSkimG k x) := ⟨h.en, h.next, h.first, h.row⟩

theorem TgStarted.setCommit (h : TgStarted g n t) (k : Nat) (x : Option PendSet) : TgStarted g n (t.setCommit k x) :=
  ⟨h.en, h.next, h.first, h.row⟩

theorem TgStarted.setSeam (h : TgStarted g n t) {x : Seam} (hx : x.first = true) : TgStarted g n (t.setSeam g x) where
  en := h.en
  next := h.next
  first := h.first
  row := by rw [State.seam_set_same]; exact hx

theorem TgStarted.skimFirstRow (h : TgStarted g n t) (k old m : Nat) : TgStarted g n (skimFirstRow k old m t) := by
  unfold Machine.skimFirstRow
  split
  · exact (h.setSkimG ..).wr (by nofun) _
  · exact h

theorem bglReg_blk (g p : Nat) : (bglReg g p).blk = .sem := by unfold bglReg; split <;> rfl

theorem TgStarted.skimLevels (h : TgStarted g n t) (k row : Nat) (v : Nat → Option Nat) : TgStarted g n (skimLevels k row v t) := by
  refine TgStarted.setSkimG (State.forAll_induct (P := TgStarted g n) (fun p u hu => ?_) _ t h) ..
  split
  · exact hu.wr (by rw [bglReg_blk]; nofun) _
  · exact hu

theorem TgStarted.skimStart (h : TgStarted g n t) (r0 : Nat) : TgStarted g n (skimStart g r0 t) := by
  refine State.forAll_induct (P := TgStarted g n) (fun e u hu => ?_) _ _ ?_
  · have h1 := (hu.wr (f := R.RND_STAT_SKIM_OWNS e) (by nofun) 1).setSkim e
    dsimp only
    split
    · exact TgStarted.wr (h1 _) (by nofun) _
    · exact (TgStarted.wr (h1 _) (by nofun) _).wr (by nofun) _
  · have h0 := (h.setSkimG g { t.skimG g with r0 := some r0, k := 0, due := false, startAt := none, stopAt := none }).skimLevels g r0
      ((t.skimG g).bglLath[·]?)
    refine TgStarted.wr (TgStarted.wr (TgStarted.wr (TgStarted.wr (TgStarted.setSeam ?_ ?_) ?_ _) ?_ _) ?_ _) ?_ _
    · exact h0
    · exact h0.row
    all_goals nofun

theorem TgStarted.when (h : TgStarted g n t) (c : Bool) {f : State → State} (hf : TgStarted g n (f t)) : TgStarted g n (t.when c f) := by
  cases c
  · exact h
  · exact hf

end

/-! ### Enabling (R98, R219) -/

/-- Parameters of a run of generator `g` (R97). -/
def State.tgRun (s : State) (g : Nat) : Nat × Nat × Nat := (s.tgStart g, s.rd (R.CHK_TG_L0 g), s.tgPeriod g)

/-- Generator `g` with the numbering of its next run: a run with the parameters of the last one goes on numbering from its base. -/
def State.tgNumbered (s : State) (g : Nat) : State :=
  s.setTg g { s.tg g with base := if (s.tg g).run = some (s.tgRun g) then (s.tg g).base else (s.tg g).next, run := some (s.tgRun g) }

/-- The first trigger of the next run of generator `g`: not yet too close, and not before its next number (R98). -/
def State.tgFirstNext (s : State) (g : Nat) : Nat :=
  max ((s.tgNumbered g).tgFirstAt g ((s.now : Int) + s.tgLead g)) (s.tg g).next

/-- Generator `g` enabled, before Skim and a waiting commit take the new run's first row. -/
def State.tgRunning (s : State) (g : Nat) : State :=
  let x := s.tg g
  let s1 := s.tgNumbered g
  let c := s1.tgFirstAt g ((s1.now : Int) + s1.tgLead g)
  let n := max c x.next
  let past := if x.run = some (s.tgRun g) ∧ n = c then (x.past ++ [(x.first, x.next)]).filter (fun r => decide (n ≤ r.2 + 256)) else []
  let s2 := (s1.setTg g { s1.tg g with next := n, first := n, base := (s1.tg g).base + (n - c), past := past }).wr (R.CHK_TG_CTRL_EN g) 1
  (s2.wr (R.CHK_TG_NEXT_LINE g) (s2.tgLine g n)).setSeam g
    { s2.seam g with first := true, ahead := if x.run = some (s.tgRun g) then (s2.seam g).ahead.filter (fun a => decide (n ≤ a.1)) else [] }

section
variable {s : State} {g : Nat}

theorem tgFirstNext_of_same_run (h : (s.tg g).run = some (s.tgRun g)) :
    s.tgFirstNext g = max (s.tgFirstAt g ((s.now : Int) + s.tgLead g)) (s.tg g).next := by
  unfold State.tgFirstNext State.tgFirstAt State.tgNumbered
  rw [State.tg_set_same, if_pos h]
  rfl

theorem tgRunning_started (s : State) (g : Nat) : TgStarted g (s.tgFirstNext g) (s.tgRunning g) where
  en := by
    unfold State.tgRunning State.tgEn
    dsimp only
    rw [State.setSeam_flag, State.flag_wr_other _ _ (by show (32 * _ + _ : Nat) ≠ 32 * _ + _; omega), State.flag_eq, State.rd_wr_same]
    rfl
  next := by simp only [State.tgRunning, State.setSeam_tgOf, State.wr_tgOf, State.tg_set_same]; rfl
  first := by simp only [State.tgRunning, State.setSeam_tgOf, State.wr_tgOf, State.tg_set_same]; rfl
  row := by simp only [State.tgRunning, State.seam_set_same]

/-- A commit that waits for the old rows acts at the new run's first row (R298). -/
def State.tgFollowed (s : State) (g : Nat) : State :=
  match (s.tgRunning g).commit g with
  | some p => if p.late && !p.cleared then (s.tgRunning g).setCommit g (some { p with late := false, row := s.tgFirstNext g })
    else s.tgRunning g
  | none => s.tgRunning g

theorem tgEnable_eq (hen : s.tgEn g = false) (hf : s.devFault = false) : ∃ c, tgEnable g s =
    (skimFirstRow g (s.tg g).next (s.tgFirstNext g) (s.tgFollowed g)).when c (skimStart g (s.tgFirstNext g)) := by
  unfold tgEnable
  rw [if_neg (by simp [hen, hf])]
  exact ⟨_, rfl⟩

theorem tgEnable_starts (hen : s.tgEn g = false) (hf : s.devFault = false) : TgStarted g (s.tgFirstNext g) (tgEnable g s) := by
  have h3 := tgRunning_started s g
  have h4 : TgStarted g (s.tgFirstNext g) (s.tgFollowed g) := by
    unfold State.tgFollowed
    split
    · split
      · exact h3.setCommit ..
      · exact h3
    · exact h3
  obtain ⟨c, e⟩ := tgEnable_eq hen hf
  rw [e]
  exact (h4.skimFirstRow ..).when c ((h4.skimFirstRow ..).skimStart _)

theorem tgEnable_ignored (h : s.tgEn g = true ∨ s.devFault = true) : tgEnable g s = s := if_pos (by simpa using h)

theorem tgDisable_running (h : s.tgEn g = true) : tgDisable g s = generatorOff g s := if_pos h

theorem tgDisable_stopped (h : s.tgEn g = false) : tgDisable g s = s := by simp [tgDisable, h]

/-! ### Configuration and sending (R98, R129) -/

theorem tgConfig_refused (h : s.tgEn g = true) {w : Nat} (v : Nat) (h1 : 1 ≤ w) (h6 : w ≤ 6) :
    tgConfig g w v s = s.wr (R.CHK_TG_STAT_WERR g) 1 := by
  match w, h1, h6 with
  | 1, _, _ | 2, _, _ | 3, _, _ | 4, _, _ | 5, _, _ | 6, _, _ => exact if_pos h

theorem tgConfig_loads (h : s.tgEn g = false) (v : Nat) :
    tgConfig g 1 v s = s.wr (R.CHK_TG_LEAD_LEAD g) v ∧ tgConfig g 2 v s = s.wr (R.CHK_TG_PERIOD_INT_INT g) v ∧
    tgConfig g 3 v s = s.wr (R.CHK_TG_PERIOD_FRAC_FRAC g) v ∧ tgConfig g 4 v s = s.wr (R.CHK_TG_START_LO g) v ∧
    tgConfig g 5 v s = s.wr (R.CHK_TG_START_HI g) v ∧ tgConfig g 6 v s = s.wr (R.CHK_TG_L0 g) v := by
  simp [tgConfig, h]

theorem triggerSend_stopped (h : s.tgEn g = false) : triggerSend g s = s := by simp [triggerSend, h]

theorem ofSigned_lt (w : Nat) (x : Int) : ofSigned w x < 2 ^ w := by
  have : (0 : Int) < (2 ^ w : Nat) := by exact_mod_cast Nat.two_pow_pos w
  have := Int.emod_lt_of_pos x this
  unfold ofSigned
  omega

/-- The line of trigger `m` once generator `g` shows the next line after `n`. -/
theorem tgLine_moved_on (t : State) (g n : Nat) (v : Nat) (m : Int) :
    ((t.setTg g { t.tg g with next := n }).wr (R.CHK_TG_NEXT_LINE g) v).tgLine g m = t.tgLine g m := by
  unfold State.tgLine
  rw [State.rd_wr_key _ _ (by show (32 * _ + _ : Nat) ≠ 32 * _ + _; omega), State.wr_tgOf, State.tg_set_same]
  rfl

/-- Sending moves on by one line. -/
theorem triggerSend_advances (h : s.tgEn g = true) : ((triggerSend g s).tg g).next = (s.tg g).next + 1 ∧
    (triggerSend g s).rd (R.CHK_TG_NEXT_LINE g) = (triggerSend g s).tgLine g ((s.tg g).next + 1 : Nat) := by
  unfold triggerSend
  rw [if_neg (by simp [h])]
  refine ⟨by rw [State.wr_tgOf, State.tg_set_same], ?_⟩
  rw [tgLine_moved_on, State.rd_wr_lt _ (ofSigned_lt 32 _)]
  rfl

end

/-- Settles O11. -/
theorem triggerGeneratorCommands : Obligations.TriggerGeneratorCommands := by
  intro s g ha
  have running {b : Bool} (h : s.inP1 = b) (v : Nat) : tgWrite g v s = if b then if v % 2 = 1 then s else
      { s with power := { s.power with gens := s.power.gens.filter (· != g.val) } } else tgControl g v s := by
    rw [tgWrite, h]
  refine ⟨fun hp hen hf => ⟨_, act_of_eq ha (running hp 1), ?started⟩, fun hp h => act_of_eq ha ((running hp 1).trans (tgEnable_ignored h)),
    fun hp h => act_of_eq ha ((running hp 0).trans (tgDisable_running h)), fun hp h => act_of_eq ha ((running hp 0).trans (tgDisable_stopped h)),
    fun hp => act_of_eq ha (running hp 1), fun hp => act_of_eq ha (running hp 0),
    fun off v h h1 h6 => act_of_eq ha (tgConfig_refused h _ h1 h6), fun v h => ?loads,
    fun h => ⟨_, act_awake ha _, triggerSend_advances h⟩, fun h => act_of_eq ha (triggerSend_stopped h)⟩
  case started =>
    obtain ⟨hEn, hNext, hFirst, hRow⟩ := tgEnable_starts hen hf
    refine ⟨hEn, hFirst.trans hNext.symm, hNext ▸ Nat.le_max_right .., hRow, fun hrun => hNext.trans (tgFirstNext_of_same_run hrun)⟩
  case loads =>
    obtain ⟨h1, h2, h3, h4, h5, h6⟩ := tgConfig_loads h v.toNat
    exact ⟨act_of_eq ha h1, act_of_eq ha h2, act_of_eq ha h3, act_of_eq ha h4, act_of_eq ha h5, act_of_eq ha h6⟩

end Sys2Proof.Machine
end

section
/-! PROOF. DMA channels: control, halts and completed descriptors (O25). -/

namespace Sys2Proof.Machine

/-! ### Halts (R418, R422) -/

section
variable (s : State)

/-- Giving up the stalled queue reads of a path touches the queues alone. -/
theorem hawkForsake_frame (p : Path) : (hawkForsake p s).regs = s.regs ∧ (hawkForsake p s).cnt = s.cnt ∧
    (hawkForsake p s).raised = s.raised := by
  unfold hawkForsake
  refine State.forAll_induct (P := fun t => t.regs = s.regs ∧ t.cnt = s.cnt ∧ t.raised = s.raised) ?_ _ _ ⟨rfl, rfl, rfl⟩
  exact fun _ _ h => h

theorem dmaForsake_frame (c : Nat) : (dmaForsake c s).regs = s.regs ∧ (dmaForsake c s).cnt = s.cnt ∧
    (dmaForsake c s).raised = s.raised := by
  unfold dmaForsake
  dsimp only [State.setDmaCh_regs, State.setDmaCh_cnt, State.setDmaCh_raised]
  cases (s.dmaCh c).await
  · exact ⟨rfl, rfl, rfl⟩
  · exact hawkForsake_frame s .dma

theorem State.raiseIf_rd (b : Bool) (e : Nat) (f : Fld) : (s.raiseIf b e).rd f = s.rd f := by cases b <;> rfl

theorem State.raiseIf_cnt (b : Bool) (e : Nat) : (s.raiseIf b e).cnt = s.cnt := by cases b <;> rfl

theorem State.raiseIf_dmaCh (b : Bool) (e c : Nat) : (s.raiseIf b e).dmaCh c = s.dmaCh c := by cases b <;> rfl

theorem State.raiseIf_raised (b : Bool) (e : Nat) : (s.raiseIf b e).raised = if b then s.raised ++ [e] else s.raised := by
  cases b <;> rfl

/-- A channel that stops is HALTED with its ERR and direction, without a descriptor, and is counted. -/
theorem dmaStop_effects (c err dir : Nat) :
    (dmaStop c err dir s).rd (R.DMA_CH_STAT_STATE c) = 2 ∧ (dmaStop c err dir s).rd (R.DMA_CH_STAT_ERR c) = err % 16 ∧
    (dmaStop c err dir s).rd (R.DMA_CH_STAT_HALT c) = 1 ∧ (dmaStop c err dir s).rd (R.DMA_CH_FAIL_INFO_DIR c) = dir % 16 ∧
    ((dmaStop c err dir s).dmaCh c).desc = none ∧ (dmaStop c err dir s).cnt = (s.inc (R.DMA_CH_HALTS c)).cnt ∧
    (dmaStop c err dir s).raised = if err = 9 then s.raised else s.raised ++ [1368 + c] := by
  obtain ⟨-, hcnt, hraised⟩ := dmaForsake_frame s c
  unfold dmaStop
  simp (disch := (with_unfolding_all (show 32 * _ + _ ≠ 32 * _ + _); omega)) only [State.raiseIf_rd, State.raiseIf_dmaCh,
    State.raiseIf_cnt, State.raiseIf_raised, State.inc_rd, State.rd_wr_key, State.rd_wr_same, State.inc_dmaChOf, State.wr_dmaChOf,
    State.dmaCh_set_same, State.inc_raised, State.wr_raised, State.setDmaCh_raised, hraised, bne_iff_ne, ite_not]
  refine ⟨rfl, rfl, rfl, rfl, trivial, ?_, trivial⟩
  unfold State.inc
  simp only [State.wr_cnt, State.setDmaCh_cnt, hcnt]

theorem dmaStop_failAddr {c : Nat} {g : Fld} (hne : g.blk = .dma ∧ (g.key = 32 * (0x1020 + c * 0x40) ∨ g.key = 32 * (0x1024 + c * 0x40)))
    (err dir : Nat) : (dmaStop c err dir s).rd g = s.rd g := by
  obtain ⟨hregs, -, -⟩ := dmaForsake_frame s c
  unfold dmaStop
  simp (disch := (with_unfolding_all (show _ ≠ 32 * _ + _); omega)) only [State.raiseIf_rd, State.inc_rd, State.rd_wr_key,
    State.setDmaCh_rd]
  exact congrArg (Regs.get · g) hregs

theorem setFailAddr_addr (c : Nat) {a : Nat} (h : a < 2 ^ 48) :
    2 ^ 32 * (setFailAddr c a s).rd (R.DMA_CH_FAIL_ADDR_HI_ADDR c) + (setFailAddr c a s).rd (R.DMA_CH_FAIL_ADDR_LO c) = a := by
  unfold setFailAddr
  rw [State.rd_wr_same, State.rd_wr_key _ _ (by show (32 * _ + _ : Nat) ≠ 32 * _ + _; omega), State.rd_wr_same]
  show 2 ^ 32 * (a / 2 ^ 32 % 2 ^ 16) + a % 2 ^ 32 = a
  omega

variable {s}

theorem dmaAbort_runs {c : Nat} (h : s.rd (R.DMA_CH_STAT_STATE c) = 1) :
    dmaAbort c s = dmaStop c 9 0 (setFailAddr c (s.draw (2 ^ 48)).1 (s.draw (2 ^ 48)).2) := if_pos h

theorem dmaStart_begins {c : Nat} (h : s.rd (R.DMA_CH_STAT_STATE c) = 0) (ht : (s.dmaCh c).taped = false) :
    dmaStart c s = (((s.setDmaCh c { s.dmaCh c with next := s.dmaFirst c, desc := none }).wr (R.DMA_CH_STAT_STATE c) 1).wr
      (R.DMA_CH_STAT_ERR c) 0).wr (R.DMA_CH_HOP_COUNT_N c) 0 := if_neg (by simp [State.dmaState, h, ht])

theorem dmaConfig_refused {c : Nat} (h : s.rd (R.DMA_CH_STAT_STATE c) = 1) (off v : Nat) :
    dmaConfig c off v s = s.wr (R.DMA_CH_STAT_REFUSED c) 1 := if_pos h

theorem dmaConfig_loads {c : Nat} (h : s.rd (R.DMA_CH_STAT_STATE c) ≠ 1) (v : Nat) :
    dmaConfig c 0 v s = s.wr (R.DMA_CH_NEXT_LO c) v ∧ dmaConfig c 1 v s = s.wr (R.DMA_CH_NEXT_HI_ADDR c) v ∧
    dmaConfig c 2 v s = s.wr (R.DMA_CH_HOP_LIMIT_N c) v := ⟨if_neg h, if_neg h, if_neg h⟩

/-! ### Completed descriptors (R418, R419) -/

/-- The last descriptor of a chain ends it. -/
theorem dmaComplete_last (c : Nat) (done : Bool) (next : Nat) :
    (dmaComplete c true done next s).rd (R.DMA_CH_STAT_STATE c) = 0 ∧
    (dmaComplete c true done next s).cnt = (s.inc (R.DMA_CH_DESCS c)).cnt ∧
    (done = true → (dmaComplete c true done next s).rd (R.DMA_CH_STAT_DONE c) = 1) := by
  unfold dmaComplete
  cases done
  · exact ⟨by rw [if_pos rfl, State.rd_wr_same]; rfl, rfl, nofun⟩
  · refine ⟨by rw [if_pos rfl, State.rd_wr_same]; rfl, rfl, fun _ => ?_⟩
    rw [if_pos rfl, State.rd_wr_key _ _ (by show (32 * _ + _ : Nat) ≠ 32 * _ + _; omega), if_pos rfl, State.rd_wr_same]
    rfl

/-- Within the hop limit the chain goes on at the next descriptor. -/
theorem dmaComplete_follows {c : Nat} (h : s.rd (R.DMA_CH_HOP_COUNT_N c) ≠ max 1 (s.rd (R.DMA_CH_HOP_LIMIT_N c))) (next : Nat) :
    ((dmaComplete c false false next s).dmaCh c).next = next ∧ ((dmaComplete c false false next s).dmaCh c).desc = none ∧
    (dmaComplete c false false next s).regs = s.regs := by
  have e : dmaComplete c false false next s =
      let t := (s.setDmaCh c { s.dmaCh c with desc := none }).inc (R.DMA_CH_DESCS c)
      t.setDmaCh c { t.dmaCh c with next := next, desc := none } := by
    unfold dmaComplete dmaFollow
    exact if_neg h
  rw [e]
  refine ⟨?_, ?_, rfl⟩ <;> rw [State.dmaCh_set_same]

end

/-- Settles O25. -/
theorem dmaControlAndEnds : Obligations.DmaControlAndEnds := by
  refine ⟨fun s c ha => ⟨fun h ht => act_of_eq ha (dmaStart_begins h ht), fun h => act_of_eq ha (if_pos h),
      fun h => ⟨_, act_of_eq ha (dmaAbort_runs h), ?abort⟩, fun h => act_of_eq ha (if_neg h), act_awake ha _,
      fun off v h => act_of_eq ha (dmaConfig_refused h _ _), fun v h => ?config⟩,
    fun s c err dir a he hd hlt => ?halt, fun s c done next => dmaComplete_last c done next, fun s c next h => dmaComplete_follows h next⟩
  case abort =>
    obtain ⟨hstate, herr, hhalt, -, hdesc, hcnt, hraised⟩ :=
      dmaStop_effects (setFailAddr c (s.draw (2 ^ 48)).1 (s.draw (2 ^ 48)).2) c 9 0
    exact ⟨hstate, herr, hhalt, hdesc, hcnt, hraised⟩
  case config =>
    obtain ⟨h0, h1, h2⟩ := dmaConfig_loads h v.toNat
    exact ⟨act_of_eq ha h0, act_of_eq ha h1, act_of_eq ha h2⟩
  case halt =>
    obtain ⟨hstate, herr, -, hdir, -, hcnt, hraised⟩ := dmaStop_effects (setFailAddr c a s) c err dir
    refine ⟨hstate, herr.trans (Nat.mod_eq_of_lt he), hdir.trans (Nat.mod_eq_of_lt (by omega)), ?_, hcnt, hraised⟩
    unfold dmaHalt
    rw [dmaStop_failAddr _ ⟨rfl, .inr rfl⟩, dmaStop_failAddr _ ⟨rfl, .inl rfl⟩, setFailAddr_addr s c hlt]

end Sys2Proof.Machine
end

section
/-! PROOF. What the boot journal leaves unchanged, and resets (O36). -/

namespace Sys2Proof.Machine

/-! ### The journal writer (R487, R488) -/

/-- State `t` differs from `z` in what the journal writer changes: MRAM, the copy in force, BOT_STAT.TRIPPED, BOT_SEQ, BOT_JNL_NEXT and
the events raised. -/
structure Journalled (z t : State) : Prop where
  rest : t = { z with regs := t.regs, mram := t.mram, boot := t.boot, raised := t.raised }
  boot : t.boot = { z.boot with copy := t.boot.copy }
  rd (f : Fld) (h : f.blk ≠ .bot ∨ f.key ∉ [R.BOT_STAT_TRIPPED.key, R.BOT_SEQ.key, R.BOT_JNL_NEXT_N.key]) : t.rd f = z.rd f

section
variable {z t u : State}

theorem Journalled.refl (z : State) : Journalled z z := ⟨rfl, rfl, fun _ _ => rfl⟩

theorem Journalled.trans (h : Journalled z t) (k : Journalled t u) : Journalled z u where
  rest := k.rest.trans (congrArg (fun x : State => { x with regs := u.regs, mram := u.mram, boot := u.boot, raised := u.raised }) h.rest)
  boot := k.boot.trans (congrArg (fun x : Boot => { x with copy := u.boot.copy }) h.boot)
  rd f hf := (k.rd f hf).trans (h.rd f hf)

theorem Journalled.wr (h : Journalled z t) {f : Fld} (hf : f ∈ [R.BOT_STAT_TRIPPED, R.BOT_SEQ, R.BOT_JNL_NEXT_N]) (v : Nat) :
    Journalled z (t.wr f v) := by
  refine h.trans ⟨rfl, rfl, fun g hg => State.rd_wr_other t v ?_⟩
  simp only [List.mem_cons, List.not_mem_nil, or_false, not_or] at hf hg
  rcases hf with rfl | rfl | rfl
  · exact hg.imp id (·.1)
  · exact hg.imp id (·.2.1)
  · exact hg.imp id (·.2.2)

/-- MRAM takes bytes, and the copy in force changes. -/
theorem Journalled.store (m : List Host.Cell) (c : Nat) : Journalled z { z with mram := m, boot := { z.boot with copy := c } } :=
  ⟨rfl, rfl, fun _ _ => rfl⟩

theorem Journalled.raise (e : Nat) : Journalled z (z.raise e) := ⟨rfl, rfl, fun _ _ => rfl⟩

theorem Journalled.raiseIf (b : Bool) (e : Nat) : Journalled z (z.raiseIf b e) := by
  cases b
  · exact .refl z
  · exact .raise e

theorem Journalled.forAll {f : Nat → State → State} (hf : ∀ i t, Journalled t (f i t)) (l : List Nat) : Journalled z (z.forAll l f) :=
  State.forAll_induct (P := Journalled z) (fun i t h => h.trans (hf i t)) l z (.refl z)

variable (s : State)

theorem jnlStore_journalled (es : List Byte) : Journalled s (jnlStore es s) := Journalled.store _ _

theorem jnlAppend_journalled (rec es : List Byte) : Journalled s (jnlAppend rec es s) :=
  (Journalled.store (memWrite s.mram (0x2000 + 32 * s.rd R.BOT_JNL_NEXT_N) rec) s.boot.copy).trans
    (((Journalled.refl _).wr (by simp) _).trans (jnlStore_journalled _ es))

theorem jnlDevice_journalled (step outcome : Nat) : Journalled s (jnlDevice step outcome s) :=
  (jnlAppend_journalled s _ _).trans (.raiseIf _ _)

theorem jnlOutcome_journalled (step e unit outcome pset cause param : Nat) :
    Journalled s (jnlOutcome step e unit outcome pset cause param s) :=
  (jnlAppend_journalled s _ _).trans (.raiseIf _ _)

theorem jnlTableOnly_journalled (e outcome : Nat) : Journalled s (jnlTableOnly e outcome s) :=
  Journalled.trans (t := jnlRewrite (s.jnlUpdated e outcome) s) ((jnlStore_journalled s _).trans (jnlStore_journalled _ _)) (.raiseIf _ _)

theorem jnlOpen_journalled : Journalled s (jnlOpen s) := by
  unfold jnlOpen
  split
  · next c _ =>
    have hc : Journalled s { s with boot := { s.boot with copy := c } } := Journalled.store s.mram c
    exact Journalled.trans (Journalled.wr (Journalled.wr (Journalled.wr hc (by simp) _) (by simp) _) (by simp) _) (.raiseIf _ _)
  · exact (((Journalled.refl s).wr (by simp) 1).trans (.raise 1491)).trans (jnlStore_journalled _ _)

theorem jnlAppend_raised (rec es : List Byte) : (jnlAppend rec es s).raised = s.raised := rfl

end

/-! ### Primer begins (R483) -/

theorem setStage_rd (v : Nat) (s : State) (f : Fld) : (setStage v s).rd f = (s.wr R.BOT_STAT_STAGE v).rd f := rfl

theorem setStage_stage (v : Nat) (s : State) : (setStage v s).stage = v % 16 := State.rd_wr_same s R.BOT_STAT_STAGE v

theorem setStep_step (v : Nat) (s : State) : (setStep v s).rd R.BOT_STAT_STEP = v % 256 := State.rd_wr_same s R.BOT_STAT_STEP v

theorem setStep_stage (v : Nat) (s : State) : (setStep v s).stage = s.stage := State.rd_wr_key s v (by decide)

/-- State `t` is state `z` with Primer in CLOCK. -/
structure InClock (z t : State) : Prop where
  rest : t = { z with regs := t.regs, mram := t.mram, boot := t.boot, raised := t.raised }
  stage : t.stage = 1
  step : t.rd R.BOT_STAT_STEP = 2
  strap : t.rd R.BOT_STRAP_SEL = z.rd R.BOT_STRAP_SEL
  rd (f : Fld) (h : f.blk ≠ .bot) : t.rd f = z.rd f

section
variable {z t : State} (h : InClock z t)
include h

theorem InClock.pins : t.pins = z.pins := by rw [h.rest]
theorem InClock.fuses : t.fuses = z.fuses := by rw [h.rest]
theorem InClock.chalk : t.chalk = z.chalk := by rw [h.rest]
theorem InClock.dram : t.dram = z.dram := by rw [h.rest]
theorem InClock.cnt : t.cnt = z.cnt := by rw [h.rest]
theorem InClock.io : t.io = z.io := by rw [h.rest]

end

theorem Journalled.in_clock {s t : State} (h : Journalled (setStage 1 s) t) (wake : Bool) :
    InClock s (setStep 2 { t with boot := { t.boot with wake := wake } }) where
  rest := congrArg (fun x : State => { x with regs := (setStep 2 t).regs, boot := { t.boot with wake := wake } }) h.rest
  stage := (setStep_stage 2 _).trans ((h.rd R.BOT_STAT_STAGE (.inr (by decide))).trans (setStage_stage 1 s))
  step := setStep_step 2 _
  strap := (State.rd_wr_key t 2 (by decide)).trans ((h.rd R.BOT_STRAP_SEL (.inr (by decide))).trans
    ((setStage_rd 1 s _).trans (State.rd_wr_key s 1 (by decide))))
  rd _ hf := (State.rd_wr_blk t 2 hf).trans ((h.rd _ (.inl hf)).trans ((setStage_rd 1 s _).trans (State.rd_wr_blk s 1 hf)))

theorem primer_in_clock {s : State} (h : s.pins.tripped = false) (wake : Bool) : InClock s (primer wake s) := by
  unfold primer
  rw [if_neg (by simp [h])]
  refine Journalled.in_clock (t := if wake then jnlOpen (setStage 1 s) else jnlDevice 1 0 (jnlOpen (setStage 1 s))) ?_ wake
  split
  · exact jnlOpen_journalled _
  · exact (jnlOpen_journalled _).trans (jnlDevice_journalled _ 1 0)

theorem primer_tripped {s : State} (h : s.pins.tripped = true) (wake : Bool) : primer wake s = s := if_pos h

/-! ### Resets (R481) -/

section
variable (s : State)

theorem cold_selPins (por : Bool) : (s.cold por).boot.selPins = s.boot.selPins := by cases por <;> rfl

theorem cold_tripped : (s.cold false).pins.tripped = s.pins.tripped := rfl

theorem startUp_eq (por : Bool) : startUp por s = primer false ((s.cold por).wr R.BOT_STRAP_SEL s.boot.selPins) := by
  rw [← cold_selPins s por]; rfl

theorem startUp_por_in_clock : InClock ((s.cold true).wr R.BOT_STRAP_SEL s.boot.selPins) (startUp true s) := by
  rw [startUp_eq]
  exact primer_in_clock rfl false

theorem startUp_in_clock (h : s.pins.tripped = false) :
    InClock ((s.cold false).wr R.BOT_STRAP_SEL s.boot.selPins) (startUp false s) := by
  have ht : ((s.cold false).wr R.BOT_STRAP_SEL s.boot.selPins).pins.tripped = false := (cold_tripped s).trans h
  rw [startUp_eq]
  exact primer_in_clock ht false

theorem startUp_tripped (h : s.pins.tripped = true) :
    startUp false s = (s.cold false).wr R.BOT_STRAP_SEL s.boot.selPins := by
  have ht : ((s.cold false).wr R.BOT_STRAP_SEL s.boot.selPins).pins.tripped = true := (cold_tripped s).trans h
  rw [startUp_eq]
  exact primer_tripped ht false

/-- BOOT_SEL as the deassertion of a reset finds it. -/
def State.strapped (s : State) (sel : Nat) : State := { s with boot := { s.boot with selPins := sel } }

theorem porRelease_eq (sel : Nat) : porRelease sel s = startUp true (s.strapped sel) := rfl

theorem sysReset_powered (sel : Nat) {s : State} (h : s.power.off = false) : sysReset sel s = startUp false (s.strapped sel) := by
  rw [sysReset, if_neg (by rw [h]; decide)]
  rfl

theorem cold_wake :
    (s.cold false).rd R.THM_WAKE_CFG_PIN_EN = s.rd R.THM_WAKE_CFG_PIN_EN % 2 ∧
    (s.cold false).rd R.THM_WAKE_CFG_TIMER_EN = s.rd R.THM_WAKE_CFG_TIMER_EN % 2 := by
  unfold State.cold
  rw [if_neg (by decide)]
  simp (disch := decide) only [State.rd_wr_key, State.rd_wr_same]
  exact ⟨rfl, rfl⟩

theorem cold_stage (por : Bool) : (s.cold por).rd R.BOT_STAT_STAGE = 0 := by
  cases por
  · unfold State.cold
    rw [if_neg (by decide)]
    simp (disch := decide) only [State.rd_wr_blk]
    exact rd_reset R.BOT_STAT_STAGE
  · exact rd_reset R.BOT_STAT_STAGE

variable {s}

theorem actAon_acts (hoff : s.power.off = false) (hlow : s.pins.porLow = false) (f : State → State) :
    actAon f s = .next (settle (f s)) := by simp [actAon, hoff, hlow]

theorem actAon_still (h : s.power.off = true) (f : State → State) : actAon f s = .next s := by simp [actAon, h]

theorem asleep_false_iff : s.asleep = false ↔ s.power.off = false ∧ s.pins.porLow = false ∧ s.pwrState ≠ 2 := by
  simp [State.asleep, and_assoc]

end

/-- Settles O36. -/
theorem resetCommands : Obligations.ResetCommands := by
  intro s sel
  have hstrap (t : State) : (t.wr R.BOT_STRAP_SEL sel.val).rd R.BOT_STRAP_SEL = sel :=
    State.rd_wr_lt t sel.isLt
  refine ⟨⟨_, rfl, rfl, rfl, rfl, rfl, rfl, rfl, rfl, rfl⟩, ⟨_, rfl, ?por⟩, fun hoff hlow ht => ⟨_, actAon_acts hoff hlow _, ?sys⟩,
    fun hoff hlow ht => ⟨_, actAon_acts hoff hlow _, ?tripped⟩, fun hoff => actAon_still hoff _, fun ha hsel => ?restart,
    fun hsel => ⟨_, rfl, ?aon⟩⟩
  case por =>
    have h := startUp_por_in_clock (s.strapped sel)
    rw [porRelease_eq]
    exact ⟨h.strap.trans (hstrap _), h.stage, h.step, congrArg Pins.porLow h.pins, congrArg Pins.tripped h.pins, h.fuses,
      congrArg Chalk.run h.chalk, h.dram, h.cnt⟩
  case sys =>
    have h := startUp_in_clock (s.strapped sel) ht
    obtain ⟨hpin, htimer⟩ := cold_wake (s.strapped sel)
    rw [sysReset_powered _ hoff]
    exact ⟨h.strap.trans (hstrap _), h.stage, h.step, h.fuses, congrArg Chalk.run h.chalk, h.dram, h.cnt,
      (h.rd _ (by decide)).trans ((State.rd_wr_blk _ _ (by decide)).trans hpin),
      (h.rd _ (by decide)).trans ((State.rd_wr_blk _ _ (by decide)).trans htimer), by rw [h.io]; rfl⟩
  case tripped =>
    rw [sysReset_powered _ hoff, startUp_tripped (s.strapped sel) ht]
    exact ⟨(State.rd_wr_key _ _ (by decide)).trans (cold_stage _ false), ht, rfl, rfl⟩
  case restart =>
    obtain ⟨hoff, hlow, -⟩ := asleep_false_iff.mp ha
    exact ⟨_, act_awake ha actReset, act_awake ha actReset, by rw [actReset, hsel]; exact actAon_acts hoff hlow _⟩
  case aon =>
    show Host.Outcome.next (settle (startUp true (s.strapped sel.val))) = _
    rw [← hsel]
    rfl

end Sys2Proof.Machine
end

section
/-! PROOF. The MGMT_SPI port (O46) and the TAP (O48). -/

namespace Sys2Proof.Machine

/-! ### Sessions and tags (R510, R511) -/

section
variable {s : State}

theorem sessKey_of_session {x : Session} {p : Path} (hx : s.sec.session = some x) (hp : x.path = p) :
    s.sessKey p = x.key.map (·, x.ctr) := by
  simp [State.sessKey, hx, hp]

theorem countAccess_of_session {x : Session} (hx : s.sec.session = some x) :
    countAccess s = { s with sec := { s.sec with session := some { x with ctr := x.ctr + 1 } } } := by
  rw [countAccess, hx]; rfl

/-- Counting an access changes nothing that the reach of a path depends on. -/
theorem countAccess_pathLevel (s : State) (p : Path) : (countAccess s).pathLevel p = s.pathLevel p := by
  unfold State.pathLevel countAccess
  cases s.sec.session <;> rfl

theorem countAccess_accessStatus (s : State) (p : Path) (w : Bool) (a : Nat) :
    (countAccess s).accessStatus p w a = s.accessStatus p w a := by
  have hd : (countAccess s).denied p w a = s.denied p w a := by
    cases p <;> simp only [State.denied, State.spiDenied, State.debugDenied, countAccess_pathLevel] <;> rfl
  unfold State.accessStatus
  rw [hd]
  rfl

theorem accessStatus_of_undecoded {a : Nat} {p : Path} {w : Bool} (h : s.accessStatus p w a = 1) (t : State) :
    t.accessStatus p w a = 1 := by
  unfold State.accessStatus at h ⊢
  split at h
  · omega
  · next h4 =>
    split at h
    · next hn => rw [if_neg h4, if_pos hn]
    · split at h
      · omega
      · split at h <;> omega

theorem dbgEnd_effects {x : Session} (hx : s.sec.session = some x) (cause : Nat) :
    (dbgEnd cause s).sec.session = none ∧ (dbgEnd cause s).rd R.SEC_DBG_STAT_END_CAUSE = cause % 16 ∧
      (dbgEnd cause s).raised = s.raised ++ [1497] := by
  unfold dbgEnd
  rw [if_neg (by simp [hx])]
  refine ⟨rfl, ?_, by simp only [State.raise_raised, State.wr_raised]⟩
  simp (disch := decide) only [State.raise_rd, State.rd_wr_key, State.rd_wr_same]
  rfl

theorem tagRefused_effects {x : Session} (hx : s.sec.session = some x) (p : Path) :
    (tagRefused p s).sec.session = none ∧ (tagRefused p s).rd R.SEC_DBG_STAT_END_CAUSE = 3 ∧
      (tagRefused p s).answerOf p = some (6, 0) ∧ (tagRefused p s).raised = s.raised ++ [1497] := by
  obtain ⟨hnone, hcause, hraised⟩ := dbgEnd_effects hx 3
  exact ⟨hnone, hcause, State.answerOf_answer .., hraised⟩

/-! ### Accesses with and without a tag (R561) -/

theorem plainRead_untagged {p : Path} (h : s.sessKey p = none) (a : Nat) : plainRead a p s = regRead a p s := by
  simp [plainRead, h]

theorem plainPut_untagged {p : Path} (h : s.sessKey p = none) (a v : Nat) : plainPut a v p s = regWrite a v p s := by
  simp [plainPut, h]

theorem taggedWrite_untagged {p : Path} (h : s.sessKey p = none) (a v : Nat) (tag : List Byte) :
    taggedWrite a v tag p s = regWrite a v p s := by
  simp [taggedWrite, h]

theorem plainRead_refused {p : Path} (h : (s.sessKey p).isSome = true) (a : Nat) : plainRead a p s = tagRefused p s := if_pos h

theorem plainPut_refused {p : Path} (h : (s.sessKey p).isSome = true) (a v : Nat) : plainPut a v p s = tagRefused p s := if_pos h

theorem taggedWrite_keyed {p : Path} {key : List Byte} {ctr : Nat} (h : s.sessKey p = some (key, ctr)) (a v : Nat) (tag : List Byte) :
    taggedWrite a v tag p s =
      if tag = accessTag key ctr 2 a v then regWrite a v p (countAccess s) else tagRefused p s := by
  simp [taggedWrite, h]

theorem regRead_failed {a : Nat} {p : Path} (h : s.accessStatus p false a ≠ 0) :
    regRead a p s = s.answer p (s.accessStatus p false a) 0 := if_pos h

/-- A read on MGMT_SPI that owes a tag and has its answer gives the tag: that of the session, or a free value. -/
theorem giveTag_spi {st d : Nat} (h : s.answerOf .spi = some (st, d)) (a : Nat) (k : Option (List Byte × Nat)) :
    (giveTag (.spi, a, k) s).answers = s.answers ∧ (giveTag (.spi, a, k) s).regs = s.regs ∧ (giveTag (.spi, a, k) s).cnt = s.cnt ∧
      ∀ key ctr, k = some (key, ctr) → (giveTag (.spi, a, k) s).io.spiTag = accessTag key ctr 1 a d := by
  unfold giveTag
  rw [if_neg (by simp [h])]
  cases k with
  | none =>
    simp only [returnTag, State.drawBytes_state]
    exact ⟨rfl, rfl, rfl, nofun⟩
  | some k =>
    refine ⟨rfl, rfl, rfl, fun key ctr hk => ?_⟩
    cases hk
    show accessTag key ctr 1 a (((s.answerOf .spi).map (·.2)).getD 0) = _
    rw [h]
    rfl

/-- A tagged read that fails answers its STATUS with the tag over no data, and changes no register. -/
theorem taggedRead_failed {a : Nat} (h : s.accessStatus .spi false a ≠ 0) :
    (taggedRead a .spi s).answerOf .spi = some (s.accessStatus .spi false a, 0) ∧ (taggedRead a .spi s).regs = s.regs ∧
      (taggedRead a .spi s).cnt = s.cnt ∧
      ∀ key ctr, s.sessKey .spi = some (key, ctr) → (taggedRead a .spi s).io.spiTag = accessTag key ctr 1 a 0 := by
  have hr : regRead a .spi (countAccess s) = (countAccess s).answer .spi (s.accessStatus .spi false a) 0 := by
    rw [regRead_failed (by rwa [countAccess_accessStatus]), countAccess_accessStatus]
  unfold taggedRead
  rw [hr]
  have hanswer := State.answerOf_answer (countAccess s) .spi (s.accessStatus .spi false a) 0
  obtain ⟨ha, hregs, hcnt, htag⟩ := giveTag_spi (s := { (countAccess s).answer .spi (s.accessStatus .spi false a) 0 with
    io := { s.io with tags := s.io.tags.filter (·.1 != .spi) ++ [(.spi, a, s.sessKey .spi)] } }) hanswer a (s.sessKey .spi)
  exact ⟨(congrArg (fun t : Tab (Option (Nat × Nat)) => t.get (some (0, 0)) (pathIx .spi)) ha).trans hanswer, hregs, hcnt, htag⟩

end

/-- Settles O46. -/
theorem spiCommands : Obligations.SpiCommands := by
  intro s a d tag hoff hlow
  have run (f : State → State) : actAon f s = .next (settle (f s)) := actAon_acts hoff hlow f
  have runs {f : State → State} {t : State} (h : f s = t) : actAon f s = .next (settle t) := h ▸ run f
  refine ⟨fun hk => ⟨runs (plainRead_untagged hk _), runs (plainPut_untagged hk _ _), runs (taggedWrite_untagged hk _ _ _)⟩,
    fun hk hst => ⟨_, run _, ?failed⟩, fun x hx hp hkey => ⟨_, runs (plainRead_refused ?_ _), runs (plainPut_refused ?_ _ _), ?refused⟩,
    fun x key hx hp hkey => ?keyed, run _, run id⟩
  case failed =>
    obtain ⟨hanswer, hregs, hcnt, -⟩ := taggedRead_failed hst
    exact ⟨hanswer, hregs, hcnt⟩
  case refused => exact tagRefused_effects hx .spi
  case keyed =>
    have hk : s.sessKey .spi = some (key, x.ctr) := by rw [sessKey_of_session hx hp, hkey]; rfl
    refine ⟨fun ht => ⟨_, runs ((taggedWrite_keyed hk _ _ _).trans (if_neg ht)), ?_⟩,
      fun ht => runs ((taggedWrite_keyed hk _ _ _).trans ((if_pos ht).trans ?_)), fun hst => ⟨_, run _, ?_⟩⟩
    · obtain ⟨hnone, -, hanswer, -⟩ := tagRefused_effects hx .spi
      exact ⟨hnone, hanswer⟩
    · rw [countAccess_of_session hx]
    · obtain ⟨hanswer, -, -, htag⟩ := taggedRead_failed (s := s) (a := a.toNat) (by rw [hst]; decide)
      exact ⟨htag _ _ hk, by rw [hanswer, hst]⟩
  all_goals rw [sessKey_of_session hx hp]; simpa using hkey

/-! ### The TAP (R545 to R547) -/

section
variable {s : State}

/-- Instruction `e` is in force. -/
def State.withIr (s : State) (e : Nat) : State := { s with io := { s.io with dbg := { s.io.dbg with ir := e } } }

theorem tapForce_of_idle_balls (h : s.io.dbg.ir < 3 ∨ 7 < s.io.dbg.ir) (e : Nat) :
    tapForce e s = s.withIr e := if_neg (by omega)

theorem tapReset_of_driven_balls (h3 : 3 ≤ s.io.dbg.ir) (h7 : s.io.dbg.ir ≤ 7) :
    tapReset s = actReset (s.withIr 1) := if_pos (by omega)

theorem dbgRead_busy (h : s.dbgReady = false) (a : Nat) (tag : List Byte) : dbgRead a tag s = s := by simp [dbgRead, h]

theorem dbgPut_busy (h : s.dbgReady = false) (a v : Nat) (tag : List Byte) : dbgPut a v tag s = s := by simp [dbgPut, h]

theorem dbgRead_untagged (h : s.dbgReady = true) (hk : s.sessKey .debug = none) (a : Nat) (tag : List Byte) :
    dbgRead a tag s = regRead a .debug (setDbg a (zeros 16) s) := by simp [dbgRead, h, hk]

theorem dbgRead_refused {key : List Byte} {ctr : Nat} (h : s.dbgReady = true) (hk : s.sessKey .debug = some (key, ctr)) {a : Nat}
    {tag : List Byte} (ht : tag ≠ accessTag key ctr 1 a 0) : dbgRead a tag s = tagRefused .debug (setDbg a (zeros 16) s) := by
  simp [dbgRead, h, hk, ht]

theorem dbgPut_untagged (h : s.dbgReady = true) (hk : s.sessKey .debug = none) (a v : Nat) (tag : List Byte) :
    dbgPut a v tag s = setDbg a (zeros 16) ((regWrite a v .debug s).answer .debug
      ((((regWrite a v .debug s).answerOf .debug).map (·.1)).getD 0) v) := by
  simp [dbgPut, h, taggedWrite_untagged hk]

theorem dbgStatus_answered (st v : Nat) : dbgStatus (some (st, v)) = if st = 0 then 0 else if st = 3 ∨ st = 6 then 3 else 2 := by
  match st with
  | 0 | 1 | 2 | 3 | 4 | 5 | 6 => rfl
  | n + 7 => exact ((if_neg (by omega)).trans (if_neg (by omega))).symm

end

/-- Settles O48. -/
theorem tapCommands : Obligations.TapCommands := by
  intro s ha
  refine ⟨fun ir h => act_of_eq ha (tapForce_of_idle_balls h _), fun ir => act_awake ha (tapLoad ir.toNat),
    fun h => act_of_eq ha (tapForce_of_idle_balls h 1), fun h3 h7 ht => ⟨_, act_of_eq ha (tapReset_of_driven_balls h3 h7), ?reset⟩,
    fun a d tag h => ⟨act_of_eq ha (dbgRead_busy h _ _), act_of_eq ha (dbgPut_busy h _ _ _)⟩,
    fun a d tag h hk => ⟨_, _, act_of_eq ha (dbgRead_untagged h hk _ _), act_of_eq ha (dbgPut_untagged h hk _ _ _), rfl, rfl, ?_⟩,
    fun a tag x key h hx hp hkey ht => ⟨_, act_of_eq ha (dbgRead_refused h ?_ ht), ?refused⟩,
    fun st v h => act_of_eq ha ?captured, fun h => ⟨_, act_awake ha dbgCapture, ?pending⟩⟩
  case reset =>
    obtain ⟨hoff, -, -⟩ := asleep_false_iff.mp ha
    have h := startUp_in_clock ((s.withIr 1).strapped s.boot.selPins) ht
    have e : actReset (s.withIr 1) = startUp false ((s.withIr 1).strapped s.boot.selPins) := sysReset_powered _ hoff
    rw [e]
    exact ⟨by rw [h.io]; rfl, h.stage, h.step, h.fuses⟩
  case refused =>
    obtain ⟨hnone, -, hanswer, -⟩ := tagRefused_effects (s := setDbg a.toNat (zeros 16) s) hx .debug
    exact ⟨hnone, hanswer⟩
  case captured => simp [dbgCapture, h, dbgStatus_answered]
  case pending => simp [dbgCapture, h, dbgStatus]
  · exact State.answerOf_answer ..
  · rw [sessKey_of_session hx hp, hkey]; rfl

end Sys2Proof.Machine
end

section
/-! PROOF. Primer (O37). -/

namespace Sys2Proof.Machine

/-! ### The core PLL locks (R482, R484) -/

/-- Chalk has started, Primer is in its stage, and BOOT_SEL and the lifecycle are those of state `z`. -/
structure ChalkStarted (z t : State) : Prop where
  chalk : t.chalk = { Chalk.init with run := true }
  stage : t.stage = 1
  strap : t.rd R.BOT_STRAP_SEL = z.rd R.BOT_STRAP_SEL
  lc : t.fuses.lc = z.fuses.lc

section
variable {z t u : State}

theorem ChalkStarted.journalled (h : ChalkStarted z t) (hj : Journalled t u) : ChalkStarted z u where
  chalk := by rw [hj.rest]; exact h.chalk
  stage := (hj.rd R.BOT_STAT_STAGE (.inr (by decide))).trans h.stage
  strap := (hj.rd R.BOT_STRAP_SEL (.inr (by decide))).trans h.strap
  lc := by rw [hj.rest]; exact h.lc

theorem ChalkStarted.setStep (h : ChalkStarted z t) (v : Nat) : ChalkStarted z (setStep v t) where
  chalk := h.chalk
  stage := (setStep_stage v t).trans h.stage
  strap := (State.rd_wr_key t v (by decide)).trans h.strap
  lc := h.lc

theorem ChalkStarted.raiseIf (h : ChalkStarted z t) (b : Bool) (e : Nat) : ChalkStarted z (t.raiseIf b e) := by
  cases b
  · exact h
  · exact ⟨h.chalk, h.stage, h.strap, h.lc⟩

theorem ChalkStarted.newNonce (h : ChalkStarted z t) : ChalkStarted z (newNonce t) := by
  unfold Machine.newNonce
  dsimp only
  rw [State.drawBytes_state]
  exact ⟨h.chalk, h.stage, h.strap, h.lc⟩

end

theorem ChalkStarted.jnlDecisions {z t : State} (h : ChalkStarted z t) : ChalkStarted z (jnlDecisions t) :=
  ⟨h.chalk, h.stage, h.strap, h.lc⟩

theorem ChalkStarted.eraseKeys {z t : State} (h : ChalkStarted z t) : ChalkStarted z (eraseKeys t) := ⟨h.chalk, h.stage, h.strap, h.lc⟩

/-- JOURNAL begins: CLOCK is recorded, unless a failed try has been, and the entries are cleared on a read error of MRAM. -/
def journalBegin (jerr : Bool) (s : State) : State :=
  let s1 := { s with chalk := { Chalk.init with run := true } }
  let s2 := setStep 3 (if s.boot.clockFail then s1 else jnlDevice 2 0 s1)
  if jerr then jnlStore (zeros 1024) (s2.raise 1491) else s2

/-- JOURNAL ends: the decisions are taken and the keys of Primer are in place. -/
def journalEnd (bad : Nat) (jerr : Bool) (s : State) : State :=
  let fail := jerr || s.boot.early.any (·.1 == 1491)
  let s4 := jnlDevice 3 (b2n fail) (jnlDecisions (journalBegin jerr s))
  let s5 := if s4.fuses.erasing then eraseKeys s4 else s4
  newNonce (({ s5 with sec := { Sec.init with bad := bad &&& 0xFFFE } }).raiseIf
    ((List.range 16).any (fun k => k != 0 && bad.testBit k && s5.keyPresent k)) 1498)

section
variable {s : State}

theorem journalBegin_started (h : s.stage = 1) (jerr : Bool) : ChalkStarted s (journalBegin jerr s) := by
  have h1 : ChalkStarted s { s with chalk := { Chalk.init with run := true } } := ⟨rfl, h, rfl, rfl⟩
  have h2 : ChalkStarted s (setStep 3 (if s.boot.clockFail then { s with chalk := { Chalk.init with run := true } }
      else jnlDevice 2 0 { s with chalk := { Chalk.init with run := true } })) := by
    refine ChalkStarted.setStep ?_ 3
    split
    · exact h1
    · exact h1.journalled (jnlDevice_journalled _ 2 0)
  unfold journalBegin
  dsimp only
  split
  · exact h2.journalled ((Journalled.raise 1491).trans (jnlStore_journalled _ _))
  · exact h2

theorem journalEnd_started (h : s.stage = 1) (bad : Nat) (jerr : Bool) : ChalkStarted s (journalEnd bad jerr s) := by
  have h4 := (journalBegin_started h jerr).jnlDecisions.journalled
    (jnlDevice_journalled _ 3 (b2n (jerr || s.boot.early.any (·.1 == 1491))))
  have sec {t : State} (ht : ChalkStarted s t) (x : Sec) : ChalkStarted s { t with sec := x } := ⟨ht.chalk, ht.stage, ht.strap, ht.lc⟩
  refine ChalkStarted.newNonce (ChalkStarted.raiseIf (sec ?_ _) _ _)
  split
  · exact h4.eraseKeys
  · exact h4

theorem coreLock_eq (h : s.stage = 1) (hstep : s.rd R.BOT_STAT_STEP = 2) (bad : Nat) (jerr : Bool) :
    coreLock bad jerr s =
      let t := journalEnd bad jerr s
      if t.rd R.BOT_STRAP_SEL ≤ 3 then
        setStep 4 { t.wr R.BOT_STAT_SRC (t.rd R.BOT_STRAP_SEL / 3) with boot := { t.boot with pref := 2, candidates := [] } }
      else if t.rd R.BOT_STRAP_SEL = 4 then setStage 2 (setStep 4 (t.wr R.BOT_STAT_SRC 2))
      else if t.rd R.BOT_STRAP_SEL = 7 ∧ t.fuses.lc = 0 then
        setStep 4 { t with boot := { t.boot with d3 := true }, sec := { t.sec with bad := 0xFFFE } }
      else setStage 6 (setStep 0 (t.wr R.BOT_STAT_SAFE_CAUSE 2)) := if_neg (by simp [h, hstep])

theorem coreLock_later (h : s.stage ≠ 1 ∨ s.rd R.BOT_STAT_STEP ≠ 2) (bad : Nat) (jerr : Bool) : coreLock bad jerr s = s := if_pos h

theorem setStage_step (v : Nat) (s : State) : (setStage v s).rd R.BOT_STAT_STEP = s.rd R.BOT_STAT_STEP :=
  (setStage_rd v s _).trans (State.rd_wr_key s v (by decide))

/-- BOOT_SEL chooses the source of the firmware. -/
theorem coreLock_effects (h : s.stage = 1) (hstep : s.rd R.BOT_STAT_STEP = 2) (bad : Nat) (jerr : Bool) :
    let t := coreLock bad jerr s
    t.chalk = { Chalk.init with run := true } ∧
    (s.rd R.BOT_STRAP_SEL ≤ 3 → t.stage = 1 ∧ t.rd R.BOT_STAT_STEP = 4 ∧ t.rd R.BOT_STAT_SRC = s.rd R.BOT_STRAP_SEL / 3) ∧
    (s.rd R.BOT_STRAP_SEL = 4 → t.stage = 2 ∧ t.rd R.BOT_STAT_SRC = 2) ∧
    (s.rd R.BOT_STRAP_SEL = 5 ∨ s.rd R.BOT_STRAP_SEL = 6 → t.stage = 6 ∧ t.rd R.BOT_STAT_SAFE_CAUSE = 2) ∧
    (s.rd R.BOT_STRAP_SEL = 7 → s.fuses.lc = 0 → t.stage = 1 ∧ t.rd R.BOT_STAT_STEP = 4 ∧ t.boot.d3 = true) ∧
    (s.rd R.BOT_STRAP_SEL = 7 → s.fuses.lc ≠ 0 → t.stage = 6 ∧ t.rd R.BOT_STAT_SAFE_CAUSE = 2) := by
  obtain ⟨hchalk, hstage, hstrap, hlc⟩ := journalEnd_started h bad jerr
  have safe : (setStage 6 (setStep 0 ((journalEnd bad jerr s).wr R.BOT_STAT_SAFE_CAUSE 2))).stage = 6 ∧
      (setStage 6 (setStep 0 ((journalEnd bad jerr s).wr R.BOT_STAT_SAFE_CAUSE 2))).rd R.BOT_STAT_SAFE_CAUSE = 2 := by
    refine ⟨setStage_stage 6 _, ?_⟩
    rw [setStage_rd, setStep]
    simp (disch := decide) only [State.rd_wr_key, State.rd_wr_same]
    rfl
  dsimp only
  rw [coreLock_eq h hstep]
  dsimp only
  rw [hstrap, hlc]
  split
  · next h3 =>
    refine ⟨hchalk, fun _ => ⟨(setStep_stage 4 _).trans ((State.rd_wr_key _ _ (by decide)).trans hstage), setStep_step 4 _, ?_⟩,
      fun _ => by omega, fun _ => by omega, fun _ => by omega, fun _ => by omega⟩
    refine (State.rd_wr_key _ _ (by decide)).trans ((State.rd_wr_same (journalEnd bad jerr s) R.BOT_STAT_SRC _).trans ?_)
    exact Nat.mod_eq_of_lt (show s.rd R.BOT_STRAP_SEL / 3 < 4 by omega)
  · next h3 =>
    split
    · next h4 =>
      refine ⟨hchalk, fun _ => by omega, fun _ => ⟨setStage_stage 2 _, ?_⟩, fun _ => by omega, fun _ => by omega, fun _ => by omega⟩
      rw [setStage_rd, setStep]
      simp (disch := decide) only [State.rd_wr_key, State.rd_wr_same]
      rfl
    · next h4 =>
      split
      · next h7 =>
        exact ⟨hchalk, fun _ => by omega, fun _ => by omega, fun _ => by omega,
          fun _ _ => ⟨(setStep_stage 4 _).trans hstage, setStep_step 4 _, rfl⟩, fun _ h0 => absurd h7.2 h0⟩
      · next h7 =>
        exact ⟨hchalk, fun _ => by omega, fun _ => by omega, fun _ => safe, fun h0 h1 => absurd ⟨h0, h1⟩ h7, fun _ _ => safe⟩

theorem jnlAppend_rd (rec es : List Byte) (f : Fld) :
    (jnlAppend rec es s).rd f = (s.wr R.BOT_JNL_NEXT_N ((s.rd R.BOT_JNL_NEXT_N + 1) % jnlRing)).rd f := rfl

/-- A record of the device advances the ring by one. -/
theorem jnlDevice_next (step outcome : Nat) : (jnlDevice step outcome s).rd R.BOT_JNL_NEXT_N = (s.rd R.BOT_JNL_NEXT_N + 1) % 7936 := by
  have hlt : (s.rd R.BOT_JNL_NEXT_N + 1) % 7936 < 2 ^ R.BOT_JNL_NEXT_N.w := by show _ < 2 ^ 13; omega
  rw [jnlDevice, State.raiseIf_rd, jnlAppend_rd]
  exact State.rd_wr_lt s hlt

theorem jnlDevice_raised (step outcome : Nat) :
    (jnlDevice step outcome s).raised = if outcome == 1 then s.raised ++ [1488] else s.raised := State.raiseIf_raised ..

/-- The first retry of CLOCK in a start is recorded as a failure. -/
theorem clockRetry_first (h : s.stage = 1) (hstep : s.rd R.BOT_STAT_STEP = 2) (hf : s.boot.clockFail = false) :
    (clockRetry s).boot.clockFail = true ∧ (clockRetry s).rd R.BOT_JNL_NEXT_N = (s.rd R.BOT_JNL_NEXT_N + 1) % 7936 ∧
      (clockRetry s).raised = s.raised ++ [1488] := by
  unfold clockRetry
  rw [if_neg (by simp [h, hstep, hf])]
  have hraised : (jnlDevice 2 1 s).raised = s.raised ++ [1488] := by rw [jnlDevice_raised]; rfl
  have hnext := jnlDevice_next (s := s) 2 1
  generalize jnlDevice 2 1 s = t at hraised hnext ⊢
  exact ⟨rfl, hnext, hraised⟩

theorem clockRetry_again (hf : s.boot.clockFail = true) : clockRetry s = s := if_pos (.inr (.inr hf))

end

/-! ### Undercoat begins (R483, R489) -/

section
variable {s : State}

/-- Channels `l` begin to train. -/
theorem forAll_train_state (l : List Nat) : ∀ s : State, ∀ m, (m ∈ l ∨ s.rd (R.MEM_CH_STAT_STATE m) = 1) →
    (s.forAll l (fun m t => t.wr (R.MEM_CH_STAT_STATE m) 1)).rd (R.MEM_CH_STAT_STATE m) = 1 := by
  induction l with
  | nil => exact fun s m h => h.resolve_left (by simp)
  | cons i l ih =>
    intro s m h
    refine ih _ m ?_
    by_cases hi : m = i
    · right; rw [hi, State.rd_wr_same]; rfl
    · rcases h with h | h
      · exact .inl ((List.mem_cons.mp h).resolve_left hi)
      · exact .inr ((State.rd_wr_key _ _ (by show (32 * _ + _ : Nat) ≠ 32 * _ + _; omega)).trans h)

theorem forAll_train_rd {f : Fld} (hf : f.blk ≠ .mem) (l : List Nat) (s : State) :
    (s.forAll l (fun m t => t.wr (R.MEM_CH_STAT_STATE m) 1)).rd f = s.rd f :=
  State.forAll_induct (P := fun t => t.rd f = s.rd f) (fun _ t h => (State.rd_wr_blk t 1 hf).trans h) l s rfl

theorem forAll_train_rest (l : List Nat) (s : State) :
    (s.forAll l (fun m t => t.wr (R.MEM_CH_STAT_STATE m) 1)).boot = s.boot ∧
    (s.forAll l (fun m t => t.wr (R.MEM_CH_STAT_STATE m) 1)).pins = s.pins := by
  refine State.forAll_induct (P := fun t => t.boot = s.boot ∧ t.pins = s.pins) ?_ l s ⟨rfl, rfl⟩
  exact fun _ _ h => h

/-- The channels `go` train, with bin `b`, alternate set `a` and size `g`. -/
def State.trained (s : State) (b a g : Nat) (go : List Nat) : State :=
  let t := ((s.wr R.MEM_STAT_BIN b).wr R.MEM_STAT_ALT a).forAll go (fun m t => t.wr (R.MEM_CH_STAT_STATE m) 1)
  { t with boot := { t.boot with training := go }, mem := { t.mem with gib := g } }

/-- State `t` is state `z` with channels that train; registers of other blocks stay. -/
structure Training (z t : State) : Prop where
  rd (f : Fld) (h : f.blk ≠ .mem) : t.rd f = z.rd f
  boot : t.boot = { z.boot with training := t.boot.training }
  pins : t.pins = z.pins
  trains : ∀ m ∈ t.boot.training, t.rd (R.MEM_CH_STAT_STATE m) = 1

theorem trained_training (b a g : Nat) (go : List Nat) : Training s (s.trained b a g go) := by
  obtain ⟨hboot, hpins⟩ := forAll_train_rest go ((s.wr R.MEM_STAT_BIN b).wr R.MEM_STAT_ALT a)
  refine ⟨fun f hf => ?_, ?_, hpins, fun m hm => forAll_train_state go _ m (.inl hm)⟩
  · exact (forAll_train_rd hf go _).trans ((State.rd_wr_blk _ _ hf).trans (State.rd_wr_blk _ _ hf))
  · exact congrArg (fun x : Boot => { x with training := go }) hboot

/-- MEMORY starts, with no channel to skip: the channels of the plan train. -/
theorem memoryStart_training (hd : ∀ m, m < 8 → s.decision (192 + m) ≠ 2) : Training s (memoryStart s) := by
  have hskip (mask : Nat) : ((List.range 8).filter (mask.testBit ·)).filter (fun m => s.decision (192 + m) == 2) = [] := by
    simp only [List.filter_eq_nil_iff, List.mem_filter, List.mem_range, beq_iff_eq, and_imp]
    exact fun m hm _ => hd m hm
  unfold memoryStart
  dsimp only
  simp only [hskip]
  exact trained_training ..

/-- Undercoat begins without an event of Primer: the watchdog runs, ALIVE runs, and the channels train. -/
structure InUndercoat (z t : State) : Prop where
  stage : t.stage = 3
  step : t.rd R.BOT_STAT_STEP = 0x10
  rd (f : Fld) (h : f.blk ≠ .mem) (hk : f.key ∉ [R.BOT_STAT_STAGE.key, R.BOT_STAT_STEP.key]) : t.rd f = z.rd f
  watchdog : t.boot.watchdog = true
  runs : t.pins.runs = true
  trains : ∀ m ∈ t.boot.training, t.rd (R.MEM_CH_STAT_STATE m) = 1

/-- The watchdog and ALIVE run, and the collector has taken the events of Primer. -/
def State.guarded (s : State) : State :=
  { s with boot := { s.boot with early := [], watchdog := true }, pins := { s.pins with runs := true } }

theorem undercoat_begins (he : s.boot.early = []) (hd : ∀ m, m < 8 → s.decision (192 + m) ≠ 2) : InUndercoat s (undercoat s) := by
  have e : undercoat s = memoryStart (setStep 0x10 (setStage 3 s.guarded)) := by
    unfold undercoat
    rw [he]
    rfl
  have h := memoryStart_training (s := setStep 0x10 (setStage 3 s.guarded)) hd
  rw [e]
  refine ⟨?_, ?_, fun f hf hk => ?_, ?_, ?_, h.trains⟩
  · exact (h.rd R.BOT_STAT_STAGE (by decide)).trans ((setStep_stage _ _).trans (setStage_stage 3 _))
  · exact (h.rd R.BOT_STAT_STEP (by decide)).trans (setStep_step _ _)
  · simp only [List.mem_cons, List.not_mem_nil, or_false, not_or] at hk
    refine (h.rd f hf).trans ((State.rd_wr_key _ _ hk.2).trans ((setStage_rd 3 _ f).trans ?_))
    exact State.rd_wr_key _ _ hk.1
  · rw [h.boot]; rfl
  · rw [h.pins]; rfl

theorem fwRun_boot (c l : FwInfo) : (fwRun c l s).boot = s.boot := by
  unfold fwRun
  dsimp only
  split <;> simp only [State.raise_boot, State.wr_boot]

/-- What a register reads after the firmware's versions have been shown. -/
theorem fwRun_rd (c l : FwInfo) {f : Fld} (hf : f.key ≠ R.BOT_STAT_UNTESTED_PAIR.key) :
    (fwRun c l s).rd f = ((((s.wr R.BOT_FW_INFO_CMAJ c.major).wr R.BOT_FW_INFO_CMIN c.minor).wr R.BOT_FW_INFO_LMAJ l.major).wr
      R.BOT_FW_INFO_LMIN l.minor).rd f := by
  unfold fwRun
  dsimp only
  split
  · exact State.rd_wr_key _ 1 hf
  · rfl

/-- The slot image runs. -/
theorem slotRun_begins (c : Nat) (ci li : FwInfo) (he : s.boot.early = []) (hd : ∀ m, m < 8 → s.decision (192 + m) ≠ 2) :
    (slotRun c ci li s).stage = 3 ∧ (slotRun c ci li s).rd R.BOT_STAT_STEP = 0x10 ∧ (slotRun c ci li s).rd R.BOT_STAT_SLOT = c % 2 ∧
    (slotRun c ci li s).rd R.BOT_FW_INFO_CMAJ = ci.major % 2 ^ 8 ∧ (slotRun c ci li s).rd R.BOT_FW_INFO_LMAJ = li.major % 2 ^ 8 ∧
    (slotRun c ci li s).rd R.BOT_STAT_SRC = s.rd R.BOT_STAT_SRC ∧ (slotRun c ci li s).rd R.BOT_STAT_SAFE_CAUSE = s.rd R.BOT_STAT_SAFE_CAUSE ∧
    (slotRun c ci li s).boot.watchdog = true ∧ (slotRun c ci li s).pins.runs = true ∧
    ∀ m ∈ (slotRun c ci li s).boot.training, (slotRun c ci li s).rd (R.MEM_CH_STAT_STATE m) = 1 := by
  have h := undercoat_begins (s := fwRun ci li (({ s with boot := { s.boot with lastSlot := c } } : State).wr R.BOT_STAT_SLOT (c % 2)))
    (by rw [fwRun_boot]; exact he) (fun m hm => by rw [State.decision, fwRun_boot]; exact hd m hm)
  have rd (f : Fld) (hb : f.blk = .bot) (hf : f.key ∉ [R.BOT_STAT_STAGE.key, R.BOT_STAT_STEP.key])
      (hu : f.key ≠ R.BOT_STAT_UNTESTED_PAIR.key) := (h.rd f (by rw [hb]; decide) hf).trans (fwRun_rd ci li hu)
  refine ⟨h.stage, h.step, (rd _ rfl (by decide) (by decide)).trans ?_, (rd _ rfl (by decide) (by decide)).trans ?_,
    (rd _ rfl (by decide) (by decide)).trans ?_, (rd _ rfl (by decide) (by decide)).trans ?_,
    (rd _ rfl (by decide) (by decide)).trans ?_, h.watchdog, h.runs, h.trains⟩
  all_goals simp (disch := decide) only [State.rd_wr_key, State.rd_wr_same]
  · exact Nat.mod_eq_of_lt (show c % 2 < 2 by omega)
  all_goals rfl

end

/-! ### The firmware slots (R482, R486) -/

section
variable {s : State}

theorem slotDone_later (a b : List Byte) (h : s.stage ≠ 1 ∨ s.rd R.BOT_STAT_STEP ≠ 4) : slotDone a b s = s :=
  if_pos (h.elim .inl fun h => .inr (.inl h))

/-- Candidate `c` is tried, `rest` being left. -/
def State.tried (s : State) (rest : List Nat) : State := { s with boot := { s.boot with candidates := rest } }

/-- Primer is left for safe mode, no slot having been found. -/
def slotless (s : State) : State := setStage 6 (setStep 0 (s.wr R.BOT_STAT_SAFE_CAUSE 1))

section
variable (h : s.stage = 1) (hstep : s.rd R.BOT_STAT_STEP = 4) (hsel : s.rd R.BOT_STRAP_SEL ≤ 2) (hpref : s.boot.pref ≠ 2)
  {a b : List Byte} {c : Nat} {rest : List Nat} (hc : s.boot.candidates = c :: rest)
include h hstep hsel hpref hc

/-- A slot that does not verify is recorded, and leaves the other one or none. -/
theorem slotDone_refused {e : Nat × Nat × Nat} (he : s.slotCheck (if c = 0 then a else b) 0x4000000 = .error e) :
    ∃ t, Journalled (s.tried rest) t ∧ slotDone a b s = if rest.isEmpty then slotless t else t := by
  obtain ⟨oc, cause, st⟩ := e
  refine ⟨jnlOutcome 4 (209 + c) (0xFFFA + c) oc (b2n (c != s.boot.pref)) cause (leAt (if c = 0 then a else b) 8 4)
    (authEvent st (s.tried rest)), (Journalled.raiseIf _ _).trans (jnlOutcome_journalled ..), ?_⟩
  have h3 : ¬ s.rd R.BOT_STRAP_SEL = 3 := by omega
  unfold slotDone
  rw [if_neg (by omega)]
  simp only [hpref, hc, if_false, if_neg h3]
  generalize hr : State.slotCheck _ _ _ = r
  obtain rfl : r = .error (oc, cause, st) := hr.symm.trans he
  rfl

/-- A slot that verifies is recorded and runs. -/
theorem slotDone_verified {x : FwInfo × FwInfo} (hx : s.slotCheck (if c = 0 then a else b) 0x4000000 = .ok x) :
    ∃ t, slotDone a b s = slotRun c x.1 x.2 t ∧ t.boot.early = s.boot.early ∧ t.boot.decisions = s.boot.decisions := by
  obtain ⟨ci, li⟩ := x
  have h3 : ¬ s.rd R.BOT_STRAP_SEL = 3 := by omega
  unfold slotDone
  rw [if_neg (by omega)]
  simp only [hpref, hc, if_false, if_neg h3]
  generalize hr : State.slotCheck _ _ _ = r
  obtain rfl : r = .ok (ci, li) := hr.symm.trans hx
  refine ⟨_, rfl, ?_⟩
  have boot (p : Prop) [Decidable p] (t : State) (ht : t.boot.early = s.boot.early ∧ t.boot.decisions = s.boot.decisions) :
      (if p then (t.wr R.BOT_STAT_ALT_SLOT 1).raise 1490 else t).boot.early = s.boot.early ∧
      (if p then (t.wr R.BOT_STAT_ALT_SLOT 1).raise 1490 else t).boot.decisions = s.boot.decisions := by
    split <;> exact ht
  refine boot _ _ ?_
  rw [(jnlOutcome_journalled ..).boot]
  exact ⟨rfl, rfl⟩

end

theorem slotless_effects : (slotless s).stage = 6 ∧ (slotless s).rd R.BOT_STAT_STEP = 0 ∧ (slotless s).rd R.BOT_STAT_SAFE_CAUSE = 1 := by
  refine ⟨setStage_stage 6 _, (setStage_step 6 _).trans (setStep_step 0 _), ?_⟩
  rw [slotless, setStage_rd, setStep]
  simp (disch := decide) only [State.rd_wr_key, State.rd_wr_same]
  rfl

end

/-- Settles O37. -/
theorem primerCommands : Obligations.PrimerCommands := by
  intro s ha
  refine ⟨fun bad jerr h hstep => ⟨_, act_awake ha _, coreLock_effects h hstep bad.toNat jerr⟩,
    fun bad jerr h => act_of_eq ha (coreLock_later h bad.toNat jerr), fun h hstep hf => ⟨_, act_awake ha _, clockRetry_first h hstep hf⟩, fun hf => act_of_eq ha (clockRetry_again hf),
    fun a b _ _ _ => act_awake ha (slotDone a b), fun a b h => act_of_eq ha (slotDone_later a b h),
    fun a b c d l e h hstep hsel hpref hc he => ⟨_, act_awake ha (slotDone a b), ?next⟩,
    fun a b c e h hstep hsel hpref hc he => ⟨_, act_awake ha (slotDone a b), ?last⟩,
    fun a b c l x h hstep hsel hpref hc hearly hd => ⟨_, act_awake ha (slotDone a b), fun hx => ?runs⟩⟩
  case next =>
    obtain ⟨t, ht, e⟩ := slotDone_refused h hstep hsel hpref hc he
    rw [e]
    exact ⟨(ht.rd R.BOT_STAT_STAGE (.inr (by decide))).trans h, (ht.rd R.BOT_STAT_STEP (.inr (by decide))).trans hstep,
      congrArg Boot.candidates ht.boot⟩
  case last =>
    obtain ⟨t, ht, e⟩ := slotDone_refused h hstep hsel hpref hc he
    rw [e]
    exact slotless_effects
  case runs =>
    obtain ⟨t, e, hte, htd⟩ := slotDone_verified h hstep hsel hpref hc hx
    rw [e]
    obtain ⟨h1, h2, h3, h4, h5, -, -, h6, h7, h8⟩ := slotRun_begins (s := t) c x.1 x.2 (hte.trans hearly)
      (fun m hm => by rw [State.decision, htd]; exact hd m hm)
    exact ⟨h1, h2, h3, h4, h5, h6, h7, h8⟩

end Sys2Proof.Machine
end

section
/-! PROOF. What the row pipeline leaves unchanged: generators, Render, Seam and Skim touch their own state alone. -/

namespace Sys2Proof.Machine

/-- Blocks of the row pipeline: the trigger generators, Render and Seam with Skim. -/
def Blk.rowSide : Blk → Bool
  | .chk | .rnd | .sem => true
  | _ => false

/-- State `t` differs from `z` in the row pipeline alone. -/
structure RowSide (z t : State) : Prop where
  rest : t = { z with regs := t.regs, cnt := t.cnt, tgs := t.tgs, seams := t.seams, rnds := t.rnds, skims := t.skims,
                      skimGs := t.skimGs, commits := t.commits }
  rd (f : Fld) (h : f.blk.rowSide = false) : t.rd f = z.rd f

section
variable {z t : State}

theorem RowSide.refl (z : State) : RowSide z z := ⟨rfl, fun _ _ => rfl⟩

theorem RowSide.wr (h : RowSide z t) {f : Fld} (hf : f.blk.rowSide = true) (v : Nat) : RowSide z (t.wr f v) where
  rest := by rw [h.rest]; rfl
  rd g hg := (State.rd_wr_blk t v (fun e => by rw [e, hf] at hg; cases hg)).trans (h.rd g hg)

theorem RowSide.inc (h : RowSide z t) (f : Fld) (k : Nat) : RowSide z (t.inc f k) := ⟨by rw [h.rest]; rfl, h.rd⟩
theorem RowSide.setTg (h : RowSide z t) (g : Nat) (x : Tg) : RowSide z (t.setTg g x) := ⟨by rw [h.rest]; rfl, h.rd⟩
theorem RowSide.setSeam (h : RowSide z t) (g : Nat) (x : Seam) : RowSide z (t.setSeam g x) := ⟨by rw [h.rest]; rfl, h.rd⟩
theorem RowSide.setRnd (h : RowSide z t) (e : Nat) (x : Rnd) : RowSide z (t.setRnd e x) := ⟨by rw [h.rest]; rfl, h.rd⟩
theorem RowSide.setSkim (h : RowSide z t) (e : Nat) (x : SkimPort) : RowSide z (t.setSkim e x) := ⟨by rw [h.rest]; rfl, h.rd⟩
theorem RowSide.setSkimG (h : RowSide z t) (g : Nat) (x : SkimGrp) : RowSide z (t.setSkimG g x) := ⟨by rw [h.rest]; rfl, h.rd⟩
theorem RowSide.setCommit (h : RowSide z t) (g : Nat) (x : Option PendSet) : RowSide z (t.setCommit g x) := ⟨by rw [h.rest]; rfl, h.rd⟩

theorem RowSide.when (h : RowSide z t) (b : Bool) {f : State → State} (hf : RowSide z (f t)) : RowSide z (t.when b f) := by
  cases b
  · exact h
  · exact hf

theorem RowSide.ite {p : Prop} [Decidable p] {a b : State} (ha : p → RowSide z a) (hb : ¬ p → RowSide z b) :
    RowSide z (if p then a else b) := by
  split
  · exact ha ‹_›
  · exact hb ‹_›

theorem RowSide.forAll (h : RowSide z t) {f : Nat → State → State} (hf : ∀ i u, RowSide z u → RowSide z (f i u)) (l : List Nat) :
    RowSide z (t.forAll l f) := State.forAll_induct hf l t h

theorem RowSide.foldl {α : Type} {f : State → α → State} (hf : ∀ u x, RowSide z u → RowSide z (f u x)) :
    ∀ (l : List α) {t : State}, RowSide z t → RowSide z (l.foldl f t)
  | [], _, h => h
  | x :: l, _, h => RowSide.foldl hf l (hf _ x h)

end

/-! ### Skim and the generators (R97, R98, R167 to R169) -/

section
variable {z s : State} (h : RowSide z s)
include h

theorem RowSide.setStart (g t : Nat) : RowSide z (setStart g t s) := (h.wr rfl _).wr rfl _

theorem RowSide.skimFirstRow (g old n : Nat) : RowSide z (skimFirstRow g old n s) :=
  RowSide.ite (fun _ => (h.setSkimG ..).wr rfl _) (fun _ => h)

theorem RowSide.skimLevels (g row : Nat) (v : Nat → Option Nat) : RowSide z (skimLevels g row v s) := by
  refine RowSide.setSkimG (h.forAll (fun p u hu => ?_) _) ..
  split
  · exact hu.wr (by rw [bglReg_blk]; rfl) _
  · exact hu

theorem RowSide.skimEpochStart (g e n : Nat) : RowSide z (skimEpochStart g e n s) := h.setSkim ..

theorem RowSide.skimStart (g r0 : Nat) : RowSide z (skimStart g r0 s) := by
  refine RowSide.forAll ?_ (fun e u hu => ?_) _
  · exact RowSide.wr (RowSide.wr (RowSide.wr (RowSide.wr (RowSide.setSeam (RowSide.skimLevels (h.setSkimG ..) ..) ..) rfl _) rfl _)
      rfl _) rfl _
  · have h1 := RowSide.skimEpochStart (RowSide.wr hu (f := R.RND_STAT_SKIM_OWNS e) rfl 1) g e r0
    exact RowSide.ite (fun _ => h1.wr rfl _) (fun _ => (h1.wr rfl _).wr rfl _)

theorem RowSide.tgRunning (g : Nat) : RowSide z (s.tgRunning g) := by
  unfold State.tgRunning State.tgNumbered
  exact RowSide.setSeam (RowSide.wr (RowSide.wr (RowSide.setTg (RowSide.setTg h ..) ..) rfl _) rfl _) ..

theorem RowSide.tgFollowed (g : Nat) : RowSide z (s.tgFollowed g) := by
  unfold State.tgFollowed
  split
  · exact RowSide.ite (fun _ => (h.tgRunning g).setCommit ..) (fun _ => h.tgRunning g)
  · exact h.tgRunning g

theorem RowSide.tgEnable (g : Nat) : RowSide z (tgEnable g s) := by
  by_cases hi : s.tgEn g = true ∨ s.devFault = true
  · rw [tgEnable_ignored hi]
    exact h
  · simp only [not_or, Bool.not_eq_true] at hi
    obtain ⟨c, e⟩ := tgEnable_eq hi.1 hi.2
    rw [e]
    exact RowSide.when ((h.tgFollowed g).skimFirstRow ..) c (((h.tgFollowed g).skimFirstRow ..).skimStart ..)

theorem RowSide.lathGenerators (t : Nat) : RowSide z (lathGenerators t s) :=
  RowSide.forAll (RowSide.forAll (RowSide.forAll h (fun g _ hu => hu.setStart g t) _)
    (fun _ _ hu => ((hu.wr rfl _).wr rfl _).wr rfl _) _) (fun g _ hu => hu.tgEnable g) _

end

/-! ### Contributions to rows (R210 to R214) -/

section
variable {z s : State} (h : RowSide z s)
include h

theorem RowSide.onRow (g n : Nat) (f : SeamRow → SeamRow) : RowSide z (s.onRow g n f) := h.setSeam ..

theorem RowSide.seamAhead (g n i c : Nat) (l : Option LineOut) : RowSide z (seamAhead g n i c l s) := h.setSeam ..

theorem RowSide.seamLate (g i : Nat) : RowSide z (seamLate g i s) := (h.inc ..).inc ..

theorem RowSide.seamDue (g : Nat) : RowSide z (seamDue g s) := h.setSeam ..

theorem RowSide.seamEarly (g n i : Nat) : RowSide z (seamEarly g n i s) :=
  RowSide.ite (fun _ => h.onRow ..) (fun _ => h.seamAhead ..)

theorem RowSide.seamApply (g n i : Nat) (l : LineOut) : RowSide z (seamApply g n i l s) := by
  unfold Machine.seamApply
  split
  · exact h
  · split
    · exact h
    · split
      · exact h.seamLate ..
      · exact h
      · exact RowSide.ite (fun _ => h.onRow ..) (fun _ => RowSide.ite (fun _ => (h.inc ..).onRow ..) (fun _ => h.onRow ..))

theorem RowSide.seamContribute (g n i : Nat) (l : LineOut) : RowSide z (seamContribute g n i l s) :=
  have hd := h.seamDue g
  RowSide.ite (fun _ => hd) (fun _ => RowSide.ite (fun _ => hd.seamLate ..) (fun _ => RowSide.ite (fun _ => hd) (fun _ =>
    RowSide.ite (fun _ => (hd.inc ..).seamEarly ..) (fun _ => RowSide.ite (fun _ => hd.seamApply ..) (fun _ => hd.seamAhead ..)))))

end

/-! ### A line through Render and Skim (R130 to R146, R174) -/

section
variable {z s : State} (h : RowSide z s)
include h

theorem RowSide.commitPut (g : Nat) (c : PendSet) {vals : List (Fld × Nat)} (hv : ∀ v ∈ vals, v.1.blk.rowSide = true) :
    RowSide z (commitPut g c vals s) := by
  have fold : ∀ (l : List (Fld × Nat)), (∀ v ∈ l, v.1.blk.rowSide = true) → ∀ t, RowSide z t →
      RowSide z (l.foldl (fun t v => t.wr v.1 v.2) t) := by
    intro l
    induction l with
    | nil => exact fun _ _ ht => ht
    | cons v l ih => exact fun hl t ht => ih (fun w hw => hl w (.tail _ hw)) _ (ht.wr (hl v (.head _)) _)
  exact (fold vals hv s h).setCommit ..

theorem RowSide.switchStage (g n : Nat) (st : Stage) {mine : Fld → Bool} (hm : ∀ f, mine f = true → f.blk.rowSide = true) :
    RowSide z (s.switchStage g n st mine) := by
  unfold State.switchStage
  split
  · exact RowSide.ite (fun _ => h.commitPut _ _ (fun v hv => hm _ (List.mem_filter.mp hv).2)) (fun _ => h)
  · exact h

theorem RowSide.engineSwitch (e o : Nat) : RowSide z (engineSwitch e o s) := by
  unfold Machine.engineSwitch
  dsimp only
  split
  · exact h
  · split
    · exact h
    · refine h.switchStage _ _ _ (fun f hf => ?_)
      simp only [Bool.and_eq_true, beq_iff_eq] at hf
      rw [hf.1]
      rfl

theorem RowSide.copyBack (e : Nat) : RowSide z (copyBack e s) := h.wr rfl _

theorem RowSide.swapReach (e m : Nat) : RowSide z (swapReach e m s) := by
  unfold Machine.swapReach
  split
  · exact RowSide.ite (fun _ => ((h.setRnd ..).wr rfl _).wr rfl _) (fun _ => h)
  · exact h

theorem RowSide.swapPassed (e m : Nat) : RowSide z (swapPassed e m s) := by
  have h1 := (h.setRnd e { s.rnd e with passed := max (s.rnd e).passed (m + 1) }).swapReach e m
  unfold Machine.swapPassed
  dsimp only
  split
  · exact RowSide.ite (fun _ => h1.copyBack e) (fun _ => h1)
  · exact h1

theorem RowSide.obEnable (e m b : Nat) : RowSide z (obEnable e m b s) :=
  RowSide.ite (fun _ => h.setRnd ..) (fun _ => RowSide.ite (fun _ => h) (fun _ => (h.setRnd ..).wr rfl _))

theorem RowSide.obUpdate (e b : Nat) (l : RawLine) : RowSide z (obUpdate e b l s) :=
  RowSide.ite (fun _ => h) (fun _ => RowSide.ite (fun _ => h.wr rfl _) (fun _ =>
    RowSide.ite (fun _ => (h.wr rfl _).inc ..) (fun _ => (h.wr rfl _).wr rfl _)))

theorem RowSide.engineCorrect (e : Nat) (deltas : List Int) (l : RawLine) : RowSide z (engineCorrect e deltas l s) :=
  (((h.inc ..).inc ..).inc ..).setRnd ..

theorem RowSide.engineOutput (e : Nat) (o : Int) (v : List (List Nat)) : RowSide z (engineOutput e o v s).2 := (h.inc ..).inc ..

omit h in
theorem RowSide.channelOutput (o : Int) : ∀ (es : List Nat) {s : State}, RowSide z s → RowSide z (channelOutput o es s).2
  | [], _, h => h
  | e :: t, s, h => by
    have h0 := h.engineSwitch e o.toNat
    unfold Machine.channelOutput
    dsimp only
    split
    · exact RowSide.channelOutput o t (((h0.engineOutput ..).inc ..).inc ..)
    · exact RowSide.channelOutput o t ((h0.inc ..).inc ..)

theorem RowSide.deliverLine (n : Nat) (o : Int) : RowSide z (deliverLine n o s) := by
  have h1 := RowSide.channelOutput o (s.chan n) h
  unfold Machine.deliverLine
  dsimp only
  split
  · exact h1
  · split
    · exact h1
    · exact RowSide.ite (fun _ => h1) (fun _ => h1.seamContribute ..)

theorem RowSide.renderLine (n : Nat) (l : RawLine) : RowSide z (renderLine n l s) := by
  refine RowSide.forAll (RowSide.deliverLine ?_ ..) (fun e _ hu => hu.swapPassed e _) _
  have h1 := RowSide.forAll h (f := fun e t => (Machine.swapReach e l.n t).inc (R.RND_LINES_IN e)) (fun e _ hu => (hu.swapReach e _).inc ..)
    (s.chan n)
  have h2 := h1.forAll (fun b _ hu => hu.obEnable n l.n b) (List.range (s.shape n).bands)
  have h3 (deltas : List Int) := h2.forAll (fun e _ hu => hu.engineCorrect e deltas l) (s.chan n)
  exact (h3 _).when _ (RowSide.forAll (h3 _) (fun b _ hu => hu.obUpdate n b l) _)

theorem RowSide.skimRelease (e : Nat) : RowSide z (skimRelease e s) := (h.setSkim ..).wr rfl _

theorem RowSide.skimTap (e : Nat) (free : Bool) (o : Int) (v : List (List Nat)) : RowSide z (skimTap e free o v s) := by
  unfold Machine.skimTap
  split
  · exact h
  · refine RowSide.ite (fun _ => h) (fun _ => ?_)
    split
    · have h1 (x : SkimPort) := ((h.setSkim e x).wr (f := R.RND_SKIM_STAT_HELD e) rfl 1).inc (R.RND_SKIM_LINES_HELD e) 1
      exact RowSide.ite (fun _ => h) (fun _ => RowSide.ite (fun _ => ((h1 _).skimRelease e).inc ..) (fun _ => h1 _))
    · exact h

end
end Sys2Proof.Machine
end

section
/-! PROOF. Undercoat and the host's start (O38). -/

namespace Sys2Proof.Machine

/-! ### MEMORY ends with the LATH step (R346, R483, R489) -/

/-- Bursts are counted, and nothing else changes. -/
theorem countBursts_eq (act : Nat) : ∀ (ls : List Nat) (s : State), countBursts act ls s = { s with cnt := (countBursts act ls s).cnt }
  | [], _ => rfl
  | _ :: ls, s => countBursts_eq act ls (s.inc _)

/-- State `t` is state `z` in the LATH step, or waiting for a load. -/
structure AtLath (z t : State) : Prop where
  step : t.rd R.BOT_STAT_STEP = 0x11
  stage : t.stage = z.stage ∨ t.stage = 4
  training : t.boot.training = z.boot.training
  chans : t.mem.chans = z.mem.chans
  rd (f : Fld) (h : f.blk = .mem) : t.rd f = z.rd f

section
variable {z t u : State} (h : AtLath z t)
include h

theorem AtLath.journalled (hj : Journalled t u) : AtLath z u where
  step := (hj.rd R.BOT_STAT_STEP (.inr (by decide))).trans h.step
  stage := h.stage.imp (hj.rd R.BOT_STAT_STAGE (.inr (by decide))).trans (hj.rd R.BOT_STAT_STAGE (.inr (by decide))).trans
  training := by rw [hj.boot]; exact h.training
  chans := by rw [hj.rest]; exact h.chans
  rd f hf := (hj.rd f (.inl (by rw [hf]; decide))).trans (h.rd f hf)

theorem AtLath.awaitLath : AtLath z (awaitLath t) where
  step := (setStage_step 4 t).trans h.step
  stage := .inr (setStage_stage 4 t)
  training := h.training
  chans := h.chans
  rd f hf := (setStage_rd 4 t f).trans ((State.rd_wr_blk t 4 (by rw [hf]; decide)).trans (h.rd f hf))

theorem AtLath.wr {f : Fld} (hf : f.blk = .glb) (v : Nat) : AtLath z (t.wr f v) where
  step := (State.rd_wr_blk t v (by rw [hf]; decide)).trans h.step
  stage := h.stage.imp (State.rd_wr_blk t v (by rw [hf]; decide)).trans (State.rd_wr_blk t v (by rw [hf]; decide)).trans
  training := h.training
  chans := h.chans
  rd g hg := (State.rd_wr_blk t v (by rw [hf, hg]; decide)).trans (h.rd g hg)

theorem AtLath.draw (n : Nat) : AtLath z (t.draw n).2 := ⟨h.step, h.stage, h.training, h.chans, h.rd⟩

theorem AtLath.ldr (x : Ldr) : AtLath z { t with ldr := x } := ⟨h.step, h.stage, h.training, h.chans, h.rd⟩

theorem AtLath.dramWrite (act a : Nat) (bs : List Byte) : AtLath z (dramWrite act a bs t) := by
  unfold Machine.dramWrite
  dsimp only
  rw [countBursts_eq]
  exact ⟨h.step, h.stage, h.training, h.chans, h.rd⟩

theorem AtLath.lathStart : AtLath z (lathStart t) := ((h.wr rfl _).wr rfl _).wr rfl _

end

theorem lathStep_at (s : State) : AtLath s (lathStep s) := by
  have h0 : AtLath s (setStep 0x11 s) := by
    refine ⟨setStep_step 0x11 s, .inl (setStep_stage 0x11 s), rfl, rfl, fun f hf => State.rd_wr_blk s _ (by rw [hf]; decide)⟩
  unfold lathStep
  dsimp only
  split
  · exact h0.awaitLath
  · split
    · exact (h0.journalled (jnlOutcome_journalled ..)).awaitLath
    · split
      · exact (h0.journalled (jnlOutcome_journalled ..)).awaitLath
      · next b _ =>
        have h2 (r k : Nat) (p : Prop) [Decidable p] : AtLath s (if p then dramWrite 3 k b ((setStep 0x11 s).draw r).2
            else ((setStep 0x11 s).draw r).2) := by
          split
          · exact (h0.draw _).dramWrite ..
          · exact h0.draw _
        refine AtLath.ldr (AtLath.lathStart ?_) _
        exact AtLath.wr (AtLath.wr (AtLath.wr (AtLath.wr (h2 _ _ _) (f := R.GLB_LATH_ADDR_LO) rfl _) (f := R.GLB_LATH_ADDR_HI_ADDR) rfl _)
          (f := R.GLB_LATH_LEN) rfl _) (f := R.GLB_LATH_CTRL_KIND) rfl 0

/-! ### The channels that MEMORY has trained -/

theorem State.stage_wr (s : State) {f : Fld} (v : Nat) (h : R.BOT_STAT_STAGE.blk ≠ f.blk) : (s.wr f v).stage = s.stage :=
  State.rd_wr_blk s v h

theorem chanTrained_stage (m cause : Nat) (s : State) : (chanTrained m cause s).stage = s.stage := by
  have h (v : Nat) : ((s.wr (R.MEM_CH_STAT_CAUSE m) cause).wr (R.MEM_CH_STAT_STATE m) v).stage = s.stage :=
    (State.stage_wr _ v (by nofun)).trans (State.stage_wr s cause (by nofun))
  unfold chanTrained
  dsimp only
  split
  · exact (State.stage_wr _ _ (by nofun)).trans (h 2)
  · exact h 3

section
variable {s : State}

theorem memoryEnd_effects (h3 : s.stage = 3) (hstep : s.rd R.BOT_STAT_STEP = 0x10) :
    (memoryEnd s).rd R.BOT_STAT_STEP = 0x11 ∧ ((memoryEnd s).stage = 3 ∨ (memoryEnd s).stage = 4) ∧ (memoryEnd s).boot.training = [] ∧
      ∀ m, m ∈ (memoryEnd s).mem.chans ↔ m < 8 ∧ (memoryEnd s).rd (R.MEM_CH_STAT_STATE m) = 2 := by
  have h1 := State.forAll_induct (P := fun t => t.stage = 3) (f := fun m t => chanTrained m 1 t)
    (fun m t ht => (chanTrained_stage m 1 t).trans ht) (s.boot.training.filter (fun m => s.rd (R.MEM_CH_STAT_STATE m) == 1)) s h3
  unfold memoryEnd
  rw [if_neg (by simp [h3, hstep])]
  dsimp only
  generalize State.forAll s _ _ = s1 at h1
  have h2 : Journalled s1 (s1.forAll s.boot.training (fun m t =>
      jnlOutcome 0x10 (192 + m) (0x6000 + m) (b2n (t.rd (R.MEM_CH_STAT_CAUSE m) != 0)) (t.rd R.MEM_STAT_ALT)
        (t.rd (R.MEM_CH_STAT_CAUSE m)) (t.rd R.MEM_STAT_BIN) t)) := Journalled.forAll (fun _ _ => jnlOutcome_journalled ..) _
  generalize State.forAll s1 _ _ = s2 at h2
  have h := lathStep_at { s2 with mem := { s2.mem with chans := (List.range 8).filter (fun m => s2.rd (R.MEM_CH_STAT_STATE m) == 2) },
                                  boot := { s2.boot with training := [] } }
  generalize lathStep _ = t at h
  have hs2 : s2.stage = 3 := (h2.rd R.BOT_STAT_STAGE (.inr (by decide))).trans h1
  refine ⟨h.step, h.stage.imp_left (·.trans hs2), h.training, fun m => ?_⟩
  rw [h.chans, h.rd _ rfl]
  simp only [List.mem_filter, List.mem_range, beq_iff_eq]
  rfl

theorem memoryEnd_elsewhere (h : s.stage ≠ 3) : memoryEnd s = s := if_pos (.inl h)

/-! ### PORTS, UPLINK and Topcoat (R483) -/

theorem portOutcome_journalled (n : Nat) (t : State) : Journalled t (portOutcome n t) := by
  unfold portOutcome
  dsimp only
  split
  · exact jnlOutcome_journalled ..
  · exact jnlOutcome_journalled ..
  · exact jnlTableOnly_journalled ..
  · exact jnlOutcome_journalled ..
  · exact jnlOutcome_journalled ..
  · exact jnlOutcome_journalled ..

/-- The watchdog of Undercoat has ended. -/
def State.unwatched (s : State) : State := { s with boot := { s.boot with watchdog := false } }

/-- Both steps have ended: Topcoat. -/
theorem topcoatEntry_effects : (topcoatEntry s).stage = 5 ∧ (topcoatEntry s).rd R.BOT_STAT_STEP = 0 ∧ (topcoatEntry s).boot.watchdog = false := by
  have hj := jnlDevice_journalled (setStage 5 s) 0x20 0
  have e : topcoatEntry s = lathGenerators (jointStart (setStep 0 (jnlDevice 0x20 0 (setStage 5 s))).now)
      (setStep 0 (jnlDevice 0x20 0 (setStage 5 s))).unwatched := rfl
  rw [e]
  generalize jnlDevice 0x20 0 (setStage 5 s) = t at hj
  have h := (RowSide.refl (setStep 0 t).unwatched).lathGenerators (jointStart (setStep 0 t).now)
  generalize lathGenerators _ _ = u at h
  refine ⟨(h.rd R.BOT_STAT_STAGE rfl).trans ((setStep_stage 0 t).trans ((hj.rd R.BOT_STAT_STAGE (.inr (by decide))).trans (setStage_stage 5 s))),
    (h.rd R.BOT_STAT_STEP rfl).trans (setStep_step 0 t), by rw [h.rest]; rfl⟩

section
variable {t : State} (h : Journalled s t)
include h

/-- One of the two steps has ended before the other. -/
theorem bringUpEnd_first {p u : Bool} (h3 : s.stage = 3) (hpu : (p && u) = false) :
    let b := { t with boot := { t.boot with portsDone := p, uplinkDone := u } }
    (bringUpEnd b).stage = 3 ∧ (bringUpEnd b).rd R.BOT_STAT_STEP = (if p then 0x13 else 0x12) ∧ (bringUpEnd b).boot = b.boot := by
  have hs : t.stage = 3 := (h.rd R.BOT_STAT_STAGE (.inr (by decide))).trans h3
  unfold bringUpEnd
  dsimp only
  rw [if_neg (by rw [hpu]; decide)]
  refine ⟨(setStep_stage _ _).trans hs, (setStep_step _ _).trans ?_, rfl⟩
  cases p <;> rfl

end

/-- PORTS as its end records it. -/
theorem portsEnd_eq (hb : s.bringUp = true) (hp : s.boot.portsDone = false) :
    ∃ t, Journalled s t ∧ portsEnd s = bringUpEnd { t with boot := { t.boot with portsDone := true } } :=
  ⟨_, Journalled.forAll portOutcome_journalled _, if_neg (by simp [hb, hp])⟩

theorem uplinkEnd_eq (hb : s.bringUp = true) (hu : s.boot.uplinkDone = false) :
    ∃ t, Journalled s t ∧ uplinkEnd s = bringUpEnd { t with boot := { t.boot with uplinkDone := true } } :=
  ⟨_, Journalled.forAll (fun _ _ => jnlOutcome_journalled ..) _, if_neg (by simp [hb, hu])⟩

theorem bringUp_stage (h : s.bringUp = true) : s.stage = 3 := by
  simp only [State.bringUp, Bool.and_eq_true, beq_iff_eq] at h
  exact h.1

theorem bringUp_elsewhere (h : s.stage ≠ 3) : s.bringUp = false := by
  simp [State.bringUp, h]

theorem portsEnd_first (hb : s.bringUp = true) (hp : s.boot.portsDone = false) (hu : s.boot.uplinkDone = false) :
    (portsEnd s).stage = 3 ∧ (portsEnd s).rd R.BOT_STAT_STEP = 0x13 ∧ (portsEnd s).boot.portsDone = true := by
  obtain ⟨t, ht, e⟩ := portsEnd_eq hb hp
  have hu' : t.boot.uplinkDone = false := by rw [ht.boot]; exact hu
  obtain ⟨h1, h2, h3⟩ := bringUpEnd_first ht (p := true) (u := t.boot.uplinkDone) (bringUp_stage hb) (by rw [hu']; rfl)
  rw [e]
  exact ⟨h1, h2, congrArg Boot.portsDone h3⟩

theorem uplinkEnd_first (hb : s.bringUp = true) (hp : s.boot.portsDone = false) (hu : s.boot.uplinkDone = false) :
    (uplinkEnd s).stage = 3 ∧ (uplinkEnd s).rd R.BOT_STAT_STEP = 0x12 ∧ (uplinkEnd s).boot.uplinkDone = true := by
  obtain ⟨t, ht, e⟩ := uplinkEnd_eq hb hu
  have hp' : t.boot.portsDone = false := by rw [ht.boot]; exact hp
  obtain ⟨h1, h2, h3⟩ := bringUpEnd_first ht (p := t.boot.portsDone) (u := true) (bringUp_stage hb) (by rw [hp']; rfl)
  rw [e]
  exact ⟨h1, h2.trans (by rw [hp']; rfl), congrArg Boot.uplinkDone h3⟩

theorem bringUpEnd_second {t : State} (h : (t.boot.portsDone && t.boot.uplinkDone) = true) : bringUpEnd t = topcoatEntry t := if_pos h

theorem portsEnd_second (hb : s.bringUp = true) (hp : s.boot.portsDone = false) (hu : s.boot.uplinkDone = true) :
    ∃ t, portsEnd s = topcoatEntry t := by
  obtain ⟨t, ht, e⟩ := portsEnd_eq hb hp
  refine ⟨_, e.trans (bringUpEnd_second ?_)⟩
  have : t.boot.uplinkDone = true := by rw [ht.boot]; exact hu
  simp [this]

theorem uplinkEnd_second (hb : s.bringUp = true) (hp : s.boot.portsDone = true) (hu : s.boot.uplinkDone = false) :
    ∃ t, uplinkEnd s = topcoatEntry t := by
  obtain ⟨t, ht, e⟩ := uplinkEnd_eq hb hu
  refine ⟨_, e.trans (bringUpEnd_second ?_)⟩
  have : t.boot.portsDone = true := by rw [ht.boot]; exact hp
  simp [this]

/-! ### The watchdog of Undercoat (R489) -/

theorem actReset_powered {t : State} (hoff : t.power.off = false) : actReset t = startUp false (t.strapped t.boot.selPins) :=
  sysReset_powered _ hoff

theorem watchdogExpiry_eq (hw : s.boot.watchdog = true) (h3 : s.stage = 3) : ∃ t, Journalled s t ∧ watchdogExpiry s = actReset t := by
  refine ⟨_, jnlAppend_journalled s _ _, if_neg (by simp [hw, h3])⟩

theorem watchdogExpiry_effects (hoff : s.power.off = false) (hw : s.boot.watchdog = true) (h3 : s.stage = 3)
    (ht : s.pins.tripped = false) :
    (watchdogExpiry s).stage = 1 ∧ (watchdogExpiry s).rd R.BOT_STAT_STEP = 2 ∧ (watchdogExpiry s).fuses = s.fuses ∧
      (watchdogExpiry s).chalk.run = false := by
  obtain ⟨t, hj, e⟩ := watchdogExpiry_eq hw h3
  have hoff' : t.power.off = false := by rw [hj.rest]; exact hoff
  have htr : (t.strapped t.boot.selPins).pins.tripped = false := by rw [hj.rest]; exact ht
  have hf : (t.strapped t.boot.selPins).fuses = s.fuses := by rw [hj.rest]; rfl
  have h := startUp_in_clock _ htr
  rw [e, actReset_powered hoff']
  exact ⟨h.stage, h.step, h.fuses.trans hf, congrArg Chalk.run h.chalk⟩

/-! ### The host's start (R490, R491) -/

/-- A refusal of a firmware image has an outcome. -/
theorem fwCheck_outcome {img : List Byte} {magic major minor oc cause st : Nat}
    (h : s.fwCheck img magic major minor = .error (oc, cause, st)) : oc ≠ 0 := by
  unfold State.fwCheck at h
  split at h
  · cases h; decide
  · split at h
    · cases h; decide
    · split at h
      · cases h; decide
      · cases h

theorem slotCheck_outcome {b : List Byte} {size oc cause st : Nat} (h : s.slotCheck b size = .error (oc, cause, st)) : oc ≠ 0 := by
  unfold State.slotCheck at h
  split at h
  · cases h; decide
  · split at h
    · split at h
      · next e he => cases h; exact fwCheck_outcome he
      · split at h
        · next e he => cases h; exact fwCheck_outcome he
        · cases h
    · cases h; decide

/-- The record of the host's slot `b`. -/
def hostRecord (b : List Byte) (oc cause : Nat) (t : State) : State :=
  (jnlAppend (t.jnlRecord 4 oc 0xFFFF 1 0 cause (leAt b 8 4)) t.jnlEntries t).raiseIf (oc != 0) 1488

theorem hostRecord_journalled (b : List Byte) (oc cause : Nat) (t : State) : Journalled t (hostRecord b oc cause t) :=
  (jnlAppend_journalled t _ _).trans (.raiseIf _ _)

theorem hostBoot_refused (h : s.stage = 2 ∨ s.stage = 6) {oc cause st : Nat}
    (he : s.slotCheck (memRead s.hostload 0 0x200000) 0x200000 = .error (oc, cause, st)) :
    hostBoot s = setStep 4 (setStage 2 (hostRecord (memRead s.hostload 0 0x200000) oc cause
      ((authEvent st s).wr R.BOT_STAT_SAFE_CAUSE 1))) := by
  unfold hostBoot
  rw [if_neg (by omega)]
  extract_lets b record
  generalize hr : s.slotCheck b 0x200000 = r
  obtain rfl : r = .error (oc, cause, st) := hr.symm.trans he
  rfl

theorem hostBoot_verified (h : s.stage = 2 ∨ s.stage = 6) {ci li : FwInfo}
    (he : s.slotCheck (memRead s.hostload 0 0x200000) 0x200000 = .ok (ci, li)) :
    hostBoot s = slotRun 2 ci li (hostRecord (memRead s.hostload 0 0x200000) 0 0
      ((s.wr R.BOT_STAT_SRC 2).wr R.BOT_STAT_SAFE_CAUSE 0)) := by
  unfold hostBoot
  rw [if_neg (by omega)]
  extract_lets b record
  generalize hr : s.slotCheck b 0x200000 = r
  obtain rfl : r = .ok (ci, li) := hr.symm.trans he
  rfl

theorem hostBoot_elsewhere (h2 : s.stage ≠ 2) (h6 : s.stage ≠ 6) : hostBoot s = s := if_pos ⟨h2, h6⟩

/-- A slot of the host that fails leaves the device waiting for another. -/
theorem hostBoot_refused_effects (h : s.stage = 2 ∨ s.stage = 6) {e : Nat × Nat × Nat}
    (he : s.slotCheck (memRead s.hostload 0 0x200000) 0x200000 = .error e) :
    (hostBoot s).stage = 2 ∧ (hostBoot s).rd R.BOT_STAT_SAFE_CAUSE = 1 ∧ 1488 ∈ (hostBoot s).raised := by
  obtain ⟨oc, cause, st⟩ := e
  rw [hostBoot_refused h he]
  generalize memRead s.hostload 0 0x200000 = b
  have hj := hostRecord_journalled b oc cause ((authEvent st s).wr R.BOT_STAT_SAFE_CAUSE 1)
  have hr : 1488 ∈ (hostRecord b oc cause ((authEvent st s).wr R.BOT_STAT_SAFE_CAUSE 1)).raised := by
    rw [hostRecord, State.raiseIf_raised, if_pos (by simp [slotCheck_outcome he])]
    simp
  generalize hostRecord b oc cause _ = t at hj hr
  refine ⟨(setStep_stage 4 _).trans (setStage_stage 2 t), ?_, hr⟩
  refine (State.rd_wr_key _ 4 (by decide)).trans ((setStage_rd 2 t _).trans ((State.rd_wr_key _ 2 (by decide)).trans ?_))
  exact (hj.rd _ (.inr (by decide))).trans (State.rd_wr_same _ R.BOT_STAT_SAFE_CAUSE 1)

/-- A slot of the host that verifies runs. -/
theorem hostBoot_verified_effects (h : s.stage = 2 ∨ s.stage = 6) (hearly : s.boot.early = [])
    (hd : ∀ m, m < 8 → s.decision (192 + m) ≠ 2) {x : FwInfo × FwInfo}
    (hx : s.slotCheck (memRead s.hostload 0 0x200000) 0x200000 = .ok x) :
    (hostBoot s).stage = 3 ∧ (hostBoot s).rd R.BOT_STAT_STEP = 0x10 ∧ (hostBoot s).rd R.BOT_STAT_SRC = 2 ∧
      (hostBoot s).rd R.BOT_STAT_SAFE_CAUSE = 0 := by
  rw [hostBoot_verified h hx]
  generalize memRead s.hostload 0 0x200000 = b
  have hj := hostRecord_journalled b 0 0 ((s.wr R.BOT_STAT_SRC 2).wr R.BOT_STAT_SAFE_CAUSE 0)
  generalize hostRecord b 0 0 _ = t at hj
  obtain ⟨h1, h2, -, -, -, h3, h4, -⟩ := slotRun_begins (s := t) 2 x.1 x.2 (by rw [hj.boot]; exact hearly)
    (fun m hm => by rw [State.decision, hj.boot]; exact hd m hm)
  refine ⟨h1, h2, h3.trans ((hj.rd _ (.inr (by decide))).trans ((State.rd_wr_key _ 0 (by decide)).trans ?_)),
    h4.trans ((hj.rd _ (.inr (by decide))).trans ?_)⟩
  · exact State.rd_wr_same s R.BOT_STAT_SRC 2
  · exact State.rd_wr_same (s.wr R.BOT_STAT_SRC 2) R.BOT_STAT_SAFE_CAUSE 0

end

/-- Settles O38. -/
theorem undercoatCommands : Obligations.UndercoatCommands := by
  intro s ha
  refine ⟨fun h3 hstep => ⟨_, act_awake ha _, memoryEnd_effects h3 hstep⟩, fun h3 => ⟨?mem, ?ports, ?uplink, ?dog⟩,
    fun hb hp hu => ⟨_, act_awake ha _, portsEnd_first hb hp hu⟩, fun hb hp hu => ⟨_, act_awake ha _, uplinkEnd_first hb hp hu⟩,
    fun hb hp hu => ⟨_, act_awake ha _, ?second⟩, fun hb hp hu => ⟨_, act_awake ha _, ?second'⟩, fun _ => act_awake ha hostBoot,
    fun hw h3 ht => ⟨_, act_awake ha _, watchdogExpiry_effects (asleep_false_iff.mp ha).1 hw h3 ht⟩,
    fun h2 h6 => act_of_eq ha (hostBoot_elsewhere h2 h6), fun e h he => ⟨_, act_awake ha _, hostBoot_refused_effects h he⟩,
    fun x h hearly hd => ⟨_, act_awake ha _, fun hx => hostBoot_verified_effects h hearly hd hx⟩⟩
  case mem => exact act_of_eq ha (memoryEnd_elsewhere h3)
  case ports => exact act_of_eq ha (show portsEnd s = s from if_pos (by simp [bringUp_elsewhere h3]))
  case uplink => exact act_of_eq ha (show uplinkEnd s = s from if_pos (by simp [bringUp_elsewhere h3]))
  case dog => exact act_of_eq ha (show watchdogExpiry s = s from if_pos (by simp [h3]))
  case second =>
    obtain ⟨t, e⟩ := uplinkEnd_second hb hp hu
    rw [e]
    exact topcoatEntry_effects
  case second' =>
    obtain ⟨t, e⟩ := portsEnd_second hb hp hu
    rw [e]
    exact topcoatEntry_effects

end Sys2Proof.Machine
end

section
/-! PROOF. Stipple jobs (O31). -/

namespace Sys2Proof.Machine

section
variable {s : State} {j : Nat}

theorem stpStop_runs (h : (s.stpPort j).run = true) (st : Nat) : stpStop j st s = stpEnd j st 0 s := if_pos h

theorem stpStop_idle (h : (s.stpPort j).run = false) (st : Nat) : stpStop j st s = s := if_neg (by rw [h]; decide)

theorem stpGo_refused (h : 4 ≤ (s.stpPort j).queue.length ∨ s.inP1 = true ∨ s.stpTaped = true) :
    stpGo j s = s.wr (R.STP_JOB_STAT_REFUSED j) 1 := if_pos h

theorem stpGo_queues (hq : (s.stpPort j).queue.length < 4) (hp : s.inP1 = false) (ht : s.stpTaped = false) : stpGo j s =
    showJobs j (s.setStpPort j { s.stpPort j with queue := (s.stpPort j).queue ++ [s.stpRequest j] }) :=
  if_neg (by simp [hp, ht]; omega)

theorem stpStart_empty (h : (s.stpPort j).queue = []) (chain : Bool) : stpStart j chain s = s := by
  unfold stpStart
  dsimp only
  rw [h]

section
variable {q : StpJob} {rest : List StpJob} (hq : (s.stpPort j).queue = q :: rest)
include hq

/-- A job of the other kind waits for the other command. -/
theorem stpStart_other {chain : Bool} (h : chain ≠ (q.op == 1)) : stpStart j chain s = s := by
  unfold stpStart
  dsimp only
  rw [hq]
  exact if_pos (.inr h)

theorem stpStart_starts (hr : (s.stpPort j).run = false) (h : s.stpRefusal q = none) :
    stpStart j (q.op == 1) s = showJobs j (s.setStpPort j { s.stpPort j with run := true, used := 0, made := 0 }) := by
  unfold stpStart
  dsimp only
  rw [hq]
  dsimp only
  rw [if_neg (by simp [hr]), h]

theorem stpStart_refused (hr : (s.stpPort j).run = false) {st : Nat} (h : s.stpRefusal q = some st) :
    stpStart j (q.op == 1) s = stpEnd j st 0 s := by
  unfold stpStart
  dsimp only
  rw [hq]
  dsimp only
  rw [if_neg (by simp [hr]), h]

theorem stpBlockDone_runs (hr : (s.stpPort j).run = true) (err : MemErr) :
    stpBlockDone j err s = if q.op = 0 then stpCompressed j q err s else stpDecompressed j q err s := by
  unfold stpBlockDone
  dsimp only
  rw [hr, hq]

/-- The end of a job that leaves its destination defined and sends no note. -/
theorem stpEnd_defined (hn : q.note = false) {st : Nat} (hst : ¬ (st = 1 ∨ st = 4 ∨ (8 ≤ st ∧ st ≤ 13))) (made : Nat) :
    stpEnd j st made s = showJobs j ((((((s.setStpPort j { StpPort.init with queue := rest }).wr (R.STP_JOB_STAT_STATUS j) st).wr
      (R.STP_JOB_OUT j) made).wr (R.STP_JOB_LAST_TAG_TAG j) q.tag).inc (R.STP_JOB_DONE j)).inc (R.STP_JOB_FAILED j)
        (b2n (2 ≤ st)) |>.raiseIf (2 ≤ st) 1464) := by
  unfold stpEnd
  dsimp only
  rw [hq]
  dsimp only
  rw [if_neg hst, hn]
  rfl

end

theorem stpBlockDone_idle (h : (s.stpPort j).run = false) (err : MemErr) : stpBlockDone j err s = s := by
  unfold stpBlockDone
  dsimp only
  rw [h]

theorem pipeFinish_empty (h : s.stpPipe = []) (fail : Option Nat) : pipeFinish fail s = s := by
  unfold pipeFinish pipeDone
  rw [h]

/-- A block read from and coded into the scratch memory ends its job well. -/
theorem stpCompressed_scratch {q : StpJob} {blk : List Byte} {raws : List Nat} (hsrc : s.memCls q.src q.inLen = some .scratch)
    (hdst : s.memCls q.dst blk.length = some .scratch)
    (hb : stippleBlock q.s8 q.w q.npl (memRead s.scratch (q.src % 0x80000) q.inLen) = (blk, raws))
    (hst : encodeStatus q.inLen blk.length q.dstLen = 0) (err : MemErr) :
    stpCompressed j q err s = stpEnd j 0 blk.length
      (({ s with scratch := memWrite s.scratch (q.dst % 0x80000) blk }.inc R.STP_RAW_ROWS (rawRows q.inLen q.dstLen raws)).inc
        R.STP_ENC_BLOCKS) := by
  have hread : devRead 3 q.src q.inLen err s = (memRead s.scratch (q.src % 0x80000) q.inLen, false, s) := by rw [devRead, hsrc]
  have hwrite : devWrite 3 q.dst blk (s.inc R.STP_RAW_ROWS (rawRows q.inLen q.dstLen raws)) =
      (true, { s with scratch := memWrite s.scratch (q.dst % 0x80000) blk }.inc R.STP_RAW_ROWS (rawRows q.inLen q.dstLen raws)) := by
    have hc : (s.inc R.STP_RAW_ROWS (rawRows q.inLen q.dstLen raws)).memCls q.dst blk.length = some .scratch := hdst
    rw [devWrite, hc]
    rfl
  unfold stpCompressed
  rw [hread]
  dsimp only
  rw [if_neg (by decide), hb]
  dsimp only
  rw [hst, hwrite]
  rfl

/-! ### What the end of a job shows (R402, R404, R415) -/

theorem showJobs_port (j i : Nat) (s : State) : (showJobs j s).stpPort i = s.stpPort i := rfl

theorem showJobs_raised (j : Nat) (s : State) : (showJobs j s).raised = s.raised := rfl

theorem showJobs_rd (j : Nat) (s : State) {f : Fld} (h1 : f.key ≠ (R.STP_JOB_STAT_QUEUED j).key)
    (h2 : f.key ≠ (R.STP_JOB_STAT_BUSY j).key) (h3 : f.key ≠ R.STP_STAT_LANES_BUSY.key) : (showJobs j s).rd f = s.rd f :=
  (State.rd_wr_key _ _ h3).trans ((State.rd_wr_key _ _ h2).trans (State.rd_wr_key _ _ h1))

theorem showJobs_busy (j : Nat) (s : State) : (showJobs j s).rd (R.STP_JOB_STAT_BUSY j) = b2n (s.stpPort j).run :=
  (State.rd_wr_key _ _ (by show (32 * _ + _ : Nat) ≠ 32 * _ + _; omega)).trans
    (State.rd_wr_lt _ (by show b2n _ < 2; cases (s.stpPort j).run <;> decide))

/-- The registers that show the end of a job with status `st`, `made` bytes and tag `tag`. -/
theorem stpEnd_shown (t : State) {st made tag : Nat} (hst : st < 16) (hmade : made < 2 ^ 32) (htag : tag < 2 ^ 16) :
    let u := ((t.wr (R.STP_JOB_STAT_STATUS j) st).wr (R.STP_JOB_OUT j) made).wr (R.STP_JOB_LAST_TAG_TAG j) tag
    u.rd (R.STP_JOB_STAT_STATUS j) = st ∧ u.rd (R.STP_JOB_OUT j) = made ∧ u.rd (R.STP_JOB_LAST_TAG_TAG j) = tag := by
  refine ⟨?_, ?_, State.rd_wr_lt _ htag⟩
  · rw [State.rd_wr_key _ _ (by show (32 * _ + _ : Nat) ≠ 32 * _ + _; omega),
      State.rd_wr_key _ _ (by show (32 * _ + _ : Nat) ≠ 32 * _ + _; omega)]
    exact State.rd_wr_lt _ hst
  · rw [State.rd_wr_key _ _ (by show (32 * _ + _ : Nat) ≠ 32 * _ + _; omega)]
    exact State.rd_wr_lt _ hmade

theorem stpEnd_effects {q : StpJob} {rest : List StpJob} (hq : (s.stpPort j).queue = q :: rest) (hn : q.note = false) {st made : Nat}
    (hst : st = 0 ∨ (2 ≤ st ∧ st < 8 ∧ st ≠ 4) ∨ st = 14) (hmade : made < 2 ^ 32) (htag : q.tag < 2 ^ 16) :
    (stpEnd j st made s).rd (R.STP_JOB_STAT_STATUS j) = st ∧ (stpEnd j st made s).rd (R.STP_JOB_OUT j) = made ∧
    (stpEnd j st made s).rd (R.STP_JOB_LAST_TAG_TAG j) = q.tag ∧ (stpEnd j st made s).rd (R.STP_JOB_STAT_BUSY j) = 0 ∧
    ((stpEnd j st made s).stpPort j).queue = rest ∧ ((stpEnd j st made s).stpPort j).run = false ∧
    (stpEnd j st made s).raised = if st = 0 then s.raised else s.raised ++ [1464] := by
  have hp (t : State) (b : Bool) : (t.raiseIf b 1464).stpPort j = t.stpPort j := by cases b <;> rfl
  have hshown := stpEnd_shown (j := j) (s.setStpPort j { StpPort.init with queue := rest }) (tag := q.tag) (st := st) (by omega) hmade htag
  obtain ⟨h1, h2, h3⟩ := hshown
  rw [stpEnd_defined hq hn (by omega)]
  simp (disch := (with_unfolding_all (show (32 * _ + _ : Nat) ≠ 32 * _ + _); omega)) only [showJobs_rd, showJobs_busy, showJobs_port,
    showJobs_raised, State.raiseIf_rd, hp, State.raiseIf_raised]
  refine ⟨h1, h2, h3, ?_, ?_, ?_, ?_⟩
  · rw [show ∀ (t : State) (f g : Fld) (k l : Nat), ((t.inc f k).inc g l).stpPort j = t.stpPort j from fun _ _ _ _ _ => rfl]
    simp [StpPort.init, b2n]
  · exact congrArg StpPort.queue (State.stpPort_set_same s j _)
  · exact congrArg StpPort.run (State.stpPort_set_same s j _)
  · rcases hst with rfl | hst | rfl
    · rfl
    · rw [if_pos (by simp; omega), if_neg (by omega)]; rfl
    · rfl

end

/-- Settles O31. -/
theorem stippleJobs : Obligations.StippleJobs := by
  have code {q : StpJob} (h : q.op ≠ 1) : false = (q.op == 1) := by simp [h]
  have chain {q : StpJob} (h : q.op = 1) : true = (q.op == 1) := by simp [h]
  refine ⟨fun s j ha => ⟨fun h => act_of_eq ha (stpGo_refused h), fun hq hp ht => act_of_eq ha (stpGo_queues hq hp ht), fun hr => ⟨?_, ?_, ?_⟩,
    fun hr => ⟨?_, ?_, ?_⟩, fun hp => ⟨?_, fun err => ?_⟩, fun q rest hq hr hn => ⟨fun ho => ⟨?_, ?_⟩, fun ho => ⟨?_, ?_⟩⟩,
    fun q rest st hq hr hn => ⟨fun ho => ?_, fun ho => ?_⟩, fun hq => ⟨?_, ?_⟩, fun err hr => ?_, fun err q rest hq hr => ?_,
    fun err => ?_, fun err q rest blk raws hq hr ho hsrc hdst hb hst => ?_⟩,
    fun s j q rest st made hq hn hst hmade htag => stpEnd_effects hq hn hst hmade htag⟩
  · exact act_of_eq ha (stpStop_runs hr 13)
  · exact act_of_eq ha (stpStop_runs hr 12)
  · exact act_of_eq ha (f := stippleParity (.job j)) (stpStop_runs (s := (s.inc R.STP_PARITY).raise 1466) hr 12)
  · exact act_of_eq ha (stpStop_idle hr 13)
  · exact act_of_eq ha (stpStop_idle hr 12)
  · exact act_of_eq ha (f := stippleParity (.job j)) (stpStop_idle (s := (s.inc R.STP_PARITY).raise 1466) hr 12)
  · exact act_of_eq ha (f := stippleParity .pipeline) (pipeFinish_empty (s := (s.inc R.STP_PARITY).raise 1466) hp _)
  · exact act_of_eq ha (f := stippleDone .pipeline err) (pipeFinish_empty hp _)
  · exact act_of_eq ha (code ho ▸ stpStart_starts hq hr hn)
  · exact act_of_eq ha (stpStart_other hq (code ho ▸ by decide))
  · exact act_of_eq ha (chain ho ▸ stpStart_starts hq hr hn)
  · exact act_of_eq ha (stpStart_other hq (chain ho ▸ by decide))
  · exact act_of_eq ha (code ho ▸ stpStart_refused hq hr hn)
  · exact act_of_eq ha (chain ho ▸ stpStart_refused hq hr hn)
  · exact act_of_eq ha (stpStart_empty hq false)
  · exact act_of_eq ha (stpStart_empty hq true)
  · exact act_of_eq ha (f := stippleDone (.job j) err) (stpBlockDone_idle hr err)
  · exact act_of_eq ha (f := stippleDone (.job j) err) (stpBlockDone_runs hq hr err)
  · exact act_awake ha (stippleDone .pipeline err)
  · refine act_of_eq ha (f := stippleDone (.job j) err) ((stpBlockDone_runs hq hr err).trans ?_)
    rw [if_pos ho]
    exact stpCompressed_scratch hsrc hdst hb hst err

end Sys2Proof.Machine
end

section
/-! PROOF. What the uplink's scheduler and its offers leave unchanged; flow control, PTP and TIME frames (O60). -/

namespace Sys2Proof.Machine

/-! ### The scheduler of sub-port `x` (R326) -/

/-- State `t` is state `z` after turns of the scheduler of sub-port `x`: frames have left the fronts of queues, credits have grown, late
heads have been counted and their event raised. -/
structure Scheduled (x : Nat) (z t : State) : Prop where
  rest : t = { z with ucls := t.ucls, subs := t.subs, cnt := t.cnt, raised := t.raised }
  sub (y : Nat) : t.sub y = { z.sub y with cur := (t.sub y).cur, lateAt := (t.sub y).lateAt }
  ucl (i : Nat) : t.ucl i = { z.ucl i with queue := (t.ucl i).queue, credit := (t.ucl i).credit, since := (t.ucl i).since }
  queue (i : Nat) : (t.ucl i).queue <:+ (z.ucl i).queue
  ctr (f : Fld) (h : ∀ i, f.key ≠ (R.UPL_CLASS_LATE i).key) : t.ctr f = z.ctr f
  raised (e : Nat) (h : e ∈ t.raised) : e ∈ z.raised ∨ e = upEv (z.lowLane x) 2

section
variable {x : Nat} {z t u : State}

theorem Scheduled.refl (x : Nat) (z : State) : Scheduled x z z :=
  ⟨rfl, fun _ => rfl, fun _ => rfl, fun _ => List.suffix_refl _, fun _ _ => rfl, fun _ => .inl⟩

theorem Scheduled.regs (h : Scheduled x z t) : t.regs = z.regs := by rw [h.rest]

theorem Scheduled.chalk (h : Scheduled x z t) : t.chalk = z.chalk := by rw [h.rest]

theorem Scheduled.trans (h : Scheduled x z t) (k : Scheduled x t u) : Scheduled x z u where
  rest := k.rest.trans (congrArg (fun w : State => { w with ucls := u.ucls, subs := u.subs, cnt := u.cnt, raised := u.raised }) h.rest)
  sub y := (k.sub y).trans (congrArg (fun p : SubPort => { p with cur := (u.sub y).cur, lateAt := (u.sub y).lateAt }) (h.sub y))
  ucl i := (k.ucl i).trans (congrArg (fun c : UClass => { c with queue := (u.ucl i).queue, credit := (u.ucl i).credit,
                                                                  since := (u.ucl i).since }) (h.ucl i))
  queue i := (k.queue i).trans (h.queue i)
  ctr f hf := (k.ctr f hf).trans (h.ctr f hf)
  raised e he := by
    have hl : t.lowLane x = z.lowLane x := by rw [State.lowLane, State.rd, h.regs]; rfl
    rcases k.raised e he with h1 | h1
    · exact h.raised e h1
    · exact .inr (hl ▸ h1)

/-- A class loses the front of its queue, and its credit changes. -/
theorem Scheduled.setUcl (h : Scheduled x z t) (i : Nat) {q : List Frame} (hq : q <:+ (t.ucl i).queue) (c : Int) (n : Nat) :
    Scheduled x z (t.setUcl i { t.ucl i with queue := q, credit := c, since := n }) := by
  refine h.trans ⟨rfl, fun _ => rfl, fun k => ?_, fun k => ?_, fun _ _ => rfl, fun _ => .inl⟩
  · by_cases hk : k = i
    · rw [hk, State.ucl_set_same]
    · rw [State.ucl_set_other _ _ hk]
  · by_cases hk : k = i
    · rw [hk, State.ucl_set_same]; exact hq
    · exact (State.ucl_set_other t _ hk).symm ▸ List.suffix_refl _

theorem Scheduled.setSub (h : Scheduled x z t) (y : Nat) (c : Option (Frame × Nat)) (l : Option Nat) :
    Scheduled x z (t.setSub y { t.sub y with cur := c, lateAt := l }) := by
  refine h.trans ⟨rfl, fun k => ?_, fun _ => rfl, fun _ => List.suffix_refl _, fun _ _ => rfl, fun _ => .inl⟩
  by_cases hk : k = y
  · rw [hk, State.sub_set_same]
  · rw [State.sub_set_other _ _ hk]

theorem Scheduled.late (h : Scheduled x z t) (i : Nat) : Scheduled x z (t.inc (R.UPL_CLASS_LATE i)) :=
  h.trans ⟨rfl, fun _ => rfl, fun _ => rfl, fun _ => List.suffix_refl _, fun _ hf => State.ctr_inc_key _ _ (hf i), fun _ => .inl⟩

theorem Scheduled.lateEvent (h : Scheduled x z t) : Scheduled x z (t.raise (upEv (t.lowLane x) 2)) := by
  refine h.trans ⟨rfl, fun _ => rfl, fun _ => rfl, fun _ => List.suffix_refl _, fun _ _ => rfl, fun e he => ?_⟩
  simpa using he

theorem creditUpdate_scheduled (x : Nat) (s : State) : Scheduled x s (creditUpdate x s) :=
  State.forAll_induct (P := Scheduled x s) (fun c _ h => h.setUcl (cix x c) (List.suffix_refl _) _ _) _ _ (.refl x s)

theorem dropLate_scheduled (x c : Nat) : ∀ (k : Nat) (s : State), Scheduled x s (dropLate x c k s)
  | 0, s => .refl x s
  | k + 1, s => by
    unfold dropLate
    dsimp only
    split
    · exact .refl x s
    · next f t hq =>
      split
      · refine Scheduled.trans ?_ (dropLate_scheduled x c k _)
        have h1 : Scheduled x s ((s.setUcl (cix x c) { s.ucl (cix x c) with queue := t }).inc (R.UPL_CLASS_LATE (cix x c))) :=
          ((Scheduled.refl x s).setUcl (cix x c) (by rw [hq]; exact List.suffix_cons f t) _ _).late _
        split
        · exact h1
        · exact (h1.setSub x _ _).lateEvent
      · exact .refl x s

theorem dropLateAll_scheduled (x : Nat) (s : State) : Scheduled x s (dropLateAll x s) :=
  State.forAll_induct (P := Scheduled x s) (fun c t h => h.trans (dropLate_scheduled x c _ t)) _ _ (.refl x s)

theorem upKick_scheduled (x : Nat) (s : State) : Scheduled x s (upKick x s) := by
  unfold upKick
  split
  · exact .refl x s
  · have h1 := dropLateAll_scheduled x s
    generalize dropLateAll x s = s1 at h1
    dsimp only
    split
    · exact h1
    · next c own _ =>
      have h2 := h1.trans (creditUpdate_scheduled x s1)
      generalize creditUpdate x s1 = s2 at h2
      split
      · exact h2
      · next f t hq => exact (h2.setUcl (cix x c) (by rw [hq]; exact List.suffix_cons f t) _ _).setSub x _ _

end

/-! ### Offers (R324, R325): registers stay, and so do the open frames of the classes -/

/-- State `t` is state `z` after frames were offered, which have been counted, queued or sent. -/
structure Offered (z t : State) : Prop where
  rest : t = { z with ucls := t.ucls, subs := t.subs, cnt := t.cnt, raised := t.raised, draws := t.draws }
  sub (y : Nat) : t.sub y = { z.sub y with cur := (t.sub y).cur, lateAt := (t.sub y).lateAt }
  ucl (i : Nat) : t.ucl i = { t.ucl i with objs := (z.ucl i).objs, evts := (z.ucl i).evts }

section
variable {z t u : State}

theorem Offered.refl (z : State) : Offered z z := ⟨rfl, fun _ => rfl, fun _ => rfl⟩

theorem Offered.regs (h : Offered z t) : t.regs = z.regs := by rw [h.rest]

theorem Offered.trans (h : Offered z t) (k : Offered t u) : Offered z u where
  rest := k.rest.trans (congrArg (fun w : State => { w with ucls := u.ucls, subs := u.subs, cnt := u.cnt, raised := u.raised,
                                                            draws := u.draws }) h.rest)
  sub y := (k.sub y).trans (congrArg (fun p : SubPort => { p with cur := (u.sub y).cur, lateAt := (u.sub y).lateAt }) (h.sub y))
  ucl i := by
    have h1 := congrArg UClass.objs (h.ucl i)
    have h2 := congrArg UClass.evts (h.ucl i)
    have h3 := k.ucl i
    dsimp only at h1 h2
    rw [h1, h2] at h3
    exact h3

theorem Scheduled.offered {x : Nat} (h : Scheduled x z t) : Offered z t :=
  ⟨by rw [h.rest], h.sub, fun i => by rw [h.ucl i]⟩

theorem Offered.setUcl (h : Offered z t) (i : Nat) {c : UClass} (ho : c.objs = (t.ucl i).objs) (he : c.evts = (t.ucl i).evts) :
    Offered z (t.setUcl i c) := by
  refine h.trans ⟨rfl, fun _ => rfl, fun k => ?_⟩
  by_cases hk : k = i
  · rw [hk, State.ucl_set_same, ← ho, ← he]
  · rw [State.ucl_set_other _ _ hk]

theorem Offered.inc (h : Offered z t) (f : Fld) : Offered z (t.inc f) := h.trans ⟨rfl, fun _ => rfl, fun _ => rfl⟩

theorem Offered.raise (h : Offered z t) (e : Nat) : Offered z (t.raise e) := h.trans ⟨rfl, fun _ => rfl, fun _ => rfl⟩

theorem Offered.encapNow (h : Offered z t) (x : Nat) : Offered z (t.encapNow x).2 := h.trans ⟨rfl, fun _ => rfl, fun _ => rfl⟩

theorem Offered.forAll (h : Offered z t) {f : Nat → State → State} (hf : ∀ i u, Offered u (f i u)) (l : List Nat) :
    Offered z (t.forAll l f) := State.forAll_induct (P := Offered z) (fun i _ hu => hu.trans (hf i _)) l t h

theorem Offered.foldl {α : Type} {f : State → α → State} (hf : ∀ u a, Offered u (f u a)) :
    ∀ (l : List α) {t : State}, Offered z t → Offered z (l.foldl f t)
  | [], _, h => h
  | a :: l, _, h => Offered.foldl hf l (h.trans (hf _ a))

end

section
variable (s : State)

theorem upKick_offered (x : Nat) : Offered s (upKick x s) := (upKick_scheduled x s).offered

theorem frameAccept_offered (x c : Nat) (e : Encap) (r : FrameReq) (dl : Option Nat) : Offered s (frameAccept x c e r dl s) :=
  (Offered.refl s).setUcl _ rfl rfl

theorem frameBuild_offered (x c : Nat) (r : FrameReq) (dl : Option Nat) : Offered s (frameBuild x c r dl s) :=
  ((Offered.refl s).encapNow x).trans (frameAccept_offered ..)

theorem offerClass_offered (x c : Nat) (r : FrameReq) (dl : Option Nat) : Offered s (offerClass x c r dl s) := by
  unfold offerClass
  dsimp only
  split
  · exact .refl s
  · split
    · exact (frameBuild_offered s x c r dl).trans (upKick_offered ..)
    · exact ((Offered.refl s).inc _).raise _

theorem timeFrames_offered (x : Nat) : Offered s (timeFrames x s) :=
  (Offered.refl s).forAll (fun _ _ => offerClass_offered ..) _

theorem waitAccept_offered (x c : Nat) : Offered s (waitAccept x c s) := by
  unfold waitAccept
  dsimp only
  split
  · exact .refl s
  · next e r w _ =>
    have h : Offered s (s.setUcl (cix x c) { s.ucl (cix x c) with wait := w }) := (Offered.refl s).setUcl (cix x c) rfl rfl
    split
    · exact (h.trans (frameAccept_offered ..)).trans (upKick_offered ..)
    · exact .refl s

end

/-! ### Pauses (R329) -/

section
variable {s t : State} {x : Nat}

theorem setPause_paused (k : Nat) (b on : Bool) (q : Nat) : ((setPause x k b on s).sub x).paused.contains q =
    if q = k then on else (s.sub x).paused.contains q := by
  have h : (setPause x k b on s).sub x = { s.sub x with
      paused := (if on then (s.sub x).paused.filter (· != k) ++ [k] else (s.sub x).paused.filter (· != k)),
      byPause := (if (on && b) then (s.sub x).byPause.filter (· != k) ++ [k] else (s.sub x).byPause.filter (· != k)),
      noted := (if on then (s.sub x).noted else (s.sub x).noted.filter (· != k)) } := State.sub_set_same s x _
  rw [h]
  by_cases hq : q = k <;> cases on <;> simp [hq]

/-- Of the priorities `l` those of `on` pause and the others resume. -/
theorem forAll_setPause (b : Bool) (on : Nat → Bool) (q : Nat) : ∀ (l : List Nat) (s : State),
    ((s.forAll l (fun k t => setPause x k b (on k) t)).sub x).paused.contains q =
      if q ∈ l then on q else (s.sub x).paused.contains q
  | [], _ => by simp [State.forAll]
  | k :: l, s => by
    have h := forAll_setPause b on q l (setPause x k b (on k) s)
    rw [setPause_paused] at h
    refine h.trans ?_
    by_cases hl : q ∈ l
    · simp [hl]
    · by_cases hk : q = k
      · simp [hk]
      · simp [hl, hk]

theorem Scheduled.paused {y : Nat} (h : Scheduled y s t) : (t.sub x).paused = (s.sub x).paused := by rw [h.sub x]

theorem forAll_setPause_cnt (b : Bool) (on : Nat → Bool) (l : List Nat) (s : State) :
    (s.forAll l (fun k t => setPause x k b (on k) t)).cnt = s.cnt := by
  refine State.forAll_induct (P := fun t => t.cnt = s.cnt) ?_ l s rfl
  exact fun _ _ h => h

theorem pauseRx_not_late (x i : Nat) : (R.UPL_SP_PAUSE_RX x).key ≠ (R.UPL_CLASS_LATE i).key := by
  show (32 * _ + _ : Nat) ≠ 32 * _ + _
  omega

theorem pfc_effects {e : Nat} {q : List Nat} {k : Nat} (hk : k < 8) (he : e.testBit k = true) :
    (((pfc x e q s).sub x).paused.contains k = true ↔ q.getD k 0 ≠ 0) ∧
    (pfc x e q s).ctr (R.UPL_SP_PAUSE_RX x) = (s.ctr (R.UPL_SP_PAUSE_RX x) + 1) % 2 ^ 32 := by
  have h := upKick_scheduled x ((s.inc (R.UPL_SP_PAUSE_RX x)).forAll ((List.range 8).filter (e.testBit ·))
    (fun k t => setPause x k false (q.getD k 0 != 0) t))
  unfold pfc
  dsimp only
  constructor
  · rw [h.paused, forAll_setPause false (fun k => q.getD k 0 != 0), if_pos (by simp [hk, he])]
    simp
  · rw [h.ctr _ (pauseRx_not_late x), State.ctr, forAll_setPause_cnt false (fun k => q.getD k 0 != 0)]
    exact State.ctr_inc_same s _ 1

theorem pauseFrame_off (h : s.flag R.UPL_CTRL_PAUSE_EN = false) (q : Nat) : pauseFrame x q s = s.inc (R.UPL_SP_PAUSE_RX x) := by
  simp [pauseFrame, h]

/-- PAUSED of sub-port `x` is shown. -/
theorem setPause_shown (k : Nat) (b on : Bool) : (setPause x k b on s).rd (R.UPL_SP_STAT_PAUSED x) =
    ((setPause x k b on s).sub x).paused.foldl (fun a k => a ||| 2 ^ k) 0 % 2 ^ 8 := State.rd_wr_same ..

theorem foldl_or_testBit (l : List Nat) (a q : Nat) : (l.foldl (fun a k => a ||| 2 ^ k) a).testBit q = (a.testBit q || l.contains q) := by
  induction l generalizing a with
  | nil => simp
  | cons k l ih =>
    rw [List.foldl_cons, ih, Nat.testBit_or, Nat.testBit_two_pow, List.contains_cons, Bool.or_assoc]
    simp [Bool.beq_eq_decide_eq, eq_comm]

theorem pauseFrame_effects (h : s.flag R.UPL_CTRL_PAUSE_EN = true) (q : Nat) :
    (∀ k, k < 8 → (((pauseFrame x q s).sub x).paused.contains k = true ↔ q ≠ 0)) ∧
    (q ≠ 0 → (pauseFrame x q s).rd (R.UPL_SP_STAT_PAUSED x) = 0xFF) := by
  have hs := upKick_scheduled x ((s.inc (R.UPL_SP_PAUSE_RX x)).forAll (List.range 8) (fun k t => setPause x k true (q != 0) t))
  have hp (k : Nat) (hk : k < 8) : (((s.inc (R.UPL_SP_PAUSE_RX x)).forAll (List.range 8)
      (fun k t => setPause x k true (q != 0) t)).sub x).paused.contains k = (q != 0) := by
    rw [forAll_setPause true (fun _ => q != 0), if_pos (by simpa using hk)]
  unfold pauseFrame
  dsimp only
  rw [if_pos h]
  refine ⟨fun k hk => by rw [hs.paused, hp k hk]; simp, fun hq => ?_⟩
  rw [State.rd, hs.regs]
  refine (setPause_shown (s := (s.inc (R.UPL_SP_PAUSE_RX x)).forAll (List.range 7) (fun k t => setPause x k true (q != 0) t)) 7 true
    (q != 0)).trans ?_
  refine Nat.eq_of_testBit_eq fun k => ?_
  rw [Nat.testBit_mod_two_pow, foldl_or_testBit]
  by_cases hk : k < 8
  · have e := hp k hk
    rw [show ((s.inc (R.UPL_SP_PAUSE_RX x)).forAll (List.range 8) (fun k t => setPause x k true (q != 0) t)) =
      setPause x 7 true (q != 0) ((s.inc (R.UPL_SP_PAUSE_RX x)).forAll (List.range 7) (fun k t => setPause x k true (q != 0) t)) from rfl] at e
    rw [e, show (0xFF : Nat) = 2 ^ 8 - 1 from rfl, Nat.testBit_two_pow_sub_one]
    simp [hk, hq]
  · rw [show (0xFF : Nat) = 2 ^ 8 - 1 from rfl, Nat.testBit_two_pow_sub_one]
    simp [hk]

theorem pauseEnd_effects (k q : Nat) : ((pauseEnd x k s).sub x).paused.contains q = true ↔
    (s.sub x).paused.contains q = true ∧ ((s.sub x).slot k).contains q = false := by
  unfold pauseEnd
  rw [(upKick_scheduled x _).paused, forAll_setPause false (fun _ => false)]
  by_cases h : q ∈ (s.sub x).slot k <;> simp [h]

theorem pauseLong_nothing {k : Nat} (h : s.rd R.UPL_FLOW_PAUSE_MAX = 0 ∨ ∀ q ∈ (s.sub x).slot k, (s.sub x).noted.contains q = true) :
    pauseLong x k s = s := by
  refine if_neg fun ⟨h0, hn⟩ => ?_
  rcases h with h | h
  · exact h0 h
  · refine hn (List.filter_eq_nil_iff.mpr fun q hq => ?_)
    rw [h q hq]
    simp

theorem pauseLong_new {k q c : Nat} (h0 : s.rd R.UPL_FLOW_PAUSE_MAX ≠ 0) (hq : q ∈ (s.sub x).slot k)
    (hn : (s.sub x).noted.contains q = false) (hc : c ∈ s.classes x) (hp : s.rd (R.UPL_CLASS_CTRL_LIVE_PCP (cix x c)) = q) :
    pauseLong x k s = (s.setSub x { s.sub x with noted := (s.sub x).noted ++ s.pauseNew x k }).raise (upEv (s.lowLane x) 3) := by
  refine if_pos ⟨h0, List.ne_nil_of_mem (a := q) (List.mem_filter.mpr ⟨hq, ?_⟩)⟩
  rw [hn, Bool.not_false, Bool.true_and, List.any_eq_true]
  exact ⟨c, hc, by simpa using hp⟩

end

/-! ### PTP (R330, R331) -/

section
variable {s : State} {x : Nat} {h : PtpHdr}

theorem ptpTaken_eq : s.ptpTaken x h = true ↔ s.flag R.UPL_PTP_CFG_EN = true ∧ x = s.rd R.UPL_PTP_CFG_SUBPORT ∧
    h.domain.toNat = s.rd R.UPL_PTP_CFG_DOMAIN ∧ h.via.val = s.ptpVia := by
  simp [State.ptpTaken, and_assoc]

theorem ptpReceived_refused (ht : s.ptpTaken x h = false) (m : PtpMsg) : ptpReceived x h m s = s := by
  have e : ptpMessage x h m s = (false, s) := if_pos (by simp [ht])
  rw [ptpReceived, e]
  rfl

section
variable (ht : s.ptpTaken x h = true)
include ht

theorem ptpReceived_announce (gm : BitVec 64) : ptpReceived x h (.announce gm true) s =
    { (s.wr R.UPL_PTP_GM_HI (gm.toNat / 2 ^ 32)).wr R.UPL_PTP_GM_LO gm.toNat with
      ptp := { s.ptp with master := some h.source.toNat } } := by
  simp only [ptpReceived, ptpMessage, ht]
  rfl

variable (hm : s.ptp.master = some h.source.toNat)
include hm

theorem ptpReceived_sync (q : BitVec 16) (t1 : BitVec 64) (corr : Int) :
    ptpReceived x h (.sync q false t1 corr) s = ptpPair (t1.toNat + corr) s.now s := by
  simp only [ptpReceived, ptpMessage, ht, hm, beq_self_eq_true]
  rfl

theorem ptpReceived_twoStep (q : BitVec 16) (t1 : BitVec 64) (corr : Int) : ptpReceived x h (.sync q true t1 corr) s =
    { servoSync s with ptp := { (servoSync s).ptp with sync := some (q.toNat, (servoSync s).now, corr) } } := by
  simp only [ptpReceived, ptpMessage, ht, hm, beq_self_eq_true]
  rfl

theorem ptpReceived_followUp {q : BitVec 16} {t2 : Nat} {c : Int} (hs : s.ptp.sync = some (q.toNat, t2, c)) (t1 : BitVec 64) (corr : Int) :
    ptpReceived x h (.followUp q t1 corr) s = ptpPair (t1.toNat + c + corr) t2 s := by
  simp only [ptpReceived, ptpMessage, ht, hm, hs, beq_self_eq_true]
  rfl

end

theorem ptpReceived_otherMaster (hm : s.ptp.master ≠ some h.source.toNat) (q : BitVec 16) (two : Bool) (t1 : BitVec 64) (corr : Int) :
    ptpReceived x h (.sync q two t1 corr) s = s := by
  have hf : (s.ptp.master == some h.source.toNat) = false := by simpa using hm
  cases ht : s.ptpTaken x h
  · exact ptpReceived_refused ht _
  · simp only [ptpReceived, ptpMessage, ht, hf]
    rfl

/-- SERVO and the runs of offsets alone differ, and SERVO is `v`. -/
theorem servoTo_effects (v : Nat) : (servoTo v s).rd R.UPL_PTP_STAT_SERVO = v % 4 ∧ (servoTo v s).chalk = s.chalk ∧
    (servoTo v s).raised = s.raised ∧ (servoTo v s).ptp = { s.ptp with good := 0, bad := 0 } :=
  ⟨State.rd_wr_same s R.UPL_PTP_STAT_SERVO v, rfl, rfl, rfl⟩

theorem servoTo_rd (v : Nat) {f : Fld} (hf : f.key ≠ R.UPL_PTP_STAT_SERVO.key) : (servoTo v s).rd f = s.rd f := State.rd_wr_key s v hf

theorem servoSync_eq : servoSync s = s ∨ servoSync s = servoTo 1 s := by
  unfold servoSync
  dsimp only
  split
  · exact .inr rfl
  · exact .inl rfl

theorem servoSync_chalk : (servoSync s).chalk = s.chalk := by
  rcases servoSync_eq (s := s) with e | e <;> rw [e]
  rfl

theorem servoSync_ptp : (servoSync s).ptp = { s.ptp with good := (servoSync s).ptp.good, bad := (servoSync s).ptp.bad } := by
  rcases servoSync_eq (s := s) with e | e <;> rw [e]
  rfl

theorem servoSync_rd {f : Fld} (hf : f.key ≠ R.UPL_PTP_STAT_SERVO.key) : (servoSync s).rd f = s.rd f := by
  rcases servoSync_eq (s := s) with e | e <;> rw [e]
  exact servoTo_rd 1 hf

theorem servoSync_leaves (h : s.rd R.UPL_PTP_STAT_SERVO = 0 ∨ s.rd R.UPL_PTP_STAT_SERVO = 3) :
    (servoSync s).rd R.UPL_PTP_STAT_SERVO = 1 := by
  have e : servoSync s = servoTo 1 s := if_pos h
  rw [e]
  exact servoTo_effects 1 |>.1

theorem servoSync_via : (servoSync s).ptpVia = s.ptpVia := by
  rw [State.ptpVia, servoSync_rd (by decide)]
  rfl

theorem ptpPair_effects (t1 t2 : Int) :
    (ptpPair t1 t2 s).ptp.pair = some (t1, t2) ∧ (ptpPair t1 t2 s).ptp.sync = none ∧
    (ptpPair t1 t2 s).ptp.dreq = some ⟨s.ptpVia, s.rd R.UPL_PTP_CFG_SUBPORT, s.rd R.UPL_PTP_CFG_DOMAIN, s.ptp.seq, s.now⟩ ∧
    (ptpPair t1 t2 s).chalk = s.chalk ∧ (ptpPair t1 t2 s).rd R.UPL_PTP_STAT_SERVO = (servoSync s).rd R.UPL_PTP_STAT_SERVO := by
  refine ⟨rfl, rfl, ?_, servoSync_chalk, rfl⟩
  unfold ptpPair
  dsimp only
  rw [servoSync_via, servoSync_rd (by decide), servoSync_rd (by decide), servoSync_ptp, State.now, servoSync_chalk]
  rfl

theorem satSigned_lt (w : Nat) (o : Int) : satSigned w o < 2 ^ w := ofSigned_lt w _

/-- The servo judges an offset: SERVO alone may change. -/
theorem servoJudge_effects (o : Int) : (servoJudge o s).ptp.offset = s.ptp.offset ∧ (servoJudge o s).ptp.dreq = s.ptp.dreq ∧
    (servoJudge o s).chalk = s.chalk ∧ ∀ f : Fld, f.key ≠ R.UPL_PTP_STAT_SERVO.key → (servoJudge o s).rd f = s.rd f := by
  unfold servoJudge
  extract_lets ok p s1
  split
  · exact ⟨rfl, rfl, rfl, fun f hf => servoTo_rd 2 hf⟩
  · split
    · exact ⟨rfl, rfl, rfl, fun f hf => servoTo_rd 1 hf⟩
    · exact ⟨rfl, rfl, rfl, fun _ _ => rfl⟩

/-- Offset `o` is shown. -/
def State.measured (s : State) (o : Int) : State :=
  { s.wr R.UPL_PTP_STAT_OFFSET (satSigned 24 o) with ptp := { s.ptp with offset := o } }

/-- Offset `o` is shown, and judged unless a control core is halted. -/
def State.judged (s : State) (o : Int) : State := if s.halted then s.measured o else servoJudge o (s.measured o)

theorem judged_effects (o : Int) : (s.judged o).ptp.offset = o ∧ (s.judged o).ptp.dreq = s.ptp.dreq ∧ (s.judged o).chalk = s.chalk ∧
    (s.judged o).rd R.UPL_PTP_STAT_OFFSET = satSigned 24 o ∧
    (s.judged o).rd R.UPL_PTP_CFG_DISCIPLINE = s.rd R.UPL_PTP_CFG_DISCIPLINE := by
  have h0 : (s.measured o).rd R.UPL_PTP_STAT_OFFSET = satSigned 24 o :=
    State.rd_wr_lt s (f := R.UPL_PTP_STAT_OFFSET) (satSigned_lt 24 o)
  have h1 : (s.measured o).rd R.UPL_PTP_CFG_DISCIPLINE = s.rd R.UPL_PTP_CFG_DISCIPLINE :=
    State.rd_wr_key s (f := R.UPL_PTP_STAT_OFFSET) _ (by decide)
  obtain ⟨j1, j2, j3, j4⟩ := servoJudge_effects (s := s.measured o) o
  unfold State.judged
  split
  · exact ⟨rfl, rfl, rfl, h0, h1⟩
  · exact ⟨j1, j2, j3, (j4 _ (by decide)).trans h0, (j4 _ (by decide)).trans h1⟩

/-- Without DISCIPLINE an offset is shown and judged, and no more. -/
theorem servoOffset_judged (hd : s.flag R.UPL_PTP_CFG_DISCIPLINE = false) (o : Int) : servoOffset o s = (false, s.judged o) := by
  have hf : (s.judged o).flag R.UPL_PTP_CFG_DISCIPLINE = false := by
    rw [State.flag_eq, (judged_effects o).2.2.2.2, ← State.flag_eq, hd]
  have hn : (!(s.judged o).flag R.UPL_PTP_CFG_DISCIPLINE) = true := by rw [hf]; rfl
  exact if_pos (.inl hn)

/-- The Delay_Req has been answered. -/
def State.responded (s : State) : State := { s with ptp := { s.ptp with dreq := none } }

theorem ptpReceived_delayResp (ht : s.ptpTaken x h = true) (hm : s.ptp.master = some h.source.toNat) {q : BitVec 16} {t1 t2 : Int}
    {d : DelayReq} (hp : s.ptp.pair = some (t1, t2)) (hd : s.ptp.dreq = some d) (hq : d.seq = q.toNat)
    (hdis : s.flag R.UPL_PTP_CFG_DISCIPLINE = false) (t4 : BitVec 64) (corr : Int) :
    ptpReceived x h (.delayResp q t4 corr) s =
      s.responded.judged (floorDiv ((t2 - t1) - ((t4.toNat : Int) - corr - d.t3)) 2) := by
  have hj := servoOffset_judged (s := s.responded) hdis (floorDiv ((t2 - t1) - ((t4.toNat : Int) - corr - d.t3)) 2)
  have e : ptpMessage x h (.delayResp q t4 corr) s =
      servoOffset (floorDiv ((t2 - t1) - ((t4.toNat : Int) - corr - d.t3)) 2) s.responded := by
    simp only [ptpMessage, State.responded, ht, hm, hp, hd, hq, beq_self_eq_true]
    rfl
  rw [ptpReceived, e, hj]
  rfl

theorem ptpHoldover_counts (h : s.rd R.UPL_PTP_STAT_SERVO = 1 ∨ s.rd R.UPL_PTP_STAT_SERVO = 2) : ptpHoldover s = servoTo 3 s := if_pos h

theorem ptpHoldover_idle (h1 : s.rd R.UPL_PTP_STAT_SERVO ≠ 1) (h2 : s.rd R.UPL_PTP_STAT_SERVO ≠ 2) : ptpHoldover s = s :=
  if_neg (not_or.mpr ⟨h1, h2⟩)

/-! ### TIME frames (R322) -/

theorem timeTimer_idle (h : s.rd R.FXT_TIME_CFG_PERIOD = 0 ∨ s.subState x ≠ 3) : timeTimer x s = s := if_pos h

theorem timeTimer_builds (h0 : s.rd R.FXT_TIME_CFG_PERIOD ≠ 0) (h3 : s.subState x = 3) : timeTimer x s = timeFrames x s :=
  if_neg (by simp [h0, h3])

theorem frameAccept_seq (c : Nat) (e : Encap) (r : FrameReq) (dl : Option Nat) :
    ((frameAccept x c e r dl s).ucl (cix x c)).seq = ((s.ucl (cix x c)).seq + 1) % 2 ^ 32 := by
  unfold frameAccept
  dsimp only
  rw [State.ucl_set_same]

/-- A frame that finds room takes the class's next sequence number. -/
theorem offerClass_seq {c : Nat} {r : FrameReq} (hs : stopped r.type = false)
    (hr : s.classRoom x (cix x c) r.type (36 + r.payload.length) = true) (dl : Option Nat) :
    ((offerClass x c r dl s).ucl (cix x c)).seq = ((s.ucl (cix x c)).seq + 1) % 2 ^ 32 := by
  unfold offerClass
  dsimp only
  rw [if_neg (by simp [hs]), if_pos hr, (upKick_scheduled x _).ucl]
  exact frameAccept_seq (s := (s.encapNow x).2) c _ r dl

theorem timeFrames_seq {c : Nat} (hc : (s.classes x).filter (s.matchesClass x 0x20 0xFF) = [c])
    (hr : s.classRoom x (cix x c) 0x20 68 = true) :
    ((timeFrames x s).ucl (cix x c)).seq = ((s.ucl (cix x c)).seq + 1) % 2 ^ 32 := by
  unfold timeFrames
  rw [hc]
  exact offerClass_seq (r := ⟨0x20, 0xFF, 0, s.now, _⟩) rfl hr _

end

/-- Settles O60. -/
theorem flowAndTimeCommands : Obligations.FlowAndTimeCommands := by
  intro s x ha
  refine ⟨fun e q k hk hlen he => ⟨_, act_awake ha _, ?pfc⟩, fun q h => act_of_eq ha (pauseFrame_off h q.toNat),
    fun q h => ⟨_, act_awake ha _, ?pause⟩, fun k => ⟨_, act_awake ha _, fun q => pauseEnd_effects k.val q⟩,
    fun k h => act_of_eq ha (pauseLong_nothing h), fun k q c h0 hq hn hc hp => act_of_eq ha (pauseLong_new h0 hq hn hc hp),
    fun h m hr => act_of_eq ha (ptpReceived_refused ?refused m), fun h gm ht => act_of_eq ha (ptpReceived_announce ht gm),
    fun h q two t1 corr hm => act_of_eq ha (ptpReceived_otherMaster hm q two t1 corr),
    fun h q t1 corr ht hm => ⟨⟨_, act_awake ha _, ?sync⟩, ⟨_, act_awake ha _, ?two⟩, fun t2 c hs => ⟨_, act_awake ha _, ?follow⟩⟩,
    fun h q t4 corr t1 t2 d ht hm hp hd hq hdis => ⟨_, act_awake ha _, ?resp⟩, fun h => ⟨_, act_awake ha _, ?hold⟩,
    fun h1 h2 => act_of_eq ha (ptpHoldover_idle h1 h2), fun h => act_of_eq ha (timeTimer_idle h),
    fun h0 h3 => act_of_eq ha (timeTimer_builds h0 h3), fun c h0 h3 hc hr => ⟨_, act_of_eq ha (timeTimer_builds h0 h3), ?time⟩,
    fun v => act_awake ha _⟩
  case pfc =>
    obtain ⟨h1, h2⟩ := pfc_effects (s := s) (x := x) (q := q.map (·.toNat)) hk he
    refine ⟨h1.trans (not_congr ?_), h2⟩
    rw [List.getD_eq_getElem?_getD, List.getElem?_map]
    cases q[k]? with
    | none => simp
    | some v => simp [BitVec.toNat_eq]
  case pause =>
    obtain ⟨h1, h2⟩ := pauseFrame_effects (x := x) h q.toNat
    have hq : q.toNat ≠ 0 ↔ q ≠ 0 := by simp [BitVec.toNat_eq]
    exact ⟨fun k hk => (h1 k hk).trans hq, fun h0 => h2 (hq.mpr h0)⟩
  case refused =>
    rw [← Bool.not_eq_true, ptpTaken_eq]
    rintro ⟨h1, h2, h3, h4⟩
    rcases hr with hr | hr | hr | hr
    · simp [h1] at hr
    · exact hr h2
    · exact hr h3
    · exact hr h4
  case sync =>
    rw [ptpReceived_sync ht hm]
    obtain ⟨h1, -, h3, h4, h5⟩ := ptpPair_effects (s := s) (t1.toNat + corr) s.now
    exact ⟨h1, h3, h4, fun h0 => h5.trans (servoSync_leaves h0)⟩
  case two =>
    rw [ptpReceived_twoStep ht hm]
    refine ⟨?_, ?_, servoSync_chalk⟩
    · rw [State.now, servoSync_chalk]; rfl
    · have h2 := congrArg Ptp.pair (servoSync_ptp (s := s))
      exact h2
  case follow =>
    rw [ptpReceived_followUp ht hm hs]
    obtain ⟨h1, h2, h3, -, -⟩ := ptpPair_effects (s := s) (t1.toNat + c + corr) t2
    exact ⟨h1, h2, by rw [h3]; rfl⟩
  case resp =>
    rw [ptpReceived_delayResp ht hm hp hd hq hdis]
    obtain ⟨h1, h2, h3, h4, -⟩ := judged_effects (s := s.responded) (floorDiv ((t2 - t1) - ((t4.toNat : Int) - corr - d.t3)) 2)
    exact ⟨h2, h1, h4.trans (congrArg (satSigned 24) h1.symm), h3⟩
  case hold =>
    rw [ptpHoldover_counts h]
    obtain ⟨h1, h2, h3, -⟩ := servoTo_effects (s := s) 3
    exact ⟨h1, h2, h3⟩
  case time => exact ⟨timeFrames_seq hc hr, (timeFrames_offered s x).regs⟩

end Sys2Proof.Machine
end

section
/-! PROOF. Bringing a sub-port of the uplink up (O58). -/

namespace Sys2Proof.Machine

/-! ### What bringing sub-port `x` up changes: registers of `K`, counters, classes, the frame under way -/

/-- State `t` differs from `z` in registers with keys of `K`, in counters, classes and sub-ports, and by late events; a frame under way on
sub-port `x` stays or is cut short. -/
structure BringUp (K : Nat → Prop) (x : Nat) (z t : State) : Prop where
  rest : t = { z with regs := t.regs, cnt := t.cnt, ucls := t.ucls, subs := t.subs, raised := t.raised }
  rd (f : Fld) (h : ¬ K f.key) : t.rd f = z.rd f
  mode : t.rd R.UPL_CFG_MODE = z.rd R.UPL_CFG_MODE
  kept (e : Nat) (h : e ∈ z.raised) : e ∈ t.raised
  new (e : Nat) (h : e ∈ t.raised) : e ∈ z.raised ∨ e = upEv (z.lowLane x) 2
  cur : (t.sub x).cur = none ∨ (t.sub x).cur = (z.sub x).cur

section
variable {K : Nat → Prop} {x : Nat} {z t u : State}

theorem BringUp.refl (K : Nat → Prop) (x : Nat) (z : State) : BringUp K x z z :=
  ⟨rfl, fun _ _ => rfl, rfl, fun _ h => h, fun _ h => .inl h, .inr rfl⟩

theorem BringUp.trans (h : BringUp K x z t) (k : BringUp K x t u) : BringUp K x z u where
  rest := k.rest.trans (congrArg (fun w : State => { w with regs := u.regs, cnt := u.cnt, ucls := u.ucls, subs := u.subs,
                                                            raised := u.raised }) h.rest)
  rd f hf := (k.rd f hf).trans (h.rd f hf)
  mode := k.mode.trans h.mode
  kept e he := k.kept e (h.kept e he)
  new e he := by
    have hl : t.lowLane x = z.lowLane x := by rw [State.lowLane, h.mode]; rfl
    rcases k.new e he with h1 | h1
    · exact h.new e h1
    · exact .inr (hl ▸ h1)
  cur := k.cur.elim .inl (fun e => by rw [e]; exact h.cur)

theorem BringUp.mono {L : Nat → Prop} (h : BringUp K x z t) (hKL : ∀ k, K k → L k) : BringUp L x z t :=
  ⟨h.rest, fun f hf => h.rd f (fun hk => hf (hKL _ hk)), h.mode, h.kept, h.new, h.cur⟩

theorem BringUp.wr (h : BringUp K x z t) {f : Fld} (hf : K f.key) (hm : R.UPL_CFG_MODE.key ≠ f.key) (v : Nat) :
    BringUp K x z (t.wr f v) :=
  h.trans ⟨rfl, fun _ hg => State.rd_wr_key t v (fun e => hg (e ▸ hf)), State.rd_wr_key t v hm, fun _ h => h, fun _ h => .inl h, .inr rfl⟩

theorem BringUp.inc (h : BringUp K x z t) (f : Fld) : BringUp K x z (t.inc f) :=
  h.trans ⟨rfl, fun _ _ => rfl, rfl, fun _ h => h, fun _ h => .inl h, .inr rfl⟩

theorem BringUp.setUcl (h : BringUp K x z t) (i : Nat) (c : UClass) : BringUp K x z (t.setUcl i c) :=
  h.trans ⟨rfl, fun _ _ => rfl, rfl, fun _ h => h, fun _ h => .inl h, .inr rfl⟩

theorem BringUp.cut (h : BringUp K x z t) : BringUp K x z (t.setSub x { t.sub x with cur := none }) :=
  h.trans ⟨rfl, fun _ _ => rfl, rfl, fun _ h => h, fun _ h => .inl h, .inl (by rw [State.sub_set_same])⟩

theorem BringUp.late (h : BringUp K x z t) (c : Nat) : BringUp K x z
    ((t.setSub x { t.sub x with lateAt := some c }).raise (upEv (t.lowLane x) 2)) :=
  h.trans ⟨rfl, fun _ _ => rfl, rfl, fun _ h => List.mem_append_left _ h, fun e he => by simpa using he,
    .inr (by rw [State.raise_subOf, State.sub_set_same])⟩

theorem BringUp.forAll (h : BringUp K x z t) {f : Nat → State → State} {l : List Nat}
    (hf : ∀ i ∈ l, ∀ u, BringUp K x z u → BringUp K x z (f i u)) : BringUp K x z (t.forAll l f) := by
  induction l generalizing t with
  | nil => exact h
  | cons i l ih => exact ih (hf i List.mem_cons_self t h) (fun j hj => hf j (List.mem_cons_of_mem i hj))

theorem BringUp.dropLate (c : Nat) : ∀ (k : Nat) {t : State}, BringUp K x z t → BringUp K x z (dropLate x c k t)
  | 0, _, h => h
  | k + 1, t, h => by
    unfold Machine.dropLate
    dsimp only
    split
    · exact h
    · split
      · refine BringUp.dropLate c k ?_
        have h1 := (h.setUcl (cix x c) { t.ucl (cix x c) with queue := ‹List Frame› }).inc (R.UPL_CLASS_LATE (cix x c))
        split
        · exact h1
        · exact h1.late _
      · exact h

theorem BringUp.dropLateAll (h : BringUp K x z t) : BringUp K x z (dropLateAll x t) :=
  h.forAll (fun c _ _ hu => hu.dropLate c _)

theorem BringUp.creditUpdate (h : BringUp K x z t) : BringUp K x z (creditUpdate x t) := h.forAll (fun _ _ _ hu => hu.setUcl ..)

theorem BringUp.upAbort (h : BringUp K x z t) : BringUp K x z (upAbort x t) := by
  unfold Machine.upAbort
  split
  · exact h
  · exact h.cut.inc _

theorem upAbort_cur (x : Nat) (s : State) : ((upAbort x s).sub x).cur = none := by
  unfold upAbort
  split
  · assumption
  · exact congrArg SubPort.cur (State.sub_set_same s x _)

end

/-! ### The lanes that carry sub-port `x` (R310, R311) -/

/-- Keys of the lane registers that `carry` writes: IN_USE, SUBPORT, AM_LOCK and SIG_DET. -/
def laneKey (k : Nat) : Prop := ∃ u lo, (lo = 8 ∨ lo = 0 ∨ lo = 6 ∨ lo = 5) ∧ k = 32 * (0x2000 + u * 0x40) + lo

/-- Keys that `carry` writes: those and LANES and RATE of sub-port `x`. -/
def carryKey (x k : Nat) : Prop := laneKey k ∨ k = 32 * (0x100 + x * 0x10) + 24 ∨ k = 32 * (0x100 + x * 0x10) + 16

/-- Keys of the shares in force of sub-port `x`. -/
def shareKey (x k : Nat) : Prop := ∃ c, c < 8 ∧ k = 32 * (0x1010 + (8 * x + c) * 0x20) + 0

/-- Keys that bringing sub-port `x` up writes: those and FALLBACK and STATE. -/
def bringKey (x k : Nat) : Prop :=
  carryKey x k ∨ shareKey x k ∨ k = 32 * (0x100 + x * 0x10) + 3 ∨ k = 32 * (0x100 + x * 0x10) + 0

section
variable {x : Nat} {z t : State}

theorem mode_not_carried {k : Nat} (h : carryKey x k) : R.UPL_CFG_MODE.key ≠ k := by
  rcases h with ⟨u, lo, hlo, rfl⟩ | rfl | rfl <;> (show (32 * _ + _ : Nat) ≠ _; omega)

/-- Lane `u` is in use by sub-port `x`, or parked. -/
def laneCarried (x u : Nat) (on : Bool) (t : State) : State :=
  let t1 := (t.wr (R.UPL_LANE_STAT_IN_USE u) (b2n on)).wr (R.UPL_LANE_STAT_SUBPORT u) (if on then x else 0)
  if on then t1 else (t1.wr (R.UPL_LANE_STAT_AM_LOCK u) 0).wr (R.UPL_LANE_STAT_SIG_DET u) 0

theorem carry_eq (ls : List Nat) (s : State) : carry x ls s =
    ((s.forAll (s.subLanes x) (fun u t => laneCarried x u (ls.contains u) t)).wr (R.UPL_SP_STAT_LANES x)
      (ls.foldl (fun a u => a + 2 ^ u) 0)).wr (R.UPL_SP_STAT_RATE x) (8 * ls.length) := rfl

theorem BringUp.laneCarried {K : Nat → Prop} (h : BringUp K x z t) (u : Nat) (on : Bool) (hK : ∀ k, laneKey k → K k) :
    BringUp K x z (laneCarried x u on t) := by
  have w {t : State} (h : BringUp K x z t) {f : Fld} (hf : laneKey f.key) (v : Nat) : BringUp K x z (t.wr f v) :=
    h.wr (hK _ hf) (mode_not_carried (x := x) (.inl hf)) v
  have h1 (v : Nat) := w (w h (f := R.UPL_LANE_STAT_IN_USE u) ⟨u, 8, .inl rfl, rfl⟩ (b2n on)) (f := R.UPL_LANE_STAT_SUBPORT u)
    ⟨u, 0, .inr (.inl rfl), rfl⟩ v
  unfold Machine.laneCarried
  dsimp only
  split
  · exact h1 _
  · exact w (w (h1 _) (f := R.UPL_LANE_STAT_AM_LOCK u) ⟨u, 6, .inr (.inr (.inl rfl)), rfl⟩ 0)
      (f := R.UPL_LANE_STAT_SIG_DET u) ⟨u, 5, .inr (.inr (.inr rfl)), rfl⟩ 0

theorem BringUp.carry {K : Nat → Prop} (h : BringUp K x z t) (ls : List Nat) (hK : ∀ k, carryKey x k → K k) : BringUp K x z (carry x ls t) := by
  rw [carry_eq]
  refine BringUp.wr (BringUp.wr (h.forAll fun u _ _ hv => hv.laneCarried u _ fun k hk => hK k (.inl hk)) ?_ ?_ _) ?_ ?_ _
  · exact hK _ (.inr (.inl rfl))
  · exact mode_not_carried (x := x) (.inr (.inl rfl))
  · exact hK _ (.inr (.inr rfl))
  · exact mode_not_carried (x := x) (.inr (.inr rfl))

theorem laneCarried_inUse (u : Nat) (on : Bool) (v : Nat) : (laneCarried x u on t).rd (R.UPL_LANE_STAT_IN_USE v) =
    if v = u then b2n on else t.rd (R.UPL_LANE_STAT_IN_USE v) := by
  have h : (laneCarried x u on t).rd (R.UPL_LANE_STAT_IN_USE v) = (t.wr (R.UPL_LANE_STAT_IN_USE u) (b2n on)).rd (R.UPL_LANE_STAT_IN_USE v) := by
    unfold laneCarried
    dsimp only
    split <;> simp (disch := (with_unfolding_all (show (32 * _ + _ : Nat) ≠ 32 * _ + _); omega)) only [State.rd_wr_key]
  rw [h]
  split
  · next e => rw [e]; exact State.rd_wr_lt _ (by show b2n on < 2; cases on <;> decide)
  · exact State.rd_wr_key _ _ (by show (32 * _ + _ : Nat) ≠ 32 * _ + _; omega)

theorem forAll_laneCarried_inUse (on : Nat → Bool) (v : Nat) : ∀ (l : List Nat) (t : State),
    (t.forAll l (fun u t => laneCarried x u (on u) t)).rd (R.UPL_LANE_STAT_IN_USE v) =
      if v ∈ l then b2n (on v) else t.rd (R.UPL_LANE_STAT_IN_USE v)
  | [], _ => rfl
  | u :: l, t => by
    refine (forAll_laneCarried_inUse on v l (laneCarried x u (on u) t)).trans ?_
    rw [laneCarried_inUse]
    by_cases hl : v ∈ l
    · simp [hl]
    · by_cases hv : v = u
      · simp [hv]
      · simp [hl, hv]

theorem carry_inUse (ls : List Nat) {v : Nat} (h : v ∈ t.subLanes x) :
    (carry x ls t).rd (R.UPL_LANE_STAT_IN_USE v) = b2n (ls.contains v) := by
  rw [carry_eq, State.rd_wr_key _ _ (by show (32 * _ + _ : Nat) ≠ 32 * _ + _; omega),
    State.rd_wr_key _ _ (by show (32 * _ + _ : Nat) ≠ 32 * _ + _; omega), forAll_laneCarried_inUse (fun u => ls.contains u), if_pos h]

theorem insertNat_mem (a b : Nat) (l : List Nat) : b ∈ insertNat a l → b = a ∨ b ∈ l := by
  induction l with
  | nil => simp [insertNat]
  | cons c l ih => unfold insertNat; grind

theorem BringUp.foldl_share {K : Nat → Prop} {f : Nat × State → Nat → Nat} {g : Nat × State → Nat → Nat}
    (hK : ∀ c, c < 8 → K (R.UPL_CLASS_SHARE_LIVE_SHARE_LIVE (cix x c)).key) : ∀ (l : List Nat) (a : Nat × State), (∀ c ∈ l, c < 8) → BringUp K x z a.2 →
    BringUp K x z (l.foldl (fun (a : Nat × State) c => (g a c, a.2.wr (R.UPL_CLASS_SHARE_LIVE_SHARE_LIVE (cix x c)) (f a c))) a).2
  | [], _, _, h => h
  | c :: l, a, hl, h => by
    refine BringUp.foldl_share hK l _ (fun d hd => hl d (List.mem_cons_of_mem c hd)) ?_
    exact h.wr (hK c (hl c List.mem_cons_self)) (by show (32 * _ + _ : Nat) ≠ 32 * _ + _; omega) _

theorem classOrder_lt (s : State) (c : Nat) (h : c ∈ s.classOrder x) : c < 8 := by
  obtain ⟨a, -, rfl⟩ := List.mem_map.mp h
  omega

theorem BringUp.rescale {K : Nat → Prop} (h : BringUp K x z t) (n : Nat) (hK : ∀ k, shareKey x k → K k) : BringUp K x z (rescale x n t) :=
  BringUp.foldl_share (fun c hc => hK _ ⟨c, hc, rfl⟩) _ _ (classOrder_lt _) h.creditUpdate

end

/-! ### Bring-up as a whole (R309 to R311) -/

section
variable {x : Nat} {s : State}

/-- Which lanes may carry a sub-port depends on MODE, FALLBACK and the lanes taped off alone. -/
theorem division_congr {t : State} (hm : t.rd R.UPL_CFG_MODE = s.rd R.UPL_CFG_MODE) (hf : t.rd R.UPL_CFG_FALLBACK = s.rd R.UPL_CFG_FALLBACK)
    (ht : ∀ u, t.rd (R.UPL_LANE_STAT_TAPED u) = s.rd (R.UPL_LANE_STAT_TAPED u)) (fb : Bool) : t.division x fb = s.division x fb := by
  have h1 : t.laneTaped = s.laneTaped := funext fun u => by rw [State.laneTaped, State.flag_eq, ht u]; rfl
  have h2 : t.subLanes x = s.subLanes x := by rw [State.subLanes, State.lowLane, hm]; rfl
  unfold State.division
  rw [h1, h2, hf]

/-- Sub-port `x` has stopped, in fall-back or not, and is about to be brought up. -/
def State.stopped (s : State) (x : Nat) (fb : Bool) : State := (creditUpdate x (upAbort x s)).wr (R.UPL_SP_STAT_FALLBACK x) (b2n fb)

theorem stopped_brings (fb : Bool) : BringUp (· = (R.UPL_SP_STAT_FALLBACK x).key) x s (s.stopped x fb) :=
  ((BringUp.refl _ x s).upAbort.creditUpdate).wr (K := (· = (R.UPL_SP_STAT_FALLBACK x).key)) (f := R.UPL_SP_STAT_FALLBACK x) rfl
    (by show (32 * _ + _ : Nat) ≠ 32 * _ + _; omega) _

theorem stopped_fallback (fb : Bool) : (s.stopped x fb).rd (R.UPL_SP_STAT_FALLBACK x) = b2n fb :=
  State.rd_wr_lt _ (by show b2n fb < 2; cases fb <;> decide)

theorem stopped_division (fb : Bool) : (s.stopped x fb).division x fb = s.division x fb := by
  have h := stopped_brings (x := x) (s := s) fb
  exact division_congr h.mode (h.rd _ (by show (32 * _ + _ : Nat) ≠ 32 * _ + _; omega))
    (fun u => h.rd _ (by show (32 * _ + _ : Nat) ≠ 32 * _ + _; omega)) fb

theorem stopped_cur (fb : Bool) : ((s.stopped x fb).sub x).cur = none := by
  have h : BringUp (fun _ => True) x (upAbort x s) (s.stopped x fb) :=
    (BringUp.refl _ x _).creditUpdate.wr (f := R.UPL_SP_STAT_FALLBACK x) trivial (by show (32 * _ + _ : Nat) ≠ 32 * _ + _; omega) _
  exact h.cur.elim id (·.trans (upAbort_cur x s))

/-- A clean division carries sub-port `x`, which trains. -/
theorem upBring_some {fb : Bool} {ls : List Nat} (h : s.division x fb = some ls) :
    upBring x fb s = dropLateAll x (upTrain x (rescale x ls.length (carry x ls (s.stopped x fb)))) := by
  have e := (stopped_division (x := x) (s := s) fb).trans h
  unfold State.stopped at e ⊢
  unfold upBring
  dsimp only
  rw [e]

/-- Without one it fails. -/
theorem upBring_none {fb : Bool} (h : s.division x fb = none) :
    upBring x fb s = dropLateAll x (upFail x (carry x [] (s.stopped x fb))) := by
  have e := (stopped_division (x := x) (s := s) fb).trans h
  unfold State.stopped at e ⊢
  unfold upBring
  dsimp only
  rw [e]

theorem BringUp.all {K : Nat → Prop} {z t : State} (h : BringUp K x z t) (hK : ∀ k, K k → bringKey x k) : BringUp (bringKey x) x z t :=
  h.mono hK

theorem carried_brings (fb : Bool) (ls : List Nat) : BringUp (bringKey x) x s (carry x ls (s.stopped x fb)) :=
  ((stopped_brings fb).all (fun _ h => .inr (.inr (.inl h)))).carry ls (fun _ h => .inl h)

theorem upTrain_brings {z t : State} (h : BringUp (bringKey x) x z t) : BringUp (bringKey x) x z (upTrain x t) :=
  h.wr (.inr (.inr (.inr rfl))) (by show (32 * _ + _ : Nat) ≠ 32 * _ + _; omega) _

theorem upBring_brings {fb : Bool} {ls : List Nat} (h : s.division x fb = some ls) : BringUp (bringKey x) x s (upBring x fb s) := by
  rw [upBring_some h]
  exact (upTrain_brings ((carried_brings fb ls).rescale _ (fun _ h => .inr (.inl h)))).dropLateAll

/-- What bringing a sub-port up keeps, whether lanes may carry it or not. -/
theorem upBring_frame (fb : Bool) : (∀ e ∈ s.raised, e ∈ (upBring x fb s).raised) ∧ (upBring x fb s).ruleTaped = s.ruleTaped ∧
    ∀ f : Fld, ¬ bringKey x f.key → (upBring x fb s).rd f = s.rd f := by
  cases h : s.division x fb with
  | some ls =>
    have hb := upBring_brings h
    exact ⟨hb.kept, by rw [hb.rest], hb.rd⟩
  | none =>
    have h1 := carried_brings (x := x) (s := s) fb []
    have h2 := h1.wr (f := R.UPL_SP_STAT_STATE x) (.inr (.inr (.inr rfl))) (by show (32 * _ + _ : Nat) ≠ 32 * _ + _; omega) 4
    have h3 := (BringUp.refl (bringKey x) x (upFail x (carry x [] (s.stopped x fb)))).dropLateAll
    rw [upBring_none h]
    refine ⟨fun e he => h3.kept e (List.mem_append_left _ (h2.kept e he)), ?_, fun f hf => (h3.rd f hf).trans (h2.rd f hf)⟩
    have h4 : (upFail x (carry x [] (s.stopped x fb))).ruleTaped = s.ruleTaped := by
      show ((carry x [] (s.stopped x fb)).wr (R.UPL_SP_STAT_STATE x) 4).ruleTaped = s.ruleTaped
      rw [h2.rest]
    rw [h3.rest]
    exact h4

/-- The sub-port trains on the lanes of its division, with no frame under way. -/
theorem upBring_effects (hx : x < 8) {fb : Bool} {ls : List Nat} (h : s.division x fb = some ls) :
    (upBring x fb s).subState x = (if s.flag R.UPL_CTRL_LT_EN then 1 else 2) ∧ (upBring x fb s).rd (R.UPL_SP_STAT_FALLBACK x) = b2n fb ∧
    (∀ u ∈ s.subLanes x, (upBring x fb s).rd (R.UPL_LANE_STAT_IN_USE u) = if u ∈ ls then 1 else 0) ∧ ((upBring x fb s).sub x).cur = none := by
  have h0 := stopped_brings (x := x) (s := s) fb
  have h1 : BringUp (fun k => carryKey x k ∨ shareKey x k) x (s.stopped x fb) (rescale x ls.length (carry x ls (s.stopped x fb))) :=
    ((BringUp.refl _ x _).carry ls (fun _ h => .inl h)).rescale _ (fun _ h => .inr h)
  have h2 : BringUp (shareKey x) x (carry x ls (s.stopped x fb)) (rescale x ls.length (carry x ls (s.stopped x fb))) :=
    (BringUp.refl _ x _).rescale _ (fun _ h => h)
  have hlanes : (s.stopped x fb).subLanes x = s.subLanes x := by rw [State.subLanes, State.lowLane, h0.mode]; rfl
  have h3 := BringUp.refl (fun _ => False) x (upTrain x (rescale x ls.length (carry x ls (s.stopped x fb)))) |>.dropLateAll
  have hlt : (rescale x ls.length (carry x ls (s.stopped x fb))).flag R.UPL_CTRL_LT_EN = s.flag R.UPL_CTRL_LT_EN := by
    rw [State.flag_eq, h1.rd _ ?_, h0.rd _ ?_]
    · rfl
    · show (32 * _ + _ : Nat) ≠ 32 * _ + _; omega
    · rintro ((⟨u, lo, hlo, e⟩ | e | e) | ⟨c, hc, e⟩) <;> (change (32 * _ + _ : Nat) = _ at e; omega)
  rw [upBring_some h]
  refine ⟨(h3.rd _ id).trans ?_, (h3.rd _ id).trans ?_, fun u hu => (h3.rd _ id).trans ?_, ?_⟩
  · refine (State.rd_wr_same _ (R.UPL_SP_STAT_STATE x) _).trans ?_
    rw [hlt]
    split <;> rfl
  · refine (State.rd_wr_key _ _ (by show (32 * _ + _ : Nat) ≠ 32 * _ + _; omega)).trans ((h1.rd _ ?_).trans (stopped_fallback fb))
    rintro ((⟨u, lo, hlo, e⟩ | e | e) | ⟨c, hc, e⟩) <;> (change (32 * _ + _ : Nat) = _ at e; omega)
  · refine (State.rd_wr_key _ _ (by show (32 * _ + _ : Nat) ≠ 32 * _ + _; omega)).trans ((h2.rd _ ?_).trans ?_)
    · rintro ⟨c, hc, e⟩
      change (32 * _ + _ : Nat) = _ at e
      omega
    · rw [carry_inUse ls (hlanes ▸ hu)]
      by_cases hl : u ∈ ls <;> simp [hl, b2n]
  · have hc : ((rescale x ls.length (carry x ls (s.stopped x fb))).sub x).cur = none :=
      h1.cur.elim id (·.trans (stopped_cur fb))
    exact h3.cur.elim id (·.trans hc)

/-! ### A sub-port is aligned (R309, R322, R457) -/

/-- Lane `u` has alignment-marker lock. -/
def laneLocked (u : Nat) (t : State) : State := (t.wr (R.UPL_LANE_STAT_AM_LOCK u) 1).wr (R.UPL_LANE_STAT_SIG_DET u) 1

theorem laneLocked_state (u : Nat) (t : State) : (laneLocked u t).subState x = t.subState x :=
  (State.rd_wr_key _ _ (by show (32 * _ + _ : Nat) ≠ 32 * _ + _; omega)).trans
    (State.rd_wr_key _ _ (by show (32 * _ + _ : Nat) ≠ 32 * _ + _; omega))

theorem laneLocked_lock (u v : Nat) (t : State) :
    (laneLocked u t).rd (R.UPL_LANE_STAT_AM_LOCK v) = if v = u then 1 else t.rd (R.UPL_LANE_STAT_AM_LOCK v) := by
  refine (State.rd_wr_key _ _ (by show (32 * _ + _ : Nat) ≠ 32 * _ + _; omega)).trans ?_
  split
  · next e => rw [e, State.rd_wr_same]; rfl
  · exact State.rd_wr_key _ _ (by show (32 * _ + _ : Nat) ≠ 32 * _ + _; omega)

theorem forAll_laneLocked_lock (v : Nat) : ∀ (l : List Nat) (t : State), v ∈ l ∨ t.rd (R.UPL_LANE_STAT_AM_LOCK v) = 1 →
    (t.forAll l laneLocked).rd (R.UPL_LANE_STAT_AM_LOCK v) = 1
  | [], _, h => h.resolve_left List.not_mem_nil
  | u :: l, t, h => by
    refine forAll_laneLocked_lock v l _ ?_
    rw [laneLocked_lock]
    by_cases hu : v = u
    · exact .inr (if_pos hu)
    · rw [if_neg hu]
      exact h.imp_left fun h => (List.mem_cons.mp h).resolve_left hu

theorem fall_live (e d : Nat) (t : State) : ((t.fall e).snag d).live = if d = e then false else (t.snag d).live := by
  unfold State.fall
  split
  · next h => rw [h, State.snag_set_same]
  · next h => rw [State.snag_set_other _ _ h]

theorem forAll_fall_live (f : Nat → Nat) (d : Nat) : ∀ (l : List Nat) (t : State), (∃ u ∈ l, f u = d) ∨ (t.snag d).live = false →
    ((t.forAll l (fun u t => t.fall (f u))).snag d).live = false
  | [], _, h => h.resolve_left (by simp)
  | u :: l, t, h => by
    refine forAll_fall_live f d l _ ?_
    rw [fall_live]
    by_cases hu : d = f u
    · exact .inr (if_pos hu)
    · rw [if_neg hu]
      refine h.imp_left fun ⟨v, hv, e⟩ => ⟨v, (List.mem_cons.mp hv).resolve_left (fun e' => hu ?_), e⟩
      rw [← e, e']

theorem fall_regs (f : Nat → Nat) (l : List Nat) (t : State) : (t.forAll l (fun u t => t.fall (f u))).regs = t.regs := by
  refine State.forAll_induct (P := fun u => u.regs = t.regs) ?_ l t rfl
  exact fun _ _ h => h

/-- The next frame of each class carries FIRST. -/
theorem firsts_frame (g : Nat → Nat) (l : List Nat) (t : State) :
    (t.forAll l (fun c t => t.setUcl (g c) { t.ucl (g c) with first := true })).regs = t.regs ∧
    (t.forAll l (fun c t => t.setUcl (g c) { t.ucl (g c) with first := true })).snags = t.snags := by
  refine State.forAll_induct (P := fun u => u.regs = t.regs ∧ u.snags = t.snags) ?_ l t ⟨rfl, rfl⟩
  exact fun _ _ h => h

/-- Sub-port `x` enters UP, its lanes having lock, and its link conditions clear. -/
def State.locked (s : State) (x : Nat) : State :=
  ((((s.wr (R.UPL_SP_STAT_STATE x) 3).forAll ((List.range 8).filter (fun u => (s.rd (R.UPL_SP_STAT_LANES x)).testBit u)) laneLocked).forAll
    (s.subLanes x) (fun u t => t.fall (upEv u 0))).forAll (s.classes x)
      (fun c t => t.setUcl (cix x c) { t.ucl (cix x c) with first := true }))

theorem locked_effects : (s.locked x).subState x = 3 ∧
    (∀ u, u < 8 → (s.rd (R.UPL_SP_STAT_LANES x)).testBit u = true → (s.locked x).rd (R.UPL_LANE_STAT_AM_LOCK u) = 1) ∧
    ∀ u ∈ s.subLanes x, ((s.locked x).snag (upEv u 0)).live = false := by
  have h2 := firsts_frame (cix x) (s.classes x) (((s.wr (R.UPL_SP_STAT_STATE x) 3).forAll
    ((List.range 8).filter (fun u => (s.rd (R.UPL_SP_STAT_LANES x)).testBit u)) laneLocked).forAll (s.subLanes x) (fun u t => t.fall (upEv u 0)))
  have h1 := h2.1.trans (fall_regs (upEv · 0) (s.subLanes x) _)
  unfold State.locked
  refine ⟨?_, fun u hu hb => ?_, fun u hu => ?_⟩
  · rw [State.subState, State.rd, h1]
    refine State.forAll_induct (P := fun t => t.subState x = 3) (fun u t h => (laneLocked_state u t).trans h) _ _ ?_
    exact State.rd_wr_same s (R.UPL_SP_STAT_STATE x) 3
  · rw [State.rd, h1]
    exact forAll_laneLocked_lock u _ _ (.inl (by simp [hu, hb]))
  · rw [State.snag, h2.2]
    exact forAll_fall_live (upEv · 0) _ _ _ (.inl ⟨u, hu, rfl⟩)

theorem upAligned_offered (h : s.subState x = 2) : Offered (s.locked x) (upAligned x s) := by
  have h1 : Offered (s.locked x) (if (s.locked x).rd R.FXT_TIME_CFG_PERIOD = 0 then s.locked x else timeFrames x (s.locked x)) := by
    split
    · exact .refl _
    · exact timeFrames_offered _ x
  have e : upAligned x s = upKick x ((if (s.locked x).rd R.FXT_TIME_CFG_PERIOD = 0 then s.locked x else timeFrames x (s.locked x)).forAll
      ((if (s.locked x).rd R.FXT_TIME_CFG_PERIOD = 0 then s.locked x else timeFrames x (s.locked x)).classes x)
      (fun c t => waitAccept x c t)) := if_neg (by simp [h])
  rw [e]
  exact (h1.forAll (fun c t => waitAccept_offered t x c) _).trans (upKick_offered ..)

theorem upAligned_effects (h : s.subState x = 2) : (upAligned x s).subState x = 3 ∧
    (∀ u, u < 8 → (s.rd (R.UPL_SP_STAT_LANES x)).testBit u = true → (upAligned x s).rd (R.UPL_LANE_STAT_AM_LOCK u) = 1) ∧
    ∀ u ∈ s.subLanes x, ((upAligned x s).snag (upEv u 0)).live = false := by
  have ho := upAligned_offered h
  obtain ⟨h1, h2, h3⟩ := locked_effects (s := s) (x := x)
  refine ⟨?_, fun u hu hb => ?_, fun u hu => ?_⟩
  · rw [State.subState, State.rd, ho.regs]; exact h1
  · rw [State.rd, ho.regs]; exact h2 u hu hb
  · rw [State.snag, ho.rest]; exact h3 u hu

/-! ### Retries, losses and RESTORE (R309, R310, R312, R460) -/

theorem upRetry_waits (h : s.subState x ≠ 4 ∨ s.division x (s.flag (R.UPL_SP_STAT_FALLBACK x)) = none) : upRetry x s = s := by
  refine if_neg fun ⟨h4, hd⟩ => ?_
  rcases h with h | h
  · exact h h4
  · rw [h] at hd; exact absurd hd (by decide)

theorem upRetry_brings {ls : List Nat} (h4 : s.subState x = 4) (hd : s.division x (s.flag (R.UPL_SP_STAT_FALLBACK x)) = some ls) :
    upRetry x s = upBring x (s.flag (R.UPL_SP_STAT_FALLBACK x)) s := if_pos ⟨h4, by rw [hd]; rfl⟩

/-- What taping a lane off keeps: the lane shows TAPED. -/
theorem upLaneTape_effects (u : Nat) : (upLaneTape u s).rd (R.UPL_LANE_STAT_TAPED u) = 1 ∧ (∀ e ∈ s.raised, e ∈ (upLaneTape u s).raised) ∧
    (upLaneTape u s).ruleTaped = s.ruleTaped := by
  have h1 : ((s.wr (R.UPL_LANE_STAT_TAPED u) 1).wr (R.UPL_LANE_STAT_AM_LOCK u) 0).rd (R.UPL_LANE_STAT_TAPED u) = 1 := by
    rw [State.rd_wr_key _ _ (by show (32 * _ + _ : Nat) ≠ 32 * _ + _; omega), State.rd_wr_same]
    rfl
  obtain ⟨h2, h3, h4⟩ := upBring_frame (x := s.subOf u) (s := (s.wr (R.UPL_LANE_STAT_TAPED u) 1).wr (R.UPL_LANE_STAT_AM_LOCK u) 0) true
  unfold upLaneTape
  dsimp only
  split
  · exact ⟨h1, fun _ h => h, rfl⟩
  · split
    · exact ⟨(State.rd_wr_key _ _ (by show (32 * _ + _ : Nat) ≠ 32 * _ + _; omega)).trans h1, fun _ h => h, rfl⟩
    · refine ⟨(h4 _ ?_).trans h1, h2, h3⟩
      rintro ((⟨v, lo, hlo, e⟩ | e | e) | ⟨c, hc, e⟩ | e | e) <;> (change (32 * _ + _ : Nat) = _ at e; omega)

theorem upLaneLoss_nothing {u : Nat} (h : s.flag (R.UPL_LANE_STAT_IN_USE u) = false ∨ s.flag (R.UPL_LANE_STAT_AM_LOCK u) = true) :
    upLaneLoss u s = s := by
  refine if_neg ?_
  rcases h with h | h <;> simp [h]

theorem upLaneLoss_tapes {u : Nat} (hu : s.flag (R.UPL_LANE_STAT_IN_USE u) = true) (hl : s.flag (R.UPL_LANE_STAT_AM_LOCK u) = false)
    (hs : s.subState (s.rd (R.UPL_LANE_STAT_SUBPORT u)) = 3) : (upLaneLoss u s).rd (R.UPL_LANE_STAT_TAPED u) = 1 ∧
    upEv u 0 ∈ (upLaneLoss u s).raised ∧ (upLaneLoss u s).ruleTaped = s.ruleTaped ++ [(0x5000 + u, upEv u 0)] := by
  obtain ⟨h1, h2, h3⟩ := upLaneTape_effects (s := s.raise (upEv u 0)) u
  unfold upLaneLoss
  rw [if_pos (by simp [hu, hl, hs])]
  generalize upLaneTape u (s.raise (upEv u 0)) = t at h1 h2 h3
  exact ⟨h1, h2 _ (by simp), congrArg (· ++ _) h3⟩

theorem uplinkRestore_nothing (h : ∀ k, s.flag (R.UPL_SP_STAT_FALLBACK k) = false) : uplinkRestore s = s := by
  refine State.forAll_induct (P := fun t => t = s) (fun k t ht => ?_) _ s rfl
  subst ht
  simp [h k]

/-- The one sub-port, in fall-back with all its lanes clean, comes up on all of them. -/
theorem uplinkRestore_single (h1 : s.nsub = 1) (hf : s.flag (R.UPL_SP_STAT_FALLBACK 0) = true)
    (hc : ∀ u ∈ s.subLanes 0, s.laneTaped u = false ∧ s.tstMode (192 + u) = 0) :
    uplinkRestore s = upBring 0 false s ∧ s.division 0 false = some (s.subLanes 0) := by
  constructor
  · unfold uplinkRestore
    rw [h1]
    refine if_pos ?_
    rw [hf, Bool.true_and, Bool.not_eq_true', List.any_eq_false]
    intro u hu
    obtain ⟨ht, hm⟩ := hc u hu
    simp [ht, hm]
  · unfold State.division
    dsimp only
    rw [if_pos (by rfl), if_neg]
    simp only [List.any_eq_true, not_exists, not_and, Bool.not_eq_true]
    exact fun u hu => (hc u hu).1

theorem untested_runs {l : Nat} (h : s.tstMode l = 0) (f : State → State) : untested l f s = f s := if_pos h

theorem untested_test {l : Nat} (h : s.tstMode l ≠ 0) (f : State → State) : untested l f s = s := if_neg h

theorem untested_idle {l : Nat} {f : State → State} (h : f s = s) : untested l f s = s := by
  unfold untested
  split
  · exact h
  · rfl

end

/-- Settles O58. -/
theorem subPortCommands : Obligations.SubPortCommands := by
  intro s x ha
  refine ⟨fun h => act_of_eq ha (show upTrained x s = _ from if_pos h), fun h => act_of_eq ha (show upTrained x s = _ from if_neg h),
    fun h => act_of_eq ha (show upAligned x s = _ from if_pos h), fun h => ⟨_, act_awake ha _, upAligned_effects h⟩,
    fun h => act_of_eq ha (show upTimeout x s = _ from if_pos h),
    fun h1 h2 => act_of_eq ha (show upTimeout x s = _ from if_neg (not_or.mpr ⟨h1, h2⟩)), fun h => act_of_eq ha (upRetry_waits h),
    fun ls h4 hd => ⟨_, act_of_eq ha (upRetry_brings h4 hd), ?retry⟩, fun u h => act_of_eq ha ?lossless,
    fun u hm hu hl hs => ⟨_, act_of_eq ha (untested_runs hm (upLaneLoss u)), upLaneLoss_tapes hu hl hs⟩,
    fun h => act_of_eq ha (uplinkRestore_nothing h), fun h1 hf hc => ⟨_, act_of_eq ha (uplinkRestore_single h1 hf hc).1, ?restore⟩,
    fun u corr bad sym hm => act_of_eq ha ((untested_runs hm (fecWindow u corr bad sym)).trans ?fec),
    fun u hm => act_of_eq ha (untested_runs hm (amLost u)),
    fun u hm hu ht hs => act_of_eq ha ((untested_runs hm (amRegained u)).trans (if_pos (by simp [hu, ht, hs]))),
    fun u hu => act_of_eq ha (untested_idle (show amRegained u s = s from if_neg (by simp [hu])))⟩
  case retry =>
    obtain ⟨h1, -, h2, h3⟩ := upBring_effects x.isLt hd
    exact ⟨h1, h2, h3, (upBring_brings hd).new⟩
  case lossless =>
    rcases h with h | h
    · exact untested_test h (upLaneLoss u)
    · exact untested_idle (upLaneLoss_nothing h)
  case restore =>
    have hd := (uplinkRestore_single h1 hf hc).2
    obtain ⟨h2, h3, -, -⟩ := upBring_effects (by omega) hd
    exact ⟨h3, h2, (upBring_brings hd).new⟩
  case fec =>
    unfold fecWindow State.raiseIf
    dsimp only
    by_cases h : s.rd R.UPL_LANE_CFG_DEG_THR ≠ 0 ∧ s.rd R.UPL_LANE_CFG_DEG_THR < bad
    · rw [if_pos h, if_pos (by simpa using h)]
    · rw [if_neg h, if_neg (by simpa using h)]

end Sys2Proof.Machine
end

section
/-! PROOF. The back channel (O17): the clause of a received unit fails where the lane table is not canonical. -/

namespace Sys2Proof.Machine

/-- A lane at reset but for its descrambler. It takes `twiceUnit`'s block as a payload of zeros, and then holds the reset value. -/
def unitEntry : Lane := { Lane.init with rxScr := 0x78#58 <<< 31 }

/-- The unit whose MSG block this descrambler makes of a payload of zeros (R46, R100). -/
def twiceUnit : List Byte := [0, 0x0F, 0, 0, 0, 0, 0]

/-- Lane 0 in UP with block lock, listed twice in the lane table. -/
def unitListed : State :=
  ({ State.reset with lanes := [(0, unitEntry), (0, unitEntry)] }.wr (R.VSP_LANE_STAT_STATE 0) 3).wr (R.VSP_LANE_STAT_BLOCK_LOCK 0) 1

/-- Refutes O17 by the clause of a received unit, on a state whose lane table lists lane 0 twice, which no run of the block reaches.
Moving the descrambler on writes the reset value and so drops both entries; counting the block in BIP8 then lists the lane once. The
clause asks for one write, which leaves the second entry. -/
theorem not_backChannelCommands : ¬ Obligations.BackChannelCommands := by
  intro h
  have hawake : unitListed.asleep = false := by decide +kernel
  have huntested : unitListed.tstMode 0 = 0 := by decide +kernel
  have hup : unitListed.laneState 0 = 3 := by decide +kernel
  have hbase : unitListed.base 0 = 0 := by decide +kernel
  have hlock : unitListed.flag (R.VSP_LANE_STAT_BLOCK_LOCK 0) = true := by decide +kernel
  obtain ⟨-, -, -, hunit, -⟩ := h unitListed 0 hawake
  obtain ⟨hexec, -⟩ := hunit twiceUnit rfl huntested hup hbase hlock
  have hsame := Host.Outcome.next.inj ((act_awake hawake _).symm.trans hexec)
  have hlength := congrArg (fun t : State => t.lanes.length) hsame
  exact absurd hlength (by decide +kernel)

end Sys2Proof.Machine
end

section
/-! PROOF. Mark commands (O29). -/

namespace Sys2Proof.Machine

section
variable {s : State} {i : Nat}

/-! ### What refuses a mark command (R362, R381) -/

theorem markRefusal_beyond (h : 4160 ≤ i) (set : Bool) : s.markRefusal i set = some 1 := if_pos h

theorem markRefusal_ringless (h : i < 4160) (hs : s.rd R.HST_STAT_STATE ≤ 1) (set : Bool) : s.markRefusal i set = some 4 := by
  rw [State.markRefusal, if_neg (by omega), if_pos hs]

theorem markRefusal_used (h : i < 4160) (hs : 2 ≤ s.rd R.HST_STAT_STATE) (h0 : (s.mark i).state ≠ 0) (h3 : (s.mark i).state ≠ 3) :
    s.markRefusal i true = some 2 := by
  rw [State.markRefusal, if_neg (by omega), if_neg (by omega), if_pos ⟨rfl, h0, h3⟩]

theorem markRefusal_none {set : Bool} (h : i < 4160) (hs : 2 ≤ s.rd R.HST_STAT_STATE)
    (hm : set = true → (s.mark i).state = 0 ∨ (s.mark i).state = 3) : s.markRefusal i set = none := by
  rw [State.markRefusal, if_neg (by omega), if_neg (by omega), if_neg]
  rintro ⟨hset, h0, h3⟩
  exact (hm hset).elim h0 h3

theorem markSetNow_refused {r : Nat} (h : s.markRefusal i true = some r) : markSetNow i s = markShow i r s := by
  rw [markSetNow, h]

theorem markSetNow_sets (h : s.markRefusal i true = none) :
    markSetNow i s = markShow i 0 (showRing (setMark i { Mark.free with state := 1, pin := s.markPin i } s)) := by
  rw [markSetNow, h]

theorem markSetNow_eq : markSetNow i s =
    if 4160 ≤ i then markShow i 1 s else if s.rd R.HST_STAT_STATE ≤ 1 then markShow i 4 s
    else if (s.mark i).state ≠ 0 ∧ (s.mark i).state ≠ 3 then markShow i 2 s
    else markShow i 0 (showRing (setMark i { Mark.free with state := 1, pin := s.markPin i } s)) := by
  by_cases h : 4160 ≤ i
  · rw [if_pos h, markSetNow_refused (markRefusal_beyond h true)]
  · rw [if_neg h]
    by_cases hs : s.rd R.HST_STAT_STATE ≤ 1
    · rw [if_pos hs, markSetNow_refused (markRefusal_ringless (by omega) hs true)]
    · rw [if_neg hs]
      by_cases hm : (s.mark i).state ≠ 0 ∧ (s.mark i).state ≠ 3
      · rw [if_pos hm, markSetNow_refused (markRefusal_used (by omega) (by omega) hm.1 hm.2)]
      · rw [if_neg hm, markSetNow_sets (markRefusal_none (by omega) (by omega) fun _ => by omega)]

theorem markSetTime_refused {r : Nat} (h : s.markRefusal i true = some r) : markSetTime i s = markShow i r s := by
  rw [markSetTime, h]

theorem markClear_refused {r : Nat} (h : s.markRefusal i false = some r) : markClear i s = markShow i r s := by
  rw [markClear, h]

theorem markClear_frees (h : s.markRefusal i false = none) :
    markClear i s = markShow i 0 (showRing (dropRecords (setMark i Mark.free s))) := by
  rw [markClear, h]

/-- SET_TIME of a slot that may be set (R362, R365). -/
theorem markSetTime_sets (h : s.markRefusal i true = none) : markSetTime i s =
    let want := 2 ^ 32 * s.rd R.HST_MARK_TIME_HI + s.rd R.HST_MARK_TIME_LO
    let m := { Mark.free with state := 1, want := some want, pin := s.markPin i }
    if (s.recAt s.ringTail).any (fun r => decide (want < r.wtime)) then markShow i 3 (showRing (setMark i Mark.free s))
    else match (s.hst.recs.filter (fun r => !r.pad)).find? (fun r => decide (want ≤ r.wtime)) with
      | none => markShow i 0 (showRing (setMark i m s))
      | some r =>
        let b := m.bind (decide (4096 ≤ i)) r
        let stop := (s.hst.recs.find? (fun q => decide (r.wtime + m.pin ≤ q.wtime ∧ r.pos < q.pos))).map (fun q => q.pos)
        markShow i 0 (showRing (dropRecords (demoteAll 64 (setMark i
          (if 4096 ≤ i ∧ b.stop = none then { b with stop := stop } else b) s)))) := by
  have hif (b x y : Mark) : (if (decide (4096 ≤ i) && b.stop.isNone) then x else y) = if 4096 ≤ i ∧ b.stop = none then x else y := by
    simp only [Bool.and_eq_true, decide_eq_true_eq, Option.isNone_iff_eq_none]
  rw [markSetTime, h]
  dsimp only
  by_cases hg : ((s.recAt s.ringTail).any fun r => decide (2 ^ 32 * s.rd R.HST_MARK_TIME_HI + s.rd R.HST_MARK_TIME_LO < r.wtime)) = true
  · rw [if_pos hg, if_pos hg]
  · rw [if_neg hg, if_neg hg]
    cases (s.hst.recs.filter (fun r => !r.pad)).find?
        (fun r => decide (2 ^ 32 * s.rd R.HST_MARK_TIME_HI + s.rd R.HST_MARK_TIME_LO ≤ r.wtime)) with
    | none => rfl
    | some r => exact congrArg (fun b => markShow i 0 (showRing (dropRecords (demoteAll 64 (setMark i b s))))) (hif ..)

/-! ### What the mark registers show (R382) -/

theorem markShow_effects {r : Nat} (hi : i < 8192) (hr : r < 16) :
    (markShow i r s).rd R.HST_MARK_STAT_RESULT = r ∧ (markShow i r s).rd R.HST_MARK_STAT_SLOT = i ∧
    (markShow i r s).hst.marks = s.hst.marks ∧ (markShow i r s).cnt = s.cnt ∧ (markShow i r s).raised = s.raised := by
  have e (f : Fld) (h : f.key ∉ [R.HST_MARK_POS_LO.key, R.HST_MARK_POS_HI.key, R.HST_MARK_WTIME_LO.key, R.HST_MARK_WTIME_HI.key,
      R.HST_MARK_STAT_STATE.key]) : (markShow i r s).rd f = ((s.wr R.HST_MARK_STAT_RESULT r).wr R.HST_MARK_STAT_SLOT i).rd f := by
    simp only [List.mem_cons, List.not_mem_nil, or_false, not_or] at h
    obtain ⟨h1, h2, h3, h4, h5⟩ := h
    unfold markShow
    dsimp only
    rw [State.rd_wr_key _ _ h4, State.rd_wr_key _ _ h3, State.rd_wr_key _ _ h2, State.rd_wr_key _ _ h1]
    show (State.wr ((s.wr R.HST_MARK_STAT_RESULT r).wr R.HST_MARK_STAT_SLOT i) R.HST_MARK_STAT_STATE _).rd f = _
    exact State.rd_wr_key _ _ h5
  refine ⟨(e _ (by decide)).trans ?_, (e _ (by decide)).trans (State.rd_wr_lt (f := R.HST_MARK_STAT_SLOT) _ hi), ?_⟩
  · rw [State.rd_wr_key _ _ (by decide)]
    exact State.rd_wr_lt (f := R.HST_MARK_STAT_RESULT) _ hr
  · unfold markShow
    simp only [State.wr_hst, State.wr_cnt, State.wr_raised, and_self]

theorem markWrite_badOp {op : Nat} (ho : op < 3) (hi : i < 8192) : markWrite (2 ^ 29 * (5 + op) + i) s = markShow i 5 s := by
  have hk : bits (2 ^ 29 * (5 + op) + i) 12 0 = i := by simp only [bits]; omega
  have ho' : bits (2 ^ 29 * (5 + op) + i) 31 29 = 5 + op := by simp only [bits]; omega
  unfold markWrite
  rw [hk, ho']
  match op, ho with
  | 0, _ => rfl
  | 1, _ => rfl
  | 2, _ => rfl

end

/-- Settles O29. -/
theorem markCommands : Obligations.MarkCommands := by
  intro s i ha
  refine ⟨act_of_eq ha markSetNow_eq, fun h => ⟨?_, ?_, ?_⟩, fun h hs => ⟨?_, ?_⟩, fun h hs h0 h3 => ?_, fun h hs hm => ?_,
    fun h hs => ?_, fun h => ?_, fun op => act_of_eq ha (markWrite_badOp op.isLt i.isLt), fun r hr => markShow_effects i.isLt hr⟩
  · exact act_of_eq ha (markSetTime_refused (markRefusal_beyond h true))
  · exact act_of_eq ha (markClear_refused (markRefusal_beyond h false))
  · exact act_of_eq ha (show markSelect i s = _ by rw [markSelect, if_pos h])
  · exact act_of_eq ha (markSetTime_refused (markRefusal_ringless h hs true))
  · exact act_of_eq ha (markClear_refused (markRefusal_ringless h hs false))
  · exact act_of_eq ha (markSetTime_refused (markRefusal_used h hs h0 h3))
  · exact act_of_eq ha (markSetTime_sets (markRefusal_none h hs fun _ => hm))
  · exact act_of_eq ha (markClear_frees (markRefusal_none h hs nofun))
  · exact act_of_eq ha (show markSelect i s = _ by rw [markSelect, if_neg (by omega)])

end Sys2Proof.Machine
end

section
/-! PROOF. Memory channels (O27). -/

namespace Sys2Proof.Machine

section
variable {s : State} {m : Nat}

/-! ### Training (R346, R460) -/

theorem chanTrained_up : chanTrained m 0 s = ((s.wr (R.MEM_CH_STAT_CAUSE m) 0).wr (R.MEM_CH_STAT_STATE m) 2).wr R.MEM_STAT_IN_SERVICE
    (putBit (s.rd R.MEM_STAT_IN_SERVICE) m true) := by
  have h : (s.wr (R.MEM_CH_STAT_CAUSE m) 0).rd R.MEM_STAT_IN_SERVICE = s.rd R.MEM_STAT_IN_SERVICE :=
    State.rd_wr_key _ _ (by show (32 * _ + _ : Nat) ≠ 32 * _ + _; omega)
  unfold chanTrained
  dsimp only
  rw [if_pos (by rfl), h]

theorem chanTrained_failed {cause : Nat} (h0 : cause ≠ 0) (hc : cause < 16) :
    (chanTrained m cause s).rd (R.MEM_CH_STAT_STATE m) = 3 ∧ (chanTrained m cause s).rd (R.MEM_CH_STAT_CAUSE m) = cause ∧
    (chanTrained m cause s).raised = s.raised ++ [1184 + 8 * m] ∧
    (chanTrained m cause s).ruleTaped = s.ruleTaped ++ [(0x6000 + m, 1184 + 8 * m)] := by
  unfold chanTrained
  dsimp only
  rw [if_neg h0]
  refine ⟨State.rd_wr_same _ (R.MEM_CH_STAT_STATE m) 3, ?_, rfl, rfl⟩
  refine (State.rd_wr_key _ (f := R.MEM_CH_STAT_STATE m) (g := R.MEM_CH_STAT_CAUSE m) 3
    (by show (32 * _ + _ : Nat) ≠ 32 * _ + _; omega)).trans ?_
  exact State.rd_wr_lt s (f := R.MEM_CH_STAT_CAUSE m) hc

/-! ### Windows and reports (R350, R371, R375) -/

theorem ceWindow_eq : ceWindow m s =
    let n := (s.ctr (R.MEM_CH_CE m) + 2 ^ 32 - s.mem.ceBase.get 0 m) % 2 ^ 32
    let t := { s with mem := { s.mem with ceBase := s.mem.ceBase.set 0 m (s.ctr (R.MEM_CH_CE m)) } }
    if s.rd R.MEM_ECC_CFG_CE_THR ≠ 0 ∧ s.rd R.MEM_ECC_CFG_CE_THR < n then t.raise (1184 + 8 * m + 1) else t := by
  unfold ceWindow State.raiseIf
  dsimp only
  refine ite_congr (by simp only [decide_eq_true_eq]) (fun _ => rfl) (fun _ => rfl)

/-! ### The patrol scrub (R351) -/

theorem latchErr_kind (a kind act : Nat) : (latchErr m a kind act s).rd (R.MEM_CH_ERR_INFO_KIND m) = kind % 4 := by
  unfold latchErr
  rw [State.rd_wr_key _ _ (by show (32 * _ + _ : Nat) ≠ 32 * _ + _; omega),
    State.rd_wr_key _ _ (by show (32 * _ + _ : Nat) ≠ 32 * _ + _; omega), State.rd_wr_same]
  rfl

@[simp] theorem latchErr_cnt (a kind act : Nat) : (latchErr m a kind act s).cnt = s.cnt := by
  simp only [latchErr, State.wr_cnt]

@[simp] theorem latchErr_raised (a kind act : Nat) : (latchErr m a kind act s).raised = s.raised := by
  simp only [latchErr, State.wr_raised]

/-- Line `l` of DRAM is known to be bad from now on. -/
def State.spoil (l : Nat) (t : State) : State :=
  { t with mem := { t.mem with bad := if t.mem.bad.contains l then t.mem.bad else t.mem.bad ++ [l] } }

theorem State.spoil_bad (l : Nat) (t : State) : (t.spoil l).mem.bad.contains l = true := by
  unfold State.spoil
  dsimp only
  split
  · assumption
  · simp

theorem State.spoil_cnt (l : Nat) (t : State) : (t.spoil l).cnt = t.cnt := rfl

theorem State.spoil_raised (l : Nat) (t : State) : (t.spoil l).raised = t.raised := rfl

theorem State.spoil_rd (l : Nat) (t : State) (f : Fld) : (t.spoil l).rd f = t.rd f := rfl

theorem scrubRead_corrected_counts (a : Nat) : ((readCe 0 (a / 64 * 64) s).inc (R.MEM_CH_SCRUB_CE (s.dramChan (a / 64 * 64)))).raised = s.raised ∧
    ((readCe 0 (a / 64 * 64) s).inc (R.MEM_CH_SCRUB_CE (s.dramChan (a / 64 * 64)))).cnt =
      ((s.inc (R.MEM_CH_CE (s.dramChan (a / 64 * 64)))).inc (R.MEM_CH_SCRUB_CE (s.dramChan (a / 64 * 64)))).cnt := by
  simp only [readCe, State.inc, latchErr_raised, latchErr_cnt, and_self]

theorem scrubRead_idle {a : Nat} (err : MemErr)
    (h : s.flag R.MEM_SCRUB_CFG_EN = false ∨ s.dramEnd ≤ a / 64 * 64 ∨ s.hole (a / 64 * 64) = true) : scrubRead a err s = s :=
  if_pos (h.imp_left fun h => by rw [h]; rfl)

section
variable {a : Nat} (he : s.flag R.MEM_SCRUB_CFG_EN = true) (hl : a / 64 * 64 < s.dramEnd) (hh : s.hole (a / 64 * 64) = false)
include he hl hh

theorem scrubRead_runs (err : MemErr) : scrubRead a err s =
    if err = .uncorrectable ∨ s.mem.bad.contains (a / 64 * 64) then
      ((latchErr (s.dramChan (a / 64 * 64)) (a / 64 * 64) 3 0 (s.inc (R.MEM_CH_SCRUB_UE (s.dramChan (a / 64 * 64))))).raise
        (memEv (s.dramChan (a / 64 * 64)) 3)).spoil (a / 64 * 64)
    else if err = .corrected then (readCe 0 (a / 64 * 64) s).inc (R.MEM_CH_SCRUB_CE (s.dramChan (a / 64 * 64)))
    else s :=
  if_neg (by rw [he, hh]; simp; omega)

theorem scrubRead_clean (hb : s.mem.bad.contains (a / 64 * 64) = false) : scrubRead a .none s = s := by
  rw [scrubRead_runs he hl hh, hb]
  rfl

theorem scrubRead_corrected (hb : s.mem.bad.contains (a / 64 * 64) = false) :
    scrubRead a .corrected s = (readCe 0 (a / 64 * 64) s).inc (R.MEM_CH_SCRUB_CE (s.dramChan (a / 64 * 64))) := by
  rw [scrubRead_runs he hl hh, hb]
  rfl

theorem scrubRead_uncorrectable : (scrubRead a .uncorrectable s).mem.bad.contains (a / 64 * 64) = true ∧
    (scrubRead a .uncorrectable s).raised = s.raised ++ [1184 + 8 * s.dramChan (a / 64 * 64) + 3] ∧
    (scrubRead a .uncorrectable s).cnt = (s.inc (R.MEM_CH_SCRUB_UE (s.dramChan (a / 64 * 64)))).cnt ∧
    (scrubRead a .uncorrectable s).rd (R.MEM_CH_ERR_INFO_KIND (s.dramChan (a / 64 * 64))) = 3 := by
  rw [scrubRead_runs he hl hh, if_pos (.inl rfl)]
  simp only [State.spoil_bad, State.spoil_raised, State.spoil_cnt, State.spoil_rd, State.raise_raised, State.raise_cnt,
    State.raise_rd, latchErr_raised, latchErr_cnt, latchErr_kind, State.inc_raised, true_and, and_true]
  rfl

end

end

/-- Channel `m` reports the end of its training. -/
def trainReport (m cause : Nat) (s : State) : State := if s.rd (R.MEM_CH_STAT_STATE m) = 1 then chanTrained m cause s else s

/-- Settles O27. -/
theorem memoryChannelCommands : Obligations.MemoryChannelCommands := by
  intro s m ha
  refine ⟨fun h => act_of_eq ha (f := trainReport m 0) ((if_pos h).trans chanTrained_up),
    fun cause h h0 => ⟨_, act_of_eq ha (f := trainReport m cause) (if_pos h), chanTrained_failed (fun e => h0 (Fin.ext e)) (by omega)⟩,
    fun cause h => act_of_eq ha (f := trainReport m cause) (if_neg h), act_of_eq ha ceWindow_eq, act_awake ha _, act_awake ha (memTemp m true),
    act_awake ha (memTemp m false), fun a err h => act_of_eq ha (scrubRead_idle err h), ?scrub⟩
  intro a l he hl hh
  exact ⟨fun hb => act_of_eq ha (scrubRead_clean he hl hh hb), fun hb => ⟨_, act_of_eq ha (scrubRead_corrected he hl hh hb), scrubRead_corrected_counts _⟩,
    ⟨_, act_awake ha (scrubRead a.toNat .uncorrectable), scrubRead_uncorrectable he hl hh⟩⟩

end Sys2Proof.Machine
end

section
/-! PROOF. The history writer (O28). -/

namespace Sys2Proof.Machine

section
variable {s : State}

/-! ### Allocation leaves the replay engine alone (R356 to R358) -/

theorem hstNote_replay : (hstNote s).replay = s.replay := by
  unfold hstNote
  split <;> rfl

theorem hstSkip_replay (g k : Nat) (stale : Bool) : (hstSkip g k stale s).replay = s.replay := hstNote_replay

theorem dramWrite_replay (act a : Nat) (bs : List Byte) : (dramWrite act a bs s).replay = s.replay := by
  unfold dramWrite
  have h := congrArg State.replay (countBursts_eq act (linesOf a bs.length) s)
  exact h

theorem indexRecord_replay (r : HstRec) : (indexRecord r s).replay = s.replay := by
  unfold indexRecord
  dsimp only
  split
  · rfl
  · exact dramWrite_replay ..

theorem foldl_setMark_replay {α : Type} (l : List α) (f : State → α → State) (hf : ∀ t x, (f t x).replay = t.replay) :
    (l.foldl f s).replay = s.replay := by
  induction l generalizing s with
  | nil => rfl
  | cons x l ih => exact ih.trans (hf s x)

theorem demoteOldest_replay : (demoteOldest s).replay = s.replay := by
  unfold demoteOldest
  split
  · rfl
  · dsimp only
    split <;> rfl

theorem demoteAll_replay (k : Nat) : (demoteAll k s).replay = s.replay := by
  induction k generalizing s with
  | zero => rfl
  | succ k ih =>
    unfold demoteAll
    split
    · exact ih.trans demoteOldest_replay
    · rfl

theorem bindMarks_replay (r : HstRec) : (bindMarks r s).replay = s.replay := by
  unfold bindMarks
  refine (demoteAll_replay 64).trans (foldl_setMark_replay _ _ fun t m => ?_)
  split
  · rfl
  · split <;> rfl

theorem loseMarks_replay : (loseMarks s).replay = s.replay := by
  unfold loseMarks
  refine foldl_setMark_replay _ _ fun t m => ?_
  rw [State.raise_replay, State.inc_replay]
  rfl

theorem dropRecords_replay : (dropRecords s).replay = s.replay := by
  unfold dropRecords
  rw [loseMarks_replay]

theorem showRing_replay : (showRing s).replay = s.replay := by
  unfold showRing
  extract_lets t cnt
  iterate 7 rw [State.wr_replay]

theorem allocRecord_replay (r : HstRec) (bs : List Byte) : (allocRecord r bs s).replay = s.replay := by
  unfold allocRecord
  rw [showRing_replay, dropRecords_replay, bindMarks_replay, indexRecord_replay]
  exact dramWrite_replay ..

theorem allocItem_replay (i : HstItem) (fl : Nat) (pay : List Byte) : (allocItem i fl pay s).replay = s.replay := by
  unfold allocItem
  rw [State.inc_replay, allocRecord_replay]

theorem setFirst_replay (i : Option HstItem) : (setFirst i s).replay = s.replay := rfl

theorem rpCovered_idle {t : State} (h : t.replay.run = none) : rpCovered s t = t := by
  unfold rpCovered
  rw [h]

theorem rpCovered_self : rpCovered s s = s := by
  unfold rpCovered
  split
  · rfl
  · refine if_neg fun ⟨h, h'⟩ => ?_
    rw [Option.isNone_iff_eq_none.mp h'] at h
    contradiction

/-! ### Allocation of the oldest item -/

theorem hstAllocate_halted {i : HstItem} {l : List HstItem} (h : s.hst.items = i :: l) (hr : s.hstRunning = false) :
    hstAllocate s = hstSkip i.group i.kind false { s with hst := { s.hst with items := l } } := by
  unfold hstAllocate
  rw [h]
  dsimp only
  rw [hr, if_pos (by rfl)]
  unfold skipFirst setFirst
  rw [h]
  rfl

theorem hstAllocate_last {i : HstItem} {l : List HstItem} (h : s.hst.items = i :: l) (hr : s.hstRunning = true)
    (hw : s.now - i.time ≤ 1000000 * max 1 s.hst.lag) (hc : i.code = false) (hb : i.block = none) (hd : i.data.length ≤ 65536)
    (hp : s.placeAt (128 * ceilDiv (128 + i.data.length) 128) = some s.hst.head) :
    hstAllocate s = setFirst none ((allocItem i 0 i.data s).inc R.HST_RAW_SEGS 0) := by
  unfold hstAllocate
  rw [h]
  dsimp only
  rw [hr, if_neg (by decide), if_neg (by omega), if_neg (by rw [hc]; nofun), hb, List.take_of_length_le hd, List.drop_of_length_le hd]
  dsimp only
  rw [hp]
  dsimp only
  rw [if_pos rfl, allocPad, if_pos rfl]
  rfl

/-! ### Staging (R354, R359) -/

theorem hstStage_room {i : HstItem} (hr : s.hstRunning = true) (hg : s.staged i.group < 2) (hc : i.code = false) :
    hstStage i s = { s with hst := { s.hst with items := s.hst.items ++ [{ i with id := s.hst.nextId }], nextId := s.hst.nextId + 1 } } := by
  unfold hstStage segSubmit
  rw [if_neg (by rw [hr]; simp; omega)]
  dsimp only
  rw [hc]
  rfl

theorem hstArrive_cons {i : HstItem} {t : List HstItem} (h : s.hst.taps = i :: t) : hstArrive s =
    if i.kind = 2 then hstObject i.group i.data { s with hst := { s.hst with taps := t } }
    else hstStage i { s with hst := { s.hst with taps := t } } := by
  unfold hstArrive
  rw [h]

theorem batchClose_cons {g : Nat} {r : List Byte} {rs : List (List Byte)} (h : s.hst.batch.get [] g = r :: rs) :
    batchClose g s = hstStage (batchItem g (r :: rs)) { s with hst := { s.hst with batch := s.hst.batch.set [] g [] } } := by
  unfold batchClose
  rw [h]

/-! ### EN and the reset of the ring (R360, R361) -/

theorem hstEnable_eq (en : Bool) : hstEnable en s = (s.wr R.HST_CTRL_EN (if en then 1 else 0)).wr R.HST_STAT_STATE
    (if s.mem.present = false then 0 else if s.rd R.HST_RING_SIZE = 0 then 1
      else if s.rd R.HST_STAT_STATE = 4 then 4 else if en then 2 else 3) := by
  have he : (s.wr R.HST_CTRL_EN (b2n en)).flag R.HST_CTRL_EN = en := by
    rw [State.flag_eq, State.rd_wr_lt s (f := R.HST_CTRL_EN) (by cases en <;> decide)]
    cases en <;> rfl
  have hs : (s.wr R.HST_CTRL_EN (b2n en)).rd R.HST_RING_SIZE = s.rd R.HST_RING_SIZE := State.rd_wr_key _ _ (by decide)
  unfold hstEnable hstState
  dsimp only
  rw [he, hs, State.wr_mem]
  simp only [beq_iff_eq, Bool.not_eq_eq_eq_not, Bool.not_true, b2n]

theorem rpDrain_none (k : Nat) (h : s.replay.closing = []) : rpDrain k s = s := by
  cases k with
  | zero => rfl
  | succ k =>
    unfold rpDrain
    rw [h]

theorem rpPump_idle (hr : s.replay.run = none) (hc : s.replay.closing = []) : rpPump s = s := by
  unfold rpPump
  dsimp only
  rw [rpDrain_none 8 hc, hc, hr]

theorem rpEnd_idle (st : Nat) (hr : s.replay.run = none) : rpEnd st s = s := by
  unfold rpEnd
  rw [hr]

/-- The engine holds the requests `q` and ends the runs `c`. -/
def State.queued (q : List RpReq) (c : List RpRun) (s : State) : State := { s with replay := { s.replay with queue := q, closing := c } }

theorem State.queued_self (s : State) : s.queued s.replay.queue s.replay.closing = s := rfl

theorem rpEndAll_idle (st : Nat) (hr : s.replay.run = none) (hq : s.replay.queue = []) (hc : s.replay.closing = []) :
    rpEndAll st s = showReplay s := by
  have h : rpEndAll st s = showReplay (rpPump (s.queued [] (s.replay.closing ++
      s.replay.queue.map (fun q => { q.begin with status := some st })))) := by
    unfold rpEndAll
    rw [rpEnd_idle st hr]
    rfl
  have he : s.queued [] [] = s := by
    conv => rhs; rw [← State.queued_self s, hq, hc]
  rw [h, hq, hc]
  exact (congrArg (showReplay ∘ rpPump) he).trans (congrArg showReplay (rpPump_idle hr hc))

theorem ringClear_hst : (ringClear s).hst =
    { s.hst with head := 0, rseq := 0, nidx := 0, lag := s.rd R.HST_CTRL_LAG, tick := s.rd R.HST_CTRL_TICK,
                 last := none, recs := [], marks := [] } := by
  simp only [ringClear, showRing, hstState, State.wr_hst]

theorem ringClear_others : (ringClear s).replay = s.replay ∧ (ringClear s).cnt = s.cnt ∧ (ringClear s).raised = s.raised := by
  simp only [ringClear, showRing, hstState, State.wr_replay, State.wr_cnt, State.wr_raised, and_self]

theorem ringReset_idle (hr : s.replay.run = none) (hq : s.replay.queue = []) (hc : s.replay.closing = []) :
    ringReset s = showReplay (ringClear s) := by
  have h := (ringClear_others (s := s)).1
  exact rpEndAll_idle 12 (by rw [h, hr]) (by rw [h, hq]) (by rw [h, hc])

end

/-- Settles O28. -/
theorem historyWriterCommands : Obligations.HistoryWriterCommands := by
  intro s ha
  refine ⟨fun h => act_of_eq ha (f := hstArrive) ?none, fun i t h hk hr hg hc => act_of_eq ha (f := hstArrive) ?room,
    fun i t h => act_of_eq ha (hstArrive_cons h), fun h => act_of_eq ha (f := historyAllocate) ?empty, act_awake ha historyAllocate,
    fun i t h hr hn => act_of_eq ha (f := historyAllocate) ?halted,
    fun i t h hr hw hc hb hd hp hn => act_of_eq ha (f := historyAllocate) ?last,
    fun g h => act_of_eq ha (f := batchClose g) ?closed, fun g r rs h => act_of_eq ha (batchClose_cons h),
    fun g i h => act_of_eq ha (f := hstDeadline g) ?late, fun g h ht => act_of_eq ha (f := hstDeadline g) ?clear,
    fun en => act_of_eq ha (hstEnable_eq en), act_awake ha ringReset, fun hr hq hc => ⟨_, act_of_eq ha (ringReset_idle hr hq hc), ?reset⟩⟩
  case none => rw [hstArrive, h]
  case room =>
    rw [hstArrive_cons h, if_neg hk]
    exact hstStage_room hr hg hc
  case empty =>
    have he : hstAllocate s = s := by rw [hstAllocate, h]
    rw [historyAllocate, he, rpCovered_self]
  case halted =>
    rw [historyAllocate, hstAllocate_halted h hr, rpCovered_idle]
    rw [hstSkip_replay, hn]
  case last =>
    rw [historyAllocate, hstAllocate_last h hr hw hc hb hd hp, rpCovered_idle]
    rw [setFirst_replay, State.inc_replay, allocItem_replay, hn]
  case closed => rw [batchClose, h]
  case late => rw [hstDeadline, h]
  case clear => rw [hstDeadline, h, ht]; rfl
  case reset =>
    obtain ⟨-, hc, hr⟩ := ringClear_others (s := s)
    simp only [showReplay, State.wr_hst, State.wr_cnt, State.wr_raised, hc, hr, ringClear_hst, and_self]

end Sys2Proof.Machine
end

section
/-! PROOF. Replay requests (O30). -/

namespace Sys2Proof.Machine

section
variable {s : State}

/-! ### What the request registers show (R386) -/

theorem showReplay_replay : (showReplay s).replay = s.replay := rfl

theorem showReplay_hst : (showReplay s).hst = s.hst := rfl

theorem showReplay_raised : (showReplay s).raised = s.raised := rfl

theorem showReplay_busy {r : RpRun} (h : s.replay.run = some r) : (showReplay s).rd R.HST_RP_STAT_BUSY = 1 := by
  unfold showReplay
  rw [h, Option.isSome_some, Bool.true_or]
  exact State.rd_wr_lt _ (f := R.HST_RP_STAT_BUSY) (by decide)

theorem showReplay_status : (showReplay s).rd R.HST_RP_STAT_STATUS = s.rd R.HST_RP_STAT_STATUS := by
  unfold showReplay
  rw [State.rd_wr_key _ _ (by decide), State.rd_wr_key _ _ (by decide)]

/-! ### Requests that go to memory need no frames (R368) -/

theorem rpPump_toMem {r : RpRun} (hr : s.replay.run = some r) (hm : r.req.toMem = true) (hc : s.replay.closing = []) : rpPump s = s := by
  unfold rpPump
  dsimp only
  rw [rpDrain_none 8 hc, hc, hr]
  dsimp only
  rw [if_pos hm]

/-- No request is in progress and none ends. -/
def State.unrun (s : State) : State := { s with replay := { s.replay with run := none, closing := [] } }

/-- Request `r` ends, and no other is in progress. -/
def State.ending (r : RpRun) (s : State) : State := { s with replay := { s.replay with run := none, closing := [r] } }

theorem rpClose_replay (r : RpRun) : (rpClose r s).replay = s.replay := by
  unfold rpClose
  dsimp only
  rw [showReplay_replay, State.raiseIf]
  split <;> rfl

theorem rpPump_ending {r : RpRun} (hm : r.req.toMem = true) : rpPump (s.ending r) = rpClose r s.unrun := by
  have hd : rpDrain 8 (s.ending r) = rpClose r s.unrun := by
    rw [rpDrain]
    dsimp only [State.ending]
    rw [if_pos hm]
    exact rpDrain_none 7 (congrArg Replay.closing (rpClose_replay r))
  unfold rpPump
  dsimp only
  rw [hd, rpClose_replay]
  rfl

theorem rpEnd_toMem (st : Nat) {r : RpRun} (hr : s.replay.run = some r) (hm : r.req.toMem = true) (hc : s.replay.closing = []) :
    rpEnd st s = showReplay (rpClose { r with status := some st, out := if st = 6 ∨ st = 12 then [] else r.out } s.unrun) := by
  unfold rpEnd
  rw [hr]
  dsimp only
  rw [hc]
  exact congrArg showReplay (rpPump_ending (s := s) hm)

theorem rpClose_aborted {r : RpRun} (h : r.status = some 6) : (rpClose r s).rd R.HST_RP_STAT_STATUS = 6 ∧ (rpClose r s).raised = s.raised := by
  unfold rpClose
  rw [h]
  dsimp only [Option.getD_some]
  rw [showReplay_status, showReplay_raised, State.raiseIf_raised, State.raiseIf_rd, if_neg (by decide), State.inc_raised, State.inc_raised, State.wr_raised,
    State.wr_raised, State.wr_raised, State.inc_rd, State.inc_rd]
  refine ⟨?_, rfl⟩
  exact State.rd_wr_lt _ (f := R.HST_RP_STAT_STATUS) (by decide)

/-! ### Taking a request (R366) -/

/-- The first request of the queue is in progress with state `r`. -/
def State.taken (r : RpRun) (s : State) : State := setRun (some r) { s with replay := { s.replay with queue := s.replay.queue.drop 1 } }

theorem rpTake_accepted {q : RpReq} (r : RpRun) (hf : s.devFault = false) (h : s.rpRefusal q = none) :
    rpTake q r s = showReplay (s.taken r) := by
  unfold rpTake
  dsimp only
  rw [hf, h]
  rfl

theorem rpNext_eq {q : RpReq} {l : List RpReq} (hr : s.replay.run = none) (hc : s.replay.closing = []) (hq : s.replay.queue = q :: l)
    (hp : s.inP1 = false) : s.rpNext q.mode = some q := by
  unfold State.rpNext
  rw [hr, hc, hq]
  dsimp only
  rw [if_pos ⟨rfl, by rw [hp]; rfl⟩]

theorem rpNext_none (m : Nat) (hq : s.replay.queue = []) : s.rpNext m = none := by
  unfold State.rpNext
  rw [hq]
  cases s.replay.run <;> cases s.replay.closing <;> rfl

/-! ### The search of the time index (R358, R367) -/

/-- The lines of the `n` bytes from `a` that cannot be read. -/
def State.badLines (s : State) (a n : Nat) : List Nat := (linesOf a n).filter (fun l => s.hole l || s.mem.bad.contains l)

theorem dramRead_none (act a n : Nat) : dramRead act a n .none s = (memRead s.dram a n, !(s.badLines a n).isEmpty || false,
    (s.badLines a n).foldl (fun t l => readUe act l t) (countBursts act (linesOf a n) s)) := by
  unfold dramRead
  rfl

theorem dramRead_unpoisoned {act a n : Nat} (h : (dramRead act a n .none s).2.1 = false) :
    (dramRead act a n .none s).2.2 = countBursts act (linesOf a n) s := by
  rw [dramRead_none] at h ⊢
  have hb : s.badLines a n = [] := by
    rw [← List.isEmpty_iff]
    simpa using h
  rw [hb, List.foldl_nil]

theorem indexSearch_unpoisoned (t : Nat) : ∀ (n i : Nat) (s : State), (indexSearch t n i s).2.1 = false →
    (indexSearch t n i s).2.2 = { s with cnt := (indexSearch t n i s).2.2.cnt }
  | 0, _, _, _ => rfl
  | n + 1, i, s, h => by
    unfold indexSearch at h ⊢
    have hr := dramRead_unpoisoned (act := 1) (a := s.indexAddr i) (n := 16) (s := s)
    generalize dramRead 1 (s.indexAddr i) 16 .none s = d at h hr ⊢
    obtain ⟨b, p, u⟩ := d
    dsimp only at h hr ⊢
    cases p with
    | true => cases h
    | false =>
      have hu := hr rfl
      rw [countBursts_eq] at hu
      simp only [Bool.false_eq_true, if_false] at h ⊢
      split
      · exact hu ▸ rfl
      · rename_i hn
        rw [if_neg hn] at h
        rw [indexSearch_unpoisoned t n (i - 1) u h, hu]

/-! ### Starting (R367) -/

section
variable {q : RpReq} {l : List RpReq} (hr : s.replay.run = none) (hc : s.replay.closing = []) (hq : s.replay.queue = q :: l)
  (hp : s.inP1 = false) (hf : s.devFault = false)
include hr hc hq hp hf

theorem rpWindowStart_accepted (h : s.rpRefusal q = none) (hm : q.mode = 0) {e : Option Nat × Bool × State}
    (he : indexSearch q.start (min (rpTake q q.begin s).hst.nidx ((rpTake q q.begin s).indexSize / 16))
      ((rpTake q q.begin s).hst.nidx - 1) (rpTake q q.begin s) = e) :
    rpWindowStart s = if e.2.1 then rpEnd 11 e.2.2 else setRun (some { q.begin with
      pos := max (e.1.getD 0) s.ringTail,
      trimmed := (e.2.2.recAt s.ringTail).any (fun r => decide (q.start < r.wtime)) }) e.2.2 := by
  have hn : s.rpNext 0 = some q := hm ▸ rpNext_eq hr hc hq hp
  have ht : (rpTake q q.begin s).ringTail = s.ringTail := by
    rw [rpTake_accepted _ hf h]
    rfl
  have hs : (rpTake q q.begin s).replay.run = some q.begin := by
    rw [rpTake_accepted _ hf h]
    rfl
  unfold rpWindowStart
  rw [hn]
  dsimp only
  rw [hs, he, ht]
  rfl

theorem rpWindowStart_found (h : s.rpRefusal q = none) (hm : q.mode = 0) {e : Option Nat × Bool × State}
    (he : indexSearch q.start (min (rpTake q q.begin s).hst.nidx ((rpTake q q.begin s).indexSize / 16))
      ((rpTake q q.begin s).hst.nidx - 1) (rpTake q q.begin s) = e) (hb : e.2.1 = false) :
    ∃ r, (rpWindowStart s).replay.run = some r ∧ r.req = q ∧ r.status = none ∧ r.pos = max (e.1.getD 0) s.ringTail ∧
      (rpWindowStart s).replay.queue = l ∧ (rpWindowStart s).rd R.HST_RP_STAT_BUSY = 1 ∧ (rpWindowStart s).raised = s.raised := by
  have hu : e.2.2 = { rpTake q q.begin s with cnt := e.2.2.cnt } := by
    subst he
    exact indexSearch_unpoisoned _ _ _ _ hb
  rw [rpWindowStart_accepted hr hc hq hp hf h hm he, hb, hu, rpTake_accepted _ hf h]
  refine ⟨_, rfl, rfl, rfl, rfl, ?_, ?_, rfl⟩
  · exact congrArg (List.drop 1) hq
  · exact showReplay_busy (s := s.taken q.begin) rfl

theorem rpMarkStart_accepted (hm : q.mode = 1) (h : s.rpRefusal { q with
      start := (s.mark q.mark).time, stop := (s.mark q.mark).time + q.len } = none) :
    rpMarkStart s = showReplay (s.taken { RpReq.begin { q with
      start := (s.mark q.mark).time, stop := (s.mark q.mark).time + q.len } with pos := (s.mark q.mark).pos, force := true }) := by
  have hn : s.rpNext 1 = some q := hm ▸ rpNext_eq hr hc hq hp
  unfold rpMarkStart
  rw [hn]
  exact rpTake_accepted _ hf h

end

/-! ### The walk (R367) -/

theorem rpRead_record {err : MemErr} {r : RpRun} {x : HstRec} (hr : (rpPump s).replay.run = some r)
    (ho : r.req.toMem = true ∨ r.out.length < (rpPump s).rpChunk) (hp : r.pos ≠ (rpPump s).hst.head ∨ r.force = true)
    (hx : (rpPump s).recAt r.pos = some x) : rpRead err s = rpRecord r x err (rpPump s) := by
  unfold rpRead
  dsimp only
  rw [hr]
  dsimp only
  rw [if_neg (by simp; exact fun h => ho.resolve_left (by rw [h]; nofun)), if_neg (by simp; exact hp.resolve_left ∘ not_not_intro), hx]

theorem rpRead_waits {err : MemErr} {r : RpRun} (hr : s.replay.run = some r) (hm : r.req.toMem = true) (hc : s.replay.closing = [])
    (hp : r.pos = s.hst.head) (hf : r.force = false) (hn : s.now < s.rpStop r) : rpRead err s = s := by
  unfold rpRead
  dsimp only
  rw [rpPump_toMem hr hm hc, hr]
  dsimp only
  rw [hm, if_neg (by simp), if_pos ⟨hp, by rw [hf]; rfl⟩, if_neg (by omega)]

theorem rpRead_idle {err : MemErr} (hr : s.replay.run = none) (hc : s.replay.closing = []) : rpRead err s = s := by
  unfold rpRead
  dsimp only
  rw [rpPump_idle hr hc, hr]

theorem State.atTime_past {t : Nat} (h : t ≤ s.now) : s.atTime t = s := by
  unfold State.atTime
  exact if_neg fun ⟨h', _⟩ => by omega

theorem rpEndTime_ends {r : RpRun} (hr : s.replay.run = some r) (hp : r.pos = s.hst.head) (hf : r.force = false)
    (hn : s.rpStop r ≤ s.now) : rpEndTime s = rpEnd (if r.trimmed then 2 else if r.sent then 0 else 1) s := by
  unfold rpEndTime
  rw [hr]
  dsimp only
  rw [State.atTime_past hn, if_pos ⟨hp, by rw [hf]; rfl, hn⟩]
  rfl

end

/-- Settles O30. -/
theorem replayCommands : Obligations.ReplayCommands := by
  intro s ha
  refine ⟨fun h => act_of_eq ha (f := rpGo) (if_pos h), fun h ht => act_of_eq ha (f := rpGo) (if_neg ?_),
    fun hr hc => act_of_eq ha (f := rpAbort) ?idle, fun hc => act_of_eq ha (f := rpAbort) ?ends,
    fun r l hc => act_of_eq ha (f := rpAbort) ?closing, fun r hr hm hc => ⟨_, act_awake ha rpAbort, ?aborted⟩,
    fun h => ⟨act_of_eq ha (f := rpWindowStart) ?_, act_of_eq ha (f := rpMarkStart) ?_⟩, ?window, ?mark,
    fun err hr hc => act_of_eq ha (rpRead_idle hr hc), fun err r hr hm hc hp hf hn => act_of_eq ha (rpRead_waits hr hm hc hp hf hn),
    fun err r x hr hm hc hp hx => act_of_eq ha (f := rpRead err) ?toMem, fun err r x hr ho hp hx => act_of_eq ha (rpRead_record hr ho hp hx),
    fun hr => act_of_eq ha (f := rpEndTime) ?_, fun r hr hp hf hn => act_of_eq ha (rpEndTime_ends hr hp hf hn)⟩
  · exact fun h' => h'.elim (by omega) (by rw [ht]; nofun)
  case idle => rw [rpAbort, hc, rpEnd_idle 6 hr]
  case ends => rw [rpAbort, hc]
  case closing => rw [rpAbort, hc]
  case aborted =>
    have h : rpAbort s = rpEnd 6 s := by rw [rpAbort, hc]
    rw [h, rpEnd_toMem 6 hr hm hc]
    obtain ⟨h1, h2⟩ := rpClose_aborted (s := s.unrun) (r := { r with status := some 6, out := if 6 = 6 ∨ 6 = 12 then [] else r.out }) rfl
    rw [showReplay_replay, showReplay_status, showReplay_raised, rpClose_replay, h1, h2]
    exact ⟨rfl, rfl, rfl, rfl, rfl⟩
  · rw [rpWindowStart, rpNext_none 0 h]
  · rw [rpMarkStart, rpNext_none 1 h]
  case window =>
    intro q l hr hc hq hp hf h hm u e
    refine ⟨fun hb => ?_, fun hb => act_of_eq ha (f := rpWindowStart) ?_⟩
    · obtain ⟨r, hrun, h'⟩ := rpWindowStart_found hr hc hq hp hf h hm (e := e) rfl hb
      exact ⟨_, r, act_awake ha rpWindowStart, hrun, h'⟩
    · rw [rpWindowStart_accepted hr hc hq hp hf h hm (e := e) rfl, if_pos hb]
  case mark =>
    intro q l hr hc hq hp hf hm h
    refine ⟨_, _, act_of_eq ha (rpMarkStart_accepted hr hc hq hp hf hm h), rfl, rfl, rfl, rfl, rfl, ?_, showReplay_busy rfl, rfl⟩
    exact congrArg (List.drop 1) hq
  case toMem =>
    have h := rpPump_toMem hr hm hc
    rw [rpRead_record (r := r) (x := x) (by rw [h, hr]) (.inl hm) (by rw [h]; exact hp) (by rw [h, hx]), h]
  · rw [rpEndTime, hr]

end Sys2Proof.Machine
end

section
/-! PROOF. Lanes (O12, O13, O14): what a lost alignment, a restart of training, and the end of an attempt leave as it was, and the commands
of the lane state machine made of them. -/

namespace Sys2Proof.Machine

section
variable {s : State} {n : Nat}

/-! ### A lost alignment (R68, R70) -/

theorem alignClear_rest (n : Nat) (s : State) :
    alignClear n s = { s.wr (R.VSP_LANE_STAT_ALIGNED (s.base n)) 0 with lanes := (alignClear n s).lanes } := by
  unfold alignClear
  exact State.forAll_induct (P := fun t => t = { s.wr (R.VSP_LANE_STAT_ALIGNED (s.base n)) 0 with lanes := t.lanes })
    (fun i t h => by rw [h]; rfl) _ _ rfl

theorem alignClear_rd {f : Fld} (h : f.key ≠ (R.VSP_LANE_STAT_ALIGNED (s.base n)).key) : (alignClear n s).rd f = s.rd f := by
  rw [alignClear_rest]
  exact State.rd_wr_key _ _ h

@[simp] theorem alignClear_laneState (m : Nat) : (alignClear n s).laneState m = s.laneState m :=
  alignClear_rd (by show (32 * _ + _ : Nat) ≠ 32 * _ + _; omega)

@[simp] theorem alignClear_cnt : (alignClear n s).cnt = s.cnt := by rw [alignClear_rest]; rfl

@[simp] theorem alignClear_raised : (alignClear n s).raised = s.raised := by rw [alignClear_rest]; rfl

@[simp] theorem alignClear_ruleTaped : (alignClear n s).ruleTaped = s.ruleTaped := by rw [alignClear_rest]; rfl

/-- Lane `l` with another marker state and other striped blocks waiting. -/
def Lane.unaligned (l : Lane) (m : Lane) : Lane :=
  { l with marker := m.marker, lineUps := m.lineUps, alignBad := m.alignBad, queue := m.queue }

theorem alignClear_lane (m : Nat) : (alignClear n s).lane m = (s.lane m).unaligned ((alignClear n s).lane m) := by
  unfold alignClear
  refine State.forAll_induct (P := fun t => t.lane m = (s.lane m).unaligned (t.lane m)) (fun i t h => ?_) _ _ rfl
  by_cases hi : m = i
  · subst hi
    simp only [onLane, State.lane_set_same]
    rw [h]
    rfl
  · simp only [onLane, State.lane_set_other _ _ hi]
    exact h

/-! ### Changes of one lane -/

@[simp] theorem onLane_rd (m : Nat) (f : Lane → Lane) (g : Fld) : (onLane m f s).rd g = s.rd g := rfl

@[simp] theorem onLane_laneState (m : Nat) (f : Lane → Lane) (i : Nat) : (onLane m f s).laneState i = s.laneState i := rfl

@[simp] theorem onLane_cnt (m : Nat) (f : Lane → Lane) : (onLane m f s).cnt = s.cnt := rfl

@[simp] theorem onLane_raised (m : Nat) (f : Lane → Lane) : (onLane m f s).raised = s.raised := rfl

@[simp] theorem onLane_lane_same (m : Nat) (f : Lane → Lane) : (onLane m f s).lane m = f (s.lane m) := State.lane_set_same ..

@[simp] theorem setLaneState_lane (m st i : Nat) : (setLaneState m st s).lane i = s.lane i := rfl

@[simp] theorem setLaneState_cnt (m st : Nat) : (setLaneState m st s).cnt = s.cnt := rfl

@[simp] theorem setLaneState_raised (m st : Nat) : (setLaneState m st s).raised = s.raised := rfl

theorem setLaneState_same (m : Nat) {st : Nat} (h : st < 16) : (setLaneState m st s).laneState m = st :=
  State.rd_wr_lt s (f := R.VSP_LANE_STAT_STATE m) h

theorem setLaneState_other {m i : Nat} (st : Nat) (h : i ≠ m) : (setLaneState m st s).laneState i = s.laneState i :=
  State.rd_wr_key _ _ (by show (32 * _ + _ : Nat) ≠ 32 * _ + _; omega)

theorem setLaneState_rd {m : Nat} {f : Fld} (st : Nat) (h : f.key ≠ (R.VSP_LANE_STAT_STATE m).key) : (setLaneState m st s).rd f = s.rd f :=
  State.rd_wr_key _ _ h

/-! ### Training from block lock (R56, R58) -/

theorem trainPass_rd {f : Fld} (h : f.key ≠ (R.VSP_LANE_STAT_ALIGNED (s.base n)).key) : (trainPass n s).rd f = s.rd f := alignClear_rd h

@[simp] theorem trainPass_laneState (m : Nat) : (trainPass n s).laneState m = s.laneState m := alignClear_laneState m

@[simp] theorem trainPass_cnt : (trainPass n s).cnt = s.cnt := alignClear_cnt

@[simp] theorem trainPass_raised : (trainPass n s).raised = s.raised := alignClear_raised

theorem trainPass_lane : ((trainPass n s).lane n).phase = .ident ∧ ((trainPass n s).lane n).lockTimer = (s.lane n).lockTimer := by
  unfold trainPass
  rw [onLane_lane_same, alignClear_lane]
  exact ⟨rfl, rfl⟩

/-! ### Lanes that rest (R61, R63) -/

theorem laneRest_laneState (m i : Nat) : (laneRest m s).laneState i = s.laneState i := rfl

/-- Lane `i` rests in state `st`. -/
def restLane (st i : Nat) (s : State) : State := laneRest i (setLaneState i st s)

theorem restLane_rest (st i : Nat) (s : State) : restLane st i s =
    { s with regs := (restLane st i s).regs, lanes := (restLane st i s).lanes } := rfl

theorem restLanes_rest (st : Nat) (l : List Nat) : s.forAll l (restLane st) =
    { s with regs := (s.forAll l (restLane st)).regs, lanes := (s.forAll l (restLane st)).lanes } :=
  State.forAll_induct (P := fun t => t = { s with regs := t.regs, lanes := t.lanes }) (fun i t h => (restLane_rest st i t).trans
    (congrArg (fun x : State => { x with regs := (restLane st i t).regs, lanes := (restLane st i t).lanes }) h)) _ _ rfl

theorem restLane_rd (st : Nat) {i : Nat} {f : Fld} (h : f.key ≠ (R.VSP_LANE_STAT_STATE i).key) : (restLane st i s).rd f = s.rd f := by
  unfold restLane laneRest
  rw [onLane_rd, setLaneState_rd _ h]

theorem restLanes_rd (st : Nat) (l : List Nat) {f : Fld} (h : ∀ i, f.key ≠ (R.VSP_LANE_STAT_STATE i).key) :
    (s.forAll l (restLane st)).rd f = s.rd f :=
  State.forAll_induct (P := fun t => t.rd f = s.rd f) (fun i _ ht => (restLane_rd st (h i)).trans ht) _ _ rfl

theorem restLanes_keeps {st i : Nat} (h : st < 16) (l : List Nat) (hs : s.laneState i = st) :
    (s.forAll l (restLane st)).laneState i = st := by
  refine State.forAll_induct (P := fun t => t.laneState i = st) (fun j t ht => ?_) _ _ hs
  by_cases hj : i = j
  · subst hj
    exact setLaneState_same i h
  · exact (setLaneState_other st hj).trans ht

theorem restLanes_laneState {st i : Nat} (h : st < 16) : ∀ {l : List Nat} {s : State}, i ∈ l → (s.forAll l (restLane st)).laneState i = st
  | [], _, hi => by cases hi
  | j :: l, s, hi => by
    rcases List.mem_cons.mp hi with rfl | hi
    · exact restLanes_keeps h l (setLaneState_same i h)
    · exact restLanes_laneState h (s := restLane st j s) hi

/-! ### Events of lanes (R73) -/

theorem laneEvent_eq {k : Nat} (h : s.laneState n ≠ 7) : laneEvent n k s = s.raise (6 * n + k) := by
  unfold laneEvent State.raiseIf
  rw [bne_iff_ne.mpr h]
  rfl

theorem laneEvents_eq (k : Nat) : ∀ {l : List Nat} {s : State}, (∀ i ∈ l, s.laneState i ≠ 7) →
    s.forAll l (laneEvent · k) = { s with raised := s.raised ++ l.map (fun i => 6 * i + k) }
  | [], s, _ => by
    rw [List.map_nil, List.append_nil]
    rfl
  | i :: l, s, h => by
    have hi : (s.raise (6 * i + k)).forAll l (laneEvent · k) = _ := laneEvents_eq k fun j hj => h j (List.mem_cons_of_mem _ hj)
    show (laneEvent i k s).forAll l (laneEvent · k) = _
    rw [laneEvent_eq (h i (List.mem_cons_self ..)), hi]
    simp only [State.raise, List.map_cons, List.append_assoc, List.singleton_append]

/-! ### Block lock (R53, R63) -/

/-- Block lock and signal are shown on lane `n`. -/
def State.lockShown (n : Nat) (s : State) : State := (s.wr (R.VSP_LANE_STAT_BLOCK_LOCK n) 1).wr (R.VSP_LANE_STAT_SIG_DET n) 1

/-- Lane `n` has entered TRAINING with block lock. -/
def State.intoTraining (n : Nat) (s : State) : State :=
  setLaneState n 2 (onLane n (fun l => { l with lockTimer := false, trainAt := some (l.trainAt.getD s.chalk.cycles) }) (s.lockShown n))

theorem lockFound_locking (h : s.laneState n = 1) : lockFound n s = trainPass n (s.intoTraining n) := by
  unfold lockFound
  rw [h, if_neg (by decide)]
  dsimp only
  rw [if_pos rfl]
  rfl

theorem lockFound_shows (h0 : s.laneState n ≠ 0) (h1 : s.laneState n ≠ 1) : lockFound n s = s.lockShown n := by
  unfold lockFound
  rw [if_neg h0]
  exact if_neg h1

theorem lockFound_trains (h : s.laneState n = 1) : (lockFound n s).rd (R.VSP_LANE_STAT_BLOCK_LOCK n) = 1 ∧
    (lockFound n s).rd (R.VSP_LANE_STAT_SIG_DET n) = 1 ∧ (lockFound n s).laneState n = 2 ∧ ((lockFound n s).lane n).phase = .ident ∧
    ((lockFound n s).lane n).lockTimer = false ∧ (lockFound n s).raised = s.raised ∧ (lockFound n s).cnt = s.cnt := by
  rw [lockFound_locking h, trainPass_laneState, trainPass_raised, trainPass_cnt]
  obtain ⟨hp, ht⟩ := trainPass_lane (n := n) (s := s.intoTraining n)
  refine ⟨?_, ?_, setLaneState_same n (by decide), hp, ht.trans ?_, rfl, rfl⟩
  · rw [trainPass_rd (by show (32 * _ + _ : Nat) ≠ 32 * _ + _; omega), State.intoTraining,
      setLaneState_rd _ (by show (32 * _ + _ : Nat) ≠ 32 * _ + _; omega), onLane_rd, State.lockShown,
      State.rd_wr_key _ _ (by show (32 * _ + _ : Nat) ≠ 32 * _ + _; omega)]
    exact State.rd_wr_lt _ (f := R.VSP_LANE_STAT_BLOCK_LOCK n) (by decide : _ < 2 ^ 1)
  · rw [trainPass_rd (by show (32 * _ + _ : Nat) ≠ 32 * _ + _; omega), State.intoTraining,
      setLaneState_rd _ (by show (32 * _ + _ : Nat) ≠ 32 * _ + _; omega), onLane_rd]
    exact State.rd_wr_lt _ (f := R.VSP_LANE_STAT_SIG_DET n) (by decide : _ < 2 ^ 1)
  · rw [State.intoTraining, setLaneState_lane, onLane_lane_same]

/-! ### Loss of lock (R53, R63) -/

/-- The loss of lock of lane `n` is counted and shown. -/
def State.unlocked (n : Nat) (energy : Bool) (s : State) : State :=
  ((s.inc (R.VSP_LOCK_LOSS n)).wr (R.VSP_LANE_STAT_BLOCK_LOCK n) 0).wr (R.VSP_LANE_STAT_SIG_DET n) (b2n energy)

theorem unlocked_rd {energy : Bool} {f : Fld} (h1 : f.key ≠ (R.VSP_LANE_STAT_BLOCK_LOCK n).key)
    (h2 : f.key ≠ (R.VSP_LANE_STAT_SIG_DET n).key) : (s.unlocked n energy).rd f = s.rd f := by
  rw [State.unlocked, State.rd_wr_key _ _ h2, State.rd_wr_key _ _ h1]
  rfl

theorem unlocked_laneState (energy : Bool) : (s.unlocked n energy).laneState n = s.laneState n :=
  unlocked_rd (by show (32 * _ + _ : Nat) ≠ 32 * _ + _; omega) (by show (32 * _ + _ : Nat) ≠ 32 * _ + _; omega)

theorem unlocked_inGang (energy : Bool) : (s.unlocked n energy).inGang n = s.inGang n :=
  congrArg (· != 0) (unlocked_rd (f := R.VSP_LANE_STAT_GANG n) (by show (32 * _ + _ : Nat) ≠ 32 * _ + _; omega)
    (by show (32 * _ + _ : Nat) ≠ 32 * _ + _; omega))

/-- Lane `l` after the loss of lock in TRAINING. -/
def Lane.dropped (l : Lane) : Lane :=
  { l with phase := .idle, waiting := false, converged := false, linkUp := false, clear64 := false, lostLock := true }

theorem lockLost_idle {energy : Bool} (h : s.laneState n = 0 ∨ s.flag (R.VSP_LANE_STAT_BLOCK_LOCK n) = false) : lockLost n energy s = s :=
  if_pos (h.imp_right fun h => by rw [h]; rfl)

section
variable {energy : Bool} (h0 : s.laneState n ≠ 0) (hl : s.flag (R.VSP_LANE_STAT_BLOCK_LOCK n) = true)
include h0 hl

theorem lockLost_gone : lockLost n energy s = lockGone n (s.unlocked n energy) :=
  if_neg fun h => h.elim h0 (by rw [hl]; nofun)

theorem lockLost_other (h2 : s.laneState n ≠ 2) (h3 : s.laneState n ≠ 3) : lockLost n energy s = s.unlocked n energy := by
  rw [lockLost_gone h0 hl, lockGone]
  split
  · rename_i h
    exact absurd ((unlocked_laneState energy).symm.trans h) h2
  · rename_i h
    exact absurd ((unlocked_laneState energy).symm.trans h) h3
  · rfl

theorem lockLost_retrains (h : s.laneState n = 2) :
    lockLost n energy s = alignClear n (setLaneState n 1 (onLane n Lane.dropped (s.unlocked n energy))) := by
  rw [lockLost_gone h0 hl, lockGone, unlocked_laneState, h]
  rfl

theorem lockLost_training (h : s.laneState n = 2) : (lockLost n energy s).laneState n = 1 ∧ ((lockLost n energy s).lane n).lostLock = true ∧
    ((lockLost n energy s).lane n).linkUp = false ∧ (lockLost n energy s).rd (R.VSP_LANE_STAT_BLOCK_LOCK n) = 0 ∧
    (lockLost n energy s).cnt = (s.unlocked n energy).cnt ∧ (lockLost n energy s).raised = s.raised := by
  rw [lockLost_retrains h0 hl h]
  rw [alignClear_laneState, setLaneState_same n (by decide), alignClear_cnt, alignClear_raised, setLaneState_cnt, setLaneState_raised,
    onLane_cnt, onLane_raised, alignClear_lane, setLaneState_lane, onLane_lane_same,
    alignClear_rd (by show (32 * _ + _ : Nat) ≠ 32 * _ + _; omega), setLaneState_rd _ (by show (32 * _ + _ : Nat) ≠ 32 * _ + _; omega),
    onLane_rd]
  refine ⟨rfl, rfl, rfl, ?_, rfl, rfl⟩
  rw [State.unlocked, State.rd_wr_key _ _ (by show (32 * _ + _ : Nat) ≠ 32 * _ + _; omega)]
  exact State.rd_wr_lt _ (f := R.VSP_LANE_STAT_BLOCK_LOCK n) (by decide : _ < 2 ^ 1)

theorem lockLost_single (h : s.laneState n = 3) (hg : s.inGang n = false) : lockLost n energy s =
    attempt n ((portLeaveUp n ((s.unlocked n energy).wr (R.VSP_LANE_STAT_ALIGNED n) 0)).raise (6 * n)) := by
  rw [lockLost_gone h0 hl, lockGone, unlocked_laneState, h]
  rw [unlocked_inGang, hg]
  rfl

theorem lockLost_gang (h : s.laneState n = 3) (hg : s.inGang n = true) : lockLost n energy s = gangTape n n (s.unlocked n energy) := by
  rw [lockLost_gone h0 hl, lockGone, unlocked_laneState, h]
  rw [unlocked_inGang, hg]
  rfl

end

/-! ### The bounds of an attempt (R60, R61) -/

/-- The lanes of the channel of lane `n` that have found no lock within 50 ms. -/
def State.lockless (s : State) (n : Nat) : List Nat := (s.chan n).filter (fun i => s.laneState i == 1 && (s.lane i).lockTimer)

theorem lockTimeout_none {energy : Bool} (h : ∀ i ∈ s.chan n, s.laneState i = 1 → (s.lane i).lockTimer = false) :
    lockTimeout n energy s = s := by
  refine if_pos (List.filter_eq_nil_iff.mpr fun i hi => ?_)
  simpa using h i hi

/-- The channel of lane `n` rests in ABSENT. -/
def State.absent (n : Nat) (energy : Bool) (s : State) : State :=
  bumpRetry (s.base n) (((alignClear n s).forAll (s.chan n) (restLane 4)).wr (R.VSP_LANE_STAT_SIG_DET n) (b2n energy))

theorem absent_laneState {energy : Bool} {i : Nat} (hi : i ∈ s.chan n) : (s.absent n energy).laneState i = 4 := by
  unfold State.absent bumpRetry
  rw [State.laneState, State.rd_wr_key _ _ (by show (32 * _ + _ : Nat) ≠ 32 * _ + _; omega),
    State.rd_wr_key _ _ (by show (32 * _ + _ : Nat) ≠ 32 * _ + _; omega)]
  exact restLanes_laneState (by decide) hi

theorem absent_retry (energy : Bool) : (s.absent n energy).rd (R.VSP_LANE_STAT_RETRY_K (s.base n)) =
    min 9 (s.rd (R.VSP_LANE_STAT_RETRY_K (s.base n)) + 1) := by
  unfold State.absent bumpRetry
  rw [State.rd_wr_lt _ (f := R.VSP_LANE_STAT_RETRY_K (s.base n)) (Nat.lt_of_le_of_lt (Nat.min_le_left ..) (by decide : 9 < 16)),
    State.rd_wr_key _ _ (by show (32 * _ + _ : Nat) ≠ 32 * _ + _; omega),
    restLanes_rd _ _ fun i => (by show (32 * _ + _ : Nat) ≠ 32 * _ + _; omega), alignClear_rd (by show (32 * _ + _ : Nat) ≠ 32 * _ + _; omega)]

theorem absent_raised (energy : Bool) : (s.absent n energy).raised = s.raised := by
  unfold State.absent bumpRetry
  rw [State.wr_raised, State.wr_raised, restLanes_rest]
  exact alignClear_raised

theorem lockTimeout_absent {energy : Bool} (h : s.lockless n ≠ []) : lockTimeout n energy s =
    { s.absent n energy with raised := s.raised ++ (s.lockless n).map (fun i => 6 * i) } := by
  have he := laneEvents_eq 0 (l := s.lockless n) (s := s.absent n energy) fun i hi => by
    rw [absent_laneState ((List.mem_filter.mp hi).1)]
    decide
  rw [absent_raised] at he
  exact (if_neg h).trans he

theorem budgetExpiry_fails (h : ∃ i ∈ s.chan n, (s.lane i).trainAt.isSome ∧ (s.laneState i = 1 ∨ s.laneState i = 2)) :
    budgetExpiry n s = trainFail (s.base n) (s.budgetCause n) (s.budgetLanes n (s.budgetCause n)) s :=
  if_pos (List.any_eq_true.mpr (by simpa using h))

theorem budgetExpiry_idle (h : ∀ i ∈ s.chan n, (s.lane i).trainAt = none) : budgetExpiry n s = s :=
  if_neg (by simp only [List.any_eq_true, not_exists, not_and]; intro i hi; rw [h i hi]; nofun)

end

/-- Settles O12. -/
theorem laneLockCommands : Obligations.LaneLockCommands := by
  intro s n energy ha ht
  refine ⟨fun h => ⟨_, act_untested ha ht (lockFound n), lockFound_trains h⟩, fun h0 h1 => ?shows, fun h => ?off, fun h => ?idle, ?lost,
    ?absent, fun h => act_of_eq ha (lockTimeout_none h), fun h => act_of_eq ha (budgetExpiry_fails h),
    fun h => act_of_eq ha (budgetExpiry_idle h)⟩
  case shows => exact (act_untested ha ht (lockFound n)).trans (by rw [lockFound_shows h0 h1]; rfl)
  case off => exact (act_untested ha ht (lockFound n)).trans (by rw [lockFound, if_pos h])
  case idle => exact (act_untested ha ht (lockLost n energy)).trans (by rw [lockLost_idle h])
  case lost =>
    intro h0 hl u
    have he := act_untested ha ht (lockLost n energy)
    refine ⟨fun h2 h3 => he.trans ?_, fun h => ⟨_, he, lockLost_training h0 hl h⟩, fun h hg => he.trans ?_, fun h hg => he.trans ?_⟩
    · rw [lockLost_other h0 hl h2 h3]
      rfl
    · rw [lockLost_single h0 hl h hg]
      rfl
    · rw [lockLost_gang h0 hl h hg]
      rfl
  case absent =>
    rintro ⟨i, hi, h1, hk⟩
    have hne : s.lockless n ≠ [] := List.ne_nil_of_mem (List.mem_filter.mpr ⟨hi, by simp [h1, hk]⟩)
    exact ⟨_, act_of_eq ha (lockTimeout_absent hne), fun i hi => absent_laneState hi, absent_retry energy, rfl⟩

end Sys2Proof.Machine
end

section
/-! PROOF. The search of a training lane (O13). -/

namespace Sys2Proof.Machine

section
variable {s : State} {n : Nat}

/-! ### Equalisation codes and the eye monitor (R64, R80, R81) -/

/-- The five DFE taps of lane `n` hold `v`, the first of them first. -/
def State.taps (n : Nat) (v : Nat → Nat) (s : State) : State :=
  ((((s.wr (R.VSP_RX_EQ_DFE1 n) (v 1)).wr (R.VSP_RX_EQ_DFE2 n) (v 2)).wr (R.VSP_RX_EQ_DFE3 n) (v 3)).wr (R.VSP_RX_EQ_DFE4 n) (v 4)).wr
    (R.VSP_RX_EQ_DFE5 n) (v 5)

theorem taps_rd (v : Nat → Nat) {f : Fld} (h : f.key / 32 ≠ 0x18 + n * 0x10000 ∨ f.key % 32 = 25) : (s.taps n v).rd f = s.rd f := by
  have hk (lo : Nat) (hl : lo ≤ 20) : f.key ≠ 32 * (0x18 + n * 0x10000) + lo := by omega
  rw [State.taps, State.rd_wr_key _ _ (hk 20 (by decide)), State.rd_wr_key _ _ (hk 15 (by decide)), State.rd_wr_key _ _ (hk 10 (by decide)),
    State.rd_wr_key _ _ (hk 5 (by decide)), State.rd_wr_key _ _ (hk 0 (by decide))]

theorem taps_rest (v : Nat → Nat) : s.taps n v = { s with regs := (s.taps n v).regs } := rfl

/-- The codes of the DFE taps of lane `n` after `k` blocks of adaptation towards `eq`. -/
def State.tapCode (s : State) (n k : Nat) (eq : RxEq) (i : Nat) : Nat :=
  match i with
  | 1 => tapMove k (s.rd (R.VSP_RX_EQ_DFE1 n)) eq.dfe1
  | 2 => tapMove k (s.rd (R.VSP_RX_EQ_DFE2 n)) eq.dfe2
  | 3 => tapMove k (s.rd (R.VSP_RX_EQ_DFE3 n)) eq.dfe3
  | 4 => tapMove k (s.rd (R.VSP_RX_EQ_DFE4 n)) eq.dfe4
  | _ => tapMove k (s.rd (R.VSP_RX_EQ_DFE5 n)) eq.dfe5

/-- In TRAINING the CTLE of lane `n` holds the code of `eq`. -/
def State.ctled (n : Nat) (eq : RxEq) (s : State) : State := s.when (s.laneState n == 2) (·.wr (R.VSP_RX_EQ_CTLE n) eq.ctle)

theorem storeEq_eq (k : Nat) (eq : RxEq) : storeEq n k eq s =
    if s.laneState n = 2 ∨ s.laneState n = 3 ∧ !s.flag (R.VSP_LANE_CTRL_ADAPT_FREEZE n) then (s.ctled n eq).taps n (s.tapCode n k eq)
    else s.ctled n eq := rfl

theorem ctled_rest (eq : RxEq) : s.ctled n eq = { s with regs := (s.ctled n eq).regs } := by
  unfold State.ctled State.when
  split <;> rfl

theorem ctled_rd (eq : RxEq) {f : Fld} (h : f.key / 32 ≠ 0x18 + n * 0x10000) : (s.ctled n eq).rd f = s.rd f := by
  unfold State.ctled State.when
  split
  · exact State.rd_wr_key _ _ (by show f.key ≠ 32 * (0x18 + n * 0x10000) + 25; omega)
  · rfl

theorem storeEq_rest (k : Nat) (eq : RxEq) : storeEq n k eq s = { s with regs := (storeEq n k eq s).regs } := by
  rw [storeEq_eq]
  split
  · exact (taps_rest _).trans (congrArg (fun x : State => { x with regs := ((s.ctled n eq).taps n (s.tapCode n k eq)).regs }) (ctled_rest eq))
  · exact ctled_rest eq

theorem storeEq_rd (k : Nat) (eq : RxEq) {f : Fld} (h : f.key / 32 ≠ 0x18 + n * 0x10000) : (storeEq n k eq s).rd f = s.rd f := by
  rw [storeEq_eq]
  split
  · rw [taps_rd _ (.inl h), ctled_rd eq h]
  · exact ctled_rd eq h

theorem storeEq_lane (k : Nat) (eq : RxEq) (m : Nat) : (storeEq n k eq s).lane m = s.lane m := by rw [storeEq_rest]; rfl

theorem storeEq_laneState (k : Nat) (eq : RxEq) (m : Nat) : (storeEq n k eq s).laneState m = s.laneState m :=
  storeEq_rd k eq (by show (32 * (_ + _) + 0) / 32 ≠ _; omega)

theorem storeEq_ctle (k : Nat) (eq : RxEq) (h : s.laneState n = 2) : (storeEq n k eq s).rd (R.VSP_RX_EQ_CTLE n) = eq.ctle := by
  rw [storeEq_eq, if_pos (.inl h), taps_rd _ (.inr (by show (32 * _ + 25) % 32 = 25; omega)), State.ctled, h]
  exact State.rd_wr_lt s (f := R.VSP_RX_EQ_CTLE n) eq.ctle.isLt

theorem storeEye_rd (pe height width : Nat) {f : Fld} (h : f.key / 32 ≠ 0x1C + n * 0x10000) :
    (storeEye n pe height width s).rd f = s.rd f := by
  have hk (lo : Nat) (hl : lo ≤ 16) : f.key ≠ 32 * (0x1C + n * 0x10000) + lo := by omega
  rw [storeEye, State.rd_wr_key _ _ (hk 0 (by decide)), State.rd_wr_key _ _ (hk 8 (by decide)), State.rd_wr_key _ _ (hk 16 (by decide))]

theorem storeEye_lane (pe height width m : Nat) : (storeEye n pe height width s).lane m = s.lane m := rfl

/-! ### Adaptation and SETTLE (R56, R64) -/

theorem adaptationEnd_adapting (h : s.laneState n = 2) (hp : (s.lane n).phase = .adapting) : adaptationEnd n s =
    s.setLane n { s.lane n with adapted := true, phase := if (s.lane n).waiting then .requesting else .measuring } :=
  if_pos ⟨h, hp⟩

theorem adapted_effects (eq : RxEq) (h : s.laneState n = 2) (hp : (s.lane n).phase = .adapting) :
    (adapted n eq s).lane n = { s.lane n with adapted := true, phase := if (s.lane n).waiting then .requesting else .measuring } ∧
    (adapted n eq s).rd (R.VSP_RX_EQ_CTLE n) = eq.ctle ∧ (adapted n eq s).cnt = s.cnt ∧ (adapted n eq s).raised = s.raised := by
  have hl := storeEq_lane (n := n) (s := s) (s.blocksIn n 2000) eq n
  rw [adapted, adaptationEnd_adapting ((storeEq_laneState ..).trans h) (hl ▸ hp), hl, State.lane_set_same]
  refine ⟨rfl, storeEq_ctle _ eq h, ?_, ?_⟩
  · rw [State.setLane_cnt, storeEq_rest]
  · rw [State.setLane_raised, storeEq_rest]

/-! ### A measurement window (R56, R59) -/

/-- The state in which a window of lane `n` is judged. -/
def State.measuredWindow (n pe height width : Nat) (eq : RxEq) (s : State) : State :=
  storeEye n pe height width (storeEq n (s.windowBlocks n + s.blocksIn n (if s.laneState n = 2 then 10 * (s.lane n).settle else 0)) eq s)

section
variable (pe height width : Nat) (eq : RxEq)

theorem measuredWindow_lane (m : Nat) : (s.measuredWindow n pe height width eq).lane m = s.lane m :=
  (storeEye_lane ..).trans (storeEq_lane ..)

theorem measuredWindow_rd {f : Fld} (h1 : f.key / 32 ≠ 0x1C + n * 0x10000) (h2 : f.key / 32 ≠ 0x18 + n * 0x10000) :
    (s.measuredWindow n pe height width eq).rd f = s.rd f :=
  (storeEye_rd _ _ _ h1).trans (storeEq_rd _ _ h2)

theorem measuredWindow_laneState (m : Nat) : (s.measuredWindow n pe height width eq).laneState m = s.laneState m :=
  measuredWindow_rd _ _ _ _ (by show (32 * (_ + _) + 0) / 32 ≠ _; omega) (by show (32 * (_ + _) + 0) / 32 ≠ _; omega)

theorem measuredWindow_chan (m : Nat) : (s.measuredWindow n pe height width eq).chan m = s.chan m := by
  have hg := measuredWindow_rd (n := n) (s := s) pe height width eq (f := R.VSP_LANE_STAT_GANG m)
    (by show (32 * (_ + _) + 20) / 32 ≠ _; omega) (by show (32 * (_ + _) + 20) / 32 ≠ _; omega)
  have hl := measuredWindow_rd (n := n) (s := s) pe height width eq (f := R.VSP_LANE_STAT_LANE m)
    (by show (32 * (_ + _) + 18) / 32 ≠ _; omega) (by show (32 * (_ + _) + 18) / 32 ≠ _; omega)
  unfold State.chan State.base
  rw [hg, hl]

theorem windowMeasured_eq (bad : Nat) : windowMeasured n bad pe height width eq s =
    if s.laneState n = 2 ∧ (s.lane n).phase = .measuring then judgeWindow n bad pe (s.measuredWindow n pe height width eq)
    else s.measuredWindow n pe height width eq := by
  rw [← measuredWindow_laneState pe height width eq, ← measuredWindow_lane (s := s) (n := n) pe height width eq n]
  rfl

end

theorem State.forAll_single (m : Nat) (f : Nat → State → State) : s.forAll [m] f = f m s := rfl

theorem converge_single (h : s.chan n = [n]) : (converge n s).lane n = { s.lane n with
    phase := .linkUp, converged := true, linkUp := true, upSent := true, seen64 := false, clear64 := false } := by
  have hc : (onLane n (fun l => { l with phase := .linkUp, converged := true }) s).chan n = [n] := h
  unfold converge
  dsimp only
  rw [hc, if_pos (by simp)]
  rw [State.forAll_single, onLane_lane_same, onLane_lane_same]

theorem judgeWindow_converges {pe : Nat} (h : pe ≤ (s.lane n).peMax) : judgeWindow n 0 pe s = converge n s := if_pos ⟨rfl, h⟩

/-! ### Missing answers and UP not reached (R58, R59) -/

theorem tapTimeout_resends (h : s.laneState n = 2) (hw : (s.lane n).waiting = true) (ht : (s.lane n).timeouts < 2) : tapTimeout n s =
    (s.inc (R.VSP_TAP_TMO n)).setLane n { s.lane n with timeouts := (s.lane n).timeouts + 1, echo := false } :=
  (if_pos ⟨h, hw⟩).trans (if_neg (by omega))

theorem tapTimeout_restarts (h : s.laneState n = 2) (hw : (s.lane n).waiting = true) (ht : 2 ≤ (s.lane n).timeouts) :
    tapTimeout n s = trainRestart n (s.inc (R.VSP_TAP_TMO n)) :=
  (if_pos ⟨h, hw⟩).trans (if_pos (by omega))

/-- Lane `n` has shown 64 clear blocks. -/
def State.cleared (n : Nat) (s : State) : State := s.setLane n { s.lane n with clear64 := true, seen64 := true }

theorem tryUp_single (h : s.laneState n = 2) (hu : (s.lane n).linkUp = true) (hc : s.chan n = [n]) (hg : s.inGang n = false) :
    tryUp n (s.cleared n) = enterUp n (s.cleared n) := by
  have h1 : (s.cleared n).chan n = [n] := hc
  have h2 : (s.cleared n).inGang n = false := hg
  have h3 : (s.cleared n).laneState n = 2 := h
  have h4 : (s.cleared n).lane n = { s.lane n with clear64 := true, seen64 := true } := State.lane_set_same ..
  unfold tryUp
  dsimp only
  rw [h1, h2]
  refine if_pos ?_
  simp only [List.all_cons, List.all_nil, h3, h4, hu]
  rfl

end

/-- Settles O13. -/
theorem laneTrainingCommands : Obligations.LaneTrainingCommands := by
  intro s n ha
  refine ⟨fun eq h hp => ⟨_, act_awake ha (adapted n eq), adapted_effects eq h hp⟩,
    fun h hp => act_of_eq ha (f := settled n) (if_pos ⟨h, hp⟩), fun hp => act_of_eq ha (f := settled n) (if_neg fun h => hp h.2),
    ?window, ?converges, fun h hw ht => act_of_eq ha (tapTimeout_resends h hw ht),
    fun h hw ht => act_of_eq ha (tapTimeout_restarts h hw ht),
    fun h hu => act_of_eq ha (f := linkUpTimeout n) (if_pos ⟨h, hu⟩),
    fun hu => act_of_eq ha (f := linkUpTimeout n) (if_neg fun h => by rw [hu] at h; cases h.2),
    fun ht h hu => ⟨(act_untested ha ht (laneClear n)).trans ?_, tryUp_single h hu⟩,
    fun ht hu => (act_untested ha ht (laneClear n)).trans ?_⟩
  case window =>
    intro bad pe height width eq k u
    refine ⟨fun h => act_of_eq ha (f := windowMeasured n bad pe height width eq) ?_,
      fun h hp => act_of_eq ha (f := windowMeasured n bad pe height width eq) ?_⟩
    · rw [windowMeasured_eq, if_neg fun h' => h.elim (· h'.1) (· h'.2)]
      rfl
    · rw [windowMeasured_eq, if_pos ⟨h, hp⟩]
      rfl
  case converges =>
    intro pe height width eq h hp hc hm
    have hl := measuredWindow_lane (s := s) (n := n) pe height width eq n
    refine ⟨_, act_of_eq ha ((windowMeasured_eq ..).trans (if_pos ⟨h, hp⟩)), ?_⟩
    rw [judgeWindow_converges (by rw [hl]; exact hm), converge_single (by rw [measuredWindow_chan, hc]), hl]
  · rw [laneClear, if_pos ⟨h, hu⟩]
    rfl
  · rw [laneClear, if_neg fun h => by rw [hu] at h; cases h.2]

end Sys2Proof.Machine
end

section
/-! PROOF. Attempts, retries and retraining of a lane (O14). -/

namespace Sys2Proof.Machine

section
variable {s : State} {n : Nat}

/-! ### The retry time and the retry bits (R61, R72, R74) -/

theorem retryExpiry_failed (h : s.laneState (s.base n) = 4 ∨ s.laneState (s.base n) = 5) : retryExpiry n s = attempt n s := if_pos h

theorem retryExpiry_taped (h : s.laneState (s.base n) = 6) (hl : (s.lane (s.base n)).lossTaped = true) (hs : s.byScope (s.base n) = false)
    (hd : (s.unit (s.base n)).shed = false) (hu : s.portUntested n = true) : retryExpiry n s = attempt n s :=
  (if_neg (by omega)).trans (if_pos ⟨h, hl, by rw [hs]; rfl, by rw [hd]; rfl, hu⟩)

theorem retryExpiry_held (h : s.laneState (s.base n) = 6) (hl : (s.lane (s.base n)).lossTaped = false) : retryExpiry n s = s :=
  (if_neg (by omega)).trans (if_neg fun h' => by rw [hl] at h'; cases h'.2.1)

theorem retryExpiry_working (h : s.laneState (s.base n) < 4) : retryExpiry n s = s :=
  (if_neg (by omega)).trans (if_neg fun h' => by have := h'.1; omega)

/-! ### A new attempt (R60, R61) -/

/-- Lane `n` as a new attempt finds it. -/
def State.freshLane (n : Nat) (s : State) : Lane :=
  { s.lane n with
    phase := .idle, waiting := false, echo := false, setB := s.flag (R.VSP_LANE_CTRL_PRESET_SET n),
    peMax := s.rd (R.VSP_TRAIN_CFG_PE_MAX n), eyeMargin := s.rd (R.VSP_TRAIN_CFG_EYE_MARGIN n),
    settle := max 1 (s.rd (R.VSP_TRAIN_CFG_SETTLE n)), maxReq := s.rd (R.VSP_TRAIN_CFG_MAX_REQ n),
    converged := false, linkUp := false, clear64 := false, lockTimer := true, trainAt := none, lostLock := false,
    burst := false, lossTaped := false, upSent := false, seen64 := false }

/-- Lane `n` in LOCKING with the settings of the moment, its new attempt not yet counted. -/
def State.begun (n : Nat) (s : State) : State := alignClear n (s.setLane n (s.freshLane n))

theorem attemptLane_eq : attemptLane n s = setLaneState n 1 ((((((s.begun n).inc (R.VSP_TRAIN_ATT n)).wr (R.VSP_LANE_STAT_BLOCK_LOCK n) 0).wr
    (R.VSP_TRAIN_STAT_RESTARTS n) 0).wr (R.VSP_TRAIN_STAT_REQS n) 0).wr (R.VSP_RX_EQ_CTLE n)
    (if s.flag (R.VSP_LANE_CTRL_PRESET_SET n) then 20 else 12)) := rfl

theorem attempt_single (h : s.chan n = [n]) : attempt n s = attemptLane n s := by
  rw [attempt, h]
  rfl

theorem attemptLane_laneState : (attemptLane n s).laneState n = 1 := setLaneState_same n (by decide)

theorem attemptLane_cnt : (attemptLane n s).cnt = (s.inc (R.VSP_TRAIN_ATT n)).cnt := by
  have hb : (s.begun n).cnt = s.cnt := alignClear_cnt
  rw [attemptLane_eq, setLaneState_cnt]
  iterate 4 rw [State.wr_cnt]
  simp only [State.inc, hb]

theorem attemptLane_raised : (attemptLane n s).raised = s.raised := by
  rw [attemptLane_eq, setLaneState_raised]
  iterate 4 rw [State.wr_raised]
  exact alignClear_raised

theorem attemptLane_lane : ((attemptLane n s).lane n).lockTimer = true ∧ ((attemptLane n s).lane n).trainAt = none := by
  have h : (attemptLane n s).lane n = (s.begun n).lane n := by
    rw [attemptLane_eq, setLaneState_lane]
    iterate 4 rw [State.wr_laneOf]
    rw [State.inc_laneOf]
  rw [h, State.begun, alignClear_lane, State.lane_set_same]
  exact ⟨rfl, rfl⟩

theorem attemptLane_unlocked : (attemptLane n s).rd (R.VSP_LANE_STAT_BLOCK_LOCK n) = 0 := by
  rw [attemptLane_eq, setLaneState_rd _ (by show (32 * _ + _ : Nat) ≠ 32 * _ + _; omega),
    State.rd_wr_key _ _ (by show (32 * _ + _ : Nat) ≠ 32 * _ + _; omega), State.rd_wr_key _ _ (by show (32 * _ + _ : Nat) ≠ 32 * _ + _; omega),
    State.rd_wr_key _ _ (by show (32 * _ + _ : Nat) ≠ 32 * _ + _; omega)]
  exact State.rd_wr_lt _ (f := R.VSP_LANE_STAT_BLOCK_LOCK n) (by decide : _ < 2 ^ 1)

/-! ### A failed attempt (R60, R73) -/

theorem stampTrainTime_rd {f : Fld} (h : f.key ≠ (R.VSP_TRAIN_STAT_TRAIN_TIME n).key) : (stampTrainTime n s).rd f = s.rd f := by
  unfold stampTrainTime
  split
  · exact State.rd_wr_key _ _ h
  · rfl

theorem stampTrainTime_raised : (stampTrainTime n s).raised = s.raised := by
  unfold stampTrainTime
  split <;> rfl

/-- Lane `n` rests in TRAIN_FAIL with its TRAIN_TIME. -/
def State.trainRested (n : Nat) (s : State) : State := restLane 5 n (stampTrainTime n (alignClear n s))

/-- Lane `n` shows the cause of its failed attempt and its next k. -/
def State.trainFailed (n cause : Nat) (s : State) : State :=
  (((s.trainRested n).wr (R.VSP_TRAIN_STAT_CAUSE n) cause).wr (R.VSP_TRAIN_STAT_CAUSE n) cause).wr (R.VSP_LANE_STAT_RETRY_K n)
    (min 9 (s.rd (R.VSP_LANE_STAT_RETRY_K n) + 1))

theorem trainFail_single {cause : Nat} (hc : s.chan n = [n]) (hb : s.base n = n) :
    trainFail n cause [n] s = trainRecord n cause (laneEvent n 5 (s.trainFailed n cause)) := by
  unfold trainFail
  dsimp only
  rw [hc, hb]
  rfl

theorem trainRecord_journalled (cause : Nat) : Journalled s (trainRecord n cause s) := jnlAppend_journalled s _ _

theorem trainFailed_laneState (cause : Nat) : (s.trainFailed n cause).laneState n = 5 := by
  rw [State.laneState, State.trainFailed, State.rd_wr_key _ _ (by show (32 * _ + _ : Nat) ≠ 32 * _ + _; omega),
    State.rd_wr_key _ _ (by show (32 * _ + _ : Nat) ≠ 32 * _ + _; omega), State.rd_wr_key _ _ (by show (32 * _ + _ : Nat) ≠ 32 * _ + _; omega)]
  exact setLaneState_same n (by decide)

theorem trainFailed_cause {cause : Nat} (h : cause < 8) : (s.trainFailed n cause).rd (R.VSP_TRAIN_STAT_CAUSE n) = cause := by
  rw [State.trainFailed, State.rd_wr_key _ _ (by show (32 * _ + _ : Nat) ≠ 32 * _ + _; omega)]
  exact State.rd_wr_lt _ (f := R.VSP_TRAIN_STAT_CAUSE n) (by show cause < 2 ^ 4; omega)

theorem trainFailed_retry (cause : Nat) : (s.trainFailed n cause).rd (R.VSP_LANE_STAT_RETRY_K n) =
    min 9 (s.rd (R.VSP_LANE_STAT_RETRY_K n) + 1) :=
  State.rd_wr_lt _ (f := R.VSP_LANE_STAT_RETRY_K n) (Nat.lt_of_le_of_lt (Nat.min_le_left ..) (by decide : 9 < 16))

theorem trainFailed_raised (cause : Nat) : (s.trainFailed n cause).raised = s.raised := by
  rw [State.trainFailed, State.wr_raised, State.wr_raised, State.wr_raised]
  exact stampTrainTime_raised.trans alignClear_raised

theorem trainFail_effects {cause : Nat} (hc : s.chan n = [n]) (hb : s.base n = n) (h : cause < 8) :
    (trainFail n cause [n] s).laneState n = 5 ∧ (trainFail n cause [n] s).rd (R.VSP_TRAIN_STAT_CAUSE n) = cause ∧
    (trainFail n cause [n] s).rd (R.VSP_LANE_STAT_RETRY_K n) = min 9 (s.rd (R.VSP_LANE_STAT_RETRY_K n) + 1) ∧
    (trainFail n cause [n] s).raised = s.raised ++ [6 * n + 5] := by
  have hs := trainFailed_laneState (n := n) (s := s) cause
  rw [trainFail_single hc hb, laneEvent_eq (by rw [hs]; decide)]
  have hj := trainRecord_journalled (n := n) (s := (s.trainFailed n cause).raise (6 * n + 5)) cause
  have hr (f : Fld) (hf : f.blk ≠ .bot) : (trainRecord n cause ((s.trainFailed n cause).raise (6 * n + 5))).rd f =
      (s.trainFailed n cause).rd f := (hj.rd f (.inl hf)).trans (State.raise_rd ..)
  rw [State.laneState, hr _ (by intro h; cases h), hr _ (by intro h; cases h), hr _ (by intro h; cases h)]
  refine ⟨hs, trainFailed_cause h, trainFailed_retry cause, ?_⟩
  rw [trainRecord, jnlAppend_raised, State.raise_raised, trainFailed_raised]

end

/-- Settles O14. -/
theorem laneAttemptsAndRetries : Obligations.LaneAttemptsAndRetries := by
  refine ⟨fun s n ha => ⟨fun h => act_of_eq ha (retryExpiry_failed h), fun h hl hs hd hu => act_of_eq ha (retryExpiry_taped h hl hs hd hu),
      fun h hl => act_of_eq ha (retryExpiry_held h hl), fun h => act_of_eq ha (retryExpiry_working h),
      fun h => act_of_eq ha (f := laneRetry n) (if_pos h), fun h4 h5 => act_of_eq ha (f := laneRetry n) (if_neg (not_or.mpr ⟨h4, h5⟩)),
      fun h => act_of_eq ha (f := laneRetrain n) (if_pos h), fun h => act_of_eq ha (f := laneRetrain n) (if_neg h),
      act_awake ha (burstEnd n)⟩, fun s n hc => ?_, fun s n cause hc hb h => trainFail_effects hc hb h⟩
  obtain ⟨hl, ht⟩ := attemptLane_lane (n := n) (s := s)
  rw [attempt_single hc]
  exact ⟨attemptLane_laneState, attemptLane_cnt, hl, ht, attemptLane_unlocked, attemptLane_raised⟩

end Sys2Proof.Machine
end

section
/-! PROOF. Recovery and taping (O34). -/

namespace Sys2Proof.Machine

section
variable {s : State} {c : Nat}

/-! ### Quiet periods (R462) -/

theorem quietExpiry_own_none (h : (s.unit c).own = none) : quietExpiry c false s = s := by
  unfold quietExpiry
  dsimp only
  rw [h]

theorem quietExpiry_anchored_none (h : (s.unit c).anchored = none) : quietExpiry c true s = s := by
  unfold quietExpiry
  dsimp only
  rw [h]

theorem quietExpiry_own {x : Taping} (h : (s.unit c).own = some x) : quietExpiry c false s =
    if x.held || (s.unit c).permanent then s
    else returnUnits [c] true (if (s.setUnit c { s.unit c with own := none }).unitTaped c then s.setUnit c { s.unit c with own := none }
      else (s.setUnit c { s.unit c with own := none }).setUnit c
        { s.unit c with own := none, returns := (s.unit c).returns ++ [s.chalk.cycles] }) := by
  unfold quietExpiry
  dsimp only
  rw [h]
  dsimp only
  cases (s.setUnit c { s.unit c with own := none }).unitTaped c <;> rfl

theorem quietExpiry_anchored {x : Taping} {ms : List Nat} (h : (s.unit c).anchored = some (x, ms)) : quietExpiry c true s =
    if x.held then s else returnUnits ms true
      (s.setUnit c { s.unit c with anchored := none, returns := (s.unit c).returns ++ [s.chalk.cycles] }) := by
  unfold quietExpiry
  dsimp only
  rw [h]

/-! ### Dependency windows (R464, R465) -/

theorem windowEnd_closed {d : Nat} (h : s.windows.contains (c, d, true) = false) : windowEnd c d s = s := by
  unfold windowEnd
  rw [h]
  rfl

theorem windowEnd_open {d : Nat} (h : s.windows.contains (c, d, true) = true) : windowEnd c d s =
    ((s.snags.filter (fun x => x.2.inWindow && x.2.live)).map (·.1)).foldl (fun t e => if t.suppressed e then t else occur e t.now id t)
      { s with windows := s.windows.filter (· != (c, d, true)) } := by
  unfold windowEnd
  rw [h]
  rfl

theorem windowEnd_quiet {d : Nat} (h : s.windows.contains (c, d, true) = true) (hq : ∀ x ∈ s.snags, x.2.inWindow = false) :
    windowEnd c d s = { s with windows := s.windows.filter (· != (c, d, true)) } := by
  have hf : s.snags.filter (fun x => x.2.inWindow && x.2.live) = [] :=
    List.filter_eq_nil_iff.mpr fun x hx => by simp [hq x hx]
  rw [windowEnd_open h, hf]
  rfl

/-! ### Taping of a check-value unit (R461) -/

theorem unitReset_unit : (unitReset c s).unit c = { s.unit c with resetting := true } := State.unit_set_same ..

theorem unitReset_windows {d : Nat} (h : d ∈ (s.ldr.edges.filter (·.1 == c)).map (·.2.1)) : (c, d, false) ∈ (unitReset c s).windows :=
  List.mem_append_right _ (List.mem_map.mpr ⟨d, List.mem_eraseDups.mpr h, rfl⟩)

/-- Unit `c` is taped off with level `lvl` by event `ev`; its taping is counted. -/
def State.tapingNoted (c ev lvl : Nat) (s : State) : State :=
  (s.setUnit c { s.unit c with lastEvent := ev, lastLevel := lvl, permanent := (s.unit c).permanent || unitKind c == 6 }).inc R.FLT_TAPINGS

theorem tapedNow_cvu {ev lvl : Nat} (hc : c / 0x1000 = 10) (he : ev ≠ 0x7FF) (hh : s.flag R.FLT_NOTIFY_HAWK_EN = false)
    (hf : min 4 lvl < s.rd R.FLT_NOTIFY_FWD_SEV) : tapedNow [c] ev lvl false false s = unitReset c (s.tapingNoted c ev lvl) := by
  have hn (kind time : Nat) : faultNote kind lvl ev time (s.tapingNoted c ev lvl) = s.tapingNoted c ev lvl :=
    faultNote_silent (s := s.tapingNoted c ev lvl) he hh hf kind time
  have hu (t : State) : unitTapeOff c t = t := by
    unfold unitTapeOff unitKind
    rw [hc]
    rfl
  show (unitReset c ((s.tapingNoted c ev lvl).when (ev != 0x7FF) (faultNote 2 lvl ev (s.tapingNoted c ev lvl).now))).when true (unitTapeOff c) = _
  rw [State.when, if_pos rfl, hu, bne_iff_ne.mpr he, State.when, if_pos rfl, hn]

theorem tapingNoted_unit {ev lvl : Nat} (hc : c / 0x1000 = 10) :
    (s.tapingNoted c ev lvl).unit c = { s.unit c with lastEvent := ev, lastLevel := lvl } := by
  unfold State.tapingNoted unitKind
  rw [hc, State.inc_unitOf, State.unit_set_same]
  simp

end

/-- Settles O34. -/
theorem recoveryAndTaping : Obligations.RecoveryAndTaping := by
  refine ⟨fun s c ha => ⟨fun h => act_of_eq ha (quietExpiry_own_none h), fun h => act_of_eq ha (quietExpiry_anchored_none h),
    fun x h hx => act_of_eq ha ((quietExpiry_own h).trans (if_pos (by simpa using hx))),
    fun x h hh hp => act_of_eq ha ((quietExpiry_own h).trans (if_neg (by simp [hh, hp]))),
    fun x ms h => act_of_eq ha (quietExpiry_anchored h), act_awake ha (unitResetDone c), fun d h => act_of_eq ha (windowEnd_closed h),
    fun d h => act_of_eq ha (windowEnd_open h), fun d h hq => act_of_eq ha (windowEnd_quiet h hq)⟩, ?_⟩
  intro s c ev lvl hc he hh hf t
  have ht : t = unitReset c (s.tapingNoted c ev lvl) := tapedNow_cvu hc he hh hf
  rw [ht, unitReset_unit, tapingNoted_unit hc]
  exact ⟨rfl, rfl, fun d hd => unitReset_windows hd, rfl, rfl⟩

end Sys2Proof.Machine
end

section
/-! PROOF. The other paths (O47): the management port, SMBus, the mailbox and access time-outs. -/

namespace Sys2Proof.Machine

section
variable {s : State}

/-! ### Management requests (R321, R563) -/

/-- The frame `f` is one for the device on its management port. -/
def State.mgeMine (s : State) (f : RxFrame) : Prop :=
  f.bad = false ∧ s.flag R.GLB_MGE_CTRL_EN = true ∧ s.flag R.GLB_MGE_CTRL_LINK = true ∧
    beAt f.bytes 0 6 = 2 ^ 32 * s.rd R.GLB_MGE_MAC_HI_MAC + s.rd R.GLB_MGE_MAC_LO

theorem mgeFxt_none {f : RxFrame} (h : ¬ s.mgeMine f) : s.mgeFxt f = none := by
  unfold State.mgeMine at h
  unfold State.mgeFxt
  refine if_neg fun h' => h ?_
  simp only [Bool.and_eq_true, Bool.not_eq_true', beq_iff_eq] at h'
  obtain ⟨⟨⟨⟨hb, he⟩, hl⟩, hm⟩, -⟩ := h'
  exact ⟨hb, he, hl, hm⟩

theorem mgeFxt_untagged {f : RxFrame} (h : s.mgeMine f) (ht : beAt f.bytes 12 2 = s.rd R.GLB_MGE_CTRL_ETHERTYPE) (hq : beAt f.bytes 12 2 ≠ 0x8100) :
    s.mgeFxt f = some (slice f.bytes 6 6, (f.bytes.drop 14).take (36 + beAt (f.bytes.drop 14) 10 2)) := by
  obtain ⟨hb, he, hl, hm⟩ := h
  unfold State.mgeFxt
  dsimp only
  rw [if_neg hq]
  refine if_pos ?_
  simp only [hb, he, hl, hm, ht, beq_self_eq_true, Bool.not_false, Bool.and_self, Nat.add_zero]

theorem mgeReceived_foreign {f : RxFrame} (h : s.mgeFxt f = none) : mgeReceived f s = s := by
  unfold mgeReceived
  rw [h]

theorem mgeReceived_unsound {f : RxFrame} {src q : List Byte} (h : s.mgeFxt f = some (src, q)) (hq : mgmtFrame q = none) :
    mgeReceived f s = if fxtType q = 0x10 then s.inc R.FXT_RX_ERR else s := by
  unfold mgeReceived
  rw [h]
  dsimp only
  rw [hq]
  exact ite_not ..

theorem mgmtFrame_type {q : List Byte} {ops : List MgmtOp} (h : mgmtFrame q = some ops) : fxtType q = 0x10 := by
  unfold mgmtFrame at h
  dsimp only at h
  split at h
  · next hq => exact hq.2.2.1
  · cases h

theorem mgeReceived_sound {f : RxFrame} {src q : List Byte} {ops : List MgmtOp} (h : s.mgeFxt f = some (src, q)) (hq : mgmtFrame q = some ops) :
    mgeReceived f s = if 4 ≤ (s.io.reqs.filter (·.path == .mge)).length then s.inc R.FXT_RX_BUSY else mgmtTake .mge 0 src q ops s := by
  unfold mgeReceived
  rw [h]
  dsimp only
  rw [if_neg (not_not_intro (mgmtFrame_type hq)), hq]

theorem State.answer_same (p : Path) (st d : Nat) : (s.answer p st d).answerOf p = some (st, d) := Tab.get_set_same

theorem regRead_misaligned {a : Nat} (p : Path) (h : a % 4 ≠ 0) : regRead a p s = s.answer p 2 0 := by
  have hst : s.accessStatus p false a = 2 := if_pos h
  rw [regRead_failed (by rw [hst]; decide), hst]

/-- The entry of a failed read of address 1. -/
theorem mgmtEntry_misaligned {p : Path} (d : Nat) (h : s.answerOf p = some (2, 0)) :
    mgmtEntry p ⟨1, 1, d⟩ s = ([1, 2, 0, 0, 0, 0, 0, 1, 0, 0, 0, 0], true, s) := by
  unfold mgmtEntry
  rw [h]
  dsimp only [Option.getD_some]
  have he : MgmtOp.entry ⟨1, 1, d⟩ 2 0 = [1, 2, 0, 0, 0, 0, 0, 1, 0, 0, 0, 0] := (by decide +kernel :
    [byte 1, byte 2, 0, 0] ++ beBytes 4 1 ++ beBytes 4 0 = ([1, 2, 0, 0, 0, 0, 0, 1, 0, 0, 0, 0] : List Byte))
  rw [if_pos (by decide), mgmtUndone, if_pos rfl, he]

theorem mgmtServe_misaligned (p : Path) (d : Nat) :
    mgmtServe p [⟨1, 1, d⟩] false s = ([], [1, 2, 0, 0, 0, 0, 0, 1, 0, 0, 0, 0], true, s.answer p 2 0) := by
  have ha : (s.answer p 2 0).answerOf p = some (2, 0) := State.answer_same p 2 0
  unfold mgmtServe
  dsimp only
  rw [if_neg (by decide), if_pos rfl, regRead_misaligned p (by decide), ha, if_neg (by decide), mgmtEntry_misaligned d ha]
  rfl

/-- The request `q` joins those held, and is counted. -/
def State.requested (q : MgmtReq) (s : State) : State :=
  { s.inc R.FXT_RX_MGMT with io := { s.io with reqs := s.io.reqs ++ [q] } }

theorem run_misaligned {q : MgmtReq} {d : Nat} (hl : q.left = [⟨1, 1, d⟩]) (hw : q.waits = false) (hf : q.failed = false) :
    q.run s = ({ q with left := [], done := q.done ++ [] ++ [1, 2, 0, 0, 0, 0, 0, 1, 0, 0, 0, 0], failed := true, waits := false },
      s.answer q.path 2 0) := by
  unfold MgmtReq.run
  rw [hl, hw, hf]
  dsimp only
  rw [mgmtServe_misaligned]
  rfl

/-- A request in the frame `f` of `mac` to read the misaligned address 1. -/
def misRead (mac f : List Byte) (time d : Nat) : MgmtReq := ⟨.mge, 0, mac, time, slice f 4 4, 1, [⟨1, 1, d⟩], [], false, false⟩

/-- The same request, answered. -/
def misDone (mac f : List Byte) (time : Nat) : MgmtReq :=
  ⟨.mge, 0, mac, time, slice f 4 4, 1, [], [1, 2, 0, 0, 0, 0, 0, 1, 0, 0, 0, 0], true, false⟩

theorem mgmtTake_misaligned (mac f : List Byte) (d : Nat) (h : s.io.reqs = []) : mgmtTake .mge 0 mac f [⟨1, 1, d⟩] s =
    mgmtReply (misDone mac f s.now)
      (setReq .mge none ((s.requested (misRead mac f s.now d)).answer .mge 2 0)) := by
  have hq : (s.requested (misRead mac f s.now d)).io.reqs.find? (·.path == .mge) = some (misRead mac f s.now d) := by
    unfold State.requested
    dsimp only
    rw [h]
    rfl
  show mgmtRun .mge (s.io.reqs.length + 1) (s.requested (misRead mac f s.now d)) = _
  rw [h]
  unfold mgmtRun
  rw [hq]
  dsimp only
  rw [if_neg (by simp [misRead]), run_misaligned rfl rfl rfl]
  rfl

theorem mgmtReply_mge {q : MgmtReq} (h : q.path = .mge) : (mgmtReply q s).io.mgeOut = some (q.mac, q.seq ++ beBytes 2 q.nops ++ [0, 0] ++ q.done) ∧
    (mgmtReply q s).cnt = s.cnt := by
  unfold mgmtReply
  rw [if_pos h]
  exact ⟨rfl, rfl⟩

/-! ### SMBus (R564) -/

theorem regAt_id : decodeAddr 0 = .reg .glb 0 ∧ findReg .glb 0 = some ⟨⟨.GLB_ID, 0x0, [], 0, [⟨16, 16, .ro, 0x4192⟩, ⟨0, 4, .ro, 0⟩]⟩, .glb, 0, []⟩ ∧
    winOf 0 = some .glb := by
  decide +kernel

theorem accessStatus_id (ha : s.asleep = false) : s.accessStatus .smbus false 0 = 0 := by
  obtain ⟨hd, -, hw⟩ := regAt_id
  obtain ⟨-, -, hp⟩ := asleep_false_iff.mp ha
  unfold State.accessStatus
  rw [if_neg (by decide), if_neg (by rw [hd]; nofun), if_neg, if_neg]
  · simp [State.denied, smbDenied, hw]
  · simp [State.unavailable, hw, hp]

theorem regRead_id (ha : s.asleep = false) (hf : s.io.frozen = []) : regRead 0 .smbus s = s.answer .smbus 0
    (s.rd (.at .glb 0 16 16 0x4192) * 2 ^ 16 + s.rd (.at .glb 0 0 4 0) + Config.stepping % 16) := by
  obtain ⟨hd, hr, -⟩ := regAt_id
  have hw : regFetch 0 ⟨⟨.GLB_ID, 0x0, [], 0, [⟨16, 16, .ro, 0x4192⟩, ⟨0, 4, .ro, 0⟩]⟩, .glb, 0, []⟩ s =
      (s.rd (.at .glb 0 16 16 0x4192) * 2 ^ 16 + (s.rd (.at .glb 0 0 4 0) * 2 ^ 0 + 0) + Config.stepping % 16, s) := by
    unfold regFetch
    rw [hf]
    rfl
  unfold regRead
  dsimp only
  rw [accessStatus_id ha, if_neg (by decide)]
  unfold readServe
  rw [hd]
  dsimp only
  rw [hr]
  dsimp only
  rw [hw, Nat.pow_zero, Nat.mul_one, Nat.add_zero]

/-- The last SMBus command was taken. -/
def State.smbAcked (s : State) : State := { s with io := { s.io with smbNack := false } }

/-! ### The mailbox (R565, R570) -/

/-- The mailbox command `cmd` with the arguments `args` is in its registers. -/
def State.posted (cmd : Nat) (args : List Nat) (s : State) : State :=
  (s.forAll (List.range args.length) (fun i t => t.wr (R.GLB_MBX_ARG i) (args.getD i 0))).wr R.GLB_MBX_CMD_CMD cmd

theorem posted_rest (cmd : Nat) (args : List Nat) : s.posted cmd args = { s with regs := (s.posted cmd args).regs } := by
  have h := State.forAll_induct (P := fun t => t = { s with regs := t.regs })
    (f := fun i t => t.wr (R.GLB_MBX_ARG i) (args.getD i 0)) (fun i t h => by rw [h]; rfl) (List.range args.length) s rfl
  unfold State.posted
  rw [h]
  rfl

theorem posted_busy (cmd : Nat) {args : List Nat} (h : args.length ≤ 4) :
    (s.posted cmd args).flag R.GLB_MBX_STAT_BUSY = s.flag R.GLB_MBX_STAT_BUSY := by
  have hr (l : List Nat) (hl : ∀ i ∈ l, i < 4) (u : State) :
      (u.forAll l (fun i t => t.wr (R.GLB_MBX_ARG i) (args.getD i 0))).rd R.GLB_MBX_STAT_BUSY = u.rd R.GLB_MBX_STAT_BUSY := by
    induction l generalizing u with
    | nil => rfl
    | cons i l ih =>
      have hi := hl i (List.mem_cons_self ..)
      exact (ih (fun j hj => hl j (List.mem_cons_of_mem _ hj)) _).trans
        (State.rd_wr_key _ _ (by show (32 * 0x414 + 31 : Nat) ≠ 32 * (0x404 + i * 0x4) + 0; omega))
  rw [State.flag_eq, State.flag_eq, State.posted, State.rd_wr_key _ _ (by decide),
    hr _ fun i hi => Nat.lt_of_lt_of_le (List.mem_range.mp hi) h]

/-- The firmware has been given the mailbox command. -/
def State.mailed (s : State) : State :=
  { s.wr R.GLB_MBX_STAT_BUSY 1 with
    io := { s.io with mailbox := some (s.rd R.GLB_MBX_CMD_CMD, (List.range 4).map (fun i => s.rd (R.GLB_MBX_ARG i))) } }

theorem mailboxWrite_free (cmd : Nat) {args : List Nat} (h : args.length ≤ 4) (hb : s.flag R.GLB_MBX_STAT_BUSY = false) :
    mailboxWrite cmd args s = (s.posted cmd args).mailed := by
  show mailboxGo (s.posted cmd args) = _
  rw [mailboxGo, posted_busy cmd h, hb]
  rfl

theorem mailboxWrite_busy (cmd : Nat) {args : List Nat} (h : args.length ≤ 4) (hb : s.flag R.GLB_MBX_STAT_BUSY = true) :
    mailboxWrite cmd args s = (s.posted cmd args).wr R.GLB_MBX_STAT_REFUSED 1 := by
  show mailboxGo (s.posted cmd args) = _
  rw [mailboxGo, posted_busy cmd h, hb]
  rfl

theorem mailed_effects (cmd : Nat) (args : List Nat) : (s.posted cmd args).mailed.rd R.GLB_MBX_STAT_BUSY = 1 ∧
    (s.posted cmd args).mailed.cnt = s.cnt ∧ (s.posted cmd args).mailed.raised = s.raised := by
  refine ⟨State.rd_wr_lt _ (f := R.GLB_MBX_STAT_BUSY) (by decide), ?_, ?_⟩
  · have h := congrArg State.cnt (posted_rest (s := s) cmd args)
    exact h
  · have h := congrArg State.raised (posted_rest (s := s) cmd args)
    exact h

theorem mailed_mailbox : s.mailed.io.mailbox = some (s.rd R.GLB_MBX_CMD_CMD, (List.range 4).map (fun i => s.rd (R.GLB_MBX_ARG i))) := rfl

theorem posted_cmd {cmd : Nat} (args : List Nat) (h : cmd < 2 ^ 16) : (s.posted cmd args).rd R.GLB_MBX_CMD_CMD = cmd :=
  State.rd_wr_lt _ (f := R.GLB_MBX_CMD_CMD) h

theorem posted_one (cmd : Nat) (v : Word) : (s.posted cmd [v.toNat]).rd (R.GLB_MBX_ARG 0) = v.toNat :=
  (State.rd_wr_key _ _ (by decide)).trans (State.rd_wr_lt _ (f := R.GLB_MBX_ARG 0) v.isLt)

theorem posted_three (cmd : Nat) (v w d : Word) : (s.posted cmd [v.toNat, w.toNat, d.toNat]).rd (R.GLB_MBX_ARG 0) = v.toNat ∧
    (s.posted cmd [v.toNat, w.toNat, d.toNat]).rd (R.GLB_MBX_ARG 1) = w.toNat ∧
    (s.posted cmd [v.toNat, w.toNat, d.toNat]).rd (R.GLB_MBX_ARG 2) = d.toNat := by
  have h : s.posted cmd [v.toNat, w.toNat, d.toNat] = (((s.wr (R.GLB_MBX_ARG 0) v.toNat).wr (R.GLB_MBX_ARG 1) w.toNat).wr
    (R.GLB_MBX_ARG 2) d.toNat).wr R.GLB_MBX_CMD_CMD cmd := rfl
  rw [h]
  refine ⟨?_, ?_, ?_⟩
  · rw [State.rd_wr_key _ _ (by decide), State.rd_wr_key _ _ (by decide), State.rd_wr_key _ _ (by decide)]
    exact State.rd_wr_lt _ (f := R.GLB_MBX_ARG 0) v.isLt
  · rw [State.rd_wr_key _ _ (by decide), State.rd_wr_key _ _ (by decide)]
    exact State.rd_wr_lt _ (f := R.GLB_MBX_ARG 1) w.isLt
  · rw [State.rd_wr_key _ _ (by decide)]
    exact State.rd_wr_lt _ (f := R.GLB_MBX_ARG 2) d.isLt

/-! ### The end of a mailbox command -/

/-- The firmware shows RESULT `res` and raises its interrupt. -/
def State.unmailed (res : Nat) (s : State) : State :=
  { ((s.wr R.GLB_MBX_STAT_BUSY 0).wr R.GLB_MBX_STAT_RESULT res).wr R.GLB_IRQ_STAT_MBX 1 with io := { s.io with mailbox := none } }

/-- RSP word `i` of a response `rsp`; a free value when it gives none. -/
def rspWord (rsp : List Nat) (i : Nat) (t : State) : State :=
  match rsp[i]? with
  | some v => t.wr (R.GLB_MBX_RSP i) v
  | none => let (v, t1) := t.draw (2 ^ 32); t1.wr (R.GLB_MBX_RSP i) v

theorem mailboxEnd_eq (res : Nat) (rsp : List Nat) : mailboxEnd res rsp s = (s.unmailed res).forAll (List.range 4) (rspWord rsp) := rfl

theorem rspWord_rest (rsp : List Nat) (i : Nat) (t : State) :
    rspWord rsp i t = { t with regs := (rspWord rsp i t).regs, draws := (rspWord rsp i t).draws } := by
  unfold rspWord
  split <;> rfl

theorem rspWord_rd (rsp : List Nat) {i : Nat} (t : State) {f : Fld} (h : f.key ≠ (R.GLB_MBX_RSP i).key) : (rspWord rsp i t).rd f = t.rd f := by
  unfold rspWord
  split
  · exact State.rd_wr_key _ _ h
  · exact State.rd_wr_key _ _ h

theorem mailboxEnd_rest (res : Nat) (rsp : List Nat) : mailboxEnd res rsp s =
    { s.unmailed res with regs := (mailboxEnd res rsp s).regs, draws := (mailboxEnd res rsp s).draws } := by
  rw [mailboxEnd_eq]
  exact State.forAll_induct (P := fun t => t = { s.unmailed res with regs := t.regs, draws := t.draws })
    (fun i t h => (rspWord_rest rsp i t).trans (congrArg (fun x : State => { x with regs := (rspWord rsp i t).regs, draws := (rspWord rsp i t).draws }) h))
    _ _ rfl

theorem mailboxEnd_rd (res : Nat) (rsp : List Nat) {f : Fld} (h : ∀ i, f.key ≠ (R.GLB_MBX_RSP i).key) :
    (mailboxEnd res rsp s).rd f = (s.unmailed res).rd f := by
  rw [mailboxEnd_eq]
  exact State.forAll_induct (P := fun t => t.rd f = (s.unmailed res).rd f) (fun i t ht => (rspWord_rd rsp t (h i)).trans ht) _ _ rfl

theorem unmailed_result {res : Nat} (h : res < 16) : (s.unmailed res).rd R.GLB_MBX_STAT_RESULT = res :=
  (State.rd_wr_key _ _ (by decide)).trans (State.rd_wr_lt _ (f := R.GLB_MBX_STAT_RESULT) h)

theorem mailboxEnd_result {res : Nat} (rsp : List Nat) (h : res < 16) : (mailboxEnd res rsp s).rd R.GLB_MBX_STAT_RESULT = res :=
  (mailboxEnd_rd res rsp fun i => by show (32 * 0x414 + 24 : Nat) ≠ 32 * (0x420 + i * 4) + 0; omega).trans (unmailed_result h)

theorem mailboxEnd_busy (res : Nat) (rsp : List Nat) : (mailboxEnd res rsp s).rd R.GLB_MBX_STAT_BUSY = 0 :=
  (mailboxEnd_rd res rsp fun i => by show (32 * 0x414 + 31 : Nat) ≠ 32 * (0x420 + i * 4) + 0; omega).trans
    ((State.rd_wr_key _ _ (by decide)).trans ((State.rd_wr_key _ _ (by decide)).trans (State.rd_wr_lt _ (f := R.GLB_MBX_STAT_BUSY) (by decide))))

theorem mailboxEnd_irq (res : Nat) (rsp : List Nat) : (mailboxEnd res rsp s).rd R.GLB_IRQ_STAT_MBX = 1 :=
  (mailboxEnd_rd res rsp fun i => by show (32 * 0x20 + 4 : Nat) ≠ 32 * (0x420 + i * 4) + 0; omega).trans
    (State.rd_wr_lt _ (f := R.GLB_IRQ_STAT_MBX) (by decide))

theorem mailboxEnd_mailbox (res : Nat) (rsp : List Nat) : (mailboxEnd res rsp s).io.mailbox = none := by
  rw [mailboxEnd_rest]
  rfl

theorem mailboxEnd_memory (res : Nat) (rsp : List Nat) : (mailboxEnd res rsp s).scratch = s.scratch ∧ (mailboxEnd res rsp s).mram = s.mram := by
  rw [mailboxEnd_rest]
  exact ⟨rfl, rfl⟩

theorem mailboxEnd_rsp (res v : Nat) (l : List Nat) : (mailboxEnd res (v :: l) s).rd (R.GLB_MBX_RSP 0) = v % 2 ^ 32 := by
  show (rspWord (v :: l) 3 (rspWord (v :: l) 2 (rspWord (v :: l) 1 (rspWord (v :: l) 0 (s.unmailed res))))).rd (R.GLB_MBX_RSP 0) = _
  rw [rspWord_rd _ _ (by decide), rspWord_rd _ _ (by decide), rspWord_rd _ _ (by decide)]
  exact State.rd_wr_same (s.unmailed res) (R.GLB_MBX_RSP 0) v

theorem mailboxDone_none (fail : Bool) (h : s.halted = true ∨ s.io.mailbox = none) : mailboxDone fail s = s := by
  unfold mailboxDone
  split
  · rename_i hm
    exact if_pos (h.resolve_right (by rw [hm]; nofun))
  · rfl

section
variable {m : Nat × List Nat} (h : s.io.mailbox = some m) (hh : s.halted = false)
include h hh

theorem mailboxDone_fails : mailboxDone true s = mailboxEnd 4 [] s := by
  unfold mailboxDone
  rw [h]
  dsimp only
  rw [hh]
  rfl

theorem mailboxDone_serves : mailboxDone false s = mailboxServe m.1 m.2 s := by
  unfold mailboxDone
  rw [h]
  dsimp only
  rw [hh]
  rfl

end

theorem mailboxServe_ping (v : Nat) (l : List Nat) : mailboxServe 1 (v :: l) s = mailboxEnd 1 [v ^^^ 0xFFFFFFFF] s := rfl

theorem mailboxServe_read (a n d : Nat) (l : List Nat) : mailboxServe 3 (a :: n :: d :: l) s =
    if mramReadBad a n d then mailboxEnd 3 [] s else mailboxEnd 1 [n] { s with scratch := memWrite s.scratch d (memRead s.mram a n) } := rfl

theorem mailboxServe_unknown {cmd : Nat} (args : List Nat) (h : 4 < cmd) : mailboxServe cmd args s = mailboxEnd 2 [] s := by
  unfold mailboxServe
  dsimp only
  split <;> first | omega | rfl

theorem mramReadBad_misaligned {a : Nat} (n d : Nat) (h : a % 64 ≠ 0) : mramReadBad a n d = true := by
  simp [mramReadBad, h]

/-! ### Time-outs (R558) -/

theorem accessTimeout_answered {p : Path} (h : (s.answerOf p).isSome = true) : accessTimeout p s = s := by
  obtain ⟨x, hx⟩ := Option.isSome_iff_exists.mp h
  unfold accessTimeout
  rw [hx]
  cases p <;> rfl

theorem accessTimeout_stalled {p : Path} (h : s.answerOf p = none) (hd : p ≠ .debug) (hm : p ≠ .dma) :
    accessTimeout p s = (hawkForsake p s).answer p 5 0 := by
  unfold accessTimeout
  rw [h]
  cases p <;> first | rfl | contradiction

theorem Tab.get_of_not_mem {α : Type} {d : α} {a : Nat} : ∀ {t : Tab α}, a ∉ t.map (·.1) → t.get d a = d
  | [], _ => rfl
  | (k, v) :: t, h => by
    rw [List.map_cons, List.mem_cons, not_or] at h
    rw [Tab.get_tail d v t (Ne.symm h.1)]
    exact Tab.get_of_not_mem h.2

/-- Path `p` waits for no answer of queue `q`. -/
def forsakeQueue (p : Path) (q : Nat) (t : State) : State :=
  t.setHq q { t.hq q with stalled := (t.hq q).stalled.filter (·.1 != p) }

theorem forsakeQueue_hq (p : Path) (i q : Nat) : (forsakeQueue p i s).hq q =
    if q = i then { s.hq q with stalled := (s.hq q).stalled.filter (·.1 != p) } else s.hq q := by
  unfold forsakeQueue
  split
  · next h =>
    subst h
    exact State.hq_set_same ..
  · next h => exact State.hq_set_other _ _ h

/-- Path `p` waits for nothing of queue `q` in state `t`. -/
def State.forsaken (p : Path) (q : Nat) (t : State) : Prop := ∀ y ∈ (t.hq q).stalled, y.1 ≠ p

theorem forsakeQueue_forsaken {p : Path} {q : Nat} (i : Nat) (h : s.forsaken p q ∨ i = q) : (forsakeQueue p i s).forsaken p q := by
  intro y hy
  rw [forsakeQueue_hq] at hy
  split at hy
  · exact bne_iff_ne.mp (List.mem_filter.mp hy).2
  · next hn => exact h.elim (· y hy) (absurd ·.symm hn)

theorem forsakeQueues_forsaken {p : Path} {q : Nat} : ∀ {l : List Nat} {s : State}, (s.forsaken p q ∨ q ∈ l) →
    (s.forAll l (forsakeQueue p)).forsaken p q
  | [], _, h => h.resolve_right List.not_mem_nil
  | i :: l, s, h => by
    refine forsakeQueues_forsaken (s := forsakeQueue p i s) ?_
    rcases h with h | h
    · exact .inl (forsakeQueue_forsaken i (.inl h))
    · exact (List.mem_cons.mp h).imp (fun h => forsakeQueue_forsaken i (.inr h.symm)) id

theorem hawkForsake_items (p : Path) (q : Nat) : ((hawkForsake p s).hq q).items = (s.hq q).items := by
  refine State.forAll_induct (P := fun t => (t.hq q).items = (s.hq q).items) (f := forsakeQueue p) (fun i t h => ?_) _ _ rfl
  rw [forsakeQueue_hq]
  split <;> exact h

theorem hawkForsake_forsaken (p : Path) (q : Nat) : (hawkForsake p s).forsaken p q := by
  refine forsakeQueues_forsaken ?_
  by_cases h : q ∈ s.hawk.map (·.1)
  · exact .inr h
  · refine .inl fun y hy => ?_
    have hi : s.hq q = HawkQ.init := Tab.get_of_not_mem h
    rw [hi] at hy
    cases hy

end

/-- Settles O47. -/
theorem pathCommands : Obligations.PathCommands := by
  intro s ha
  refine ⟨fun f b h => act_of_eq ha (mgeReceived_foreign (mgeFxt_none fun hm => ?foreign)), fun f b src q h hq => act_of_eq ha (mgeReceived_unsound h hq),
    fun f b src q d h hq hr => ?misaligned, fun f b src q ops h hq => act_of_eq ha (mgeReceived_sound h hq), act_awake ha (mgeLink true),
    act_awake ha (mgeLink false), fun a => act_awake ha (smbPointer a.toNat), fun h => act_of_eq ha (f := smbRead) (regRead_misaligned .smbus h),
    fun hp hf => ?ident, act_awake ha smbBad, fun v hb => act_of_eq ha ((mailboxWrite_busy 1 (args := [v.toNat]) (by simp) hb).trans rfl), fun v w d c hb => ?posts,
    fun m h hh => ?fails, fun v l h hh => ?ping, fun a n d l h hh hg => ?read, fun a n d l h hh hg => ?refused, fun m h h4 hh => ?unknown,
    fun b h => act_of_eq ha (mailboxDone_none b h), fun p h => act_of_eq ha (accessTimeout_answered h),
    fun h => act_awake ha smbRead, fun p h hd hm => ?stalled, fun f he hl hm ht hq hn hx => ?sound⟩
  case foreign =>
    obtain ⟨hb, he, hl, hm⟩ := hm
    simp [show b = false from hb, he, hl, hm] at h
  case misaligned =>
    have he : mgeReceived ⟨f, b⟩ s = mgmtTake .mge 0 src q [⟨1, 1, d⟩] s := (mgeReceived_sound h hq).trans (if_neg (by rw [hr]; decide))
    obtain ⟨hout, hcnt⟩ := mgmtReply_mge (s := setReq .mge none ((s.requested (misRead src q s.now d)).answer .mge 2 0))
      (q := misDone src q s.now) rfl
    refine ⟨_, act_of_eq ha (he.trans (mgmtTake_misaligned src q d hr)), hout.trans ?_, hcnt⟩
    have hb : beBytes 2 1 = [0, 1] := by decide +kernel
    show some (src, slice q 4 4 ++ beBytes 2 1 ++ [0, 0] ++ [1, 2, 0, 0, 0, 0, 0, 1, 0, 0, 0, 0]) = _
    rw [hb]
    simp only [List.append_assoc, List.cons_append, List.nil_append]
  case ident =>
    have h : smbRead s = regRead 0 .smbus s.smbAcked := congrArg (regRead · .smbus s.smbAcked) hp
    rw [regRead_id (s := s.smbAcked) ha hf] at h
    exact ⟨_, act_of_eq ha h, rfl, State.answer_same ..⟩
  case posts =>
    refine ⟨_, _, _, _, _, act_of_eq ha (mailboxWrite_free 1 (args := [v.toNat]) (by simp) hb), act_of_eq ha (mailboxWrite_free 2 (args := []) (by decide) hb),
      act_of_eq ha (mailboxWrite_free 3 (args := [v.toNat, w.toNat, d.toNat]) (by simp) hb), act_of_eq ha (mailboxWrite_free 4 (args := []) (by decide) hb),
      act_of_eq ha (mailboxWrite_free c.toNat (args := []) (by decide) hb), ?_, ?_, ?_, ?_, ?_, ?_⟩
    · simp only [List.forall_mem_cons, mailed_effects, List.not_mem_nil, false_imp_iff, implies_true, and_self]
    · rw [mailed_mailbox, posted_cmd _ (by decide)]
      exact congrArg (fun x => some (1, [x])) (posted_one 1 v)
    · rw [mailed_mailbox, posted_cmd _ (by decide)]
      rfl
    · obtain ⟨h0, h1, h2⟩ := posted_three (s := s) 3 v w d
      rw [mailed_mailbox, posted_cmd _ (by decide)]
      have hwords := List.cons_eq_cons.mpr ⟨h0, List.cons_eq_cons.mpr ⟨h1, List.cons_eq_cons.mpr ⟨h2, Eq.refl ([] : List Nat)⟩⟩⟩
      exact congrArg (fun args => some (3, args)) hwords
    · rw [mailed_mailbox, posted_cmd _ (by decide)]
      rfl
    · rw [mailed_mailbox, posted_cmd _ c.isLt]
      rfl
  case fails =>
    exact ⟨_, act_of_eq ha (mailboxDone_fails h hh), mailboxEnd_mailbox .., mailboxEnd_busy .., mailboxEnd_result _ (by decide), mailboxEnd_irq ..⟩
  case ping =>
    exact ⟨_, act_of_eq ha ((mailboxDone_serves h hh).trans (mailboxServe_ping v l)), mailboxEnd_result _ (by decide), mailboxEnd_rsp ..⟩
  case read =>
    obtain ⟨hs, hm⟩ := mailboxEnd_memory (s := { s with scratch := memWrite s.scratch d (memRead s.mram a n) }) 1 [n]
    refine ⟨_, act_of_eq ha ((mailboxDone_serves h hh).trans ((mailboxServe_read a n d l).trans (if_neg (by rw [hg]; nofun)))),
      mailboxEnd_result _ (by decide), hs, hm⟩
  case refused =>
    exact ⟨_, act_of_eq ha ((mailboxDone_serves h hh).trans ((mailboxServe_read a n d l).trans (if_pos (mramReadBad_misaligned n d hg)))),
      mailboxEnd_result _ (by decide), (mailboxEnd_memory ..).1⟩
  case unknown =>
    exact ⟨_, act_of_eq ha ((mailboxDone_serves h hh).trans (mailboxServe_unknown m.2 h4)), mailboxEnd_result _ (by decide)⟩
  case stalled =>
    exact ⟨_, act_of_eq ha (accessTimeout_stalled h hd hm), State.answer_same .., (hawkForsake_frame s p).1,
      fun q => ⟨hawkForsake_items p q, hawkForsake_forsaken p q⟩⟩
  case sound =>
    have hf : s.mgeFxt ⟨f, false⟩ = _ := mgeFxt_untagged ⟨rfl, he, hl, hm⟩ ht hq
    exact act_of_eq ha ((mgeReceived_unsound hf hn).trans (if_pos hx))

end Sys2Proof.Machine
end

section
/-! PROOF. Table banks (O51). -/

namespace Sys2Proof.Machine

section
variable {s : State} {e : Nat}

/-! ### A line leaves its port (R146) -/

theorem lineDone_rowSide {l : RawLine} {rest : List RawLine} {n : Nat} (h : (s.port n).lines = l :: rest) :
    RowSide (s.setPort n { s.port n with lines := rest }) (lineDone n s) := by
  unfold lineDone
  rw [h]
  dsimp only
  have h0 := (RowSide.refl (s.setPort n { s.port n with lines := rest })).renderLine n l
  exact RowSide.ite (fun _ => h0.forAll (fun i u hu => hu.skimTap i _ _ _) _) (fun _ => h0)

theorem lineDone_effects {l : RawLine} {rest : List RawLine} {n : Nat} (h : (s.port n).lines = l :: rest) :
    (lineDone n s).port n = { s.port n with lines := rest } ∧ (lineDone n s).raised = s.raised ∧ (lineDone n s).mram = s.mram ∧
    (lineDone n s).hawk = s.hawk := by
  have hr := (lineDone_rowSide h).rest
  refine ⟨?_, by rw [hr]; rfl, by rw [hr]; rfl, by rw [hr]; rfl⟩
  have hp : (lineDone n s).ports = (s.setPort n { s.port n with lines := rest }).ports := by rw [hr]
  exact (congrArg (Tab.get Port.init · n) hp).trans (State.port_set_same ..)

/-! ### Active and shadow bank (R147) -/

theorem Rnd.bank_setBank_same (r : Rnd) (i : Nat) (m : List Host.Cell) : (r.setBank i m).bank i = m := by
  unfold Rnd.setBank Rnd.bank
  split <;> rfl

theorem Rnd.bank_setBank_other (r : Rnd) {i j : Nat} (m : List Host.Cell) (h : (i = 0) ↔ (j ≠ 0)) : (r.setBank i m).bank j = r.bank j := by
  unfold Rnd.setBank Rnd.bank
  by_cases hi : i = 0
  · rw [if_pos hi, if_neg (h.mp hi), if_neg (h.mp hi)]
  · have hj : j = 0 := Decidable.of_not_not fun hj => hi (h.mpr hj)
    rw [if_neg hi, if_pos hj, if_pos hj]

theorem setShadow_rnd (m : List Host.Cell) : (setShadow e m s).rnd e = (s.rnd e).setBank (1 - s.active e) m := State.rnd_set_same ..

theorem setShadow_shadow (m : List Host.Cell) : (setShadow e m s).shadowBank e = m := by
  show ((setShadow e m s).rnd e).bank (1 - s.active e) = m
  rw [setShadow_rnd, Rnd.bank_setBank_same]

theorem setShadow_active (m : List Host.Cell) : (setShadow e m s).activeBank e = s.activeBank e := by
  show ((setShadow e m s).rnd e).bank (s.active e) = (s.rnd e).bank (s.active e)
  rw [setShadow_rnd, Rnd.bank_setBank_other]
  omega

/-! ### Validation (R150, R151) -/

theorem bankError_lt (m : List Host.Cell) (sh : Shape) : bankError m sh < 16 := by
  unfold bankError
  repeat' split
  all_goals decide

/-- Validation of the shadow bank of engine `e` has ended with result `err`. -/
def State.validated (e err : Nat) (s : State) : State :=
  ((s.wr (R.RND_BANK_STAT_VALIDATING e) 0).wr (R.RND_BANK_STAT_TBL_ERR e) err).setRnd e { s.rnd e with cancel := false, want := none }

theorem validated_rd (err : Nat) {f : Fld} (h1 : f.key ≠ (R.RND_BANK_STAT_VALIDATING e).key) (h2 : f.key ≠ (R.RND_BANK_STAT_TBL_ERR e).key) :
    (s.validated e err).rd f = s.rd f := by
  rw [State.validated, State.setRnd_rd, State.rd_wr_key _ _ h2, State.rd_wr_key _ _ h1]

theorem validated_validating (err : Nat) : (s.validated e err).rd (R.RND_BANK_STAT_VALIDATING e) = 0 := by
  rw [State.validated, State.setRnd_rd, State.rd_wr_key _ _ (by show (32 * _ + _ : Nat) ≠ 32 * _ + _; omega)]
  exact State.rd_wr_lt s (f := R.RND_BANK_STAT_VALIDATING e) (by decide : _ < 2 ^ 1)

theorem validated_error {err : Nat} (h : err < 16) : (s.validated e err).rd (R.RND_BANK_STAT_TBL_ERR e) = err := by
  rw [State.validated, State.setRnd_rd]
  exact State.rd_wr_lt _ (f := R.RND_BANK_STAT_TBL_ERR e) h

theorem validated_rnd (err : Nat) : (s.validated e err).rnd e = { s.rnd e with cancel := false, want := none } := State.rnd_set_same ..

theorem validated_active (err : Nat) : (s.validated e err).active e = s.active e :=
  validated_rd err (by show (32 * _ + _ : Nat) ≠ 32 * _ + _; omega) (by show (32 * _ + _ : Nat) ≠ 32 * _ + _; omega)

section
variable (hv : s.flag (R.RND_BANK_STAT_VALIDATING e) = true)
include hv

theorem validationDone_fails (h : bankError (s.shadowBank e) (s.shape e) ≠ 0 ∨ (s.rnd e).cancel = true ∨ s.flag (R.RND_STAT_SKIM_OWNS e) = true) :
    validationDone e s = s.validated e (bankError (s.shadowBank e) (s.shape e)) :=
  (if_pos hv).trans (if_pos h)

theorem validationDone_arms (h0 : bankError (s.shadowBank e) (s.shape e) = 0) (hc : (s.rnd e).cancel = false) (hw : (s.rnd e).want = none)
    (ho : s.flag (R.RND_STAT_SKIM_OWNS e) = false) : validationDone e s = (s.validated e 0).wr (R.RND_BANK_STAT_ARMED e) 1 := by
  unfold validationDone
  rw [if_pos hv]
  dsimp only
  rw [if_neg (by rw [h0, hc, ho]; simp), hw, h0]
  rfl

end

theorem validated_armed_effects (hc : (s.rnd e).cancel = false) (hw : (s.rnd e).want = none) :
    ((s.validated e 0).wr (R.RND_BANK_STAT_ARMED e) 1).rd (R.RND_BANK_STAT_ARMED e) = 1 ∧
    ((s.validated e 0).wr (R.RND_BANK_STAT_ARMED e) 1).rd (R.RND_BANK_STAT_VALIDATING e) = 0 ∧
    ((s.validated e 0).wr (R.RND_BANK_STAT_ARMED e) 1).rd (R.RND_BANK_STAT_TBL_ERR e) = 0 ∧
    ((s.validated e 0).wr (R.RND_BANK_STAT_ARMED e) 1).rnd e = s.rnd e := by
  refine ⟨State.rd_wr_lt _ (f := R.RND_BANK_STAT_ARMED e) (by decide : _ < 2 ^ 1), ?_, ?_, ?_⟩
  · rw [State.rd_wr_key _ _ (by show (32 * _ + _ : Nat) ≠ 32 * _ + _; omega), validated_validating]
  · rw [State.rd_wr_key _ _ (by show (32 * _ + _ : Nat) ≠ 32 * _ + _; omega), validated_error (by decide)]
  · rw [State.wr_rndOf, validated_rnd, ← hc, ← hw]

theorem validated_failed_effects {err : Nat} (h : err < 16) :
    (s.validated e err).rd (R.RND_BANK_STAT_ARMED e) = s.rd (R.RND_BANK_STAT_ARMED e) ∧
    (s.validated e err).rd (R.RND_BANK_STAT_VALIDATING e) = 0 ∧ (s.validated e err).rd (R.RND_BANK_STAT_TBL_ERR e) = err ∧
    (s.validated e err).activeBank e = s.activeBank e ∧ (s.validated e err).shadowBank e = s.shadowBank e := by
  refine ⟨validated_rd _ (by show (32 * _ + _ : Nat) ≠ 32 * _ + _; omega) (by show (32 * _ + _ : Nat) ≠ 32 * _ + _; omega),
    validated_validating err, validated_error h, ?_, ?_⟩
  · rw [State.activeBank, validated_active, validated_rnd]
    rfl
  · rw [State.shadowBank, validated_active, validated_rnd]
    rfl

/-! ### Copy-back (R153, R191) -/

/-- Copy-back of engine `e` has ended. -/
def State.copied (e : Nat) (s : State) : State :=
  (((setShadow e (s.activeBank e) s).setRnd e { (setShadow e (s.activeBank e) s).rnd e with swap := none }).wr
    (R.RND_BANK_STAT_COPYING e) 0).wr (R.RND_BANK_STAT_SCHEDULED e) 0

theorem copyBackDone_copying (h : s.flag (R.RND_BANK_STAT_COPYING e) = true) : copyBackDone e s = s.copied e := if_pos h

theorem copyBackDone_idle (h : s.flag (R.RND_BANK_STAT_COPYING e) = false) : copyBackDone e s = s := if_neg (by rw [h]; nofun)

theorem skimSwapDone_stranger (h : s.memberOfEngine e = none) : skimSwapDone e s = s := by
  unfold skimSwapDone
  rw [h]

theorem skimStop_none {g : Nat} (n : Nat) (h : (s.skimG g).stopAt = none) : skimStop g n s = s := by
  unfold skimStop
  rw [h]

theorem skimSwapDone_runs (h : ∀ g i, s.memberOfEngine e = some (g, i) → (s.skimG g).stopAt = none) :
    skimSwapDone e s = s ∨ ∃ g, skimSwapDone e s = s.wr (R.SEM_SKIM_STAT_SCHEDULED g) 0 := by
  unfold skimSwapDone
  split
  · next g i hm =>
    split
    · exact .inr ⟨g, skimStop_none _ (h g i hm)⟩
    · exact .inl rfl
  · exact .inl rfl

theorem copied_rd {f : Fld} (h : f.blk ≠ .rnd) : (s.copied e).rd f = s.rd f := by
  rw [State.copied, State.rd_wr_blk _ _ h, State.rd_wr_blk _ _ h]
  rfl

theorem copied_memberOfEngine : (s.copied e).memberOfEngine e = s.memberOfEngine e := by
  have h1 (i : Nat) := copied_rd (s := s) (e := e) (f := R.VSP_LANE_STAT_LANE i) nofun
  have h2 (i : Nat) := copied_rd (s := s) (e := e) (f := R.VSP_PORT_CFG_GROUP i) nofun
  have h3 (g : Nat) := copied_rd (s := s) (e := e) (f := R.SEM_CFG_NMEMB g) nofun
  have h4 (g i : Nat) := copied_rd (s := s) (e := e) (f := R.SEM_MEMB_PORT_PORT g i) nofun
  unfold State.memberOfEngine State.groupOf State.memberOf State.base State.nmemb State.membPort
  simp only [h1, h2, h3, h4]

theorem copied_rnd : (s.copied e).rnd e = { (s.rnd e).setBank (1 - s.active e) (s.activeBank e) with swap := none } := by
  rw [State.copied, State.wr_rndOf, State.wr_rndOf, State.rnd_set_same, setShadow_rnd]

theorem copied_active : (s.copied e).active e = s.active e := by
  rw [State.active, State.copied, State.rd_wr_key _ _ (by show (32 * _ + _ : Nat) ≠ 32 * _ + _; omega),
    State.rd_wr_key _ _ (by show (32 * _ + _ : Nat) ≠ 32 * _ + _; omega)]
  rfl

theorem copied_effects : (s.copied e).shadowBank e = s.activeBank e ∧ (s.copied e).activeBank e = s.activeBank e ∧
    (s.copied e).rd (R.RND_BANK_STAT_COPYING e) = 0 ∧ (s.copied e).rd (R.RND_BANK_STAT_SCHEDULED e) = 0 ∧ ((s.copied e).rnd e).swap = none := by
  refine ⟨?_, ?_, ?_, State.rd_wr_lt _ (f := R.RND_BANK_STAT_SCHEDULED e) (by decide : _ < 2 ^ 1), by rw [copied_rnd]⟩
  · rw [State.shadowBank, copied_active, copied_rnd]
    exact Rnd.bank_setBank_same ..
  · rw [State.activeBank, copied_active, copied_rnd]
    exact Rnd.bank_setBank_other _ _ (by omega)
  · rw [State.copied, State.rd_wr_key _ _ (by show (32 * _ + _ : Nat) ≠ 32 * _ + _; omega)]
    exact State.rd_wr_lt _ (f := R.RND_BANK_STAT_COPYING e) (by decide : _ < 2 ^ 1)

theorem wr_scheduled_rd (g : Nat) {f : Fld} (h : f.blk ≠ .sem) : (s.wr (R.SEM_SKIM_STAT_SCHEDULED g) 0).rd f = s.rd f :=
  State.rd_wr_blk _ _ h

theorem wr_scheduled_shadowBank (g : Nat) : (s.wr (R.SEM_SKIM_STAT_SCHEDULED g) 0).shadowBank e = s.shadowBank e := by
  rw [State.shadowBank, State.active, wr_scheduled_rd g (by intro h; cases h), State.wr_rndOf]
  rfl

theorem wr_scheduled_activeBank (g : Nat) : (s.wr (R.SEM_SKIM_STAT_SCHEDULED g) 0).activeBank e = s.activeBank e := by
  rw [State.activeBank, State.active, wr_scheduled_rd g (by intro h; cases h), State.wr_rndOf]
  rfl

theorem copyBackEnd_effects (hc : s.flag (R.RND_BANK_STAT_COPYING e) = true)
    (h : ∀ g i, s.memberOfEngine e = some (g, i) → (s.skimG g).stopAt = none) :
    (copyBackEnd e s).shadowBank e = s.activeBank e ∧ (copyBackEnd e s).activeBank e = s.activeBank e ∧
    (copyBackEnd e s).rd (R.RND_BANK_STAT_COPYING e) = 0 ∧ (copyBackEnd e s).rd (R.RND_BANK_STAT_SCHEDULED e) = 0 ∧
    ((copyBackEnd e s).rnd e).swap = none := by
  have hs : ∀ g i, (s.copied e).memberOfEngine e = some (g, i) → ((s.copied e).skimG g).stopAt = none := by
    rw [copied_memberOfEngine]
    exact h
  rw [copyBackEnd, copyBackDone_copying hc]
  rcases skimSwapDone_runs hs with he | ⟨g, he⟩
  · rw [he]
    exact copied_effects
  · rw [he, wr_scheduled_shadowBank, wr_scheduled_activeBank, wr_scheduled_rd g (by intro h; cases h), wr_scheduled_rd g (by intro h; cases h),
      State.wr_rndOf]
    exact copied_effects

theorem copyBackEnd_idle (hc : s.flag (R.RND_BANK_STAT_COPYING e) = false) (h : s.memberOfEngine e = none) : copyBackEnd e s = s := by
  rw [copyBackEnd, copyBackDone_idle hc, skimSwapDone_stranger h]

/-! ### Table windows (R154) -/

theorem tableWrite_refused {off : Nat} (v : Nat) (h : 32768 ≤ off ∨ s.shadowLocked e = true) : tableWrite e (4 * off) v s = bankWerr e s :=
  if_pos (h.imp_left fun h => by omega)

theorem tableWrite_outside {off : Nat} (v : Nat) (ho : off < 32768) (hl : s.shadowLocked e = false) (h : (s.shape e).lb ≤ 4 * off) :
    tableWrite e (4 * off) v s = s :=
  (if_neg fun h' => h'.elim (by omega) (by rw [hl]; nofun)).trans (if_pos (by omega))

theorem tableWrite_inside {off : Nat} (v : Nat) (ho : off < 32768) (hl : s.shadowLocked e = false) (h : 4 * off < (s.shape e).lb) :
    tableWrite e (4 * off) v s = setShadow e (memWrite (s.shadowBank e) (4 * off) (leBytes 4 v)) s := by
  have ha : 4 * off / 4 * 4 = 4 * off := by omega
  unfold tableWrite
  dsimp only
  rw [ha, if_neg fun h' => h'.elim (by omega) (by rw [hl]; nofun), if_neg (by omega)]

theorem shape_lb (s : State) (e : Nat) : (s.shape e).lb % 4 = 0 := by
  show (131072 - 512 * s.rd (R.RND_OUT_CFG_ALIGN_KIB e)) % 4 = 0
  omega

section
variable {off : Nat} (m : List Host.Cell)

theorem setShadow_tableByte (a : Nat) : (setShadow e m s).tableByte e a = if (s.shape e).lb ≤ a % 0x20000 then 0
    else Tab.get 0 (if a / 0x20000 % 2 = 0 then m else s.activeBank e) (a % 0x20000) := by
  unfold State.tableByte
  rw [setShadow_shadow, setShadow_active]
  rfl

theorem written_tableRead (v : Word) (ho : off < 32768) (h : 4 * off < (s.shape e).lb) :
    (setShadow e (memWrite m (4 * off) (leBytes 4 v.toNat)) s).tableRead e (4 * off) = v.toNat := by
  have hb : (List.range 4).map (fun i => (setShadow e (memWrite m (4 * off) (leBytes 4 v.toNat)) s).tableByte e (4 * off / 4 * 4 + i)) =
      leBytes 4 v.toNat := by
    have hr := memRead_memWrite m (4 * off) (leBytes 4 v.toNat)
    rw [leBytes_length] at hr
    rw [← hr]
    refine List.map_congr_left fun i hi => ?_
    have hl := shape_lb s e
    have hi := List.mem_range.mp hi
    have ha : (4 * off / 4 * 4 + i) = 4 * off + i := by omega
    rw [setShadow_tableByte, ha, Nat.mod_eq_of_lt (by omega), if_neg (by omega), if_pos (by omega)]
    rw [hr]
  rw [State.tableRead, hb, leNat_leBytes]
  exact Nat.mod_eq_of_lt v.isLt

theorem written_tableRead_other (v : Nat) {k : Nat} (ho : off < 32768) (hk : k < 65536) (hne : k ≠ off) :
    (setShadow e (memWrite (s.shadowBank e) (4 * off) (leBytes 4 v)) s).tableRead e (4 * k) = s.tableRead e (4 * k) := by
  unfold State.tableRead
  refine congrArg leNat (List.map_congr_left fun i hi => ?_)
  have hi := List.mem_range.mp hi
  rw [setShadow_tableByte, State.tableByte]
  split
  · rfl
  · split
    · exact memWrite_other _ _ (by rw [leBytes_length]; omega)
    · rfl

end

end

/-- Settles O51. -/
theorem bankCommands : Obligations.BankCommands := by
  intro s n ha
  refine ⟨fun h => act_of_eq ha (f := lineDone n) ?empty, fun l rest h => ⟨_, act_awake ha (lineDone n), lineDone_effects h⟩,
    fun h => act_of_eq ha (f := swapArm n) (if_pos h), fun h => act_of_eq ha (f := swapArm n) (if_neg (by rw [h]; nofun)),
    fun h => act_of_eq ha (f := validationDone n) (if_neg (by rw [h]; nofun)),
    fun hv h0 hc hw ho => ⟨_, act_of_eq ha (validationDone_arms hv h0 hc hw ho), validated_armed_effects hc hw⟩,
    fun hv h => ⟨_, act_of_eq ha (validationDone_fails hv h), validated_failed_effects (bankError_lt ..)⟩,
    fun h => act_of_eq ha (f := disarm n) (if_pos h), fun h => act_of_eq ha (f := disarm n) (if_neg (by rw [h]; nofun)),
    fun _ => act_awake ha (validationDone n), fun hc h => ⟨_, act_awake ha (copyBackEnd n), copyBackEnd_effects hc h⟩,
    fun hc h => act_of_eq ha (copyBackEnd_idle hc h), fun off v h => act_of_eq ha (tableWrite_refused v.toNat h),
    fun off v ho hl h => act_of_eq ha (tableWrite_outside v.toNat ho hl h),
    fun off v ho hl h => ⟨_, act_of_eq ha (tableWrite_inside v.toNat ho hl h), written_tableRead _ v ho h, setShadow_active _,
      fun k hk hne => written_tableRead_other v.toNat ho hk hne, rfl⟩⟩
  case empty => rw [lineDone, h]

end Sys2Proof.Machine
end

section
/-! PROOF. The collector and the register accesses leave Chalk time and the thermal state, writes of Chalk time, resets and P2 aside:
function after function, in the order of the model. -/

namespace Sys2Proof.Machine

/-- Chalk time and the thermal state. -/
def State.clocks (s : State) : Chalk × Thermal := (s.chalk, s.therm)

section
variable (s : State)

@[simp] theorem State.clocks_mk (regs cnt snap snapNext draws raised ruleTaped chalk tgs lanes ports hawk snags units windows commits seams
    rnds skims skimGs stns plbs ucls subs ptp hst replay mem stpPorts stpPipe stpTiles stpTaped dmaChs ldr mram dram scratch hostload boot
    pins therm power fuses sec fw tst io answers pending) :
    (State.mk regs cnt snap snapNext draws raised ruleTaped chalk tgs lanes ports hawk snags units windows commits seams rnds skims skimGs
      stns plbs ucls subs ptp hst replay mem stpPorts stpPipe stpTiles stpTaped dmaChs ldr mram dram scratch hostload boot pins therm power
      fuses sec fw tst io answers pending).clocks = (chalk, therm) := (rfl)

@[simp] theorem State.clocks_eta : (s.chalk, s.therm) = s.clocks := (rfl)
@[simp] theorem State.wr_clocks (f : Fld) (v : Nat) : (s.wr f v).clocks = s.clocks := (rfl)
@[simp] theorem State.inc_clocks (f : Fld) (k : Nat) : (s.inc f k).clocks = s.clocks := (rfl)
@[simp] theorem State.inc64_clocks (lo hi : Fld) (k : Nat) : (s.inc64 lo hi k).clocks = s.clocks := (rfl)
@[simp] theorem State.raise_clocks (e : Nat) : (s.raise e).clocks = s.clocks := (rfl)
@[simp] theorem State.draw_clocks (k : Nat) : (s.draw k).2.clocks = s.clocks := (rfl)
@[simp] theorem State.answer_clocks (p : Path) (st d : Nat) : (s.answer p st d).clocks = s.clocks := (rfl)
@[simp] theorem State.stall_clocks (p : Path) : (s.stall p).clocks = s.clocks := (rfl)
@[simp] theorem State.setLane_clocks (n : Nat) (x : Lane) : (s.setLane n x).clocks = s.clocks := (rfl)
@[simp] theorem State.setPort_clocks (n : Nat) (x : Port) : (s.setPort n x).clocks = s.clocks := (rfl)
@[simp] theorem State.setTg_clocks (n : Nat) (x : Tg) : (s.setTg n x).clocks = s.clocks := (rfl)
@[simp] theorem State.setHq_clocks (n : Nat) (x : HawkQ) : (s.setHq n x).clocks = s.clocks := (rfl)
@[simp] theorem State.setSnag_clocks (n : Nat) (x : Snag) : (s.setSnag n x).clocks = s.clocks := (rfl)
@[simp] theorem State.setUnit_clocks (n : Nat) (x : FUnit) : (s.setUnit n x).clocks = s.clocks := (rfl)
@[simp] theorem State.setSeam_clocks (n : Nat) (x : Seam) : (s.setSeam n x).clocks = s.clocks := (rfl)
@[simp] theorem State.setRnd_clocks (n : Nat) (x : Rnd) : (s.setRnd n x).clocks = s.clocks := (rfl)
@[simp] theorem State.setSkim_clocks (n : Nat) (x : SkimPort) : (s.setSkim n x).clocks = s.clocks := (rfl)
@[simp] theorem State.setSkimG_clocks (n : Nat) (x : SkimGrp) : (s.setSkimG n x).clocks = s.clocks := (rfl)
@[simp] theorem State.setStn_clocks (n : Nat) (x : Stn) : (s.setStn n x).clocks = s.clocks := (rfl)
@[simp] theorem State.setPlb_clocks (n : Nat) (x : Plb) : (s.setPlb n x).clocks = s.clocks := (rfl)
@[simp] theorem State.setUcl_clocks (n : Nat) (x : UClass) : (s.setUcl n x).clocks = s.clocks := (rfl)
@[simp] theorem State.setSub_clocks (n : Nat) (x : SubPort) : (s.setSub n x).clocks = s.clocks := (rfl)
@[simp] theorem State.setStpPort_clocks (n : Nat) (x : StpPort) : (s.setStpPort n x).clocks = s.clocks := (rfl)
@[simp] theorem State.setDmaCh_clocks (n : Nat) (x : DmaCh) : (s.setDmaCh n x).clocks = s.clocks := (rfl)
@[simp] theorem State.setTst_clocks (n : Nat) (x : TstLane) : (s.setTst n x).clocks = s.clocks := (rfl)
@[simp] theorem State.setCommit_clocks (n : Nat) (x : Option PendSet) : (s.setCommit n x).clocks = s.clocks := (rfl)

@[simp] theorem State.raiseIf_clocks (c : Bool) (e : Nat) : (s.raiseIf c e).clocks = s.clocks := by
  cases c <;> rfl

variable {s}

@[simp] theorem State.when_clocks {c : Bool} {f : State → State} (h : (f s).clocks = s.clocks) : (s.when c f).clocks = s.clocks := by
  cases c
  · rfl
  · exact h

@[simp] theorem State.foldl_clocks {α : Type} {f : State → α → State} (h : ∀ t x, (f t x).clocks = t.clocks) :
    ∀ (l : List α) (s : State), (l.foldl f s).clocks = s.clocks
  | [], _ => rfl
  | x :: l, s => (foldl_clocks h l (f s x)).trans (h s x)

@[simp] theorem State.forAll_clocks {f : Nat → State → State} (h : ∀ i t, (f i t).clocks = t.clocks) (l : List Nat) (s : State) :
    (s.forAll l f).clocks = s.clocks := State.foldl_clocks (fun t i => h i t) l s

@[simp] theorem iter_clocks {f : State → State} (h : ∀ t, (f t).clocks = t.clocks) : ∀ (k : Nat) (s : State), (iter f k s).clocks = s.clocks
  | 0, _ => rfl
  | k + 1, s => (iter_clocks h k (f s)).trans (h s)

@[simp] theorem State.drawBytes_clocks : ∀ (k : Nat) (s : State), (s.drawBytes k).2.clocks = s.clocks
  | 0, _ => rfl
  | k + 1, s => drawBytes_clocks k (s.draw 256).2

@[simp] theorem State.drawList_clocks (r : Nat) : ∀ (k : Nat) (s : State), (s.drawList r k).2.clocks = s.clocks
  | 0, _ => rfl
  | k + 1, s => drawList_clocks r k (s.draw r).2

end

/-! ### Pending sets -/

@[simp] theorem commitPut_clocks (g : Nat) (c : PendSet) (vals : List (Fld × Nat)) (s : State) :
    (commitPut g c vals s).clocks = s.clocks := by simp [commitPut]

/-! ### Hawk queues -/

@[simp] theorem hawkOverrun_clocks (q : Nat) (s : State) : (hawkOverrun q s).clocks = s.clocks := by simp [hawkOverrun]

@[simp] theorem hawkFlushEnd_clocks (q : Nat) (s : State) : (hawkFlushEnd q s).clocks = s.clocks := by
  unfold hawkFlushEnd
  dsimp only
  split <;> simp

@[simp] theorem hawkAnswer_clocks (q v : Nat) (s : State) : (hawkAnswer q v s).clocks = s.clocks := by simp [hawkAnswer]

@[simp] theorem hawkServe_clocks (q : Nat) (s : State) : (hawkServe q s).clocks = s.clocks := by
  unfold hawkServe
  dsimp only
  split <;> simp

@[simp] theorem hawkForsake_clocks (p : Path) (s : State) : (hawkForsake p s).clocks = s.clocks := by simp [hawkForsake]

@[simp] theorem hawkAccept_clocks (q prio : Nat) (words : List Nat) (flushed : Bool) (s : State) :
    (hawkAccept q prio words flushed s).clocks = s.clocks := by
  unfold hawkAccept
  dsimp only
  repeat' split
  all_goals simp

@[simp] theorem hawkPost_clocks (q prio : Nat) (words : List Nat) (s : State) : (hawkPost q prio words s).2.clocks = s.clocks := by
  unfold hawkPost
  dsimp only
  split <;> simp

@[simp] theorem hawkNote_clocks (en : Bool) (q prio : Nat) (words : List Nat) (lost : Fld) (s : State) :
    (hawkNote en q prio words lost s).clocks = s.clocks := by
  have h := hawkPost_clocks q prio words s
  unfold hawkNote
  split
  · split <;> simp_all
  · rfl

@[simp] theorem hawkWhdr_clocks (q v : Nat) (s : State) : (hawkWhdr q v s).clocks = s.clocks := by
  unfold hawkWhdr
  dsimp only
  repeat' split
  all_goals simp

@[simp] theorem hawkWdata_clocks (q v : Nat) (s : State) : (hawkWdata q v s).clocks = s.clocks := by
  unfold hawkWdata
  dsimp only
  repeat' split
  all_goals simp

@[simp] theorem hawkRhdr_clocks (q : Nat) (p : Path) (s : State) : (hawkRhdr q p s).clocks = s.clocks := by
  unfold hawkRhdr
  dsimp only
  repeat' split
  all_goals simp

@[simp] theorem hawkRdata_clocks (q : Nat) (p : Path) (flips : List Nat) (s : State) : (hawkRdata q p flips s).clocks = s.clocks := by
  unfold hawkRdata
  dsimp only
  repeat' split
  all_goals simp

@[simp] theorem hawkDropCur_clocks (q : Nat) (s : State) : (hawkDropCur q s).clocks = s.clocks := by
  unfold hawkDropCur
  dsimp only
  split <;> simp

@[simp] theorem hawkFlush_clocks (q : Nat) (s : State) : (hawkFlush q s).clocks = s.clocks := (rfl)

@[simp] theorem hawkEcc_clocks (q : Nat) (ecc : Bool) (s : State) : (hawkEcc q ecc s).clocks = s.clocks := by
  unfold hawkEcc
  dsimp only
  split <;> simp

@[simp] theorem hawkTape_clocks (q : Nat) (s : State) : (hawkTape q s).clocks = s.clocks := by simp [hawkTape]
@[simp] theorem hawkReturn_clocks (q : Nat) (s : State) : (hawkReturn q s).clocks = s.clocks := (rfl)

@[simp] theorem hawkMemLoss_clocks (q : Nat) (onChannel : Nat → Bool) (s : State) : (hawkMemLoss q onChannel s).clocks = s.clocks := by
  unfold hawkMemLoss
  dsimp only
  split <;> simp

/-! ### Memory ranges -/

@[simp] theorem countBursts_clocks (act : Nat) (ls : List Nat) (s : State) :
    (countBursts act ls s).clocks = s.clocks := by simp [countBursts]

@[simp] theorem dramWrite_clocks (act a : Nat) (bs : List Byte) (s : State) :
    (dramWrite act a bs s).clocks = s.clocks := by simp [dramWrite]

@[simp] theorem devWrite_clocks (act a : Nat) (bs : List Byte) (s : State) : (devWrite act a bs s).2.clocks = s.clocks := by
  unfold devWrite
  repeat' split
  all_goals simp

@[simp] theorem devUndefined_clocks (act a n : Nat) (s : State) : (devUndefined act a n s).clocks = s.clocks := by simp [devUndefined]

/-! ### Stipple jobs -/

@[simp] theorem showJobs_clocks (j : Nat) (s : State) : (showJobs j s).clocks = s.clocks := (rfl)

@[simp] theorem stpGo_clocks (j : Nat) (s : State) : (stpGo j s).clocks = s.clocks := by
  unfold stpGo
  dsimp only
  split <;> simp

@[simp] theorem stpEnd_clocks (j st made : Nat) (s : State) : (stpEnd j st made s).clocks = s.clocks := by
  unfold stpEnd
  dsimp only
  repeat' split
  all_goals simp

@[simp] theorem stpStop_clocks (j st : Nat) (s : State) : (stpStop j st s).clocks = s.clocks := by
  unfold stpStop
  split <;> simp

@[simp] theorem stpAbortJobs_clocks (s : State) : (stpAbortJobs s).clocks = s.clocks := by simp [stpAbortJobs]

/-! ### History ring and marks -/

@[simp] theorem showRing_clocks (s : State) : (showRing s).clocks = s.clocks := by simp [showRing]
@[simp] theorem setMark_clocks (i : Nat) (m : Mark) (s : State) : (setMark i m s).clocks = s.clocks := (rfl)

@[simp] theorem demoteOldest_clocks (s : State) : (demoteOldest s).clocks = s.clocks := by
  unfold demoteOldest
  repeat' split
  all_goals simp

@[simp] theorem demoteAll_clocks : ∀ (k : Nat) (s : State), (demoteAll k s).clocks = s.clocks
  | 0, _ => rfl
  | k + 1, s => by
    unfold demoteAll
    split <;> simp [demoteAll_clocks k]

@[simp] theorem loseMarks_clocks (s : State) : (loseMarks s).clocks = s.clocks := by simp [loseMarks]
@[simp] theorem dropRecords_clocks (s : State) : (dropRecords s).clocks = s.clocks := by simp [dropRecords]
@[simp] theorem hstState_clocks (halted : Bool) (s : State) : (hstState halted s).clocks = s.clocks := (rfl)
@[simp] theorem ringClear_clocks (s : State) : (ringClear s).clocks = s.clocks := by simp [ringClear]
@[simp] theorem hstEnable_clocks (en : Bool) (s : State) : (hstEnable en s).clocks = s.clocks := (rfl)

@[simp] theorem hstHalt_clocks (s : State) : (hstHalt s).clocks = s.clocks := by
  unfold hstHalt
  split <;> simp

@[simp] theorem markShow_clocks (i result : Nat) (s : State) : (markShow i result s).clocks = s.clocks := by simp [markShow]

@[simp] theorem markSetNow_clocks (i : Nat) (s : State) : (markSetNow i s).clocks = s.clocks := by
  unfold markSetNow
  split <;> simp

@[simp] theorem markSetTime_clocks (i : Nat) (s : State) : (markSetTime i s).clocks = s.clocks := by
  unfold markSetTime
  dsimp only
  repeat' split
  all_goals simp

@[simp] theorem markClear_clocks (i : Nat) (s : State) : (markClear i s).clocks = s.clocks := by
  unfold markClear
  split <;> simp

@[simp] theorem markSelect_clocks (i : Nat) (s : State) : (markSelect i s).clocks = s.clocks := by simp [markSelect]
@[simp] theorem markBadOp_clocks (i : Nat) (s : State) : (markBadOp i s).clocks = s.clocks := by simp [markBadOp]

/-! ### Uplink classes and sub-ports -/

@[simp] theorem creditUpdate_clocks (x : Nat) (s : State) : (creditUpdate x s).clocks = s.clocks := by simp [creditUpdate]
@[simp] theorem State.encapNow_clocks (s : State) (x : Nat) : (State.encapNow s x).2.clocks = s.clocks := (rfl)

@[simp] theorem frameAccept_clocks (x c : Nat) (e : Encap) (r : FrameReq) (dl : Option Nat) (s : State) :
    (frameAccept x c e r dl s).clocks = s.clocks := (rfl)

@[simp] theorem frameBuild_clocks (x c : Nat) (r : FrameReq) (dl : Option Nat) (s : State) :
    (frameBuild x c r dl s).clocks = s.clocks := (rfl)

@[simp] theorem dropLate_clocks (x c : Nat) : ∀ (k : Nat) (s : State), (dropLate x c k s).clocks = s.clocks
  | 0, _ => rfl
  | k + 1, s => by
    unfold dropLate
    dsimp only
    repeat' split
    all_goals simp [dropLate_clocks x c k]

@[simp] theorem dropLateAll_clocks (x : Nat) (s : State) : (dropLateAll x s).clocks = s.clocks := by simp [dropLateAll]

@[simp] theorem upKick_clocks (x : Nat) (s : State) : (upKick x s).clocks = s.clocks := by
  unfold upKick
  dsimp only
  repeat' split
  all_goals simp

@[simp] theorem offerClass_clocks (x c : Nat) (r : FrameReq) (dl : Option Nat) (s : State) : (offerClass x c r dl s).clocks = s.clocks := by
  unfold offerClass
  dsimp only
  repeat' split
  all_goals simp

@[simp] theorem waitAccept_clocks (x c : Nat) (s : State) : (waitAccept x c s).clocks = s.clocks := by
  unfold waitAccept
  dsimp only
  repeat' split
  all_goals simp

@[simp] theorem offerWait_clocks (x : Nat) (r : FrameReq) (s : State) : (offerWait x r s).clocks = s.clocks := by
  unfold offerWait
  dsimp only
  repeat' split
  all_goals simp

@[simp] theorem closeOpen_clocks (x c type : Nat) (o : OpenFrame) (s : State) :
    (closeOpen x c type o s).clocks = s.clocks := by simp [closeOpen]

@[simp] theorem upEvent_clocks (ref : Nat) (e : List Byte) (s : State) : (upEvent ref e s).clocks = s.clocks := by
  refine State.forAll_clocks (fun x t => ?_) _ _
  split
  · rfl
  · dsimp only
    split <;> simp

@[simp] theorem discardDeadlines_clocks (s : State) : (discardDeadlines s).clocks = s.clocks := by simp [discardDeadlines]
@[simp] theorem discardStopped_clocks (s : State) : (discardStopped s).clocks = s.clocks := by simp [discardStopped]

@[simp] theorem upAbort_clocks (x : Nat) (s : State) : (upAbort x s).clocks = s.clocks := by
  unfold upAbort
  split <;> simp

theorem foldl_snd_clocks {α β : Type} {f : β × State → α → β × State} (h : ∀ a c, (f a c).2.clocks = a.2.clocks) :
    ∀ (l : List α) (a : β × State), (l.foldl f a).2.clocks = a.2.clocks
  | [], _ => rfl
  | c :: l, a => (foldl_snd_clocks h l (f a c)).trans (h a c)

@[simp] theorem rescale_clocks (x lanes : Nat) (s : State) : (rescale x lanes s).clocks = s.clocks := by
  unfold rescale
  dsimp only
  rw [foldl_snd_clocks (fun a c => by rfl)]
  simp

@[simp] theorem carry_clocks (x : Nat) (ls : List Nat) (s : State) :
    (carry x ls s).clocks = s.clocks := by simp [carry, apply_ite State.clocks]

@[simp] theorem upTrain_clocks (x : Nat) (s : State) : (upTrain x s).clocks = s.clocks := (rfl)
@[simp] theorem upFail_clocks (x : Nat) (s : State) : (upFail x s).clocks = s.clocks := (rfl)

@[simp] theorem upBring_clocks (x : Nat) (fb : Bool) (s : State) : (upBring x fb s).clocks = s.clocks := by
  unfold upBring
  dsimp only
  split <;> simp

@[simp] theorem upLaneTape_clocks (u : Nat) (s : State) : (upLaneTape u s).clocks = s.clocks := by
  unfold upLaneTape
  dsimp only
  repeat' split
  all_goals simp

@[simp] theorem upLaneReturn_clocks (u : Nat) (s : State) : (upLaneReturn u s).clocks = s.clocks := (rfl)
@[simp] theorem servoTo_clocks (v : Nat) (s : State) : (servoTo v s).clocks = s.clocks := (rfl)

/-! ### Replay -/

@[simp] theorem showReplay_clocks (s : State) : (showReplay s).clocks = s.clocks := (rfl)
@[simp] theorem setRun_clocks (r : Option RpRun) (s : State) : (setRun r s).clocks = s.clocks := (rfl)

@[simp] theorem rpGo_clocks (s : State) : (rpGo s).clocks = s.clocks := by
  unfold rpGo
  split <;> simp

theorem State.rpOffer_clocks {s t : State} {f : FrameReq} (h : s.rpOffer f = some t) : t.clocks = s.clocks := by
  unfold State.rpOffer at h
  split at h
  · cases h; rfl
  · split at h
    · cases h; rfl
    · split at h
      · cases h; simp
      · cases h

@[simp] theorem rpFrames_clocks : ∀ (k : Nat) (r : RpRun) (s : State), (rpFrames k r s).2.2.clocks = s.clocks
  | 0, _, _ => rfl
  | k + 1, r, s => by
    unfold rpFrames
    dsimp only
    split
    · split
      · rfl
      · next h =>
        split
        · exact State.rpOffer_clocks h
        · exact (rpFrames_clocks k _ _).trans (State.rpOffer_clocks h)
    · rfl

@[simp] theorem rpClose_clocks (r : RpRun) (s : State) : (rpClose r s).clocks = s.clocks := by simp [rpClose]
@[simp] theorem rpDrain_clocks : ∀ (k : Nat) (s : State), (rpDrain k s).clocks = s.clocks
  | 0, _ => rfl
  | k + 1, s => by
    unfold rpDrain
    dsimp only
    repeat' split
    all_goals simp [rpDrain_clocks k]

@[simp] theorem rpPump_clocks (s : State) : (rpPump s).clocks = s.clocks := by
  unfold rpPump
  dsimp only
  repeat' split
  all_goals simp

@[simp] theorem rpEnd_clocks (st : Nat) (s : State) : (rpEnd st s).clocks = s.clocks := by
  unfold rpEnd
  split <;> simp

@[simp] theorem rpAbort_clocks (s : State) : (rpAbort s).clocks = s.clocks := by
  unfold rpAbort
  split <;> simp

@[simp] theorem rpEndAll_clocks (st : Nat) (s : State) : (rpEndAll st s).clocks = s.clocks := by simp [rpEndAll]
@[simp] theorem ringReset_clocks (s : State) : (ringReset s).clocks = s.clocks := by simp [ringReset]
@[simp] theorem rpTape_clocks (s : State) : (rpTape s).clocks = s.clocks := by simp [rpTape]
@[simp] theorem rpReturn_clocks (s : State) : (rpReturn s).clocks = s.clocks := (rfl)

/-! ### Rows -/

@[simp] theorem seamNotUp_clocks (n : Nat) (p : State → Nat → SeamRow → Nat → Bool) (s : State) : (seamNotUp n p s).clocks = s.clocks := by
  unfold seamNotUp
  repeat' split
  all_goals simp

@[simp] theorem seamPortDown_clocks (n : Nat) (s : State) : (seamPortDown n s).clocks = s.clocks := by simp [seamPortDown]
@[simp] theorem seamExclude_clocks (g row : Nat) (s : State) : (seamExclude g row s).clocks = s.clocks := (rfl)
@[simp] theorem seamCommitted_clocks (g row : Nat) (s : State) : (seamCommitted g row s).clocks = s.clocks := (rfl)
@[simp] theorem seamClear_clocks (g : Nat) (s : State) : (seamClear g s).clocks = s.clocks := (rfl)

/-! ### Table banks -/

@[simp] theorem setShadow_clocks (e : Nat) (m : List Host.Cell) (s : State) : (setShadow e m s).clocks = s.clocks := (rfl)
@[simp] theorem swapSchedule_clocks (e b : Nat) (skim : Bool) (s : State) : (swapSchedule e b skim s).clocks = s.clocks := (rfl)
@[simp] theorem copyBack_clocks (e : Nat) (s : State) : (copyBack e s).clocks = s.clocks := (rfl)
@[simp] theorem bankWerr_clocks (e : Nat) (s : State) : (bankWerr e s).clocks = s.clocks := (rfl)

@[simp] theorem swapArm_clocks (e : Nat) (s : State) : (swapArm e s).clocks = s.clocks := by
  unfold swapArm
  split <;> simp

@[simp] theorem disarm_clocks (e : Nat) (s : State) : (disarm e s).clocks = s.clocks := by
  unfold disarm
  split <;> simp

@[simp] theorem swapCommit_clocks (e b : Nat) (s : State) : (swapCommit e b s).clocks = s.clocks := by
  unfold swapCommit
  repeat' split
  all_goals simp

@[simp] theorem tableWrite_clocks (e off v : Nat) (s : State) : (tableWrite e off v s).clocks = s.clocks := by
  unfold tableWrite
  dsimp only
  repeat' split
  all_goals simp

/-! ### Skim -/

@[simp] theorem skimRelease_clocks (e : Nat) (s : State) : (skimRelease e s).clocks = s.clocks := (rfl)

@[simp] theorem skimMask_clocks (g row : Nat) (mask : List Bool) (s : State) :
    (skimMask g row mask s).clocks = s.clocks := by simp [skimMask]

@[simp] theorem skimEpochStart_clocks (g e n : Nat) (s : State) : (skimEpochStart g e n s).clocks = s.clocks := (rfl)

@[simp] theorem skimLevels_clocks (g row : Nat) (v : Nat → Option Nat) (s : State) : (skimLevels g row v s).clocks = s.clocks := by
  refine State.forAll_clocks (fun p t => ?_) _ _
  split <;> rfl

@[simp] theorem skimStart_clocks (g r0 : Nat) (s : State) :
    (skimStart g r0 s).clocks = s.clocks := by simp [skimStart, apply_ite State.clocks]

@[simp] theorem skimEnd_clocks (g : Nat) (restore : Bool) (s : State) : (skimEnd g restore s).clocks = s.clocks := by
  unfold skimEnd
  split <;> simp

@[simp] theorem skimStop_clocks (g n : Nat) (s : State) : (skimStop g n s).clocks = s.clocks := by
  unfold skimStop
  repeat' split
  all_goals simp

@[simp] theorem skimRefuse_clocks (g : Nat) (s : State) : (skimRefuse g s).clocks = s.clocks := by
  unfold skimRefuse
  dsimp only
  split <;> simp

@[simp] theorem skimRowStart_clocks (g n : Nat) (s : State) : (skimRowStart g n s).clocks = s.clocks := by
  unfold skimRowStart
  dsimp only
  repeat' split
  all_goals simp

@[simp] theorem skimFirstRow_clocks (g old n : Nat) (s : State) : (skimFirstRow g old n s).clocks = s.clocks := by
  unfold skimFirstRow
  split <;> simp

@[simp] theorem skimPortDown_clocks (n : Nat) (s : State) : (skimPortDown n s).clocks = s.clocks := by
  refine State.forAll_clocks (fun e t => ?_) _ _
  split
  · split <;> simp
  · rfl

/-! ### Checkpoints -/

@[simp] theorem ckptStart_clocks (s : State) : (ckptStart s).clocks = s.clocks := by
  unfold ckptStart
  split <;> simp

/-! ### Boot journal -/

@[simp] theorem jnlStore_clocks (entries : List Byte) (s : State) : (jnlStore entries s).clocks = s.clocks := (rfl)
@[simp] theorem jnlAppend_clocks (rec entries : List Byte) (s : State) : (jnlAppend rec entries s).clocks = s.clocks := (rfl)

@[simp] theorem jnlInfo_clocks (step outcome unit cause param : Nat) (s : State) :
    (jnlInfo step outcome unit cause param s).clocks = s.clocks := (rfl)

@[simp] theorem jnlOutcome_clocks (step e unit outcome pset cause param : Nat) (s : State) :
    (jnlOutcome step e unit outcome pset cause param s).clocks = s.clocks := by simp [jnlOutcome]

@[simp] theorem jnlRewrite_clocks (entries : List Byte) (s : State) : (jnlRewrite entries s).clocks = s.clocks := by
  rw [jnlRewrite, jnlStore_clocks, jnlStore_clocks]

@[simp] theorem jnlDevice_clocks (step outcome : Nat) (s : State) : (jnlDevice step outcome s).clocks = s.clocks := by simp [jnlDevice]

/-! ### Stencil -/

@[simp] theorem bgAccumulate_clocks (g : Nat) (d : RowData) (back : List Bool) (s : State) :
    (bgAccumulate g d back s).clocks = s.clocks := by
  unfold bgAccumulate
  repeat' split
  all_goals simp

@[simp] theorem bumpSeq_clocks (g : Nat) (s : State) : (bumpSeq g s).clocks = s.clocks := (rfl)
@[simp] theorem recordSend_clocks (r : ObjRec) (s : State) : (recordSend r s).clocks = s.clocks := (rfl)

@[simp] theorem endedEmit_clocks (g close start excess : Nat) (e : Ended) (s : State) :
    (endedEmit g close start excess e s).2.clocks = s.clocks := by
  unfold endedEmit
  split <;> simp

@[simp] theorem endedEmitAll_clocks (g close start excess : Nat) :
    ∀ (es : List Ended) (s : State), (endedEmitAll g close start excess es s).2.clocks = s.clocks
  | [], _ => rfl
  | [_], _ => endedEmit_clocks ..
  | _ :: f :: t, _ => (endedEmitAll_clocks g close start excess (f :: t) _).trans (endedEmit_clocks ..)

@[simp] theorem rowRecords_clocks (g close start : Nat) (es : List Ended) (s : State) :
    (rowRecords g close start es s).2.2.clocks = s.clocks := by simp [rowRecords]

@[simp] theorem labelRow_clocks (g : Nat) (d : RowData) (mask : List Bool) (start : Nat) (s : State) :
    (labelRow g d mask start s).clocks = s.clocks := by simp [labelRow]

@[simp] theorem tileDrop_clocks (g : Nat) (s : State) : (tileDrop g s).clocks = s.clocks := (rfl)

@[simp] theorem captureObjs_clocks (g : Nat) (s : State) : (captureObjs g s).clocks = s.clocks := by
  refine State.foldl_clocks (fun t o => ?_) _ _
  dsimp only
  split <;> simp

@[simp] theorem captureJobs_clocks (g n : Nat) (s : State) : (captureJobs g n s).clocks = s.clocks := by
  refine State.foldl_clocks (fun t j => ?_) _ _
  split <;> simp

@[simp] theorem finishTiles_clocks (g n : Nat) (flush : Bool) (s : State) : (finishTiles g n flush s).clocks = s.clocks := (rfl)

@[simp] theorem maskRow_clocks (g start : Nat) (s : State) : (maskRow g start s).clocks = s.clocks := by
  unfold maskRow
  dsimp only
  split <;> simp

@[simp] theorem showLabels_clocks (g : Nat) (s : State) : (showLabels g s).clocks = s.clocks := (rfl)
@[simp] theorem stencilCut_clocks (g : Nat) (s : State) : (stencilCut g s).clocks = s.clocks := by simp [stencilCut]
@[simp] theorem stencilClear_clocks (g : Nat) (s : State) : (stencilClear g s).clocks = s.clocks := (rfl)

/-! ### Trackers -/

@[simp] theorem showDtNom_clocks (t : Nat) (s : State) : (showDtNom t s).clocks = s.clocks := by simp [showDtNom]

@[simp] theorem plumbSwitchNow_clocks (t : Nat) (c : PendSet) (s : State) :
    (plumbSwitchNow t c s).clocks = s.clocks := by simp [plumbSwitchNow]

@[simp] theorem plumbClear_clocks (t : Nat) (s : State) : (plumbClear t s).clocks = s.clocks := (rfl)

/-! ### Snapshots and commits -/

@[simp] theorem snapshotTake_clocks (s : State) : (snapshotTake s).clocks = s.clocks := by
  unfold snapshotTake
  split <;> simp

@[simp] theorem commitClose_clocks (g : Nat) (s : State) : (commitClose g s).clocks = s.clocks := by
  unfold commitClose
  split <;> simp

@[simp] theorem commitFinish_clocks (g : Nat) (s : State) : (commitFinish g s).clocks = s.clocks := by
  unfold commitFinish
  split <;> simp

@[simp] theorem commitDiscard_clocks (g : Nat) (s : State) : (commitDiscard g s).clocks = s.clocks := by
  unfold commitDiscard
  split <;> simp

@[simp] theorem commitDoom_clocks (g : Nat) (s : State) : (commitDoom g s).clocks = s.clocks := by
  unfold commitDoom
  dsimp only
  repeat' split
  all_goals simp

@[simp] theorem commitLapse_clocks (g : Nat) (s : State) : (commitLapse g s).clocks = s.clocks := by
  unfold commitLapse
  repeat' split
  all_goals simp

@[simp] theorem commitClear_clocks (g : Nat) (s : State) : (commitClear g s).clocks = s.clocks := by
  unfold commitClear
  dsimp only
  repeat' split
  all_goals simp

@[simp] theorem groupDrained_clocks (g : Nat) (s : State) : (groupDrained g s).clocks = s.clocks := by
  unfold groupDrained
  dsimp only
  repeat' split
  all_goals simp

@[simp] theorem generatorOff_clocks (g : Nat) (s : State) : (generatorOff g s).clocks = s.clocks := by simp [generatorOff]

@[simp] theorem commitSkim_clocks (g row : Nat) (vals : List (Fld × Nat)) (s : State) : (commitSkim g row vals s).clocks = s.clocks := by
  unfold commitSkim
  dsimp only
  split <;> simp

@[simp] theorem commitFreeze_clocks (g row : Nat) (s : State) : (commitFreeze g row s).clocks = s.clocks := by
  unfold commitFreeze
  dsimp only
  repeat' split
  all_goals simp [apply_ite State.clocks]

@[simp] theorem commitGroup_clocks (g : Nat) (s : State) : (commitGroup g s).clocks = s.clocks := by
  unfold commitGroup
  dsimp only
  repeat' split
  all_goals simp

@[simp] theorem commitDevice_clocks (s : State) : (commitDevice s).clocks = s.clocks := by simp [commitDevice]

@[simp] theorem commitRequest_clocks (v : Nat) (p1 : Bool) (s : State) : (commitRequest v p1 s).clocks = s.clocks := by
  unfold commitRequest
  dsimp only
  repeat' split
  all_goals simp

/-! ### Check values -/

@[simp] theorem cvuInit_clocks (c : Nat) (s : State) : (cvuInit c s).clocks = s.clocks := by
  unfold cvuInit
  split <;> simp

@[simp] theorem cvuCfg_clocks (c v : Nat) (s : State) : (cvuCfg c v s).clocks = s.clocks := by
  unfold cvuCfg
  repeat' split
  all_goals simp

@[simp] theorem cvuFeed_clocks (c n v : Nat) (s : State) : (cvuFeed c n v s).clocks = s.clocks := by
  unfold cvuFeed
  split <;> simp

@[simp] theorem cvuValue_clocks (c v : Nat) (s : State) : (cvuValue c v s).clocks = s.clocks := by
  unfold cvuValue
  split <;> simp

@[simp] theorem cvuAlive_clocks (c v : Nat) (s : State) : (cvuAlive c v s).clocks = s.clocks := by
  unfold cvuAlive
  dsimp only
  repeat' split
  all_goals simp

@[simp] theorem cvuAliveReset_clocks (c : Nat) (s : State) : (cvuAliveReset c s).clocks = s.clocks := by
  unfold cvuAliveReset
  split <;> simp

@[simp] theorem cvuReturn_clocks (c : Nat) (s : State) : (cvuReturn c s).clocks = s.clocks := (rfl)

/-! ### DMA channels -/

@[simp] theorem setFailAddr_clocks (c a : Nat) (s : State) : (setFailAddr c a s).clocks = s.clocks := (rfl)
@[simp] theorem dmaForsake_clocks (c : Nat) (s : State) : (dmaForsake c s).clocks = s.clocks := by simp [dmaForsake]

@[simp] theorem dmaStop_clocks (c err dir : Nat) (s : State) : (dmaStop c err dir s).clocks = s.clocks := by
  simp [dmaStop]

@[simp] theorem dmaHalt_clocks (c err dir a : Nat) (s : State) : (dmaHalt c err dir a s).clocks = s.clocks := by simp [dmaHalt]
@[simp] theorem dmaBreak_clocks (c err : Nat) (s : State) : (dmaBreak c err s).clocks = s.clocks := by simp [dmaBreak]

@[simp] theorem dmaStart_clocks (c : Nat) (s : State) : (dmaStart c s).clocks = s.clocks := by
  unfold dmaStart
  split <;> simp

@[simp] theorem dmaAbort_clocks (c : Nat) (s : State) : (dmaAbort c s).clocks = s.clocks := by
  unfold dmaAbort
  split <;> simp

@[simp] theorem dmaAck_clocks (c : Nat) (s : State) : (dmaAck c s).clocks = s.clocks := by
  unfold dmaAck
  split <;> simp

@[simp] theorem dmaConfig_clocks (c off v : Nat) (s : State) : (dmaConfig c off v s).clocks = s.clocks := by
  unfold dmaConfig
  repeat' split
  all_goals simp

@[simp] theorem dmaTape_clocks (c : Nat) (s : State) : (dmaTape c s).clocks = s.clocks := by
  unfold dmaTape
  split <;> simp

@[simp] theorem dmaReturn_clocks (c : Nat) (s : State) : (dmaReturn c s).clocks = s.clocks := (rfl)

/-! ### Ports and their messages -/

@[simp] theorem dropLine_clocks (n : Nat) (d : Drop) (stream line : Nat) (s : State) : (dropLine n d stream line s).clocks = s.clocks := by
  unfold dropLine
  split <;> simp

@[simp] theorem setPkt_clocks (n : Nat) (k : Option Pkt) (s : State) : (setPkt n k s).clocks = s.clocks := (rfl)

@[simp] theorem lineToRender_clocks (n : Nat) (k : Pkt) (payload : List Byte) (good : Bool) (s : State) :
    (lineToRender n k payload good s).clocks = s.clocks := by
  unfold lineToRender
  dsimp only
  split <;> simp

@[simp] theorem packetCut_clocks (n : Nat) (s : State) : (packetCut n s).clocks = s.clocks := by
  unfold packetCut
  repeat' split
  all_goals simp

@[simp] theorem bcPick_clocks (n : Nat) (s : State) : (bcPick n s).clocks = s.clocks := by
  unfold bcPick
  dsimp only
  split <;> simp

@[simp] theorem bcSend_clocks (n : Nat) (m : Msg) (s : State) : (bcSend n m s).clocks = s.clocks := by simp [bcSend]

@[simp] theorem headNote_clocks (en : Bool) (n : Nat) (words : List Nat) (s : State) :
    (headNote en n words s).clocks = s.clocks := by simp [headNote]

@[simp] theorem cmdEnd_clocks (n st : Nat) (data : List Byte) (s : State) : (cmdEnd n st data s).clocks = s.clocks := by simp [cmdEnd]

@[simp] theorem cmdGo_clocks (n : Nat) (s : State) : (cmdGo n s).clocks = s.clocks := by
  unfold cmdGo
  dsimp only
  repeat' split
  all_goals simp

@[simp] theorem chalStart_clocks (n : Nat) (s : State) : (chalStart n s).clocks = s.clocks := by
  unfold chalStart
  dsimp only
  repeat' split
  all_goals simp

@[simp] theorem chalKeyWord_clocks (n i v : Nat) (s : State) : (chalKeyWord n i v s).clocks = s.clocks := (rfl)
@[simp] theorem portLeaveUp_clocks (n : Nat) (s : State) : (portLeaveUp n s).clocks = s.clocks := by simp [portLeaveUp]

/-! ### Lanes -/

@[simp] theorem onLane_clocks (n : Nat) (f : Lane → Lane) (s : State) : (onLane n f s).clocks = s.clocks := (rfl)
@[simp] theorem setLaneState_clocks (n st : Nat) (s : State) : (setLaneState n st s).clocks = s.clocks := (rfl)
@[simp] theorem setChanState_clocks (n st : Nat) (s : State) : (setChanState n st s).clocks = s.clocks := by simp [setChanState]
@[simp] theorem alignClear_clocks (n : Nat) (s : State) : (alignClear n s).clocks = s.clocks := by simp [alignClear]
@[simp] theorem trainPass_clocks (n : Nat) (s : State) : (trainPass n s).clocks = s.clocks := by simp [trainPass]
@[simp] theorem attemptLane_clocks (n : Nat) (s : State) : (attemptLane n s).clocks = s.clocks := by simp [attemptLane]
@[simp] theorem attempt_clocks (n : Nat) (s : State) : (attempt n s).clocks = s.clocks := by simp [attempt]
@[simp] theorem laneRest_clocks (n : Nat) (s : State) : (laneRest n s).clocks = s.clocks := (rfl)

@[simp] theorem backToTraining_clocks (n : Nat) (burst : Bool) (s : State) :
    (backToTraining n burst s).clocks = s.clocks := by simp [backToTraining]

@[simp] theorem lanesTape_clocks (n : Nat) (s : State) : (lanesTape n s).clocks = s.clocks := by
  unfold lanesTape
  dsimp only
  repeat' split
  all_goals simp

@[simp] theorem lanesReturn_clocks (n : Nat) (s : State) : (lanesReturn n s).clocks = s.clocks := by
  unfold lanesReturn
  split <;> simp

/-! ### Test lanes -/

@[simp] theorem tstCount_clocks (l : Nat) (errs : Option Nat) (s : State) : (tstCount l errs s).clocks = s.clocks := by
  unfold tstCount
  dsimp only
  repeat' split
  all_goals simp

@[simp] theorem tstAccount_clocks (l : Nat) (s : State) : (tstAccount l s).clocks = s.clocks := by simp [tstAccount]
@[simp] theorem tstAccountAll_clocks (s : State) : (tstAccountAll s).clocks = s.clocks := by simp [tstAccountAll]
@[simp] theorem tstRestart_clocks (l : Nat) (s : State) : (tstRestart l s).clocks = s.clocks := by simp [tstRestart]

@[simp] theorem eyeEnd_clocks (l errs : Nat) (aborted : Bool) (s : State) : (eyeEnd l errs aborted s).clocks = s.clocks := by
  unfold eyeEnd
  repeat' split
  all_goals simp

@[simp] theorem eyeSweep_clocks (s : State) : (eyeSweep s).clocks = s.clocks := by
  refine State.forAll_clocks (fun l t => ?_) _ _
  split <;> simp

@[simp] theorem tstOff_clocks (l : Nat) (s : State) : (tstOff l s).clocks = s.clocks := by
  unfold tstOff
  dsimp only
  split <;> simp

@[simp] theorem tstEnded_clocks (l cause : Nat) (s : State) : (tstEnded l cause s).clocks = s.clocks := by
  unfold tstEnded
  split <;> simp

@[simp] theorem tstWrite_clocks (l v : Nat) (s : State) : (tstWrite l v s).clocks = s.clocks := by
  unfold tstWrite
  dsimp only
  repeat' split
  all_goals simp

@[simp] theorem tstUser_clocks (l i v : Nat) (s : State) : (tstUser l i v s).clocks = s.clocks := by
  unfold tstUser
  split <;> simp

@[simp] theorem tstInject_clocks (l : Nat) (s : State) : (tstInject l s).clocks = s.clocks := by
  unfold tstInject
  dsimp only
  repeat' split
  all_goals simp

@[simp] theorem tstBroadcast_clocks (s : State) : (tstBroadcast s).clocks = s.clocks := by simp [tstBroadcast]

@[simp] theorem eyeGo_clocks (l : Nat) (s : State) : (eyeGo l s).clocks = s.clocks := by
  unfold eyeGo
  split <;> simp

/-! ### The collector -/

@[simp] theorem faultNote_clocks (kind lvl ev time : Nat) (s : State) : (faultNote kind lvl ev time s).clocks = s.clocks := by
  unfold faultNote
  dsimp only
  repeat' split
  all_goals simp

@[simp] theorem memTape_clocks (m : Nat) (s : State) : (memTape m s).clocks = s.clocks := by
  unfold memTape
  split <;> simp

@[simp] theorem unitTapeOff_clocks (c : Nat) (s : State) : (unitTapeOff c s).clocks = s.clocks := by
  unfold unitTapeOff
  split <;> simp

@[simp] theorem unitReturn_clocks (c : Nat) (s : State) : (unitReturn c s).clocks = s.clocks := by
  unfold unitReturn
  dsimp only
  repeat' split
  all_goals simp

@[simp] theorem unitReset_clocks (c : Nat) (s : State) : (unitReset c s).clocks = s.clocks := (rfl)

@[simp] theorem tapedNow_clocks (cs : List Nat) (ev lvl : Nat) (held byRule : Bool) (s : State) :
    (tapedNow cs ev lvl held byRule s).clocks = s.clocks := by simp [tapedNow]

@[simp] theorem tapeOwn_clocks (c ev lvl : Nat) (byRule : Bool) (s : State) : (tapeOwn c ev lvl byRule s).clocks = s.clocks := by
  unfold tapeOwn
  split <;> simp

@[simp] theorem tapeScope_clocks (anchor : Nat) (members : List Nat) (ev lvl : Nat) (s : State) :
    (tapeScope anchor members ev lvl s).clocks = s.clocks := by
  unfold tapeScope
  split <;> simp

@[simp] theorem returnUnits_clocks (cs : List Nat) (entries : Bool) (s : State) :
    (returnUnits cs entries s).clocks = s.clocks := by simp [returnUnits]

@[simp] theorem unitTapeWrite_clocks (c : Nat) (s : State) : (unitTapeWrite c s).clocks = s.clocks := by
  unfold unitTapeWrite
  repeat' split
  all_goals simp

@[simp] theorem unitRelease_clocks (c : Nat) (s : State) : (unitRelease c s).clocks = s.clocks := by
  unfold unitRelease
  dsimp only
  split <;> simp

@[simp] theorem enterFault_clocks (e : Nat) (s : State) : (enterFault e s).clocks = s.clocks := by
  unfold enterFault
  split <;> simp

@[simp] theorem faultAct_clocks (e acted : Nat) (s : State) : (faultAct e acted s).clocks = s.clocks := by
  unfold faultAct
  repeat' split
  all_goals simp

theorem occur_clocks {mid : State → State} (h : ∀ t, (mid t).clocks = t.clocks) (e time : Nat) (s : State) :
    (occur e time mid s).clocks = s.clocks := by
  simp [occur, h]

@[simp] theorem collect_clocks (e time : Nat) (rules : List (Nat × Nat)) (s : State) : (collect e time rules s).clocks = s.clocks := by
  have mid (t : State) : ((rules.filter (·.2 == e)).foldl (fun t r => tapeOwn r.1 e 2 true t) t).clocks = t.clocks :=
    State.foldl_clocks (f := fun (u : State) (r : Nat × Nat) => tapeOwn r.1 e 2 true u) (fun u r => tapeOwn_clocks r.1 e 2 true u)
      (rules.filter (·.2 == e)) t
  unfold collect
  dsimp only
  repeat' split
  all_goals simp [mid, occur_clocks mid]

@[simp] theorem collectAll_clocks (s : State) : (collectAll s).clocks = s.clocks := by
  unfold collectAll
  repeat' split
  all_goals simp

@[simp] theorem collectRounds_clocks : ∀ (k : Nat) (s : State), (collectRounds k s).clocks = s.clocks
  | 0, _ => rfl
  | k + 1, s => by
    unfold collectRounds
    split <;> simp [collectRounds_clocks k]

@[simp] theorem settleEvents_clocks (s : State) : (settleEvents s).clocks = s.clocks := by simp [settleEvents]
@[simp] theorem ack_clocks (e : Nat) (s : State) : (ack e s).clocks = s.clocks := (rfl)
@[simp] theorem ackAll_clocks (s : State) : (ackAll s).clocks = s.clocks := by simp [ackAll]

@[simp] theorem sevWrite_clocks (i v : Nat) (s : State) : (sevWrite i v s).clocks = s.clocks := by
  refine State.forAll_clocks (fun e t => ?_) _ _
  split <;> rfl

/-! ### Trigger generators -/

@[simp] theorem backwardStep_clocks (s : State) : (backwardStep s).clocks = s.clocks := by
  unfold backwardStep
  split <;> simp

@[simp] theorem tgEnable_clocks (g : Nat) (s : State) : (tgEnable g s).clocks = s.clocks := by
  unfold tgEnable
  dsimp only
  repeat' split
  all_goals simp

@[simp] theorem tgDisable_clocks (g : Nat) (s : State) : (tgDisable g s).clocks = s.clocks := by
  unfold tgDisable
  split <;> simp

@[simp] theorem tgControl_clocks (g v : Nat) (s : State) : (tgControl g v s).clocks = s.clocks := by
  unfold tgControl
  split <;> simp

@[simp] theorem tgConfig_clocks (g w v : Nat) (s : State) : (tgConfig g w v s).clocks = s.clocks := by
  unfold tgConfig
  repeat' split
  all_goals simp

@[simp] theorem setStart_clocks (g t : Nat) (s : State) : (setStart g t s).clocks = s.clocks := (rfl)

/-! ### Lath loads -/

@[simp] theorem lathFail_clocks (status sec : Nat) (s : State) : (lathFail status sec s).clocks = s.clocks := by simp [lathFail]
@[simp] theorem lathStart_clocks (s : State) : (lathStart s).clocks = s.clocks := (rfl)

@[simp] theorem lathGo_clocks (s : State) : (lathGo s).clocks = s.clocks := by
  unfold lathGo
  split <;> simp

@[simp] theorem lathControl_clocks (v : Nat) (s : State) : (lathControl v s).clocks = s.clocks := by simp [lathControl]

@[simp] theorem lathAddrWrite_clocks (f : Fld) (v : Nat) (s : State) : (lathAddrWrite f v s).clocks = s.clocks := by
  unfold lathAddrWrite
  split <;> simp

@[simp] theorem skipUnit_clocks (c : Nat) (s : State) : (skipUnit c s).clocks = s.clocks := (rfl)

/-! ### Boot -/

@[simp] theorem setStage_clocks (v : Nat) (s : State) : (setStage v s).clocks = s.clocks := (rfl)
@[simp] theorem setStep_clocks (v : Nat) (s : State) : (setStep v s).clocks = s.clocks := (rfl)

@[simp] theorem jnlOpen_clocks (s : State) : (jnlOpen s).clocks = s.clocks := by
  unfold jnlOpen
  split <;> simp

@[simp] theorem primer_clocks (wake : Bool) (s : State) : (primer wake s).clocks = s.clocks := by
  unfold primer
  repeat' split
  all_goals simp

@[simp] theorem newNonce_clocks (s : State) : (newNonce s).clocks = s.clocks := (rfl)

@[simp] theorem fwRun_clocks (c l : FwInfo) (s : State) : (fwRun c l s).clocks = s.clocks := by
  unfold fwRun
  split <;> simp

@[simp] theorem memoryStart_clocks (s : State) : (memoryStart s).clocks = s.clocks := by simp [memoryStart]
@[simp] theorem undercoat_clocks (s : State) : (undercoat s).clocks = s.clocks := by simp [undercoat]
@[simp] theorem slotRun_clocks (c : Nat) (ci li : FwInfo) (s : State) : (slotRun c ci li s).clocks = s.clocks := by simp [slotRun]
@[simp] theorem authEvent_clocks (st : Nat) (s : State) : (authEvent st s).clocks = s.clocks := by simp [authEvent]

@[simp] theorem hostRecord_clocks (b : List Byte) (oc cause : Nat) (s : State) : (hostRecord b oc cause s).clocks = s.clocks := by
  rw [hostRecord, State.raiseIf_clocks, jnlAppend_clocks]

@[simp] theorem hostBoot_clocks (s : State) : (hostBoot s).clocks = s.clocks := by
  by_cases h : s.stage = 2 ∨ s.stage = 6
  · rcases hx : s.slotCheck (memRead s.hostload 0 0x200000) 0x200000 with ⟨oc, cause, st⟩ | ⟨ci, li⟩
    · rw [hostBoot_refused h hx, setStep_clocks, setStage_clocks, hostRecord_clocks, State.wr_clocks, authEvent_clocks]
    · rw [hostBoot_verified h hx, slotRun_clocks, hostRecord_clocks, State.wr_clocks, State.wr_clocks]
  · obtain ⟨h2, h6⟩ := not_or.mp h
    rw [hostBoot_elsewhere h2 h6]

@[simp] theorem jnlForget_clocks (s : State) : (jnlForget s).clocks = s.clocks := by simp [jnlForget]

@[simp] theorem forgetUnit_clocks (e : Nat) (s : State) : (forgetUnit e s).clocks = s.clocks := by
  rw [forgetUnit, jnlRewrite_clocks]

@[simp] theorem jnlRead_clocks (i : Nat) (s : State) : (jnlRead i s).2.clocks = s.clocks := (rfl)

/-! ### Lifecycle, keys and debug -/

@[simp] theorem lcBurn_clocks (t : Nat) (s : State) : (lcBurn t s).clocks = s.clocks := (rfl)

@[simp] theorem lcGo_clocks (p : Path) (s : State) : (lcGo p s).clocks = s.clocks := by
  unfold lcGo
  dsimp only
  repeat' split
  all_goals simp

@[simp] theorem lcWrite_clocks (v : Nat) (p : Path) (s : State) : (lcWrite v p s).clocks = s.clocks := by simp [lcWrite]

@[simp] theorem keyGo_clocks (s : State) : (keyGo s).clocks = s.clocks := by
  unfold keyGo
  dsimp only
  repeat' split
  all_goals simp

@[simp] theorem keyWrite_clocks (v : Nat) (s : State) : (keyWrite v s).clocks = s.clocks := by simp [keyWrite]

@[simp] theorem policyWrite_clocks (v : Nat) (s : State) : (policyWrite v s).clocks = s.clocks := by
  unfold policyWrite
  split <;> simp

@[simp] theorem rbGo_clocks (s : State) : (rbGo s).clocks = s.clocks := by
  unfold rbGo
  dsimp only
  repeat' split
  all_goals simp

@[simp] theorem rbWrite_clocks (v : Nat) (s : State) : (rbWrite v s).clocks = s.clocks := by simp [rbWrite]

@[simp] theorem dbgOpened_clocks (p : Path) (level : Nat) (key : Option (List Byte)) (limit : Nat) (s : State) :
    (dbgOpened p level key limit s).clocks = s.clocks := by simp [dbgOpened]

@[simp] theorem dbgRefused_clocks (r : Nat) (s : State) : (dbgRefused r s).clocks = s.clocks := (rfl)

@[simp] theorem dbgOpen_clocks (p : Path) (s : State) : (dbgOpen p s).clocks = s.clocks := by
  unfold dbgOpen
  dsimp only
  repeat' split
  all_goals simp

@[simp] theorem dbgEnd_clocks (cause : Nat) (s : State) : (dbgEnd cause s).clocks = s.clocks := by
  unfold dbgEnd
  split <;> simp

@[simp] theorem dbgWrite_clocks (v : Nat) (p : Path) (s : State) : (dbgWrite v p s).clocks = s.clocks := by simp [dbgWrite]

@[simp] theorem coreHalt_clocks (v : Nat) (s : State) : (coreHalt v s).clocks = s.clocks := by
  unfold coreHalt
  split <;> simp

/-! ### Power states -/

@[simp] theorem pwrEnded_clocks (s : State) : (pwrEnded s).clocks = s.clocks := (rfl)
@[simp] theorem drainStart_clocks (s : State) : (drainStart s).clocks = s.clocks := by simp [drainStart]

@[simp] theorem wake_clocks (src : Nat) (s : State) : (wake src s).clocks = s.clocks := by
  unfold wake
  split <;> simp

@[simp] theorem exitP1_clocks (s : State) : (exitP1 s).clocks = s.clocks := by simp [exitP1]

@[simp] theorem pwrBegin_clocks (t : Nat) (s : State) : (pwrBegin t s).clocks = s.clocks := by
  unfold pwrBegin
  dsimp only
  repeat' split
  all_goals simp

/-! ### Register accesses -/

@[simp] theorem regWord_clocks (f : Found) (s : State) : (regWord f s).2.clocks = s.clocks := by
  unfold regWord
  dsimp only
  repeat' split
  all_goals simp

@[simp] theorem freezeAt_clocks (a : Nat) (ds : List Int) (s : State) : (freezeAt a ds s).clocks = s.clocks := by
  refine State.foldl_clocks (fun t d => ?_) _ _
  dsimp only
  split <;> rfl

@[simp] theorem thawAt_clocks (a : Nat) (s : State) : (thawAt a s).clocks = s.clocks := by
  unfold thawAt
  split <;> simp

@[simp] theorem regFetch_clocks (a : Nat) (f : Found) (s : State) : (regFetch a f s).2.clocks = s.clocks := by
  unfold regFetch
  dsimp only
  repeat' split
  all_goals simp

@[simp] theorem readServe_clocks (a : Nat) (p : Path) (s : State) : (readServe a p s).clocks = s.clocks := by
  unfold readServe
  dsimp only
  repeat' split
  all_goals simp

@[simp] theorem regRead_clocks (a : Nat) (p : Path) (s : State) : (regRead a p s).clocks = s.clocks := by
  unfold regRead
  dsimp only
  split <;> simp

@[simp] theorem fieldWrite_clocks (f : Found) (v : Nat) (d : FDef) (s : State) : (fieldWrite f v d s).clocks = s.clocks := by
  unfold fieldWrite
  split <;> simp

@[simp] theorem plainWrite_clocks (f : Found) (v : Nat) (s : State) : (plainWrite f v s).clocks = s.clocks := by simp [plainWrite]
@[simp] theorem bufferWrite_clocks (f : Found) (v : Nat) (s : State) : (bufferWrite f v s).clocks = s.clocks := by simp [bufferWrite]
@[simp] theorem snapshotAsk_clocks (s : State) : (snapshotAsk s).clocks = s.clocks := by simp [snapshotAsk]
@[simp] theorem commitWrite_clocks (v : Nat) (s : State) : (commitWrite v s).clocks = s.clocks := by simp [commitWrite]

@[simp] theorem tgWrite_clocks (g v : Nat) (s : State) : (tgWrite g v s).clocks = s.clocks := by
  unfold tgWrite
  repeat' split
  all_goals simp

@[simp] theorem laneRetrain_clocks (n : Nat) (s : State) : (laneRetrain n s).clocks = s.clocks := by
  unfold laneRetrain
  split <;> simp

@[simp] theorem laneRetry_clocks (n : Nat) (s : State) : (laneRetry n s).clocks = s.clocks := by
  unfold laneRetry
  split <;> simp

@[simp] theorem timePeriod_clocks (v : Nat) (s : State) : (timePeriod v s).clocks = s.clocks := (rfl)

@[simp] theorem ptpConfig_clocks (f : Found) (v : Nat) (s : State) : (ptpConfig f v s).clocks = s.clocks := by
  unfold ptpConfig
  dsimp only
  split <;> simp

@[simp] theorem uplinkRestore_clocks (s : State) : (uplinkRestore s).clocks = s.clocks := by
  refine State.forAll_clocks (fun x t => ?_) _ _
  split <;> simp

@[simp] theorem historyWrite_clocks (f : Found) (v : Nat) (s : State) : (historyWrite f v s).clocks = s.clocks := by simp [historyWrite]

@[simp] theorem markWrite_clocks (v : Nat) (s : State) : (markWrite v s).clocks = s.clocks := by
  unfold markWrite
  split <;> simp

@[simp] theorem tstControl_clocks (l v : Nat) (s : State) : (tstControl l v s).clocks = s.clocks := by simp [tstControl]
@[simp] theorem cvuAliveCfg_clocks (c v : Nat) (f : Found) (s : State) : (cvuAliveCfg c v f s).clocks = s.clocks := by simp [cvuAliveCfg]
@[simp] theorem ackGroup_clocks (i v : Nat) (s : State) : (ackGroup i v s).clocks = s.clocks := by simp [ackGroup]
@[simp] theorem snagWrite_clocks (e v : Nat) (s : State) : (snagWrite e v s).clocks = s.clocks := by simp [snagWrite]
@[simp] theorem unitWrite_clocks (c v : Nat) (s : State) : (unitWrite c v s).clocks = s.clocks := by simp [unitWrite]

@[simp] theorem mailboxGo_clocks (s : State) : (mailboxGo s).clocks = s.clocks := by
  unfold mailboxGo
  split <;> simp

@[simp] theorem pipeWrite_clocks (f : Found) (v : Nat) (s : State) : (pipeWrite f v s).clocks = s.clocks := by
  unfold pipeWrite
  dsimp only
  repeat' split
  all_goals simp

/-! ### Tags and management requests -/

@[simp] theorem returnTag_clocks (a : Nat) (p : Path) (k : Option (List Byte × Nat)) (s : State) :
    (returnTag a p k s).2.clocks = s.clocks := by
  unfold returnTag
  split <;> simp

@[simp] theorem setDbg_clocks (a : Nat) (tag : List Byte) (s : State) : (setDbg a tag s).clocks = s.clocks := (rfl)

@[simp] theorem giveTag_clocks (x : Path × Nat × Option (List Byte × Nat)) (s : State) : (giveTag x s).clocks = s.clocks := by
  unfold giveTag
  dsimp only
  repeat' split
  all_goals simp

@[simp] theorem mgmtUndone_clocks (o : MgmtOp) (st : Nat) (s : State) : (mgmtUndone o st s).2.clocks = s.clocks := by
  unfold mgmtUndone
  split <;> simp

@[simp] theorem mgmtEntry_clocks (p : Path) (o : MgmtOp) (s : State) : (mgmtEntry p o s).2.2.clocks = s.clocks := by
  unfold mgmtEntry
  dsimp only
  split <;> simp

@[simp] theorem mgmtReply_clocks (q : MgmtReq) (s : State) : (mgmtReply q s).clocks = s.clocks := by
  unfold mgmtReply
  split <;> simp

@[simp] theorem setReq_clocks (p : Path) (q : Option MgmtReq) (s : State) : (setReq p q s).clocks = s.clocks := (rfl)

end Sys2Proof.Machine
end

section
/-! PROOF. What follows a command does not pass Chalk time; so Chalk time that wraps refutes O52, O54 and O59. -/

namespace Sys2Proof.Machine

/-! ### What follows a command -/

/-- Chalk time is `T`, or a whole nanosecond, as a load or a reset leaves it. -/
def State.TimeKept (T : Nat) (s : State) : Prop := s.chalk.time = T ∨ s.chalk.time % 2 ^ 32 = 0

section
variable {T : Nat} {s t : State}

theorem State.TimeKept.of_clocks (h : s.TimeKept T) (e : t.clocks = s.clocks) : t.TimeKept T := by
  have hc : t.chalk = s.chalk := congrArg Prod.fst e
  unfold TimeKept
  rw [hc]
  exact h

theorem State.TimeKept.when (h : s.TimeKept T) (c : Bool) {f : State → State} (hf : (f s).TimeKept T) : (s.when c f).TimeKept T := by
  cases c
  · exact h
  · exact hf

theorem timeKept_chalkStep (h : s.TimeKept T) : (chalkStep s).TimeKept T := by
  unfold chalkStep
  split
  · exact h.of_clocks (by simp)
  · have hl (n : Nat) : (chalkJump n s).2.TimeKept T := .inr (Nat.mul_mod_right ..)
    have hj := hl (2 ^ 32 * s.rd R.CHK_SET_HI + s.rd R.CHK_SET_LO)
    exact hj.when _ (hj.of_clocks (backwardStep_clocks _))

@[simp] theorem State.cold_clocks (s : State) (por : Bool) : (s.cold por).clocks = State.reset.clocks := by
  unfold State.cold
  cases por <;> rfl

theorem timeKept_of_reset (e : t.clocks = State.reset.clocks) : t.TimeKept T := State.TimeKept.of_clocks (.inr rfl) e

theorem timeKept_actReset (h : s.TimeKept T) : (actReset s).TimeKept T := by
  unfold actReset sysReset
  split
  · exact h
  · unfold startUp
    exact timeKept_of_reset (by simp)

theorem timeKept_standby (t : Nat) (s : State) : (standby t s).TimeKept T := by
  unfold standby
  dsimp only
  split
  all_goals exact timeKept_of_reset (by simp)

theorem timeKept_pwrRequest (h : s.TimeKept T) (t : Nat) (p : Path) : (pwrRequest t p s).TimeKept T := by
  have same {u : State} (e : u.clocks = s.clocks) : u.TimeKept T := h.of_clocks e
  unfold pwrRequest
  dsimp only
  split
  · split
    · exact h
    · split
      · split
        · exact same (by simp)
        · exact h
      · exact h
      · exact h
      · exact timeKept_standby ..
  · split
    · exact h
    · split
      · split
        · exact h
        · exact h
      · split
        · split
          · split
            · exact h
            · split
              · exact same (by simp)
              · exact h
          · exact h
        · split
          · exact h
          · split
            · exact h
            · split
              · exact same (by simp)
              · split
                · exact same (by simp)
                · exact timeKept_standby ..

theorem timeKept_bootWrite (h : s.TimeKept T) (v : Nat) : (bootWrite v s).TimeKept T := by
  have h1 : ((s.when (v.testBit 1) jnlForget).when (v.testBit 2) hostBoot).TimeKept T := h.of_clocks (by simp)
  exact h1.when _ (timeKept_actReset h1)

theorem timeKept_frontWrite (h : s.TimeKept T) (f : Found) (v : Nat) : (frontWrite f v s).TimeKept T := by
  have hp : (plainWrite f v s).TimeKept T := h.of_clocks (by simp)
  unfold frontWrite
  dsimp only
  split
  case h_8 => exact hp.when _ (timeKept_chalkStep hp)
  case h_9 => exact h
  all_goals exact h.of_clocks (by simp)

theorem timeKept_sysWrite (h : s.TimeKept T) (f : Found) (v : Nat) (p : Path) : (sysWrite f v p s).TimeKept T := by
  have hp : (s.wr R.THM_PWR_CTRL_TARGET (bits v 1 0)).TimeKept T := h
  unfold sysWrite
  dsimp only
  split
  case h_6 => exact hp.when _ (timeKept_pwrRequest hp ..)
  case h_7 => exact timeKept_bootWrite h v
  case h_5 => split <;> exact h.of_clocks (by simp)
  all_goals exact h.of_clocks (by simp)

theorem timeKept_regPut (h : s.TimeKept T) (f : Found) (v : Nat) (p : Path) : (regPut f v p s).TimeKept T := by
  unfold regPut
  split
  · exact h
  · split
    case h_1 | h_2 | h_3 | h_4 => exact timeKept_frontWrite h f v
    case h_11 | h_12 | h_13 | h_14 | h_15 => exact timeKept_sysWrite h f v p
    all_goals exact h.of_clocks (by simp)

theorem timeKept_regWrite (h : s.TimeKept T) (a v : Nat) (p : Path) : (regWrite a v p s).TimeKept T := by
  unfold regWrite
  dsimp only
  split
  · exact h
  · refine State.TimeKept.of_clocks (s := writeServe a (v % 2 ^ 32) p s) ?_ (by simp)
    unfold writeServe
    split
    · exact h.of_clocks (by simp)
    · exact h
    · exact h
    · split
      · exact h
      · exact timeKept_regPut h ..

theorem timeKept_mgmtServe (p : Path) : ∀ (ops : List MgmtOp) (failed : Bool) {s : State}, s.TimeKept T →
    (mgmtServe p ops failed s).2.2.2.TimeKept T
  | [], _, _, h => h
  | o :: ops, true, s, h => timeKept_mgmtServe p ops true (h.of_clocks (mgmtUndone_clocks o 0xFF s))
  | o :: ops, false, s, h => by
    unfold mgmtServe
    have h1 : (if o.op = 1 then regRead o.addr p s else regWrite o.addr o.data p s).TimeKept T := by
      split
      · exact h.of_clocks (by simp)
      · exact timeKept_regWrite h ..
    rw [if_neg (by nofun)]
    generalize (if o.op = 1 then regRead o.addr p s else regWrite o.addr o.data p s) = t at h1
    dsimp only
    split
    · exact h1
    · exact timeKept_mgmtServe p ops _ (h1.of_clocks (mgmtEntry_clocks p o _))

theorem timeKept_run (h : s.TimeKept T) (q : MgmtReq) : (q.run s).2.TimeKept T := by
  unfold MgmtReq.run
  dsimp only
  split
  · exact timeKept_mgmtServe _ _ _ (h.of_clocks (mgmtEntry_clocks q.path _ s))
  · exact timeKept_mgmtServe _ _ _ h

theorem timeKept_mgmtRun (p : Path) : ∀ (k : Nat) {s : State}, s.TimeKept T → (mgmtRun p k s).TimeKept T
  | 0, _, h => h
  | k + 1, s, h => by
    unfold mgmtRun
    split
    · exact h
    · next q _ =>
      split
      · exact h
      · dsimp only
        split
        · exact (timeKept_run h q).of_clocks (by simp)
        · exact timeKept_mgmtRun p k ((timeKept_run h q).of_clocks (by simp))

theorem timeKept_resume (h : s.TimeKept T) : (resume s).TimeKept T := by
  have h1 : (s.io.tags.foldl (fun t x => giveTag x t) s).TimeKept T := h.of_clocks (by simp)
  exact timeKept_mgmtRun .mge _ (timeKept_mgmtRun .fxt _ h1)

theorem timeKept_settleRounds : ∀ (k : Nat) {s : State}, s.TimeKept T → (settleRounds k s).TimeKept T
  | 0, _, h => h.of_clocks (settleEvents_clocks _)
  | k + 1, s, h => by
    have h1 : (settleEvents s).TimeKept T := h.of_clocks (settleEvents_clocks s)
    unfold settleRounds
    dsimp only
    split
    · exact timeKept_settleRounds k (timeKept_resume h1)
    · exact h1

/-- What follows a command leaves Chalk time, unless it loads it or resets the device. -/
theorem timeKept_settle (s : State) : (settle s).TimeKept s.chalk.time := timeKept_settleRounds 8 (.inl rfl)

end

/-! ### A command whose moment lies beyond the range of Chalk time (R93) -/

section
variable {f : State → State} {s t : State}

/-- A step that leaves the collector nothing to do, in a state whose Chalk time is no whole nanosecond, tells its own Chalk time. -/
theorem now_of_act_calm (ha : s.asleep = false) (hr : (f s).raised = []) (ht : (f s).ruleTaped = []) (he : (f s).tst = [])
    (hw : (f s).answered = false) (hf : (f s).chalk.time % 2 ^ 32 ≠ 0) (h : act f s = .next (settle t)) : t.now = (f s).now := by
  have hc : settle (f s) = f s := calmStateStays _ hr ht (by rw [he]; nofun) hw
  have hs : settle t = f s := (Host.Outcome.next.inj ((act_awake ha f).symm.trans h)).symm.trans hc
  have hk := timeKept_settle t
  rw [hs] at hk
  exact congrArg (· / 2 ^ 32) (hk.resolve_right hf).symm

end

/-- Chalk at 5 ns and a fraction. -/
def runningChalk : Chalk := { Chalk.init with run := true, time := 5 * 2 ^ 32 + 1 }

/-- A row whose deadline lies 2 ns past the range of Chalk time. -/
def wrappedRow : SeamRow := ⟨0, 0, 0, 2 ^ 64 + 2, none, [], none, none, false⟩

/-- Group 0 has one row open. -/
def rowOpen : State := { State.reset with chalk := runningChalk, seams := [(0, { Seam.init with rows := [wrappedRow] })] }

/-- Refutes O54 by the clause of the deadline, which asks that Chalk time does not go back: on a row whose deadline lies beyond
2^64 ns Chalk time wraps as it passes, from 5 ns to 2 ns. -/
theorem not_rowCommands : ¬ Obligations.RowCommands := by
  intro h
  have hawake : rowOpen.asleep = false := by decide +kernel
  obtain ⟨-, hdue, -⟩ := h rowOpen 0 hawake
  obtain ⟨t, _, hexec, -, -, -, hnow, -⟩ := hdue [] [] wrappedRow rfl rfl nofun nofun
  have hback : t.now = (seamDeadline 0 rowOpen).now :=
    now_of_act_calm hawake (by decide +kernel) (by decide +kernel) (by decide +kernel) (by decide +kernel) (by decide +kernel) hexec
  rw [hback] at hnow
  exact absurd hnow (by decide +kernel)

/-- Skim runs on group 0; trigger number 2^64, with which its next epoch is scheduled, comes at 2500 × 2^64 ns. -/
def skimRunning : State :=
  { State.reset with chalk := runningChalk, skimGs := [(0, { SkimGrp.init with r0 := some (2 ^ 64 - 65216) })] }

/-- Refutes O52 by the clause of the schedule instant, which asks that Chalk time does not go back: where the instant lies beyond
2^64 ns Chalk time wraps as it passes. -/
theorem not_skimCommands : ¬ Obligations.SkimCommands := by
  intro h
  have hawake : skimRunning.asleep = false := by decide +kernel
  obtain ⟨-, -, -, -, -, -, hdue, -⟩ := h skimRunning hawake
  obtain ⟨t, hexec, -, -, -, -, hnow⟩ := hdue 0 (by decide +kernel) (by decide +kernel)
  have hback : t.now = (skimSchedule 0 skimRunning).now :=
    now_of_act_calm hawake (by decide +kernel) (by decide +kernel) (by decide +kernel) (by decide +kernel) (by decide +kernel) hexec
  rw [hback] at hnow
  exact absurd hnow (by decide +kernel)

/-- A frame whose deadline lies beyond the range of Chalk time; it takes 4 ns on the wire. -/
def lateFrame : Frame := ⟨⟨0, false, 0, 0, 0, [], [], 0, 0, [], [], 0⟩, 1, [], [], some (2 ^ 64 + 404), 0⟩

/-- Sub-port 0 is up at 200 Gbit/s, and the frame waits in its class 0. -/
def frameWaits : State :=
  { State.reset with chalk := runningChalk, ucls := [(0, { UClass.init with queue := [lateFrame] })] }.wr (R.UPL_SP_STAT_RATE 0) 8

/-- Refutes O59 by the clause of a head that can no longer meet its deadline, which asks that Chalk time does not go back: where that
moment lies beyond 2^64 ns Chalk time wraps as it passes. -/
theorem not_frameCommands : ¬ Obligations.FrameCommands := by
  intro h
  have hawake : frameWaits.asleep = false := by decide +kernel
  obtain ⟨-, -, -, -, -, hdue, -⟩ := h frameWaits 0 0 hawake
  obtain ⟨t, hexec, -, hnow, -⟩ := hdue lateFrame [] (2 ^ 64 + 404) rfl rfl (by decide +kernel) rfl
  have hback : t.now = (deadlineDrop 0 0 frameWaits).now :=
    now_of_act_calm hawake (by decide +kernel) (by decide +kernel) (by decide +kernel) (by decide +kernel) (by decide +kernel) hexec
  rw [hback] at hnow
  exact absurd hnow (by decide +kernel)

end Sys2Proof.Machine
end

section
/-! PROOF. Sensors, shedding, supplies, clocks and ALIVE (O35). -/

namespace Sys2Proof.Machine

section
variable {s : State}

theorem State.therm_of_clocks {t : State} (h : t.clocks = s.clocks) : t.therm = s.therm := congrArg Prod.snd h

/-! ### Sensors and shedding (R469, R470) -/

@[simp] theorem judge_clocks (e : Nat) (present : Bool) (s : State) : (judge e present s).clocks = s.clocks := by
  unfold judge
  split
  · split <;> simp
  · simp [State.fall]

@[simp] theorem showThermal_clocks (s : State) : (showThermal s).clocks = s.clocks := by
  unfold showThermal
  cases s.therm.hot <;> simp

/-- The sensors have left `rs`. -/
def sensed (rs : List (Option Nat)) (s : State) : State := s.forAll (List.range 16) (fun i t => showTemp i ((rs[i]?).getD none) t)

theorem sensed_clocks (rs : List (Option Nat)) : (sensed rs s).clocks = s.clocks := by
  refine State.forAll_clocks (fun i t => ?_) _ _
  unfold showTemp
  split <;> simp

theorem sensed_stage (rs : List (Option Nat)) : (sensed rs s).stage = s.stage := by
  refine State.forAll_induct (P := fun t : State => t.stage = s.stage) (fun i t h => ?_) _ _ rfl
  unfold showTemp
  split
  · exact ((State.rd_wr_blk _ _ (by intro hb; cases hb)).trans (State.rd_wr_blk _ _ (by intro hb; cases hb))).trans h
  · exact (State.rd_wr_blk _ _ (by intro hb; cases hb)).trans h

theorem shedStep_hot : (shedStep s).therm.hot = s.therm.hot := by
  unfold shedStep
  split
  · rfl
  · next n _ =>
    have h1 : (if (s.snag 1504).live = true then s else collect 1504 s.now [] s).clocks = s.clocks := by
      split
      · rfl
      · exact collect_clocks ..
    generalize (if (s.snag 1504).live = true then s else collect 1504 s.now [] s) = s1 at h1
    have h2 : ((s1.chan n).foldl (fun t l => tstEnded l 1 t) s1).therm.hot = s.therm.hot :=
      congrArg Thermal.hot (State.therm_of_clocks ((State.foldl_clocks (fun t l => tstEnded_clocks l 1 t) _ _).trans h1))
    dsimp only
    split
    · exact h2
    · exact (congrArg Thermal.hot (State.therm_of_clocks (tapedNow_clocks ..))).trans h2

/-- The readings `rs` have been taken in. -/
def sampled (rs : List (Option Nat)) (s : State) : State := { sensed rs s with therm := { (sensed rs s).therm with hot := hottest rs } }

theorem sampled_therm (rs : List (Option Nat)) : (sampled rs s).therm = { s.therm with hot := hottest rs } := by
  rw [sampled, State.therm_of_clocks (sensed_clocks rs)]

theorem sampled_stage (rs : List (Option Nat)) : (sampled rs s).stage = s.stage := sensed_stage rs

/-- The sensor conditions have been judged. -/
def sensorsJudged (rs : List (Option Nat)) (s : State) : State :=
  judge 1506 (rs.any (fun r => !r.any tempValid)) (judge 1505 ((hottest rs).all (fun x => decide (2400 ≤ x))) s)

theorem sensorsJudged_therm (rs : List (Option Nat)) : (sensorsJudged rs s).therm = s.therm :=
  State.therm_of_clocks ((judge_clocks ..).trans (judge_clocks ..))

theorem showThermal_therm (s : State) : (showThermal s).therm = s.therm := State.therm_of_clocks (showThermal_clocks s)

/-- What shedding makes of the hottest temperature (R469, R470). -/
def shedJudged (hot : Option Int) (s : State) : State :=
  match hot with
  | none => s
  | some x =>
    if x < 2080 then { s with therm := { s.therm with active := false } }
    else
      let t := { s with therm := { s.therm with returning := false } }
      if 2160 ≤ x ∧ !t.therm.active then shedStep { t with therm := { t.therm with active := true } } else t

theorem shedJudged_hot (hot : Option Int) : (shedJudged hot s).therm.hot = s.therm.hot := by
  unfold shedJudged
  split
  · rfl
  · split
    · rfl
    · dsimp only
      split
      · exact shedStep_hot
      · rfl

section
variable (readings : List (Option Nat))

/-- The readings of the 16 sensors; a missing one is none. -/
def sensorReadings : List (Option Nat) := (List.range 16).map (fun i => (readings[i]?).getD none)

theorem thermalSample_waits (h : s.stage < 3 ∨ 6 ≤ s.stage) :
    thermalSample readings s = showThermal (sampled (sensorReadings readings) s) := if_pos (by rwa [← sampled_stage] at h)

theorem thermalSample_judges (h3 : 3 ≤ s.stage) (h6 : s.stage < 6) :
    thermalSample readings s = showThermal (shedJudged (hottest (sensorReadings readings))
      (sensorsJudged (sensorReadings readings) (sampled (sensorReadings readings) s))) :=
  if_neg (by rw [← sampled_stage (sensorReadings readings)] at h3 h6; exact not_or.mpr ⟨Nat.not_lt.mpr h3, Nat.not_le.mpr h6⟩)

theorem thermalSample_hot : (thermalSample readings s).therm.hot = hottest (sensorReadings readings) := by
  by_cases h : 3 ≤ s.stage ∧ s.stage < 6
  · rw [thermalSample_judges readings h.1 h.2, showThermal_therm, shedJudged_hot, sensorsJudged_therm, sampled_therm]
  · rw [thermalSample_waits readings (by omega), showThermal_therm, sampled_therm]

theorem thermalSample_cool (h3 : 3 ≤ s.stage) (h6 : s.stage < 6) {x : Int} (hx : hottest (sensorReadings readings) = some x)
    (hc : x < 2080) : (thermalSample readings s).therm = { s.therm with hot := some x, active := false } := by
  have hj (u : State) : shedJudged (some x) u = { u with therm := { u.therm with active := false } } := if_pos hc
  rw [thermalSample_judges readings h3 h6, hx, showThermal_therm, hj]
  dsimp only
  rw [sensorsJudged_therm, sampled_therm, hx]

end

theorem shedHold_cool {x : Int} {n : Nat} (ha : s.therm.active = false) (hr : s.therm.returning = false) (hn : n ∈ s.therm.shed)
    (hx : s.therm.hot = some x) :
    shedHold s = if x < 2080 then showThermal (shedReturn { s with therm := { s.therm with returning := true } }) else s := by
  have hs : s.therm.shed.isEmpty = false := List.isEmpty_eq_false_iff.mpr (List.ne_nil_of_mem hn)
  unfold shedHold
  rw [ha, hr, hs, hx]
  simp

/-! ### Trip, supplies and clocks (R471, R575, R579) -/

/-- An entry of the journal concerns neither balls, fuses and counters nor the error lines. -/
theorem jnlInfo_effects (step outcome unit cause param : Nat) (s : State) :
    (jnlInfo step outcome unit cause param s).pins = s.pins ∧ (jnlInfo step outcome unit cause param s).fuses = s.fuses ∧
    (jnlInfo step outcome unit cause param s).cnt = s.cnt ∧ (jnlInfo step outcome unit cause param s).raised = s.raised := by
  have hr := (jnlAppend_journalled s (s.jnlRecord step outcome unit 0 0 cause param) s.jnlEntries).rest
  refine ⟨?_, ?_, ?_, rfl⟩
  all_goals
    unfold jnlInfo
    rw [hr]

theorem thermtrip_effects (h : s.pins.tripped = false) :
    (thermtrip s).pins.tripped = true ∧ (thermtrip s).pins.railEn = false ∧ (thermtrip s).raised = s.raised ∧
    (thermtrip s).fuses = s.fuses := by
  have e : thermtrip s = jnlInfo 0x31 5 0xFFFF 0 0 { s with pins := { s.pins with tripped := true, railEn := false } } :=
    if_neg (by rw [h]; nofun)
  obtain ⟨hp, hf, -, hr⟩ := jnlInfo_effects 0x31 5 0xFFFF 0 0 { s with pins := { s.pins with tripped := true, railEn := false } }
  rw [e, hp]
  exact ⟨rfl, rfl, hr, hf⟩

theorem supplyMonitor_out (hp : s.rd R.THM_PWR_STAT_STATE < 2) (hl : (s.snag 1512).live = false) (he : s.boot.early = []) :
    supplyMonitor true s = s.raise 1512 := by
  unfold supplyMonitor judge
  rw [if_neg (by omega), hl, he]
  rfl

theorem supplyMonitor_in (hp : s.rd R.THM_PWR_STAT_STATE < 2) :
    ((supplyMonitor false s).snag 1512).live = false ∧ ((supplyMonitor false s).snag 1512).latched = (s.snag 1512).latched ∧
    (supplyMonitor false s).raised = s.raised := by
  have e : supplyMonitor false s = judge 1512 false s := if_neg (by omega)
  have hs : (judge 1512 false s).snag 1512 = { s.snag 1512 with live := false, inWindow := false } := State.snag_set_same ..
  rw [e, hs]
  exact ⟨rfl, rfl, rfl⟩

/-! ### ALIVE (R466, R468) -/

theorem aliveToggle_eq : aliveToggle s = if s.pins.runs = true ∧ s.aliveStopped = false then
    { s with pins := { s.pins with alive := !s.pins.alive } } else s := by
  unfold aliveToggle
  simp

theorem heartbeatLoss_effects (hr : s.pins.runs = true) (hh : s.pins.hbLost = false) :
    (heartbeatLoss s).pins.hbLost = true ∧ (heartbeatLoss s).aliveStopped = true ∧ (heartbeatLoss s).pins.alive = s.pins.alive ∧
    (heartbeatLoss s).cnt = s.cnt ∧ (heartbeatLoss s).raised = s.raised := by
  have e : heartbeatLoss s = jnlInfo 0x30 5 0xFFFF (1520 % 256) 1520 { s with pins := { s.pins with hbLost := true } } :=
    if_neg (by rw [hr, hh]; nofun)
  obtain ⟨hp, -, hc, hraised⟩ := jnlInfo_effects 0x30 5 0xFFFF (1520 % 256) 1520 { s with pins := { s.pins with hbLost := true } }
  rw [← e] at hp hc hraised
  refine ⟨by rw [hp], by simp [State.aliveStopped, hp], by rw [hp], hc, hraised⟩

end

/-- Settles O35: each command is followed through its branches; shedding a port leaves the hottest temperature, as nothing that the
collector does touches the thermal state. -/
theorem thermalSupplyAliveCommands : Obligations.ThermalSupplyAliveCommands := by
  refine ⟨fun s => ⟨fun readings x ha h3 h6 hx hc => ⟨_, act_awake ha _, ?cool⟩, fun readings ha => ⟨_, act_awake ha _, thermalSample_hot _⟩,
    fun ha hact hret => act_of_eq ha (?steady), fun ha hact => act_of_eq ha (?sheds), fun ha hact hret => act_of_eq ha (?returns),
    fun x n ha hact hret hn hx => act_of_eq ha (shedHold_cool hact hret hn hx),
    fun hoff hlow ht => ⟨_, actAon_acts hoff hlow _, thermtrip_effects ht⟩, fun hoff hlow ht => ?tripped,
    fun ha hp hl he => act_of_eq ha (supplyMonitor_out hp hl he), fun ha hp => ⟨_, act_awake ha _, supplyMonitor_in hp⟩,
    fun ha => act_of_eq ha rfl, fun ha => act_of_eq ha rfl⟩,
    fun s ha => ⟨act_of_eq ha aliveToggle_eq, fun hd => act_of_eq ha (?faulted),
      fun hr hh => ⟨_, act_awake ha _, heartbeatLoss_effects hr hh⟩, fun h => act_of_eq ha (?silent)⟩⟩
  case cool =>
    rw [thermalSample_cool _ h3 h6 hx hc]
    exact ⟨rfl, rfl, rfl⟩
  case steady => rw [shedTimer, hact, hret]; rfl
  case sheds => rw [shedTimer, hact]; rfl
  case returns => rw [shedTimer, hact, hret]; rfl
  case tripped =>
    have e : thermtrip s = s := if_pos ht
    exact (actAon_acts hoff hlow thermtrip).trans (by rw [e])
  case faulted => rw [aliveToggle_eq, if_neg (by simp [State.aliveStopped, hd])]
  case silent => rcases h with h | h <;> simp [heartbeatLoss, h]

end Sys2Proof.Machine
end
